-- ==== Sys2Proof/Word.lean ====
section
/-! DEFINITION. The word types of the KQ6400 and their plainest arithmetic. A register is a 32-bit word (scope file, "Registers"); frames, keys and records are octet strings. -/

namespace Sys2Proof

/-- One octet of a frame, a key or a record. -/
abbrev Octet := BitVec 8

/-- A register word: 32 bits, bit 0 the least significant (scope file, "Registers"). -/
abbrev Word := BitVec 32

/-- A string of octets, first octet first. -/
abbrev Octets := List Octet

end Sys2Proof
end

