-- ==== Sys2Proof/Syntax.lean ====
section
/-!
DEFINITION. Syntax.lean: the commands of the block, one constructor per row of spec/opcode_table.json, in its order.
The table gives no operand fields, so the operands are the ones the cited rule needs: the port that accesses a
register and the word it writes, the unit (line port, pair, lane, module slot) an event belongs to, and what only the
outside world knows about the event (the octets of a frame, the result of a self-test, what a module answered).
-/
namespace Sys2Proof

/-- A management port, MP0 or MP1 (R386). -/
abbrev Port := Fin 2
/-- A region, 0 to 3 (R13). -/
abbrev Region := Fin 4

/-- Direction of a walk: egress (R22) or ingress (R25). -/
inductive Dir where
  | eg | ig
  deriving DecidableEq, Repr

/-- The world whose block a Chisel access uses (R189): CHS is the Operator's, CLC the Officer's. -/
inductive World where
  | operator | officer
  deriving DecidableEq, Repr

/-- What a read of flash or of host memory returns: an error, or the octets. -/
inductive FlashRead where
  | error
  | octets (data : List Octet)
  deriving DecidableEq, Repr

/-- One failed RNG health test (R213): adaptive proportion or repetition count, on a channel. -/
structure HealthFail where
  adaptive : Bool
  chan : Fin 8
  deriving DecidableEq, Repr

/-- What training or retraining an LPDDR5X channel finds (R455): converged or not, and mode registers 5, 6 and 8. -/
structure ChanId where
  ok : Bool
  mr5 : BitVec 8
  mr6 : BitVec 8
  mr8 : BitVec 8
  deriving DecidableEq, Repr

/-- Causes of a pair fault (R86, R89). -/
inductive PairCause where
  | keystream | tagMask | ghash
  deriving DecidableEq, Repr

/-- A punt descriptor as read from host memory (R288). -/
structure Desc where
  addr : Nat
  len64 : Nat
  deriving DecidableEq, Repr

/-- What the deep buffer returned for one read of a line: 64 octets and the 8 octets of its tag. -/
structure RawLine where
  data : List Octet
  tag : List Octet
  deriving DecidableEq, Repr

/-- Owners of an uncorrectable SRAM word (the rows of R343). -/
inductive SramOwner where
  | duplicated                        -- other copy correct
  | queueState (r : Region)
  | saEntry (sa : Fin 16384)          -- both copies; SA key numbering (R73, R101)
  | slot (s : Fin 256)
  | saKey (sa : Fin 16384)
  | gaugeEntry (i : Fin 1024)
  | shadowBoth
  | shadowed
  | cellPayload (r : Region)
  | reorderEntry (r : Region)
  | counter (off : Nat)               -- BAR0 offset of the counter's low word
  | chip
  deriving DecidableEq, Repr

/-- How a row BIST ends (R343, R350). -/
inductive RowResult where
  | kept | spared | noSpareCells (cells : Nat) | noSpare
  deriving DecidableEq, Repr

/-- The two feeds of a rail group (R351). -/
inductive Feed where
  | a | b
  deriving DecidableEq, Repr

/-- A supply that Clamp watches (R365). -/
inductive Supply where
  | feed (g : Fin 7) (f : Feed)
  | vbat
  deriving DecidableEq, Repr

/-- Which detector trips (R365): the comparator, or the delay line with the width it measured in ns. -/
inductive Detector where
  | comparator
  | delayLine (widthNs : Nat)
  deriving DecidableEq, Repr

/-- Link states of ICU_PORTp.LINK (R408). -/
inductive LinkState where
  | down | l0 | l1 | l2l3
  deriving DecidableEq, Repr

/-- Who reads a semaphore: one port, or both in the same CCLK cycle (R398). -/
inductive SemReader where
  | one (p : Port)
  | both
  deriving DecidableEq, Repr

/-- The commands of the block. -/
inductive Instr where
  /-- POWER_GOOD (R59). -/
  | powerGood (feedsA feedsB : Nat) (backupKept resetLow : Bool)
  /-- CORE_RAIL_LOSS (R460). -/
  | coreRailLoss
  /-- RAIL_GROUP_LOSS (R460). -/
  | railGroupLoss (g : Fin 7)
  /-- RESET_N_ASSERT (R463). -/
  | resetNAssert
  /-- CRYSTAL_STABLE (R60). -/
  | crystalStable
  /-- FUSE_SENSE (R60). -/
  | fuseSense (err : Bool)
  /-- ROM_SELFTEST (R60). -/
  | romSelftest (romOk chiselOk pkeOk : Bool)
  /-- RNG_STARTUP_TEST_COMPLETE (R220). -/
  | rngStartupTestComplete (fail : Option HealthFail)
  /-- SRAM_BIST_COMPLETE (R60). -/
  | sramBistComplete
  /-- IMAGE_SELECT (R427). -/
  | imageSelect (a b : FlashRead)
  /-- IMAGE_APPLY (R428). -/
  | imageApply
  /-- KEY_RECORD_UNWRAP (R424). -/
  | keyRecordUnwrap
  /-- LPDDR5X_TRAINING_COMPLETE (R297). -/
  | lpddr5xTrainingComplete (pages : Nat) (chans : List ChanId)
  /-- ATTESTATION_MEASURE_COMPLETE (R60). -/
  | attestationMeasureComplete
  /-- BOOT_COMPLETE (R45). -/
  | bootComplete
  /-- AUTO_MODE_REQUEST (R429). -/
  | autoModeRequest
  /-- MODE_REQ_STANDBY (R43). -/
  | modeReqStandby (p : Port)
  /-- MODE_REQ_SECURE (R43). -/
  | modeReqSecure (p : Port)
  /-- MODE_REQ_GUARDED (R43). -/
  | modeReqGuarded (p : Port)
  /-- OVERLAY_COMPLETE (R46). -/
  | overlayComplete
  /-- DEGRADED_CLEAR_TIMER (R45). -/
  | degradedClearTimer
  /-- OFC_LOCKDOWN (R393). -/
  | ofcLockdown (p : Port)
  /-- DBG_ENTER (R456). -/
  | dbgEnter (who : Option Port)
  /-- OFC_RESET_WARM (R55). -/
  | ofcResetWarm (p : Port)
  /-- OFC_RESET_WARM_AT_ARM (R55). -/
  | ofcResetWarmAtArm (p : Port)
  /-- OFC_RESET_WARM_AT_DISARM (R55). -/
  | ofcResetWarmAtDisarm (p : Port)
  /-- WARM_AT_TIME_REACHED (R55). -/
  | warmAtTimeReached
  /-- ADV_FACTORY (R49). -/
  | advFactory (root : List Octet)
  /-- ADV_PROVISIONED (R49). -/
  | advProvisioned (p : Port) (certHash : List Octet)
  /-- TAKE_OWNERSHIP (R49). -/
  | takeOwnership (p : Port)
  /-- RELEASE_OWNERSHIP (R49). -/
  | releaseOwnership (p : Port)
  /-- SCRAP (R49). -/
  | scrap (who : Option Port)
  /-- RAISE_MIN_SVN (R53). -/
  | raiseMinSvn (p : Port)
  /-- LIFECYCLE_CHANGE_COMPLETE (R50). -/
  | lifecycleChangeComplete
  /-- OFC_TX_RESUME_LO (R58). -/
  | ofcTxResumeLo (p : Port) (v : Word)
  /-- OFC_TX_RESUME_HI (R58). -/
  | ofcTxResumeHi (p : Port) (v : Word)
  /-- TX_RESUME_UPDATE (R56). -/
  | txResumeUpdate
  /-- HOST_FRAME_RECEIVE (R316). -/
  | hostFrameReceive (hp : Fin 32) (octets : List Octet) (badCode : Bool) (back : Nat)
  /-- ADMISSION (R255). -/
  | admission (r : Region)
  /-- DEEP_WRITE_COMPLETE (R255). -/
  | deepWriteComplete (r : Region)
  /-- PFC_REFRESH (R261). -/
  | pfcRefresh (hp : Fin 32)
  /-- DEQUEUE_DECISION (R247). -/
  | dequeueDecision (lp : Fin 16)
  /-- TX_HOLD_TIMEOUT (R239). -/
  | txHoldTimeout (sc : Fin 4096)
  /-- DEEP_READ_BACK (R256). -/
  | deepReadBack (q : Fin 8192)
  /-- DISPATCH (R85). -/
  | dispatch (r : Region) (d : Dir)
  /-- PAIR_FRAME_COMPLETE (R86). -/
  | pairFrameComplete (r : Region) (d : Dir) (k : Fin 9)
  /-- PAIR_FAULT (R86). -/
  | pairFault (r : Region) (d : Dir) (k : Fin 9) (cause : PairCause)
  /-- PAIR_KAT_COMPLETE (R88). -/
  | pairKatComplete (r : Region) (d : Dir) (k : Fin 9) (pass : Bool)
  /-- SPARE_KAT (R88). -/
  | spareKat (r : Region) (d : Dir) (pass : Bool)
  /-- LAUNCH_HOLD_EXPIRE (R149). -/
  | launchHoldExpire (lp : Fin 16) (cq : Fin 4)
  /-- LAUNCH_SLOT_DEADLINE (R151). -/
  | launchSlotDeadline (lp : Fin 16)
  /-- LINE_FRAME_TRANSMIT (R131). -/
  | lineFrameTransmit (lp : Fin 16)
  /-- LINE_FRAME_RECEIVE (R25). -/
  | lineFrameReceive (lp : Fin 16) (octets : List Octet) (badCode : Bool) (back : Nat)
  /-- REPLAY_PRECHECK (R108). -/
  | replayPrecheck (r : Region)
  /-- HOST_PORT_TRANSMIT (R154). -/
  | hostPortTransmit (hp : Fin 32)
  /-- REGISTER_WRITE (R4). -/
  | registerWrite (p : Port) (fn : Fin 2) (bar2 : Bool) (off : Nat) (v : Word) (be : BitVec 4)
  /-- HELD_WORD_WRITE (R451). -/
  | heldWordWrite (p : Port) (bar2 : Bool) (off : Nat) (v : Word)
  /-- CLS_RULE_COMMIT (R66). -/
  | clsRuleCommit (p : Port) (d : Dir) (i : Fin 8192) (v : Word)
  /-- WIDE_LOW_READ (R6). -/
  | wideLowRead (p : Port) (fn : Fin 2) (bar2 : Bool) (off : Nat)
  /-- RC_READ (R4). -/
  | rcRead (p : Port) (fn : Fin 2) (bar2 : Bool) (off : Nat)
  /-- SC_VALID_SET (R72). -/
  | scValidSet (p : Port) (sc : Fin 4096) (v : Word)
  /-- SC_VALID_CLEAR (R72). -/
  | scValidClear (p : Port) (sc : Fin 4096) (v : Word)
  /-- RX_SC_VALID_SET (R99). -/
  | rxScValidSet (p : Port) (sc : Fin 4096) (v : Word)
  /-- RX_SC_VALID_CLEAR (R99). -/
  | rxScValidClear (p : Port) (sc : Fin 4096) (v : Word)
  /-- TXSA_SWITCH (R79). -/
  | txsaSwitch (p : Port) (sc : Fin 4096)
  /-- TXSA_GROUP_SWITCH (R79). -/
  | txsaGroupSwitch (p : Port) (g : Fin 256)
  /-- RXSA_ACTIVATE (R105). -/
  | rxsaActivate (p : Port) (sc : Fin 4096)
  /-- RXSA_GROUP_ACTIVATE (R105). -/
  | rxsaGroupActivate (p : Port) (g : Fin 256)
  /-- RXSA_RETIRE (R105). -/
  | rxsaRetire (p : Port) (sc : Fin 4096)
  /-- RXSA_GROUP_RETIRE (R105). -/
  | rxsaGroupRetire (p : Port) (g : Fin 256)
  /-- RETIRE_AT_REACHED (R104). -/
  | retireAtReached (sa : Fin 8192)
  /-- TIM_INCR_LO (R120). -/
  | timIncrLo (p : Port) (v : Word)
  /-- TIM_INCR_HI (R120). -/
  | timIncrHi (p : Port) (v : Word)
  /-- TIM_SLEW (R121). -/
  | timSlew (p : Port) (v : Word)
  /-- SLEW_COMPLETE (R121). -/
  | slewComplete
  /-- TIME_STEP_SET (R123). -/
  | timeStepSet (p : Port)
  /-- TIME_STEP_FORWARD (R123). -/
  | timeStepForward (p : Port)
  /-- TIME_STEP_BACKWARD (R123). -/
  | timeStepBackward (p : Port)
  /-- TIM_KEEP (R124). -/
  | timKeep (p : Port) (v : Word)
  /-- PPS_EDGE (R125). -/
  | ppsEdge
  /-- TREF_MEASURE (R125). -/
  | trefMeasure (tclk : Nat)
  /-- HOLDOVER_ENTER (R127). -/
  | holdoverEnter
  /-- HOLDOVER_ERR_LIMIT (R129). -/
  | holdoverErrLimit
  /-- RTC_ALIGN (R126). -/
  | rtcAlign
  /-- LREFCLK_FAIL (R130). -/
  | lrefclkFail
  /-- TIME_COPY_DISAGREE (R344). -/
  | timeCopyDisagree (c0 c1 c2 : Nat)
  /-- TIM_TXQ_READ (R135). -/
  | timTxqRead (p : Port) (fn : Fin 2) (lp : Fin 16)
  /-- GAUGE_ARM (R140). -/
  | gaugeArm (p : Port) (i : Fin 1024) (v : Word)
  /-- GAUGE_DISARM (R140). -/
  | gaugeDisarm (p : Port) (i : Fin 1024) (v : Word)
  /-- GAUGE_NONE (R141). -/
  | gaugeNone (i : Fin 1024)
  /-- PULSE_OUT (R138). -/
  | pulseOut (i : Fin 1024)
  /-- PULSE_WIDTH_END (R138). -/
  | pulseWidthEnd (pin : Fin 4)
  /-- MODE_OVERLAY (R141). -/
  | modeOverlay (i : Fin 1024)
  /-- SA_SWITCH_TX_SC (R141). -/
  | saSwitchTxSc (i : Fin 1024)
  /-- SA_SWITCH_TX_GROUP (R141). -/
  | saSwitchTxGroup (i : Fin 1024)
  /-- SA_SWITCH_RX_SC (R141). -/
  | saSwitchRxSc (i : Fin 1024)
  /-- SA_SWITCH_RX_GROUP (R141). -/
  | saSwitchRxGroup (i : Fin 1024)
  /-- KEY_DERIVE (R232). -/
  | keyDerive (i : Fin 1024)
  /-- SHAPER_EPOCH_ADOPT (R254). -/
  | shaperEpochAdopt (i : Fin 1024)
  /-- SHAPER_EPOCH_FULL (R254). -/
  | shaperEpochFull (i : Fin 1024)
  /-- SHAPER_EPOCH_ZERO (R254). -/
  | shaperEpochZero (i : Fin 1024)
  /-- CARRIER_START (R267). -/
  | carrierStart (i : Fin 1024)
  /-- COUNTER_SNAPSHOT (R439). -/
  | counterSnapshot (i : Fin 1024)
  /-- LAUNCH_WINDOW (R153). -/
  | launchWindow (i : Fin 1024)
  /-- LAUNCH_WINDOW_END (R153). -/
  | launchWindowEnd (lp : Fin 16)
  /-- GAUGE_INTERRUPT (R141). -/
  | gaugeInterrupt (i : Fin 1024)
  /-- GAU_RING_HEAD_READ (R145). -/
  | gauRingHeadRead (p : Port)
  /-- KST_GENERATE (R170). -/
  | kstGenerate (p : Port) (slot : Fin 256) (k256 replace : Bool)
  /-- KST_INVALIDATE (R173). -/
  | kstInvalidate (p : Port) (slot : Fin 256)
  /-- KST_ERASE (R174). -/
  | kstErase (p : Port) (slot : Fin 256)
  /-- KST_ERASE_SA (R170). -/
  | kstEraseSa (p : Port) (sa : Fin 16384)
  /-- KST_PERSIST (R179). -/
  | kstPersist (p : Port) (slot : Fin 256)
  /-- KST_UNPERSIST (R179). -/
  | kstUnpersist (p : Port) (slot : Fin 256)
  /-- KST_COMMAND_START (R172). -/
  | kstCommandStart
  /-- KST_ZEROISE_COMPLETE (R176). -/
  | kstZeroiseComplete (p : Port)
  /-- OFC_BOOT_GO (R182). -/
  | ofcBootGo (p : Port) (v : Word)
  /-- ATT_GO (R184). -/
  | attGo (p : Port)
  /-- ATT_REPORT_COMPLETE (R185). -/
  | attReportComplete (p : Port) (cert : FlashRead)
  /-- ENC (R195). -/
  | enc (p : Port) (w : World) (v : Word)
  /-- DEC (R195). -/
  | dec (p : Port) (w : World) (v : Word)
  /-- CMAC (R204). -/
  | cmac (p : Port) (w : World) (v : Word)
  /-- WRAP (R195). -/
  | wrap (p : Port) (w : World) (v : Word)
  /-- EXPORT (R196). -/
  | exportKey (p : Port) (w : World) (v : Word)
  /-- UNWRAP_SLOT (R198). -/
  | unwrapSlot (p : Port) (w : World) (v : Word)
  /-- UNWRAP_SA (R198). -/
  | unwrapSa (p : Port) (w : World) (v : Word)
  /-- DERIVE_SLOT (R197). -/
  | deriveSlot (p : Port) (w : World) (v : Word)
  /-- DERIVE_SA (R197). -/
  | deriveSa (p : Port) (w : World) (v : Word)
  /-- CHS_ERASE_SA (R195). -/
  | chsEraseSa (p : Port) (w : World) (v : Word)
  /-- SUSPEND (R205). -/
  | suspend (p : Port) (w : World) (v : Word)
  /-- RESTORE (R207). -/
  | restore (p : Port) (w : World) (v : Word)
  /-- ABORT (R195). -/
  | abort (p : Port) (w : World) (v : Word)
  /-- CHISEL_GRANT (R203). -/
  | chiselGrant
  /-- CHISEL_COMMAND_COMPLETE (R200). -/
  | chiselCommandComplete
  /-- CHISEL_FAULT (R201). -/
  | chiselFault
  /-- CHISEL_KAT_COMPLETE (R202). -/
  | chiselKatComplete (pass : Bool)
  /-- CHS_DOUT_READ (R208). -/
  | chsDoutRead (p : Port) (w : World) (i : Fin 66)
  /-- PKE_SIGN_COMPLETE (R210). -/
  | pkeSignComplete
  /-- PKE_VERIFY_COMPLETE (R210). -/
  | pkeVerifyComplete
  /-- PKE_FAULT (R210). -/
  | pkeFault
  /-- PKE_KAT_COMPLETE (R210). -/
  | pkeKatComplete (pass : Bool)
  /-- RESEED (R217). -/
  | reseed (p : Port)
  /-- REINST (R217). -/
  | reinst (p : Port)
  /-- DRBG_RESEED_TIMER (R215). -/
  | drbgReseedTimer
  /-- RNG_HEALTH_FAIL (R221). -/
  | rngHealthFail (f : HealthFail)
  /-- RNG_RERUN_COMPLETE (R222). -/
  | rngRerunComplete (fail : Option HealthFail)
  /-- RNG_REQUEST (R219). -/
  | rngRequest (p : Port) (len : Nat)
  /-- RNG_REQUEST_SERVED (R216). -/
  | rngRequestServed (p : Port)
  /-- RNG_OUT_READ (R219). -/
  | rngOutRead (p : Port) (i : Fin 64)
  /-- SCHEDULE_VALID_SET (R230). -/
  | scheduleValidSet (p : Port) (j : Fin 256) (v : Word)
  /-- SCHEDULE_VALID_CLEAR (R230). -/
  | scheduleValidClear (p : Port) (j : Fin 256) (v : Word)
  /-- SCHEDULE_FIRST_PASS (R230). -/
  | scheduleFirstPass (j : Fin 256)
  /-- RESYNC (R237). -/
  | resync (p : Port) (j : Fin 256)
  /-- AUTOKEY_SA_DERIVE (R233). -/
  | autokeySaDerive (r : Region) (fault : Bool)
  /-- AUTOKEY_PASS_COMPLETE (R232). -/
  | autokeyPassComplete (j : Fin 256)
  /-- EPOCH_INSTALL_INSTANT (R235). -/
  | epochInstallInstant (d : Dir) (sc : Fin 4096)
  /-- EPOCH_SWITCH_INSTANT (R235). -/
  | epochSwitchInstant (sc : Fin 4096)
  /-- SHAPER_WRITE (R253). -/
  | shaperWrite (p : Port) (q : Fin 8224) (v : Word)
  /-- SHAPER_STAGE (R253). -/
  | shaperStage (p : Port) (q : Fin 8224) (v : Word)
  /-- CARRIER_PACK (R270). -/
  | carrierPack (lp : Fin 16)
  /-- CARRIER_SLOT (R267). -/
  | carrierSlot (lp : Fin 16)
  /-- CARRIER_SLOT_LATE (R268). -/
  | carrierSlotLate (lp : Fin 16)
  /-- CARRIER_STOP (R267). -/
  | carrierStop (p : Port) (lp : Fin 16)
  /-- CARRIER_RESTART (R267). -/
  | carrierRestart (lp : Fin 16)
  /-- REASM_TIMEOUT (R278). -/
  | reasmTimeout (lp : Fin 16)
  /-- STREAM_LOSS (R278). -/
  | streamLoss (lp : Fin 16)
  /-- RING_ENABLE (R285). -/
  | ringEnable (p : Port) (k : Fin 128) (v : Word)
  /-- RING_DISABLE (R287). -/
  | ringDisable (p : Port) (k : Fin 128) (v : Word)
  /-- RING_PROD_WRITE (R285). -/
  | ringProdWrite (p : Port) (k : Fin 128) (prod : BitVec 16)
  /-- RING_CPL_ACK (R286). -/
  | ringCplAck (p : Port) (k : Fin 128) (ack : BitVec 16)
  /-- PUNT_PACKET_WRITE (R290). -/
  | puntPacketWrite (k : Fin 64) (descs : List Desc)
  /-- PUNT_DROP_REST (R292). -/
  | puntDropRest (p : Port) (k : Fin 64)
  /-- INJECT_DESCRIPTOR_FETCH (R295). -/
  | injectDescriptorFetch (k : Fin 64) (desc : List Octet)
  /-- INJECT_FRAME_FETCH (R295). -/
  | injectFrameFetch (k : Fin 64) (data : FlashRead)
  /-- COMPLETION_ZERO_LENGTH_READ (R36). -/
  | completionZeroLengthRead (p : Port) (vec : Fin 64)
  /-- VENEER_ENABLE (R299). -/
  | veneerEnable (p : Port) (v : Word)
  /-- VENEER_DISABLE (R299). -/
  | veneerDisable (p : Port) (v : Word)
  /-- REKEY_PASS_START (R305). -/
  | rekeyPassStart
  /-- REKEY_PAGE (R305). -/
  | rekeyPage
  /-- DEEP_READ (R306). -/
  | deepRead (page : Nat) (line : Fin 64) (raw : List RawLine)
  /-- DEEP_PARTIAL_WRITE (R303). -/
  | deepPartialWrite (page : Nat) (line : Fin 64) (beat : Bool) (data : List Octet) (raw : List RawLine)
  /-- MARCH_TEST_COMPLETE (R308). -/
  | marchTestComplete (page : Nat) (line : Fin 64) (pass : Bool)
  /-- SPARE_COPY_COMPLETE (R308). -/
  | spareCopyComplete (page : Nat)
  /-- LANE_LOCK_CHANGE (R339). -/
  | laneLockChange (lane : Fin 96) (locked signal : Bool)
  /-- SNR_LOW (R339). -/
  | snrLow (lane : Fin 96)
  /-- DFE_TAP_LIMIT (R326). -/
  | dfeTapLimit (lane : Fin 96) (taps : List (BitVec 8))
  /-- DFE_ADAPTED (R326). -/
  | dfeAdapted (lane : Fin 96) (taps : List (BitVec 8))
  /-- LANE_TEST_COMPLETE (R340). -/
  | laneTestComplete (lane : Fin 96) (pass : Bool)
  /-- LANE_RETEST (R360). -/
  | laneRetest (p : Port) (lane : Fin 96)
  /-- PORT_ENABLE (R320). -/
  | portEnable (p : Port) (port : Fin 48) (v : Word)
  /-- PORT_DISABLE (R320). -/
  | portDisable (p : Port) (port : Fin 48) (v : Word)
  /-- LINK_CHANGE (R317). -/
  | linkChange (port : Fin 48) (aligned rxLf rxRf : Bool)
  /-- CALIBRATION_COMPLETE (R132). -/
  | calibrationComplete (port : Fin 48) (txLat rxLat : Word)
  /-- FEC_DEG_INTERVAL (R321). -/
  | fecDegInterval (port : Fin 48) (codewords corrected uncorrectable symbols : Nat)
  /-- TAP_STEP (R325). -/
  | tapStep (lane : Fin 96)
  /-- CHK_CLR (R324). -/
  | chkClr (p : Port) (lane : Fin 96)
  /-- EYE_MONITOR_UPDATE (R328). -/
  | eyeMonitorUpdate (lane : Fin 96) (upper middle lower width snr : BitVec 8)
  /-- REFCLK_MONITOR_WINDOW (R313). -/
  | refclkMonitorWindow (hPpm lPpm : Int)
  /-- MOD_PRESENCE_CHANGE (R329). -/
  | modPresenceChange (slot : Fin 16) (present : Bool)
  /-- MOD_REINIT (R330). -/
  | modReinit (p : Port) (slot : Fin 16)
  /-- MODULE_READY_POLL (R330). -/
  | moduleReadyPoll (slot : Fin 16) (ready : Bool)
  /-- MODULE_IDENTIFY (R331). -/
  | moduleIdentify (slot : Fin 16) (vendor part serial : List Octet)
  /-- ALLOW_LIST_COMMIT (R332). -/
  | allowListCommit (p : Port) (i : Fin 64) (v : Word)
  /-- ALLOW_RECHECK (R331). -/
  | allowRecheck (slot : Fin 16)
  /-- DATAPATH_ACTIVATED (R330). -/
  | datapathActivated (slot : Fin 16) (width : Nat)
  /-- MODULE_READY_TIMEOUT (R330). -/
  | moduleReadyTimeout (slot : Fin 16)
  /-- I2C_RETRY (R329). -/
  | i2cRetry (slot : Fin 16) (acked : Bool)
  /-- MODULE_MONITOR_POLL (R333). -/
  | moduleMonitorPoll (slot : Fin 16) (temp vcc : BitVec 16) (flags : List Octet) (bias : List (BitVec 16))
  /-- MODACC_REQUEST (R334). -/
  | modaccRequest (p : Port) (r : Region) (v : Word)
  /-- MODACC_COMPLETE (R334). -/
  | modaccComplete (r : Region) (ack : Bool) (data : List Octet)
  /-- SRAM_UNCORRECTABLE (R343). -/
  | sramUncorrectable (owner : SramOwner) (mac row : Nat)
  /-- SRAM_SCRUB (R342). -/
  | sramScrub (corrected : Nat)
  /-- ROW_BIST_COMPLETE (R343). -/
  | rowBistComplete (owner : SramOwner) (result : RowResult)
  /-- CROSSBAR_BEAT_ERROR (R336). -/
  | crossbarBeatError (repeats : Nat)
  /-- CHANNEL_TRIGGER (R341). -/
  | channelTrigger (c : Fin 32)
  /-- CHANNEL_RETRAIN_COMPLETE (R341). -/
  | channelRetrainComplete (c : Fin 32) (id : ChanId)
  /-- REGION_AUTO_RESTART (R345). -/
  | regionAutoRestart (r : Region)
  /-- REGION_RESTART_CMD (R360). -/
  | regionRestartCmd (p : Port) (r : Region)
  /-- REGION_RESTART_COMPLETE (R346). -/
  | regionRestartComplete (r : Region) (rowsSpared : Nat) (rowsOk : Bool) (passE passI : List Bool)
  /-- FEED_DIVERGENCE (R352). -/
  | feedDivergence (g : Fin 7) (failed : Feed) (mv : Nat)
  /-- PG_FALL (R352). -/
  | pgFall (feed : Feed)
  /-- FEED_RECOVERED (R355). -/
  | feedRecovered (g : Fin 7) (feed : Feed)
  /-- BRACE_SWITCH_CMD (R358). -/
  | braceSwitchCmd (p : Port) (g : Fin 8)
  /-- CLAMP_SUPPLY_TRIP (R365). -/
  | clampSupplyTrip (s : Supply) (det : Detector)
  /-- DISAGREE_WINDOW_CLOSE (R366). -/
  | disagreeWindowClose (s : Supply)
  /-- KCLK_OUT_OF_BAND (R364). -/
  | kclkOutOfBand
  /-- CCLK_RATIO_OUT_OF_BAND (R364). -/
  | cclkRatioOutOfBand
  /-- TEMP_LIMIT (R364). -/
  | tempLimit
  /-- THERMAL_THRESHOLD (R416). -/
  | thermalThreshold (above : Bool)
  /-- EVIN15_CLAMP_ASSERT (R415). -/
  | evin15ClampAssert
  /-- CLASS_WINDOW_CLOSE (R368). -/
  | classWindowClose (c : Fin 9)
  /-- COALESCE_WINDOW_CLOSE (R375). -/
  | coalesceWindowClose
  /-- CLAMP_ERASE_COMPLETE (R373). -/
  | clampEraseComplete
  /-- CLAMP_LOCK (R371). -/
  | clampLock (p : Port) (v : Word)
  /-- VBAT_LOW (R382). -/
  | vbatLow (mv : Nat)
  /-- EVENT_LOG_READ (R378). -/
  | eventLogRead (p : Port) (fn : Fin 2) (i : Fin 256)
  /-- PORT_LOSS (R388). -/
  | portLoss (p : Port)
  /-- WAKE_RESET (R388). -/
  | wakeReset (p : Port)
  /-- PCIE_LINK_STATE_CHANGE (R408). -/
  | pcieLinkStateChange (p : Port) (st : LinkState) (busMaster msixEnable functionMask : Bool)
  /-- CHALLENGE_REQUEST (R395). -/
  | challengeRequest (p : Port)
  /-- CHALLENGE_EXPIRE (R395). -/
  | challengeExpire (p : Port)
  /-- RESPONSE_SUBMIT (R395). -/
  | responseSubmit (p : Port) (v : Word)
  /-- RESPONSE_CHECK_COMPLETE (R395). -/
  | responseCheckComplete (p : Port)
  /-- SESSION_LOCK (R396). -/
  | sessionLock (p : Port)
  /-- SESSION_IDLE_TIMEOUT (R396). -/
  | sessionIdleTimeout (p : Port)
  /-- SEMAPHORE_READ (R398). -/
  | semaphoreRead (who : SemReader) (n : Fin 32)
  /-- SEMAPHORE_RELEASE (R398). -/
  | semaphoreRelease (p : Port) (n : Fin 32)
  /-- ICU_PEND_CLEAR (R401). -/
  | icuPendClear (p : Port) (w : Fin 36) (v : Word)
  /-- ICU_SRC_WRITE (R406). -/
  | icuSrcWrite (p : Port) (i : Fin 1152) (v : Word)
  /-- VECTOR_TIMER_EXPIRE (R405). -/
  | vectorTimerExpire (p : Port) (vec : Fin 64)
  /-- MSIX_MESSAGE_SEND (R405). -/
  | msixMessageSend (p : Port) (vec : Fin 64)
  /-- MSIX_UNMASK (R407). -/
  | msixUnmask (p : Port) (vec : Fin 64)
  /-- PORT_IDLE_HINT (R409). -/
  | portIdleHint (p : Port)
  /-- PORT_SLEEP_HINT (R410). -/
  | portSleepHint (p : Port)
  /-- PORT_WAKE (R411). -/
  | portWake (p : Port)
  /-- EVIN_CHANGE (R414). -/
  | evinChange (i : Fin 16) (level : Bool)
  /-- STAGING_GO (R432). -/
  | stagingGo (p : Port)
  /-- STAGING_FETCH_COMPLETE (R432). -/
  | stagingFetchComplete (data : FlashRead)
  /-- STAGING_CHECK_COMPLETE (R433). -/
  | stagingCheckComplete
  /-- FLASH_COMMAND (R434). -/
  | flashCommand (p : Port) (v : Word)
  /-- FLASH_COMMAND_COMPLETE (R435). -/
  | flashCommandComplete (p : Port) (data : List Octet)
  /-- SNAPSHOT_GO (R439). -/
  | snapshotGo (p : Port)
  /-- SWEEP_COMPLETE (R440). -/
  | sweepComplete
  /-- SAMPLER_ENABLE (R443). -/
  | samplerEnable (p : Port) (v : Word)
  /-- SAMPLER_RECORD_READ (R444). -/
  | samplerRecordRead (p : Port) (fn : Fin 2) (i : Fin 4096)
  /-- JTAG_DEBUG_UNLOCK (R157). -/
  | jtagDebugUnlock
  /-- RESET_N_RELEASE (R463). -/
  | resetNRelease
  /-- PPS_OK_FALL (R128). -/
  | ppsOkFall
  /-- TREF_OK_CHANGE (R128). -/
  | trefOkChange (ok : Bool)
  /-- MCLK_FAIL (R27). -/
  | mclkFail
  /-- TEMP_REARM (R364). -/
  | tempRearm
  /-- CLOCK_EVENT_REARM (R364). -/
  | clockEventRearm (cclk : Bool)
  /-- VBAT_PREERASE_REARM (R382). -/
  | vbatPreeraseRearm
  deriving DecidableEq, Repr

end Sys2Proof
end

