-- ==== Sys2Proof/Decode.lean ====
section
/-!
DEFINITION. Decode.lean: the commands that words of the command table spell. No row of the table gives bits: the block
fetches no instruction (log entry 5), so every word spells none.
-/
namespace Sys2Proof

/-- The command a table word spells: none, as no row of the table gives bits. -/
def decodeTableWord (_nbits _w : Nat) : Option Instr := none

end Sys2Proof
end

