-- ==== Sys2Proof/Machine/Bytes.lean ====
section
/-! DEFINITION. Octet strings and numbers: byte orders, bit fields, the CRC-32 of the frame check sequence. -/

namespace Sys2Proof.Machine

/-- The number an octet string spells, first octet most significant. -/
def beNat (l : Octets) : Nat := l.foldl (fun a o => a * 256 + o.toNat) 0

/-- The number an octet string spells, first octet least significant. -/
def leNat (l : Octets) : Nat := l.foldr (fun o a => o.toNat + 256 * a) 0

/-- `n` octets of `v`, least significant first. -/
def leBytes : Nat → Nat → Octets
  | 0, _ => []
  | n + 1, v => BitVec.ofNat 8 v :: leBytes n (v / 256)

/-- `n` octets of `v`, most significant first. -/
def beBytes (n v : Nat) : Octets := (leBytes n v).reverse

/-- Bits `lo` to `lo + w - 1` of a number. -/
def bits (v lo w : Nat) : Nat := v / 2 ^ lo % 2 ^ w

/-- One bit of a number. -/
def bit (v i : Nat) : Bool := v / 2 ^ i % 2 = 1

/-- A number with the `w` bits at `lo` replaced by `x`. -/
def putBits (v lo w x : Nat) : Nat :=
  v % 2 ^ lo + x % 2 ^ w * 2 ^ lo + v / 2 ^ (lo + w) * 2 ^ (lo + w)

/-- A Boolean as the bit of a register. -/
def b2n (b : Bool) : Nat := if b then 1 else 0

/-- A number with one bit set. -/
def setBit (v i : Nat) : Nat := putBits v i 1 1

/-- A number with one bit cleared. -/
def clearBit (v i : Nat) : Nat := putBits v i 1 0

/-- The signed value of a `w`-bit two's-complement field. -/
def signed (w v : Nat) : Int := if v % 2 ^ w < 2 ^ (w - 1) then (v % 2 ^ w : Nat) else (v % 2 ^ w : Nat) - (2 ^ w : Nat)

/-- The `w`-bit two's-complement field of a signed value. -/
def unsigned (w : Nat) (i : Int) : Nat := (i % (2 ^ w : Nat)).toNat

/-- Octets `from` to `from + n - 1`. -/
def slice (l : Octets) (start n : Nat) : Octets := (l.drop start).take n

/-- An octet string cut or filled with zero octets to a length. -/
def padTo (n : Nat) (l : Octets) : Octets := (l ++ List.replicate (n - l.length) 0).take n

/-- Octets `i`, or zero beyond the end. -/
def octetAt (l : Octets) (i : Nat) : Octet := l.getD i 0

/-- A 16-bit and a 32-bit little-endian value in an octet string. -/
def u16 (o : List Octet) (i : Nat) : Nat := leNat (slice o i 2)
def u32 (o : List Octet) (i : Nat) : Nat := leNat (slice o i 4)

/-- Exclusive or of two octet strings, as long as the shorter. -/
def xorO (a b : Octets) : Octets := List.zipWith (· ^^^ ·) a b

/-- `ceil (a / b)`. -/
def ceilDiv (a b : Nat) : Nat := (a + b - 1) / b

/-- The ASCII octets of a text. -/
def ascii (s : String) : Octets := s.toList.map (fun c => BitVec.ofNat 8 c.toNat)

/-- One octet of the reflected CRC-32 of IEEE 802.3 (polynomial 0xEDB8_8320). PRESUMED: the standard R2 names gives it. -/
def crcStep (c : BitVec 32) (o : Octet) : BitVec 32 :=
  (List.range 8).foldl (fun a _ => if a.getLsbD 0 then (a >>> 1) ^^^ 0xEDB88320#32 else a >>> 1) (c ^^^ o.zeroExtend 32)

/-- The four octets of the frame check sequence over a frame from DA on (R82, R114). -/
def fcs (l : Octets) : Octets := leBytes 4 (~~~ (l.foldl crcStep 0xFFFFFFFF#32)).toNat

end Sys2Proof.Machine
end

