-- ==== Sys2Proof/Machine/Aes.lean ====
section
/-! DEFINITION. The AES block cipher (FIPS 197), which R2 names as the device's cipher. PRESUMED: the manual names the standard and does not print it (log entry 6). -/

namespace Sys2Proof.Machine

/-- Multiplication by x in GF(2^8) with the polynomial 0x11B. -/
def gfDouble (a : Octet) : Octet := if a.getLsbD 7 then (a <<< 1) ^^^ 0x1B#8 else a <<< 1

/-- Multiplication in GF(2^8). -/
def gfMul (a b : Octet) : Octet :=
  ((List.range 8).foldl (fun (p : Octet × Octet) i =>
    (if b.getLsbD i then p.1 ^^^ p.2 else p.1, gfDouble p.2)) (0#8, a)).1

/-- The inverse in GF(2^8), as the power 254; the inverse of zero is zero. -/
def gfInv (a : Octet) : Octet :=
  let a2 := gfMul a a
  let a4 := gfMul a2 a2
  let a8 := gfMul a4 a4
  let a16 := gfMul a8 a8
  let a32 := gfMul a16 a16
  let a64 := gfMul a32 a32
  let a128 := gfMul a64 a64
  gfMul a128 (gfMul a64 (gfMul a32 (gfMul a16 (gfMul a8 (gfMul a4 a2)))))

/-- The AES substitution of one octet, computed from the inverse and the affine map. -/
def sboxOf (a : Octet) : Octet :=
  let b := gfInv a
  b ^^^ b.rotateLeft 1 ^^^ b.rotateLeft 2 ^^^ b.rotateLeft 3 ^^^ b.rotateLeft 4 ^^^ 0x63#8

/-- The inverse substitution of one octet. -/
def invSboxOf (a : Octet) : Octet :=
  gfInv (a.rotateLeft 1 ^^^ a.rotateLeft 3 ^^^ a.rotateLeft 6 ^^^ 0x05#8)

/-- The substitution as a table. -/
def sboxTable : Array Octet := ((List.range 256).map (fun i => sboxOf (BitVec.ofNat 8 i))).toArray

/-- The inverse substitution as a table. -/
def invSboxTable : Array Octet := ((List.range 256).map (fun i => invSboxOf (BitVec.ofNat 8 i))).toArray

def subOctet (a : Octet) : Octet := sboxTable.getD a.toNat 0
def invSubOctet (a : Octet) : Octet := invSboxTable.getD a.toNat 0

/-- The round constant of round `i` (from 1). -/
def rcon (i : Nat) : Octet := (List.range (i - 1)).foldl (fun a _ => gfDouble a) 1#8

/-- One word of the key schedule from the words before it, latest first. -/
def nextKeyWord (nk i : Nat) (prev : List Octets) : Octets :=
  let t := prev.headD []
  let t' :=
    if i % nk = 0 then xorO ((t.drop 1 ++ t.take 1).map subOctet) [rcon (i / nk), 0, 0, 0]
    else if nk > 6 ∧ i % nk = 4 then t.map subOctet
    else t
  xorO (prev.getD (nk - 1) []) t'

/-- The expanded key: the round keys in order, 16 octets each. A 16-octet key has 10 rounds, a 32-octet key 14. -/
def expandKey (key : Octets) : List Octets :=
  let nk := key.length / 4
  let first := ((List.range nk).map (fun i => slice key (4 * i) 4)).reverse
  let words := ((List.range (4 * (nk + 7) - nk)).foldl (fun acc j => nextKeyWord nk (nk + j) acc :: acc) first).reverse
  (List.range (nk + 7)).map (fun r => (slice' words (4 * r)).flatten)
where
  slice' (ws : List Octets) (i : Nat) : List Octets := (ws.drop i).take 4

/-- The byte order that ShiftRows produces on the 16-octet state, column by column. -/
def shiftRows (s : Octets) : Octets := [0, 5, 10, 15, 4, 9, 14, 3, 8, 13, 2, 7, 12, 1, 6, 11].map (octetAt s)

/-- The inverse of ShiftRows. -/
def invShiftRows (s : Octets) : Octets := [0, 13, 10, 7, 4, 1, 14, 11, 8, 5, 2, 15, 12, 9, 6, 3].map (octetAt s)

/-- A column mixed with the given first row of the circulant matrix. -/
def mixColumn (m : Octets) (c : Octets) : Octets :=
  (List.range 4).map (fun r => (List.range 4).foldl (fun a j => a ^^^ gfMul (octetAt m ((j + 4 - r) % 4)) (octetAt c j)) 0)

/-- MixColumns with the given matrix row. -/
def mixColumns (m : Octets) (s : Octets) : Octets := ((List.range 4).map (fun i => mixColumn m (slice s (4 * i) 4))).flatten

/-- AES encryption of one 16-octet block under an expanded key. -/
def aesWith (rks : List Octets) (blk : Octets) : Octets :=
  let s0 := xorO (padTo 16 blk) (rks.headD [])
  let mid := (rks.drop 1).dropLast
  let s1 := mid.foldl (fun s k => xorO (mixColumns [2, 3, 1, 1] (shiftRows (s.map subOctet))) k) s0
  xorO (shiftRows (s1.map subOctet)) (rks.getLastD [])

/-- AES decryption of one 16-octet block under an expanded key. -/
def aesInvWith (rks : List Octets) (blk : Octets) : Octets :=
  let s0 := xorO (padTo 16 blk) (rks.getLastD [])
  let mid := ((rks.drop 1).dropLast).reverse
  let s1 := mid.foldl (fun s k => mixColumns [14, 11, 13, 9] (xorO ((invShiftRows s).map invSubOctet) k)) s0
  xorO ((invShiftRows s1).map invSubOctet) (rks.headD [])

/-- AES encryption of one block. -/
def aes (key blk : Octets) : Octets := aesWith (expandKey key) blk

/-- AES decryption of one block. -/
def aesInv (key blk : Octets) : Octets := aesInvWith (expandKey key) blk

/-- The 16-octet blocks of a string, the last filled with zero octets. -/
def blocks16 (l : Octets) : List Octets := (List.range (ceilDiv l.length 16)).map (fun i => padTo 16 (slice l (16 * i) 16))

/-- AES-ECB encryption (Chisel ENC, R195). -/
def ecbEnc (key d : Octets) : Octets := let ks := expandKey key; ((blocks16 d).map (aesWith ks)).flatten

/-- AES-ECB decryption (Chisel DEC, R195). -/
def ecbDec (key d : Octets) : Octets := let ks := expandKey key; ((blocks16 d).map (aesInvWith ks)).flatten

end Sys2Proof.Machine
end

