-- ==== Sys2Proof/Machine/Modes.lean ====
section
/-! DEFINITION. The modes of operation the manual uses: CMAC and the KDF of R158, GCM (R84), key wrap (R195, R198), XTS and the line tag of Veneer (R301, R302). PRESUMED where the manual names a standard (log entry 6). -/

namespace Sys2Proof.Machine

/-- Doubling in GF(2^128) for the CMAC subkeys (SP 800-38B). -/
def cmacDouble (b : Octets) : Octets :=
  let v := beNat b
  beBytes 16 (if v ≥ 2 ^ 127 then (v * 2 % 2 ^ 128) ^^^ 0x87 else v * 2)

/-- The CMAC chaining value after whole blocks. -/
def cmacChain (ks : List Octets) (x : Octets) (bs : List Octets) : Octets :=
  bs.foldl (fun a b => aesWith ks (xorO a b)) x

/-- The CMAC tag from the chaining value and the last octets of the message (0 to 16 of them). -/
def cmacFinish (ks : List Octets) (x last : Octets) : Octets :=
  let k1 := cmacDouble (aesWith ks (List.replicate 16 0))
  if last.length = 16 then aesWith ks (xorO (xorO last k1) x)
  else aesWith ks (xorO (xorO (padTo 16 (last ++ [0x80#8])) (cmacDouble k1)) x)

/-- How many octets of a message come before its last block. -/
def headLen (n : Nat) : Nat := if n = 0 then 0 else (n - 1) / 16 * 16

/-- AES-CMAC (SP 800-38B). -/
def cmac (key msg : Octets) : Octets :=
  let ks := expandKey key
  let h := headLen msg.length
  cmacFinish ks (cmacChain ks (List.replicate 16 0) (blocks16 (msg.take h))) (msg.drop h)

/-- `input(i)` of R158. -/
def kdfInput (i : Nat) (label context : Octets) (l : Nat) : Octets :=
  beBytes 4 i ++ label ++ [0x00#8] ++ context ++ beBytes 4 l

/-- The SP 800-108 counter-mode KDF of R158: the first `l` bits, in octets. -/
def kdf (ki label context : Octets) (l : Nat) : Octets :=
  (((List.range (ceilDiv l 128)).map (fun i => cmac ki (kdfInput (i + 1) label context l))).flatten).take (l / 8)

/-- Multiplication in GF(2^128) with the bit order of SP 800-38D; both factors as numbers whose most significant bit is bit 0 of the block. -/
def ghashMul (x y : Nat) : Nat :=
  ((List.range 128).foldl (fun (p : Nat × Nat) i =>
    (if bit x (127 - i) then p.1 ^^^ p.2 else p.1,
     if bit p.2 0 then (p.2 / 2) ^^^ (0xE1 * 2 ^ 120) else p.2 / 2)) (0, y)).1

/-- GHASH of whole blocks. -/
def ghash (h : Nat) (bs : List Octets) : Nat := bs.foldl (fun a b => ghashMul (a ^^^ beNat b) h) 0

/-- Keystream block `i` (from 1): counter block `IV ‖ (i + 1)` (R84). -/
def gcmKeystream (ks : List Octets) (iv : Octets) (i : Nat) : Octets := aesWith ks (iv ++ beBytes 4 (i + 1))

/-- Data XOR the keystream from block 1 on. -/
def gcmCrypt (ks : List Octets) (iv d : Octets) : Octets :=
  ((List.range (ceilDiv d.length 16)).map (fun i => xorO (slice d (16 * i) 16) (gcmKeystream ks iv (i + 1)))).flatten

/-- The GCM tag over AAD and ciphertext (R84): GHASH XOR the tag mask. -/
def gcmTag (ks : List Octets) (iv aad ct : Octets) : Octets :=
  let h := beNat (aesWith ks (List.replicate 16 0))
  let lens := beBytes 8 (8 * aad.length) ++ beBytes 8 (8 * ct.length)
  xorO (beBytes 16 (ghash h (blocks16 aad ++ blocks16 ct ++ [lens]))) (aesWith ks (iv ++ [0, 0, 0, 1]))

/-- GCM encryption: ciphertext and tag. -/
def gcmSeal (key iv aad pt : Octets) : Octets × Octets :=
  let ks := expandKey key
  let ct := gcmCrypt ks iv pt
  (ct, gcmTag ks iv aad ct)

/-- GCM decryption: plaintext and whether the tag agrees. -/
def gcmOpen (key iv aad ct tag : Octets) : Octets × Bool :=
  let ks := expandKey key
  (gcmCrypt ks iv ct, gcmTag ks iv aad ct == tag)

/-- One step of the key-wrap permutation: `A` and the semiblocks, at step `t` on semiblock `i`. -/
def wrapStep (ks : List Octets) (st : Octets × List Octets) (t i : Nat) : Octets × List Octets :=
  let b := aesWith ks (st.1 ++ st.2.getD i [])
  (beBytes 8 (beNat (b.take 8) ^^^ t), st.2.set i (b.drop 8))

/-- One step of the inverse permutation. -/
def unwrapStep (ks : List Octets) (st : Octets × List Octets) (t i : Nat) : Octets × List Octets :=
  let b := aesInvWith ks (beBytes 8 (beNat st.1 ^^^ t) ++ st.2.getD i [])
  (b.take 8, st.2.set i (b.drop 8))

/-- The 8-octet semiblocks of a string. -/
def semiblocks (l : Octets) : List Octets := (List.range (l.length / 8)).map (fun i => slice l (8 * i) 8)

/-- The wrap permutation W of RFC 3394 with an initial value. -/
def wrapW (key iv d : Octets) : Octets :=
  let ks := expandKey key
  let n := d.length / 8
  let r := (List.range (6 * n)).foldl (fun st j => wrapStep ks st (j + 1) (j % n)) (iv, semiblocks d)
  r.1 ++ r.2.flatten

/-- The inverse of W: the recovered initial value and the data. -/
def unwrapW (key c : Octets) : Octets × Octets :=
  let ks := expandKey key
  let n := c.length / 8 - 1
  let r := (List.range (6 * n)).foldl (fun st j => unwrapStep ks st (6 * n - j) ((6 * n - 1 - j) % n)) (c.take 8, semiblocks (c.drop 8))
  (r.1, r.2.flatten)

/-- RFC 3394 key wrap. -/
def keyWrap (key d : Octets) : Octets := wrapW key (List.replicate 8 0xA6#8) d

/-- RFC 3394 unwrap: none where the integrity check fails. -/
def keyUnwrap (key c : Octets) : Option Octets :=
  let r := unwrapW key c
  if r.1 = List.replicate 8 0xA6#8 then some r.2 else none

/-- RFC 5649 key wrap with padding. -/
def keyWrapPad (key d : Octets) : Octets :=
  let iv := [0xA6#8, 0x59#8, 0x59#8, 0xA6#8] ++ beBytes 4 d.length
  let p := padTo (8 * ceilDiv d.length 8) d
  if p.length = 8 then aes key (iv ++ p) else wrapW key iv p

/-- RFC 5649 unwrap: none where a check fails. -/
def keyUnwrapPad (key c : Octets) : Option Octets :=
  let r := if c.length = 16 then let b := aesInv key c; (b.take 8, b.drop 8) else unwrapW key c
  let n := beNat (r.1.drop 4)
  if r.1.take 4 = [0xA6#8, 0x59#8, 0x59#8, 0xA6#8] ∧ n ≤ r.2.length ∧ r.2.length < n + 8
      ∧ r.2.drop n = List.replicate (r.2.length - n) 0
  then some (r.2.take n) else none

/-- Doubling in GF(2^128) with the octet order of XTS (SP 800-38E). -/
def xtsDouble (t : Octets) : Octets :=
  let v := leNat t
  leBytes 16 (if v ≥ 2 ^ 127 then (v * 2 % 2 ^ 128) ^^^ 0x87 else v * 2)

/-- The tweak of block `j` of data unit `p`: the encrypted tweak, doubled `j` times (R301). -/
def xtsTweak (k2 : Octets) (p j : Nat) : Octets :=
  (List.range j).foldl (fun t _ => xtsDouble t) (aes k2 (leBytes 16 p))

/-- XTS-AES-256 encryption of line `l` (64 octets) of logical page `p` (R301). -/
def xtsLineEnc (k1 k2 : Octets) (p l : Nat) (d : Octets) : Octets :=
  let ks := expandKey k1
  ((List.range 4).map (fun i =>
    let t := xtsTweak k2 p (4 * l + i)
    xorO (aesWith ks (xorO (slice d (16 * i) 16) t)) t)).flatten

/-- XTS-AES-256 decryption of a line. -/
def xtsLineDec (k1 k2 : Octets) (p l : Nat) (c : Octets) : Octets :=
  let ks := expandKey k1
  ((List.range 4).map (fun i =>
    let t := xtsTweak k2 p (4 * l + i)
    xorO (aesInvWith ks (xorO (slice c (16 * i) 16) t)) t)).flatten

/-- The 16 octets E of R302. -/
def tagE (p l : Nat) (poison : Bool) (count epoch : Nat) : Octets :=
  beBytes 4 p ++ [BitVec.ofNat 8 l, BitVec.ofNat 8 (b2n poison)] ++ beBytes 2 count ++ beBytes 4 epoch ++ [0x56#8, 0x4E#8, 0x52#8, 0x31#8]

/-- The 8-octet tag of a line (R302). -/
def lineTag (kt kh : Octets) (p l : Nat) (poison : Bool) (count epoch : Nat) (c : Octets) : Octets :=
  let ph := beBytes 16 (ghash (beNat kh) ((List.range 4).map (fun i => slice c (16 * i) 16)))
  (aes kt (xorO ph (tagE p l poison count epoch))).take 8

end Sys2Proof.Machine
end

