-- ==== Sys2Proof/Config.lean ====
section
/-!
DEFINITION. Config.lean: what one part fixes and what the spec leaves open. Every constant here is opaque: nothing can
evaluate it, so a claim that mentions it holds whatever the part's value is (log entries 3 and 4).
-/
namespace Sys2Proof.Config

/-- The samples of the noise source's eight channels at the `n`-th edge that is conditioned into a seed (R212, R214), channel
j in bit j: free values. -/
opaque noise : Nat → BitVec 8

/-- SHA-384 of the vendor's image-signing key, held in ROM (R426). -/
opaque vendorKeyHash : BitVec 384

/-- SHA-384 of the fuse array without the root secret (R186), by what the other fuses hold; the spec does not lay the
array out. -/
opaque fuseHash : List (BitVec 8) → BitVec 384

/-- The device identity that KST_DEVID reads, octet 0 first (R161). -/
opaque deviceId : BitVec 128

/-- Distance from an instant (in 2^-16 ns) to the first grid instant of a line port at or after it (R148, R153), by port,
measurement of its phase (R29) and instant. -/
opaque gridDelta : Nat → Nat → Nat → BitVec 16

/-- Distance from an instant to the first departure instant of a host port's grid (R154). -/
opaque hostGridDelta : Nat → Nat → BitVec 16

/-- The position drawn in a sampler window from the 32-bit LFSR (R443), by seed and window number; the spec does not
give the polynomial. -/
opaque samplerDraw : Nat → Nat → BitVec 32

/-- A 32-bit value the spec does not state, by position in the supply. -/
opaque freeWord : Nat → BitVec 32

end Sys2Proof.Config
end

