-- ==== Sys2Proof/Machine/Fields.lean ====
section
/-!
DEFINITION. Machine/Fields.lean: the register fields of the spec, one name each (written out from its field tables:
bits, access code, reset value, the encodings its Meaning column calls reserved). A field is named BLOCK_NAME.FIELD as
R449 ("Names") says; a register the spec gives without a field table has one field `V` or the names its rule uses.
The word offsets are in Machine/RegMap.lean.
-/
namespace Sys2Proof.Machine

/-- Access codes of R4. -/
inductive Acc where
  | ro | rw | wo | w1c | w1s | rc
  deriving DecidableEq, Repr

/-- One register field: a number of its own (`id`; the ranges say what a reset keeps, see `Fld.keepsWarm`), its width
in bits, its access code, its reset value, and the value ranges that are not reserved encodings (none listed: every
value is legal, R9). -/
structure Fld where
  id : Nat
  width : Nat
  acc : Acc
  reset : Nat
  legal : List (Nat × Nat)
  deriving DecidableEq, Repr

/-- Fields numbered below 64 lie in the backup domain (R54): no reset clears them. -/
def Fld.backupBound : Nat := 64
/-- Fields numbered 64 to 127 are the time state a warm reset also preserves (R54). -/
def Fld.warmBound : Nat := 128
/-- Fields numbered 128 to 159 are the ICU configuration that the retention copy of R417 holds. -/
def Fld.retainBound : Nat := 160


/- GLB_ID (R453) -/
def GLB_ID.V : Fld := ⟨160, 32, .ro, 0x51016400, []⟩

/- GLB_MODE (R42) -/
def GLB_MODE.MODE : Fld := ⟨161, 4, .ro, 0x1, []⟩
def GLB_MODE.BASE : Fld := ⟨162, 4, .ro, 0x1, []⟩
def GLB_MODE.IN_TRANSITION : Fld := ⟨163, 1, .ro, 0x0, []⟩
def GLB_MODE.PREV : Fld := ⟨164, 4, .ro, 0x0, []⟩
def GLB_MODE.CAUSE : Fld := ⟨165, 8, .ro, 0x0, []⟩

/- GLB_MODE_REQ (R43) -/
def GLB_MODE_REQ.TARGET : Fld := ⟨166, 4, .wo, 0x0, [(2, 4)]⟩
def GLB_MODE_REQ.RESULT : Fld := ⟨167, 3, .ro, 0x0, []⟩
def GLB_MODE_REQ.SRC : Fld := ⟨168, 3, .ro, 0x0, []⟩
def GLB_MODE_REQ.GUARD : Fld := ⟨169, 8, .ro, 0x0, []⟩

/- GLB_DEGRADED_CAUSE (R44) -/
def GLB_DEGRADED_CAUSE.REGION_FENCED : Fld := ⟨170, 1, .ro, 0x0, []⟩
def GLB_DEGRADED_CAUSE.SLICE_REDUCED : Fld := ⟨171, 1, .ro, 0x0, []⟩
def GLB_DEGRADED_CAUSE.FEED_LOST : Fld := ⟨172, 1, .ro, 0x0, []⟩
def GLB_DEGRADED_CAUSE.MEM_CHANNEL : Fld := ⟨173, 1, .ro, 0x0, []⟩
def GLB_DEGRADED_CAUSE.DEEP_FLOOR : Fld := ⟨174, 1, .ro, 0x0, []⟩
def GLB_DEGRADED_CAUSE.THERMAL : Fld := ⟨175, 1, .ro, 0x0, []⟩

/- GLB_BOOT_STATUS (R61) -/
def GLB_BOOT_STATUS.STAGE : Fld := ⟨176, 8, .ro, 0x0, []⟩
def GLB_BOOT_STATUS.CODE : Fld := ⟨177, 8, .ro, 0x0, []⟩
def GLB_BOOT_STATUS.COPY_A : Fld := ⟨178, 4, .ro, 0x0, []⟩
def GLB_BOOT_STATUS.COPY_B : Fld := ⟨179, 4, .ro, 0x0, []⟩
def GLB_BOOT_STATUS.SELECTED : Fld := ⟨180, 1, .ro, 0x0, []⟩
def GLB_BOOT_STATUS.STAGED : Fld := ⟨181, 1, .ro, 0x0, []⟩

/- GLB_TX_RESUME (R56) -/
def GLB_TX_RESUME.V : Fld := ⟨0, 64, .ro, 0xffffffffffffffff, []⟩

/- GLB_REGION_STATUS (R21) -/
def GLB_REGION_STATUS.RGN0 : Fld := ⟨182, 4, .ro, 0x0, []⟩
def GLB_REGION_STATUS.RGN1 : Fld := ⟨183, 4, .ro, 0x0, []⟩
def GLB_REGION_STATUS.RGN2 : Fld := ⟨184, 4, .ro, 0x0, []⟩
def GLB_REGION_STATUS.RGN3 : Fld := ⟨185, 4, .ro, 0x0, []⟩
def GLB_REGION_STATUS.SPARE_E : Fld := ⟨186, 4, .ro, 0x0, []⟩
def GLB_REGION_STATUS.SPARE_I : Fld := ⟨187, 4, .ro, 0x0, []⟩

/- GLB_CFG_REJECT (R453) -/
def GLB_CFG_REJECT.V : Fld := ⟨188, 64, .ro, 0x0, []⟩

/- GLB_CFG_REJECT_LAST (R454) -/
def GLB_CFG_REJECT_LAST.OFFSET : Fld := ⟨189, 24, .ro, 0x0, []⟩
def GLB_CFG_REJECT_LAST.WINDOW : Fld := ⟨190, 1, .ro, 0x0, []⟩
def GLB_CFG_REJECT_LAST.CAUSE : Fld := ⟨191, 4, .ro, 0x0, []⟩

/- GLB_SEM (R397) -/
def GLB_SEM.GRANTED : Fld := ⟨192, 1, .ro, 0x0, []⟩
def GLB_SEM.OWNED : Fld := ⟨193, 1, .ro, 0x0, []⟩
def GLB_SEM.OWNER : Fld := ⟨194, 1, .ro, 0x0, []⟩
def GLB_SEM.RELEASE : Fld := ⟨195, 1, .wo, 0x0, []⟩

/- GLB_SEM_LOST (R399) -/
def GLB_SEM_LOST.V : Fld := ⟨196, 32, .w1c, 0x0, []⟩

/- ICU_PEND (R401) -/
def ICU_PEND.V : Fld := ⟨197, 32, .w1c, 0x0, []⟩

/- ICU_PEND_SUM0 (R401) -/
def ICU_PEND_SUM0.V : Fld := ⟨198, 32, .ro, 0x0, []⟩

/- ICU_PEND_SUM1 (R401) -/
def ICU_PEND_SUM1.V : Fld := ⟨199, 4, .ro, 0x0, []⟩

/- ICU_SRC (R402) -/
def ICU_SRC.VEC_MP0 : Fld := ⟨128, 6, .rw, 0x0, []⟩
def ICU_SRC.VEC_MP1 : Fld := ⟨129, 6, .rw, 0x0, []⟩
def ICU_SRC.ROUTE : Fld := ⟨130, 2, .rw, 0x0, []⟩
def ICU_SRC.MASK : Fld := ⟨131, 1, .rw, 0x0, []⟩
def ICU_SRC.WAKE : Fld := ⟨132, 1, .rw, 0x0, []⟩
def ICU_SRC.ANN0 : Fld := ⟨200, 1, .ro, 0x0, []⟩
def ICU_SRC.ANN1 : Fld := ⟨201, 1, .ro, 0x0, []⟩
def ICU_SRC.PEND : Fld := ⟨202, 1, .ro, 0x0, []⟩

/- ICU_VEC (R404) -/
def ICU_VEC.COUNT : Fld := ⟨133, 8, .rw, 0x1, [(1, 255)]⟩
def ICU_VEC.TIMER_US : Fld := ⟨134, 16, .rw, 0x10, [(1, 65535)]⟩
def ICU_VEC.ACCUM : Fld := ⟨203, 11, .ro, 0x0, []⟩
def ICU_VEC.TIMING : Fld := ⟨204, 1, .ro, 0x0, []⟩
def ICU_VEC.HELD : Fld := ⟨205, 1, .ro, 0x0, []⟩

/- ICU_PORT (R408) -/
def ICU_PORT.IDLE : Fld := ⟨206, 1, .w1s, 0x0, []⟩
def ICU_PORT.SLEEP : Fld := ⟨207, 1, .w1s, 0x0, []⟩
def ICU_PORT.FAILOVER_ROUTE : Fld := ⟨135, 1, .rw, 0x0, []⟩
def ICU_PORT.LINK : Fld := ⟨208, 3, .ro, 0x0, []⟩
def ICU_PORT.SLEEPING : Fld := ⟨209, 1, .ro, 0x0, []⟩
def ICU_PORT.WAKE : Fld := ⟨210, 1, .ro, 0x0, []⟩
def ICU_PORT.READY : Fld := ⟨211, 1, .ro, 0x0, []⟩
def ICU_PORT.MSGS : Fld := ⟨212, 64, .ro, 0x0, []⟩

/- ICU_EVIN (R414) -/
def ICU_EVIN.FILT : Fld := ⟨136, 16, .rw, 0xa, [(1, 65535)]⟩
def ICU_EVIN.ACTIVE_LOW : Fld := ⟨137, 1, .rw, 0x0, []⟩
def ICU_EVIN.EDGE : Fld := ⟨138, 2, .rw, 0x1, []⟩
def ICU_EVIN.LEVEL : Fld := ⟨213, 1, .ro, 0x0, []⟩
def ICU_EVIN.STAMP : Fld := ⟨214, 96, .ro, 0x0, []⟩

/- JIG_RUN_SEQ (R431) -/
def JIG_RUN_SEQ.V : Fld := ⟨215, 32, .ro, 0x0, []⟩

/- JIG_RUN_SVN (R431) -/
def JIG_RUN_SVN.SVN : Fld := ⟨216, 16, .ro, 0x0, []⟩
def JIG_RUN_SVN.AUTO_MODE : Fld := ⟨217, 8, .ro, 0x0, []⟩
def JIG_RUN_SVN.SOURCE : Fld := ⟨218, 2, .ro, 0x0, []⟩

/- JIG_MIN_SVN (R431) -/
def JIG_MIN_SVN.V : Fld := ⟨219, 16, .ro, 0x0, []⟩

/- JIG_RUN_HASH (R431) -/
def JIG_RUN_HASH.V : Fld := ⟨220, 32, .ro, 0x0, []⟩

/- JIG_REJECT (R431) -/
def JIG_REJECT.V : Fld := ⟨221, 32, .ro, 0x0, []⟩

/- JIG_KEY_FAIL (R431) -/
def JIG_KEY_FAIL.V : Fld := ⟨222, 32, .ro, 0x0, []⟩

/- JIG_STG_ADDR_LO (R432) -/
def JIG_STG_ADDR_LO.V : Fld := ⟨223, 32, .rw, 0x0, []⟩

/- JIG_STG_ADDR_HI (R432) -/
def JIG_STG_ADDR_HI.V : Fld := ⟨224, 32, .rw, 0x0, []⟩

/- JIG_STG_LEN (R432) -/
def JIG_STG_LEN.V : Fld := ⟨225, 32, .rw, 0x0, []⟩

/- JIG_STG_CTL (R432) -/
def JIG_STG_CTL.GO : Fld := ⟨226, 1, .wo, 0x0, []⟩

/- JIG_STG_STATUS (R432) -/
def JIG_STG_STATUS.STATE : Fld := ⟨227, 3, .ro, 0x0, []⟩
def JIG_STG_STATUS.PORT : Fld := ⟨228, 1, .ro, 0x0, []⟩
def JIG_STG_STATUS.REASON : Fld := ⟨229, 4, .ro, 0x0, []⟩

/- JIG_FL_CMD (R434) -/
def JIG_FL_CMD.OPCODE : Fld := ⟨230, 8, .wo, 0x0, []⟩
def JIG_FL_CMD.LEN : Fld := ⟨231, 9, .wo, 0x0, [(0, 256)]⟩
def JIG_FL_CMD.DIR : Fld := ⟨232, 1, .wo, 0x0, []⟩
def JIG_FL_CMD.ADDR_EN : Fld := ⟨233, 1, .wo, 0x0, []⟩

/- JIG_FL_ADDR (R434) -/
def JIG_FL_ADDR.V : Fld := ⟨234, 32, .rw, 0x0, []⟩

/- JIG_FL_STATUS (R434) -/
def JIG_FL_STATUS.V : Fld := ⟨235, 2, .ro, 0x0, []⟩

/- JIG_FL_DATA (R434) -/
def JIG_FL_DATA.V : Fld := ⟨236, 32, .rw, 0x0, []⟩

/- CNT_CTL (R439) -/
def CNT_CTL.DEF_MASK : Fld := ⟨237, 8, .rw, 0xff, []⟩
def CNT_CTL.GO : Fld := ⟨238, 1, .wo, 0x0, []⟩

/- CNT_STATUS (R439) -/
def CNT_STATUS.BUSY : Fld := ⟨239, 1, .ro, 0x0, []⟩
def CNT_STATUS.LAST_BANK : Fld := ⟨240, 1, .ro, 0x0, []⟩
def CNT_STATUS.SKIPPED : Fld := ⟨241, 8, .rc, 0x0, []⟩
def CNT_STATUS.SWEEPS : Fld := ⟨242, 16, .ro, 0x0, []⟩

/- CNT_WRAP_ADDR (R437) -/
def CNT_WRAP_ADDR.A : Fld := ⟨243, 24, .rw, 0x0, []⟩

/- CNT_WRAP_STAT (R437) -/
def CNT_WRAP_STAT.WRAP : Fld := ⟨244, 1, .w1c, 0x0, []⟩
def CNT_WRAP_STAT.IS_COUNTER : Fld := ⟨245, 1, .ro, 0x0, []⟩

/- CNT_WRAP_SUM (R437) -/
def CNT_WRAP_SUM.V : Fld := ⟨246, 8, .ro, 0x0, []⟩

/- CNT_SMP_CTL (R443) -/
def CNT_SMP_CTL.EN : Fld := ⟨247, 1, .rw, 0x0, []⟩
def CNT_SMP_CTL.N : Fld := ⟨248, 24, .rw, 0x2710, [(1, 16777215)]⟩

/- CNT_SMP_SEED (R443) -/
def CNT_SMP_SEED.V : Fld := ⟨249, 32, .rw, 0x0, []⟩

/- CNT_SMP_HEAD (R444) -/
def CNT_SMP_HEAD.INDEX : Fld := ⟨250, 12, .ro, 0x0, []⟩
def CNT_SMP_HEAD.WRITTEN : Fld := ⟨251, 20, .ro, 0x0, []⟩

/- CNT_SMP_DROPPED (R443) -/
def CNT_SMP_DROPPED.V : Fld := ⟨252, 64, .ro, 0x0, []⟩

/- CNT_SMP_PORTS (R443) -/
def CNT_SMP_PORTS.HP : Fld := ⟨253, 32, .rw, 0x0, []⟩
def CNT_SMP_PORTS.LP : Fld := ⟨254, 16, .rw, 0x0, []⟩

/- MSIX_ENT (R386) -/
def MSIX_ENT.ADDR : Fld := ⟨255, 64, .rw, 0x0, []⟩
def MSIX_ENT.DATA : Fld := ⟨256, 32, .rw, 0x0, []⟩
def MSIX_ENT.MASK : Fld := ⟨257, 1, .rw, 0x1, []⟩

/- MSIX_PBA (R386) -/
def MSIX_PBA.V : Fld := ⟨258, 64, .ro, 0x0, []⟩

/- MEM_CH (R455) -/
def MEM_CH.STATE : Fld := ⟨259, 4, .ro, 0x0, []⟩
def MEM_CH.MR5 : Fld := ⟨260, 8, .ro, 0x0, []⟩
def MEM_CH.MR6 : Fld := ⟨261, 8, .ro, 0x0, []⟩
def MEM_CH.MR8 : Fld := ⟨262, 8, .ro, 0x0, []⟩
def MEM_CH.RETRAINS : Fld := ⟨263, 32, .ro, 0x0, []⟩
def MEM_CH.LECC_CORR : Fld := ⟨264, 64, .ro, 0x0, []⟩
def MEM_CH.LINK_UNCORR : Fld := ⟨265, 64, .ro, 0x0, []⟩

/- MEM_FENCED (R455) -/
def MEM_FENCED.V : Fld := ⟨266, 32, .ro, 0x0, []⟩

/- OFC_SESSION (R393) -/
def OFC_SESSION.STATE : Fld := ⟨267, 2, .ro, 0x0, []⟩
def OFC_SESSION.LAST : Fld := ⟨268, 4, .ro, 0x0, []⟩
def OFC_SESSION.FAILS : Fld := ⟨269, 8, .ro, 0x0, []⟩
def OFC_SESSION.IDLE_S : Fld := ⟨270, 16, .ro, 0x0, []⟩

/- OFC_LOCK (R393) -/
def OFC_LOCK.V : Fld := ⟨271, 1, .wo, 0x0, []⟩

/- OFC_CHAL_GO (R393) -/
def OFC_CHAL_GO.V : Fld := ⟨272, 1, .wo, 0x0, []⟩

/- OFC_LOCKDOWN (R393) -/
def OFC_LOCKDOWN.GO : Fld := ⟨273, 1, .wo, 0x0, []⟩
def OFC_LOCKDOWN.CONFIRM : Fld := ⟨274, 16, .wo, 0x0, []⟩

/- OFC_CHAL (R393) -/
def OFC_CHAL.V : Fld := ⟨275, 32, .ro, 0x0, []⟩

/- OFC_RESP (R393) -/
def OFC_RESP.V : Fld := ⟨276, 32, .wo, 0x0, []⟩

/- OFC_VIOL_CNT (R392) -/
def OFC_VIOL_CNT.V : Fld := ⟨277, 64, .ro, 0x0, []⟩

/- OFC_VIOL_LAST (R392) -/
def OFC_VIOL_LAST.KIND : Fld := ⟨278, 3, .ro, 0x0, []⟩
def OFC_VIOL_LAST.WRITE : Fld := ⟨279, 1, .ro, 0x0, []⟩
def OFC_VIOL_LAST.FUNC : Fld := ⟨280, 1, .ro, 0x0, []⟩
def OFC_VIOL_LAST.BAR2 : Fld := ⟨281, 1, .ro, 0x0, []⟩
def OFC_VIOL_LAST.OFFSET : Fld := ⟨282, 24, .ro, 0x0, []⟩

/- OFC_RESET (R55) -/
def OFC_RESET.WARM : Fld := ⟨283, 1, .wo, 0x0, []⟩
def OFC_RESET.WARM_AT : Fld := ⟨284, 1, .rw, 0x0, []⟩
def OFC_RESET.ARMED : Fld := ⟨285, 1, .ro, 0x0, []⟩

/- OFC_RESET_TIME0 (R55) -/
def OFC_RESET_TIME0.V : Fld := ⟨286, 32, .rw, 0x0, []⟩

/- OFC_RESET_TIME1 (R55) -/
def OFC_RESET_TIME1.V : Fld := ⟨287, 16, .rw, 0x0, []⟩

/- OFC_RESET_TIME2 (R55) -/
def OFC_RESET_TIME2.V : Fld := ⟨288, 30, .rw, 0x0, [(0, 999999999)]⟩

/- OFC_CLR_POLICY (R68) -/
def OFC_CLR_POLICY.EGR_EAPOL_OK : Fld := ⟨289, 1, .rw, 0x1, []⟩
def OFC_CLR_POLICY.EGR_OTHER_OK : Fld := ⟨290, 1, .rw, 0x0, []⟩
def OFC_CLR_POLICY.IGR_EAPOL_OK : Fld := ⟨291, 1, .rw, 0x1, []⟩
def OFC_CLR_POLICY.IGR_OTHER_OK : Fld := ⟨292, 1, .rw, 0x0, []⟩

/- OFC_RX_POLICY (R100) -/
def OFC_RX_POLICY.CHECK_OK : Fld := ⟨293, 1, .rw, 0x0, []⟩
def OFC_RX_POLICY.DISABLED_OK : Fld := ⟨294, 1, .rw, 0x0, []⟩

/- OFC_PERF (R442) -/
def OFC_PERF.PERF_USER_EN_OP : Fld := ⟨295, 1, .rw, 0x1, []⟩
def OFC_PERF.PERF_USER_EN_OBS : Fld := ⟨296, 1, .rw, 0x1, []⟩

/- OFC_TX_RESUME_LO (R58) -/
def OFC_TX_RESUME_LO.V : Fld := ⟨297, 32, .wo, 0x0, []⟩

/- OFC_TX_RESUME_HI (R58) -/
def OFC_TX_RESUME_HI.V : Fld := ⟨298, 32, .wo, 0x0, []⟩

/- OFC_CLM_CTL (R370) -/
def OFC_CLM_CTL.EVIN15_ROUTE : Fld := ⟨1, 1, .rw, 0x0, []⟩
def OFC_CLM_CTL.EVIN15_LOW : Fld := ⟨2, 1, .rw, 0x1, []⟩
def OFC_CLM_CTL.LOCK : Fld := ⟨3, 1, .w1s, 0x0, []⟩
def OFC_CLM_CTL.TEMP_LO : Fld := ⟨4, 8, .rw, 0xce, [(156, 215)]⟩
def OFC_CLM_CTL.TEMP_HI : Fld := ⟨5, 8, .rw, 0xa5, [(151, 175)]⟩

/- OFC_CLM_CLASS (R369) -/
def OFC_CLM_CLASS.MODE : Fld := ⟨6, 2, .rw, 0x0, [(0, 2)]⟩
def OFC_CLM_CLASS.K1 : Fld := ⟨7, 8, .rw, 0x1, [(1, 255)]⟩
def OFC_CLM_CLASS.K2 : Fld := ⟨8, 8, .rw, 0xff, []⟩
def OFC_CLM_CLASS.T_US : Fld := ⟨9, 32, .rw, 0xf4240, [(1, 3600000000)]⟩

/- LCY_STATE (R51) -/
def LCY_STATE.STATE : Fld := ⟨299, 3, .ro, 0x0, []⟩
def LCY_STATE.DEBUG : Fld := ⟨300, 1, .ro, 0x0, []⟩
def LCY_STATE.REOWN_USED : Fld := ⟨301, 5, .ro, 0x0, []⟩
def LCY_STATE.OWNER_ENTRY : Fld := ⟨302, 5, .ro, 0x0, []⟩

/- LCY_CMD (R52) -/
def LCY_CMD.CODE : Fld := ⟨303, 4, .wo, 0x0, [(1, 6)]⟩
def LCY_CMD.CONFIRM : Fld := ⟨304, 16, .wo, 0x0, []⟩

/- LCY_STATUS (R52) -/
def LCY_STATUS.V : Fld := ⟨305, 2, .ro, 0x0, []⟩

/- LCY_OPERAND (R52) -/
def LCY_OPERAND.V : Fld := ⟨306, 32, .rw, 0x0, []⟩

/- DBG_CTL (R456) -/
def DBG_CTL.ENTER : Fld := ⟨307, 1, .wo, 0x0, []⟩

/- DBG_STATUS (R456) -/
def DBG_STATUS.DEBUG : Fld := ⟨308, 1, .ro, 0x0, []⟩
def DBG_STATUS.UNLOCKED : Fld := ⟨309, 1, .ro, 0x0, []⟩

/- CLM_STATUS (R384) -/
def CLM_STATUS.ERASED : Fld := ⟨310, 1, .ro, 0x0, []⟩
def CLM_STATUS.DORMANT_ALARM : Fld := ⟨311, 1, .ro, 0x0, []⟩
def CLM_STATUS.PREERASED : Fld := ⟨312, 1, .ro, 0x0, []⟩
def CLM_STATUS.REFOSC : Fld := ⟨313, 1, .ro, 0x0, []⟩
def CLM_STATUS.LOCKED : Fld := ⟨314, 1, .ro, 0x0, []⟩
def CLM_STATUS.OPEN : Fld := ⟨315, 9, .ro, 0x0, []⟩

/- CLM_LOG_NEWEST (R378) -/
def CLM_LOG_NEWEST.V : Fld := ⟨316, 64, .ro, 0x0, []⟩

/- CLM_LOG_COUNT (R378) -/
def CLM_LOG_COUNT.COUNT : Fld := ⟨317, 9, .ro, 0x0, []⟩
def CLM_LOG_COUNT.NEWEST : Fld := ⟨318, 8, .ro, 0x0, []⟩

/- CLM_CLASS_CNT (R384) -/
def CLM_CLASS_CNT.V : Fld := ⟨10, 64, .ro, 0x0, []⟩

/- CLM_WIN (R384) -/
def CLM_WIN.V : Fld := ⟨319, 8, .ro, 0x0, []⟩

/- GLB_OFC_BOOT_KEY (R182) -/
def GLB_OFC_BOOT_KEY.V : Fld := ⟨320, 32, .wo, 0x0, []⟩

/- GLB_OFC_BOOT_GO (R182) -/
def GLB_OFC_BOOT_GO.V : Fld := ⟨321, 32, .wo, 0x0, []⟩

/- GLB_OFC_BOOT_STATUS (R182) -/
def GLB_OFC_BOOT_STATUS.V : Fld := ⟨322, 2, .ro, 0x0, []⟩

/- GLB_OFC_BOOT_OUT (R182) -/
def GLB_OFC_BOOT_OUT.V : Fld := ⟨323, 32, .rc, 0x0, []⟩

/- GLB_RCLK_CFG (R314) -/
def GLB_RCLK_CFG.LANE : Fld := ⟨324, 5, .rw, 0x0, []⟩
def GLB_RCLK_CFG.DIV : Fld := ⟨325, 2, .rw, 0x0, [(0, 2)]⟩
def GLB_RCLK_CFG.EN : Fld := ⟨326, 1, .rw, 0x0, []⟩
def GLB_RCLK_CFG.SQUELCH : Fld := ⟨327, 1, .rw, 0x1, []⟩
def GLB_RCLK_CFG.ACTIVE : Fld := ⟨328, 1, .ro, 0x0, []⟩

/- GLB_REFCLK_STATUS (R313) -/
def GLB_REFCLK_STATUS.HREF_OK : Fld := ⟨329, 1, .ro, 0x0, []⟩
def GLB_REFCLK_STATUS.LREF_OK : Fld := ⟨330, 1, .ro, 0x0, []⟩

/- CLS_EGR (R64) -/
def CLS_EGR.VALID : Fld := ⟨331, 1, .rw, 0x0, []⟩
def CLS_EGR.ACTION : Fld := ⟨332, 3, .rw, 0x0, [(0, 3)]⟩
def CLS_EGR.QSEL : Fld := ⟨333, 2, .rw, 0x0, [(0, 2)]⟩
def CLS_EGR.SC : Fld := ⟨334, 12, .rw, 0x0, []⟩
def CLS_EGR.LPORT : Fld := ⟨335, 4, .rw, 0x0, []⟩
def CLS_EGR.CQ : Fld := ⟨336, 2, .rw, 0x0, []⟩
def CLS_EGR.PUNT_RING : Fld := ⟨337, 6, .rw, 0x0, []⟩
def CLS_EGR.HPORT : Fld := ⟨338, 5, .rw, 0x0, []⟩
def CLS_EGR.HPORT_MASK : Fld := ⟨339, 5, .rw, 0x0, []⟩
def CLS_EGR.DA : Fld := ⟨340, 48, .rw, 0x0, []⟩
def CLS_EGR.DA_MASK : Fld := ⟨341, 48, .rw, 0x0, []⟩
def CLS_EGR.SA : Fld := ⟨342, 48, .rw, 0x0, []⟩
def CLS_EGR.SA_MASK : Fld := ⟨343, 48, .rw, 0x0, []⟩
def CLS_EGR.ETYPE : Fld := ⟨344, 16, .rw, 0x0, []⟩
def CLS_EGR.ETYPE_MASK : Fld := ⟨345, 16, .rw, 0x0, []⟩
def CLS_EGR.VID : Fld := ⟨346, 12, .rw, 0x0, []⟩
def CLS_EGR.VID_MASK : Fld := ⟨347, 12, .rw, 0x0, []⟩
def CLS_EGR.PCP : Fld := ⟨348, 3, .rw, 0x0, []⟩
def CLS_EGR.PCP_MASK : Fld := ⟨349, 3, .rw, 0x0, []⟩
def CLS_EGR.TAGGED : Fld := ⟨350, 1, .rw, 0x0, []⟩
def CLS_EGR.TAGGED_CARE : Fld := ⟨351, 1, .rw, 0x0, []⟩
def CLS_EGR.HITS : Fld := ⟨352, 64, .ro, 0x0, []⟩

/- CLS_IGR (R93) -/
def CLS_IGR.VALID : Fld := ⟨353, 1, .rw, 0x0, []⟩
def CLS_IGR.ACTION : Fld := ⟨354, 3, .rw, 0x0, [(0, 3)]⟩
def CLS_IGR.SECTAG : Fld := ⟨355, 1, .rw, 0x0, []⟩
def CLS_IGR.SECTAG_CARE : Fld := ⟨356, 1, .rw, 0x0, []⟩
def CLS_IGR.SC : Fld := ⟨357, 12, .rw, 0x0, []⟩
def CLS_IGR.HPORT : Fld := ⟨358, 5, .rw, 0x0, []⟩
def CLS_IGR.PUNT_RING : Fld := ⟨359, 6, .rw, 0x0, []⟩
def CLS_IGR.LPORT : Fld := ⟨360, 4, .rw, 0x0, []⟩
def CLS_IGR.LPORT_MASK : Fld := ⟨361, 4, .rw, 0x0, []⟩
def CLS_IGR.SCI : Fld := ⟨362, 64, .rw, 0x0, []⟩
def CLS_IGR.SCI_MASK : Fld := ⟨363, 64, .rw, 0x0, []⟩
def CLS_IGR.DA : Fld := ⟨364, 48, .rw, 0x0, []⟩
def CLS_IGR.DA_MASK : Fld := ⟨365, 48, .rw, 0x0, []⟩
def CLS_IGR.ETYPE : Fld := ⟨366, 16, .rw, 0x0, []⟩
def CLS_IGR.ETYPE_MASK : Fld := ⟨367, 16, .rw, 0x0, []⟩
def CLS_IGR.HITS : Fld := ⟨368, 64, .ro, 0x0, []⟩

/- SCT_TX (R70) -/
def SCT_TX.VALID : Fld := ⟨369, 1, .rw, 0x0, []⟩
def SCT_TX.SUITE : Fld := ⟨370, 2, .rw, 0x0, []⟩
def SCT_TX.CONF : Fld := ⟨371, 1, .rw, 0x1, []⟩
def SCT_TX.OFFSET : Fld := ⟨372, 2, .rw, 0x0, [(0, 2)]⟩
def SCT_TX.SC_BIT : Fld := ⟨373, 1, .rw, 0x1, []⟩
def SCT_TX.ES : Fld := ⟨374, 1, .rw, 0x0, []⟩
def SCT_TX.KEYING : Fld := ⟨375, 1, .rw, 0x0, []⟩
def SCT_TX.CUR : Fld := ⟨376, 1, .ro, 0x0, []⟩
def SCT_TX.LPORT : Fld := ⟨377, 4, .rw, 0x0, []⟩
def SCT_TX.GROUP : Fld := ⟨378, 8, .rw, 0x0, []⟩
def SCT_TX.CAK_SLOT : Fld := ⟨379, 8, .rw, 0x0, []⟩
def SCT_TX.LIMIT_EN : Fld := ⟨380, 1, .rw, 0x0, []⟩
def SCT_TX.LIMIT_UNIT : Fld := ⟨381, 1, .rw, 0x0, []⟩
def SCT_TX.SCHED : Fld := ⟨382, 8, .rw, 0x0, []⟩
def SCT_TX.EV_THRESH : Fld := ⟨383, 1, .w1c, 0x0, []⟩
def SCT_TX.EV_SWITCH : Fld := ⟨384, 1, .w1c, 0x0, []⟩
def SCT_TX.EV_EXHAUST : Fld := ⟨385, 1, .w1c, 0x0, []⟩
def SCT_TX.EV_SWITCH_MISS : Fld := ⟨386, 1, .w1c, 0x0, []⟩
def SCT_TX.EV_KEY_GONE : Fld := ⟨387, 1, .w1c, 0x0, []⟩
def SCT_TX.EV_REISSUE_LIMIT : Fld := ⟨388, 1, .w1c, 0x0, []⟩
def SCT_TX.SCI : Fld := ⟨389, 64, .rw, 0x0, []⟩
def SCT_TX.PN_THRESH : Fld := ⟨390, 64, .rw, 0xc0000000, []⟩
def SCT_TX.LIMIT : Fld := ⟨391, 64, .rw, 0x0, []⟩
def SCT_TX.PKTS : Fld := ⟨392, 64, .ro, 0x0, []⟩
def SCT_TX.OCTETS : Fld := ⟨393, 64, .ro, 0x0, []⟩
def SCT_TX.D_EXHAUSTED : Fld := ⟨394, 64, .ro, 0x0, []⟩
def SCT_TX.D_KEY_PENDING : Fld := ⟨395, 64, .ro, 0x0, []⟩
def SCT_TX.D_KEY_GONE : Fld := ⟨396, 64, .ro, 0x0, []⟩
def SCT_TX.D_REISSUE : Fld := ⟨397, 64, .ro, 0x0, []⟩
def SCT_TX.D_REGION : Fld := ⟨398, 64, .ro, 0x0, []⟩
def SCT_TX.SWITCHES : Fld := ⟨399, 64, .ro, 0x0, []⟩
def SCT_TX.D_INVALID : Fld := ⟨400, 64, .ro, 0x0, []⟩

/- SCT_RX (R98) -/
def SCT_RX.VALID : Fld := ⟨401, 1, .rw, 0x0, []⟩
def SCT_RX.SUITE : Fld := ⟨402, 2, .rw, 0x0, []⟩
def SCT_RX.VALIDATE : Fld := ⟨403, 2, .rw, 0x2, [(0, 2)]⟩
def SCT_RX.OFFSET : Fld := ⟨404, 2, .rw, 0x0, [(0, 2)]⟩
def SCT_RX.REPLAY_PROTECT : Fld := ⟨405, 1, .rw, 0x1, []⟩
def SCT_RX.KEYING : Fld := ⟨406, 1, .rw, 0x0, []⟩
def SCT_RX.AUTO_ACCEPT : Fld := ⟨407, 1, .rw, 0x1, []⟩
def SCT_RX.CUR : Fld := ⟨408, 1, .ro, 0x0, []⟩
def SCT_RX.EFF_VALIDATE : Fld := ⟨409, 2, .ro, 0x2, []⟩
def SCT_RX.LPORT : Fld := ⟨410, 4, .rw, 0x0, []⟩
def SCT_RX.HPORT : Fld := ⟨411, 5, .rw, 0x0, []⟩
def SCT_RX.GROUP : Fld := ⟨412, 8, .rw, 0x0, []⟩
def SCT_RX.SCHED : Fld := ⟨413, 8, .rw, 0x0, []⟩
def SCT_RX.EV_SWITCH : Fld := ⟨414, 1, .w1c, 0x0, []⟩
def SCT_RX.EV_RETIRE : Fld := ⟨415, 1, .w1c, 0x0, []⟩
def SCT_RX.EV_NO_SA : Fld := ⟨416, 1, .w1c, 0x0, []⟩
def SCT_RX.EV_KEY_GONE : Fld := ⟨417, 1, .w1c, 0x0, []⟩
def SCT_RX.EV_REISSUE_LIMIT : Fld := ⟨418, 1, .w1c, 0x0, []⟩
def SCT_RX.EV_EXHAUST : Fld := ⟨419, 1, .w1c, 0x0, []⟩
def SCT_RX.CAK_SLOT : Fld := ⟨420, 8, .rw, 0x0, []⟩
def SCT_RX.WINDOW : Fld := ⟨421, 30, .rw, 0x0, []⟩
def SCT_RX.OVERLAP : Fld := ⟨422, 20, .rw, 0x7d0, [(0, 1000000)]⟩
def SCT_RX.SCI : Fld := ⟨423, 64, .rw, 0x0, []⟩
def SCT_RX.IN_OK : Fld := ⟨424, 64, .ro, 0x0, []⟩
def SCT_RX.IN_INVALID : Fld := ⟨425, 64, .ro, 0x0, []⟩
def SCT_RX.IN_NOT_VALID : Fld := ⟨426, 64, .ro, 0x0, []⟩
def SCT_RX.IN_UNCHECKED : Fld := ⟨427, 64, .ro, 0x0, []⟩
def SCT_RX.IN_DELAYED : Fld := ⟨428, 64, .ro, 0x0, []⟩
def SCT_RX.IN_LATE : Fld := ⟨429, 64, .ro, 0x0, []⟩
def SCT_RX.IN_NOT_USING_SA : Fld := ⟨430, 64, .ro, 0x0, []⟩
def SCT_RX.IN_UNUSED_SA : Fld := ⟨431, 64, .ro, 0x0, []⟩
def SCT_RX.D_KEY_GONE : Fld := ⟨432, 64, .ro, 0x0, []⟩
def SCT_RX.D_REISSUE : Fld := ⟨433, 64, .ro, 0x0, []⟩
def SCT_RX.D_OVERRUN : Fld := ⟨434, 64, .ro, 0x0, []⟩
def SCT_RX.D_HOST_CONGEST : Fld := ⟨435, 64, .ro, 0x0, []⟩
def SCT_RX.D_REGION : Fld := ⟨436, 64, .ro, 0x0, []⟩

/- SAT_TX (R73) -/
def SAT_TX.INSTALLED : Fld := ⟨437, 1, .ro, 0x0, []⟩
def SAT_TX.AN : Fld := ⟨438, 2, .rw, 0x0, []⟩
def SAT_TX.ORPHAN : Fld := ⟨439, 1, .ro, 0x0, []⟩
def SAT_TX.STATE : Fld := ⟨440, 3, .ro, 0x0, []⟩
def SAT_TX.THRESH_HIT : Fld := ⟨441, 1, .ro, 0x0, []⟩
def SAT_TX.EXH_CAUSE : Fld := ⟨442, 2, .ro, 0x0, []⟩
def SAT_TX.NEXT_PN : Fld := ⟨443, 64, .rw, 0x1, []⟩
def SAT_TX.SSCI : Fld := ⟨444, 32, .rw, 0x0, []⟩
def SAT_TX.SALT : Fld := ⟨445, 96, .rw, 0x0, []⟩
def SAT_TX.USED : Fld := ⟨446, 64, .ro, 0x0, []⟩
def SAT_TX.PKTS : Fld := ⟨447, 64, .ro, 0x0, []⟩

/- SAT_RX (R101) -/
def SAT_RX.INSTALLED : Fld := ⟨448, 1, .ro, 0x0, []⟩
def SAT_RX.AN : Fld := ⟨449, 2, .rw, 0x0, []⟩
def SAT_RX.ORPHAN : Fld := ⟨450, 1, .ro, 0x0, []⟩
def SAT_RX.STATE : Fld := ⟨451, 3, .ro, 0x0, []⟩
def SAT_RX.RETIRE_ARMED : Fld := ⟨452, 1, .ro, 0x0, []⟩
def SAT_RX.NEXT_PN : Fld := ⟨453, 64, .rw, 0x1, []⟩
def SAT_RX.SSCI : Fld := ⟨454, 32, .rw, 0x0, []⟩
def SAT_RX.SALT : Fld := ⟨455, 96, .rw, 0x0, []⟩
def SAT_RX.FLOOR : Fld := ⟨456, 64, .ro, 0x1, []⟩
def SAT_RX.RETIRE_AT_S : Fld := ⟨457, 32, .ro, 0x0, []⟩
def SAT_RX.RETIRE_AT_NS : Fld := ⟨458, 30, .ro, 0x0, []⟩
def SAT_RX.IN_OK : Fld := ⟨459, 64, .ro, 0x0, []⟩
def SAT_RX.IN_FAIL : Fld := ⟨460, 64, .ro, 0x0, []⟩

/- RGN_HPCLS (R69) -/
def RGN_HPCLS.NO_RULE : Fld := ⟨461, 64, .ro, 0x0, []⟩
def RGN_HPCLS.RULE_DROP : Fld := ⟨462, 64, .ro, 0x0, []⟩
def RGN_HPCLS.CLEAR_DENIED : Fld := ⟨463, 64, .ro, 0x0, []⟩
def RGN_HPCLS.SC_INVALID : Fld := ⟨464, 64, .ro, 0x0, []⟩
def RGN_HPCLS.PUNTED : Fld := ⟨465, 64, .ro, 0x0, []⟩
def RGN_HPCLS.CLEARED : Fld := ⟨466, 64, .ro, 0x0, []⟩
def RGN_HPCLS.TO_PROTECT : Fld := ⟨467, 64, .ro, 0x0, []⟩
def RGN_HPCLS.OVERSIZE : Fld := ⟨468, 64, .ro, 0x0, []⟩

/- RGN_LPIGR (R116) -/
def RGN_LPIGR.OVERSIZE : Fld := ⟨469, 64, .ro, 0x0, []⟩
def RGN_LPIGR.NO_TAG : Fld := ⟨470, 64, .ro, 0x0, []⟩
def RGN_LPIGR.BAD_TAG : Fld := ⟨471, 64, .ro, 0x0, []⟩
def RGN_LPIGR.NO_SCI : Fld := ⟨472, 64, .ro, 0x0, []⟩
def RGN_LPIGR.UNKNOWN_SCI : Fld := ⟨473, 64, .ro, 0x0, []⟩
def RGN_LPIGR.RULE_DROP : Fld := ⟨474, 64, .ro, 0x0, []⟩
def RGN_LPIGR.CLEAR_DENIED : Fld := ⟨475, 64, .ro, 0x0, []⟩
def RGN_LPIGR.CLEARED : Fld := ⟨476, 64, .ro, 0x0, []⟩
def RGN_LPIGR.PUNTED : Fld := ⟨477, 64, .ro, 0x0, []⟩
def RGN_LPIGR.TO_VALIDATE : Fld := ⟨478, 64, .ro, 0x0, []⟩
def RGN_LPIGR.OCT_VALIDATED : Fld := ⟨479, 64, .ro, 0x0, []⟩
def RGN_LPIGR.OCT_DECRYPTED : Fld := ⟨480, 64, .ro, 0x0, []⟩
def RGN_LPIGR.D_REGION : Fld := ⟨481, 64, .ro, 0x0, []⟩
def RGN_LPIGR.D_CONGEST : Fld := ⟨482, 64, .ro, 0x0, []⟩
def RGN_LPIGR.EXC_COPIES : Fld := ⟨483, 64, .ro, 0x0, []⟩
def RGN_LPIGR.MODE_DISCARD : Fld := ⟨484, 64, .ro, 0x0, []⟩

/- RGN_LP_RXCFG (R96) -/
def RGN_LP_RXCFG.IMPLICIT_SCI : Fld := ⟨485, 64, .rw, 0x0, []⟩
def RGN_LP_RXCFG.IMPLICIT_EN : Fld := ⟨486, 1, .rw, 0x0, []⟩
def RGN_LP_RXCFG.EXC_EN : Fld := ⟨487, 1, .rw, 0x0, []⟩
def RGN_LP_RXCFG.EXC_RING : Fld := ⟨488, 6, .rw, 0x0, []⟩
def RGN_LP_RXCFG.EXC_MASK : Fld := ⟨489, 6, .rw, 0x0, []⟩

/- RGN_IGR_POOL (R113) -/
def RGN_IGR_POOL.RESERVE : Fld := ⟨490, 16, .rw, 0x2000, [(1024, 32768)]⟩
def RGN_IGR_POOL.HP_LIMIT : Fld := ⟨491, 16, .rw, 0x1000, [(256, 32768)]⟩

/- RGN_CELL_STATUS (R283) -/
def RGN_CELL_STATUS.FREE : Fld := ⟨492, 17, .ro, 0x10000, []⟩
def RGN_CELL_STATUS.IGR_USED : Fld := ⟨493, 17, .ro, 0x0, []⟩
def RGN_CELL_STATUS.EGR_USED : Fld := ⟨494, 17, .ro, 0x0, []⟩
def RGN_CELL_STATUS.HQ_USED : Fld := ⟨495, 17, .ro, 0x0, []⟩

/- RGN_PPE_STATUS (R89) -/
def RGN_PPE_STATUS.STATE : Fld := ⟨496, 4, .ro, 0x1, []⟩
def RGN_PPE_STATUS.TRANS_10S : Fld := ⟨497, 3, .ro, 0x0, []⟩
def RGN_PPE_STATUS.LAST_CAUSE : Fld := ⟨498, 8, .ro, 0x0, []⟩

/- RGN_PPE_MISMATCH (R89) -/
def RGN_PPE_MISMATCH.V : Fld := ⟨499, 64, .ro, 0x0, []⟩

/- RGN_HPORT (R321) -/
def RGN_HPORT.EN : Fld := ⟨500, 1, .rw, 0x0, []⟩
def RGN_HPORT.SPEED : Fld := ⟨501, 2, .rw, 0x0, [(0, 2)]⟩
def RGN_HPORT.LINK : Fld := ⟨502, 1, .ro, 0x0, []⟩
def RGN_HPORT.RX_LF : Fld := ⟨503, 1, .ro, 0x0, []⟩
def RGN_HPORT.RX_RF : Fld := ⟨504, 1, .ro, 0x0, []⟩
def RGN_HPORT.TX_LF : Fld := ⟨505, 1, .ro, 0x0, []⟩
def RGN_HPORT.EV_LINK : Fld := ⟨506, 1, .w1c, 0x0, []⟩
def RGN_HPORT.EV_FEC_DEG : Fld := ⟨507, 1, .w1c, 0x0, []⟩
def RGN_HPORT.MAC : Fld := ⟨508, 48, .rw, 0x0, []⟩
def RGN_HPORT.FEC_DEG_THR : Fld := ⟨509, 16, .rw, 0x400, []⟩

/- RGN_LPORT (R322) -/
def RGN_LPORT.ALLOW_EN : Fld := ⟨510, 1, .rw, 0x0, []⟩
def RGN_LPORT.MOD_STATE : Fld := ⟨511, 3, .ro, 0x0, []⟩
def RGN_LPORT.MOD_PRESENT : Fld := ⟨512, 1, .ro, 0x0, []⟩
def RGN_LPORT.MOD_REINIT : Fld := ⟨513, 1, .wo, 0x0, []⟩
def RGN_LPORT.EV_MOD : Fld := ⟨514, 1, .w1c, 0x0, []⟩
def RGN_LPORT.EV_DENIED : Fld := ⟨515, 1, .w1c, 0x0, []⟩
def RGN_LPORT.EV_EOL : Fld := ⟨516, 1, .w1c, 0x0, []⟩
def RGN_LPORT.EV_MODFLAG : Fld := ⟨517, 1, .w1c, 0x0, []⟩
def RGN_LPORT.APPSEL : Fld := ⟨518, 4, .rw, 0x1, [(1, 15)]⟩
def RGN_LPORT.READY_MS : Fld := ⟨519, 16, .rw, 0x7d0, [(100, 60000)]⟩
def RGN_LPORT.POLL_MS : Fld := ⟨520, 16, .rw, 0x64, [(10, 10000)]⟩
def RGN_LPORT.EOL_PCT : Fld := ⟨521, 8, .rw, 0x14, [(1, 100)]⟩

/- RGN_LMOD (R332) -/
def RGN_LMOD.VENDOR : Fld := ⟨522, 128, .ro, 0x0, []⟩
def RGN_LMOD.PART : Fld := ⟨523, 128, .ro, 0x0, []⟩
def RGN_LMOD.SERIAL : Fld := ⟨524, 128, .ro, 0x0, []⟩
def RGN_LMOD.HASH : Fld := ⟨525, 256, .ro, 0x0, []⟩
def RGN_LMOD.VALID : Fld := ⟨526, 1, .ro, 0x0, []⟩

/- RGN_HPCNT (R323) -/
def RGN_HPCNT.RX_FRAMES : Fld := ⟨527, 64, .ro, 0x0, []⟩
def RGN_HPCNT.RX_OCTETS : Fld := ⟨528, 64, .ro, 0x0, []⟩
def RGN_HPCNT.RX_FCS_ERR : Fld := ⟨529, 64, .ro, 0x0, []⟩
def RGN_HPCNT.RX_RUNT : Fld := ⟨530, 64, .ro, 0x0, []⟩
def RGN_HPCNT.RX_CTRL : Fld := ⟨531, 64, .ro, 0x0, []⟩
def RGN_HPCNT.TX_FRAMES : Fld := ⟨532, 64, .ro, 0x0, []⟩
def RGN_HPCNT.TX_OCTETS : Fld := ⟨533, 64, .ro, 0x0, []⟩
def RGN_HPCNT.FEC_CW : Fld := ⟨534, 64, .ro, 0x0, []⟩
def RGN_HPCNT.FEC_CORR : Fld := ⟨535, 64, .ro, 0x0, []⟩
def RGN_HPCNT.FEC_UNCORR : Fld := ⟨536, 64, .ro, 0x0, []⟩
def RGN_HPCNT.FEC_SYM : Fld := ⟨537, 64, .ro, 0x0, []⟩
def RGN_HPCNT.LINK_DOWNS : Fld := ⟨538, 64, .ro, 0x0, []⟩

/- RGN_LMON (R333) -/
def RGN_LMON.TEMP : Fld := ⟨539, 16, .ro, 0x0, []⟩
def RGN_LMON.VCC : Fld := ⟨540, 16, .ro, 0x0, []⟩
def RGN_LMON.BIAS : Fld := ⟨541, 128, .ro, 0x0, []⟩
def RGN_LMON.BIAS_BASE : Fld := ⟨542, 128, .ro, 0x0, []⟩
def RGN_LMON.BASE_VALID : Fld := ⟨543, 1, .ro, 0x0, []⟩
def RGN_LMON.FLAGS : Fld := ⟨544, 48, .ro, 0x0, []⟩

/- RGN_MODACC (R334) -/
def RGN_MODACC.SLOT : Fld := ⟨545, 2, .wo, 0x0, []⟩
def RGN_MODACC.WRITE : Fld := ⟨546, 1, .wo, 0x0, []⟩
def RGN_MODACC.LENM1 : Fld := ⟨547, 3, .wo, 0x0, []⟩
def RGN_MODACC.BANK : Fld := ⟨548, 8, .wo, 0x0, []⟩
def RGN_MODACC.PAGE : Fld := ⟨549, 8, .wo, 0x0, []⟩
def RGN_MODACC.ADDR : Fld := ⟨550, 8, .wo, 0x0, []⟩

/- RGN_MODACC_STATUS (R334) -/
def RGN_MODACC_STATUS.V : Fld := ⟨551, 3, .ro, 0x0, []⟩

/- RGN_MODACC_DATA (R334) -/
def RGN_MODACC_DATA.V : Fld := ⟨552, 32, .rw, 0x0, []⟩

/- RGN_HLANE (R324) -/
def RGN_HLANE.TX_PRE1 : Fld := ⟨553, 6, .rw, 0x4, [(0, 16)]⟩
def RGN_HLANE.TX_MAIN : Fld := ⟨554, 6, .rw, 0x33, [(24, 63)]⟩
def RGN_HLANE.TX_POST1 : Fld := ⟨555, 6, .rw, 0x8, [(0, 24)]⟩
def RGN_HLANE.CTLE_AUTO : Fld := ⟨556, 1, .rw, 0x1, []⟩
def RGN_HLANE.CTLE_CODE : Fld := ⟨557, 4, .rw, 0x8, []⟩
def RGN_HLANE.LOCKED : Fld := ⟨558, 1, .ro, 0x0, []⟩
def RGN_HLANE.FENCED : Fld := ⟨559, 1, .ro, 0x0, []⟩
def RGN_HLANE.ADAPTED : Fld := ⟨560, 1, .ro, 0x0, []⟩
def RGN_HLANE.SIGNAL : Fld := ⟨561, 1, .ro, 0x0, []⟩
def RGN_HLANE.PRBS_GEN : Fld := ⟨562, 3, .rw, 0x0, [(0, 3)]⟩
def RGN_HLANE.PRBS_CHK : Fld := ⟨563, 3, .rw, 0x0, [(0, 3)]⟩
def RGN_HLANE.CHK_LOCK : Fld := ⟨564, 1, .ro, 0x0, []⟩
def RGN_HLANE.CHK_CLR : Fld := ⟨565, 1, .wo, 0x0, []⟩
def RGN_HLANE.PRBS_ERR : Fld := ⟨566, 64, .ro, 0x0, []⟩
def RGN_HLANE.PRBS_SYM : Fld := ⟨567, 64, .ro, 0x0, []⟩
def RGN_HLANE.EYE_UPPER : Fld := ⟨568, 8, .ro, 0x0, []⟩
def RGN_HLANE.EYE_MIDDLE : Fld := ⟨569, 8, .ro, 0x0, []⟩
def RGN_HLANE.EYE_LOWER : Fld := ⟨570, 8, .ro, 0x0, []⟩
def RGN_HLANE.EYE_WIDTH : Fld := ⟨571, 6, .ro, 0x0, []⟩
def RGN_HLANE.SNR : Fld := ⟨572, 8, .ro, 0x0, []⟩
def RGN_HLANE.LOCK_LOSSES : Fld := ⟨573, 64, .ro, 0x0, []⟩

/- RGN_LLANE (R324) -/
def RGN_LLANE.TX_PRE2 : Fld := ⟨574, 3, .rw, 0x0, []⟩
def RGN_LLANE.TX_POST2 : Fld := ⟨575, 3, .rw, 0x0, []⟩
def RGN_LLANE.DFE_FREEZE : Fld := ⟨576, 1, .rw, 0x0, []⟩
def RGN_LLANE.DFE_RESTART : Fld := ⟨577, 1, .wo, 0x0, []⟩
def RGN_LLANE.DFE_TAPS : Fld := ⟨578, 96, .ro, 0x0, []⟩

/- QUE_DQ (R249) -/
def QUE_DQ.QLIMIT : Fld := ⟨579, 16, .rw, 0x800, [(1, 65535)]⟩
def QUE_DQ.GUAR : Fld := ⟨580, 16, .rw, 0x0, [(0, 16384)]⟩
def QUE_DQ.ALPHA : Fld := ⟨581, 3, .rw, 0x4, []⟩
def QUE_DQ.SPILL_EN : Fld := ⟨582, 1, .rw, 0x0, []⟩
def QUE_DQ.QUANTUM : Fld := ⟨583, 19, .rw, 0x800, [(64, 262144)]⟩
def QUE_DQ.AGE_US : Fld := ⟨584, 20, .rw, 0x0, [(0, 1000000)]⟩
def QUE_DQ.DB_LIMIT : Fld := ⟨585, 16, .rw, 0x0, []⟩
def QUE_DQ.DEPTH : Fld := ⟨586, 16, .ro, 0x0, []⟩
def QUE_DQ.MAX_DEPTH : Fld := ⟨587, 16, .rc, 0x0, []⟩
def QUE_DQ.DB_CELLS : Fld := ⟨588, 20, .ro, 0x0, []⟩
def QUE_DQ.SPILLING : Fld := ⟨589, 1, .ro, 0x0, []⟩
def QUE_DQ.HELD : Fld := ⟨590, 1, .ro, 0x0, []⟩
def QUE_DQ.FRAMES : Fld := ⟨591, 32, .ro, 0x0, []⟩

/- QUE_SHP (R251) -/
def QUE_SHP.ENABLE : Fld := ⟨592, 1, .rw, 0x0, []⟩
def QUE_SHP.INIT : Fld := ⟨593, 1, .wo, 0x0, []⟩
def QUE_SHP.STAGE : Fld := ⟨594, 1, .wo, 0x0, []⟩
def QUE_SHP.PENDING : Fld := ⟨595, 1, .ro, 0x0, []⟩
def QUE_SHP.EGROUP : Fld := ⟨596, 8, .rw, 0x0, []⟩
def QUE_SHP.LEN_ADJ : Fld := ⟨597, 6, .rw, 0x14, []⟩
def QUE_SHP.RATE : Fld := ⟨598, 32, .rw, 0x0, []⟩
def QUE_SHP.BURST : Fld := ⟨599, 24, .rw, 0x4000, [(64, 16777215)]⟩
def QUE_SHP.LEVEL : Fld := ⟨600, 32, .ro, 0x4000, []⟩

/- QUE_DCNT (R258) -/
def QUE_DCNT.ADMITTED : Fld := ⟨601, 64, .ro, 0x0, []⟩
def QUE_DCNT.DEQUEUED : Fld := ⟨602, 64, .ro, 0x0, []⟩
def QUE_DCNT.D_QUEUE_LIMIT : Fld := ⟨603, 64, .ro, 0x0, []⟩
def QUE_DCNT.D_POOL : Fld := ⟨604, 64, .ro, 0x0, []⟩
def QUE_DCNT.D_GUARD : Fld := ⟨605, 64, .ro, 0x0, []⟩
def QUE_DCNT.D_AGED : Fld := ⟨606, 64, .ro, 0x0, []⟩
def QUE_DCNT.D_MODE : Fld := ⟨607, 64, .ro, 0x0, []⟩
def QUE_DCNT.D_REGION : Fld := ⟨608, 64, .ro, 0x0, []⟩

/- PLN_HPFC (R260) -/
def PLN_HPFC.PFC_EN : Fld := ⟨609, 8, .rw, 0x0, []⟩
def PLN_HPFC.DEF_PRIO : Fld := ⟨610, 3, .rw, 0x0, []⟩
def PLN_HPFC.QUANTA : Fld := ⟨611, 16, .rw, 0xffff, []⟩
def PLN_HPFC.XOFF : Fld := ⟨612, 16, .rw, 0x1000, []⟩
def PLN_HPFC.XON : Fld := ⟨613, 16, .rw, 0x800, []⟩
def PLN_HPFC.REFRESH : Fld := ⟨614, 16, .rw, 0x8000, []⟩
def PLN_HPFC.PAUSED : Fld := ⟨615, 8, .ro, 0x0, []⟩
def PLN_HPFC.OCC : Fld := ⟨616, 128, .ro, 0x0, []⟩
def PLN_HPFC.XOFF_TX : Fld := ⟨617, 64, .ro, 0x0, []⟩
def PLN_HPFC.XON_TX : Fld := ⟨618, 64, .ro, 0x0, []⟩

/- PLN_POOL (R262) -/
def PLN_POOL.POOL_XOFF : Fld := ⟨619, 17, .rw, 0x10000, []⟩
def PLN_POOL.POOL_XON : Fld := ⟨620, 17, .rw, 0xf000, []⟩
def PLN_POOL.USED : Fld := ⟨621, 17, .ro, 0x0, []⟩
def PLN_POOL.SHARED : Fld := ⟨622, 17, .ro, 0x0, []⟩

/- PLN_QEV (R259) -/
def PLN_QEV.V : Fld := ⟨623, 32, .w1c, 0x0, []⟩

/- PLN_TXSA_ADV_SUM (R81) -/
def PLN_TXSA_ADV_SUM.V : Fld := ⟨624, 64, .ro, 0x0, []⟩

/- PLN_TXSA_FLT_SUM (R81) -/
def PLN_TXSA_FLT_SUM.V : Fld := ⟨625, 64, .ro, 0x0, []⟩

/- PLN_TXSA_CMD (R79) -/
def PLN_TXSA_CMD.TARGET : Fld := ⟨626, 12, .wo, 0x0, []⟩
def PLN_TXSA_CMD.IS_GROUP : Fld := ⟨627, 1, .wo, 0x0, []⟩
def PLN_TXSA_CMD.OP : Fld := ⟨628, 2, .wo, 0x0, [(1, 1)]⟩

/- PLN_RXSA_ADV_SUM (R117) -/
def PLN_RXSA_ADV_SUM.V : Fld := ⟨629, 64, .ro, 0x0, []⟩

/- PLN_RXSA_FLT_SUM (R117) -/
def PLN_RXSA_FLT_SUM.V : Fld := ⟨630, 64, .ro, 0x0, []⟩

/- PLN_RXSA_CMD (R105) -/
def PLN_RXSA_CMD.TARGET : Fld := ⟨631, 12, .wo, 0x0, []⟩
def PLN_RXSA_CMD.IS_GROUP : Fld := ⟨632, 1, .wo, 0x0, []⟩
def PLN_RXSA_CMD.OP : Fld := ⟨633, 2, .wo, 0x0, [(1, 2)]⟩

/- TIM_NOW (R119) -/
def TIM_NOW.V : Fld := ⟨634, 96, .ro, 0x0, []⟩

/- TIM_INCR (R120) -/
def TIM_INCR.FRAC32 : Fld := ⟨64, 32, .rw, 0xcccccccd, []⟩
def TIM_INCR.INT : Fld := ⟨65, 4, .rw, 0x0, []⟩

/- TIM_SLEW (R121) -/
def TIM_SLEW.OFFSET : Fld := ⟨635, 32, .wo, 0x0, []⟩

/- TIM_SLEW_RATE (R121) -/
def TIM_SLEW_RATE.RATE_PPB : Fld := ⟨66, 17, .rw, 0x2710, [(1000, 100000)]⟩

/- TIM_SLEW_REMAIN (R121) -/
def TIM_SLEW_REMAIN.V : Fld := ⟨636, 32, .ro, 0x0, []⟩

/- TIM_STEP (R122) -/
def TIM_STEP.VAL : Fld := ⟨637, 96, .rw, 0x0, []⟩
def TIM_STEP.GO : Fld := ⟨638, 1, .wo, 0x0, []⟩
def TIM_STEP.KIND : Fld := ⟨639, 2, .rw, 0x0, []⟩

/- TIM_DISC (R124) -/
def TIM_DISC.MODE : Fld := ⟨67, 2, .rw, 0x0, [(0, 1)]⟩
def TIM_DISC.PPS_FALLING : Fld := ⟨68, 1, .rw, 0x0, []⟩
def TIM_DISC.PPS_SEED : Fld := ⟨69, 1, .rw, 0x1, []⟩
def TIM_DISC.KEEP_TIMEOUT : Fld := ⟨70, 8, .rw, 0x4, [(1, 255)]⟩
def TIM_DISC.STEP_THRESH : Fld := ⟨71, 16, .rw, 0x3e8, [(1, 65535)]⟩

/- TIM_STATUS (R128) -/
def TIM_STATUS.VALID : Fld := ⟨72, 1, .ro, 0x0, []⟩
def TIM_STATUS.VALID_SRC : Fld := ⟨73, 2, .ro, 0x0, []⟩
def TIM_STATUS.HOLDOVER : Fld := ⟨74, 1, .ro, 0x0, []⟩
def TIM_STATUS.PPS_OK : Fld := ⟨75, 1, .ro, 0x0, []⟩
def TIM_STATUS.TREF_OK : Fld := ⟨76, 1, .ro, 0x0, []⟩
def TIM_STATUS.TCLK_XTAL : Fld := ⟨77, 1, .ro, 0x0, []⟩
def TIM_STATUS.SLEWING : Fld := ⟨78, 1, .ro, 0x0, []⟩
def TIM_STATUS.STEPS : Fld := ⟨79, 16, .ro, 0x0, []⟩

/- TIM_KEEP (R124) -/
def TIM_KEEP.V : Fld := ⟨640, 32, .wo, 0x0, []⟩

/- TIM_HO (R129) -/
def TIM_HO.DRIFT_PPB : Fld := ⟨80, 16, .rw, 0x64, []⟩
def TIM_HO.LIMIT_NS : Fld := ⟨81, 32, .rw, 0xf4240, []⟩

/- TIM_HO_ERR (R129) -/
def TIM_HO_ERR.V : Fld := ⟨641, 32, .ro, 0x0, []⟩

/- TIM_RTC_SEC (R126) -/
def TIM_RTC_SEC.V : Fld := ⟨11, 48, .ro, 0x0, []⟩

/- TIM_RTC_STATUS (R126) -/
def TIM_RTC_STATUS.VALID : Fld := ⟨12, 1, .ro, 0x0, []⟩
def TIM_RTC_STATUS.FRAC : Fld := ⟨13, 15, .ro, 0x0, []⟩

/- TIM_PULSE_CFG (R137) -/
def TIM_PULSE_CFG.WIDTH : Fld := ⟨642, 24, .rw, 0xf4240, [(1, 16777215)]⟩
def TIM_PULSE_CFG.ACTIVE_LOW : Fld := ⟨643, 1, .rw, 0x0, []⟩
def TIM_PULSE_CFG.DRIVE : Fld := ⟨644, 1, .rw, 0x0, []⟩

/- TIM_LP (R132) -/
def TIM_LP.TC_EN : Fld := ⟨645, 1, .rw, 0x1, []⟩
def TIM_LP.TS_CROSSING : Fld := ⟨646, 1, .rw, 0x0, []⟩
def TIM_LP.LAUNCH_MISS_POLICY : Fld := ⟨647, 1, .rw, 0x0, []⟩
def TIM_LP.INGRESS_TC_EN : Fld := ⟨648, 1, .rw, 0x1, []⟩
def TIM_LP.D_NS : Fld := ⟨649, 16, .rw, 0xbb8, [(1000, 20000)]⟩
def TIM_LP.CAL_DONE : Fld := ⟨650, 1, .ro, 0x0, []⟩
def TIM_LP.BOARD_ADJ : Fld := ⟨651, 32, .rw, 0x0, []⟩
def TIM_LP.TX_LAT : Fld := ⟨652, 32, .ro, 0x0, []⟩
def TIM_LP.RX_LAT : Fld := ⟨653, 32, .ro, 0x0, []⟩
def TIM_LP.LAUNCH_OK : Fld := ⟨654, 64, .ro, 0x0, []⟩
def TIM_LP.LAUNCH_MISS : Fld := ⟨655, 64, .ro, 0x0, []⟩
def TIM_LP.LAUNCH_DISCARD : Fld := ⟨656, 64, .ro, 0x0, []⟩
def TIM_LP.LAUNCH_STEP : Fld := ⟨657, 64, .ro, 0x0, []⟩

/- TIM_HP (R133) -/
def TIM_HP.CAL_DONE : Fld := ⟨658, 1, .ro, 0x0, []⟩
def TIM_HP.BOARD_ADJ : Fld := ⟨659, 32, .rw, 0x0, []⟩
def TIM_HP.TX_LAT : Fld := ⟨660, 32, .ro, 0x0, []⟩
def TIM_HP.RX_LAT : Fld := ⟨661, 32, .ro, 0x0, []⟩

/- TIM_TXQ_STAT (R136) -/
def TIM_TXQ_STAT.COUNT : Fld := ⟨662, 6, .ro, 0x0, []⟩
def TIM_TXQ_STAT.OVERFLOW : Fld := ⟨663, 1, .w1c, 0x0, []⟩

/- TIM_TXQ_LOST (R136) -/
def TIM_TXQ_LOST.V : Fld := ⟨664, 64, .ro, 0x0, []⟩

/- GAU_RING_HEAD (R145) -/
def GAU_RING_HEAD.INDEX : Fld := ⟨665, 8, .ro, 0x0, []⟩
def GAU_RING_HEAD.WRITTEN : Fld := ⟨666, 24, .ro, 0x0, []⟩

/- GAU_SCHED_CMD (R237) -/
def GAU_SCHED_CMD.SCHED : Fld := ⟨667, 8, .wo, 0x0, []⟩
def GAU_SCHED_CMD.OP : Fld := ⟨668, 2, .wo, 0x0, [(1, 1)]⟩

/- GAU_AUT_LAST (R243) -/
def GAU_AUT_LAST.SC : Fld := ⟨669, 12, .ro, 0x0, []⟩
def GAU_AUT_LAST.DIR : Fld := ⟨670, 1, .ro, 0x0, []⟩
def GAU_AUT_LAST.REASON : Fld := ⟨671, 8, .ro, 0x0, []⟩

/- GAU_AUT_FAIL_TX (R243) -/
def GAU_AUT_FAIL_TX.V : Fld := ⟨672, 32, .w1c, 0x0, []⟩

/- GAU_AUT_FAIL_RX (R243) -/
def GAU_AUT_FAIL_RX.V : Fld := ⟨673, 32, .w1c, 0x0, []⟩

/- GAU_SCH (R228) -/
def GAU_SCH.VALID : Fld := ⟨674, 1, .rw, 0x0, []⟩
def GAU_SCH.STATE : Fld := ⟨675, 3, .ro, 0x0, []⟩
def GAU_SCH.SKEW_EST : Fld := ⟨676, 1, .w1c, 0x0, []⟩
def GAU_SCH.SKEW_SEEN : Fld := ⟨677, 1, .w1c, 0x0, []⟩
def GAU_SCH.PASS_FAIL : Fld := ⟨678, 1, .w1c, 0x0, []⟩
def GAU_SCH.DERIVE_ENTRY : Fld := ⟨679, 10, .rw, 0x0, []⟩
def GAU_SCH.T0_SEC : Fld := ⟨680, 48, .rw, 0x0, []⟩
def GAU_SCH.P_SEC : Fld := ⟨681, 17, .rw, 0x3c, [(1, 86400)]⟩
def GAU_SCH.LEAD_MS : Fld := ⟨682, 16, .rw, 0xc8, [(25, 60000)]⟩
def GAU_SCH.W_US : Fld := ⟨683, 20, .rw, 0x7d0, [(100, 1000000)]⟩
def GAU_SCH.EPOCH : Fld := ⟨684, 64, .ro, 0x0, []⟩
def GAU_SCH.LAST_PASS_US : Fld := ⟨685, 16, .ro, 0x0, []⟩
def GAU_SCH.FAILS : Fld := ⟨686, 16, .ro, 0x0, []⟩

/- GAU_ENT (R139) -/
def GAU_ENT.ENABLE : Fld := ⟨687, 1, .rw, 0x0, []⟩
def GAU_ENT.PERIODIC : Fld := ⟨688, 1, .rw, 0x0, []⟩
def GAU_ENT.ACTION : Fld := ⟨689, 4, .rw, 0x0, []⟩
def GAU_ENT.SCOPE : Fld := ⟨690, 2, .rw, 0x0, []⟩
def GAU_ENT.TARGET : Fld := ⟨691, 12, .rw, 0x0, []⟩
def GAU_ENT.FIRED : Fld := ⟨692, 1, .ro, 0x0, []⟩
def GAU_ENT.LAST_LATE : Fld := ⟨693, 1, .ro, 0x0, []⟩
def GAU_ENT.LAST_HOLDOVER : Fld := ⟨694, 1, .ro, 0x0, []⟩
def GAU_ENT.DUE : Fld := ⟨695, 96, .rw, 0x0, []⟩
def GAU_ENT.PERIOD : Fld := ⟨696, 64, .rw, 0x0, []⟩
def GAU_ENT.PARAM : Fld := ⟨697, 32, .rw, 0x0, []⟩
def GAU_ENT.FIRE_COUNT : Fld := ⟨698, 16, .ro, 0x0, []⟩

/- CHS_CMD (R191) -/
def CHS_CMD.OP : Fld := ⟨699, 4, .wo, 0x0, [(1, 13)]⟩
def CHS_CMD.PAD : Fld := ⟨700, 1, .wo, 0x0, []⟩
def CHS_CMD.FIRST : Fld := ⟨701, 1, .wo, 0x0, []⟩
def CHS_CMD.LAST : Fld := ⟨702, 1, .wo, 0x0, []⟩
def CHS_CMD.REPLACE : Fld := ⟨703, 1, .wo, 0x0, []⟩
def CHS_CMD.KSLOT : Fld := ⟨704, 8, .wo, 0x0, []⟩
def CHS_CMD.KSRC : Fld := ⟨705, 1, .wo, 0x0, []⟩
def CHS_CMD.KLEN256 : Fld := ⟨706, 1, .wo, 0x0, []⟩

/- CHS_ARG (R192) -/
def CHS_ARG.LEN : Fld := ⟨707, 9, .rw, 0x0, [(0, 256)]⟩
def CHS_ARG.TARGET : Fld := ⟨708, 14, .rw, 0x0, []⟩
def CHS_ARG.OUT256 : Fld := ⟨709, 1, .rw, 0x0, []⟩

/- CHS_STATUS (R193) -/
def CHS_STATUS.STATE : Fld := ⟨710, 3, .ro, 0x0, []⟩
def CHS_STATUS.RESULT_VALID : Fld := ⟨711, 1, .ro, 0x0, []⟩
def CHS_STATUS.CTX_OPEN : Fld := ⟨712, 1, .ro, 0x0, []⟩
def CHS_STATUS.CODE : Fld := ⟨713, 8, .ro, 0x0, []⟩
def CHS_STATUS.OUT_LEN : Fld := ⟨714, 9, .ro, 0x0, []⟩
def CHS_STATUS.READ_ONCE : Fld := ⟨715, 1, .ro, 0x0, []⟩

/- CHS_REREAD (R190) -/
def CHS_REREAD.V : Fld := ⟨716, 32, .ro, 0x0, []⟩

/- CHS_ENGINE (R209) -/
def CHS_ENGINE.STATE : Fld := ⟨717, 2, .ro, 0x0, []⟩
def CHS_ENGINE.TRANS_10S : Fld := ⟨718, 3, .ro, 0x0, []⟩
def CHS_ENGINE.CTX_KEY : Fld := ⟨719, 1, .ro, 0x0, []⟩

/- CHS_FAULTS (R190) -/
def CHS_FAULTS.V : Fld := ⟨720, 64, .ro, 0x0, []⟩

/- CHS_KEY (R190) -/
def CHS_KEY.V : Fld := ⟨721, 32, .wo, 0x0, []⟩

/- CHS_DIN (R190) -/
def CHS_DIN.V : Fld := ⟨722, 32, .wo, 0x0, []⟩

/- CHS_DOUT (R190) -/
def CHS_DOUT.V : Fld := ⟨723, 32, .rc, 0x0, []⟩

/- CHS_CTX (R190) -/
def CHS_CTX.V : Fld := ⟨724, 32, .rw, 0x0, []⟩

/- RNG_CTL (R217) -/
def RNG_CTL.RESEED : Fld := ⟨725, 1, .wo, 0x0, []⟩
def RNG_CTL.REINST : Fld := ⟨726, 1, .wo, 0x0, []⟩
def RNG_CTL.TEST_SRC : Fld := ⟨727, 1, .rw, 0x0, []⟩

/- RNG_STATUS (R218) -/
def RNG_STATUS.STATE : Fld := ⟨728, 3, .ro, 0x0, []⟩
def RNG_STATUS.RERUNS : Fld := ⟨729, 2, .ro, 0x0, []⟩
def RNG_STATUS.LAST_TEST : Fld := ⟨730, 1, .ro, 0x0, []⟩
def RNG_STATUS.LAST_CHAN : Fld := ⟨731, 3, .ro, 0x0, []⟩
def RNG_STATUS.PATTERN : Fld := ⟨732, 1, .ro, 0x0, []⟩

/- RNG_PERS (R217) -/
def RNG_PERS.V : Fld := ⟨733, 32, .rw, 0x0, []⟩

/- RNG_TEST_PAT (R217) -/
def RNG_TEST_PAT.V : Fld := ⟨734, 32, .rw, 0x0, []⟩

/- RNG_RESEEDS (R217) -/
def RNG_RESEEDS.V : Fld := ⟨735, 64, .ro, 0x0, []⟩

/- RNG_RCT_FAILS (R217) -/
def RNG_RCT_FAILS.V : Fld := ⟨736, 64, .ro, 0x0, []⟩

/- RNG_APT_FAILS (R217) -/
def RNG_APT_FAILS.V : Fld := ⟨737, 64, .ro, 0x0, []⟩

/- RNG_REQ (R219) -/
def RNG_REQ.LEN : Fld := ⟨738, 10, .wo, 0x0, []⟩

/- RNG_REQ_STATUS (R219) -/
def RNG_REQ_STATUS.STATE : Fld := ⟨739, 3, .ro, 0x0, []⟩
def RNG_REQ_STATUS.DEFERRALS : Fld := ⟨740, 8, .ro, 0x0, []⟩

/- RNG_OUT (R219) -/
def RNG_OUT.V : Fld := ⟨741, 32, .rc, 0x0, []⟩

/- PKE_STATUS (R211) -/
def PKE_STATUS.STATE : Fld := ⟨742, 2, .ro, 0x0, []⟩
def PKE_STATUS.BUSY_OP : Fld := ⟨743, 2, .ro, 0x0, []⟩
def PKE_STATUS.TRANS_10S : Fld := ⟨744, 3, .ro, 0x0, []⟩

/- PKE_FAULTS (R211) -/
def PKE_FAULTS.V : Fld := ⟨745, 64, .ro, 0x0, []⟩

/- CAR_TX (R265) -/
def CAR_TX.EN : Fld := ⟨746, 1, .rw, 0x0, []⟩
def CAR_TX.RUNNING : Fld := ⟨747, 1, .ro, 0x0, []⟩
def CAR_TX.STOP : Fld := ⟨748, 1, .wo, 0x0, []⟩
def CAR_TX.EV_START : Fld := ⟨749, 1, .w1c, 0x0, []⟩
def CAR_TX.EV_REFUSED : Fld := ⟨750, 1, .w1c, 0x0, []⟩
def CAR_TX.EV_IDLE : Fld := ⟨751, 1, .w1c, 0x0, []⟩
def CAR_TX.SC : Fld := ⟨752, 12, .rw, 0x0, []⟩
def CAR_TX.CSIZE : Fld := ⟨753, 14, .rw, 0x800, []⟩
def CAR_TX.PERIOD_PS : Fld := ⟨754, 32, .rw, 0x0, []⟩
def CAR_TX.GAP_OCT : Fld := ⟨755, 16, .ro, 0x0, []⟩
def CAR_TX.DA : Fld := ⟨756, 48, .rw, 0x0, []⟩
def CAR_TX.CSEQ_NEXT : Fld := ⟨757, 32, .ro, 0x0, []⟩
def CAR_TX.FSEQ_NEXT : Fld := ⟨758, 16, .ro, 0x0, []⟩
def CAR_TX.START : Fld := ⟨759, 96, .ro, 0x0, []⟩

/- CAR_RX (R276) -/
def CAR_RX.EN : Fld := ⟨760, 1, .rw, 0x0, []⟩
def CAR_RX.UP : Fld := ⟨761, 1, .ro, 0x0, []⟩
def CAR_RX.EV_DOWN : Fld := ⟨762, 1, .w1c, 0x0, []⟩
def CAR_RX.EV_UP : Fld := ⟨763, 1, .w1c, 0x0, []⟩
def CAR_RX.EV_ERR : Fld := ⟨764, 1, .w1c, 0x0, []⟩
def CAR_RX.SC : Fld := ⟨765, 12, .rw, 0x0, []⟩
def CAR_RX.REASM_US : Fld := ⟨766, 20, .rw, 0x64, [(1, 100000)]⟩
def CAR_RX.LOSS_US : Fld := ⟨767, 20, .rw, 0x3e8, [(1, 1000000)]⟩
def CAR_RX.CSEQ_EXP : Fld := ⟨768, 32, .ro, 0x0, []⟩
def CAR_RX.FSEQ_EXP : Fld := ⟨769, 16, .ro, 0x0, []⟩

/- CAR_TXCNT (R279) -/
def CAR_TXCNT.CARRIERS : Fld := ⟨770, 64, .ro, 0x0, []⟩
def CAR_TXCNT.SHIMS : Fld := ⟨771, 64, .ro, 0x0, []⟩
def CAR_TXCNT.SEGMENTS : Fld := ⟨772, 64, .ro, 0x0, []⟩
def CAR_TXCNT.SEG_OCTETS : Fld := ⟨773, 64, .ro, 0x0, []⟩
def CAR_TXCNT.SLOT_SKIPPED : Fld := ⟨774, 64, .ro, 0x0, []⟩
def CAR_TXCNT.SLOT_LATE : Fld := ⟨775, 64, .ro, 0x0, []⟩
def CAR_TXCNT.C_DISCARD : Fld := ⟨776, 64, .ro, 0x0, []⟩
def CAR_TXCNT.CTRL_IN_GAP : Fld := ⟨777, 64, .ro, 0x0, []⟩

/- CAR_RXCNT (R280) -/
def CAR_RXCNT.CARRIERS : Fld := ⟨778, 64, .ro, 0x0, []⟩
def CAR_RXCNT.SHIMS : Fld := ⟨779, 64, .ro, 0x0, []⟩
def CAR_RXCNT.FRAMES : Fld := ⟨780, 64, .ro, 0x0, []⟩
def CAR_RXCNT.LOST : Fld := ⟨781, 64, .ro, 0x0, []⟩
def CAR_RXCNT.STALE : Fld := ⟨782, 64, .ro, 0x0, []⟩
def CAR_RXCNT.FORMAT_ERR : Fld := ⟨783, 64, .ro, 0x0, []⟩
def CAR_RXCNT.FRAMES_MISSING : Fld := ⟨784, 64, .ro, 0x0, []⟩
def CAR_RXCNT.REASM_ABORT : Fld := ⟨785, 64, .ro, 0x0, []⟩
def CAR_RXCNT.REASM_TIMEOUT : Fld := ⟨786, 64, .ro, 0x0, []⟩
def CAR_RXCNT.ORPHAN_SEG : Fld := ⟨787, 64, .ro, 0x0, []⟩
def CAR_RXCNT.NO_CELL : Fld := ⟨788, 64, .ro, 0x0, []⟩
def CAR_RXCNT.DOWN_EVENTS : Fld := ⟨789, 64, .ro, 0x0, []⟩

/- VNR_CTL (R299) -/
def VNR_CTL.EN : Fld := ⟨790, 1, .rw, 0x0, []⟩
def VNR_CTL.FAIL_MODE : Fld := ⟨791, 1, .rw, 0x0, []⟩
def VNR_CTL.PASS_MIN : Fld := ⟨792, 6, .rw, 0xf, [(1, 60)]⟩

/- VNR_LAYOUT (R298) -/
def VNR_LAYOUT.DATA_P8 : Fld := ⟨793, 19, .rw, 0x0, []⟩
def VNR_LAYOUT.FLOOR_P8 : Fld := ⟨794, 19, .rw, 0x0, []⟩

/- VNR_STATUS (R310) -/
def VNR_STATUS.STATE : Fld := ⟨795, 4, .ro, 0x0, []⟩
def VNR_STATUS.KEYS : Fld := ⟨796, 1, .ro, 0x0, []⟩
def VNR_STATUS.TWO_EPOCHS : Fld := ⟨797, 1, .ro, 0x0, []⟩
def VNR_STATUS.BELOW_FLOOR : Fld := ⟨798, 1, .ro, 0x0, []⟩

/- VNR_BOUNDARY (R310) -/
def VNR_BOUNDARY.V : Fld := ⟨799, 22, .ro, 0x0, []⟩

/- VNR_EPOCH (R310) -/
def VNR_EPOCH.V : Fld := ⟨800, 32, .ro, 0x0, []⟩

/- VNR_PAGE_FREE (R310) -/
def VNR_PAGE_FREE.V : Fld := ⟨801, 32, .ro, 0x0, []⟩

/- VNR_PAGE_EXH (R310) -/
def VNR_PAGE_EXH.V : Fld := ⟨802, 32, .ro, 0x0, []⟩

/- VNR_PAGE_RETIRED (R310) -/
def VNR_PAGE_RETIRED.V : Fld := ⟨803, 32, .ro, 0x0, []⟩

/- VNR_SPARES_USED (R310) -/
def VNR_SPARES_USED.V : Fld := ⟨804, 32, .ro, 0x0, []⟩

/- VNR_CNT (R310) -/
def VNR_CNT.TRANSIENT_READ : Fld := ⟨805, 64, .ro, 0x0, []⟩
def VNR_CNT.INTEGRITY_FAIL : Fld := ⟨806, 64, .ro, 0x0, []⟩
def VNR_CNT.POISON_READ : Fld := ⟨807, 64, .ro, 0x0, []⟩
def VNR_CNT.PARTIAL_REFUSED : Fld := ⟨808, 64, .ro, 0x0, []⟩
def VNR_CNT.MARCH_PASS : Fld := ⟨809, 64, .ro, 0x0, []⟩
def VNR_CNT.MARCH_FAIL : Fld := ⟨810, 64, .ro, 0x0, []⟩
def VNR_CNT.NOSPARE_RETIRE : Fld := ⟨811, 64, .ro, 0x0, []⟩
def VNR_CNT.FRAME_LOSS : Fld := ⟨812, 64, .ro, 0x0, []⟩
def VNR_CNT.PASSES : Fld := ⟨813, 64, .ro, 0x0, []⟩

/- VNR_QLOSS (R307) -/
def VNR_QLOSS.V : Fld := ⟨814, 32, .ro, 0x0, []⟩

/- HQ_PUNT (R285) -/
def HQ_PUNT.EN : Fld := ⟨815, 1, .rw, 0x0, []⟩
def HQ_PUNT.PORT : Fld := ⟨816, 1, .rw, 0x0, []⟩
def HQ_PUNT.SIZE_LOG2 : Fld := ⟨817, 5, .rw, 0x6, [(6, 15)]⟩
def HQ_PUNT.STOPPED : Fld := ⟨818, 1, .ro, 0x0, []⟩
def HQ_PUNT.REGION : Fld := ⟨819, 2, .rw, 0x0, []⟩
def HQ_PUNT.QUOTA : Fld := ⟨820, 14, .rw, 0x100, [(64, 16383)]⟩
def HQ_PUNT.DESC_BASE : Fld := ⟨821, 64, .rw, 0x0, []⟩
def HQ_PUNT.CPL_BASE : Fld := ⟨822, 64, .rw, 0x0, []⟩
def HQ_PUNT.PROD : Fld := ⟨823, 16, .rw, 0x0, []⟩
def HQ_PUNT.CPL_ACK : Fld := ⟨824, 16, .rw, 0x0, []⟩
def HQ_PUNT.CONS : Fld := ⟨825, 16, .ro, 0x0, []⟩
def HQ_PUNT.CPL_IDX : Fld := ⟨826, 16, .ro, 0x0, []⟩
def HQ_PUNT.PHASE : Fld := ⟨827, 1, .ro, 0x1, []⟩

/- HQ_CTL (R292) -/
def HQ_CTL.DROP_REST : Fld := ⟨828, 1, .wo, 0x0, []⟩
def HQ_CTL.RESULT : Fld := ⟨829, 2, .ro, 0x0, []⟩

/- HQ_PCNT (R293) -/
def HQ_PCNT.PACKETS : Fld := ⟨830, 64, .ro, 0x0, []⟩
def HQ_PCNT.OCTETS : Fld := ⟨831, 64, .ro, 0x0, []⟩
def HQ_PCNT.LOST : Fld := ⟨832, 64, .ro, 0x0, []⟩
def HQ_PCNT.TRUNC : Fld := ⟨833, 64, .ro, 0x0, []⟩

/- HQ_ICNT (R296) -/
def HQ_ICNT.FETCHED : Fld := ⟨834, 64, .ro, 0x0, []⟩
def HQ_ICNT.ADMITTED : Fld := ⟨835, 64, .ro, 0x0, []⟩
def HQ_ICNT.REFUSED : Fld := ⟨836, 64, .ro, 0x0, []⟩
def HQ_ICNT.DMA_ERR : Fld := ⟨837, 64, .ro, 0x0, []⟩

/- FLT_CFG (R359) -/
def FLT_CFG.AUTO_RESTART : Fld := ⟨838, 1, .rw, 0x1, []⟩
def FLT_CFG.LANE_AUTO : Fld := ⟨839, 1, .rw, 0x1, []⟩
def FLT_CFG.HOLD_MS : Fld := ⟨840, 8, .rw, 0xa, [(1, 255)]⟩
def FLT_CFG.FENCE_LIMIT : Fld := ⟨841, 4, .rw, 0x3, [(1, 15)]⟩
def FLT_CFG.SNR_MIN : Fld := ⟨842, 8, .rw, 0x3c, []⟩

/- FLT_RGN_CMD (R360) -/
def FLT_RGN_CMD.REGION : Fld := ⟨843, 2, .wo, 0x0, []⟩
def FLT_RGN_CMD.OP : Fld := ⟨844, 2, .wo, 0x0, [(1, 1)]⟩

/- FLT_RGN_INFO (R360) -/
def FLT_RGN_INFO.LAST_CAUSE : Fld := ⟨845, 8, .ro, 0x0, []⟩
def FLT_RGN_INFO.FENCES_1H : Fld := ⟨846, 4, .ro, 0x0, []⟩
def FLT_RGN_INFO.RESTARTING : Fld := ⟨847, 1, .ro, 0x0, []⟩
def FLT_RGN_INFO.AUTO_BLOCKED : Fld := ⟨848, 1, .ro, 0x0, []⟩
def FLT_RGN_INFO.RESTARTS : Fld := ⟨849, 16, .ro, 0x0, []⟩

/- FLT_LANE_CMD (R360) -/
def FLT_LANE_CMD.LANE : Fld := ⟨850, 6, .wo, 0x0, []⟩
def FLT_LANE_CMD.SIDE : Fld := ⟨851, 1, .wo, 0x0, []⟩
def FLT_LANE_CMD.OP : Fld := ⟨852, 2, .wo, 0x0, [(1, 1)]⟩

/- FLT_CNT (R360) -/
def FLT_CNT.SRAM_CORR : Fld := ⟨853, 64, .ro, 0x0, []⟩
def FLT_CNT.SRAM_UNCORR : Fld := ⟨854, 64, .ro, 0x0, []⟩
def FLT_CNT.ROW_SPARED : Fld := ⟨855, 64, .ro, 0x0, []⟩
def FLT_CNT.ROW_NOSPARE : Fld := ⟨856, 64, .ro, 0x0, []⟩
def FLT_CNT.DUP_CORR : Fld := ⟨857, 64, .ro, 0x0, []⟩
def FLT_CNT.TIME_VOTE : Fld := ⟨858, 64, .ro, 0x0, []⟩
def FLT_CNT.XBAR_REPEAT : Fld := ⟨859, 64, .ro, 0x0, []⟩

/- FLT_BRACE_STATUS (R357) -/
def FLT_BRACE_STATUS.ACTIVE : Fld := ⟨860, 1, .ro, 0x0, []⟩
def FLT_BRACE_STATUS.A_GOOD : Fld := ⟨861, 1, .ro, 0x0, []⟩
def FLT_BRACE_STATUS.B_GOOD : Fld := ⟨862, 1, .ro, 0x0, []⟩
def FLT_BRACE_STATUS.REDUNDANT : Fld := ⟨863, 1, .ro, 0x0, []⟩
def FLT_BRACE_STATUS.LAST_DIFF_MV : Fld := ⟨864, 8, .ro, 0x0, []⟩
def FLT_BRACE_STATUS.LAST_CAUSE : Fld := ⟨865, 8, .ro, 0x0, []⟩

/- FLT_BRACE_CMD (R358) -/
def FLT_BRACE_CMD.GROUP : Fld := ⟨866, 3, .wo, 0x0, []⟩
def FLT_BRACE_CMD.OP : Fld := ⟨867, 2, .wo, 0x0, [(1, 1)]⟩

/- FLT_BRACE_CMD_STATUS (R358) -/
def FLT_BRACE_CMD_STATUS.V : Fld := ⟨868, 2, .ro, 0x0, []⟩

/- FLT_BRACE_SW (R357) -/
def FLT_BRACE_SW.V : Fld := ⟨869, 64, .ro, 0x0, []⟩

/- KST_CMD (R170) -/
def KST_CMD.OP : Fld := ⟨870, 4, .wo, 0x0, [(1, 6)]⟩
def KST_CMD.SLOT : Fld := ⟨871, 8, .wo, 0x0, []⟩
def KST_CMD.SA : Fld := ⟨872, 14, .wo, 0x0, []⟩
def KST_CMD.KLEN256 : Fld := ⟨873, 1, .wo, 0x0, []⟩
def KST_CMD.REPLACE : Fld := ⟨874, 1, .wo, 0x0, []⟩

/- KST_STATUS (R171) -/
def KST_STATUS.STATE : Fld := ⟨875, 3, .ro, 0x0, []⟩
def KST_STATUS.REASON : Fld := ⟨876, 8, .ro, 0x0, []⟩
def KST_STATUS.AFFECTED : Fld := ⟨877, 16, .ro, 0x0, []⟩

/- KST_KRAM_MAP (R178) -/
def KST_KRAM_MAP.V : Fld := ⟨878, 32, .ro, 0x0, []⟩

/- KST_BOOT_SKIP (R180) -/
def KST_BOOT_SKIP.V : Fld := ⟨879, 32, .ro, 0x0, []⟩

/- KST_DEVID (R161) -/
def KST_DEVID.V : Fld := ⟨880, 32, .ro, 0x0, []⟩

/- KST_DENY_CNT (R163) -/
def KST_DENY_CNT.V : Fld := ⟨881, 64, .ro, 0x0, []⟩

/- KST_KRAM_ENT (R178) -/
def KST_KRAM_ENT.SLOT : Fld := ⟨882, 8, .ro, 0x0, []⟩
def KST_KRAM_ENT.VALID : Fld := ⟨883, 1, .ro, 0x0, []⟩
def KST_KRAM_ENT.RESTORE_FAIL : Fld := ⟨884, 1, .ro, 0x0, []⟩

/- KST_SLOT (R161) -/
def KST_SLOT.STATE : Fld := ⟨885, 4, .ro, 0x0, []⟩
def KST_SLOT.ORPHAN : Fld := ⟨886, 1, .ro, 0x0, []⟩
def KST_SLOT.PERSISTED : Fld := ⟨887, 1, .ro, 0x0, []⟩
def KST_SLOT.KLEN : Fld := ⟨888, 2, .ro, 0x0, []⟩
def KST_SLOT.PARENT : Fld := ⟨889, 8, .ro, 0x0, []⟩
def KST_SLOT.HAS_PARENT : Fld := ⟨890, 1, .ro, 0x0, []⟩
def KST_SLOT.ORIGIN : Fld := ⟨891, 3, .ro, 0x0, []⟩
def KST_SLOT.GEN : Fld := ⟨892, 8, .ro, 0x0, []⟩
def KST_SLOT.MASTERS : Fld := ⟨893, 3, .rw, 0x0, []⟩
def KST_SLOT.WORLDS : Fld := ⟨894, 2, .rw, 0x0, []⟩
def KST_SLOT.LCS : Fld := ⟨895, 3, .rw, 0x0, []⟩
def KST_SLOT.PURPOSE : Fld := ⟨896, 6, .rw, 0x0, []⟩
def KST_SLOT.CASCADE : Fld := ⟨897, 1, .rw, 0x0, []⟩
def KST_SLOT.EXPORTABLE : Fld := ⟨898, 1, .rw, 0x0, []⟩
def KST_SLOT.PERSIST : Fld := ⟨899, 1, .rw, 0x0, []⟩
def KST_SLOT.LIMIT_EN : Fld := ⟨900, 1, .rw, 0x0, []⟩
def KST_SLOT.LIMIT : Fld := ⟨901, 32, .rw, 0x0, []⟩
def KST_SLOT.USED : Fld := ⟨902, 32, .ro, 0x0, []⟩

/- ATT_NONCE (R184) -/
def ATT_NONCE.V : Fld := ⟨903, 32, .rw, 0x0, []⟩

/- ATT_CTL (R184) -/
def ATT_CTL.GO : Fld := ⟨904, 1, .wo, 0x0, []⟩

/- ATT_STATUS (R184) -/
def ATT_STATUS.STATE : Fld := ⟨905, 2, .ro, 0x0, []⟩
def ATT_STATUS.ERR : Fld := ⟨906, 8, .ro, 0x0, []⟩
def ATT_STATUS.LEN : Fld := ⟨907, 13, .ro, 0x0, []⟩

/- ATT_CERT_LEN (R184) -/
def ATT_CERT_LEN.V : Fld := ⟨908, 14, .ro, 0x0, []⟩

/- OFC_MOD_ALLOW (R332) -/
def OFC_MOD_ALLOW.HASH : Fld := ⟨909, 256, .rw, 0x0, []⟩
def OFC_MOD_ALLOW.PORTS : Fld := ⟨910, 16, .rw, 0x0, []⟩
def OFC_MOD_ALLOW.VALID : Fld := ⟨911, 1, .rw, 0x0, []⟩

/- Numbers the device keeps that no register shows whole (typed here so that every number has one home). -/

end Sys2Proof.Machine
end

