-- ==== Sys2Proof/Machine/RegMap.lean ====
section
/-!
DEFINITION. Machine/RegMap.lean: the register map of chapter 18 (R445 to R450): for every register or array its window,
base, strides, counts, size and fields with their lowest bit, and whether each management port has its own copy.
-/
namespace Sys2Proof.Machine

/-- The registers and arrays of the map, each under the spec's own name. -/
inductive RegId where
  | GLB_ID | GLB_MODE | GLB_MODE_REQ | GLB_DEGRADED_CAUSE | GLB_BOOT_STATUS | GLB_TX_RESUME
  | GLB_REGION_STATUS | GLB_CFG_REJECT | GLB_CFG_REJECT_LAST | GLB_CFG_REJECT_INT | GLB_CFG_REJECT_INT_LAST
  | GLB_SEM | GLB_SEM_LOST | ICU_PEND | ICU_PEND_SUM0 | ICU_PEND_SUM1 | ICU_SRC | ICU_VEC | ICU_PORT
  | ICU_EVIN | JIG_RUN_SEQ | JIG_RUN_SVN | JIG_MIN_SVN | JIG_RUN_HASH | JIG_REJECT | JIG_KEY_FAIL
  | JIG_STG_ADDR_LO | JIG_STG_ADDR_HI | JIG_STG_LEN | JIG_STG_CTL | JIG_STG_STATUS | JIG_FL_CMD | JIG_FL_ADDR
  | JIG_FL_STATUS | JIG_FL_DATA | CNT_CTL | CNT_STATUS | CNT_WRAP_ADDR | CNT_WRAP_STAT | CNT_WRAP_SUM
  | CNT_SMP_CTL | CNT_SMP_SEED | CNT_SMP_HEAD | CNT_SMP_DROPPED | CNT_SMP_PORTS | SNP_HDR | SNP_ENT | SNP_SMP
  | MSIX_ENT | MSIX_PBA | MEM_CH | MEM_FENCED | OFC_SESSION | OFC_LOCK | OFC_CHAL_GO | OFC_LOCKDOWN
  | OFC_CHAL | OFC_RESP | OFC_VIOL_CNT | OFC_VIOL_LAST | OFC_RESET | OFC_RESET_TIME0 | OFC_RESET_TIME1
  | OFC_RESET_TIME2 | OFC_CLR_POLICY | OFC_RX_POLICY | OFC_PERF | OFC_TX_RESUME_LO | OFC_TX_RESUME_HI
  | OFC_CLM_CTL | OFC_CLM_CLASS | LCY_STATE | LCY_CMD | LCY_STATUS | LCY_OPERAND | DBG_CTL | DBG_STATUS
  | CLM_STATUS | CLM_LOG_NEWEST | CLM_LOG_COUNT | CLM_CLASS_CNT | CLM_WIN | CLM_LOG | GLB_OFC_BOOT_KEY
  | GLB_OFC_BOOT_GO | GLB_OFC_BOOT_STATUS | GLB_OFC_BOOT_OUT | GLB_RCLK_CFG | GLB_REFCLK_STATUS | CLS_EGR
  | CLS_IGR | SCT_TX | SCT_RX | SAT_TX | SAT_RX | RGN_HPCLS | RGN_LPIGR | RGN_LP_RXCFG | RGN_IGR_POOL
  | RGN_CELL_STATUS | RGN_PPE_STATUS | RGN_PPE_MISMATCH | RGN_PPI_STATUS | RGN_PPI_MISMATCH | RGN_HPORT
  | RGN_LPORT | RGN_LMOD | RGN_HPCNT | RGN_LPCNT | RGN_LMON | RGN_MODACC | RGN_MODACC_STATUS
  | RGN_MODACC_DATA | RGN_HLANE | RGN_LLANE | QUE_DQ | QUE_CQ | QUE_CCNT | QUE_SHP | QUE_DCNT | PLN_SHP_PORT
  | PLN_SHP_GRD | PLN_HPFC | PLN_POOL | PLN_QEV | PLN_TXSA_ADV_SUM | PLN_TXSA_FLT_SUM | PLN_TXSA_CMD
  | PLN_RXSA_ADV_SUM | PLN_RXSA_FLT_SUM | PLN_RXSA_CMD | TIM_NOW | TIM_INCR | TIM_SLEW | TIM_SLEW_RATE
  | TIM_SLEW_REMAIN | TIM_STEP | TIM_DISC | TIM_STATUS | TIM_KEEP | TIM_HO | TIM_HO_ERR | TIM_RTC_SEC
  | TIM_RTC_STATUS | TIM_PULSE_CFG | TIM_LP | TIM_HP | TIM_TXQ | TIM_TXQ_STAT | TIM_TXQ_LOST | GAU_RING_HEAD
  | GAU_SCHED_CMD | GAU_AUT_LAST | GAU_RING | GAU_AUT_FAIL_TX | GAU_AUT_FAIL_RX | GAU_SCH | GAU_ENT | CHS_CMD
  | CHS_ARG | CHS_STATUS | CHS_REREAD | CHS_ENGINE | CHS_FAULTS | CHS_KEY | CHS_DIN | CHS_DOUT | CHS_CTX
  | CLC_CMD | CLC_ARG | CLC_STATUS | CLC_REREAD | CLC_ENGINE | CLC_FAULTS | CLC_KEY | CLC_DIN | CLC_DOUT
  | CLC_CTX | RNG_CTL | RNG_STATUS | RNG_PERS | RNG_TEST_PAT | RNG_RESEEDS | RNG_RCT_FAILS | RNG_APT_FAILS
  | RNG_REQ | RNG_REQ_STATUS | RNG_OUT | PKE_STATUS | PKE_FAULTS | CAR_TX | CAR_RX | CAR_TXCNT | CAR_RXCNT
  | VNR_CTL | VNR_LAYOUT | VNR_STATUS | VNR_BOUNDARY | VNR_EPOCH | VNR_PAGE_FREE | VNR_PAGE_EXH
  | VNR_PAGE_RETIRED | VNR_SPARES_USED | VNR_CNT | VNR_QLOSS | HQ_PUNT | HQ_INJ | HQ_CTL | HQ_PCNT | HQ_ICNT
  | FLT_CFG | FLT_RGN_CMD | FLT_RGN_INFO | FLT_LANE_CMD | FLT_CNT | FLT_BRACE_STATUS | FLT_BRACE_CMD
  | FLT_BRACE_CMD_STATUS | FLT_BRACE_SW | KST_CMD | KST_STATUS | KST_KRAM_MAP | KST_BOOT_SKIP | KST_DEVID
  | KST_DENY_CNT | KST_KRAM_ENT | KST_SLOT | KST_SA_INFO | ATT_NONCE | ATT_CTL | ATT_STATUS | ATT_CERT_LEN
  | ATT_REPORT | ATT_CERT | OFC_MOD_ALLOW
  deriving DecidableEq, Repr

/-- One row of the map. Entry `(a, b)` of the array lies at `base + a * stride1 + b * stride2`, `a < count1`,
`b < count2`; its index is `a * count2 + b`. A banked register keeps one copy per port (R450): copy `p` of entry `x`
is entry `x + p * count1 * count2`. `first` is the index of entry 0 where two arrays
share their field names (data and control queues, host and line ports and lanes, egress and ingress pairs). `commit` is the word whose write brings held words into effect (R451). -/
structure Reg where
  rid : RegId
  bar2 : Bool
  base : Nat
  count1 : Nat
  stride1 : Nat
  count2 : Nat
  stride2 : Nat
  words : Nat
  banked : Bool
  first : Nat
  commit : Option Nat
  fields : List (Nat × Fld)

/-- R453 -/
def reg_GLB_ID : Reg := ⟨.GLB_ID, false, 0x0, 1, 0x0, 1, 0x0, 1, false, 0, none,
  [(0, GLB_ID.V)]⟩
/-- R42 -/
def reg_GLB_MODE : Reg := ⟨.GLB_MODE, false, 0x10, 1, 0x0, 1, 0x0, 1, false, 0, none,
  [(0, GLB_MODE.MODE), (4, GLB_MODE.BASE), (8, GLB_MODE.IN_TRANSITION), (12, GLB_MODE.PREV), (16, GLB_MODE.CAUSE)]⟩
/-- R43 -/
def reg_GLB_MODE_REQ : Reg := ⟨.GLB_MODE_REQ, false, 0x14, 1, 0x0, 1, 0x0, 1, false, 0, none,
  [(0, GLB_MODE_REQ.TARGET), (8, GLB_MODE_REQ.RESULT), (11, GLB_MODE_REQ.SRC), (16, GLB_MODE_REQ.GUARD)]⟩
/-- R44 -/
def reg_GLB_DEGRADED_CAUSE : Reg := ⟨.GLB_DEGRADED_CAUSE, false, 0x18, 1, 0x0, 1, 0x0, 1, false, 0, none,
  [(0, GLB_DEGRADED_CAUSE.REGION_FENCED), (1, GLB_DEGRADED_CAUSE.SLICE_REDUCED), (2, GLB_DEGRADED_CAUSE.FEED_LOST), (3, GLB_DEGRADED_CAUSE.MEM_CHANNEL), (4, GLB_DEGRADED_CAUSE.DEEP_FLOOR), (5, GLB_DEGRADED_CAUSE.THERMAL)]⟩
/-- R61 -/
def reg_GLB_BOOT_STATUS : Reg := ⟨.GLB_BOOT_STATUS, false, 0x20, 1, 0x0, 1, 0x0, 1, false, 0, none,
  [(0, GLB_BOOT_STATUS.STAGE), (8, GLB_BOOT_STATUS.CODE), (16, GLB_BOOT_STATUS.COPY_A), (20, GLB_BOOT_STATUS.COPY_B), (24, GLB_BOOT_STATUS.SELECTED), (25, GLB_BOOT_STATUS.STAGED)]⟩
/-- R56 -/
def reg_GLB_TX_RESUME : Reg := ⟨.GLB_TX_RESUME, false, 0x30, 1, 0x0, 1, 0x0, 2, false, 0, none,
  [(0, GLB_TX_RESUME.V)]⟩
/-- R21 -/
def reg_GLB_REGION_STATUS : Reg := ⟨.GLB_REGION_STATUS, false, 0x40, 1, 0x0, 1, 0x0, 1, false, 0, none,
  [(0, GLB_REGION_STATUS.RGN0), (4, GLB_REGION_STATUS.RGN1), (8, GLB_REGION_STATUS.RGN2), (12, GLB_REGION_STATUS.RGN3), (16, GLB_REGION_STATUS.SPARE_E), (20, GLB_REGION_STATUS.SPARE_I)]⟩
/-- R453 -/
def reg_GLB_CFG_REJECT : Reg := ⟨.GLB_CFG_REJECT, false, 0x50, 1, 0x0, 1, 0x0, 2, true, 0, none,
  [(0, GLB_CFG_REJECT.V)]⟩
/-- R454 -/
def reg_GLB_CFG_REJECT_LAST : Reg := ⟨.GLB_CFG_REJECT_LAST, false, 0x58, 1, 0x0, 1, 0x0, 1, true, 0, none,
  [(0, GLB_CFG_REJECT_LAST.OFFSET), (24, GLB_CFG_REJECT_LAST.WINDOW), (28, GLB_CFG_REJECT_LAST.CAUSE)]⟩
/-- R453 -/
def reg_GLB_CFG_REJECT_INT : Reg := ⟨.GLB_CFG_REJECT_INT, false, 0x60, 1, 0x0, 1, 0x0, 2, false, 2, none,
  [(0, GLB_CFG_REJECT.V)]⟩
/-- R453 -/
def reg_GLB_CFG_REJECT_INT_LAST : Reg := ⟨.GLB_CFG_REJECT_INT_LAST, false, 0x68, 1, 0x0, 1, 0x0, 1, false, 2, none,
  [(0, GLB_CFG_REJECT_LAST.OFFSET), (24, GLB_CFG_REJECT_LAST.WINDOW), (28, GLB_CFG_REJECT_LAST.CAUSE)]⟩
/-- R397 -/
def reg_GLB_SEM : Reg := ⟨.GLB_SEM, false, 0x400, 1, 0x0, 32, 0x4, 1, false, 0, none,
  [(0, GLB_SEM.GRANTED), (1, GLB_SEM.OWNED), (2, GLB_SEM.OWNER), (8, GLB_SEM.RELEASE)]⟩
/-- R399 -/
def reg_GLB_SEM_LOST : Reg := ⟨.GLB_SEM_LOST, false, 0x480, 1, 0x0, 1, 0x0, 1, true, 0, none,
  [(0, GLB_SEM_LOST.V)]⟩
/-- R401 -/
def reg_ICU_PEND : Reg := ⟨.ICU_PEND, false, 0x10000, 1, 0x0, 36, 0x4, 1, false, 0, none,
  [(0, ICU_PEND.V)]⟩
/-- R401 -/
def reg_ICU_PEND_SUM0 : Reg := ⟨.ICU_PEND_SUM0, false, 0x10100, 1, 0x0, 1, 0x0, 1, false, 0, none,
  [(0, ICU_PEND_SUM0.V)]⟩
/-- R401 -/
def reg_ICU_PEND_SUM1 : Reg := ⟨.ICU_PEND_SUM1, false, 0x10104, 1, 0x0, 1, 0x0, 1, false, 0, none,
  [(0, ICU_PEND_SUM1.V)]⟩
/-- R402 -/
def reg_ICU_SRC : Reg := ⟨.ICU_SRC, false, 0x11000, 1, 0x0, 1152, 0x4, 1, false, 0, none,
  [(0, ICU_SRC.VEC_MP0), (8, ICU_SRC.VEC_MP1), (16, ICU_SRC.ROUTE), (18, ICU_SRC.MASK), (19, ICU_SRC.WAKE), (20, ICU_SRC.ANN0), (21, ICU_SRC.ANN1), (22, ICU_SRC.PEND)]⟩
/-- R404 -/
def reg_ICU_VEC : Reg := ⟨.ICU_VEC, false, 0x12400, 1, 0x0, 128, 0x8, 2, false, 0, none,
  [(0, ICU_VEC.COUNT), (8, ICU_VEC.TIMER_US), (32, ICU_VEC.ACCUM), (43, ICU_VEC.TIMING), (44, ICU_VEC.HELD)]⟩
/-- R408 -/
def reg_ICU_PORT : Reg := ⟨.ICU_PORT, false, 0x12800, 1, 0x0, 2, 0x10, 4, false, 0, none,
  [(0, ICU_PORT.IDLE), (1, ICU_PORT.SLEEP), (2, ICU_PORT.FAILOVER_ROUTE), (4, ICU_PORT.LINK), (7, ICU_PORT.SLEEPING), (8, ICU_PORT.WAKE), (9, ICU_PORT.READY), (32, ICU_PORT.MSGS)]⟩
/-- R414 -/
def reg_ICU_EVIN : Reg := ⟨.ICU_EVIN, false, 0x13000, 1, 0x0, 16, 0x10, 4, false, 0, none,
  [(0, ICU_EVIN.FILT), (16, ICU_EVIN.ACTIVE_LOW), (17, ICU_EVIN.EDGE), (19, ICU_EVIN.LEVEL), (32, ICU_EVIN.STAMP)]⟩
/-- R431 -/
def reg_JIG_RUN_SEQ : Reg := ⟨.JIG_RUN_SEQ, false, 0x20000, 1, 0x0, 1, 0x0, 1, false, 0, none,
  [(0, JIG_RUN_SEQ.V)]⟩
/-- R431 -/
def reg_JIG_RUN_SVN : Reg := ⟨.JIG_RUN_SVN, false, 0x20004, 1, 0x0, 1, 0x0, 1, false, 0, none,
  [(0, JIG_RUN_SVN.SVN), (16, JIG_RUN_SVN.AUTO_MODE), (24, JIG_RUN_SVN.SOURCE)]⟩
/-- R431 -/
def reg_JIG_MIN_SVN : Reg := ⟨.JIG_MIN_SVN, false, 0x20008, 1, 0x0, 1, 0x0, 1, false, 0, none,
  [(0, JIG_MIN_SVN.V)]⟩
/-- R431 -/
def reg_JIG_RUN_HASH : Reg := ⟨.JIG_RUN_HASH, false, 0x20010, 1, 0x0, 12, 0x4, 1, false, 0, none,
  [(0, JIG_RUN_HASH.V)]⟩
/-- R431 -/
def reg_JIG_REJECT : Reg := ⟨.JIG_REJECT, false, 0x20040, 1, 0x0, 1, 0x0, 1, false, 0, none,
  [(0, JIG_REJECT.V)]⟩
/-- R431 -/
def reg_JIG_KEY_FAIL : Reg := ⟨.JIG_KEY_FAIL, false, 0x20044, 1, 0x0, 1, 0x0, 1, false, 0, none,
  [(0, JIG_KEY_FAIL.V)]⟩
/-- R432 -/
def reg_JIG_STG_ADDR_LO : Reg := ⟨.JIG_STG_ADDR_LO, false, 0x20100, 1, 0x0, 1, 0x0, 1, false, 0, none,
  [(0, JIG_STG_ADDR_LO.V)]⟩
/-- R432 -/
def reg_JIG_STG_ADDR_HI : Reg := ⟨.JIG_STG_ADDR_HI, false, 0x20104, 1, 0x0, 1, 0x0, 1, false, 0, none,
  [(0, JIG_STG_ADDR_HI.V)]⟩
/-- R432 -/
def reg_JIG_STG_LEN : Reg := ⟨.JIG_STG_LEN, false, 0x20108, 1, 0x0, 1, 0x0, 1, false, 0, none,
  [(0, JIG_STG_LEN.V)]⟩
/-- R432 -/
def reg_JIG_STG_CTL : Reg := ⟨.JIG_STG_CTL, false, 0x2010c, 1, 0x0, 1, 0x0, 1, false, 0, none,
  [(0, JIG_STG_CTL.GO)]⟩
/-- R432 -/
def reg_JIG_STG_STATUS : Reg := ⟨.JIG_STG_STATUS, false, 0x20110, 1, 0x0, 1, 0x0, 1, false, 0, none,
  [(0, JIG_STG_STATUS.STATE), (3, JIG_STG_STATUS.PORT), (8, JIG_STG_STATUS.REASON)]⟩
/-- R434 -/
def reg_JIG_FL_CMD : Reg := ⟨.JIG_FL_CMD, false, 0x20200, 1, 0x0, 1, 0x0, 1, false, 0, none,
  [(0, JIG_FL_CMD.OPCODE), (8, JIG_FL_CMD.LEN), (17, JIG_FL_CMD.DIR), (18, JIG_FL_CMD.ADDR_EN)]⟩
/-- R434 -/
def reg_JIG_FL_ADDR : Reg := ⟨.JIG_FL_ADDR, false, 0x20204, 1, 0x0, 1, 0x0, 1, true, 0, none,
  [(0, JIG_FL_ADDR.V)]⟩
/-- R434 -/
def reg_JIG_FL_STATUS : Reg := ⟨.JIG_FL_STATUS, false, 0x20208, 1, 0x0, 1, 0x0, 1, true, 0, none,
  [(0, JIG_FL_STATUS.V)]⟩
/-- R434 -/
def reg_JIG_FL_DATA : Reg := ⟨.JIG_FL_DATA, false, 0x21000, 1, 0x0, 64, 0x4, 1, true, 0, none,
  [(0, JIG_FL_DATA.V)]⟩
/-- R439 -/
def reg_CNT_CTL : Reg := ⟨.CNT_CTL, false, 0xe0000, 1, 0x0, 1, 0x0, 1, false, 0, none,
  [(0, CNT_CTL.DEF_MASK), (8, CNT_CTL.GO)]⟩
/-- R439 -/
def reg_CNT_STATUS : Reg := ⟨.CNT_STATUS, false, 0xe0004, 1, 0x0, 1, 0x0, 1, false, 0, none,
  [(0, CNT_STATUS.BUSY), (1, CNT_STATUS.LAST_BANK), (8, CNT_STATUS.SKIPPED), (16, CNT_STATUS.SWEEPS)]⟩
/-- R437 -/
def reg_CNT_WRAP_ADDR : Reg := ⟨.CNT_WRAP_ADDR, false, 0xe0010, 1, 0x0, 1, 0x0, 1, false, 0, none,
  [(2, CNT_WRAP_ADDR.A)]⟩
/-- R437 -/
def reg_CNT_WRAP_STAT : Reg := ⟨.CNT_WRAP_STAT, false, 0xe0014, 1, 0x0, 1, 0x0, 1, false, 0, none,
  [(0, CNT_WRAP_STAT.WRAP), (1, CNT_WRAP_STAT.IS_COUNTER)]⟩
/-- R437 -/
def reg_CNT_WRAP_SUM : Reg := ⟨.CNT_WRAP_SUM, false, 0xe0018, 1, 0x0, 1, 0x0, 1, false, 0, none,
  [(0, CNT_WRAP_SUM.V)]⟩
/-- R443 -/
def reg_CNT_SMP_CTL : Reg := ⟨.CNT_SMP_CTL, false, 0xe0100, 1, 0x0, 1, 0x0, 1, false, 0, none,
  [(0, CNT_SMP_CTL.EN), (8, CNT_SMP_CTL.N)]⟩
/-- R443 -/
def reg_CNT_SMP_SEED : Reg := ⟨.CNT_SMP_SEED, false, 0xe0108, 1, 0x0, 1, 0x0, 1, false, 0, none,
  [(0, CNT_SMP_SEED.V)]⟩
/-- R444 -/
def reg_CNT_SMP_HEAD : Reg := ⟨.CNT_SMP_HEAD, false, 0xe010c, 1, 0x0, 1, 0x0, 1, false, 0, none,
  [(0, CNT_SMP_HEAD.INDEX), (12, CNT_SMP_HEAD.WRITTEN)]⟩
/-- R443 -/
def reg_CNT_SMP_DROPPED : Reg := ⟨.CNT_SMP_DROPPED, false, 0xe0110, 1, 0x0, 1, 0x0, 2, false, 0, none,
  [(0, CNT_SMP_DROPPED.V)]⟩
/-- R443 -/
def reg_CNT_SMP_PORTS : Reg := ⟨.CNT_SMP_PORTS, false, 0xe0118, 1, 0x0, 1, 0x0, 2, false, 0, none,
  [(0, CNT_SMP_PORTS.HP), (32, CNT_SMP_PORTS.LP)]⟩
/-- R441 -/
def reg_SNP_HDR : Reg := ⟨.SNP_HDR, false, 0x800000, 1, 0x0, 2, 0x3c0000, 16, false, 0, none,
  []⟩
/-- R441 -/
def reg_SNP_ENT : Reg := ⟨.SNP_ENT, false, 0x800040, 2, 0x3c0000, 245756, 0x10, 4, false, 0, none,
  []⟩
/-- R444 -/
def reg_SNP_SMP : Reg := ⟨.SNP_SMP, false, 0xf80000, 1, 0x0, 4096, 0x40, 16, false, 0, none,
  []⟩
/-- R386 -/
def reg_MSIX_ENT : Reg := ⟨.MSIX_ENT, false, 0x1000000, 1, 0x0, 64, 0x10, 4, true, 0, none,
  [(0, MSIX_ENT.ADDR), (64, MSIX_ENT.DATA), (96, MSIX_ENT.MASK)]⟩
/-- R386 -/
def reg_MSIX_PBA : Reg := ⟨.MSIX_PBA, false, 0x1001000, 1, 0x0, 1, 0x0, 2, true, 0, none,
  [(0, MSIX_PBA.V)]⟩
/-- R455 -/
def reg_MEM_CH : Reg := ⟨.MEM_CH, false, 0xb0000, 1, 0x0, 32, 0x20, 8, false, 0, none,
  [(0, MEM_CH.STATE), (8, MEM_CH.MR5), (16, MEM_CH.MR6), (24, MEM_CH.MR8), (32, MEM_CH.RETRAINS), (64, MEM_CH.LECC_CORR), (128, MEM_CH.LINK_UNCORR)]⟩
/-- R455 -/
def reg_MEM_FENCED : Reg := ⟨.MEM_FENCED, false, 0xb0400, 1, 0x0, 1, 0x0, 1, false, 0, none,
  [(0, MEM_FENCED.V)]⟩
/-- R393 -/
def reg_OFC_SESSION : Reg := ⟨.OFC_SESSION, true, 0x0, 1, 0x0, 1, 0x0, 1, true, 0, none,
  [(0, OFC_SESSION.STATE), (4, OFC_SESSION.LAST), (8, OFC_SESSION.FAILS), (16, OFC_SESSION.IDLE_S)]⟩
/-- R393 -/
def reg_OFC_LOCK : Reg := ⟨.OFC_LOCK, true, 0x4, 1, 0x0, 1, 0x0, 1, true, 0, none,
  [(0, OFC_LOCK.V)]⟩
/-- R393 -/
def reg_OFC_CHAL_GO : Reg := ⟨.OFC_CHAL_GO, true, 0x8, 1, 0x0, 1, 0x0, 1, true, 0, none,
  [(0, OFC_CHAL_GO.V)]⟩
/-- R393 -/
def reg_OFC_LOCKDOWN : Reg := ⟨.OFC_LOCKDOWN, true, 0xc, 1, 0x0, 1, 0x0, 1, false, 0, none,
  [(0, OFC_LOCKDOWN.GO), (16, OFC_LOCKDOWN.CONFIRM)]⟩
/-- R393 -/
def reg_OFC_CHAL : Reg := ⟨.OFC_CHAL, true, 0x10, 1, 0x0, 8, 0x4, 1, true, 0, none,
  [(0, OFC_CHAL.V)]⟩
/-- R393 -/
def reg_OFC_RESP : Reg := ⟨.OFC_RESP, true, 0x40, 1, 0x0, 4, 0x4, 1, true, 0, none,
  [(0, OFC_RESP.V)]⟩
/-- R392 -/
def reg_OFC_VIOL_CNT : Reg := ⟨.OFC_VIOL_CNT, true, 0x50, 1, 0x0, 2, 0x10, 2, false, 0, none,
  [(0, OFC_VIOL_CNT.V)]⟩
/-- R392 -/
def reg_OFC_VIOL_LAST : Reg := ⟨.OFC_VIOL_LAST, true, 0x58, 1, 0x0, 2, 0x10, 1, false, 0, none,
  [(0, OFC_VIOL_LAST.KIND), (3, OFC_VIOL_LAST.WRITE), (4, OFC_VIOL_LAST.FUNC), (5, OFC_VIOL_LAST.BAR2), (8, OFC_VIOL_LAST.OFFSET)]⟩
/-- R55 -/
def reg_OFC_RESET : Reg := ⟨.OFC_RESET, true, 0x100, 1, 0x0, 1, 0x0, 1, false, 0, none,
  [(0, OFC_RESET.WARM), (1, OFC_RESET.WARM_AT), (2, OFC_RESET.ARMED)]⟩
/-- R55 -/
def reg_OFC_RESET_TIME0 : Reg := ⟨.OFC_RESET_TIME0, true, 0x104, 1, 0x0, 1, 0x0, 1, false, 0, none,
  [(0, OFC_RESET_TIME0.V)]⟩
/-- R55 -/
def reg_OFC_RESET_TIME1 : Reg := ⟨.OFC_RESET_TIME1, true, 0x108, 1, 0x0, 1, 0x0, 1, false, 0, none,
  [(0, OFC_RESET_TIME1.V)]⟩
/-- R55 -/
def reg_OFC_RESET_TIME2 : Reg := ⟨.OFC_RESET_TIME2, true, 0x10c, 1, 0x0, 1, 0x0, 1, false, 0, none,
  [(0, OFC_RESET_TIME2.V)]⟩
/-- R68 -/
def reg_OFC_CLR_POLICY : Reg := ⟨.OFC_CLR_POLICY, true, 0x200, 1, 0x0, 1, 0x0, 1, false, 0, none,
  [(0, OFC_CLR_POLICY.EGR_EAPOL_OK), (1, OFC_CLR_POLICY.EGR_OTHER_OK), (8, OFC_CLR_POLICY.IGR_EAPOL_OK), (9, OFC_CLR_POLICY.IGR_OTHER_OK)]⟩
/-- R100 -/
def reg_OFC_RX_POLICY : Reg := ⟨.OFC_RX_POLICY, true, 0x204, 1, 0x0, 1, 0x0, 1, false, 0, none,
  [(0, OFC_RX_POLICY.CHECK_OK), (1, OFC_RX_POLICY.DISABLED_OK)]⟩
/-- R442 -/
def reg_OFC_PERF : Reg := ⟨.OFC_PERF, true, 0x208, 1, 0x0, 1, 0x0, 1, false, 0, none,
  [(0, OFC_PERF.PERF_USER_EN_OP), (1, OFC_PERF.PERF_USER_EN_OBS)]⟩
/-- R58 -/
def reg_OFC_TX_RESUME_LO : Reg := ⟨.OFC_TX_RESUME_LO, true, 0x210, 1, 0x0, 1, 0x0, 1, false, 0, none,
  [(0, OFC_TX_RESUME_LO.V)]⟩
/-- R58 -/
def reg_OFC_TX_RESUME_HI : Reg := ⟨.OFC_TX_RESUME_HI, true, 0x214, 1, 0x0, 1, 0x0, 1, false, 0, none,
  [(0, OFC_TX_RESUME_HI.V)]⟩
/-- R370 -/
def reg_OFC_CLM_CTL : Reg := ⟨.OFC_CLM_CTL, true, 0x380, 1, 0x0, 1, 0x0, 1, false, 0, none,
  [(0, OFC_CLM_CTL.EVIN15_ROUTE), (1, OFC_CLM_CTL.EVIN15_LOW), (2, OFC_CLM_CTL.LOCK), (8, OFC_CLM_CTL.TEMP_LO), (16, OFC_CLM_CTL.TEMP_HI)]⟩
/-- R369 -/
def reg_OFC_CLM_CLASS : Reg := ⟨.OFC_CLM_CLASS, true, 0x400, 1, 0x0, 9, 0x10, 4, false, 0, some 0,
  [(0, OFC_CLM_CLASS.MODE), (8, OFC_CLM_CLASS.K1), (16, OFC_CLM_CLASS.K2), (32, OFC_CLM_CLASS.T_US)]⟩
/-- R51 -/
def reg_LCY_STATE : Reg := ⟨.LCY_STATE, true, 0x20000, 1, 0x0, 1, 0x0, 1, false, 0, none,
  [(0, LCY_STATE.STATE), (3, LCY_STATE.DEBUG), (4, LCY_STATE.REOWN_USED), (9, LCY_STATE.OWNER_ENTRY)]⟩
/-- R52 -/
def reg_LCY_CMD : Reg := ⟨.LCY_CMD, true, 0x20004, 1, 0x0, 1, 0x0, 1, false, 0, none,
  [(0, LCY_CMD.CODE), (16, LCY_CMD.CONFIRM)]⟩
/-- R52 -/
def reg_LCY_STATUS : Reg := ⟨.LCY_STATUS, true, 0x20008, 1, 0x0, 1, 0x0, 1, false, 0, none,
  [(0, LCY_STATUS.V)]⟩
/-- R52 -/
def reg_LCY_OPERAND : Reg := ⟨.LCY_OPERAND, true, 0x20040, 1, 0x0, 13, 0x4, 1, false, 0, none,
  [(0, LCY_OPERAND.V)]⟩
/-- R456 -/
def reg_DBG_CTL : Reg := ⟨.DBG_CTL, true, 0x50000, 1, 0x0, 1, 0x0, 1, false, 0, none,
  [(0, DBG_CTL.ENTER)]⟩
/-- R456 -/
def reg_DBG_STATUS : Reg := ⟨.DBG_STATUS, true, 0x50004, 1, 0x0, 1, 0x0, 1, false, 0, none,
  [(0, DBG_STATUS.DEBUG), (1, DBG_STATUS.UNLOCKED)]⟩
/-- R384 -/
def reg_CLM_STATUS : Reg := ⟨.CLM_STATUS, false, 0xd0000, 1, 0x0, 1, 0x0, 1, false, 0, none,
  [(0, CLM_STATUS.ERASED), (1, CLM_STATUS.DORMANT_ALARM), (2, CLM_STATUS.PREERASED), (3, CLM_STATUS.REFOSC), (4, CLM_STATUS.LOCKED), (8, CLM_STATUS.OPEN)]⟩
/-- R378 -/
def reg_CLM_LOG_NEWEST : Reg := ⟨.CLM_LOG_NEWEST, false, 0xd0010, 1, 0x0, 1, 0x0, 2, false, 0, none,
  [(0, CLM_LOG_NEWEST.V)]⟩
/-- R378 -/
def reg_CLM_LOG_COUNT : Reg := ⟨.CLM_LOG_COUNT, false, 0xd0018, 1, 0x0, 1, 0x0, 1, false, 0, none,
  [(0, CLM_LOG_COUNT.COUNT), (16, CLM_LOG_COUNT.NEWEST)]⟩
/-- R384 -/
def reg_CLM_CLASS_CNT : Reg := ⟨.CLM_CLASS_CNT, false, 0xd0100, 1, 0x0, 9, 0x8, 2, false, 0, none,
  [(0, CLM_CLASS_CNT.V)]⟩
/-- R384 -/
def reg_CLM_WIN : Reg := ⟨.CLM_WIN, false, 0xd0200, 1, 0x0, 9, 0x4, 1, false, 0, none,
  [(0, CLM_WIN.V)]⟩
/-- R376 -/
def reg_CLM_LOG : Reg := ⟨.CLM_LOG, false, 0xd1000, 1, 0x0, 256, 0x40, 16, false, 0, none,
  []⟩
/-- R182 -/
def reg_GLB_OFC_BOOT_KEY : Reg := ⟨.GLB_OFC_BOOT_KEY, false, 0x200, 1, 0x0, 8, 0x4, 1, false, 0, none,
  [(0, GLB_OFC_BOOT_KEY.V)]⟩
/-- R182 -/
def reg_GLB_OFC_BOOT_GO : Reg := ⟨.GLB_OFC_BOOT_GO, false, 0x220, 1, 0x0, 1, 0x0, 1, false, 0, none,
  [(0, GLB_OFC_BOOT_GO.V)]⟩
/-- R182 -/
def reg_GLB_OFC_BOOT_STATUS : Reg := ⟨.GLB_OFC_BOOT_STATUS, false, 0x228, 1, 0x0, 1, 0x0, 1, false, 0, none,
  [(0, GLB_OFC_BOOT_STATUS.V)]⟩
/-- R182 -/
def reg_GLB_OFC_BOOT_OUT : Reg := ⟨.GLB_OFC_BOOT_OUT, false, 0x240, 1, 0x0, 10, 0x4, 1, false, 0, none,
  [(0, GLB_OFC_BOOT_OUT.V)]⟩
/-- R314 -/
def reg_GLB_RCLK_CFG : Reg := ⟨.GLB_RCLK_CFG, false, 0x300, 1, 0x0, 2, 0x4, 1, false, 0, none,
  [(0, GLB_RCLK_CFG.LANE), (5, GLB_RCLK_CFG.DIV), (7, GLB_RCLK_CFG.EN), (8, GLB_RCLK_CFG.SQUELCH), (9, GLB_RCLK_CFG.ACTIVE)]⟩
/-- R313 -/
def reg_GLB_REFCLK_STATUS : Reg := ⟨.GLB_REFCLK_STATUS, false, 0x310, 1, 0x0, 1, 0x0, 1, false, 0, none,
  [(0, GLB_REFCLK_STATUS.HREF_OK), (1, GLB_REFCLK_STATUS.LREF_OK)]⟩
/-- R64 -/
def reg_CLS_EGR : Reg := ⟨.CLS_EGR, false, 0x200000, 1, 0x0, 8192, 0x40, 16, false, 0, some 0,
  [(0, CLS_EGR.VALID), (1, CLS_EGR.ACTION), (4, CLS_EGR.QSEL), (8, CLS_EGR.SC), (20, CLS_EGR.LPORT), (24, CLS_EGR.CQ), (26, CLS_EGR.PUNT_RING), (32, CLS_EGR.HPORT), (37, CLS_EGR.HPORT_MASK), (64, CLS_EGR.DA), (112, CLS_EGR.DA_MASK), (160, CLS_EGR.SA), (208, CLS_EGR.SA_MASK), (256, CLS_EGR.ETYPE), (272, CLS_EGR.ETYPE_MASK), (288, CLS_EGR.VID), (300, CLS_EGR.VID_MASK), (312, CLS_EGR.PCP), (315, CLS_EGR.PCP_MASK), (318, CLS_EGR.TAGGED), (319, CLS_EGR.TAGGED_CARE), (384, CLS_EGR.HITS)]⟩
/-- R93 -/
def reg_CLS_IGR : Reg := ⟨.CLS_IGR, false, 0x280000, 1, 0x0, 8192, 0x40, 16, false, 0, some 0,
  [(0, CLS_IGR.VALID), (1, CLS_IGR.ACTION), (4, CLS_IGR.SECTAG), (5, CLS_IGR.SECTAG_CARE), (8, CLS_IGR.SC), (20, CLS_IGR.HPORT), (26, CLS_IGR.PUNT_RING), (32, CLS_IGR.LPORT), (36, CLS_IGR.LPORT_MASK), (64, CLS_IGR.SCI), (128, CLS_IGR.SCI_MASK), (192, CLS_IGR.DA), (240, CLS_IGR.DA_MASK), (288, CLS_IGR.ETYPE), (304, CLS_IGR.ETYPE_MASK), (384, CLS_IGR.HITS)]⟩
/-- R70 -/
def reg_SCT_TX : Reg := ⟨.SCT_TX, false, 0x300000, 1, 0x0, 4096, 0x80, 32, false, 0, none,
  [(0, SCT_TX.VALID), (1, SCT_TX.SUITE), (3, SCT_TX.CONF), (4, SCT_TX.OFFSET), (6, SCT_TX.SC_BIT), (7, SCT_TX.ES), (8, SCT_TX.KEYING), (9, SCT_TX.CUR), (12, SCT_TX.LPORT), (16, SCT_TX.GROUP), (24, SCT_TX.CAK_SLOT), (32, SCT_TX.LIMIT_EN), (33, SCT_TX.LIMIT_UNIT), (34, SCT_TX.SCHED), (48, SCT_TX.EV_THRESH), (49, SCT_TX.EV_SWITCH), (50, SCT_TX.EV_EXHAUST), (51, SCT_TX.EV_SWITCH_MISS), (52, SCT_TX.EV_KEY_GONE), (53, SCT_TX.EV_REISSUE_LIMIT), (64, SCT_TX.SCI), (128, SCT_TX.PN_THRESH), (192, SCT_TX.LIMIT), (256, SCT_TX.PKTS), (320, SCT_TX.OCTETS), (384, SCT_TX.D_EXHAUSTED), (448, SCT_TX.D_KEY_PENDING), (512, SCT_TX.D_KEY_GONE), (576, SCT_TX.D_REISSUE), (640, SCT_TX.D_REGION), (704, SCT_TX.SWITCHES), (768, SCT_TX.D_INVALID)]⟩
/-- R98 -/
def reg_SCT_RX : Reg := ⟨.SCT_RX, false, 0x380000, 1, 0x0, 4096, 0x80, 32, false, 0, none,
  [(0, SCT_RX.VALID), (1, SCT_RX.SUITE), (3, SCT_RX.VALIDATE), (5, SCT_RX.OFFSET), (7, SCT_RX.REPLAY_PROTECT), (8, SCT_RX.KEYING), (9, SCT_RX.AUTO_ACCEPT), (10, SCT_RX.CUR), (11, SCT_RX.EFF_VALIDATE), (16, SCT_RX.LPORT), (20, SCT_RX.HPORT), (32, SCT_RX.GROUP), (40, SCT_RX.SCHED), (48, SCT_RX.EV_SWITCH), (49, SCT_RX.EV_RETIRE), (50, SCT_RX.EV_NO_SA), (51, SCT_RX.EV_KEY_GONE), (52, SCT_RX.EV_REISSUE_LIMIT), (53, SCT_RX.EV_EXHAUST), (56, SCT_RX.CAK_SLOT), (64, SCT_RX.WINDOW), (96, SCT_RX.OVERLAP), (128, SCT_RX.SCI), (192, SCT_RX.IN_OK), (256, SCT_RX.IN_INVALID), (320, SCT_RX.IN_NOT_VALID), (384, SCT_RX.IN_UNCHECKED), (448, SCT_RX.IN_DELAYED), (512, SCT_RX.IN_LATE), (576, SCT_RX.IN_NOT_USING_SA), (640, SCT_RX.IN_UNUSED_SA), (704, SCT_RX.D_KEY_GONE), (768, SCT_RX.D_REISSUE), (832, SCT_RX.D_OVERRUN), (896, SCT_RX.D_HOST_CONGEST), (960, SCT_RX.D_REGION)]⟩
/-- R73 -/
def reg_SAT_TX : Reg := ⟨.SAT_TX, false, 0x400000, 1, 0x0, 8192, 0x40, 16, false, 0, none,
  [(0, SAT_TX.INSTALLED), (1, SAT_TX.AN), (3, SAT_TX.ORPHAN), (4, SAT_TX.STATE), (7, SAT_TX.THRESH_HIT), (8, SAT_TX.EXH_CAUSE), (32, SAT_TX.NEXT_PN), (96, SAT_TX.SSCI), (128, SAT_TX.SALT), (256, SAT_TX.USED), (320, SAT_TX.PKTS)]⟩
/-- R101 -/
def reg_SAT_RX : Reg := ⟨.SAT_RX, false, 0x480000, 1, 0x0, 8192, 0x40, 16, false, 0, none,
  [(0, SAT_RX.INSTALLED), (1, SAT_RX.AN), (3, SAT_RX.ORPHAN), (4, SAT_RX.STATE), (7, SAT_RX.RETIRE_ARMED), (32, SAT_RX.NEXT_PN), (96, SAT_RX.SSCI), (128, SAT_RX.SALT), (256, SAT_RX.FLOOR), (320, SAT_RX.RETIRE_AT_S), (352, SAT_RX.RETIRE_AT_NS), (384, SAT_RX.IN_OK), (448, SAT_RX.IN_FAIL)]⟩
/-- R69 -/
def reg_RGN_HPCLS : Reg := ⟨.RGN_HPCLS, false, 0x101000, 4, 0x40000, 8, 0x40, 16, false, 0, none,
  [(0, RGN_HPCLS.NO_RULE), (64, RGN_HPCLS.RULE_DROP), (128, RGN_HPCLS.CLEAR_DENIED), (192, RGN_HPCLS.SC_INVALID), (256, RGN_HPCLS.PUNTED), (320, RGN_HPCLS.CLEARED), (384, RGN_HPCLS.TO_PROTECT), (448, RGN_HPCLS.OVERSIZE)]⟩
/-- R116 -/
def reg_RGN_LPIGR : Reg := ⟨.RGN_LPIGR, false, 0x101400, 4, 0x40000, 4, 0x80, 32, false, 0, none,
  [(0, RGN_LPIGR.OVERSIZE), (64, RGN_LPIGR.NO_TAG), (128, RGN_LPIGR.BAD_TAG), (192, RGN_LPIGR.NO_SCI), (256, RGN_LPIGR.UNKNOWN_SCI), (320, RGN_LPIGR.RULE_DROP), (384, RGN_LPIGR.CLEAR_DENIED), (448, RGN_LPIGR.CLEARED), (512, RGN_LPIGR.PUNTED), (576, RGN_LPIGR.TO_VALIDATE), (640, RGN_LPIGR.OCT_VALIDATED), (704, RGN_LPIGR.OCT_DECRYPTED), (768, RGN_LPIGR.D_REGION), (832, RGN_LPIGR.D_CONGEST), (896, RGN_LPIGR.EXC_COPIES), (960, RGN_LPIGR.MODE_DISCARD)]⟩
/-- R96 -/
def reg_RGN_LP_RXCFG : Reg := ⟨.RGN_LP_RXCFG, false, 0x101800, 4, 0x40000, 4, 0x10, 4, false, 0, none,
  [(0, RGN_LP_RXCFG.IMPLICIT_SCI), (64, RGN_LP_RXCFG.IMPLICIT_EN), (65, RGN_LP_RXCFG.EXC_EN), (66, RGN_LP_RXCFG.EXC_RING), (72, RGN_LP_RXCFG.EXC_MASK)]⟩
/-- R113 -/
def reg_RGN_IGR_POOL : Reg := ⟨.RGN_IGR_POOL, false, 0x101900, 1, 0x0, 4, 0x40000, 1, false, 0, none,
  [(0, RGN_IGR_POOL.RESERVE), (16, RGN_IGR_POOL.HP_LIMIT)]⟩
/-- R283 -/
def reg_RGN_CELL_STATUS : Reg := ⟨.RGN_CELL_STATUS, false, 0x101a00, 1, 0x0, 4, 0x40000, 4, false, 0, none,
  [(0, RGN_CELL_STATUS.FREE), (32, RGN_CELL_STATUS.IGR_USED), (64, RGN_CELL_STATUS.EGR_USED), (96, RGN_CELL_STATUS.HQ_USED)]⟩
/-- R89 -/
def reg_RGN_PPE_STATUS : Reg := ⟨.RGN_PPE_STATUS, false, 0x102000, 4, 0x40000, 9, 0x10, 1, false, 0, none,
  [(0, RGN_PPE_STATUS.STATE), (8, RGN_PPE_STATUS.TRANS_10S), (16, RGN_PPE_STATUS.LAST_CAUSE)]⟩
/-- R89 -/
def reg_RGN_PPE_MISMATCH : Reg := ⟨.RGN_PPE_MISMATCH, false, 0x102008, 4, 0x40000, 9, 0x10, 2, false, 0, none,
  [(0, RGN_PPE_MISMATCH.V)]⟩
/-- R89 -/
def reg_RGN_PPI_STATUS : Reg := ⟨.RGN_PPI_STATUS, false, 0x102100, 4, 0x40000, 9, 0x10, 1, false, 36, none,
  [(0, RGN_PPE_STATUS.STATE), (8, RGN_PPE_STATUS.TRANS_10S), (16, RGN_PPE_STATUS.LAST_CAUSE)]⟩
/-- R89 -/
def reg_RGN_PPI_MISMATCH : Reg := ⟨.RGN_PPI_MISMATCH, false, 0x102108, 4, 0x40000, 9, 0x10, 2, false, 36, none,
  [(0, RGN_PPE_MISMATCH.V)]⟩
/-- R321 -/
def reg_RGN_HPORT : Reg := ⟨.RGN_HPORT, false, 0x103000, 4, 0x40000, 8, 0x20, 8, false, 0, none,
  [(0, RGN_HPORT.EN), (1, RGN_HPORT.SPEED), (4, RGN_HPORT.LINK), (5, RGN_HPORT.RX_LF), (6, RGN_HPORT.RX_RF), (7, RGN_HPORT.TX_LF), (16, RGN_HPORT.EV_LINK), (17, RGN_HPORT.EV_FEC_DEG), (32, RGN_HPORT.MAC), (96, RGN_HPORT.FEC_DEG_THR)]⟩
/-- R322 -/
def reg_RGN_LPORT : Reg := ⟨.RGN_LPORT, false, 0x103100, 4, 0x40000, 4, 0x20, 8, false, 32, none,
  [(0, RGN_HPORT.EN), (1, RGN_HPORT.SPEED), (3, RGN_LPORT.ALLOW_EN), (4, RGN_HPORT.LINK), (5, RGN_HPORT.RX_LF), (6, RGN_HPORT.RX_RF), (7, RGN_HPORT.TX_LF), (8, RGN_LPORT.MOD_STATE), (11, RGN_LPORT.MOD_PRESENT), (12, RGN_LPORT.MOD_REINIT), (16, RGN_HPORT.EV_LINK), (17, RGN_HPORT.EV_FEC_DEG), (18, RGN_LPORT.EV_MOD), (19, RGN_LPORT.EV_DENIED), (20, RGN_LPORT.EV_EOL), (21, RGN_LPORT.EV_MODFLAG), (32, RGN_LPORT.APPSEL), (48, RGN_LPORT.READY_MS), (64, RGN_LPORT.POLL_MS), (80, RGN_LPORT.EOL_PCT), (96, RGN_HPORT.FEC_DEG_THR)]⟩
/-- R332 -/
def reg_RGN_LMOD : Reg := ⟨.RGN_LMOD, false, 0x103200, 4, 0x40000, 4, 0x80, 32, false, 0, none,
  [(0, RGN_LMOD.VENDOR), (128, RGN_LMOD.PART), (256, RGN_LMOD.SERIAL), (384, RGN_LMOD.HASH), (640, RGN_LMOD.VALID)]⟩
/-- R323 -/
def reg_RGN_HPCNT : Reg := ⟨.RGN_HPCNT, false, 0x103400, 4, 0x40000, 8, 0x80, 32, false, 0, none,
  [(0, RGN_HPCNT.RX_FRAMES), (64, RGN_HPCNT.RX_OCTETS), (128, RGN_HPCNT.RX_FCS_ERR), (192, RGN_HPCNT.RX_RUNT), (256, RGN_HPCNT.RX_CTRL), (320, RGN_HPCNT.TX_FRAMES), (384, RGN_HPCNT.TX_OCTETS), (448, RGN_HPCNT.FEC_CW), (512, RGN_HPCNT.FEC_CORR), (576, RGN_HPCNT.FEC_UNCORR), (640, RGN_HPCNT.FEC_SYM), (704, RGN_HPCNT.LINK_DOWNS)]⟩
/-- R323 -/
def reg_RGN_LPCNT : Reg := ⟨.RGN_LPCNT, false, 0x103800, 4, 0x40000, 4, 0x80, 32, false, 32, none,
  [(0, RGN_HPCNT.RX_FRAMES), (64, RGN_HPCNT.RX_OCTETS), (128, RGN_HPCNT.RX_FCS_ERR), (192, RGN_HPCNT.RX_RUNT), (256, RGN_HPCNT.RX_CTRL), (320, RGN_HPCNT.TX_FRAMES), (384, RGN_HPCNT.TX_OCTETS), (448, RGN_HPCNT.FEC_CW), (512, RGN_HPCNT.FEC_CORR), (576, RGN_HPCNT.FEC_UNCORR), (640, RGN_HPCNT.FEC_SYM), (704, RGN_HPCNT.LINK_DOWNS)]⟩
/-- R333 -/
def reg_RGN_LMON : Reg := ⟨.RGN_LMON, false, 0x103a00, 4, 0x40000, 4, 0x40, 16, false, 0, none,
  [(0, RGN_LMON.TEMP), (16, RGN_LMON.VCC), (32, RGN_LMON.BIAS), (160, RGN_LMON.BIAS_BASE), (288, RGN_LMON.BASE_VALID), (320, RGN_LMON.FLAGS)]⟩
/-- R334 -/
def reg_RGN_MODACC : Reg := ⟨.RGN_MODACC, false, 0x103b00, 1, 0x0, 4, 0x40000, 1, false, 0, none,
  [(0, RGN_MODACC.SLOT), (2, RGN_MODACC.WRITE), (3, RGN_MODACC.LENM1), (8, RGN_MODACC.BANK), (16, RGN_MODACC.PAGE), (24, RGN_MODACC.ADDR)]⟩
/-- R334 -/
def reg_RGN_MODACC_STATUS : Reg := ⟨.RGN_MODACC_STATUS, false, 0x103b04, 1, 0x0, 4, 0x40000, 1, false, 0, none,
  [(0, RGN_MODACC_STATUS.V)]⟩
/-- R334 -/
def reg_RGN_MODACC_DATA : Reg := ⟨.RGN_MODACC_DATA, false, 0x103b08, 4, 0x40000, 2, 0x4, 1, false, 0, none,
  [(0, RGN_MODACC_DATA.V)]⟩
/-- R324 -/
def reg_RGN_HLANE : Reg := ⟨.RGN_HLANE, false, 0x104000, 4, 0x40000, 16, 0x80, 32, false, 0, none,
  [(0, RGN_HLANE.TX_PRE1), (8, RGN_HLANE.TX_MAIN), (16, RGN_HLANE.TX_POST1), (32, RGN_HLANE.CTLE_AUTO), (33, RGN_HLANE.CTLE_CODE), (64, RGN_HLANE.LOCKED), (65, RGN_HLANE.FENCED), (66, RGN_HLANE.ADAPTED), (67, RGN_HLANE.SIGNAL), (192, RGN_HLANE.PRBS_GEN), (196, RGN_HLANE.PRBS_CHK), (200, RGN_HLANE.CHK_LOCK), (201, RGN_HLANE.CHK_CLR), (256, RGN_HLANE.PRBS_ERR), (320, RGN_HLANE.PRBS_SYM), (384, RGN_HLANE.EYE_UPPER), (392, RGN_HLANE.EYE_MIDDLE), (400, RGN_HLANE.EYE_LOWER), (408, RGN_HLANE.EYE_WIDTH), (416, RGN_HLANE.SNR), (448, RGN_HLANE.LOCK_LOSSES)]⟩
/-- R324 -/
def reg_RGN_LLANE : Reg := ⟨.RGN_LLANE, false, 0x104800, 4, 0x40000, 8, 0x80, 32, false, 64, none,
  [(0, RGN_HLANE.TX_PRE1), (8, RGN_HLANE.TX_MAIN), (16, RGN_HLANE.TX_POST1), (24, RGN_LLANE.TX_PRE2), (28, RGN_LLANE.TX_POST2), (32, RGN_HLANE.CTLE_AUTO), (33, RGN_HLANE.CTLE_CODE), (37, RGN_LLANE.DFE_FREEZE), (38, RGN_LLANE.DFE_RESTART), (64, RGN_HLANE.LOCKED), (65, RGN_HLANE.FENCED), (66, RGN_HLANE.ADAPTED), (67, RGN_HLANE.SIGNAL), (96, RGN_LLANE.DFE_TAPS), (192, RGN_HLANE.PRBS_GEN), (196, RGN_HLANE.PRBS_CHK), (200, RGN_HLANE.CHK_LOCK), (201, RGN_HLANE.CHK_CLR), (256, RGN_HLANE.PRBS_ERR), (320, RGN_HLANE.PRBS_SYM), (384, RGN_HLANE.EYE_UPPER), (392, RGN_HLANE.EYE_MIDDLE), (400, RGN_HLANE.EYE_LOWER), (408, RGN_HLANE.EYE_WIDTH), (416, RGN_HLANE.SNR), (448, RGN_HLANE.LOCK_LOSSES)]⟩
/-- R249 -/
def reg_QUE_DQ : Reg := ⟨.QUE_DQ, false, 0x500000, 1, 0x0, 8192, 0x20, 8, false, 0, none,
  [(0, QUE_DQ.QLIMIT), (16, QUE_DQ.GUAR), (32, QUE_DQ.ALPHA), (35, QUE_DQ.SPILL_EN), (40, QUE_DQ.QUANTUM), (64, QUE_DQ.AGE_US), (96, QUE_DQ.DB_LIMIT), (128, QUE_DQ.DEPTH), (144, QUE_DQ.MAX_DEPTH), (160, QUE_DQ.DB_CELLS), (180, QUE_DQ.SPILLING), (181, QUE_DQ.HELD), (192, QUE_DQ.FRAMES)]⟩
/-- R249 -/
def reg_QUE_CQ : Reg := ⟨.QUE_CQ, false, 0x540000, 1, 0x0, 64, 0x20, 8, false, 8192, none,
  [(0, QUE_DQ.QLIMIT), (16, QUE_DQ.GUAR), (32, QUE_DQ.ALPHA), (64, QUE_DQ.AGE_US), (128, QUE_DQ.DEPTH), (144, QUE_DQ.MAX_DEPTH), (181, QUE_DQ.HELD), (192, QUE_DQ.FRAMES)]⟩
/-- R258 -/
def reg_QUE_CCNT : Reg := ⟨.QUE_CCNT, false, 0x541000, 1, 0x0, 64, 0x40, 16, false, 8192, none,
  [(0, QUE_DCNT.ADMITTED), (64, QUE_DCNT.DEQUEUED), (128, QUE_DCNT.D_QUEUE_LIMIT), (192, QUE_DCNT.D_POOL), (256, QUE_DCNT.D_GUARD), (320, QUE_DCNT.D_AGED), (384, QUE_DCNT.D_MODE), (448, QUE_DCNT.D_REGION)]⟩
/-- R251 -/
def reg_QUE_SHP : Reg := ⟨.QUE_SHP, false, 0x560000, 1, 0x0, 8192, 0x10, 4, false, 0, some 0,
  [(0, QUE_SHP.ENABLE), (1, QUE_SHP.INIT), (2, QUE_SHP.STAGE), (3, QUE_SHP.PENDING), (4, QUE_SHP.EGROUP), (12, QUE_SHP.LEN_ADJ), (32, QUE_SHP.RATE), (64, QUE_SHP.BURST), (96, QUE_SHP.LEVEL)]⟩
/-- R258 -/
def reg_QUE_DCNT : Reg := ⟨.QUE_DCNT, false, 0x580000, 1, 0x0, 8192, 0x40, 16, false, 0, none,
  [(0, QUE_DCNT.ADMITTED), (64, QUE_DCNT.DEQUEUED), (128, QUE_DCNT.D_QUEUE_LIMIT), (192, QUE_DCNT.D_POOL), (256, QUE_DCNT.D_GUARD), (320, QUE_DCNT.D_AGED), (384, QUE_DCNT.D_MODE), (448, QUE_DCNT.D_REGION)]⟩
/-- R251 -/
def reg_PLN_SHP_PORT : Reg := ⟨.PLN_SHP_PORT, false, 0x81000, 1, 0x0, 16, 0x10, 4, false, 8192, some 0,
  [(0, QUE_SHP.ENABLE), (1, QUE_SHP.INIT), (2, QUE_SHP.STAGE), (3, QUE_SHP.PENDING), (4, QUE_SHP.EGROUP), (12, QUE_SHP.LEN_ADJ), (32, QUE_SHP.RATE), (64, QUE_SHP.BURST), (96, QUE_SHP.LEVEL)]⟩
/-- R251 -/
def reg_PLN_SHP_GRD : Reg := ⟨.PLN_SHP_GRD, false, 0x81100, 1, 0x0, 16, 0x10, 4, false, 8208, some 0,
  [(0, QUE_SHP.ENABLE), (1, QUE_SHP.INIT), (2, QUE_SHP.STAGE), (3, QUE_SHP.PENDING), (4, QUE_SHP.EGROUP), (12, QUE_SHP.LEN_ADJ), (32, QUE_SHP.RATE), (64, QUE_SHP.BURST), (96, QUE_SHP.LEVEL)]⟩
/-- R260 -/
def reg_PLN_HPFC : Reg := ⟨.PLN_HPFC, false, 0x82000, 1, 0x0, 32, 0x40, 16, false, 0, none,
  [(0, PLN_HPFC.PFC_EN), (8, PLN_HPFC.DEF_PRIO), (16, PLN_HPFC.QUANTA), (32, PLN_HPFC.XOFF), (48, PLN_HPFC.XON), (64, PLN_HPFC.REFRESH), (80, PLN_HPFC.PAUSED), (128, PLN_HPFC.OCC), (256, PLN_HPFC.XOFF_TX), (320, PLN_HPFC.XON_TX)]⟩
/-- R262 -/
def reg_PLN_POOL : Reg := ⟨.PLN_POOL, false, 0x83000, 1, 0x0, 4, 0x10, 4, false, 0, none,
  [(0, PLN_POOL.POOL_XOFF), (32, PLN_POOL.POOL_XON), (64, PLN_POOL.USED), (96, PLN_POOL.SHARED)]⟩
/-- R259 -/
def reg_PLN_QEV : Reg := ⟨.PLN_QEV, false, 0x84000, 1, 0x0, 258, 0x4, 1, false, 0, none,
  [(0, PLN_QEV.V)]⟩
/-- R81 -/
def reg_PLN_TXSA_ADV_SUM : Reg := ⟨.PLN_TXSA_ADV_SUM, false, 0x8e000, 1, 0x0, 64, 0x10, 2, false, 0, none,
  [(0, PLN_TXSA_ADV_SUM.V)]⟩
/-- R81 -/
def reg_PLN_TXSA_FLT_SUM : Reg := ⟨.PLN_TXSA_FLT_SUM, false, 0x8e008, 1, 0x0, 64, 0x10, 2, false, 0, none,
  [(0, PLN_TXSA_FLT_SUM.V)]⟩
/-- R79 -/
def reg_PLN_TXSA_CMD : Reg := ⟨.PLN_TXSA_CMD, false, 0x8e400, 1, 0x0, 1, 0x0, 1, false, 0, none,
  [(0, PLN_TXSA_CMD.TARGET), (12, PLN_TXSA_CMD.IS_GROUP), (16, PLN_TXSA_CMD.OP)]⟩
/-- R117 -/
def reg_PLN_RXSA_ADV_SUM : Reg := ⟨.PLN_RXSA_ADV_SUM, false, 0x8e800, 1, 0x0, 64, 0x10, 2, false, 0, none,
  [(0, PLN_RXSA_ADV_SUM.V)]⟩
/-- R117 -/
def reg_PLN_RXSA_FLT_SUM : Reg := ⟨.PLN_RXSA_FLT_SUM, false, 0x8e808, 1, 0x0, 64, 0x10, 2, false, 0, none,
  [(0, PLN_RXSA_FLT_SUM.V)]⟩
/-- R105 -/
def reg_PLN_RXSA_CMD : Reg := ⟨.PLN_RXSA_CMD, false, 0x8ec00, 1, 0x0, 1, 0x0, 1, false, 0, none,
  [(0, PLN_RXSA_CMD.TARGET), (12, PLN_RXSA_CMD.IS_GROUP), (16, PLN_RXSA_CMD.OP)]⟩
/-- R119 -/
def reg_TIM_NOW : Reg := ⟨.TIM_NOW, false, 0x30000, 1, 0x0, 1, 0x0, 3, false, 0, none,
  [(0, TIM_NOW.V)]⟩
/-- R120 -/
def reg_TIM_INCR : Reg := ⟨.TIM_INCR, false, 0x30010, 1, 0x0, 1, 0x0, 2, false, 0, none,
  [(0, TIM_INCR.FRAC32), (32, TIM_INCR.INT)]⟩
/-- R121 -/
def reg_TIM_SLEW : Reg := ⟨.TIM_SLEW, false, 0x30020, 1, 0x0, 1, 0x0, 1, false, 0, none,
  [(0, TIM_SLEW.OFFSET)]⟩
/-- R121 -/
def reg_TIM_SLEW_RATE : Reg := ⟨.TIM_SLEW_RATE, false, 0x30024, 1, 0x0, 1, 0x0, 1, false, 0, none,
  [(0, TIM_SLEW_RATE.RATE_PPB)]⟩
/-- R121 -/
def reg_TIM_SLEW_REMAIN : Reg := ⟨.TIM_SLEW_REMAIN, false, 0x30028, 1, 0x0, 1, 0x0, 1, false, 0, none,
  [(0, TIM_SLEW_REMAIN.V)]⟩
/-- R122 -/
def reg_TIM_STEP : Reg := ⟨.TIM_STEP, false, 0x30030, 1, 0x0, 1, 0x0, 4, false, 0, none,
  [(0, TIM_STEP.VAL), (96, TIM_STEP.GO), (97, TIM_STEP.KIND)]⟩
/-- R124 -/
def reg_TIM_DISC : Reg := ⟨.TIM_DISC, false, 0x30040, 1, 0x0, 1, 0x0, 1, false, 0, none,
  [(0, TIM_DISC.MODE), (2, TIM_DISC.PPS_FALLING), (3, TIM_DISC.PPS_SEED), (4, TIM_DISC.KEEP_TIMEOUT), (16, TIM_DISC.STEP_THRESH)]⟩
/-- R128 -/
def reg_TIM_STATUS : Reg := ⟨.TIM_STATUS, false, 0x30044, 1, 0x0, 1, 0x0, 1, false, 0, none,
  [(0, TIM_STATUS.VALID), (1, TIM_STATUS.VALID_SRC), (3, TIM_STATUS.HOLDOVER), (4, TIM_STATUS.PPS_OK), (5, TIM_STATUS.TREF_OK), (6, TIM_STATUS.TCLK_XTAL), (7, TIM_STATUS.SLEWING), (16, TIM_STATUS.STEPS)]⟩
/-- R124 -/
def reg_TIM_KEEP : Reg := ⟨.TIM_KEEP, false, 0x3004c, 1, 0x0, 1, 0x0, 1, false, 0, none,
  [(0, TIM_KEEP.V)]⟩
/-- R129 -/
def reg_TIM_HO : Reg := ⟨.TIM_HO, false, 0x30050, 1, 0x0, 1, 0x0, 2, false, 0, none,
  [(0, TIM_HO.DRIFT_PPB), (32, TIM_HO.LIMIT_NS)]⟩
/-- R129 -/
def reg_TIM_HO_ERR : Reg := ⟨.TIM_HO_ERR, false, 0x30058, 1, 0x0, 1, 0x0, 1, false, 0, none,
  [(0, TIM_HO_ERR.V)]⟩
/-- R126 -/
def reg_TIM_RTC_SEC : Reg := ⟨.TIM_RTC_SEC, false, 0x30060, 1, 0x0, 1, 0x0, 2, false, 0, none,
  [(0, TIM_RTC_SEC.V)]⟩
/-- R126 -/
def reg_TIM_RTC_STATUS : Reg := ⟨.TIM_RTC_STATUS, false, 0x30068, 1, 0x0, 1, 0x0, 1, false, 0, none,
  [(0, TIM_RTC_STATUS.VALID), (16, TIM_RTC_STATUS.FRAC)]⟩
/-- R137 -/
def reg_TIM_PULSE_CFG : Reg := ⟨.TIM_PULSE_CFG, false, 0x30100, 1, 0x0, 4, 0x4, 1, false, 0, none,
  [(0, TIM_PULSE_CFG.WIDTH), (24, TIM_PULSE_CFG.ACTIVE_LOW), (25, TIM_PULSE_CFG.DRIVE)]⟩
/-- R132 -/
def reg_TIM_LP : Reg := ⟨.TIM_LP, false, 0x30400, 1, 0x0, 16, 0x40, 16, false, 0, none,
  [(0, TIM_LP.TC_EN), (1, TIM_LP.TS_CROSSING), (2, TIM_LP.LAUNCH_MISS_POLICY), (3, TIM_LP.INGRESS_TC_EN), (16, TIM_LP.D_NS), (32, TIM_LP.CAL_DONE), (64, TIM_LP.BOARD_ADJ), (96, TIM_LP.TX_LAT), (128, TIM_LP.RX_LAT), (192, TIM_LP.LAUNCH_OK), (256, TIM_LP.LAUNCH_MISS), (320, TIM_LP.LAUNCH_DISCARD), (384, TIM_LP.LAUNCH_STEP)]⟩
/-- R133 -/
def reg_TIM_HP : Reg := ⟨.TIM_HP, false, 0x30800, 1, 0x0, 32, 0x20, 8, false, 0, none,
  [(0, TIM_HP.CAL_DONE), (32, TIM_HP.BOARD_ADJ), (64, TIM_HP.TX_LAT), (96, TIM_HP.RX_LAT)]⟩
/-- R135 -/
def reg_TIM_TXQ : Reg := ⟨.TIM_TXQ, false, 0x32000, 1, 0x0, 16, 0x10, 4, false, 0, none,
  []⟩
/-- R136 -/
def reg_TIM_TXQ_STAT : Reg := ⟨.TIM_TXQ_STAT, false, 0x32100, 1, 0x0, 16, 0x4, 1, false, 0, none,
  [(0, TIM_TXQ_STAT.COUNT), (8, TIM_TXQ_STAT.OVERFLOW)]⟩
/-- R136 -/
def reg_TIM_TXQ_LOST : Reg := ⟨.TIM_TXQ_LOST, false, 0x32200, 1, 0x0, 16, 0x8, 2, false, 0, none,
  [(0, TIM_TXQ_LOST.V)]⟩
/-- R145 -/
def reg_GAU_RING_HEAD : Reg := ⟨.GAU_RING_HEAD, false, 0x40010, 1, 0x0, 1, 0x0, 1, false, 0, none,
  [(0, GAU_RING_HEAD.INDEX), (8, GAU_RING_HEAD.WRITTEN)]⟩
/-- R237 -/
def reg_GAU_SCHED_CMD : Reg := ⟨.GAU_SCHED_CMD, false, 0x40030, 1, 0x0, 1, 0x0, 1, false, 0, none,
  [(0, GAU_SCHED_CMD.SCHED), (8, GAU_SCHED_CMD.OP)]⟩
/-- R243 -/
def reg_GAU_AUT_LAST : Reg := ⟨.GAU_AUT_LAST, false, 0x40034, 1, 0x0, 1, 0x0, 1, false, 0, none,
  [(0, GAU_AUT_LAST.SC), (12, GAU_AUT_LAST.DIR), (16, GAU_AUT_LAST.REASON)]⟩
/-- R145 -/
def reg_GAU_RING : Reg := ⟨.GAU_RING, false, 0x41000, 1, 0x0, 256, 0x10, 4, false, 0, none,
  []⟩
/-- R243 -/
def reg_GAU_AUT_FAIL_TX : Reg := ⟨.GAU_AUT_FAIL_TX, false, 0x42000, 1, 0x0, 128, 0x4, 1, false, 0, none,
  [(0, GAU_AUT_FAIL_TX.V)]⟩
/-- R243 -/
def reg_GAU_AUT_FAIL_RX : Reg := ⟨.GAU_AUT_FAIL_RX, false, 0x42200, 1, 0x0, 128, 0x4, 1, false, 0, none,
  [(0, GAU_AUT_FAIL_RX.V)]⟩
/-- R228 -/
def reg_GAU_SCH : Reg := ⟨.GAU_SCH, false, 0x44000, 1, 0x0, 256, 0x20, 8, false, 0, some 0,
  [(0, GAU_SCH.VALID), (1, GAU_SCH.STATE), (4, GAU_SCH.SKEW_EST), (5, GAU_SCH.SKEW_SEEN), (6, GAU_SCH.PASS_FAIL), (8, GAU_SCH.DERIVE_ENTRY), (32, GAU_SCH.T0_SEC), (80, GAU_SCH.P_SEC), (112, GAU_SCH.LEAD_MS), (128, GAU_SCH.W_US), (160, GAU_SCH.EPOCH), (224, GAU_SCH.LAST_PASS_US), (240, GAU_SCH.FAILS)]⟩
/-- R139 -/
def reg_GAU_ENT : Reg := ⟨.GAU_ENT, false, 0x48000, 1, 0x0, 1024, 0x20, 8, false, 0, some 0,
  [(0, GAU_ENT.ENABLE), (1, GAU_ENT.PERIODIC), (2, GAU_ENT.ACTION), (6, GAU_ENT.SCOPE), (8, GAU_ENT.TARGET), (20, GAU_ENT.FIRED), (21, GAU_ENT.LAST_LATE), (22, GAU_ENT.LAST_HOLDOVER), (32, GAU_ENT.DUE), (128, GAU_ENT.PERIOD), (192, GAU_ENT.PARAM), (224, GAU_ENT.FIRE_COUNT)]⟩
/-- R191 -/
def reg_CHS_CMD : Reg := ⟨.CHS_CMD, false, 0x50000, 1, 0x0, 1, 0x0, 1, true, 0, none,
  [(0, CHS_CMD.OP), (4, CHS_CMD.PAD), (5, CHS_CMD.FIRST), (6, CHS_CMD.LAST), (7, CHS_CMD.REPLACE), (8, CHS_CMD.KSLOT), (16, CHS_CMD.KSRC), (17, CHS_CMD.KLEN256)]⟩
/-- R192 -/
def reg_CHS_ARG : Reg := ⟨.CHS_ARG, false, 0x50004, 1, 0x0, 1, 0x0, 1, true, 0, none,
  [(0, CHS_ARG.LEN), (16, CHS_ARG.TARGET), (30, CHS_ARG.OUT256)]⟩
/-- R193 -/
def reg_CHS_STATUS : Reg := ⟨.CHS_STATUS, false, 0x50008, 1, 0x0, 1, 0x0, 1, true, 0, none,
  [(0, CHS_STATUS.STATE), (3, CHS_STATUS.RESULT_VALID), (4, CHS_STATUS.CTX_OPEN), (8, CHS_STATUS.CODE), (16, CHS_STATUS.OUT_LEN), (25, CHS_STATUS.READ_ONCE)]⟩
/-- R190 -/
def reg_CHS_REREAD : Reg := ⟨.CHS_REREAD, false, 0x5000c, 1, 0x0, 1, 0x0, 1, true, 0, none,
  [(0, CHS_REREAD.V)]⟩
/-- R209 -/
def reg_CHS_ENGINE : Reg := ⟨.CHS_ENGINE, false, 0x50020, 1, 0x0, 1, 0x0, 1, false, 0, none,
  [(0, CHS_ENGINE.STATE), (2, CHS_ENGINE.TRANS_10S), (8, CHS_ENGINE.CTX_KEY)]⟩
/-- R190 -/
def reg_CHS_FAULTS : Reg := ⟨.CHS_FAULTS, false, 0x50028, 1, 0x0, 1, 0x0, 2, false, 0, none,
  [(0, CHS_FAULTS.V)]⟩
/-- R190 -/
def reg_CHS_KEY : Reg := ⟨.CHS_KEY, false, 0x50040, 1, 0x0, 8, 0x4, 1, true, 0, none,
  [(0, CHS_KEY.V)]⟩
/-- R190 -/
def reg_CHS_DIN : Reg := ⟨.CHS_DIN, false, 0x50100, 1, 0x0, 64, 0x4, 1, true, 0, none,
  [(0, CHS_DIN.V)]⟩
/-- R190 -/
def reg_CHS_DOUT : Reg := ⟨.CHS_DOUT, false, 0x50200, 1, 0x0, 66, 0x4, 1, true, 0, none,
  [(0, CHS_DOUT.V)]⟩
/-- R190 -/
def reg_CHS_CTX : Reg := ⟨.CHS_CTX, false, 0x50400, 1, 0x0, 128, 0x4, 1, true, 0, none,
  [(0, CHS_CTX.V)]⟩
/-- R191 -/
def reg_CLC_CMD : Reg := ⟨.CLC_CMD, true, 0x30000, 1, 0x0, 1, 0x0, 1, true, 0, none,
  [(0, CHS_CMD.OP), (4, CHS_CMD.PAD), (5, CHS_CMD.FIRST), (6, CHS_CMD.LAST), (7, CHS_CMD.REPLACE), (8, CHS_CMD.KSLOT), (16, CHS_CMD.KSRC), (17, CHS_CMD.KLEN256)]⟩
/-- R192 -/
def reg_CLC_ARG : Reg := ⟨.CLC_ARG, true, 0x30004, 1, 0x0, 1, 0x0, 1, true, 0, none,
  [(0, CHS_ARG.LEN), (16, CHS_ARG.TARGET), (30, CHS_ARG.OUT256)]⟩
/-- R193 -/
def reg_CLC_STATUS : Reg := ⟨.CLC_STATUS, true, 0x30008, 1, 0x0, 1, 0x0, 1, true, 0, none,
  [(0, CHS_STATUS.STATE), (3, CHS_STATUS.RESULT_VALID), (4, CHS_STATUS.CTX_OPEN), (8, CHS_STATUS.CODE), (16, CHS_STATUS.OUT_LEN), (25, CHS_STATUS.READ_ONCE)]⟩
/-- R190 -/
def reg_CLC_REREAD : Reg := ⟨.CLC_REREAD, true, 0x3000c, 1, 0x0, 1, 0x0, 1, true, 0, none,
  [(0, CHS_REREAD.V)]⟩
/-- R209 -/
def reg_CLC_ENGINE : Reg := ⟨.CLC_ENGINE, true, 0x30020, 1, 0x0, 1, 0x0, 1, false, 0, none,
  [(0, CHS_ENGINE.STATE), (2, CHS_ENGINE.TRANS_10S), (8, CHS_ENGINE.CTX_KEY)]⟩
/-- R190 -/
def reg_CLC_FAULTS : Reg := ⟨.CLC_FAULTS, true, 0x30028, 1, 0x0, 1, 0x0, 2, false, 0, none,
  [(0, CHS_FAULTS.V)]⟩
/-- R190 -/
def reg_CLC_KEY : Reg := ⟨.CLC_KEY, true, 0x30040, 1, 0x0, 8, 0x4, 1, true, 0, none,
  [(0, CHS_KEY.V)]⟩
/-- R190 -/
def reg_CLC_DIN : Reg := ⟨.CLC_DIN, true, 0x30100, 1, 0x0, 64, 0x4, 1, true, 0, none,
  [(0, CHS_DIN.V)]⟩
/-- R190 -/
def reg_CLC_DOUT : Reg := ⟨.CLC_DOUT, true, 0x30200, 1, 0x0, 66, 0x4, 1, true, 0, none,
  [(0, CHS_DOUT.V)]⟩
/-- R190 -/
def reg_CLC_CTX : Reg := ⟨.CLC_CTX, true, 0x30400, 1, 0x0, 128, 0x4, 1, true, 0, none,
  [(0, CHS_CTX.V)]⟩
/-- R217 -/
def reg_RNG_CTL : Reg := ⟨.RNG_CTL, false, 0x60000, 1, 0x0, 1, 0x0, 1, false, 0, none,
  [(0, RNG_CTL.RESEED), (1, RNG_CTL.REINST), (2, RNG_CTL.TEST_SRC)]⟩
/-- R218 -/
def reg_RNG_STATUS : Reg := ⟨.RNG_STATUS, false, 0x60004, 1, 0x0, 1, 0x0, 1, false, 0, none,
  [(0, RNG_STATUS.STATE), (3, RNG_STATUS.RERUNS), (5, RNG_STATUS.LAST_TEST), (6, RNG_STATUS.LAST_CHAN), (9, RNG_STATUS.PATTERN)]⟩
/-- R217 -/
def reg_RNG_PERS : Reg := ⟨.RNG_PERS, false, 0x60010, 1, 0x0, 4, 0x4, 1, false, 0, none,
  [(0, RNG_PERS.V)]⟩
/-- R217 -/
def reg_RNG_TEST_PAT : Reg := ⟨.RNG_TEST_PAT, false, 0x60020, 1, 0x0, 1, 0x0, 1, false, 0, none,
  [(0, RNG_TEST_PAT.V)]⟩
/-- R217 -/
def reg_RNG_RESEEDS : Reg := ⟨.RNG_RESEEDS, false, 0x60030, 1, 0x0, 1, 0x0, 2, false, 0, none,
  [(0, RNG_RESEEDS.V)]⟩
/-- R217 -/
def reg_RNG_RCT_FAILS : Reg := ⟨.RNG_RCT_FAILS, false, 0x60038, 1, 0x0, 1, 0x0, 2, false, 0, none,
  [(0, RNG_RCT_FAILS.V)]⟩
/-- R217 -/
def reg_RNG_APT_FAILS : Reg := ⟨.RNG_APT_FAILS, false, 0x60040, 1, 0x0, 1, 0x0, 2, false, 0, none,
  [(0, RNG_APT_FAILS.V)]⟩
/-- R219 -/
def reg_RNG_REQ : Reg := ⟨.RNG_REQ, false, 0x60100, 1, 0x0, 1, 0x0, 1, true, 0, none,
  [(0, RNG_REQ.LEN)]⟩
/-- R219 -/
def reg_RNG_REQ_STATUS : Reg := ⟨.RNG_REQ_STATUS, false, 0x60104, 1, 0x0, 1, 0x0, 1, true, 0, none,
  [(0, RNG_REQ_STATUS.STATE), (8, RNG_REQ_STATUS.DEFERRALS)]⟩
/-- R219 -/
def reg_RNG_OUT : Reg := ⟨.RNG_OUT, false, 0x60200, 1, 0x0, 64, 0x4, 1, true, 0, none,
  [(0, RNG_OUT.V)]⟩
/-- R211 -/
def reg_PKE_STATUS : Reg := ⟨.PKE_STATUS, false, 0x70000, 1, 0x0, 1, 0x0, 1, false, 0, none,
  [(0, PKE_STATUS.STATE), (2, PKE_STATUS.BUSY_OP), (4, PKE_STATUS.TRANS_10S)]⟩
/-- R211 -/
def reg_PKE_FAULTS : Reg := ⟨.PKE_FAULTS, false, 0x70008, 1, 0x0, 1, 0x0, 2, false, 0, none,
  [(0, PKE_FAULTS.V)]⟩
/-- R265 -/
def reg_CAR_TX : Reg := ⟨.CAR_TX, false, 0x90000, 1, 0x0, 16, 0x40, 16, false, 0, some 0,
  [(0, CAR_TX.EN), (1, CAR_TX.RUNNING), (2, CAR_TX.STOP), (3, CAR_TX.EV_START), (4, CAR_TX.EV_REFUSED), (5, CAR_TX.EV_IDLE), (8, CAR_TX.SC), (32, CAR_TX.CSIZE), (64, CAR_TX.PERIOD_PS), (96, CAR_TX.GAP_OCT), (128, CAR_TX.DA), (192, CAR_TX.CSEQ_NEXT), (224, CAR_TX.FSEQ_NEXT), (256, CAR_TX.START)]⟩
/-- R276 -/
def reg_CAR_RX : Reg := ⟨.CAR_RX, false, 0x90800, 1, 0x0, 16, 0x20, 8, false, 0, none,
  [(0, CAR_RX.EN), (1, CAR_RX.UP), (2, CAR_RX.EV_DOWN), (3, CAR_RX.EV_UP), (4, CAR_RX.EV_ERR), (8, CAR_RX.SC), (32, CAR_RX.REASM_US), (64, CAR_RX.LOSS_US), (96, CAR_RX.CSEQ_EXP), (128, CAR_RX.FSEQ_EXP)]⟩
/-- R279 -/
def reg_CAR_TXCNT : Reg := ⟨.CAR_TXCNT, false, 0x91000, 1, 0x0, 16, 0x80, 32, false, 0, none,
  [(0, CAR_TXCNT.CARRIERS), (64, CAR_TXCNT.SHIMS), (128, CAR_TXCNT.SEGMENTS), (192, CAR_TXCNT.SEG_OCTETS), (256, CAR_TXCNT.SLOT_SKIPPED), (320, CAR_TXCNT.SLOT_LATE), (384, CAR_TXCNT.C_DISCARD), (448, CAR_TXCNT.CTRL_IN_GAP)]⟩
/-- R280 -/
def reg_CAR_RXCNT : Reg := ⟨.CAR_RXCNT, false, 0x92000, 1, 0x0, 16, 0x80, 32, false, 0, none,
  [(0, CAR_RXCNT.CARRIERS), (64, CAR_RXCNT.SHIMS), (128, CAR_RXCNT.FRAMES), (192, CAR_RXCNT.LOST), (256, CAR_RXCNT.STALE), (320, CAR_RXCNT.FORMAT_ERR), (384, CAR_RXCNT.FRAMES_MISSING), (448, CAR_RXCNT.REASM_ABORT), (512, CAR_RXCNT.REASM_TIMEOUT), (576, CAR_RXCNT.ORPHAN_SEG), (640, CAR_RXCNT.NO_CELL), (704, CAR_RXCNT.DOWN_EVENTS)]⟩
/-- R299 -/
def reg_VNR_CTL : Reg := ⟨.VNR_CTL, false, 0xa0000, 1, 0x0, 1, 0x0, 1, false, 0, none,
  [(0, VNR_CTL.EN), (1, VNR_CTL.FAIL_MODE), (2, VNR_CTL.PASS_MIN)]⟩
/-- R298 -/
def reg_VNR_LAYOUT : Reg := ⟨.VNR_LAYOUT, false, 0xa0008, 1, 0x0, 1, 0x0, 2, false, 0, none,
  [(0, VNR_LAYOUT.DATA_P8), (32, VNR_LAYOUT.FLOOR_P8)]⟩
/-- R310 -/
def reg_VNR_STATUS : Reg := ⟨.VNR_STATUS, false, 0xa0010, 1, 0x0, 1, 0x0, 1, false, 0, none,
  [(0, VNR_STATUS.STATE), (4, VNR_STATUS.KEYS), (5, VNR_STATUS.TWO_EPOCHS), (6, VNR_STATUS.BELOW_FLOOR)]⟩
/-- R310 -/
def reg_VNR_BOUNDARY : Reg := ⟨.VNR_BOUNDARY, false, 0xa0014, 1, 0x0, 1, 0x0, 1, false, 0, none,
  [(0, VNR_BOUNDARY.V)]⟩
/-- R310 -/
def reg_VNR_EPOCH : Reg := ⟨.VNR_EPOCH, false, 0xa0018, 1, 0x0, 1, 0x0, 1, false, 0, none,
  [(0, VNR_EPOCH.V)]⟩
/-- R310 -/
def reg_VNR_PAGE_FREE : Reg := ⟨.VNR_PAGE_FREE, false, 0xa0020, 1, 0x0, 1, 0x0, 1, false, 0, none,
  [(0, VNR_PAGE_FREE.V)]⟩
/-- R310 -/
def reg_VNR_PAGE_EXH : Reg := ⟨.VNR_PAGE_EXH, false, 0xa0024, 1, 0x0, 1, 0x0, 1, false, 0, none,
  [(0, VNR_PAGE_EXH.V)]⟩
/-- R310 -/
def reg_VNR_PAGE_RETIRED : Reg := ⟨.VNR_PAGE_RETIRED, false, 0xa0028, 1, 0x0, 1, 0x0, 1, false, 0, none,
  [(0, VNR_PAGE_RETIRED.V)]⟩
/-- R310 -/
def reg_VNR_SPARES_USED : Reg := ⟨.VNR_SPARES_USED, false, 0xa002c, 1, 0x0, 1, 0x0, 1, false, 0, none,
  [(0, VNR_SPARES_USED.V)]⟩
/-- R310 -/
def reg_VNR_CNT : Reg := ⟨.VNR_CNT, false, 0xa0100, 1, 0x0, 1, 0x0, 18, false, 0, none,
  [(0, VNR_CNT.TRANSIENT_READ), (64, VNR_CNT.INTEGRITY_FAIL), (128, VNR_CNT.POISON_READ), (192, VNR_CNT.PARTIAL_REFUSED), (256, VNR_CNT.MARCH_PASS), (320, VNR_CNT.MARCH_FAIL), (384, VNR_CNT.NOSPARE_RETIRE), (448, VNR_CNT.FRAME_LOSS), (512, VNR_CNT.PASSES)]⟩
/-- R307 -/
def reg_VNR_QLOSS : Reg := ⟨.VNR_QLOSS, false, 0xa8000, 1, 0x0, 8192, 0x4, 1, false, 0, none,
  [(0, VNR_QLOSS.V)]⟩
/-- R285 -/
def reg_HQ_PUNT : Reg := ⟨.HQ_PUNT, false, 0x600000, 1, 0x0, 64, 0x40, 16, false, 0, none,
  [(0, HQ_PUNT.EN), (1, HQ_PUNT.PORT), (2, HQ_PUNT.SIZE_LOG2), (7, HQ_PUNT.STOPPED), (8, HQ_PUNT.REGION), (16, HQ_PUNT.QUOTA), (32, HQ_PUNT.DESC_BASE), (96, HQ_PUNT.CPL_BASE), (160, HQ_PUNT.PROD), (176, HQ_PUNT.CPL_ACK), (192, HQ_PUNT.CONS), (208, HQ_PUNT.CPL_IDX), (224, HQ_PUNT.PHASE)]⟩
/-- R285 -/
def reg_HQ_INJ : Reg := ⟨.HQ_INJ, false, 0x601000, 1, 0x0, 64, 0x40, 16, false, 64, none,
  [(0, HQ_PUNT.EN), (1, HQ_PUNT.PORT), (2, HQ_PUNT.SIZE_LOG2), (7, HQ_PUNT.STOPPED), (8, HQ_PUNT.REGION), (16, HQ_PUNT.QUOTA), (32, HQ_PUNT.DESC_BASE), (96, HQ_PUNT.CPL_BASE), (160, HQ_PUNT.PROD), (176, HQ_PUNT.CPL_ACK), (192, HQ_PUNT.CONS), (208, HQ_PUNT.CPL_IDX), (224, HQ_PUNT.PHASE)]⟩
/-- R292 -/
def reg_HQ_CTL : Reg := ⟨.HQ_CTL, false, 0x602000, 1, 0x0, 64, 0x4, 1, false, 0, none,
  [(0, HQ_CTL.DROP_REST), (8, HQ_CTL.RESULT)]⟩
/-- R293 -/
def reg_HQ_PCNT : Reg := ⟨.HQ_PCNT, false, 0x603000, 1, 0x0, 64, 0x20, 8, false, 0, none,
  [(0, HQ_PCNT.PACKETS), (64, HQ_PCNT.OCTETS), (128, HQ_PCNT.LOST), (192, HQ_PCNT.TRUNC)]⟩
/-- R296 -/
def reg_HQ_ICNT : Reg := ⟨.HQ_ICNT, false, 0x603800, 1, 0x0, 64, 0x20, 8, false, 0, none,
  [(0, HQ_ICNT.FETCHED), (64, HQ_ICNT.ADMITTED), (128, HQ_ICNT.REFUSED), (192, HQ_ICNT.DMA_ERR)]⟩
/-- R359 -/
def reg_FLT_CFG : Reg := ⟨.FLT_CFG, false, 0xc0000, 1, 0x0, 1, 0x0, 1, false, 0, none,
  [(0, FLT_CFG.AUTO_RESTART), (1, FLT_CFG.LANE_AUTO), (8, FLT_CFG.HOLD_MS), (16, FLT_CFG.FENCE_LIMIT), (24, FLT_CFG.SNR_MIN)]⟩
/-- R360 -/
def reg_FLT_RGN_CMD : Reg := ⟨.FLT_RGN_CMD, false, 0xc0010, 1, 0x0, 1, 0x0, 1, false, 0, none,
  [(0, FLT_RGN_CMD.REGION), (4, FLT_RGN_CMD.OP)]⟩
/-- R360 -/
def reg_FLT_RGN_INFO : Reg := ⟨.FLT_RGN_INFO, false, 0xc0020, 1, 0x0, 4, 0x4, 1, false, 0, none,
  [(0, FLT_RGN_INFO.LAST_CAUSE), (8, FLT_RGN_INFO.FENCES_1H), (12, FLT_RGN_INFO.RESTARTING), (13, FLT_RGN_INFO.AUTO_BLOCKED), (16, FLT_RGN_INFO.RESTARTS)]⟩
/-- R360 -/
def reg_FLT_LANE_CMD : Reg := ⟨.FLT_LANE_CMD, false, 0xc0040, 1, 0x0, 1, 0x0, 1, false, 0, none,
  [(0, FLT_LANE_CMD.LANE), (6, FLT_LANE_CMD.SIDE), (8, FLT_LANE_CMD.OP)]⟩
/-- R360 -/
def reg_FLT_CNT : Reg := ⟨.FLT_CNT, false, 0xc0100, 1, 0x0, 1, 0x0, 14, false, 0, none,
  [(0, FLT_CNT.SRAM_CORR), (64, FLT_CNT.SRAM_UNCORR), (128, FLT_CNT.ROW_SPARED), (192, FLT_CNT.ROW_NOSPARE), (256, FLT_CNT.DUP_CORR), (320, FLT_CNT.TIME_VOTE), (384, FLT_CNT.XBAR_REPEAT)]⟩
/-- R357 -/
def reg_FLT_BRACE_STATUS : Reg := ⟨.FLT_BRACE_STATUS, false, 0xc1000, 1, 0x0, 7, 0x4, 1, false, 0, none,
  [(0, FLT_BRACE_STATUS.ACTIVE), (1, FLT_BRACE_STATUS.A_GOOD), (2, FLT_BRACE_STATUS.B_GOOD), (3, FLT_BRACE_STATUS.REDUNDANT), (8, FLT_BRACE_STATUS.LAST_DIFF_MV), (16, FLT_BRACE_STATUS.LAST_CAUSE)]⟩
/-- R358 -/
def reg_FLT_BRACE_CMD : Reg := ⟨.FLT_BRACE_CMD, false, 0xc1040, 1, 0x0, 1, 0x0, 1, false, 0, none,
  [(0, FLT_BRACE_CMD.GROUP), (8, FLT_BRACE_CMD.OP)]⟩
/-- R358 -/
def reg_FLT_BRACE_CMD_STATUS : Reg := ⟨.FLT_BRACE_CMD_STATUS, false, 0xc1044, 1, 0x0, 1, 0x0, 1, false, 0, none,
  [(0, FLT_BRACE_CMD_STATUS.V)]⟩
/-- R357 -/
def reg_FLT_BRACE_SW : Reg := ⟨.FLT_BRACE_SW, false, 0xc1080, 1, 0x0, 7, 0x8, 2, false, 0, none,
  [(0, FLT_BRACE_SW.V)]⟩
/-- R170 -/
def reg_KST_CMD : Reg := ⟨.KST_CMD, true, 0x10000, 1, 0x0, 1, 0x0, 1, true, 0, none,
  [(0, KST_CMD.OP), (8, KST_CMD.SLOT), (16, KST_CMD.SA), (30, KST_CMD.KLEN256), (31, KST_CMD.REPLACE)]⟩
/-- R171 -/
def reg_KST_STATUS : Reg := ⟨.KST_STATUS, true, 0x10004, 1, 0x0, 1, 0x0, 1, true, 0, none,
  [(0, KST_STATUS.STATE), (8, KST_STATUS.REASON), (16, KST_STATUS.AFFECTED)]⟩
/-- R178 -/
def reg_KST_KRAM_MAP : Reg := ⟨.KST_KRAM_MAP, true, 0x10010, 1, 0x0, 1, 0x0, 1, false, 0, none,
  [(0, KST_KRAM_MAP.V)]⟩
/-- R180 -/
def reg_KST_BOOT_SKIP : Reg := ⟨.KST_BOOT_SKIP, true, 0x10014, 1, 0x0, 1, 0x0, 1, false, 0, none,
  [(0, KST_BOOT_SKIP.V)]⟩
/-- R161 -/
def reg_KST_DEVID : Reg := ⟨.KST_DEVID, true, 0x10020, 1, 0x0, 4, 0x4, 1, false, 0, none,
  [(0, KST_DEVID.V)]⟩
/-- R163 -/
def reg_KST_DENY_CNT : Reg := ⟨.KST_DENY_CNT, true, 0x10030, 1, 0x0, 1, 0x0, 2, false, 0, none,
  [(0, KST_DENY_CNT.V)]⟩
/-- R178 -/
def reg_KST_KRAM_ENT : Reg := ⟨.KST_KRAM_ENT, true, 0x10100, 1, 0x0, 32, 0x4, 1, false, 0, none,
  [(0, KST_KRAM_ENT.SLOT), (8, KST_KRAM_ENT.VALID), (9, KST_KRAM_ENT.RESTORE_FAIL)]⟩
/-- R161 -/
def reg_KST_SLOT : Reg := ⟨.KST_SLOT, true, 0x11000, 1, 0x0, 256, 0x10, 4, false, 0, none,
  [(0, KST_SLOT.STATE), (4, KST_SLOT.ORPHAN), (5, KST_SLOT.PERSISTED), (6, KST_SLOT.KLEN), (8, KST_SLOT.PARENT), (16, KST_SLOT.HAS_PARENT), (17, KST_SLOT.ORIGIN), (24, KST_SLOT.GEN), (32, KST_SLOT.MASTERS), (35, KST_SLOT.WORLDS), (37, KST_SLOT.LCS), (40, KST_SLOT.PURPOSE), (48, KST_SLOT.CASCADE), (49, KST_SLOT.EXPORTABLE), (50, KST_SLOT.PERSIST), (51, KST_SLOT.LIMIT_EN), (64, KST_SLOT.LIMIT), (96, KST_SLOT.USED)]⟩
/-- R169 -/
def reg_KST_SA_INFO : Reg := ⟨.KST_SA_INFO, true, 0x18000, 1, 0x0, 8192, 0x4, 1, false, 0, none,
  []⟩
/-- R184 -/
def reg_ATT_NONCE : Reg := ⟨.ATT_NONCE, true, 0x40000, 1, 0x0, 8, 0x4, 1, true, 0, none,
  [(0, ATT_NONCE.V)]⟩
/-- R184 -/
def reg_ATT_CTL : Reg := ⟨.ATT_CTL, true, 0x40040, 1, 0x0, 1, 0x0, 1, true, 0, none,
  [(0, ATT_CTL.GO)]⟩
/-- R184 -/
def reg_ATT_STATUS : Reg := ⟨.ATT_STATUS, true, 0x40044, 1, 0x0, 1, 0x0, 1, true, 0, none,
  [(0, ATT_STATUS.STATE), (8, ATT_STATUS.ERR), (16, ATT_STATUS.LEN)]⟩
/-- R184 -/
def reg_ATT_CERT_LEN : Reg := ⟨.ATT_CERT_LEN, true, 0x40048, 1, 0x0, 1, 0x0, 1, true, 0, none,
  [(0, ATT_CERT_LEN.V)]⟩
/-- R184 -/
def reg_ATT_REPORT : Reg := ⟨.ATT_REPORT, true, 0x41000, 1, 0x0, 1024, 0x4, 1, true, 0, none,
  []⟩
/-- R184 -/
def reg_ATT_CERT : Reg := ⟨.ATT_CERT, true, 0x42000, 1, 0x0, 2048, 0x4, 1, true, 0, none,
  []⟩
/-- R332 -/
def reg_OFC_MOD_ALLOW : Reg := ⟨.OFC_MOD_ALLOW, true, 0x1000, 1, 0x0, 64, 0x40, 16, false, 0, some 8,
  [(0, OFC_MOD_ALLOW.HASH), (256, OFC_MOD_ALLOW.PORTS), (272, OFC_MOD_ALLOW.VALID)]⟩

/-- The GLB rows. -/
def regs_GLB : List Reg :=
  [reg_GLB_ID, reg_GLB_MODE, reg_GLB_MODE_REQ, reg_GLB_DEGRADED_CAUSE, reg_GLB_BOOT_STATUS, reg_GLB_TX_RESUME, reg_GLB_REGION_STATUS, reg_GLB_CFG_REJECT, reg_GLB_CFG_REJECT_LAST, reg_GLB_CFG_REJECT_INT, reg_GLB_CFG_REJECT_INT_LAST, reg_GLB_SEM, reg_GLB_SEM_LOST, reg_GLB_OFC_BOOT_KEY, reg_GLB_OFC_BOOT_GO, reg_GLB_OFC_BOOT_STATUS, reg_GLB_OFC_BOOT_OUT, reg_GLB_RCLK_CFG, reg_GLB_REFCLK_STATUS]
/-- The ICU rows. -/
def regs_ICU : List Reg :=
  [reg_ICU_PEND, reg_ICU_PEND_SUM0, reg_ICU_PEND_SUM1, reg_ICU_SRC, reg_ICU_VEC, reg_ICU_PORT, reg_ICU_EVIN]
/-- The JIG rows. -/
def regs_JIG : List Reg :=
  [reg_JIG_RUN_SEQ, reg_JIG_RUN_SVN, reg_JIG_MIN_SVN, reg_JIG_RUN_HASH, reg_JIG_REJECT, reg_JIG_KEY_FAIL, reg_JIG_STG_ADDR_LO, reg_JIG_STG_ADDR_HI, reg_JIG_STG_LEN, reg_JIG_STG_CTL, reg_JIG_STG_STATUS, reg_JIG_FL_CMD, reg_JIG_FL_ADDR, reg_JIG_FL_STATUS, reg_JIG_FL_DATA]
/-- The CNT rows. -/
def regs_CNT : List Reg :=
  [reg_CNT_CTL, reg_CNT_STATUS, reg_CNT_WRAP_ADDR, reg_CNT_WRAP_STAT, reg_CNT_WRAP_SUM, reg_CNT_SMP_CTL, reg_CNT_SMP_SEED, reg_CNT_SMP_HEAD, reg_CNT_SMP_DROPPED, reg_CNT_SMP_PORTS]
/-- The SNP rows. -/
def regs_SNP : List Reg :=
  [reg_SNP_HDR, reg_SNP_ENT, reg_SNP_SMP]
/-- The MSIX rows. -/
def regs_MSIX : List Reg :=
  [reg_MSIX_ENT, reg_MSIX_PBA]
/-- The MEM rows. -/
def regs_MEM : List Reg :=
  [reg_MEM_CH, reg_MEM_FENCED]
/-- The OFC rows. -/
def regs_OFC : List Reg :=
  [reg_OFC_SESSION, reg_OFC_LOCK, reg_OFC_CHAL_GO, reg_OFC_LOCKDOWN, reg_OFC_CHAL, reg_OFC_RESP, reg_OFC_VIOL_CNT, reg_OFC_VIOL_LAST, reg_OFC_RESET, reg_OFC_RESET_TIME0, reg_OFC_RESET_TIME1, reg_OFC_RESET_TIME2, reg_OFC_CLR_POLICY, reg_OFC_RX_POLICY, reg_OFC_PERF, reg_OFC_TX_RESUME_LO, reg_OFC_TX_RESUME_HI, reg_OFC_CLM_CTL, reg_OFC_CLM_CLASS, reg_OFC_MOD_ALLOW]
/-- The LCY rows. -/
def regs_LCY : List Reg :=
  [reg_LCY_STATE, reg_LCY_CMD, reg_LCY_STATUS, reg_LCY_OPERAND]
/-- The DBG rows. -/
def regs_DBG : List Reg :=
  [reg_DBG_CTL, reg_DBG_STATUS]
/-- The CLM rows. -/
def regs_CLM : List Reg :=
  [reg_CLM_STATUS, reg_CLM_LOG_NEWEST, reg_CLM_LOG_COUNT, reg_CLM_CLASS_CNT, reg_CLM_WIN, reg_CLM_LOG]
/-- The CLS rows. -/
def regs_CLS : List Reg :=
  [reg_CLS_EGR, reg_CLS_IGR]
/-- The SCT rows. -/
def regs_SCT : List Reg :=
  [reg_SCT_TX, reg_SCT_RX]
/-- The SAT rows. -/
def regs_SAT : List Reg :=
  [reg_SAT_TX, reg_SAT_RX]
/-- The RGN rows. -/
def regs_RGN : List Reg :=
  [reg_RGN_HPCLS, reg_RGN_LPIGR, reg_RGN_LP_RXCFG, reg_RGN_IGR_POOL, reg_RGN_CELL_STATUS, reg_RGN_PPE_STATUS, reg_RGN_PPE_MISMATCH, reg_RGN_PPI_STATUS, reg_RGN_PPI_MISMATCH, reg_RGN_HPORT, reg_RGN_LPORT, reg_RGN_LMOD, reg_RGN_HPCNT, reg_RGN_LPCNT, reg_RGN_LMON, reg_RGN_MODACC, reg_RGN_MODACC_STATUS, reg_RGN_MODACC_DATA, reg_RGN_HLANE, reg_RGN_LLANE]
/-- The QUE rows. -/
def regs_QUE : List Reg :=
  [reg_QUE_DQ, reg_QUE_CQ, reg_QUE_CCNT, reg_QUE_SHP, reg_QUE_DCNT]
/-- The PLN rows. -/
def regs_PLN : List Reg :=
  [reg_PLN_SHP_PORT, reg_PLN_SHP_GRD, reg_PLN_HPFC, reg_PLN_POOL, reg_PLN_QEV, reg_PLN_TXSA_ADV_SUM, reg_PLN_TXSA_FLT_SUM, reg_PLN_TXSA_CMD, reg_PLN_RXSA_ADV_SUM, reg_PLN_RXSA_FLT_SUM, reg_PLN_RXSA_CMD]
/-- The TIM rows. -/
def regs_TIM : List Reg :=
  [reg_TIM_NOW, reg_TIM_INCR, reg_TIM_SLEW, reg_TIM_SLEW_RATE, reg_TIM_SLEW_REMAIN, reg_TIM_STEP, reg_TIM_DISC, reg_TIM_STATUS, reg_TIM_KEEP, reg_TIM_HO, reg_TIM_HO_ERR, reg_TIM_RTC_SEC, reg_TIM_RTC_STATUS, reg_TIM_PULSE_CFG, reg_TIM_LP, reg_TIM_HP, reg_TIM_TXQ, reg_TIM_TXQ_STAT, reg_TIM_TXQ_LOST]
/-- The GAU rows. -/
def regs_GAU : List Reg :=
  [reg_GAU_RING_HEAD, reg_GAU_SCHED_CMD, reg_GAU_AUT_LAST, reg_GAU_RING, reg_GAU_AUT_FAIL_TX, reg_GAU_AUT_FAIL_RX, reg_GAU_SCH, reg_GAU_ENT]
/-- The CHS rows. -/
def regs_CHS : List Reg :=
  [reg_CHS_CMD, reg_CHS_ARG, reg_CHS_STATUS, reg_CHS_REREAD, reg_CHS_ENGINE, reg_CHS_FAULTS, reg_CHS_KEY, reg_CHS_DIN, reg_CHS_DOUT, reg_CHS_CTX]
/-- The CLC rows. -/
def regs_CLC : List Reg :=
  [reg_CLC_CMD, reg_CLC_ARG, reg_CLC_STATUS, reg_CLC_REREAD, reg_CLC_ENGINE, reg_CLC_FAULTS, reg_CLC_KEY, reg_CLC_DIN, reg_CLC_DOUT, reg_CLC_CTX]
/-- The RNG rows. -/
def regs_RNG : List Reg :=
  [reg_RNG_CTL, reg_RNG_STATUS, reg_RNG_PERS, reg_RNG_TEST_PAT, reg_RNG_RESEEDS, reg_RNG_RCT_FAILS, reg_RNG_APT_FAILS, reg_RNG_REQ, reg_RNG_REQ_STATUS, reg_RNG_OUT]
/-- The PKE rows. -/
def regs_PKE : List Reg :=
  [reg_PKE_STATUS, reg_PKE_FAULTS]
/-- The CAR rows. -/
def regs_CAR : List Reg :=
  [reg_CAR_TX, reg_CAR_RX, reg_CAR_TXCNT, reg_CAR_RXCNT]
/-- The VNR rows. -/
def regs_VNR : List Reg :=
  [reg_VNR_CTL, reg_VNR_LAYOUT, reg_VNR_STATUS, reg_VNR_BOUNDARY, reg_VNR_EPOCH, reg_VNR_PAGE_FREE, reg_VNR_PAGE_EXH, reg_VNR_PAGE_RETIRED, reg_VNR_SPARES_USED, reg_VNR_CNT, reg_VNR_QLOSS]
/-- The HQ rows. -/
def regs_HQ : List Reg :=
  [reg_HQ_PUNT, reg_HQ_INJ, reg_HQ_CTL, reg_HQ_PCNT, reg_HQ_ICNT]
/-- The FLT rows. -/
def regs_FLT : List Reg :=
  [reg_FLT_CFG, reg_FLT_RGN_CMD, reg_FLT_RGN_INFO, reg_FLT_LANE_CMD, reg_FLT_CNT, reg_FLT_BRACE_STATUS, reg_FLT_BRACE_CMD, reg_FLT_BRACE_CMD_STATUS, reg_FLT_BRACE_SW]
/-- The KST rows. -/
def regs_KST : List Reg :=
  [reg_KST_CMD, reg_KST_STATUS, reg_KST_KRAM_MAP, reg_KST_BOOT_SKIP, reg_KST_DEVID, reg_KST_DENY_CNT, reg_KST_KRAM_ENT, reg_KST_SLOT, reg_KST_SA_INFO]
/-- The ATT rows. -/
def regs_ATT : List Reg :=
  [reg_ATT_NONCE, reg_ATT_CTL, reg_ATT_STATUS, reg_ATT_CERT_LEN, reg_ATT_REPORT, reg_ATT_CERT]
/-- The whole map. -/
def regTable : List Reg :=
  regs_GLB ++ regs_ICU ++ regs_JIG ++ regs_CNT ++ regs_SNP ++ regs_MSIX ++ regs_MEM ++ regs_OFC ++ regs_LCY ++ regs_DBG ++ regs_CLM ++ regs_CLS ++ regs_SCT ++ regs_SAT ++ regs_RGN ++ regs_QUE ++ regs_PLN ++ regs_TIM ++ regs_GAU ++ regs_CHS ++ regs_CLC ++ regs_RNG ++ regs_PKE ++ regs_CAR ++ regs_VNR ++ regs_HQ ++ regs_FLT ++ regs_KST ++ regs_ATT

/-- Where a word of the map lies: the row, the entry index (without the bank) and the word of the entry. -/
structure Place where
  reg : Reg
  idx : Nat
  word : Nat

/-- Entry and word that byte offset `off` names in row `r`, if it names one. -/
def Reg.at? (r : Reg) (off : Nat) : Option (Nat × Nat) :=
  if off < r.base then none else
    let d := off - r.base
    let a := if r.stride1 = 0 then 0 else d / r.stride1
    let e := if r.stride1 = 0 then d else d % r.stride1
    let b := if r.stride2 = 0 then 0 else e / r.stride2
    let w := (if r.stride2 = 0 then e else e % r.stride2) / 4
    if a < r.count1 ∧ b < r.count2 ∧ w < r.words then some (a * r.count2 + b, w) else none

/-- The register word at a byte offset of a window (BAR2 or BAR0 of function 0); `none` at a reserved offset (R5). -/
def place (bar2 : Bool) (off : Nat) : Option Place :=
  regTable.findSome? fun r =>
    if r.bar2 = bar2 then (r.at? off).map fun (i, w) => ⟨r, i, w⟩ else none

/-- Byte offset of word `w` of entry `i` of row `r`. -/
def Reg.offset (r : Reg) (i w : Nat) : Nat :=
  r.base + (i / r.count2) * r.stride1 + (i % r.count2) * r.stride2 + 4 * w

/-- Index of the copy that port `p` reaches (R450). -/
def Reg.copy (r : Reg) (p i : Nat) : Nat :=
  r.first + (if r.banked then i + p * (r.count1 * r.count2) else i)

end Sys2Proof.Machine
end

