-- ==== Sys2Proof/Machine/Hash.lean ====
section
/-! DEFINITION. SHA-384, ECDSA P-384 and CTR_DRBG, which R210 and R215 name. PRESUMED: the constants and procedures are those of the standards (log entry 6). -/

namespace Sys2Proof.Machine

/-- The first 80 primes. -/
def primes80 : List Nat := (List.range 410).filter (fun n => 2 ≤ n ∧ (List.range n).all (fun d => d < 2 ∨ n % d ≠ 0))

/-- The largest `r` with `r ^ k ≤ n`, bit by bit. -/
def iroot (k n bitsN : Nat) : Nat :=
  (List.range bitsN).foldl (fun r i => let c := r + 2 ^ (bitsN - 1 - i); if c ^ k ≤ n then c else r) 0

/-- The round constants: the first 64 fractional bits of the cube roots of the first 80 primes. -/
def shaK : List (BitVec 64) := primes80.map (fun p => BitVec.ofNat 64 (iroot 3 (p * 2 ^ 192) 68))

/-- The initial hash value of SHA-384: fractional bits of the square roots of the ninth to sixteenth primes. -/
def sha384Init : List (BitVec 64) := ((primes80.drop 8).take 8).map (fun p => BitVec.ofNat 64 (iroot 2 (p * 2 ^ 128) 68))

/-- The message schedule of one 128-octet block. -/
def shaSchedule (blk : Octets) : List (BitVec 64) :=
  let w0 := ((List.range 16).map (fun i => BitVec.ofNat 64 (beNat (slice blk (8 * i) 8)))).reverse
  ((List.range 64).foldl (fun (acc : List (BitVec 64)) _ =>
    let w15 := acc.getD 14 0
    let w2 := acc.getD 1 0
    let s0 := w15.rotateRight 1 ^^^ w15.rotateRight 8 ^^^ (w15 >>> 7)
    let s1 := w2.rotateRight 19 ^^^ w2.rotateRight 61 ^^^ (w2 >>> 6)
    (acc.getD 15 0 + s0 + acc.getD 6 0 + s1) :: acc) w0).reverse

/-- One round. -/
def shaRound (v : List (BitVec 64)) (kw : BitVec 64 × BitVec 64) : List (BitVec 64) :=
  match v with
  | [a, b, c, d, e, f, g, h] =>
    let s1 := e.rotateRight 14 ^^^ e.rotateRight 18 ^^^ e.rotateRight 41
    let ch := (e &&& f) ^^^ (~~~e &&& g)
    let t1 := h + s1 + ch + kw.1 + kw.2
    let s0 := a.rotateRight 28 ^^^ a.rotateRight 34 ^^^ a.rotateRight 39
    let mj := (a &&& b) ^^^ (a &&& c) ^^^ (b &&& c)
    [t1 + s0 + mj, a, b, c, d + t1, e, f, g]
  | o => o

/-- SHA-384 (FIPS 180-4). -/
def sha384 (m : Octets) : Octets :=
  let padded := m ++ [0x80#8] ++ List.replicate ((239 - m.length % 128) % 128) 0 ++ beBytes 16 (8 * m.length)
  let ks := shaK
  let h := (List.range (padded.length / 128)).foldl (fun h i =>
    List.zipWith (· + ·) h ((List.zip ks (shaSchedule (slice padded (128 * i) 128))).foldl shaRound h)) sha384Init
  ((h.take 6).map (fun w => beBytes 8 w.toNat)).flatten

/-- The prime of P-384. -/
def p384P : Nat := 2 ^ 384 - 2 ^ 128 - 2 ^ 96 + 2 ^ 32 - 1
/-- The order of P-384. -/
def p384N : Nat := 0xFFFFFFFFFFFFFFFFFFFFFFFFFFFFFFFFFFFFFFFFFFFFFFFFC7634D81F4372DDF581A0DB248B0A77AECEC196ACCC52973
/-- The coefficient b of P-384. -/
def p384B : Nat := 0xB3312FA7E23EE7E4988E056BE3F82D19181D9C6EFE8141120314088F5013875AC656398D8A2ED19D2A85C8EDD3EC2AEF
/-- The base point of P-384. -/
def p384G : Nat × Nat :=
  (0xAA87CA22BE8B05378EB1C71EF320AD746E1D3B628BA79B9859F741E082542A385502F25DBF55296C3A545E3872760AB7,
   0x3617DE4A96262C6F5D9E98BF9292DC29F8F41DBD289A147CE9DA3113B5F0B8C00A60B1CE1D7E819D7A431D7C90EA0E5F)

/-- `b ^ e mod m`, for exponents below 2^384. -/
def powMod (b e m : Nat) : Nat :=
  ((List.range 384).foldl (fun (p : Nat × Nat) i => (if bit e i then p.1 * p.2 % m else p.1, p.2 * p.2 % m)) (1 % m, b % m)).1

/-- The inverse modulo a prime. -/
def invMod (a m : Nat) : Nat := powMod a (m - 2) m

/-- Addition of two points; `none` is the point at infinity. -/
def ecAdd : Option (Nat × Nat) → Option (Nat × Nat) → Option (Nat × Nat)
  | none, q => q
  | p, none => p
  | some (x1, y1), some (x2, y2) =>
    if x1 = x2 ∧ (y1 + y2) % p384P = 0 then none
    else
      let l := if x1 = x2 then (3 * x1 * x1 + (p384P - 3)) * invMod (2 * y1) p384P % p384P
               else (y2 + p384P - y1) * invMod (x2 + p384P - x1) p384P % p384P
      let x3 := (l * l + 2 * p384P - x1 - x2) % p384P
      some (x3, (l * (x1 + p384P - x3) + p384P - y1) % p384P)

/-- Multiplication of a point by a number below 2^384. -/
def ecMul (k : Nat) (q : Option (Nat × Nat)) : Option (Nat × Nat) :=
  ((List.range 384).foldl (fun (p : Option (Nat × Nat) × Option (Nat × Nat)) i =>
    (if bit k i then ecAdd p.1 p.2 else p.1, ecAdd p.2 p.2)) (none, q)).1

/-- ECDSA verification (FIPS 186-5) of `r ‖ s` over a SHA-384 hash under a public point. -/
def ecdsaVerify (pub : Nat × Nat) (hash sig : Octets) : Bool :=
  let r := beNat (sig.take 48)
  let s := beNat (sig.drop 48)
  if r = 0 ∨ r ≥ p384N ∨ s = 0 ∨ s ≥ p384N then false
  else if pub.1 ≥ p384P ∨ pub.2 ≥ p384P ∨ (pub.2 * pub.2) % p384P ≠ (pub.1 ^ 3 + (p384P - 3) * pub.1 + p384B) % p384P then false
  else
    let w := invMod s p384N
    match ecAdd (ecMul (beNat hash * w % p384N) (some p384G)) (ecMul (r * w % p384N) (some pub)) with
    | none => false
    | some (x, _) => x % p384N == r

/-- ECDSA signature `r ‖ s` with scalar `d` and nonce `k`. -/
def ecdsaSign (d k : Nat) (hash : Octets) : Octets :=
  let r := ((ecMul k (some p384G)).getD (0, 0)).1 % p384N
  let s := invMod k p384N * (beNat hash + r * d) % p384N
  beBytes 48 r ++ beBytes 48 s

/-- The working state of CTR_DRBG with AES-256 (SP 800-90A). -/
structure Drbg where
  key : Octets
  v   : Octets
  deriving DecidableEq, Repr

/-- `n` octets of block output and the advanced V. -/
def drbgBlocks (d : Drbg) (n : Nat) : Octets × Octets :=
  let ks := expandKey d.key
  let r := (List.range (ceilDiv n 16)).foldl (fun (p : Octets × Nat) _ =>
    let v := (p.2 + 1) % 2 ^ 128
    (p.1 ++ aesWith ks (beBytes 16 v), v)) ([], beNat d.v)
  (r.1.take n, beBytes 16 r.2)

/-- CTR_DRBG_Update with 48 octets of provided data. -/
def drbgUpdate (d : Drbg) (data : Octets) : Drbg :=
  let t := xorO (drbgBlocks d 48).1 (padTo 48 data)
  ⟨t.take 32, t.drop 32⟩

/-- BCC of the derivation function. -/
def bcc (ks : List Octets) (d : Octets) : Octets := (blocks16 d).foldl (fun x b => aesWith ks (xorO x b)) (List.replicate 16 0)

/-- Block_Cipher_df to 48 octets. -/
def drbgDf (input : Octets) : Octets :=
  let s := beBytes 4 input.length ++ beBytes 4 48 ++ input ++ [0x80#8]
  let k0 := expandKey ((List.range 32).map (fun i => BitVec.ofNat 8 i))
  let t := ((List.range 3).map (fun i => bcc k0 (beBytes 16 (i * 2 ^ 96) ++ s))).flatten
  let ks := expandKey (t.take 32)
  ((List.range 3).foldl (fun (p : Octets × Octets) _ => let x := aesWith ks p.2; (p.1 ++ x, x)) ([], slice t 32 16)).1

/-- Instantiation from a seed and a personalisation string (R215). The seed stands for the entropy input; no nonce is drawn apart from it. -/
def drbgInstantiate (seed pers : Octets) : Drbg :=
  drbgUpdate ⟨List.replicate 32 0, List.replicate 16 0⟩ (drbgDf (seed ++ pers))

/-- A reseed from a fresh seed. -/
def drbgReseed (d : Drbg) (seed : Octets) : Drbg := drbgUpdate d (drbgDf seed)

/-- A generate call of at most 512 octets (R215): the octets and the state after it. -/
def drbgGenerate (d : Drbg) (n : Nat) : Octets × Drbg :=
  let r := drbgBlocks d n
  (r.1, drbgUpdate ⟨d.key, r.2⟩ (List.replicate 48 0))

end Sys2Proof.Machine
end

