-- ==== Sys2Proof/Machine/Tab.lean ====
section
/-!
DEFINITION. Machine/Tab.lean: a sparse table from numbers to values in one canonical form: keys strictly rising, no
entry equal to what an unlisted key reads as (`default`). Equal tables are equal data.
-/
namespace Sys2Proof.Machine

/-- A sparse table: (key, value) pairs. -/
abbrev Tab (α : Type) := List (Nat × α)

variable {α : Type}

/-- The entry of key `k`, the first listed: `d` where none is. -/
def Tab.get (d : α) (t : Tab α) (k : Nat) : α :=
  match t with
  | [] => d
  | (i, v) :: r => if i = k then v else Tab.get d r k

/-- Put `v` at `k`, keeping the keys rising. -/
def Tab.insert (t : Tab α) (k : Nat) (v : α) : Tab α :=
  match t with
  | [] => [(k, v)]
  | (i, x) :: r => if k < i then (k, v) :: (i, x) :: r else if k = i then (k, v) :: r else (i, x) :: Tab.insert r k v

/-- Remove key `k`. -/
def Tab.erase (t : Tab α) (k : Nat) : Tab α :=
  match t with
  | [] => []
  | (i, x) :: r => if i = k then Tab.erase r k else (i, x) :: Tab.erase r k

/-- Write `v` at `k`: an entry equal to `d` is removed. -/
def Tab.set [DecidableEq α] (d : α) (t : Tab α) (k : Nat) (v : α) : Tab α :=
  if v = d then t.erase k else t.insert k v

/-- The canonical form. -/
def Tab.wf [DecidableEq α] (d : α) : Tab α → Bool
  | [] => true
  | [(_, v)] => v ≠ d
  | (i, v) :: (j, w) :: r => decide (v ≠ d) && decide (i < j) && Tab.wf d ((j, w) :: r)

end Sys2Proof.Machine
end

