-- ==== Sys2Proof/Machine/Types.lean ====
section
/-!
DEFINITION. Machine/Types.lean: the records the engines of the block hold: frames and where they wait, packets of the
host rings, key-store and Chisel requests, the fuses, the deep buffer's pages, what the block puts out.
-/
namespace Sys2Proof.Machine

/-- What a transmit SC's entry and an SA give to the protection of a frame (R82 to R84). -/
structure Prot where
  xpn : Bool
  conf : Bool
  off : Nat
  scBit : Bool
  es : Bool
  sci : Nat
  ssci : Nat
  salt : Nat
  deriving DecidableEq, Repr

/-- What a receive SC's entry and an SA give to a frame at its slot selection (R99, R106). -/
structure RxPar where
  suite : Nat
  off : Nat
  sci : Nat
  ssci : Nat
  salt : Nat
  window : Nat
  replay : Bool
  overlap : Nat
  deriving DecidableEq, Repr

/-- A frame of the egress walk (R22). `data` runs from DA to the octet before the FCS. -/
structure Frame where
  data : List Octet
  /-- host-side timestamp, network time in 2^-32 ns (R131) -/
  time : Nat
  /-- monotonic instant of receipt (R444 LATENCY) and of admission (age, R257) -/
  mono : Nat
  age : Nat
  /-- TIM_STATUS.STEPS when the timestamp was taken (R152) -/
  steps : Nat
  /-- receiving host port, or none for an injected frame -/
  src : Option Nat
  /-- inject ring whose quota holds the frame until admission (R295) -/
  ring : Option Nat
  /-- priority at the host port (R260) -/
  prio : Nat
  /-- data queue, or 8,192 + control queue -/
  queue : Nat
  /-- CQ of the rule or descriptor (R64, R148) -/
  cq : Nat
  /-- region in whose slice its cells lie; 4 while it lies in the deep buffer (R245, R282) -/
  reg : Nat
  /-- place in the order in which frames have left their queues (R32) -/
  ord : Nat
  /-- transmit SC of a PROTECT frame; none for clear text -/
  sc : Option Nat
  /-- line port -/
  lp : Nat
  /-- launch time T_L (network time, 2^-32 ns); before admission, the descriptor's -/
  launch : Option Nat
  /-- the descriptor's launch time (R153) -/
  want : Nat
  /-- the launch corrects a PTP event message (R148); otherwise it is a descriptor's launch time (R153) -/
  ptp : Bool
  strict : Bool
  /-- identifier of a requested timestamp entry (R134) -/
  tsId : Option Nat
  /-- chosen by the frame sampler (R443) -/
  sampled : Bool
  /-- the frame waited in the deep buffer (R444 FLAGS.DEEP) -/
  deep : Bool
  deriving DecidableEq, Repr

/-- A carrier's own data (R270): its lattice slot, its segments and the sampled frames whose last segment it holds. -/
structure CarInfo where
  slot : Nat
  nseg : Nat
  ends : List Frame
  deriving DecidableEq, Repr

/-- Where a frame of a slice group stands (R85 to R88). -/
inductive EgStat where
  | wait | reissue (not : Nat) | inPair (k : Nat) | done | gone
  deriving DecidableEq, Repr

/-- A frame past step 6 (R76): SA, PN and AN assigned, kept in step-6 order until its release (R24). -/
structure EgItem where
  f : Frame
  sc : Nat
  sa : Nat
  pn : Nat
  an : Nat
  /-- the key captured when the frame entered the slice group (R80), and the rest of its inputs, from step 6 (R87) -/
  key : List Octet
  prot : Prot
  /-- the line-side frame without its FCS, once the pair has finished -/
  line : List Octet
  issues : Nat
  stat : EgStat
  late : Bool
  car : Option CarInfo
  deriving DecidableEq, Repr

/-- A frame released to a line port, before its start of frame crosses the boundary (step 9). -/
structure LineItem where
  line : List Octet
  f : Frame
  pn : Nat
  an : Nat
  late : Bool
  reissued : Bool
  car : Option CarInfo
  deriving DecidableEq, Repr

/-- Where a received frame stands between slot selection and release (R106 to R110). -/
inductive InStat where
  | pre | wait | reissue (not : Nat) | inPair (k : Nat)
  | done (icvOk : Bool)
  | strip
  | gone
  deriving DecidableEq, Repr

/-- A received frame past slot selection, kept in line arrival order (R25). `data` is the frame as received, DA to ICV. -/
structure InItem where
  data : List Octet
  lp : Nat
  time : Nat
  mono : Nat
  steps : Nat
  sc : Nat
  sa : Nat
  /-- effective validation mode at slot selection (R110), and the entry's fields then (R99) -/
  mode : Nat
  par : RxPar
  /-- TIM_STATUS.HOLDOVER when the receive timestamp was taken (R289) -/
  holdover : Bool
  pn : Nat
  key : List Octet
  plain : List Octet
  issues : Nat
  stat : InStat
  sampled : Bool
  deriving DecidableEq, Repr

/-- A frame in a host port's output queue (R114). `data` has no FCS; `cells` stay charged to region `reg` (R113). -/
structure OutFrame where
  data : List Octet
  lp : Nat
  sc : Option Nat
  time : Nat
  mono : Nat
  steps : Nat
  cells : Nat
  reg : Nat
  an : Nat
  pn : Nat
  /-- PTP correction applies (R154) -/
  corr : Bool
  sampled : Bool
  deriving DecidableEq, Repr

/-- A packet waiting on a punt ring (R290). -/
structure Punt where
  data : List Octet
  origLen : Nat
  reason : Nat
  dirLine : Bool
  port : Nat
  rule : Nat
  time : Nat
  holdover : Bool
  cells : Nat
  /-- region of the slice that holds the packet's cells, and whether they are charged to its ingress reserve -/
  reg : Nat
  igr : Bool
  /-- writing has begun: octets written, first descriptor, descriptors used, a bad descriptor met (R288, R289) -/
  begun : Bool
  written : Nat
  first : Nat
  nbuf : Nat
  badDesc : Bool
  deriving DecidableEq, Repr

/-- A completion record that waits for its slot (R286): its octets with FLAGS at octet 3, and what it counts. -/
structure Rec where
  octets : List Octet
  len : Nat
  trunc : Bool
  status : Nat
  /-- the descriptor it answers -/
  desc : Nat
  deriving DecidableEq, Repr

/-- An inject descriptor that has been fetched, waiting for its frame (R294). -/
structure InjDesc where
  index : Nat
  octets : List Octet
  deriving DecidableEq, Repr

/-- One host ring's engine state (R285 to R296). -/
structure Ring where
  waiting : List Punt
  lostSince : Nat
  desc : Option InjDesc
  recs : List Rec
  /-- inject rings: descriptors fetched whose records are not written, in order (R35) -/
  order : List Nat
  deriving DecidableEq, Repr

def Ring.none : Ring := ⟨[], 0, Option.none, [], []⟩

/-- A frame in the deep buffer: the frame's description and the 256 B units that hold its octets, as
`page * 16 + unit` (R255, R304). -/
structure DeepFrame where
  f : Frame
  units : List Nat
  deriving DecidableEq, Repr

/-- The contents of one queue, cell-buffer part first, then the deep-buffer part (R256). -/
structure Queue where
  cells : List Frame
  deep : List DeepFrame
  deficit : Nat
  deriving DecidableEq, Repr

def Queue.none : Queue := ⟨[], [], 0⟩

/-- A tier's active list (R248); `started`: the head queue's turn has begun and its quantum is added. -/
structure Drr where
  list : List Nat
  started : Bool
  deriving DecidableEq, Repr

def Drr.none : Drr := ⟨[], false⟩

/-- A shaper's level in 2^-16 octet and the monotonic instant it was taken at (R252). -/
structure Level where
  lev : Int
  at_ : Nat
  deriving DecidableEq, Repr

/-- A frame in an arrival list of a region, before admission (R255). -/
structure Arrival where
  f : Frame
  /-- inject ring and descriptor index whose completion record admission writes (R296) -/
  inj : Option (Nat × Nat)
  deriving DecidableEq, Repr

/-- A frame being written to the deep buffer (R255), and its units. -/
structure DeepWr where
  a : Arrival
  units : List Nat
  deriving DecidableEq, Repr

/-- Transmit carrier stream of one line port (R265 to R271). -/
structure CarTx where
  stopping : Bool
  /-- waiting to restart after a link-down (R267) -/
  restart : Bool
  /-- next lattice slot to pack -/
  slot : Nat
  /-- the frame split across carriers: the frame, its FSEQ, and the octets already sent -/
  split : Option (Frame × Nat × Nat)
  deriving DecidableEq, Repr

def CarTx.none : CarTx := ⟨false, false, 0, Option.none⟩

/-- Reassembly of one line port (R277). -/
structure CarRx where
  /-- the partial frame: FSEQ, ORIG_LEN, octets held, mono of its first carrier, receive time -/
  part : Option (Nat × Nat × List Octet × Nat × Nat)
  last : Nat
  csSync : Bool
  fsSync : Bool
  /-- FSEQ of a frame discarded for want of cells, whose later segments are dropped without count -/
  noCell : Option Nat
  deriving DecidableEq, Repr

def CarRx.none : CarRx := ⟨Option.none, 0, false, false, Option.none⟩

/-- A transmit timestamp entry (R135). -/
structure TsEntry where
  late : Bool
  holdover : Bool
  ident : Nat
  time : Nat
  deriving DecidableEq, Repr

/-- A key-store command waiting or running (R170 to R172). -/
structure KstReq where
  port : Nat
  op : Nat
  slot : Nat
  sa : Nat
  k256 : Bool
  replace : Bool
  deriving DecidableEq, Repr

/-- A Chisel command waiting or granted (R194): the CHS_CMD word and the world of the block it was written in. -/
structure ChsReq where
  port : Nat
  world : World
  word : Nat
  /-- the port was lost: the command's result is dropped (R388) -/
  lost : Bool
  deriving DecidableEq, Repr

/-- An open multi-part CMAC of a port (R204). -/
structure MacCtx where
  chain : List Octet
  key : List Octet
  clear : Bool
  slot : Nat
  gen : Nat
  world : World
  parts : Nat
  octets : Nat
  deriving DecidableEq, Repr

/-- An Officer challenge check (R394): its port, the response submitted, the message, and whether it has been repeated
after a fault (R202). -/
structure ChkReq where
  port : Nat
  resp : List Octet
  msg : List Octet
  again : Bool
  deriving DecidableEq, Repr

/-- What a granted Chisel operation does when it ends without a fault (R195 to R207). -/
inductive ChsPlan where
  /-- it ends with this status and no other effect -/
  | code (c : Nat)
  | result (out : List Octet) (once : Bool)
  /-- the port's MAC becomes this, with a tag or nothing -/
  | mac (m : Option MacCtx) (out : List Octet)
  | suspended (rec_ : List Octet)
  | slot (key : List Octet) (target parent : Nat) (replace : Bool) (origin : Nat)
  | sa (key : List Octet) (target parent : Nat)
  deriving DecidableEq, Repr

/-- What Chisel is doing: a port's command, with the slot and GEN of its key, whether AES work is done, and its plan; or
an Officer challenge check with the key and GEN of slot 2 (R394); or the unwrap of the next image key record (R424). -/
inductive ChsJob where
  | cmd (r : ChsReq) (key : Option (Nat × Nat)) (aes : Bool) (plan : ChsPlan)
  | check (c : ChkReq) (key : List Octet) (gen : Nat)
  | record
  deriving DecidableEq, Repr

/-- A PKE operation waiting or running (R210): a report of a port with its map captured (R185), or the verification of
the staged image; the flag says that a fault has repeated it. -/
inductive PkeReq where
  | sign (port : Nat) (map : List Octet)
  | verify (again : Bool)
  deriving DecidableEq, Repr

/-- A staged transmit key (R235): key, SALT, SSCI, epoch and the CAK slot it is a child of. -/
structure Staged where
  key : List Octet
  salt : Nat
  ssci : Nat
  epoch : Nat
  parent : Nat
  orphan : Bool
  deriving DecidableEq, Repr

/-- A derivation of a running pass (R232, R233). -/
structure PassItem where
  sched : Nat
  dir : Dir
  sc : Nat
  epoch : Nat
  deriving DecidableEq, Repr

/-- One owner-hash entry of the fuses and its minimum security versions (R49, R53). -/
structure OwnerEntry where
  hash : List Octet
  svns : List Nat
  deriving DecidableEq, Repr

/-- The fuse array (R49 to R53, R156, R379). -/
structure Fuses where
  lcs : Nat
  reown : Nat
  owners : List OwnerEntry
  certHash : List Octet
  root : List Octet
  logEpoch : Nat
  deriving DecidableEq, Repr

/-- A life-cycle change whose fuses are being blown (R49, R50). -/
structure LcyJob where
  new : Fuses
  /-- the fuses are blown; they act from the next reset on -/
  blown : Bool
  deriving DecidableEq, Repr

/-- One entry of the battery-backed key RAM, 128 octets (R178). -/
abbrev KramEntry := List Octet

/-- One event-log entry: its 48 octets (R376). -/
abbrev LogEntry := List Octet

/-- A Clamp window (R368): the count and the monotonic instant it closes at. -/
structure ClmWin where
  count : Nat
  ends : Nat
  deriving DecidableEq, Repr

/-- An open coalescing window (R375): SEQ and time of the first crossing, the classes and the response so far, and
the feeds involved. -/
structure Coalesce where
  seq : Nat
  time : Nat
  flags : Nat
  classes : Nat
  erase : Bool
  feeds : Nat
  /-- monotonic instant at which the window closes -/
  ends : Nat
  deriving DecidableEq, Repr

/-- An undecided detector event of a supply (R365 to R367): monotonic instant of its first trip, whether the comparator
has tripped, and the widest width the delay line has measured (0: not tripped). -/
structure TripEvent where
  at_ : Nat
  comparator : Bool
  width : Nat
  deriving DecidableEq, Repr

/-- Veneer keys of one epoch (R300). -/
structure VnrKeys where
  epoch : Nat
  k1 : List Octet
  k2 : List Octet
  kt : List Octet
  kh : List Octet
  deriving DecidableEq, Repr

/-- One page of the deep buffer's data region (R304): allocation count, units still holding frames, and whether it has
left use (R309). -/
inductive PageUse where
  | free | live | exhausted | retiring | retired
  deriving DecidableEq, Repr

structure Page where
  count : Nat
  use : PageUse
  live : Nat
  deriving DecidableEq, Repr

def Page.none : Page := ⟨0, .free, 0⟩

/-- One stored line: ciphertext and tag (R301, R302). -/
structure Line where
  data : List Octet
  tag : List Octet
  deriving DecidableEq, Repr

def Line.none : Line := ⟨[], []⟩

/-- A parsed image (R419 to R426). -/
structure Image where
  seq : Nat
  svn : Nat
  autoMode : Nat
  base : List (Nat × Nat × Nat)
  tables : List (Nat × Nat × Nat × List (List Nat))
  keys : List (List Octet)
  overlays : List (Nat × List (Nat × Nat × Nat))
  hash : List Octet
  source : Nat
  deriving DecidableEq, Repr

/-- A counter as a sweep captured it (R441): value, BAR0 offset of its low word, wrap bit, VALID, and the instant in ns after
START. -/
structure Capture where
  value : Nat
  off : Nat
  wrap : Bool
  valid : Bool
  cap : Nat
  deriving DecidableEq, Repr

/-- A snapshot bank (R441): the header and the entries as the bank's memory holds them. -/
structure Bank where
  seq : Nat
  complete : Bool
  byGauge : Bool
  source : Nat
  families : Nat
  count : Nat
  start : Nat
  holdover : Bool
  step : Bool
  entries : List Capture
  deriving DecidableEq, Repr

def Bank.none : Bank := ⟨0, false, false, 0, 0, 0, 0, false, false, []⟩

/-- A running counter sweep (R439, R440): the bank it writes and that bank's new header with the entries captured so
far, the monotonic instant of the start, whether a step occurred (1), and the counters still to capture. -/
structure Sweep where
  bank : Nat
  head : Bank
  mono : Nat
  steps : Nat
  todo : List Nat
  deriving DecidableEq, Repr

/-- A Gauge firing record (R145): TIME96, entry, action, LATE, HOLDOVER, packed as the ring's 128 bits. -/
abbrev RingRec := Nat

/-- Why LOCKDOWN is entered or waits (R42 CAUSE values), or which mode request waits (R47). -/
structure ModeReq where
  target : Nat
  src : Nat
  cause : Nat
  deriving DecidableEq, Repr

/-- The mode request kept in a KCLK cycle (R47): the cycle, its place in the priority, and what stood before it. -/
structure ReqCycle where
  cycle : Nat
  prio : Nat
  req : ModeReq
  result : Nat
  src : Nat
  guard : Nat
  pend : Option ModeReq
  deriving DecidableEq, Repr

/-- Who makes a register access: a management port, or Jig (image and overlay records, R422), or a Gauge firing. -/
inductive Writer where
  | port (p : Nat) | jig | gauge
  deriving DecidableEq, Repr

/-- What the block puts out during one command. -/
inductive Emit where
  /-- a line-side frame crosses the boundary of a line port, FCS included -/
  | lineFrame (lp : Nat) (octets : List Octet)
  /-- a host-side frame leaves a host port, FCS included -/
  | hostFrame (hp : Nat) (octets : List Octet)
  /-- data of a register read -/
  | readData (port fn : Nat) (bar2 : Bool) (off value : Nat)
  /-- a DMA write to host memory through a port -/
  | dmaWrite (port addr : Nat) (octets : List Octet)
  /-- a DMA read request through a port -/
  | dmaRead (port addr len : Nat)
  /-- an MSI-X message -/
  | msix (port vec addr data : Nat)
  /-- the zero-length read of R36 -/
  | zeroRead (port : Nat)
  /-- a pulse pin takes a level -/
  | pulse (pin : Nat) (high : Bool)
  /-- a flash command of the pass-through window (R434) -/
  | flash (opcode addr len : Nat) (write : Bool) (addrEn : Bool) (data : List Octet)
  /-- a module-memory transfer (R334) -/
  | module (slot bank page addr len : Nat) (write : Bool) (data : List Octet)
  /-- WAKE_N of a port is asserted (true) or released -/
  | wake (port : Nat) (low : Bool)
  deriving DecidableEq, Repr

end Sys2Proof.Machine
end

