-- ==== Sys2Proof/Machine/State.lean ====
section
/-!
DEFINITION. Machine/State.lean: everything the spec gives the device, as plain data. Register fields live in one sparse
store (`regs`, read and written by Machine/Ops.lean only); frames, queues, keys and jobs are typed fields.
-/
namespace Sys2Proof.Machine

/-- Why a run can stop with a fault. No command of the device faults: every access answers (R7, R387). -/
inductive Fault where
  /-- Raised by no meaning. Safe. -/
  | none
  deriving DecidableEq, Repr

/-- Why a command is refused. -/
inductive Refusal where
  /-- Raised by an arm of Machine/Dispatch.lean whose command has no meaning yet, and by no meaning. Safe. -/
  | notModelled (mnemonic : String)
  deriving DecidableEq, Repr

/-- The holding register of R6: which value it holds (window, byte offset of the low word, words) and that value. -/
structure Wide where
  bar2 : Bool
  off : Nat
  words : Nat
  val : Nat
  deriving DecidableEq, Repr

/-- Held words of one entry of an array (R451), as (word, value) pairs. -/
structure Held where
  rid : RegId
  idx : Nat
  words : List (Nat × Nat)
  deriving DecidableEq, Repr

/-- A delivery that has started (R405): port and vector, the sources it covers, and whether the zero-length read of R36
still has to complete. -/
structure Delivery where
  port : Nat
  vec : Nat
  srcs : List Nat
  zlr : Option Nat
  deriving DecidableEq, Repr

/-- A mode transition in progress (R45 to R47): target, base mode after it, cause, and the overlays to write, in order. -/
structure Trans where
  target : Nat
  base : Nat
  cause : Nat
  overlays : List Nat
  deriving DecidableEq, Repr

/-- A challenge that is outstanding (R395): its octets and the monotonic instant it was drawn. -/
structure Chal where
  data : List Octet
  drawn : Nat
  deriving DecidableEq, Repr

/-- Latches and held words of register access (R6, R135, R378, R444, R451). -/
structure AccS where
  wide : Tab (Option Wide)
  held : Tab (List Held)
  txqLatch : Tab Nat
  logLatch : Tab (Option (Nat × Nat))
  smpLatch : Tab (Option (Nat × Nat))
  deriving DecidableEq, Repr

/-- The interrupt controller (R400 to R417). -/
structure IcuS where
  /-- pending sources, strictly rising -/
  icu : List Nat
  /-- sources that occurred in KCLK cycle occAt, strictly rising (R401) -/
  occ : List Nat
  occAt : Nat
  /-- monotonic instant a vector's timer started, plus 1; key 64 p + v -/
  vecTimer : Tab Nat
  deliveries : List Delivery
  busMaster : Tab Bool
  msixEnable : Tab Bool
  funcMask : Tab Bool
  /-- ports in port loss (R388) -/
  lost : Tab Bool
  /-- retention copy of the ICU configuration (R417) -/
  retained : Tab Nat
  deriving DecidableEq, Repr

/-- Mode transitions (R45 to R48). -/
structure ModeS where
  trans : Option Trans
  pendReq : Option ModeReq
  /-- the request kept last, or the LOCKDOWN entry begun last, and whether the request began the transition in progress (R47) -/
  cyc : Option ReqCycle
  cycBegan : Bool
  pendLock : Option Nat
  /-- warm reset that waits for the transition in progress (R47): DETAIL of its entry, and LATE -/
  pendWarm : Option (Nat × Bool)
  /-- LOCKDOWN trigger held during BOOT (R45), its cause -/
  heldLock : Option Nat
  /-- monotonic instant since which no degradation cause stands in DEGRADED, plus 1 (R45) -/
  degClear : Nat
  deriving DecidableEq, Repr

/-- Fuses, life-cycle and scheduled reset (R49 to R58). -/
structure LcyS where
  fuses : Fuses
  lcyJob : Option LcyJob
  /-- RESET_N is low (R463) -/
  resetLow : Bool
  /-- a cold reset whose fuses are not yet sensed (R379) -/
  coldDue : Bool
  /-- LCY_STATE.DEBUG (R51, R157), and the JTAG challenge passed since the last reset (R456) -/
  debugUnlocked : Bool
  jtagUnlocked : Bool
  /-- armed warm reset (R55), network time in 2^-32 ns -/
  warmAt : Option Nat
  /-- a forward step crossed the armed time (R55) -/
  warmLate : Bool
  rBoot : Nat
  hwm : Nat
  resumeFresh : Bool
  resumeLow : Tab (Option Nat)
  /-- monotonic instant of start-up step 0 (R59) -/
  bootAt : Nat
  deriving DecidableEq, Repr

/-- Network time (R119 to R138). -/
structure TimS where
  incr : Nat
  incrNext : Option Nat
  incrLow : Tab (Option Nat)
  /-- slew still to apply, signed, 2^-32 ns -/
  slew : Int
  /-- fraction of slew accumulated at rate 10^-9 per tick, in 2^-32 ns * 10^-9 -/
  slewFrac : Nat
  /-- monotonic instants of the last discipline write, PPS edge, and of three consecutive good edges -/
  discAt : Nat
  ppsAt : Nat
  ppsRun : Nat
  /-- monotonic instants of the last PPS_IN edge, plus 1 (R128), and from which TREF_IN has been bad (R127) -/
  ppsEdgeAt : Nat
  trefAt : Nat
  hoAt : Nat
  hoErrHit : Bool
  /-- increments of the last 16 s in PPS_TREF mode, newest first (R127) -/
  incrHist : List Nat
  /-- RTC (R126): seconds and 32,768ths -/
  rtc : Nat
  rtcMono : Nat
  /-- the 32.768 kHz clock has failed (R27): no row of the table tells of it (log entry 82) -/
  rtcLost : Bool
  txq : Tab (List TsEntry)
  /-- pulse pins: monotonic end of the active level (0: inactive) -/
  pulseEnd : Tab Nat
  deriving DecidableEq, Repr

/-- The Gauge (R139 to R145). -/
structure GauS where
  gauBase : Tab Nat
  gauRing : Tab RingRec
  gauMark : Nat
  /-- records written since reset -/
  gauCount : Nat
  /-- entries to fire LATE (R140, R143): the time they were crossed at (the step's new time), plus 1 -/
  gauLate : Tab Nat
  /-- monotonic instant of the last firing, or of the last step, plus 1: one firing per TCLK cycle (R142, R143) -/
  gauAt : Nat
  launchWin : Tab Nat
  /-- monotonic instant at which the last launch-time frame of a line port ends, with its gap (R149) -/
  launchEnd : Tab Nat
  deriving DecidableEq, Repr

/-- Frames on the two walks (R22, R25). -/
structure FrmS where
  arrivals : Tab (List Arrival)
  deepWr : Tab (List DeepWr)
  egress : Tab (List EgItem)
  ingress : Tab (List InItem)
  lineOut : Tab (List LineItem)
  hostOut : Tab (List OutFrame)
  /-- PFC frames that wait at a host port: the octets from DA to the pad -/
  pfcOut : Tab (List (List Octet))
  /-- transient instants per group and pair (R88) -/
  pairTrans : Tab (List Nat)
  /-- frames that have left their queues: the next value of `Frame.ord` -/
  taken : Nat
  /-- line port of a region that is granted dispatch next, 0 to 3 (R263) -/
  dispTurn : Tab Nat
  /-- network time at which an armed receive slot retires (R104) -/
  retireAt : Tab Nat
  deriving DecidableEq, Repr

/-- Dovetail: keys, key store, key RAM (R160 to R182). -/
structure KeyS where
  slotKey : Tab (List Octet)
  saKey : Tab (List Octet)
  /-- parent slot of each SA key, plus 1 -/
  saParent : Tab Nat
  kram : Tab KramEntry
  kstQueue : List KstReq
  /-- key material whose zeroisation a port's KST_STATUS waits for: slot s, or 256 + SA key (R172, R176) -/
  kstZero : Tab (List Nat)
  /-- monotonic instant, plus 1, at which the zeroisation of a removed key began: slot s, or 256 + SA key (R176) -/
  zeroAt : Tab Nat
  /-- key RAM entry that holds a persisted slot, plus 1 (R179) -/
  kramAt : Tab Nat
  /-- GLB_OFC_BOOT_KEY words, the wrapped result, its unread words (R182) -/
  bootKey : Tab Nat
  bootOut : List Octet
  bootRead : List Nat
  bootHeld : Bool
  bootDone : Bool
  deriving DecidableEq, Repr

/-- Attestation (R183 to R188). -/
structure AttS where
  /-- signed report of a port that waits for the certificate read -/
  attSigned : Tab (List Octet)
  attReport : Tab (List Octet)
  attCert : Tab (List Octet)
  /-- reports signed since cold reset -/
  attCount : Nat
  deriving DecidableEq, Repr

/-- Chisel, the PKE and the RNG (R189 to R224). -/
structure ChsS where
  /-- the window world of a port's context: 1 Officer -/
  chsWorld : Tab Nat
  chsQueue : List ChsReq
  checks : List ChkReq
  chsJob : Option ChsJob
  /-- the port a management turn prefers (R203) -/
  chsFirst : Nat
  /-- whose turn of Chisel comes next in the round (R203): Regions 0 to 3, then 4, the management ports -/
  chsRound : Nat
  /-- words of a port's read-once result that have been read -/
  chsRead : Tab (List Nat)
  chsTrans : List Nat
  macs : Tab (Option MacCtx)
  /-- context key, 32 octets, and boot identity, 8 octets (R205); empty while absent -/
  ctxKey : List Octet
  pkeQueue : List PkeReq
  pkeJob : Option PkeReq
  /-- PKE faults met so far in the verifications of the image copies at step 6 (R210) -/
  pkeBoot : Nat
  /-- GEN of slot 1 when the running signature began (R177) -/
  pkeGen : Nat
  pkeTrans : List Nat
  drbg : Option Drbg
  /-- seeds taken from the noise source -/
  seeds : Nat
  /-- software requests that wait, in arrival order: port and octets -/
  rngQueue : List (Nat × Nat)
  deriving DecidableEq, Repr

/-- Autonomous keying (R225 to R244). -/
structure AutS where
  /-- staged successor of a transmit SA key (R235) -/
  staged : Tab (Option Staged)
  /-- derivations still to do, and the monotonic start of each schedule's pass plus 1 -/
  passItems : List PassItem
  passStart : Tab Nat
  /-- a region's current derivation ended in a FAULT once (R202): GEN of its CAK slot, plus 1 -/
  passRetry : Tab Nat
  /-- last SC that a running pass of schedule j reached in region r, plus 1, at 4 j + r: transmit SC c as c, receive SC as
  4,096 + c (R232) -/
  passPos : Tab Nat
  /-- schedules whose first pass is still to come (R230), ascending -/
  firstDue : List Nat
  /-- monotonic instant at which a transmit SC's hold began (R239) -/
  holdAt : Tab Nat
  /-- hold of a transmit SC (R239): 1 held, 2 run out -/
  keyHold : Tab Nat
  /-- highest epoch installed since VALID rose, plus 1: transmit SC c at c, receive SC at 4,096 + c (R236) -/
  autEpoch : Tab Nat
  /-- epoch of the key in an SA key, plus 1 -/
  saEpoch : Tab Nat
  /-- highest epoch whose switch instant has happened, plus 1, by transmit SC -/
  switched : Tab Nat
  /-- valid schedules that have completed a derivation pass, ascending (R429) -/
  passed : List Nat
  /-- schedules whose SKEW_EST has been raised in this holdover period (R241) -/
  skewHit : List Nat
  deriving DecidableEq, Repr

/-- Queues, scheduling and shaping (R245 to R263). -/
structure PlnS where
  queues : Tab Queue
  drr : Tab Drr
  levels : Tab Level
  shpStage : Tab (List Nat)
  poolPaused : Tab Bool
  /-- monotonic instant of a host port's last XOFF frame (R261) -/
  xoffAt : Tab Nat
  deriving DecidableEq, Repr

/-- Guarded carriers (R264 to R281). -/
structure CarS where
  carTx : Tab CarTx
  carRx : Tab CarRx
  /-- monotonic instant at which CAL_DONE of a line port last became 1 (R267) -/
  calAt : Tab Nat
  /-- measurements of the phase of a line port's block grid so far (R29) -/
  phase : Tab Nat
  deriving DecidableEq, Repr

/-- Host rings (R284 to R296). -/
structure HqS where
  rings : Tab Ring
  deriving DecidableEq, Repr

/-- The deep buffer and Veneer (R297 to R311). -/
structure VnrS where
  vnrKeys : List VnrKeys
  pages : Tab Page
  lines : Tab Line
  deepFresh : Nat
  deepFreed : List Nat
  /-- spare frames taken (R308) -/
  spares : List Nat
  remap : Tab Nat
  /-- region whose deep-buffer turn is next, grants that a region's deep-buffer write and its Chisel command have waited for,
  and whether the rekey engine has had its turn of the round (R17, R18, R305) -/
  deepTurn : Nat
  wrWait : Tab Nat
  chsWait : Tab Nat
  engTurn : Bool
  /-- page being filled and its next free 256 B unit -/
  openPage : Option (Nat × Nat)
  /-- memory-integrity alarms raised in this command, not yet taken by Clamp (R307) -/
  alarms : Nat
  /-- pages whose sparing copy runs, with the line to poison after it (R308) -/
  spareDue : List (Nat × Nat)
  /-- pages in use in the data region since reset, and the capacity in pages (R297) -/
  capPages : Nat
  sparesDone : Bool
  marchErr : List (Nat × Nat)
  /-- transient faults of lines: page and line as they are tested, monotonic instant (R337) -/
  lineTrans : List (Nat × Nat × Nat)
  /-- monotonic instant at which the running keys were drawn or the last rekey pass began (R305) -/
  passAt : Nat
  deriving DecidableEq, Repr

/-- Lanes, ports and modules (R312 to R335). -/
structure LnS where
  /-- the transmit taps a lane drives while they move (R325), as c(-2), c(-1), c(0), c(1), c(2) -/
  laneTaps : Tab (List Nat)
  /-- test of a fenced lane (R340): 1 automatic, 2 commanded -/
  laneTest : Tab Nat
  laneTrans : Tab (List Nat)
  /-- transfers of a slot not acknowledged in a row (R329) -/
  modI2c : Tab Nat
  /-- monotonic instant, plus 1, at which a slot's module last reported ModuleReady (R59) -/
  modReadyAt : Tab Nat
  /-- monotonic instant at which a slot's module took its present state, or left its reset (R330) -/
  modSince : Tab Nat
  /-- APPSEL under which a slot's module has its data path activated, 0 none (R330) -/
  modActive : Tab Nat
  /-- once-per-insertion marks of a slot (R333): 1 EV_EOL, 2 the first EV_MODFLAG, 3 both -/
  modOnce : Tab Nat
  /-- monitor polls towards the baseline of a slot: how many, then the sums of its lanes (R333) -/
  biasSum : Tab (List Nat)
  /-- consecutive polls over the end-of-life threshold, by lane (R333) -/
  biasOver : Tab (List Nat)
  /-- request word of a region's module access, plus 1 (R334) -/
  modJob : Tab Nat
  deriving DecidableEq, Repr

/-- Faults, availability and Brace (R336 to R361). -/
structure FltS where
  /-- monotonic instants of a region's fences in the last hour (R345) -/
  fenceAt : Tab (List Nat)
  /-- monotonic instant from which a fenced region may restart by itself (R345) -/
  restart : Tab Nat
  /-- monotonic instants of the march tests that pages of a channel failed in the last hour (R341) -/
  chanAt : Tab (List Nat)
  /-- monotonic instants of a channel's transient faults (R337) -/
  chanTrans : Tab (List Nat)
  /-- row BISTs that run: the owner of the failed word, macro and row (R343) -/
  rowTests : List (SramOwner × Nat × Nat)
  /-- transient faults of SRAM rows: macro, row, monotonic instant (R337) -/
  rowTrans : List (Nat × Nat × Nat)
  /-- spare rows that a macro's BISTs have taken (R342) -/
  rowUsed : Tab Nat
  /-- cells of a region's slice that have left its free list for good (R350) -/
  cellsLost : Tab Nat
  deriving DecidableEq, Repr

/-- Clamp and the event log (R362 to R385). -/
structure ClmS where
  clmWin : Tab (Option ClmWin)
  coalesce : Option Coalesce
  trips : Tab (Option TripEvent)
  /-- monotonic instant of the last Brace report plus 1: key 2 g + f of a feed, 16 + f of a side (R354) -/
  braceAt : Tab Nat
  armedOff : Tab Bool
  log : Tab LogEntry
  /-- entries numbered since the backup domain was initialised; the first three are those of R379's start -/
  logSeq : Nat
  /-- entries recorded while a coalescing window is open, written after it (R375), newest last, with their number -/
  logHeld : List (Nat × LogEntry)
  /-- no LOG_EPOCH can be given: nothing is logged (R379) -/
  logOff : Bool
  heldSrcs : List Nat
  backupNew : Bool
  /-- an erase has begun and is not complete (R373) -/
  eraseDue : Bool
  /-- an erase took place in DORMANT (R383) -/
  dormAlarm : Bool
  /-- network time, monotonic instant and TIME_INVALID at DORMANT entry (R381) -/
  dormNow : Nat
  dormMono : Nat
  dormInvalid : Bool
  deriving DecidableEq, Repr

/-- Officer sessions and semaphores (R393 to R399). -/
structure OfcS where
  chal : Tab (Option Chal)
  lastFail : Tab Nat
  sessAt : Tab Nat
  /-- port that won the last semaphore tie, plus 1 (R398) -/
  semLast : Nat
  deriving DecidableEq, Repr

/-- Jig: images, staging, flash pass-through (R418 to R435). -/
structure JigS where
  /-- the running image; its overlays are the overlay store (R425) -/
  image : Option Image
  /-- step 8 (R180, R424): the key RAM has been restored; key records done with; the next one's unwrap has ended FAULT once -/
  kramDone : Bool
  recNext : Nat
  recAgain : Bool
  /-- the staged image's octets, and the code its check has found: 1 valid, 2 to 5 as COPY_A (R432) -/
  stgBuf : List Octet
  stgJob : Option Nat
  /-- the AUTO_MODE request of this start-up is still to be made (R429) -/
  autoDue : Bool
  /-- pass-through command of a port that is BUSY, plus 1 (R434) -/
  flashJob : Tab Nat
  /-- that command waits for a certificate read of the device itself (R435) -/
  flashWait : Bool
  deriving DecidableEq, Repr

/-- Counters, snapshots and the sampler (R436 to R444). -/
structure CntS where
  sweep : Option Sweep
  /-- sweeps started since reset -/
  sweeps : Nat
  banks : Tab Bank
  smpPos : Tab Nat
  smpPick : Tab Nat
  smpLen : Tab Nat
  smpWin : Tab Nat
  /-- monotonic instant at which a region's unit last wrote a record, plus 1 (R443) -/
  smpAt : Tab Nat
  smpRing : Tab Nat
  smpWritten : Nat
  deriving DecidableEq, Repr

/-- Keys and stored values of the pair states whose reset is 0 (spare), where the field's reset is 1 (R89): index 8 of
each of the eight slice groups. -/
def ppeSpareReset : Tab Nat := [8, 17, 26, 35, 44, 53, 62, 71].map (fun i => (2048 * i + RGN_PPE_STATUS.STATE.id, 1))

/-- State of the device. -/
structure State where
  /-- commands that wait, first in, first out -/
  pending : List Instr
  /-- what the device has put out since reset, oldest first -/
  out : List Emit
  /-- register fields: key `2048 i + id` holds the value exclusive-or the reset value (the canonical form of Tab) -/
  regs : Tab Nat
  /-- sticky wrap bits of counters (R437), same keys as `regs` -/
  wraps : Tab Nat
  /-- network time and the monotonic counter of R257, both in 2^-32 ns (R120) -/
  now : Nat
  mono : Nat
  /-- position in the supply of free values (a model field: see log entry 3) -/
  tape : Nat
  ac : AccS
  ic : IcuS
  md : ModeS
  lc : LcyS
  tm : TimS
  ga : GauS
  fr : FrmS
  ke : KeyS
  att : AttS
  ch : ChsS
  au : AutS
  pl : PlnS
  ca : CarS
  hq : HqS
  vn : VnrS
  ln : LnS
  fl : FltS
  cl : ClmS
  ofc : OfcS
  jg : JigS
  cn : CntS
  deriving DecidableEq, Repr

/-! The state after reset: just after a cold reset with both feeds of every rail good (R54, R59), the backup domain newly
initialised and the fuses blank (log entry 1). -/

/-- Reset of AccS. -/
def AccS.reset : AccS where
  wide := []
  held := []
  txqLatch := []
  logLatch := []
  smpLatch := []

/-- Reset of IcuS. -/
def IcuS.reset : IcuS where
  icu := []
  occ := []
  occAt := 0
  vecTimer := []
  deliveries := []
  busMaster := []
  msixEnable := []
  funcMask := []
  lost := []
  retained := []

/-- Reset of ModeS. -/
def ModeS.reset : ModeS where
  trans := none
  pendReq := none
  cyc := none
  cycBegan := false
  pendLock := none
  pendWarm := none
  heldLock := none
  degClear := 0

/-- Reset of LcyS. -/
def LcyS.reset : LcyS where
  fuses := ⟨0, 0, [], [], [], 0⟩
  lcyJob := none
  resetLow := false
  coldDue := true
  debugUnlocked := false
  jtagUnlocked := false
  warmAt := none
  warmLate := false
  rBoot := 0xFFFFFFFFFFFFFFFF
  hwm := 0
  resumeFresh := true
  resumeLow := []
  bootAt := 0

/-- Reset of TimS. -/
def TimS.reset : TimS where
  incr := 0xCCCCCCCD
  incrNext := none
  incrLow := []
  slew := 0
  slewFrac := 0
  discAt := 0
  ppsAt := 0
  ppsRun := 0
  ppsEdgeAt := 0
  trefAt := 0
  hoAt := 0
  hoErrHit := false
  incrHist := []
  rtc := 0
  rtcMono := 0
  rtcLost := false
  txq := []
  pulseEnd := []

/-- Reset of GauS. -/
def GauS.reset : GauS where
  gauBase := []
  gauRing := []
  gauMark := 0
  gauCount := 0
  gauLate := []
  gauAt := 0
  launchWin := []
  launchEnd := []

/-- Reset of FrmS. -/
def FrmS.reset : FrmS where
  arrivals := []
  deepWr := []
  egress := []
  ingress := []
  lineOut := []
  hostOut := []
  pfcOut := []
  pairTrans := []
  taken := 0
  dispTurn := []
  retireAt := []

/-- Reset of KeyS. -/
def KeyS.reset : KeyS where
  slotKey := []
  saKey := []
  saParent := []
  kram := []
  kstQueue := []
  kstZero := []
  zeroAt := []
  kramAt := []
  bootKey := []
  bootOut := []
  bootRead := []
  bootHeld := false
  bootDone := false

/-- Reset of AttS. -/
def AttS.reset : AttS where
  attSigned := []
  attReport := []
  attCert := []
  attCount := 0

/-- Reset of ChsS. -/
def ChsS.reset : ChsS where
  chsWorld := []
  chsQueue := []
  checks := []
  chsJob := none
  chsFirst := 0
  chsRound := 0
  chsRead := []
  chsTrans := []
  macs := []
  ctxKey := []
  pkeQueue := []
  pkeJob := none
  pkeBoot := 0
  pkeGen := 0
  pkeTrans := []
  drbg := none
  seeds := 0
  rngQueue := []

/-- Reset of AutS. -/
def AutS.reset : AutS where
  staged := []
  passItems := []
  passStart := []
  passRetry := []
  passPos := []
  firstDue := []
  holdAt := []
  keyHold := []
  autEpoch := []
  saEpoch := []
  switched := []
  passed := []
  skewHit := []

/-- Reset of PlnS. -/
def PlnS.reset : PlnS where
  queues := []
  drr := []
  levels := []
  shpStage := []
  poolPaused := []
  xoffAt := []

/-- Reset of CarS. -/
def CarS.reset : CarS where
  carTx := []
  carRx := []
  calAt := []
  phase := []

/-- Reset of HqS. -/
def HqS.reset : HqS where
  rings := []

/-- Reset of VnrS. -/
def VnrS.reset : VnrS where
  vnrKeys := []
  pages := []
  lines := []
  deepFresh := 0
  deepFreed := []
  spares := []
  remap := []
  deepTurn := 0
  wrWait := []
  chsWait := []
  engTurn := false
  openPage := none
  alarms := 0
  spareDue := []
  capPages := 0
  sparesDone := false
  marchErr := []
  lineTrans := []
  passAt := 0

/-- Reset of LnS. -/
def LnS.reset : LnS where
  laneTaps := []
  laneTest := []
  laneTrans := []
  modI2c := []
  modReadyAt := []
  modSince := []
  modActive := []
  modOnce := []
  biasSum := []
  biasOver := []
  modJob := []

/-- Reset of FltS. -/
def FltS.reset : FltS where
  fenceAt := []
  restart := []
  chanAt := []
  chanTrans := []
  rowTests := []
  rowTrans := []
  rowUsed := []
  cellsLost := []

/-- Reset of ClmS. -/
def ClmS.reset : ClmS where
  clmWin := []
  coalesce := none
  trips := []
  braceAt := []
  armedOff := []
  log := []
  logSeq := 3
  logHeld := []
  logOff := false
  heldSrcs := []
  backupNew := true
  eraseDue := false
  dormAlarm := false
  dormNow := 0
  dormMono := 0
  dormInvalid := false

/-- Reset of OfcS. -/
def OfcS.reset : OfcS where
  chal := []
  lastFail := []
  sessAt := []
  semLast := 0

/-- Reset of JigS. -/
def JigS.reset : JigS where
  image := none
  kramDone := false
  recNext := 0
  recAgain := false
  stgBuf := []
  stgJob := none
  autoDue := false
  flashJob := []
  flashWait := false

/-- Reset of CntS. -/
def CntS.reset : CntS where
  sweep := none
  sweeps := 0
  banks := []
  smpPos := []
  smpPick := []
  smpLen := []
  smpWin := []
  smpAt := []
  smpRing := []
  smpWritten := 0

/-- The device right after reset. -/
def State.reset : State where
  pending := []
  out := []
  regs := ppeSpareReset
  wraps := []
  now := 0
  mono := 0
  tape := 0
  ac := AccS.reset
  ic := IcuS.reset
  md := ModeS.reset
  lc := LcyS.reset
  tm := TimS.reset
  ga := GauS.reset
  fr := FrmS.reset
  ke := KeyS.reset
  att := AttS.reset
  ch := ChsS.reset
  au := AutS.reset
  pl := PlnS.reset
  ca := CarS.reset
  hq := HqS.reset
  vn := VnrS.reset
  ln := LnS.reset
  fl := FltS.reset
  cl := ClmS.reset
  ofc := OfcS.reset
  jg := JigS.reset
  cn := CntS.reset

end Sys2Proof.Machine
end

