-- ==== Sys2Proof/Machine/Ops.lean ====
section
/-!
DEFINITION. Machine/Ops.lean: the named operations over the register store, network time and what the device puts out.
-/
namespace Sys2Proof.Machine

/-- Key of element `i` of a field in the register store. -/
def Fld.key (f : Fld) (i : Nat) : Nat := i * 2048 + f.id

/-- Value of element `i` of a field. -/
def State.get (s : State) (f : Fld) (i : Nat) : Nat := (Tab.get 0 s.regs (f.key i) ^^^ f.reset) % 2 ^ f.width

/-- Put a value into element `i` of a field, cut to the field's width. -/
def State.set (s : State) (f : Fld) (i v : Nat) : State :=
  { s with regs := Tab.set 0 s.regs (f.key i) ((v % 2 ^ f.width) ^^^ f.reset) }

/-- A one-bit field as a Boolean. -/
def State.on (s : State) (f : Fld) (i : Nat) : Bool := s.get f i != 0

/-- Apply a list of updates in order. -/
def State.each {α : Type} (s : State) (l : List α) (g : α → State → State) : State := l.foldl (fun s a => g a s) s

/-- Return element `i` of every field of a list to its reset value. -/
def State.resetFields (s : State) (fs : List Fld) (i : Nat) : State := s.each fs (fun f s => s.set f i f.reset)

/-- Put something out. -/
def State.emit (s : State) (e : Emit) : State := { s with out := s.out ++ [e] }

/-- Add to a counter that saturates. -/
def State.bump (s : State) (f : Fld) (i n : Nat) : State := s.set f i (min (s.get f i + n) (2 ^ f.width - 1))

/-- Add to a number that is counted modulo its width. -/
def State.turn (s : State) (f : Fld) (i n : Nat) : State := s.set f i (s.get f i + n)

/-- One nanosecond of `now` and `mono`. -/
def ns : Nat := 2 ^ 32
/-- One microsecond, millisecond, second. -/
def us : Nat := 1000 * ns
def ms : Nat := 1000 * us
def sec : Nat := 1000 * ms

/-- TIME96 of an instant (R119). -/
def time96 (t : Nat) : Nat :=
  t / 2 ^ 16 % 2 ^ 16 + t / ns % 1000000000 * 2 ^ 16 + t / sec % 2 ^ 48 * 2 ^ 48

/-- The instant a TIME96 value names. -/
def fromTime96 (v : Nat) : Nat := (bits v 48 48 * 1000000000 + bits v 16 30) * ns + bits v 0 16 * 2 ^ 16

/-- Network time is held in 48 bits of seconds (R119): past the last it starts again from 0. -/
def wrapTime (t : Nat) : Nat := t % (2 ^ 48 * sec)

/-- Whether a TIME96 value is free of reserved encodings (R119). -/
def time96Legal (v : Nat) : Bool := decide (bits v 16 30 < 1000000000)

/-- The mode and its codes (R41). -/
def State.mode (s : State) : Nat := s.get GLB_MODE.MODE 0
def mBOOT : Nat := 1
def mSTANDBY : Nat := 2
def mSECURE : Nat := 3
def mGUARDED : Nat := 4
def mDEGRADED : Nat := 5
def mLOCKDOWN : Nat := 6
def mFACTORY : Nat := 7

/-- The mode whose traffic rules apply: in DEGRADED, its base mode (R41). -/
def State.trafficMode (s : State) : Nat := if s.mode = mDEGRADED then s.get GLB_MODE.BASE 0 else s.mode

/-- User frames pass: SECURE, GUARDED, DEGRADED; FACTORY passes test traffic (R41). -/
def State.userPasses (s : State) : Bool := [mSECURE, mGUARDED, mFACTORY].contains s.trafficMode

/-- Clear-text control passes (R41). -/
def State.clearPasses (s : State) : Bool := [mSTANDBY, mSECURE, mGUARDED, mFACTORY].contains s.trafficMode

/-- A free 32-bit value: the next of the supply (a value the spec does not state). -/
def State.free (s : State) : Nat × State := ((Config.freeWord s.tape).toNat, { s with tape := s.tape + 1 })

/-- Region of a line port, a host port (R13). -/
def regionOfLp (lp : Nat) : Nat := lp / 4
def regionOfHp (hp : Nat) : Nat := hp / 8

/-- Index of a line port's fields in the arrays it shares with host ports (see Machine/RegMap.lean). -/
def lpIdx (lp : Nat) : Nat := 32 + lp

/-- Index of pair `k` of a region and direction in the RGN_PPE fields. -/
def pairIdx (r : Nat) (d : Dir) (k : Nat) : Nat := 9 * r + k + (if d = .ig then 36 else 0)

/-- Whether a port range of numbers is listed. -/
def upto (n : Nat) : List Nat := List.range n

/-- The number whose bit n is `p n`, for n below w. -/
def bitsOf (w : Nat) (p : Nat → Bool) : Nat := ((upto w).map (fun n => b2n (p n) * 2 ^ n)).sum

/-- Indices at which a field with reset value 0 is not 0, ascending. -/
def State.ones (s : State) (f : Fld) : List Nat :=
  s.regs.filterMap (fun x => if x.1 % 2048 = f.id then some (x.1 / 2048) else none)

/-- Instants of a list that lie within a span before now (monotonic). -/
def recent (s : State) (span : Nat) (l : List Nat) : List Nat := l.filter (fun t => s.mono < t + span)

/-- How many degradation causes stand (R44). -/
def State.degraded (s : State) : Nat :=
  s.get GLB_DEGRADED_CAUSE.REGION_FENCED 0 + s.get GLB_DEGRADED_CAUSE.SLICE_REDUCED 0 +
  s.get GLB_DEGRADED_CAUSE.FEED_LOST 0 + s.get GLB_DEGRADED_CAUSE.MEM_CHANNEL 0 +
  s.get GLB_DEGRADED_CAUSE.DEEP_FLOOR 0 + s.get GLB_DEGRADED_CAUSE.THERMAL 0

/-- Begin a transition: the overlay application starts (R46). A request that begins one notes so afterwards (R47). -/
def State.begin (s : State) (t : Trans) : State :=
  { s.set GLB_MODE.IN_TRANSITION 0 1 with md.trans := some t, md.cycBegan := false }

/-- The overlays that entry into a base mode applies (R45). -/
def baseOverlays (m : Nat) : List Nat := if m = mGUARDED then [3, 4] else [3]

/-- The KCLK cycle of the present: 100 MHz (R27). -/
def State.kclk (s : State) : Nat := s.mono / (10 * ns)

/-- The transition in progress was begun by a request of this KCLK cycle. -/
def State.yields (s : State) : Bool := s.md.cycBegan && s.md.cyc.any (fun c => c.cycle == s.kclk) && s.md.trans.isSome

/-- A trigger that ranks above requests falls in the cycle of a request that has begun a transition (R47): the trigger
goes first, and the request waits. -/
def State.yieldReq (s : State) : State :=
  if s.yields then
    { s.set GLB_MODE.IN_TRANSITION 0 0 with
      md.trans := none, md.pendReq := s.md.cyc.map (·.req), md.cyc := none, md.cycBegan := false }
  else s

/-- The end of a meaning (R44, R45): a degradation cause that stands in SECURE or GUARDED, with no transition in
progress but one that yields to it (R47), starts the transition to DEGRADED. -/
def State.settle (s : State) : State :=
  if s.degraded ≠ 0 ∧ (s.mode = mSECURE ∨ s.mode = mGUARDED) ∧ (s.md.trans = none ∨ s.yields = true) then
    s.yieldReq.begin ⟨mDEGRADED, s.mode, 5, baseOverlays s.mode ++ [5]⟩
  else s

end Sys2Proof.Machine
end

