-- ==== Sys2Proof/Machine/Flags.lean ====
section
/-!
DEFINITION. Machine/Flags.lean: interrupt sources and vectors (R400 to R413), sticky event bits, 64-bit counters and
their wrap bits (R436, R437), and the event log (R376 to R379).
-/
namespace Sys2Proof.Machine

/-- Port p sleeps: entered under R410 and not yet awake (R411). -/
def State.asleep (s : State) (p : Nat) : Bool := s.on ICU_PORT.SLEEPING p

/-- Port p is in port loss (R388). -/
def State.isLost (s : State) (p : Nat) : Bool := Tab.get false s.ic.lost p

/-- Vectors of p are HELD (R410, R413). -/
def State.vecHeld (s : State) (p : Nat) : Bool := s.asleep p || s.isLost p

/-- Sources that would wait on port x fail over to the other port (R412). -/
def State.failsOver (s : State) (x : Nat) : Bool := s.vecHeld x && s.on ICU_PORT.FAILOVER_ROUTE x && !s.vecHeld (1 - x)

/-- Bit p of ROUTE. -/
def State.routed (s : State) (i p : Nat) : Bool := bit (s.get ICU_SRC.ROUTE i) p

/-- Source i has failed over to port p. -/
def State.overTo (s : State) (i p : Nat) : Bool := s.routed i (1 - p) && s.failsOver (1 - p)

def annF (p : Nat) : Fld := if p = 0 then ICU_SRC.ANN0 else ICU_SRC.ANN1
def vecF (p : Nat) : Fld := if p = 0 then ICU_SRC.VEC_MP0 else ICU_SRC.VEC_MP1

/-- Pending source i waits on port p (R403, R412). -/
def State.waits (s : State) (p i : Nat) : Bool :=
  s.ic.icu.contains i && !s.on ICU_SRC.MASK i && ((s.routed i p && !s.failsOver p) || s.overTo i p) && !s.on (annF p) i

/-- Sources that wait on vector v of port p. -/
def State.waiting (s : State) (p v : Nat) : List Nat := s.ic.icu.filter (fun i => s.waits p i && s.get (vecF p) i == v)

/-- ACCUM of a vector (R403). -/
def State.accum (s : State) (p v : Nat) : Nat := (s.waiting p v).length

/-- Port p is idle (R409). -/
def State.idle (s : State) (p : Nat) : Bool := s.get ICU_PORT.LINK p == 2 || s.on ICU_PORT.IDLE p

/-- The ring port whose zero-length read must precede a message of port p about source i (R36): completion sources of
punt rings 0x160 to 0x19F and inject rings 0x1A0 to 0x1DF (R286). -/
def State.ringPort (s : State) (p i : Nat) : Option Nat :=
  if 0x160 ≤ i ∧ i < 0x1E0 ∧ s.get HQ_PUNT.PORT (i - 0x160) ≠ p then some (s.get HQ_PUNT.PORT (i - 0x160)) else none

/-- Delivery of vector v of port p starts (R405), once until its message leaves. -/
def State.deliver (s : State) (p v : Nat) : State :=
  if s.ic.deliveries.any (fun d => d.port == p && d.vec == v) then s else
    let w := s.waiting p v
    { s with ic.deliveries := s.ic.deliveries ++ [⟨p, v, w, w.findSome? (s.ringPort p)⟩] }

/-- Timer and delivery rule of one vector after a change of what waits on it (R405, R410). -/
def State.touch (s : State) (p v : Nat) : State :=
  let k := 64 * p + v
  if s.accum p v = 0 then { s with ic.vecTimer := s.ic.vecTimer.set 0 k 0 }
  else if s.vecHeld p then s
  else
    let s := if Tab.get 0 s.ic.vecTimer k = 0 then { s with ic.vecTimer := s.ic.vecTimer.set 0 k (s.mono + 1) } else s
    if s.get ICU_VEC.COUNT k ≤ s.accum p v ∨ s.idle p then s.deliver p v else s

/-- WAKE_N of a port (R410): low while a wake-capable source waits on the sleeping port. -/
def State.wakePin (s : State) (p : Nat) : State :=
  let w := s.asleep p && !s.isLost p && s.ic.icu.any (fun i => s.waits p i && s.on ICU_SRC.WAKE i)
  if w = s.on ICU_PORT.WAKE p then s else (s.set ICU_PORT.WAKE p (b2n w)).emit (.wake p w)

/-- Every vector and the wake pin of both ports, after a change of a port. -/
def State.touchAll (s : State) : State :=
  (s.each (upto 128) (fun k s => s.touch (k / 64) (k % 64))).each [0, 1] (fun p s => s.wakePin p)

/-- The two vectors a source names, and the wake pins. -/
def State.touchSrc (s : State) (i : Nat) : State :=
  ((s.touch 0 (s.get ICU_SRC.VEC_MP0 i)).touch 1 (s.get ICU_SRC.VEC_MP1 i)).each [0, 1] (fun p s => s.wakePin p)

/-- Put a number into a strictly rising list. -/
def insertNat (n : Nat) : List Nat → List Nat
  | [] => [n]
  | a :: r => if n < a then n :: a :: r else if n = a then a :: r else a :: insertNat n r

/-- Sources that have occurred in this KCLK cycle (R401). -/
def State.occurred (s : State) : List Nat := if s.ic.occAt = s.kclk then s.ic.occ else []

/-- An occurrence of source i (R401). -/
def State.pend (s : State) (i : Nat) : State :=
  let s := { s with ic.occ := insertNat i s.occurred, ic.occAt := s.kclk }
  if s.ic.icu.contains i then s else { s with ic.icu := insertNat i s.ic.icu }.touchSrc i

/-- Clear the pending bit of source i (R401, R402). An occurrence of the same KCLK cycle leaves it set: it counts as a new
one, not yet announced. -/
def State.unpend (s : State) (i : Nat) : State :=
  if s.ic.icu.contains i then
    let t := if s.occurred.contains i then s else { s with ic.icu := s.ic.icu.filter (· != i) }
    ((t.set ICU_SRC.ANN0 i 0).set ICU_SRC.ANN1 i 0).touchSrc i
  else s

/-- Set a sticky event bit; a rise makes the source pending. -/
def State.event (s : State) (f : Fld) (i src : Nat) : State :=
  if s.on f i then s else (s.set f i 1).pend src

/-- Set a sticky event bit, the source pending on each occurrence. -/
def State.eventEach (s : State) (f : Fld) (i src : Nat) : State := (s.set f i 1).pend src

/-- Set the wrap bit of a counter (R437). -/
def State.wrapBit (s : State) (f : Fld) (i : Nat) : State :=
  if Tab.get 0 s.wraps (f.key i) = 1 then s else { s with wraps := s.wraps.set 0 (f.key i) 1 }.pend 0x462

/-- Add to a 64-bit counter, which wraps (R436, R437). -/
def State.count (s : State) (f : Fld) (i n : Nat) : State :=
  let v := s.get f i + n
  if 2 ^ 64 ≤ v then (s.set f i v).wrapBit f i else s.set f i v

/-- Clear a counter by an event other than a reset (R436, R437). -/
def State.clearCount (s : State) (f : Fld) (i : Nat) : State := (s.set f i 0).wrapBit f i

/-! The event log. -/

/-- Entry flags (R376): HOLDOVER and TIME_INVALID come from the clock, COARSE from a failed RTC (R27); in DORMANT, COARSE and DORMANT are set and
TIME_INVALID is that of the entry to DORMANT (R381). -/
def State.logFlags (s : State) (late : Bool) : Nat :=
  if s.mode = 0 then 17 + 4 * b2n s.cl.dormInvalid
  else b2n s.tm.rtcLost + 2 * s.get TIM_STATUS.HOLDOVER 0 + 4 * (1 - s.get TIM_STATUS.VALID 0) + (if late then 8 else 0)

/-- TIME of an entry (R376, R381): in DORMANT, the time of entry plus the 32.768 kHz periods since. -/
def State.logTime (s : State) : Nat :=
  if s.mode = 0 then time96 (s.cl.dormNow + (s.mono - s.cl.dormMono) * 32768 / sec * sec / 32768) else time96 s.now

/-- The 48 octets of an entry (R376). -/
def logOctets (seq time typ flags resp classes src : Nat) (detail : List Octet) : LogEntry :=
  leBytes 8 seq ++ leBytes 12 time ++ leBytes 2 typ ++ leBytes 1 flags ++ leBytes 1 resp ++ leBytes 2 classes ++
    leBytes 2 src ++ padTo 20 detail

/-- Write entry number n into its place (R376, R378); source 0x42D when it overwrites one. Until a new backup domain has
its LOG_EPOCH, the entry waits behind those of R379. -/
def State.logStore (s : State) (n : Nat) (e : LogEntry) : State :=
  if s.lc.coldDue && s.cl.backupNew then { s with cl.logHeld := s.cl.logHeld ++ [(n, e)] } else
  let s := { s with cl.log := s.cl.log.set [] ((n - 1) % 256) e }
  let s := ((s.set CLM_LOG_NEWEST.V 0 (leNat (slice e 0 8))).set CLM_LOG_COUNT.COUNT 0 (min n 256)).set
    CLM_LOG_COUNT.NEWEST 0 ((n - 1) % 256)
  if 256 < n then s.pend 0x42D else s

/-- SEQ of entry number n (R376, R379). -/
def State.logSeqOf (s : State) (n : Nat) : Nat := s.lc.fuses.logEpoch * 2 ^ 56 + n

/-- Record an event: entries recorded while a coalescing window is open are written after its entry (R375). -/
def State.logAs (s : State) (typ resp classes src flags time : Nat) (detail : List Octet) : State :=
  if s.cl.logOff then s else
    let n := s.cl.logSeq + 1
    let e := logOctets (s.logSeqOf n) time typ flags resp classes src detail
    let s := { s with cl.logSeq := n }
    if s.cl.coalesce.isSome then { s with cl.logHeld := s.cl.logHeld ++ [(n, e)] } else s.logStore n e

/-- Record an event of the present with no Clamp part. -/
def State.logEvent (s : State) (typ src : Nat) (detail : List Octet) : State :=
  s.logAs typ 0 0 src (s.logFlags false) s.logTime detail

/-- Record an event of the present with the LATE flag. -/
def State.logLate (s : State) (typ src : Nat) (detail : List Octet) : State :=
  s.logAs typ 0 0 src (s.logFlags true) s.logTime detail

/-- The source number of an entry that raises none (R376). -/
def noSrc : Nat := 0xFFFF

/-- The management ports answer configuration requests (R463): step 7 is complete, a code keeps the device in BOOT (R61),
or it has left BOOT. -/
def State.portsUp (s : State) : Bool :=
  if s.mode = mBOOT then
    decide (7 ≤ s.get GLB_BOOT_STATUS.STAGE 0) || [1, 4, 6, 7].contains (s.get GLB_BOOT_STATUS.CODE 0)
  else s.mode ≠ 0

/-- A Clamp source: held until the management ports are up (R385). -/
def State.pendClamp (s : State) (i : Nat) : State :=
  if s.portsUp then s.pend i else { s with cl.heldSrcs := insertNat i s.cl.heldSrcs }

/-- The management ports have come up: the Clamp sources held for them become pending (R385, R417). -/
def State.portsCome (s : State) : State :=
  if s.cl.heldSrcs ≠ [] ∧ s.portsUp then { s.each s.cl.heldSrcs (fun i s => s.pend i) with cl.heldSrcs := [] } else s

/-- Note since when no degradation cause stands in DEGRADED (R45). -/
def State.degNote (s : State) : State :=
  if s.degraded ≠ 0 ∨ s.mode ≠ mDEGRADED then { s with md.degClear := 0 }
  else if s.md.degClear = 0 then { s with md.degClear := s.mono + 1 } else s

/-- How every command ends: the sources held for the ports, then the degradation rules of R44 and R45. -/
def State.closed (s : State) : State := s.portsCome.degNote.settle

/-- Every meaning ends here. -/
def done (s : State) : Host.Outcome State Fault Refusal := .next s.closed

/-- A key-store command entry (TYPE 0x0032, R377). -/
def State.logKst (s : State) (op slot affected sa : Nat) : State :=
  s.logEvent 0x0032 noSrc (leBytes 1 op ++ leBytes 1 slot ++ leBytes 2 affected ++ leBytes 2 sa)

end Sys2Proof.Machine
end

