-- ==== Sys2Proof/Machine/Operands.lean ====
section
/-!
DEFINITION. Machine/Operands.lean: the forms of a register access: who may make it (R389 to R391, R442), how a refusal
and a violation are recorded (R391, R392, R453, R454), how the access codes act on a word (R4, R5, R9), held words
(R451) and the holding registers of wide values (R6).
-/
namespace Sys2Proof.Machine

/-- Index of the refusal registers a writer's refusals go to (R453): a port's own, or the internal ones. -/
def Writer.rejIdx : Writer → Nat
  | .port p => p
  | .jig => 2
  | .gauge => 2

/-- Count a refusal (R453, R454); records of images and overlays also in JIG_REJECT. -/
def State.reject (s : State) (w : Writer) (cause : Nat) (bar2 : Bool) (off : Nat) : State :=
  let i := w.rejIdx
  let s := (((s.count GLB_CFG_REJECT.V i 1).set GLB_CFG_REJECT_LAST.OFFSET i (off / 4)).set
    GLB_CFG_REJECT_LAST.WINDOW i (b2n bar2)).set GLB_CFG_REJECT_LAST.CAUSE i cause
  if w = .jig then s.bump JIG_REJECT.V 0 1 else s

/-- Count a violation of port p (R391, R392). -/
def State.violate (s : State) (p kind : Nat) (wr : Bool) (fn : Nat) (bar2 : Bool) (off : Nat) : State :=
  (((((s.count OFC_VIOL_CNT.V p 1).set OFC_VIOL_LAST.KIND p kind).set OFC_VIOL_LAST.WRITE p (b2n wr)).set
    OFC_VIOL_LAST.FUNC p fn).set OFC_VIOL_LAST.BAR2 p (b2n bar2)).set OFC_VIOL_LAST.OFFSET p (off / 4)

/-- The port's Officer session is open (R393). -/
def State.session (s : State) (p : Nat) : Bool := s.get OFC_SESSION.STATE p == 2

/-- Offsets of BAR0 that hold counters, snapshot banks and the sampler ring outside CNT and SNP are found by field: a
64-bit RO field that counts. These are the fields R436 calls counters. -/
def counterFields : List (Fld × Nat) := [
  (CLS_EGR.HITS, 0), (CLS_IGR.HITS, 0),
  (SCT_TX.PKTS, 1), (SCT_TX.OCTETS, 1), (SCT_TX.D_EXHAUSTED, 1), (SCT_TX.D_KEY_PENDING, 1), (SCT_TX.D_KEY_GONE, 1),
  (SCT_TX.D_REISSUE, 1), (SCT_TX.D_REGION, 1), (SCT_TX.SWITCHES, 1), (SCT_TX.D_INVALID, 1),
  (SCT_RX.IN_OK, 1), (SCT_RX.IN_INVALID, 1), (SCT_RX.IN_NOT_VALID, 1), (SCT_RX.IN_UNCHECKED, 1),
  (SCT_RX.IN_DELAYED, 1), (SCT_RX.IN_LATE, 1), (SCT_RX.IN_NOT_USING_SA, 1), (SCT_RX.IN_UNUSED_SA, 1),
  (SCT_RX.D_KEY_GONE, 1), (SCT_RX.D_REISSUE, 1), (SCT_RX.D_OVERRUN, 1), (SCT_RX.D_HOST_CONGEST, 1),
  (SCT_RX.D_REGION, 1),
  (SAT_TX.USED, 2), (SAT_TX.PKTS, 2), (SAT_RX.IN_OK, 2), (SAT_RX.IN_FAIL, 2)] ++ [
  (QUE_DCNT.ADMITTED, 3), (QUE_DCNT.DEQUEUED, 3), (QUE_DCNT.D_QUEUE_LIMIT, 3), (QUE_DCNT.D_POOL, 3),
  (QUE_DCNT.D_GUARD, 3), (QUE_DCNT.D_AGED, 3), (QUE_DCNT.D_MODE, 3), (QUE_DCNT.D_REGION, 3),
  (RGN_HPCLS.NO_RULE, 4), (RGN_HPCLS.RULE_DROP, 4), (RGN_HPCLS.CLEAR_DENIED, 4), (RGN_HPCLS.SC_INVALID, 4),
  (RGN_HPCLS.PUNTED, 4), (RGN_HPCLS.CLEARED, 4), (RGN_HPCLS.TO_PROTECT, 4), (RGN_HPCLS.OVERSIZE, 4),
  (RGN_LPIGR.OVERSIZE, 4), (RGN_LPIGR.NO_TAG, 4), (RGN_LPIGR.BAD_TAG, 4), (RGN_LPIGR.NO_SCI, 4),
  (RGN_LPIGR.UNKNOWN_SCI, 4), (RGN_LPIGR.RULE_DROP, 4), (RGN_LPIGR.CLEAR_DENIED, 4), (RGN_LPIGR.CLEARED, 4),
  (RGN_LPIGR.PUNTED, 4), (RGN_LPIGR.TO_VALIDATE, 4), (RGN_LPIGR.OCT_VALIDATED, 4), (RGN_LPIGR.OCT_DECRYPTED, 4),
  (RGN_LPIGR.D_REGION, 4), (RGN_LPIGR.D_CONGEST, 4), (RGN_LPIGR.EXC_COPIES, 4), (RGN_LPIGR.MODE_DISCARD, 4)] ++ [
  (RGN_HPCNT.RX_FRAMES, 4), (RGN_HPCNT.RX_OCTETS, 4), (RGN_HPCNT.RX_FCS_ERR, 4), (RGN_HPCNT.RX_RUNT, 4),
  (RGN_HPCNT.RX_CTRL, 4), (RGN_HPCNT.TX_FRAMES, 4), (RGN_HPCNT.TX_OCTETS, 4), (RGN_HPCNT.FEC_CW, 4),
  (RGN_HPCNT.FEC_CORR, 4), (RGN_HPCNT.FEC_UNCORR, 4), (RGN_HPCNT.FEC_SYM, 4), (RGN_HPCNT.LINK_DOWNS, 4),
  (RGN_HLANE.PRBS_ERR, 4), (RGN_HLANE.PRBS_SYM, 4), (RGN_HLANE.LOCK_LOSSES, 4),
  (PLN_HPFC.XOFF_TX, 4), (PLN_HPFC.XON_TX, 4), (TIM_TXQ_LOST.V, 4),
  (TIM_LP.LAUNCH_OK, 4), (TIM_LP.LAUNCH_MISS, 4), (TIM_LP.LAUNCH_DISCARD, 4), (TIM_LP.LAUNCH_STEP, 4)] ++ [
  (HQ_PCNT.PACKETS, 5), (HQ_PCNT.OCTETS, 5), (HQ_PCNT.LOST, 5), (HQ_PCNT.TRUNC, 5),
  (HQ_ICNT.FETCHED, 5), (HQ_ICNT.ADMITTED, 5), (HQ_ICNT.REFUSED, 5), (HQ_ICNT.DMA_ERR, 5),
  (CAR_TXCNT.CARRIERS, 6), (CAR_TXCNT.SHIMS, 6), (CAR_TXCNT.SEGMENTS, 6), (CAR_TXCNT.SEG_OCTETS, 6),
  (CAR_TXCNT.SLOT_SKIPPED, 6), (CAR_TXCNT.SLOT_LATE, 6), (CAR_TXCNT.C_DISCARD, 6), (CAR_TXCNT.CTRL_IN_GAP, 6),
  (CAR_RXCNT.CARRIERS, 6), (CAR_RXCNT.SHIMS, 6), (CAR_RXCNT.FRAMES, 6), (CAR_RXCNT.LOST, 6), (CAR_RXCNT.STALE, 6),
  (CAR_RXCNT.FORMAT_ERR, 6), (CAR_RXCNT.FRAMES_MISSING, 6), (CAR_RXCNT.REASM_ABORT, 6),
  (CAR_RXCNT.REASM_TIMEOUT, 6), (CAR_RXCNT.ORPHAN_SEG, 6), (CAR_RXCNT.NO_CELL, 6), (CAR_RXCNT.DOWN_EVENTS, 6)] ++ [
  (GLB_CFG_REJECT.V, 7), (ICU_PORT.MSGS, 7), (CLM_CLASS_CNT.V, 7), (FLT_CNT.SRAM_CORR, 7), (FLT_CNT.SRAM_UNCORR, 7),
  (FLT_CNT.ROW_SPARED, 7), (FLT_CNT.ROW_NOSPARE, 7), (FLT_CNT.DUP_CORR, 7), (FLT_CNT.TIME_VOTE, 7),
  (FLT_CNT.XBAR_REPEAT, 7), (FLT_BRACE_SW.V, 7), (VNR_CNT.TRANSIENT_READ, 7), (VNR_CNT.INTEGRITY_FAIL, 7),
  (VNR_CNT.POISON_READ, 7), (VNR_CNT.PARTIAL_REFUSED, 7), (VNR_CNT.MARCH_PASS, 7), (VNR_CNT.MARCH_FAIL, 7),
  (VNR_CNT.NOSPARE_RETIRE, 7), (VNR_CNT.FRAME_LOSS, 7), (VNR_CNT.PASSES, 7), (CHS_FAULTS.V, 7), (PKE_FAULTS.V, 7),
  (RNG_RESEEDS.V, 7), (RNG_RCT_FAILS.V, 7), (RNG_APT_FAILS.V, 7), (MEM_CH.LECC_CORR, 7), (MEM_CH.LINK_UNCORR, 7),
  (RGN_PPE_MISMATCH.V, 7), (CNT_SMP_DROPPED.V, 7)]

/-- Family of a counter field (R438), if it is one. -/
def familyOf (f : Fld) : Option Nat := (counterFields.find? (fun c => c.1.id = f.id)).map (·.2)

/-- The counter field whose word this is, if any. -/
def Place.counter (pl : Place) : Option Fld :=
  (pl.reg.fields.find? (fun x => x.1 / 32 ≤ pl.word ∧ pl.word ≤ x.1 / 32 + 1 ∧ x.2.width = 64 ∧
    (familyOf x.2).isSome)).map (·.2)

/-- BAR0 offsets whose reads OFC_PERF governs (R442): counters, snapshot banks, the sampler ring. -/
def perfRead (off : Nat) : Bool :=
  (0x800000 ≤ off && off < 0x1000000) || (match place false off with
    | some pl => pl.counter.isSome
    | none => false)

/-- Observer alias ranges (R448). -/
def aliased (off : Nat) : Bool :=
  off < 0x50 || (0x30000 ≤ off && off < 0x3000C) || (0x30044 ≤ off && off < 0x30048) ||
  (0xE0000 ≤ off && off < 0xF0000) || (0x800000 ≤ off && off < 0x1000000)

/-- OFC offsets that answer without a session (R389, R447): all but OFC_LOCKDOWN and the violation registers. -/
def openOfc (off : Nat) : Bool := off < 0x70 && !(0xC ≤ off && off < 0x10) && !(0x50 ≤ off && off < 0x70)

/-- Writes permitted while GLB_BOOT_STATUS.STAGE is below 0x07 (R390). -/
def bootWritable (bar2 : Bool) (off : Nat) : Bool :=
  if bar2 then off < 0x70
  else (0x10000 ≤ off && off < 0x20000) || (0x400 ≤ off && off < 0x484) || (0x20100 ≤ off && off < 0x20114)

/-- Writes permitted in LOCKDOWN (R390). -/
def lockdownWritable (bar2 : Bool) (off : Nat) : Bool :=
  if bar2 then off < 0x70 || (0x100 ≤ off && off < 0x110) || (0x40000 ≤ off && off < 0x40020) ||
    (0x40040 ≤ off && off < 0x40044)
  else (0x10000 ≤ off && off < 0x20000) || (0x400 ≤ off && off < 0x484)

/-- Start-up goes on from a step: in BOOT, nothing having stopped it. -/
def State.startsAt (s : State) (stage : Nat) : Bool :=
  s.mode = mBOOT && s.get GLB_BOOT_STATUS.STAGE 0 == stage && s.get GLB_BOOT_STATUS.CODE 0 == 0 && s.md.trans.isNone

def State.stage (s : State) (n : Nat) : State := s.set GLB_BOOT_STATUS.STAGE 0 n

/-- ATT_NONCE0 to ATT_NONCE7 and ATT_CTL, whose writes are answered in every mode but BOOT, a LOCKDOWN entered early in
start-up included (R183, R463; R390 by its first row would refuse them there, log entry 81). -/
def attOffset (off : Nat) : Bool := (0x40000 ≤ off && off < 0x40020) || (0x40040 ≤ off && off < 0x40044)

/-- Kind of the violation that an access is (R389 to R392, R442), or 0. -/
def State.forbidden (s : State) (p fn : Nat) (bar2 wr : Bool) (off : Nat) : Nat :=
  if fn = 1 then
    if wr then 2
    else if (0xE0000 ≤ off && off < 0xF0000) || (0x800000 ≤ off && off < 0x1000000) then
      1 - s.get OFC_PERF.PERF_USER_EN_OBS 0
    else 0
  else if bar2 = false ∧ 0x1000000 ≤ off then 0
  else
    let world :=
      if bar2 then
        if s.session p then
          if 0x50000 ≤ off ∧ off < 0x60000 ∧ s.lc.fuses.lcs ≠ 1 ∧ s.lc.debugUnlocked = false then 3 else 0
        else if openOfc off ∨ (0x40000 ≤ off ∧ off < 0x50000) then 0 else 1
      else if wr ∧ 0x12800 + 0x10 * (1 - p) ≤ off ∧ off < 0x12810 + 0x10 * (1 - p) then 5
      else if !wr ∧ perfRead off then 1 - s.get OFC_PERF.PERF_USER_EN_OP 0
      else 0
    if world ≠ 0 then world
    else if wr ∧ (if bar2 ∧ attOffset off then s.mode = mBOOT
        else (s.get GLB_BOOT_STATUS.STAGE 0 < 7 ∧ bootWritable bar2 off = false) ∨
          (s.mode = mLOCKDOWN ∧ lockdownWritable bar2 off = false)) then 4
    else 0

/-- A port's link is up (R408). -/
def State.linkUp (s : State) (p : Nat) : Bool := s.get ICU_PORT.LINK p == 1 || s.get ICU_PORT.LINK p == 2

/-- An access of port p can arrive: its link is up and its function configured (R386, R463). -/
def State.reachable (s : State) (p : Nat) : Bool := s.linkUp p && s.portsUp

/-- Port p masters the bus (R388). -/
def State.masters (s : State) (p : Nat) : Bool := s.reachable p && Tab.get false s.ic.busMaster p

/-- READY of a port (R408). -/
def State.ready (s : State) (p : Nat) : Bool :=
  s.reachable p && Tab.get false s.ic.busMaster p && Tab.get false s.ic.msixEnable p && !Tab.get false s.ic.funcMask p

/-- Port p wakes (R411): every vector with a waiting source starts delivery, in ascending order. -/
def State.wake (s : State) (p : Nat) : State :=
  let s := s.set ICU_PORT.SLEEPING p 0
  (s.each (upto 64) (fun v s => if s.accum p v = 0 then s else s.deliver p v)).touchAll

/-- What every MMIO access of port p does first (R408, R411): the hints clear, a sleep by hint ends. -/
def State.mmio (s : State) (p : Nat) : State :=
  if s.on ICU_PORT.IDLE p ∨ s.on ICU_PORT.SLEEP p then
    let slept := s.on ICU_PORT.SLEEP p
    let s := (s.set ICU_PORT.IDLE p 0).set ICU_PORT.SLEEP p 0
    if slept ∧ s.asleep p ∧ s.ready p then s.wake p else s
  else s

/-- An Officer-world access restarts the session's idle time (R396). -/
def State.officerSeen (s : State) (p : Nat) (bar2 : Bool) : State :=
  if bar2 ∧ s.session p then { s with ofc.sessAt := s.ofc.sessAt.set 0 p s.mono } else s

/-- A register access of port p: nothing where it cannot arrive; a violation where the worlds or the mode forbid it
(R391); otherwise the action. -/
def State.access (s : State) (p fn : Nat) (bar2 wr : Bool) (off : Nat) (act : State → State)
    (deny : State → State := id) : State :=
  if s.reachable p then
    let s := s.mmio p
    let k := s.forbidden p fn bar2 wr off
    if k = 0 then act (s.officerSeen p bar2) else deny (s.violate p k wr fn bar2 off)
  else s

/-- A write of port p to function 0. -/
def State.onWrite (s : State) (p : Nat) (bar2 : Bool) (off : Nat) (act : State → State) : State :=
  s.access p 0 bar2 true off act

/-! Access codes on a word. -/

/-- The part of a field that lies in word w of its entry: its lowest bit in the field, its lowest bit in the word, and
its width. -/
def overlap (lo width w : Nat) : Option (Nat × Nat × Nat) :=
  let a := max lo (32 * w)
  let b := min (lo + width) (32 * w + 32)
  if a < b then some (a - lo, a - 32 * w, b - a) else none

/-- A field value is no reserved encoding (R9). -/
def Fld.allows (f : Fld) (v : Nat) : Bool := f.legal.isEmpty || f.legal.any (fun r => r.1 ≤ v && v ≤ r.2)

/-- A field value without the bits that its layout reserves: bits 47:46 of a TIME96 read zero and keep nothing (R5,
R119). -/
def Fld.clean (f : Fld) (v : Nat) : Nat :=
  if f.id = TIM_STEP.VAL.id ∨ f.id = GAU_ENT.DUE.id then putBits v 46 2 0 else v

/-- One field's share of a word write (R4, R9): the new state and whether a reserved encoding was met. -/
def State.writeField (s : State) (f : Fld) (i flo wlo wd v : Nat) : State × Bool :=
  let x := bits v wlo wd
  match f.acc with
  | .rw =>
    let n := f.clean (putBits (s.get f i) flo wd x)
    if f.allows n then (s.set f i n, false) else (s.set f i f.reset, true)
  | .w1c => (s.set f i (s.get f i - (s.get f i &&& (x * 2 ^ flo))), false)
  | .w1s => (s.set f i (s.get f i ||| (x * 2 ^ flo)), false)
  | _ => (s, false)

/-- The fields of a row that lie in word w, with their places. -/
def Reg.inWord (r : Reg) (w : Nat) : List (Fld × Nat × Nat × Nat) :=
  r.fields.filterMap (fun x => (overlap x.1 x.2.width w).map (fun o => (x.2, o)))

/-- Write one word of an entry by its access codes; `i` is the field index. Answers whether a reserved encoding was
met. -/
def State.writeWord (s : State) (r : Reg) (i w v : Nat) : State × Bool :=
  (r.inWord w).foldl (fun (a : State × Bool) x =>
    let b := a.1.writeField x.1 i x.2.1 x.2.2.1 x.2.2.2 v
    (b.1, a.2 || b.2)) (s, false)

/-- Value of a word of an entry from the fields alone. WO fields read zero (R4). -/
def State.readFields (s : State) (r : Reg) (i w : Nat) : Nat :=
  (r.inWord w).foldl (fun a x =>
    if x.1.acc = .wo then a else a + bits (s.get x.1 i) x.2.1 x.2.2.2 * 2 ^ x.2.2.1) 0

/-- RC fields of a word clear when it is read (R4). -/
def State.readClear (s : State) (r : Reg) (i w : Nat) : State :=
  s.each (r.inWord w) (fun x s => if x.1.acc = .rc then s.set x.1 i 0 else s)

/-- The fields of a word hold a reserved encoding in value v: for WO fields (R9). -/
def Reg.woReserved (r : Reg) (w v : Nat) : Bool :=
  (r.inWord w).any (fun x => x.1.acc = .wo && !x.1.allows (bits v x.2.2.1 x.2.2.2))

/-! Held words (R451). -/

/-- Key of a writer's held words. -/
def Writer.heldKey : Writer → Nat
  | .port p => p
  | .jig => 2
  | .gauge => 3

/-- Held words of a writer for an array. -/
def State.heldOf (s : State) (w : Writer) (rid : RegId) : Option Held :=
  (Tab.get [] s.ac.held w.heldKey).find? (fun h => h.rid = rid)

/-- Forget a writer's held words of an array. -/
def State.dropHeld (s : State) (w : Writer) (rid : RegId) : State :=
  { s with ac.held := s.ac.held.set [] w.heldKey ((Tab.get [] s.ac.held w.heldKey).filter (fun h => h.rid ≠ rid)) }

/-- What a word of an entry keeps of a written value: its RW fields, without the bits they reserve (R5). -/
def Reg.keeps (r : Reg) (w v : Nat) : Nat :=
  (r.inWord w).foldl (fun a x => if x.1.acc = .rw then
    a + bits (x.1.clean (bits v x.2.2.1 x.2.2.2 * 2 ^ x.2.1)) x.2.1 x.2.2.2 * 2 ^ x.2.2.1 else a) 0

/-- Hold a word: held words of another entry of the array are discarded and counted (R451, CAUSE 0x5). -/
def State.hold (s : State) (w : Writer) (pl : Place) (v off : Nat) : State :=
  let old := s.heldOf w pl.reg.rid
  let keep := match old with
    | some h => if h.idx = pl.idx then h.words else []
    | none => []
  let s := match old with
    | some h => if h.idx = pl.idx then s else s.reject w 5 pl.reg.bar2 off
    | none => s
  let s := s.dropHeld w pl.reg.rid
  let l := Tab.get [] s.ac.held w.heldKey ++
    [⟨pl.reg.rid, pl.idx, keep.filter (fun x => x.1 ≠ pl.word) ++ [(pl.word, pl.reg.keeps pl.word v)]⟩]
  { s with ac.held := s.ac.held.set [] w.heldKey l }

/-- Value a writer holds for a word, if any. -/
def State.heldWord (s : State) (w : Writer) (pl : Place) : Option Nat :=
  match s.heldOf w pl.reg.rid with
  | some h => if h.idx = pl.idx then (h.words.find? (fun x => x.1 = pl.word)).map (·.2) else none
  | none => none

/-- Take a writer's held words of an entry in (all words but the commit word), and forget them. -/
def State.commitHeld (s : State) (w : Writer) (pl : Place) (i : Nat) : State × Bool :=
  match s.heldOf w pl.reg.rid with
  | some h =>
    if h.idx = pl.idx then
      let r := h.words.foldl (fun (a : State × Bool) x =>
        let b := a.1.writeWord pl.reg i x.1 x.2
        (b.1, a.2 || b.2)) (s, false)
      (r.1.dropHeld w pl.reg.rid, r.2)
    else (s, false)
  | none => (s, false)

end Sys2Proof.Machine
end

