-- ==== Sys2Proof/Machine/Clock.lean ====
section
/-!
DEFINITION. Machine/Clock.lean: network time, its steps, validity and holdover (R119 to R130), the bookkeeping of
GLB_TX_RESUME (R56), and the Gauge table's arming and firing (R139 to R145).
-/
namespace Sys2Proof.Machine

/-! GLB_TX_RESUME (R56). -/

/-- A network instant in whole milliseconds, rounded up. -/
def ceilMs (t : Nat) : Nat := ceilDiv t ms

/-- An ACTIVE transmit SA of an autonomous SC exists (R56), whether its SC is VALID or not (R72). -/
def State.autActive (s : State) : Bool :=
  (s.ones SCT_TX.KEYING).any (fun c => s.get SAT_TX.STATE (2 * c) == 2 || s.get SAT_TX.STATE (2 * c + 1) == 2)

/-- The write made every 1 ms and when the first such SA becomes ACTIVE. -/
def State.resumeWrite (s : State) : State :=
  if s.lc.resumeFresh then s
  else s.set GLB_TX_RESUME.V 0 (max s.lc.rBoot (max (ceilMs s.lc.hwm) (ceilMs s.now + 1)))

/-- The write made at an orderly stop. -/
def State.resumeStop (s : State) : State :=
  if s.lc.resumeFresh then s else s.set GLB_TX_RESUME.V 0 (max s.lc.rBoot (ceilMs s.lc.hwm))

/-! The Gauge table. -/

/-- Next due time of an entry. -/
def State.gauDue (s : State) (i : Nat) : Nat := fromTime96 (s.get GAU_ENT.DUE i)

/-- The entry can still fire (R142). -/
def State.gauArmed (s : State) (i : Nat) : Bool :=
  s.on GAU_ENT.ENABLE i && (s.on GAU_ENT.PERIODIC i || !s.on GAU_ENT.FIRED i)

/-- The entry is the next to fire: armed, due, first in due time and index, and nothing has fired in this TCLK cycle
(R142, OP-7). -/
def State.gauReady (s : State) (i : Nat) : Bool :=
  s.on TIM_STATUS.VALID 0 && s.ga.gauAt != s.mono + 1 && s.gauArmed i && s.gauDue i ≤ s.now &&
  (s.ones GAU_ENT.ENABLE).all (fun j => !s.gauArmed j || s.gauDue i < s.gauDue j || (s.gauDue i == s.gauDue j && i ≤ j))

/-- A forward step to `new`: every armed entry due at or before it fires LATE (R143); the scheduled warm reset likewise
(R55). -/
def State.gauCross (s : State) (new : Nat) : State :=
  let l := (s.ones GAU_ENT.ENABLE).filter (fun i => s.gauArmed i && s.gauDue i ≤ new)
  let s := { s with ga.gauLate := l.foldl (fun a i => Tab.set 0 a i (new + 1)) s.ga.gauLate,
                    ga.gauAt := s.mono + 1 }
  match s.lc.warmAt with
  | some t => if t ≤ new then { s with lc.warmLate := true } else s
  | none => s

/-- First base + m × period later than an instant. -/
def nextPeriod (base period t : Nat) : Nat :=
  if t < base then base else base + ((t - base) / period + 1) * period

/-- PERIOD of an entry in 2^-32 ns. -/
def State.gauPeriod (s : State) (i : Nat) : Nat := s.get GAU_ENT.PERIOD i * 2 ^ 16

/-- Fire entry i: its record, its flags and its next due time (R142 to R145). -/
def State.gauFire (s : State) (i : Nat) : State :=
  let cross := Tab.get 0 s.ga.gauLate i
  let late := cross != 0
  let n := s.ga.gauCount
  let ho := s.get TIM_STATUS.HOLDOVER 0
  let rec_ := time96 s.now + i * 2 ^ 96 + s.get GAU_ENT.ACTION i * 2 ^ 106 + b2n late * 2 ^ 110 + ho * 2 ^ 111
  let s := if 256 ≤ n ∧ s.ga.gauMark + 256 ≤ n then s.pend 0x02A else s
  let s := { s with ga.gauRing := s.ga.gauRing.set 0 (n % 256) rec_, ga.gauCount := n + 1,
                    ga.gauLate := s.ga.gauLate.set 0 i 0, ga.gauAt := s.mono + 1 }
  let s := ((((((s.set GAU_RING_HEAD.INDEX 0 (n + 1)).set GAU_RING_HEAD.WRITTEN 0 (n + 1)).set GAU_ENT.FIRED i 1).set
    GAU_ENT.LAST_LATE i (b2n late)).set GAU_ENT.LAST_HOLDOVER i ho)).turn GAU_ENT.FIRE_COUNT i 1
  let s := if late then s.pend 0x029 else s
  if s.on GAU_ENT.PERIODIC i then
    let p := s.gauPeriod i
    let d := if late then nextPeriod (Tab.get 0 s.ga.gauBase i) p (cross - 1) else s.gauDue i + p
    s.set GAU_ENT.DUE i (time96 d)
  else s

/-- Run an action of a firing: the entry is next to fire and carries the action; otherwise nothing happens. -/
def State.gauAct (s : State) (i action : Nat) (act : State → State) : State :=
  if s.gauReady i ∧ s.get GAU_ENT.ACTION i = action then act (s.gauFire i) else s

/-- PARAM of SHAPER_EPOCH and TARGET ranges of each action (R141, R254, R439): whether TARGET and PARAM name values of
the action's row. -/
def gauTargetOk (action target : Nat) : Bool :=
  match action with
  | 1 => target < 4
  | 2 => target = 2 || target = 3 || target = 4
  | 4 => target < 256
  | 5 => target < 256
  | 6 => target < 16
  | 7 => target < 256
  | 8 => target < 16
  | 9 => target < 64
  | _ => true

def gauParamOk (action param : Nat) : Bool :=
  match action with
  | 5 => param < 3
  | 7 => param = 0
  | 8 => 100 ≤ param && param ≤ 1000000
  | _ => true

/-- SA_SWITCH groups are named in bits 7:0 (R141). -/
def gauScopeOk (action scope target : Nat) : Bool := action != 3 || scope % 2 = 0 || target < 256

/-- A word-0 write has taken in entry i's words: reserved values take their fields' reset values (R9, R141), and the entry
is armed or disarmed (R140, R141). Answers whether a reserved value was met. -/
def State.gauCommit (s : State) (i : Nat) : State × Bool :=
  let s := { s with ga.gauLate := s.ga.gauLate.set 0 i 0 }
  let a := s.get GAU_ENT.ACTION i
  let badA := decide (9 < a)
  let badT := !(gauTargetOk a (s.get GAU_ENT.TARGET i) && gauScopeOk a (s.get GAU_ENT.SCOPE i) (s.get GAU_ENT.TARGET i))
  let badP := !gauParamOk a (s.get GAU_ENT.PARAM i)
  let badD := !time96Legal (s.get GAU_ENT.DUE i)
  let badN := s.on GAU_ENT.PERIODIC i && decide (s.get GAU_ENT.PERIOD i < 100 * 65536)
  let z (b : Bool) (f : Fld) (s : State) : State := if b then s.set f i f.reset else s
  if badA || badT || badP || badD || badN then
    ((z badN GAU_ENT.PERIOD (z badD GAU_ENT.DUE (z badP GAU_ENT.PARAM (z badT GAU_ENT.TARGET
      (z badA GAU_ENT.ACTION s))))).set GAU_ENT.ENABLE i 0, true)
  else if s.on GAU_ENT.ENABLE i then
    let s := (s.set GAU_ENT.FIRED i 0).set GAU_ENT.FIRE_COUNT i 0
    let b := s.gauDue i
    let s := { s with ga.gauBase := s.ga.gauBase.set 0 i b }
    if b < s.now then
      if s.on GAU_ENT.PERIODIC i then (s.set GAU_ENT.DUE i (time96 (nextPeriod b (s.gauPeriod i) s.now)), false)
      else ({ s with ga.gauLate := s.ga.gauLate.set 0 i (s.now + 1) }, false)
    else (s, false)
  else (s, false)

/-! Steps, validity, discipline, holdover. -/

/-- Steps modulo 65,536 (R128). -/
def State.steps (s : State) : Nat := s.get TIM_STATUS.STEPS 0

/-- Change the counter by a step (R123): a change to the same time is none. The lattices of carrier streams move with it
(R267). -/
def State.stepTime (s : State) (new kind : Nat) : State :=
  if time96 new = time96 s.now then s
  else
    let old := time96 s.now
    let was := s.now
    let fwd := s.now < new
    let s := { s with now := new, tm.slew := 0, tm.slewFrac := 0 }
    let s := ((s.logEvent 0x0020 0x022 (leBytes 12 old ++ leBytes 1 kind)).turn TIM_STATUS.STEPS 0 1).pend 0x022
    let s := match s.cn.sweep with
      | some w => { s with cn.sweep := some { w with steps := 1 } }
      | none => s
    let s := s.each (s.ones CAR_TX.START) (fun k s =>
      s.set CAR_TX.START k (time96 (fromTime96 (s.get CAR_TX.START k) + new - was)))
    if fwd ∧ s.on TIM_STATUS.VALID 0 then s.gauCross new else s

/-- Network time becomes valid (R125, R127, R142, R56). -/
def State.validate (s : State) (src : Nat) : State :=
  if s.on TIM_STATUS.VALID 0 then s
  else
    let s := ((s.set TIM_STATUS.VALID 0 1).set TIM_STATUS.VALID_SRC 0 src).pend 0x027
    let s := { s with tm.discAt := s.mono, tm.ppsAt := s.mono, tm.trefAt := s.mono }
    let s := if s.lc.resumeFresh then
        { s.set GLB_TX_RESUME.V 0 (ceilMs s.now) with lc.rBoot := ceilMs s.now, lc.resumeFresh := false }
      else s
    s.gauCross s.now

/-- Holdover ends (R127). -/
def State.holdoverLeave (s : State) : State :=
  if s.on TIM_STATUS.HOLDOVER 0 then
    { ((s.set TIM_STATUS.HOLDOVER 0 0).logEvent 0x0022 0x021 []).pend 0x021 with tm.hoErrHit := false }
  else s

/-- Holdover begins (R127): only on a valid time. In PPS_TREF mode the increment takes its mean over the last 16 s. -/
def State.holdoverEnter (s : State) : State :=
  if s.on TIM_STATUS.VALID 0 ∧ s.on TIM_STATUS.HOLDOVER 0 = false then
    let s := if s.get TIM_DISC.MODE 0 = 1 ∧ s.tm.incrHist ≠ [] then
        { s with tm.incr := s.tm.incrHist.sum / s.tm.incrHist.length }
      else s
    { ((s.set TIM_STATUS.HOLDOVER 0 1).logEvent 0x0021 0x020 []).pend 0x020 with
      tm.hoAt := s.mono, tm.hoErrHit := false, tm.ppsRun := 0 }
  else s

/-- A discipline write (R124, R127). -/
def State.disciplined (s : State) : State :=
  let s := { s with tm.discAt := s.mono }
  if s.get TIM_DISC.MODE 0 = 0 then s.holdoverLeave else s

/-- TIM_HO_ERR (R129). -/
def State.hoErr (s : State) : Nat :=
  if s.on TIM_STATUS.HOLDOVER 0 then min (s.get TIM_HO.DRIFT_PPB 0 * ((s.mono - s.tm.hoAt) / sec)) 0xFFFFFFFF else 0

/-- RTC count in 32,768ths of a second (R126). -/
def State.rtcNow (s : State) : Nat := s.tm.rtc + (if s.tm.rtcLost then 0 else (s.mono - s.tm.rtcMono) * 32768 / sec)

/-- One TCLK edge: the counters advance by the increment and the share of a slew (R119 to R121). An increment written
before takes effect first. -/
def State.tick (s : State) : State :=
  let s := match s.tm.incrNext with
    | some v => { s with tm.incr := v, tm.incrNext := none }
    | none => s
  let f := s.tm.slewFrac + s.tm.incr * s.get TIM_SLEW_RATE.RATE_PPB 0
  let d := min (f / 1000000000) s.tm.slew.natAbs
  let s := { s with mono := s.mono + 0xCCCCCCCD }
  if s.tm.slew = 0 then { s with now := wrapTime (s.now + s.tm.incr) }
  else if 0 < s.tm.slew then
    { s with now := wrapTime (s.now + s.tm.incr + d), tm.slew := s.tm.slew - d, tm.slewFrac := f % 1000000000 }
  else { s with now := wrapTime (s.now + s.tm.incr - d), tm.slew := s.tm.slew + d, tm.slewFrac := f % 1000000000 }

/-! Register operations of the TIM block. -/

/-- TIM_INCR low word: held for the writer (R120). -/
def State.incrLo (s : State) (w : Writer) (v : Nat) : State :=
  { s with tm.incrLow := s.tm.incrLow.set none w.heldKey (some v) }.disciplined

/-- TIM_INCR high word: both take effect at the next TCLK edge; 0.78 ns to 0.82 ns (R120). -/
def State.incrHi (s : State) (w : Writer) (v : Nat) : State :=
  let lo := (Tab.get none s.tm.incrLow w.heldKey).getD (s.get TIM_INCR.FRAC32 0)
  let x := bits v 0 4 * 2 ^ 32 + lo
  let ok := 3350074491 ≤ x && x ≤ 3521873182
  let x := if ok then x else 0xCCCCCCCD
  let s := { s with tm.incrLow := s.tm.incrLow.set none w.heldKey none, tm.incrNext := some x }
  let s := (s.set TIM_INCR.FRAC32 0 x).set TIM_INCR.INT 0 (x / 2 ^ 32)
  (if ok then s else s.reject w 1 false 0x30014).disciplined

/-- TIM_SLEW (R121): a value in range replaces any slew in progress. -/
def State.slewWrite (s : State) (w : Writer) (v : Nat) : State :=
  let o := signed 32 v
  if -1000000 ≤ o ∧ o ≤ 1000000 then { s with tm.slew := o * ns, tm.slewFrac := 0 }.disciplined
  else s.reject w 1 false 0x30020

/-- The level of a pulse pin (R137): with DRIVE 0 it stays inactive. -/
def State.pinLevel (s : State) (pin : Nat) : Bool :=
  (s.on TIM_PULSE_CFG.DRIVE pin && Tab.get 0 s.tm.pulseEnd pin != 0) != s.on TIM_PULSE_CFG.ACTIVE_LOW pin

/-- The pins whose level differs from an earlier state put out their new level. -/
def State.pinsFrom (s old : State) : State :=
  s.each (upto 4) (fun p t => if s.pinLevel p = old.pinLevel p then t else t.emit (.pulse p (s.pinLevel p)))

/-- TIM_STEP GO with a KIND (R122, R123): any write to TIM_STEP is a discipline write (R124), a refused one too. A holdover
that it ends is recorded before the step, in the order of the sources (R40). -/
def State.stepGo (s : State) (w : Writer) (kind : Nat) : State :=
  let val := s.get TIM_STEP.VAL 0
  let v := fromTime96 val
  if kind = 3 ∧ s.now < v then (s.reject w 3 false 0x3003C).disciplined
  else
    let new := if kind = 1 then v else if kind = 2 then wrapTime (s.now + v) else s.now - v
    let s := s.disciplined.stepTime new kind
    if kind = 1 then s.validate 1 else s

/-- What an edge of PPS_IN shows of its rhythm: PPS_OK while edges come once a second ±1 ms (R128), and how many have come in
a row with TREF_IN good (R127). -/
def State.ppsSeen (s : State) : State :=
  let gap := s.mono + 1 - s.tm.ppsEdgeAt
  let known := decide (s.tm.ppsEdgeAt ≠ 0)
  let good := known && decide (999 * ms ≤ gap) && decide (gap ≤ 1001 * ms)
  let run := if s.on TIM_STATUS.TREF_OK 0 = false then 0
    else if known && decide (gap ≤ 1500 * ms) then s.tm.ppsRun + 1 else 1
  let fell := s.on TIM_STATUS.PPS_OK 0 && !good
  let s := { s.set TIM_STATUS.PPS_OK 0 (b2n good) with
    tm.ppsAt := s.mono, tm.ppsEdgeAt := s.mono + 1, tm.ppsRun := run }
  if fell then s.pend 0x023 else s

/-- A PPS_IN edge (R125, R127, R128). The KIND that the log entry of an alignment shows is a free value: R123 names none
for it (see log entry 3). -/
def State.ppsEdge (s : State) : State :=
  let s := s.ppsSeen
  if s.get TIM_DISC.MODE 0 ≠ 1 then s
  else if s.on TIM_STATUS.VALID 0 = false then
    if s.on TIM_DISC.PPS_SEED 0 ∧ s.on TIM_RTC_STATUS.VALID 0 then
      let k := s.free
      (k.2.stepTime ((s.rtcNow + 16384) / 32768 * sec) (k.1 % 256)).validate 2
    else s
  else if s.on TIM_STATUS.HOLDOVER 0 then
    if 3 ≤ s.tm.ppsRun then s.holdoverLeave else s
  else
    let o := s.now % sec
    let e : Int := if 2 * o < sec then o else (o : Int) - sec
    if e.natAbs < s.get TIM_DISC.STEP_THRESH 0 * ns then { s with tm.slew := -e, tm.slewFrac := 0 }
    else
      let k := s.free
      k.2.stepTime ((s.now : Int) - e).toNat (k.1 % 256)

/-- TREF_IN measured against TCLK: 10,000,000 periods are 1 s (R125). Frozen in holdover (R127). -/
def State.trefMeasure (s : State) (tclk : Nat) : State :=
  if s.get TIM_DISC.MODE 0 = 1 ∧ s.on TIM_STATUS.HOLDOVER 0 = false ∧ tclk ≠ 0 then
    let x := sec / tclk
    { (s.set TIM_INCR.FRAC32 0 x).set TIM_INCR.INT 0 (x / 2 ^ 32) with
      tm.incr := x, tm.incrNext := none, tm.incrHist := (x :: s.tm.incrHist).take 16 }
  else s

end Sys2Proof.Machine
end

