-- ==== Sys2Proof/Machine/Sampler.lean ====
section
/-!
DEFINITION. Machine/Sampler.lean: the frame sampler (R443, R444): which frames it takes and the records it writes.
-/
namespace Sys2Proof.Machine

/-- Count an eligible frame of region r and answer whether it is sampled. -/
def State.smpEligible (s : State) (r : Nat) (inSet : Bool) : Bool × State :=
  if s.on CNT_SMP_CTL.EN 0 ∧ inSet then
    let pos := Tab.get 0 s.cn.smpPos r
    let s := if pos = 0 then
        let n := s.get CNT_SMP_CTL.N 0
        let w := Tab.get 0 s.cn.smpWin r
        let pick := (Config.samplerDraw (s.get CNT_SMP_SEED.V 0 ^^^ r) w).toNat % max n 1
        { s with cn.smpLen := s.cn.smpLen.set 0 r n, cn.smpPick := s.cn.smpPick.set 0 r pick,
                 cn.smpWin := s.cn.smpWin.set 0 r (w + 1) }
      else s
    let next := if Tab.get 0 s.cn.smpLen r ≤ pos + 1 then 0 else pos + 1
    (pos == Tab.get 0 s.cn.smpPick r, { s with cn.smpPos := s.cn.smpPos.set 0 r next })
  else (false, s)

/-- The unit of region r writes a record into the ring, or drops it: 25 million records a second are one per 40 ns (R443, R444,
log entry 83). `body` holds the bits above FRAME_ID. -/
def State.smpWrite (s : State) (r body : Nat) : State :=
  let last := Tab.get 0 s.cn.smpAt r
  if last ≠ 0 ∧ s.mono + 1 < last + 40 * ns then (s.count CNT_SMP_DROPPED.V 0 1).pend 0x464
  else
    let n := s.cn.smpWritten
    let s := { s with cn.smpRing := s.cn.smpRing.set 0 (n % 4096) ((n + 1) % 2 ^ 32 + body), cn.smpWritten := n + 1,
                      cn.smpAt := s.cn.smpAt.set 0 r (s.mono + 1) }
    let s := (s.set CNT_SMP_HEAD.INDEX 0 (n + 1)).set CNT_SMP_HEAD.WRITTEN 0 (n + 1)
    if 4096 ≤ n then s.pend 0x463 else s

/-- The body of a sampler record. -/
def smpBody (dir hport lport sc an flags queue len ing egr lat pn reason : Nat) : Nat :=
  dir * 2 ^ 32 + hport % 32 * 2 ^ 33 + lport % 16 * 2 ^ 38 + sc % 4096 * 2 ^ 42 + an % 4 * 2 ^ 54 + flags % 256 * 2 ^ 56 +
  queue % 2 ^ 14 * 2 ^ 64 + len % 2 ^ 14 * 2 ^ 80 + ing * 2 ^ 96 + egr * 2 ^ 192 + min lat (2 ^ 32 - 1) * 2 ^ 288 +
  pn % 2 ^ 32 * 2 ^ 320 + reason * 2 ^ 352

/-- Record of an egress frame that has left or is discarded (reason 0: it left). `fl` adds CARRIER 2, REISSUED 4. -/
def State.smpEgress (s : State) (f : Frame) (pn an fl reason : Nat) : State :=
  if f.sampled then
    let flags := b2n f.deep + fl + 8 * b2n f.launch.isSome + 16 * b2n (reason != 0) + 32 * b2n f.sc.isNone +
      64 * s.get TIM_STATUS.HOLDOVER 0 + 128 * b2n (f.steps != s.steps)
    s.smpWrite (f.src.getD 0 / 8) (smpBody 0 (f.src.getD 0) f.lp (f.sc.getD 0) an flags f.queue (f.data.length + 4) (time96 f.time)
      (time96 s.now) ((s.mono - f.mono) / ns) pn reason)
  else s

/-- Record of an ingress frame. -/
def State.smpIngress (s : State) (hp lp sc an fl len time steps mono pn reason : Nat) : State :=
  let flags := fl + 16 * b2n (reason != 0) + 64 * s.get TIM_STATUS.HOLDOVER 0 + 128 * b2n (steps != s.steps)
  s.smpWrite (lp / 4) (smpBody 1 hp lp sc an flags 0x3FFF len (time96 time) (time96 s.now) ((s.mono - mono) / ns) pn reason)

end Sys2Proof.Machine
end

