-- ==== Sys2Proof/Machine/Protect.lean ====
section
/-!
DEFINITION. Machine/Protect.lean: transmit secure channels and associations (R70 to R81), receive ones (R98 to R105,
R112, R117), and the construction of protected frames (R82 to R84, R107).
-/
namespace Sys2Proof.Machine

/-! Event bits and their summaries (R81, R117). -/

/-- A summary bit of transmit SC c: advisory or fault. -/
def State.txSum (s : State) (flt : Bool) (c : Nat) : Bool :=
  if flt then s.on SCT_TX.EV_EXHAUST c || s.on SCT_TX.EV_SWITCH_MISS c || s.on SCT_TX.EV_KEY_GONE c ||
    s.on SCT_TX.EV_REISSUE_LIMIT c
  else s.on SCT_TX.EV_THRESH c || s.on SCT_TX.EV_SWITCH c

/-- A summary bit of receive SC c. -/
def State.rxSum (s : State) (flt : Bool) (c : Nat) : Bool :=
  if flt then s.on SCT_RX.EV_NO_SA c || s.on SCT_RX.EV_KEY_GONE c || s.on SCT_RX.EV_REISSUE_LIMIT c ||
    s.on SCT_RX.EV_EXHAUST c
  else s.on SCT_RX.EV_SWITCH c || s.on SCT_RX.EV_RETIRE c

/-- Set an event bit of transmit SC c; a summary bit that rises makes its source pending. -/
def State.txEvent (s : State) (flt : Bool) (f : Fld) (c : Nat) : State :=
  let was := s.txSum flt c
  let s := s.set f c 1
  if was then s else s.pend ((if flt then 0x220 else 0x1E0) + c / 64)

/-- Set an event bit of receive SC c. -/
def State.rxEvent (s : State) (flt : Bool) (f : Fld) (c : Nat) : State :=
  let was := s.rxSum flt c
  let s := s.set f c 1
  if was then s else s.pend ((if flt then 0x2A0 else 0x260) + c / 64)

/-! SA states (R74, R102). -/

def saEMPTY : Nat := 0
def saREADY : Nat := 1
def saACTIVE : Nat := 2
def saEXHAUSTED : Nat := 3
def saRETIRED : Nat := 4
def saDISCARD : Nat := 5

/-- SA entry in the current slot of transmit SC c, and in the other one. -/
def State.curSa (s : State) (c : Nat) : Nat := 2 * c + s.get SCT_TX.CUR c
def State.othSa (s : State) (c : Nat) : Nat := 2 * c + (1 - s.get SCT_TX.CUR c)

/-- An SA of an autonomous SC becomes ACTIVE: the first write of R56. -/
def State.autFirst (s : State) (c : Nat) : State := if s.on SCT_TX.KEYING c then s.resumeWrite else s

/-- The other slot of transmit SC c becomes current (R74, R77). -/
def State.switchSlot (s : State) (c : Nat) : State :=
  let a := s.curSa c
  let b := s.othSa c
  let st := s.get SAT_TX.STATE a
  let s := if st = saACTIVE ∨ st = saEXHAUSTED then s.set SAT_TX.STATE a saRETIRED else s
  let s := (s.set SAT_TX.STATE b saACTIVE).set SCT_TX.CUR c (1 - s.get SCT_TX.CUR c)
  ((s.count SCT_TX.SWITCHES c 1).txEvent false SCT_TX.EV_SWITCH c).autFirst c

/-- A switch request (R77). -/
def State.switchReq (s : State) (c : Nat) : State :=
  if s.get SAT_TX.STATE (s.othSa c) = saREADY then s.switchSlot c else s.txEvent true SCT_TX.EV_SWITCH_MISS c

/-- R78: a valid SC whose current slot is used up moves to a READY other slot. -/
def State.autoSwitch (s : State) (c : Nat) : State :=
  let st := s.get SAT_TX.STATE (s.curSa c)
  if s.on SCT_TX.VALID c ∧ (st = saEXHAUSTED ∨ st = saEMPTY ∨ st = saDISCARD) ∧
      s.get SAT_TX.STATE (s.othSa c) = saREADY then s.switchSlot c else s

/-- MKA-keyed transmit SCs of a switch group, ascending (R77, R79, R226). -/
def State.txGroup (s : State) (g : Nat) : List Nat :=
  (upto 4096).filter (fun c => s.get SCT_TX.GROUP c == g && !s.on SCT_TX.KEYING c)

/-- Exhaust the current SA (R76). -/
def State.exhaust (s : State) (c cause : Nat) : State :=
  let a := s.curSa c
  let s := ((s.set SAT_TX.STATE a saEXHAUSTED).set SAT_TX.EXH_CAUSE a cause).txEvent true SCT_TX.EV_EXHAUST c
  if s.get SAT_TX.STATE (s.othSa c) = saREADY then s.switchSlot c else s

/-- A key is installed into a transmit SA (R74): the caller has refused an ACTIVE slot. A current slot that is RETIRED
becomes ACTIVE too, and a READY slot stays READY with its fields initialised again: the table has neither row (log
entry 64). -/
def State.txInstalled (s : State) (a : Nat) : State :=
  let c := a / 2
  let cur := s.get SCT_TX.CUR c == a % 2
  let s := (((((s.set SAT_TX.INSTALLED a 1).set SAT_TX.ORPHAN a 0).set SAT_TX.NEXT_PN a 1).set SAT_TX.THRESH_HIT a 0).set
    SAT_TX.EXH_CAUSE a 0)
  let s := (s.clearCount SAT_TX.USED a).clearCount SAT_TX.PKTS a
  let s := s.set SAT_TX.STATE a (if cur then saACTIVE else saREADY)
  if cur then s.autFirst c else s.autoSwitch c

/-- Egress frames whose PN is assigned under SA a and that wait outside the slice group are lost (R80). -/
def State.txKeyGone (s : State) (a : Nat) : State :=
  let c := a / 2
  s.each (upto 4) (fun r s =>
    let l := Tab.get [] s.fr.egress r
    let gone := l.filter (fun x => x.sa == a && x.stat == EgStat.wait)
    if gone = [] then s else
      let s := { s with fr.egress := s.fr.egress.set [] r (l.filter (fun x => !(x.sa == a && x.stat == EgStat.wait))) }
      let s := s.each gone (fun x s => match x.car with
        | some k => (s.count CAR_TXCNT.C_DISCARD x.f.lp 1).each k.ends (fun f s => s.smpEgress f x.pn x.an 2 3)
        | none => s.smpEgress x.f x.pn x.an 0 3)
      (s.count SCT_TX.D_KEY_GONE c gone.length).txEvent true SCT_TX.EV_KEY_GONE c)

/-- The key of a transmit SA is erased (R74, R80). -/
def State.txErased (s : State) (a : Nat) : State :=
  let s := s.txKeyGone a
  let s := if s.get SAT_TX.STATE a = saEMPTY then s else s.set SAT_TX.STATE a saDISCARD
  ((s.set SAT_TX.INSTALLED a 0).set SAT_TX.ORPHAN a 0).autoSwitch (a / 2)

/-! Receive SAs. -/

/-- A receive slot becomes ACTIVE (R102): FLOOR is copied; the non-current slot becomes current. EV_SWITCH is set for the
non-current slot only, as R102 says (log entry 65). -/
def State.rxActivate (s : State) (a : Nat) : State :=
  let c := a / 2
  let s := (s.set SAT_RX.STATE a saACTIVE).set SAT_RX.FLOOR a (s.get SAT_RX.NEXT_PN a)
  if s.get SCT_RX.CUR c = a % 2 then s else (s.set SCT_RX.CUR c (a % 2)).rxEvent false SCT_RX.EV_SWITCH c

/-- A receive slot retires (R104). -/
def State.rxRetire (s : State) (a : Nat) : State :=
  if s.get SAT_RX.STATE a = saACTIVE then
    ((s.set SAT_RX.STATE a saRETIRED).set SAT_RX.RETIRE_ARMED a 0).rxEvent false SCT_RX.EV_RETIRE (a / 2)
  else s.set SAT_RX.RETIRE_ARMED a 0

/-- Arm the retirement of a slot at a network time (R104); a time already reached retires it at once. -/
def State.rxArm (s : State) (a at_ : Nat) : State :=
  if at_ ≤ s.now then s.rxRetire a
  else
    let t := time96 at_
    let s := { s with fr.retireAt := s.fr.retireAt.set 0 a (at_ / ns * ns) }
    ((s.set SAT_RX.RETIRE_ARMED a 1).set SAT_RX.RETIRE_AT_S a (bits t 48 32)).set SAT_RX.RETIRE_AT_NS a (bits t 16 30)

/-- The network time at which slot a retires (R104): RETIRE_AT shows its low 32 bits of seconds and its nanoseconds. -/
def State.rxRetireAt (s : State) (a : Nat) : Nat := Tab.get 0 s.fr.retireAt a

/-- OVERLAP of a receive SC. -/
def State.overlapOf (s : State) (c : Nat) : Nat := s.get SCT_RX.OVERLAP c * us

/-- What a receive SC's entry and SA a hold for a frame that is now at slot selection (R99). -/
def State.rxParOf (s : State) (c a : Nat) : RxPar :=
  ⟨s.get SCT_RX.SUITE c, s.get SCT_RX.OFFSET c, s.get SCT_RX.SCI c, s.get SAT_RX.SSCI a, s.get SAT_RX.SALT a,
   s.get SCT_RX.WINDOW c, s.on SCT_RX.REPLAY_PROTECT c, s.overlapOf c⟩

/-- An activation request (R104, R105): the non-current READY slot becomes ACTIVE, the old one retires after OVERLAP. -/
def State.rxActivateReq (s : State) (c : Nat) : State :=
  let cur := s.get SCT_RX.CUR c
  if s.on SCT_RX.KEYING c then s
  else if s.get SAT_RX.STATE (2 * c + (1 - cur)) = saREADY then
    let s := s.rxActivate (2 * c + (1 - cur))
    if s.get SAT_RX.STATE (2 * c + cur) = saACTIVE then s.rxArm (2 * c + cur) (s.now + s.overlapOf c) else s
  else s.rxEvent true SCT_RX.EV_NO_SA c

/-- A retire request (R105). -/
def State.rxRetireReq (s : State) (c : Nat) : State :=
  if s.on SCT_RX.KEYING c then s
  else
    let a := 2 * c + (1 - s.get SCT_RX.CUR c)
    if s.get SAT_RX.STATE a = saACTIVE then s.rxRetire a else s

/-- Receive SCs of a group, ascending (R105). -/
def State.rxGroup (s : State) (g : Nat) : List Nat :=
  (upto 4096).filter (fun c => s.get SCT_RX.GROUP c == g)

/-- A key is installed into a receive SA (R102): the caller has refused an ACTIVE slot. -/
def State.rxInstalled (s : State) (a : Nat) : State :=
  let c := a / 2
  let s := ((s.set SAT_RX.INSTALLED a 1).set SAT_RX.ORPHAN a 0).set SAT_RX.RETIRE_ARMED a 0
  let s := (s.clearCount SAT_RX.IN_OK a).clearCount SAT_RX.IN_FAIL a
  if s.get SCT_RX.CUR c = a % 2 then s.rxActivate a
  else if s.on SCT_RX.KEYING c = false ∧ s.on SCT_RX.AUTO_ACCEPT c then s.rxActivate a
  else s.set SAT_RX.STATE a saREADY

/-- Ingress frames that passed slot selection under SA a and wait outside the slice group are lost (R112). -/
def State.rxKeyGone (s : State) (a : Nat) : State :=
  let c := a / 2
  s.each (upto 4) (fun r s =>
    let l := Tab.get [] s.fr.ingress r
    let out (x : InItem) : Bool := x.sa == a && (x.stat == InStat.pre || x.stat == InStat.wait)
    let gone := l.filter out
    if gone = [] then s else
      let s := { s with fr.ingress := s.fr.ingress.set [] r (l.filter (fun x => !out x)) }
      let s := s.each gone (fun x s => if x.sampled then
          s.smpIngress (s.get SCT_RX.HPORT c) x.lp c (s.get SAT_RX.AN a) 0 (x.data.length + 4) x.time x.steps x.mono x.pn 9
        else s)
      (s.count SCT_RX.D_KEY_GONE c gone.length).rxEvent true SCT_RX.EV_KEY_GONE c)

/-- The key of a receive SA is erased (R102, R112). -/
def State.rxErased (s : State) (a : Nat) : State :=
  let s := s.rxKeyGone a
  let s := if s.get SAT_RX.STATE a = saEMPTY then s else s.set SAT_RX.STATE a saDISCARD
  ((s.set SAT_RX.INSTALLED a 0).set SAT_RX.ORPHAN a 0).set SAT_RX.RETIRE_ARMED a 0

/-! SA keys 0 to 8,191 are transmit, 8,192 to 16,383 receive (R73, R101). -/

/-- STATE of the SA that an SA key belongs to. -/
def State.saState (s : State) (k : Nat) : Nat :=
  if k < 8192 then s.get SAT_TX.STATE k else s.get SAT_RX.STATE (k - 8192)

/-- The zeroisation of a removed key begins (R176): slot s, or 256 + SA key. -/
def State.zeroNote (s : State) (key : Nat) : State := { s with ke.zeroAt := s.ke.zeroAt.set 0 key (s.mono + 1) }

/-- The zeroisation of an SA key that is present begins. -/
def State.saNote (s : State) (k : Nat) : State := if (Tab.get [] s.ke.saKey k).isEmpty then s else s.zeroNote (256 + k)

/-- Install an SA key: its octets, its parent slot plus 1, and the SA's change. Frames waiting under an older key in the
slot are lost (R80, R112). -/
def State.saInstall (s : State) (k : Nat) (key : List Octet) (parent : Nat) : State :=
  let s := (if k < 8192 then s.txKeyGone k else s.rxKeyGone (k - 8192)).saNote k
  let s := { s with ke.saKey := s.ke.saKey.set [] k key, ke.saParent := s.ke.saParent.set 0 k parent }
  if k < 8192 then s.txInstalled k else s.rxInstalled (k - 8192)

/-- Erase an SA key. -/
def State.saErase (s : State) (k : Nat) : State :=
  let s := { s.saNote k with ke.saKey := s.ke.saKey.set [] k [], ke.saParent := s.ke.saParent.set 0 k 0 }
  if k < 8192 then s.txErased k else s.rxErased (k - 8192)

/-! Register rules of the tables. -/

/-- A LIMIT is reserved (R71). -/
def limitReserved (unit lim : Nat) : Bool := if unit = 0 then lim = 0 else lim < 9248

/-- The usage limit of transmit SC c is enforced (R71): a reserved LIMIT leaves LIMIT_EN without effect. -/
def State.limited (s : State) (c : Nat) : Bool :=
  s.on SCT_TX.LIMIT_EN c && !limitReserved (s.get SCT_TX.LIMIT_UNIT c) (s.get SCT_TX.LIMIT c)

/-- VALID of a transmit SC goes from 0 to 1 (R72, R74). -/
def State.txValidOn (s : State) (c : Nat) : State :=
  let st := s.get SAT_TX.STATE (2 * c + 1)
  let s := if s.on SCT_TX.CUR c ∧ (st = saACTIVE ∨ st = saEXHAUSTED) then s.set SAT_TX.STATE (2 * c + 1) saRETIRED else s
  let s := (s.set SCT_TX.CUR c 0)
  let s := if s.get SAT_TX.STATE (2 * c) = saREADY then (s.set SAT_TX.STATE (2 * c) saACTIVE).autFirst c else s
  s.autoSwitch c

/-- VALID of a receive SC goes from 0 to 1 (R99). -/
def State.rxValidOn (s : State) (c : Nat) : State :=
  let s := s.set SCT_RX.CUR c 0
  if s.get SAT_RX.STATE (2 * c) = saREADY then s.rxActivate (2 * c) else s

/-- EFF_VALIDATE (R100). -/
def State.effValidate (s : State) (c : Nat) : Nat :=
  let v := s.get SCT_RX.VALIDATE c
  if v = 1 ∧ s.on OFC_RX_POLICY.CHECK_OK 0 then 1 else if v = 0 ∧ s.on OFC_RX_POLICY.DISABLED_OK 0 then 0 else 2

/-- Fields of a transmit SC that only an SC not in use takes (R71), and of a receive SC (R99). -/
def txLocked : List Fld := [SCT_TX.SUITE, SCT_TX.CONF, SCT_TX.OFFSET, SCT_TX.SC_BIT, SCT_TX.ES, SCT_TX.KEYING, SCT_TX.LPORT,
  SCT_TX.CAK_SLOT, SCT_TX.SCHED, SCT_TX.SCI]
def rxLocked : List Fld := [SCT_RX.SUITE, SCT_RX.OFFSET, SCT_RX.KEYING, SCT_RX.LPORT, SCT_RX.SCHED, SCT_RX.CAK_SLOT,
  SCT_RX.SCI]

/-- Write a word of a transmit SC entry (R71, R72). LIMIT is judged with each of its two words, as it then stands (log entry 63). The hook for VALID on an autonomous SC is applied by the caller. -/
def State.txScWrite (s : State) (w : Writer) (c word v : Nat) : State :=
  let off := 0x300000 + 128 * c + 4 * word
  let t := s.writeWord reg_SCT_TX c word v
  let n := t.1
  if s.on SCT_TX.VALID c ∧ txLocked.any (fun f => n.get f c != s.get f c) then s.reject w 2 false off
  else
    let bad := (word == 6 || word == 7) && limitReserved (n.get SCT_TX.LIMIT_UNIT c) (n.get SCT_TX.LIMIT c)
    let n := if bad then n.set SCT_TX.LIMIT c 0 else n
    let n := if t.2 || bad then n.reject w 1 false off else n
    if s.on SCT_TX.VALID c = false ∧ n.on SCT_TX.VALID c then n.txValidOn c else n

/-- Write a word of a receive SC entry (R99). -/
def State.rxScWrite (s : State) (w : Writer) (c word v : Nat) : State :=
  let off := 0x380000 + 128 * c + 4 * word
  let t := s.writeWord reg_SCT_RX c word v
  let n := t.1
  if s.on SCT_RX.VALID c ∧ rxLocked.any (fun f => n.get f c != s.get f c) then s.reject w 2 false off
  else
    let n := if t.2 then n.reject w 1 false off else n
    if s.on SCT_RX.VALID c = false ∧ n.on SCT_RX.VALID c then n.rxValidOn c else n

/-- Write a word of a transmit SA entry (R75, R226). -/
def State.txSaWrite (s : State) (w : Writer) (a word v : Nat) : State :=
  let off := 0x400000 + 64 * a + 4 * word
  let c := a / 2
  let n := (s.writeWord reg_SAT_TX a word v).1
  let st := s.get SAT_TX.STATE a
  let pn := n.get SAT_TX.NEXT_PN a
  let o := 2 * c + (1 - a % 2)
  if 7 ≤ word then s
  else if s.on SCT_TX.KEYING c then s.reject w 3 false off
  else if st ≠ saEMPTY ∧ st ≠ saREADY then s.reject w 2 false off
  else if word = 0 ∧ n.get SAT_TX.AN a = s.get SAT_TX.AN o ∧
      (s.get SAT_TX.STATE o = saACTIVE ∨ s.get SAT_TX.STATE o = saREADY) then s.reject w 3 false off
  else if (word = 1 ∨ word = 2) ∧ s.get SAT_TX.PKTS a ≠ 0 ∧ pn ≤ s.get SAT_TX.NEXT_PN a then s.reject w 3 false off
  else if (word = 1 ∨ word = 2) ∧ (pn = 0 ∨ (s.get SCT_TX.SUITE c < 2 ∧ 0xFFFFFFFF < pn)) then
    (n.set SAT_TX.NEXT_PN a 1).reject w 1 false off
  else n

/-- Write a word of a receive SA entry (R103). -/
def State.rxSaWrite (s : State) (w : Writer) (a word v : Nat) : State :=
  let off := 0x480000 + 64 * a + 4 * word
  let c := a / 2
  let n := (s.writeWord reg_SAT_RX a word v).1
  let pn := n.get SAT_RX.NEXT_PN a
  let o := 2 * c + (1 - a % 2)
  if 7 ≤ word then s
  else if s.on SCT_RX.KEYING c then s.reject w 3 false off
  else if s.get SAT_RX.STATE a = saACTIVE then s.reject w 2 false off
  else if word = 0 ∧ n.get SAT_RX.AN a = s.get SAT_RX.AN o ∧
      (s.get SAT_RX.STATE o = saACTIVE ∨ s.get SAT_RX.STATE o = saREADY) then s.reject w 3 false off
  else if (word = 1 ∨ word = 2) ∧ (pn = 0 ∨ (s.get SCT_RX.SUITE c < 2 ∧ 0xFFFFFFFF < pn)) then
    (n.set SAT_RX.NEXT_PN a 1).reject w 1 false off
  else n

/-! Frame construction (R82 to R84). -/

/-- Octets of the confidentiality offset. -/
def offOctets (code : Nat) : Nat := if code = 1 then 30 else if code = 2 then 50 else 0

/-- Protection parameters of a transmit SC under SA a. -/
def State.protOf (s : State) (c a : Nat) : Prot :=
  ⟨2 ≤ s.get SCT_TX.SUITE c, s.on SCT_TX.CONF c, offOctets (s.get SCT_TX.OFFSET c), s.on SCT_TX.SC_BIT c,
   s.on SCT_TX.ES c, s.get SCT_TX.SCI c, s.get SAT_TX.SSCI a, s.get SAT_TX.SALT a⟩

/-- The SecTAG (R83). -/
def secTag (p : Prot) (an pn len : Nat) : List Octet :=
  beBytes 2 0x88E5 ++
  [BitVec.ofNat 8 (b2n p.es * 64 + b2n p.scBit * 32 + b2n p.conf * 8 + b2n p.conf * 4 + an % 4),
   BitVec.ofNat 8 (if len < 48 then len else 0)] ++
  beBytes 4 (pn % 2 ^ 32) ++ (if p.scBit then beBytes 8 p.sci else [])

/-- The 96-bit IV (R84). -/
def gcmIv (xpn : Bool) (sci ssci salt pn : Nat) : List Octet :=
  if xpn then beBytes 12 ((ssci * 2 ^ 64 + pn) ^^^ salt) else beBytes 8 sci ++ beBytes 4 (pn % 2 ^ 32)

/-- The line-side frame, DA to ICV (R82, R84). `data` is the host frame from DA without its FCS. -/
def protect (p : Prot) (key : List Octet) (an pn : Nat) (data : List Octet) : List Octet :=
  let hdr := data.take 12
  let sd := data.drop 12
  let tag := secTag p an pn sd.length
  let iv := gcmIv p.xpn p.sci p.ssci p.salt pn
  if p.conf then
    let r := gcmSeal key iv (hdr ++ tag ++ sd.take p.off) (sd.drop p.off)
    hdr ++ tag ++ sd.take p.off ++ r.1 ++ r.2
  else
    let r := gcmSeal key iv (hdr ++ tag ++ sd) []
    hdr ++ tag ++ sd ++ r.2

/-- The fields of a received SecTAG (R94). -/
structure Tag where
  v : Bool
  es : Bool
  sc : Bool
  scb : Bool
  e : Bool
  c : Bool
  an : Nat
  sl : Nat
  pn : Nat
  sci : Nat
  len : Nat
  deriving DecidableEq, Repr

/-- Read the SecTAG of a frame whose octets 12 and 13 are 0x88E5. -/
def readTag (d : List Octet) : Tag :=
  let t := (octetAt d 14).toNat
  let sc := bit t 5
  ⟨bit t 7, bit t 6, sc, bit t 4, bit t 3, bit t 2, t % 4, (octetAt d 15).toNat % 64, beNat (slice d 16 4),
   beNat (slice d 20 8), if sc then 16 else 8⟩

/-- Secure data of a received frame from DA to ICV. -/
def secureData (d : List Octet) (t : Tag) : List Octet := slice d (12 + t.len) (d.length - 12 - t.len - 16)

/-- Decrypt a received frame under a key (R109): the secure data in clear and whether the ICV verifies. -/
def unprotect (xpn : Bool) (off sci ssci salt : Nat) (key : List Octet) (pn : Nat) (d : List Octet) : List Octet × Bool :=
  let t := readTag d
  let sd := secureData d t
  let icv := d.drop (d.length - 16)
  let iv := gcmIv xpn sci ssci salt pn
  let hdr := d.take (12 + t.len)
  if t.c then
    let r := gcmOpen key iv (hdr ++ sd.take off) (sd.drop off) icv
    (sd.take off ++ r.1, r.2)
  else (sd, (gcmOpen key iv (hdr ++ sd) [] icv).2)

/-- LOW of a receive SA under a replay window (R107). -/
def State.rxLow (s : State) (window a : Nat) : Nat :=
  max (s.get SAT_RX.NEXT_PN a - window) (s.get SAT_RX.FLOOR a)

/-- Recover the PN of a frame whose SecTAG carries f (R107). -/
def recoverPn (xpn : Bool) (f low : Nat) : Nat :=
  if xpn then (if low % 2 ^ 32 ≤ f then low / 2 ^ 32 * 2 ^ 32 + f else (low / 2 ^ 32 + 1) * 2 ^ 32 + f) else f

/-- The PN ceiling of a suite (R76, R111). -/
def pnCeiling (suite : Nat) : Nat := if suite < 2 then 0xFFFFFFFF else 0xFFFFFFFFFFFFFFFF

end Sys2Proof.Machine
end

