-- ==== Sys2Proof/Machine/Rng.lean ====
section
/-!
DEFINITION. Machine/Rng.lean: the random number source (R212 to R223): seeds, the DRBG and the order in which it is
served, health-test failures and re-runs, software requests.
-/
namespace Sys2Proof.Machine

/-- KST_DEVID (R161). -/
def devId : List Octet := beBytes 16 Config.deviceId.toNat

/-- RNG_STATUS.STATE values (R218). -/
def rngNOTREADY : Nat := 0
def rngREADY : Nat := 1
def rngRERUN : Nat := 2
def rngFAILED : Nat := 3

/-! Samples and their tests (R212, R213, R223). An octet holds the samples of one edge, channel j in bit j. -/

/-- The samples of edge q under the test pattern (R223): channel j starts at bit 4j and rotates one bit a sample. -/
def patternEdge (pat q : Nat) : Octet := BitVec.ofNat 8 (bitsOf 8 (fun j => bit pat ((4 * j + q) % 32)))

/-- The repetition-count test of one channel (R213): the sample at which 41 in a row are the same. -/
def rctFail (run : Nat) (last : Bool) (at_ : Nat) : List Bool → Option Nat
  | [] => none
  | b :: l =>
    let n := if run ≠ 0 ∧ b = last then run + 1 else 1
    if 41 ≤ n then some at_ else rctFail n b (at_ + 1) l

/-- The adaptive-proportion test of one channel (R213): the sample at which the first of a window of 1,024 has occurred 795
times in it, the first counted (SP 800-90B, log entry 78). -/
def aptFail (pos count : Nat) (first : Bool) (at_ : Nat) : List Bool → Option Nat
  | [] => none
  | b :: l =>
    if pos = 0 then aptFail 1 1 b (at_ + 1) l
    else
      let n := if b = first then count + 1 else count
      if 795 ≤ n then some at_ else aptFail ((pos + 1) % 1024) n first (at_ + 1) l

/-- The failure that a run of the tests over `edges` finds first (R218): by sample, then channel, repetition count before
adaptive proportion. -/
def testRun (edges : List Octet) : Option HealthFail :=
  let found := (upto 8).flatMap (fun j =>
    let l := edges.map (fun e => e.getLsbD j)
    ((rctFail 0 false 0 l).toList.map (fun e => 16 * e + 2 * j)) ++ (aptFail 0 0 false 0 l).toList.map (fun e => 16 * e + 2 * j + 1))
  found.min?.map (fun k => ⟨k % 2 == 1, ⟨k / 2 % 8, Nat.mod_lt _ (by decide)⟩⟩)

/-- What the health tests find: of the noise source only the outside knows (log entry 4); under the test pattern they run on
it, 1,024 samples of every channel from bit 0 on (R223, log entry 78). -/
def State.testOutcome (s : State) (seen : Option HealthFail) : Option HealthFail :=
  if s.on RNG_STATUS.PATTERN 0 then testRun ((upto 1024).map (patternEdge (s.get RNG_TEST_PAT.V 0))) else seen

/-- The samples that the next seed is taken over: 128 edges of 8 channels (R214), of the noise source or the test pattern. -/
def State.seedEdges (s : State) : List Octet :=
  (upto 128).map (fun i =>
    if s.on RNG_STATUS.PATTERN 0 then patternEdge (s.get RNG_TEST_PAT.V 0) i else Config.noise (128 * s.ch.seeds + i))

/-- AES-256 CMAC under the all-zero key, over 512 samples (R214). -/
def conditioned (l : List Octet) : List Octet := cmac (List.replicate 32 0) l

/-- The next seed of the conditioned source (R214): two outputs. -/
def State.seed (s : State) : List Octet × State :=
  (conditioned (s.seedEdges.take 64) ++ conditioned (s.seedEdges.drop 64), { s with ch.seeds := s.ch.seeds + 1 })

/-- Write words from octets into a word array, the first at index `at_`; octet 0 lies in bits 7:0 (R219, R190). -/
def State.putWords (s : State) (f : Fld) (at_ n : Nat) (o : List Octet) : State :=
  s.each (upto n) (fun i s => s.set f (at_ + i) (leNat (slice o (4 * i) 4)))

/-- The octets of a word array. -/
def State.wordsOf (s : State) (f : Fld) (at_ n : Nat) : List Octet :=
  (upto n).flatMap (fun i => leBytes 4 (s.get f (at_ + i)))

/-- A software request ends DONE (3) or ENTROPY_FAIL (4), with source 0x3E3 + p (R219, R224). -/
def State.rngEnd (s : State) (p st : Nat) (o : List Octet) : State :=
  let s := { s with ch.rngQueue := s.ch.rngQueue.filter (fun x => x.1 != p) }
  ((s.putWords RNG_OUT.V (64 * p) 64 o).set RNG_REQ_STATUS.STATE p st).pend (0x3E3 + p)

/-- A generate call on the DRBG while it is READY (R215). -/
def State.generate (s : State) (n : Nat) : Option (List Octet × State) :=
  match s.ch.drbg with
  | some d =>
    if s.get RNG_STATUS.STATE 0 = rngREADY then
      let r := drbgGenerate d n
      some (r.1, { s with ch.drbg := some r.2 })
    else none
  | none => none

/-- Serve the request of port p, if it is the first that waits (R216). -/
def State.rngServe (s : State) (p : Nat) : State :=
  match s.ch.rngQueue with
  | x :: _ =>
    if x.1 = p then
      match s.generate x.2 with
      | some (o, s) => s.rngEnd p 3 o
      | none => s
    else s
  | [] => s

/-- An internal draw of n octets (R216): none while the DRBG is not READY. A software request that 16 draws have
overtaken is served first; every other one that waits reads DEFERRED and counts. -/
def State.draw (s : State) (n : Nat) : Option (List Octet × State) :=
  let s := s.each (s.ch.rngQueue.filter (fun x => 16 ≤ s.get RNG_REQ_STATUS.DEFERRALS x.1)) (fun x s => s.rngServe x.1)
  match s.generate n with
  | some (o, s) =>
    some (o, s.each s.ch.rngQueue (fun x s =>
      (s.set RNG_REQ_STATUS.STATE x.1 2).bump RNG_REQ_STATUS.DEFERRALS x.1 1))
  | none => none

/-- Instantiate the DRBG afresh (R215, R220, R222): the context key and boot identity are drawn where absent (R205). -/
def State.instantiate (s : State) : State :=
  let r := s.seed
  let s : State := { r.2 with ch.drbg := some (drbgInstantiate r.1 (devId ++ r.2.wordsOf RNG_PERS.V 0 4)) }
  let s : State := ((s.set RNG_STATUS.STATE 0 rngREADY).set RNG_STATUS.RERUNS 0 0).pend 0x3E1
  if s.ch.ctxKey.isEmpty then
    match s.draw 40 with
    | some (k, s) => { s with ch.ctxKey := k }.set CHS_ENGINE.CTX_KEY 0 1
    | none => s
  else s

/-- Reseed from a fresh seed (R215). -/
def State.reseed (s : State) : State :=
  match s.ch.drbg with
  | some d =>
    let r := s.seed
    { r.2 with ch.drbg := some (drbgReseed d r.1) }.count RNG_RESEEDS.V 0 1
  | none => s

/-- Every failed test is counted and noted as the last (R218, R222). -/
def State.testFailed (s : State) (f : HealthFail) : State :=
  let s := s.count (if f.adaptive then RNG_APT_FAILS.V else RNG_RCT_FAILS.V) 0 1
  (s.set RNG_STATUS.LAST_TEST 0 (b2n f.adaptive)).set RNG_STATUS.LAST_CHAN 0 f.chan.val

/-- The event-log entry of a failure (R377). -/
def State.rngLog (s : State) (f : HealthFail) (last : Nat) (src : Nat) : State :=
  s.logEvent 0x0040 src (leBytes 1 (b2n f.adaptive) ++ leBytes 1 f.chan.val ++ leBytes 1 last)

/-- A first failure (R221): requests end ENTROPY_FAIL, the DRBG is uninstantiated, re-runs follow. -/
def State.healthFail (s : State) (f : HealthFail) : State :=
  let s := s.testFailed f
  let s := s.each s.ch.rngQueue (fun x s => s.rngEnd x.1 4 [])
  let s := { s with ch.drbg := none }
  ((s.rngLog f 0 0x3E0).pend 0x3E0).set RNG_STATUS.STATE 0 rngRERUN

/-- A re-run ends (R222). -/
def State.rerun (s : State) (fail : Option HealthFail) : State :=
  if s.get RNG_STATUS.STATE 0 ≠ rngRERUN then s
  else match s.testOutcome fail with
    | none => s.instantiate
    | some f =>
      let s := (s.testFailed f).bump RNG_STATUS.RERUNS 0 1
      if s.get RNG_STATUS.RERUNS 0 < 3 then s
      else
        let s := ((s.set RNG_STATUS.STATE 0 rngFAILED).rngLog f 1 0x3E2).pend 0x3E2
        if s.mode = mBOOT then s.set GLB_BOOT_STATUS.CODE 0 4 else s

/-- A write of RNG_REQ (R219, R221). -/
def State.rngRequest (s : State) (p len : Nat) : State :=
  if len < 4 ∨ 256 < len ∨ len % 4 ≠ 0 then s.reject (.port p) 1 false reg_RNG_REQ.base
  else if s.get RNG_REQ_STATUS.STATE p = 1 ∨ s.get RNG_REQ_STATUS.STATE p = 2 then s
  else
    let s := (s.putWords RNG_OUT.V (64 * p) 64 []).set RNG_REQ_STATUS.DEFERRALS p 0
    let st := s.get RNG_STATUS.STATE 0
    if st = rngRERUN ∨ st = rngFAILED then s.rngEnd p 4 []
    else { s.set RNG_REQ_STATUS.STATE p 1 with ch.rngQueue := s.ch.rngQueue ++ [(p, len)] }

/-- A write of RNG_CTL (R217, R223). -/
def State.rngCtl (s : State) (w : Writer) (v : Nat) : State :=
  let off := reg_RNG_CTL.base
  let ready (s : State) : Bool := s.get RNG_STATUS.STATE 0 == rngREADY
  let s := if bit v 2 = false then (s.set RNG_CTL.TEST_SRC 0 0).set RNG_STATUS.PATTERN 0 0
    else if s.lc.fuses.lcs = 1 then (s.set RNG_CTL.TEST_SRC 0 1).set RNG_STATUS.PATTERN 0 1
    else s.reject w 3 false off
  let s := if bit v 0 then (if ready s then s.reseed else s.reject w 3 false off) else s
  if bit v 1 then (if ready s then { s with ch.drbg := none }.instantiate else s.reject w 3 false off) else s

end Sys2Proof.Machine
end

