-- ==== Sys2Proof/Machine/Transition.lean ====
section
/-!
DEFINITION. Machine/Transition.lean: mode requests, their guards and LOCKDOWN triggers (R43 to R48, R471), and what the
guards read: carrier configurations (R266, R269), the module check (R331), the deep buffer.
-/
namespace Sys2Proof.Machine

/-- Rate of a line port in Gb/s (R320). -/
def State.lpRate (s : State) (lp : Nat) : Nat :=
  match s.get RGN_HPORT.SPEED (lpIdx lp) with
  | 0 => 400
  | 1 => 800
  | _ => 1600

/-- Mean grid spacing in ps (R148). -/
def State.lpGrid (s : State) (lp : Nat) : Nat := 64000 / s.lpRate lp

/-- GAP_OCT of a line port (R269), 0 where it would be negative. -/
def State.gapOct (s : State) (lp : Nat) : Nat :=
  (s.get CAR_TX.PERIOD_PS lp - s.lpGrid lp) * s.lpRate lp / 8000 - (s.get CAR_TX.CSIZE lp + 68)

/-- CSIZE is not reserved (R265). -/
def csizeOk (c : Nat) : Bool := 512 ≤ c && c ≤ 8192 && c % 16 == 0

/-- The carrier configuration of a line port is valid (R266). -/
def State.carValid (s : State) (lp : Nat) : Bool :=
  let c := s.get CAR_TX.SC lp
  s.on SCT_TX.VALID c && s.get SCT_TX.LPORT c == lp && 2 ≤ s.get SCT_TX.SUITE c && s.on SCT_TX.CONF c &&
  s.get SCT_TX.OFFSET c == 0 && s.on SCT_TX.SC_BIT c && csizeOk (s.get CAR_TX.CSIZE lp) &&
  s.get CAR_TX.PERIOD_PS lp ≤ 1000000000 && 84 ≤ s.gapOct lp

/-- A line port is guarded (R264). -/
def State.guarded (s : State) (lp : Nat) : Bool := s.on CAR_TX.EN lp && s.trafficMode == mGUARDED

/-- A valid allow-list entry for the port holds the hash of the module read in the slot (R331). -/
def State.allowListed (s : State) (lp : Nat) : Bool :=
  s.on RGN_LMOD.VALID lp && (upto 64).any (fun i => s.on OFC_MOD_ALLOW.VALID i &&
    bit (s.get OFC_MOD_ALLOW.PORTS i) lp && s.get OFC_MOD_ALLOW.HASH i == s.get RGN_LMOD.HASH lp)

/-- Data pages of the deep buffer (R298). -/
def State.dataPages (s : State) : Nat := 8 * s.get VNR_LAYOUT.DATA_P8 0

/-- The deep buffer is available (guard 8): trained, enabled and keyed. -/
def State.deepReady (s : State) : Bool :=
  s.on VNR_CTL.EN 0 && s.on VNR_STATUS.KEYS 0 && s.vn.capPages != 0 && s.dataPages != 0

/-- Number of the first guard that fails on the way to SECURE or GUARDED, or 0 (R45). -/
def State.failedGuard (s : State) (fromStandby toGuarded : Bool) : Nat :=
  if fromStandby && s.get RNG_STATUS.STATE 0 != 1 then 5
  else if fromStandby && (s.ones QUE_DQ.SPILL_EN).any (fun q => q < 8192) && !s.on VNR_STATUS.KEYS 0 then 6
  else if toGuarded && (upto 16).any (fun k => s.on CAR_TX.EN k && !(s.carValid k && s.allowListed k)) then 7
  else if toGuarded && !s.deepReady then 8
  else 0

/-- Outcome of a kept request (R43). -/
def State.reqResult (s : State) (src res guard : Nat) : State :=
  ((s.set GLB_MODE_REQ.RESULT 0 res).set GLB_MODE_REQ.SRC 0 src).set GLB_MODE_REQ.GUARD 0 guard

/-- Overlays of a target mode entered by request (R45). -/
def reqOverlays (cur target : Nat) : List Nat :=
  if target = mGUARDED then (if cur = mSECURE then [4] else [3, 4]) else [target]

/-- Evaluate a request with no transition in progress (R45, R471). -/
def State.evalReq (s : State) (r : ModeReq) : State :=
  let m := s.mode
  if r.target = m ∨ (m = mDEGRADED ∧ r.target = s.get GLB_MODE.BASE 0) then s.reqResult r.src 2 0
  else
    let ok := (m = mSTANDBY ∧ (r.target = 3 ∨ r.target = 4)) ∨ (m = mSECURE ∧ (r.target = 4 ∨ r.target = 2)) ∨
      (m = mGUARDED ∧ (r.target = 3 ∨ r.target = 2)) ∨ (m = mDEGRADED ∧ r.target = 2)
    if ok then
      let g := s.failedGuard (m = mSTANDBY) (r.target = mGUARDED)
      if g ≠ 0 then s.reqResult r.src 3 g
      else (s.reqResult r.src 1 0).begin ⟨r.target, r.target, r.cause, reqOverlays m r.target⟩
    else s.reqResult r.src 4 0

/-- Places of the requesters in the priority of R47: Gauge entries by index, the image's request, MP0, MP1. -/
def prioGauge (i : Nat) : Nat := i
def prioAuto : Nat := 1024
def prioPort (p : Nat) : Nat := 1025 + p

/-- Take back the request kept earlier in this cycle (R47). -/
def State.reqUndo (s : State) (c : ReqCycle) : State :=
  let s := ((s.set GLB_MODE_REQ.RESULT 0 c.result).set GLB_MODE_REQ.SRC 0 c.src).set GLB_MODE_REQ.GUARD 0 c.guard
  if s.md.cycBegan then
    { s.set GLB_MODE.IN_TRANSITION 0 0 with md.trans := none, md.pendReq := c.pend, md.cycBegan := false }
  else { s with md.pendReq := c.pend }

/-- A request that is kept (R43): held as the one pending request while a transition is in progress. -/
def State.reqKeep (s : State) (r : ModeReq) (prio : Nat) : State :=
  let c : ReqCycle := ⟨s.kclk, prio, r, s.get GLB_MODE_REQ.RESULT 0, s.get GLB_MODE_REQ.SRC 0,
    s.get GLB_MODE_REQ.GUARD 0, s.md.pendReq⟩
  if s.md.trans = none then
    let t := s.evalReq r
    { t with md.cyc := some c, md.cycBegan := t.md.trans.isSome }
  else { s.reqResult r.src 1 0 with md.pendReq := some r, md.cyc := some c, md.cycBegan := false }

/-- A mode request (R43, R47): of several in one KCLK cycle the first in the priority is kept. One that a LOCKDOWN entry of
the same cycle overtakes reads SUPERSEDED. -/
def State.modeRequest (s : State) (target src cause prio : Nat) : State :=
  let r : ModeReq := ⟨target, src, cause⟩
  match s.md.cyc with
  | some c =>
    if c.cycle = s.kclk ∧ c.prio < prio then s
    else if c.cycle = s.kclk ∧ c.req.target = mLOCKDOWN then
      { s.reqResult src 5 0 with md.cyc := some { c with prio := prio } }
    else if c.cycle = s.kclk ∧ prio < c.prio then (s.reqUndo c).reqKeep r prio
    else s.reqKeep r prio
  | none => s.reqKeep r prio

/-- Priority of the request kept in this KCLK cycle; beyond all where there is none. -/
def State.cyclePrio (s : State) : Nat :=
  match s.md.cyc with
  | some c => if c.cycle = s.kclk then c.prio else prioPort 2
  | none => prioPort 2

/-- A LOCKDOWN entry starts: the requests of this cycle that come after it are overtaken by it (R47). -/
def State.lockMark (s : State) (prio : Nat) : State :=
  { s with md.cyc := some ⟨s.kclk, prio, ⟨mLOCKDOWN, 0, 0⟩, 0, 0, 0, none⟩ }

/-- A LOCKDOWN trigger (R45, R47, R48): held during BOOT, kept until the transition in progress is complete, nothing in
LOCKDOWN or DORMANT. A request that waits is overtaken. -/
def State.lockdown (s : State) (cause : Nat) : State :=
  if s.mode = mBOOT then { s with md.heldLock := some (s.md.heldLock.getD cause) }
  else if s.mode = mLOCKDOWN ∨ s.mode = 0 then s
  else
    let prio := s.cyclePrio
    let s := s.yieldReq
    let s := if s.md.pendReq = none then s
      else { s.set GLB_MODE_REQ.RESULT 0 5 with md.pendReq := none }
    match s.md.trans with
    | none => (s.lockMark prio).begin ⟨mLOCKDOWN, mLOCKDOWN, cause, [6]⟩
    | some t => if t.target = mLOCKDOWN then s else { s with md.pendLock := some (s.md.pendLock.getD cause) }

/-- The start-up failures that enter LOCKDOWN from BOOT (R45, GLB_MODE.CAUSE 0x0C). -/
def State.bootLock (s : State) (code : Nat) : State :=
  (s.set GLB_BOOT_STATUS.CODE 0 code).begin ⟨mLOCKDOWN, mLOCKDOWN, 0x0C, [6]⟩

end Sys2Proof.Machine
end

