-- ==== Sys2Proof/Machine/Deep.lean ====
section
/-!
DEFINITION. Machine/Deep.lean: the deep buffer and Veneer (R297 to R311): keys, lines and tags, page allocation, verified
reads, partial writes, the rekey pass, march tests and sparing.
-/
namespace Sys2Proof.Machine

/-- Epoch that page p is under (R305): below the boundary the newest, at or above it the older. -/
def State.pageKeys (s : State) (p : Nat) : Option VnrKeys :=
  match s.vn.vnrKeys with
  | [] => none
  | [k] => some k
  | new :: old :: _ => some (if p < s.get VNR_BOUNDARY.V 0 then new else old)

/-- Store a line's 64 octets of plaintext (R301, R302). -/
def State.lineWrite (s : State) (p l : Nat) (plain : List Octet) : State :=
  match s.pageKeys p with
  | some k =>
    let c := xtsLineEnc k.k1 k.k2 p l plain
    let t := lineTag k.kt k.kh p l false (Tab.get Page.none s.vn.pages p).count k.epoch c
    { s with vn.lines := s.vn.lines.set Line.none (64 * p + l) ⟨c, t⟩ }
  | none => s

/-- Write a line poisoned (R302): the tag of 64 zero octets with POISON 1. -/
def State.linePoison (s : State) (p l : Nat) : State :=
  match s.pageKeys p with
  | some k =>
    let z := List.replicate 64 (0 : Octet)
    let t := lineTag k.kt k.kh p l true (Tab.get Page.none s.vn.pages p).count k.epoch z
    { s with vn.lines := s.vn.lines.set Line.none (64 * p + l) ⟨z, t⟩ }
  | none => s

/-- What one raw read of a line is found to be: 1 clean, 2 poisoned, 0 neither (R306). -/
def State.lineCheck (s : State) (p l : Nat) (r : Line) : Nat :=
  match s.pageKeys p with
  | some k =>
    let n := (Tab.get Page.none s.vn.pages p).count
    if lineTag k.kt k.kh p l false n k.epoch r.data = r.tag then 1
    else if lineTag k.kt k.kh p l true n k.epoch r.data = r.tag then 2 else 0
  | none => 0

/-- Plaintext of a line that verifies. -/
def State.linePlain (s : State) (p l : Nat) (r : Line) : List Octet :=
  match s.pageKeys p with
  | some k => xtsLineDec k.k1 k.k2 p l r.data
  | none => []

/-- An integrity failure (R306 row 4, R307): counted, the response of FAIL_MODE, a march test begun. -/
def State.integrityFail (s : State) (p l : Nat) : State :=
  let s := (s.count VNR_CNT.INTEGRITY_FAIL 0 1).pend 0x380
  let s := { s with vn.marchErr := s.vn.marchErr ++ [(p, l)] }
  if s.on VNR_CTL.FAIL_MODE 0 then
    (s.logEvent 0x0042 noSrc (leBytes 4 p ++ leBytes 1 l)).lockdown 0x08
  else { s with vn.alarms := s.vn.alarms + 1 }

/-- Read and verify a line (R306). `raw` is what the memory returned for the first and the second read; a read not listed
returns the stored line. `partial_` says which counters a refusal uses. -/
def State.lineRead (s : State) (p l : Nat) (raw : List RawLine) (partial_ : Bool) : Option (List Octet) × State :=
  let stored := Tab.get Line.none s.vn.lines (64 * p + l)
  let nth (i : Nat) : Line := match raw[i]? with
    | some r => ⟨r.data, r.tag⟩
    | none => stored
  let a := nth 0
  match s.lineCheck p l a with
  | 1 => (some (s.linePlain p l a), s)
  | 2 => (none, if partial_ then (s.count VNR_CNT.PARTIAL_REFUSED 0 1).pend 0x382 else s.count VNR_CNT.POISON_READ 0 1)
  | _ =>
    let b := nth 1
    if s.lineCheck p l b = 1 then
      (some (s.linePlain p l b), (s.count VNR_CNT.TRANSIENT_READ 0 1).pend 0x381)
    else
      let s := s.integrityFail p l
      (none, if partial_ then (s.count VNR_CNT.PARTIAL_REFUSED 0 1).pend 0x382 else s)

/-! Pages (R304). -/

/-- Spare frames in the spare area (R297). -/
def spareFrames : Nat := 65536

/-- The channel that holds spare frame n (R297): physical page mod 32. -/
def State.spareChan (s : State) (n : Nat) : Nat := (s.vn.capPages - spareFrames + n) % 32

/-- The channel that holds logical page p, a data page or, from D on, a tag page (R297). -/
def State.chanOf (s : State) (p : Nat) : Nat :=
  match Tab.get 0 s.vn.remap p with
  | 0 => p % 32
  | n + 1 => s.spareChan n

/-- Accesses to data page p or to its tags are held: a channel retrains (R341). -/
def State.pageTrains (s : State) (p : Nat) : Bool :=
  s.get MEM_CH.STATE (s.chanOf p) == 3 || s.get MEM_CH.STATE (s.chanOf (s.dataPages + p / 8)) == 3

/-- The page that a march test or a sparing copy locks (R306): one page at a time, in the order of the failures. -/
def State.lockedPage (s : State) : Option Nat :=
  match s.vn.spareDue, s.vn.marchErr with
  | x :: _, _ => some x.1
  | [], x :: _ => some x.1
  | [], [] => none

/-- Accesses to page p are held (R306, R341). -/
def State.pageHeld (s : State) (p : Nat) : Bool := s.pageTrains p || s.lockedPage == some p

/-- Some unit of a list lies in a page whose accesses are held. -/
def State.unitsHeld (s : State) (units : List Nat) : Bool := units.any (fun u => s.pageHeld (u / 16))

/-- Pages on the free list. -/
def State.freePages (s : State) : Nat :=
  (s.dataPages - s.vn.deepFresh) -
    (s.vn.pages.filter (fun x => s.vn.deepFresh ≤ x.1 && (x.2.use == .retired || x.2.use == .exhausted))).length +
    s.vn.deepFreed.length

/-- Free 256 B units: those of free pages and what is left of the open page. -/
def State.freeUnits (s : State) : Nat :=
  16 * s.freePages + (match s.vn.openPage with
    | some (_, u) => 16 - u
    | none => 0)

/-- First fresh page at or after the fresh mark that is free; structural on the fuel. -/
def State.nextFresh (s : State) : Nat → Nat → Option Nat
  | 0, _ => none
  | n + 1, p => if p < s.dataPages then
      (if (Tab.get Page.none s.vn.pages p).use = .free then some p else s.nextFresh n (p + 1)) else none

/-- Page p starts a new allocation: its count rises, and no line of it is written yet (R303, R304). -/
def State.pageTake (s : State) (p : Nat) : State :=
  let g := Tab.get Page.none s.vn.pages p
  { s with vn.pages := s.vn.pages.set Page.none p ⟨g.count + 1, .live, 0⟩,
           vn.lines := s.vn.lines.filter (fun x => x.1 / 64 != p) }

/-- Allocate the head of the free list (R304); a page of a channel that retrains goes to its tail (R341). Structural on
the fuel. -/
def State.allocGo : Nat → State → Option Nat × State
  | 0, s => (none, s)
  | n + 1, s =>
    match s.nextFresh (s.vn.pages.length + 1) s.vn.deepFresh with
    | some p =>
      let s := { s with vn.deepFresh := p + 1 }
      if s.pageTrains p then State.allocGo n { s with vn.deepFreed := s.vn.deepFreed ++ [p] } else (some p, s.pageTake p)
    | none =>
      match s.vn.deepFreed with
      | p :: r =>
        if s.pageTrains p then State.allocGo n { s with vn.deepFreed := r ++ [p] }
        else (some p, { s with vn.deepFreed := r }.pageTake p)
      | [] => (none, s)

/-- Allocate a page. A run of held fresh pages is shorter than 256 unless every channel retrains. -/
def State.allocPage (s : State) : Option Nat × State := State.allocGo (256 + s.vn.deepFreed.length) s

/-- DEEP_FLOOR follows the usable data pages (R44, R298, R309). -/
def State.floorCheck (s : State) : State :=
  if s.dataPages - s.get VNR_PAGE_RETIRED.V 0 < 8 * s.get VNR_LAYOUT.FLOOR_P8 0 then
    if s.on VNR_STATUS.BELOW_FLOOR 0 then s
    else ((s.set VNR_STATUS.BELOW_FLOOR 0 1).set GLB_DEGRADED_CAUSE.DEEP_FLOOR 0 1).pend 0x386
  else if s.on VNR_STATUS.BELOW_FLOOR 0 then
    (s.set VNR_STATUS.BELOW_FLOOR 0 0).set GLB_DEGRADED_CAUSE.DEEP_FLOOR 0 0
  else s

/-- Units are placed in page p at present. -/
def State.isOpen (s : State) (p : Nat) : Bool := s.vn.openPage.any (fun x => x.1 == p)

/-- No more units are placed in page p. -/
def State.closePage (s : State) (p : Nat) : State := if s.isOpen p then { s with vn.openPage := none } else s

/-- A page leaves use (R309). -/
def State.pageRetired (s : State) (p : Nat) : State :=
  let g := Tab.get Page.none s.vn.pages p
  let s := { s with vn.pages := s.vn.pages.set Page.none p { g with use := .retired, live := 0 },
                    vn.deepFreed := s.vn.deepFreed.filter (· != p) }
  s

/-- A data page is to be retired without replacement (R309): at once, or when it is freed. -/
def State.pageRetire (s : State) (p : Nat) : State :=
  let g := Tab.get Page.none s.vn.pages p
  if g.use = .retired ∨ g.use = .retiring then s
  else
    let s := ((s.count VNR_CNT.NOSPARE_RETIRE 0 1).bump VNR_PAGE_RETIRED.V 0 1).pend 0x385
    let s := s.closePage p
    let s := if g.use = .live ∧ g.live ≠ 0 then
        { s with vn.pages := s.vn.pages.set Page.none p { g with use := .retiring } }
      else if g.use = .exhausted then (s.set VNR_PAGE_EXH.V 0 (s.get VNR_PAGE_EXH.V 0 - 1)).pageRetired p
      else s.pageRetired p
    s.floorCheck

/-- A page whose last unit has been read back is freed (R304, R309). -/
def State.pageFree (s : State) (p : Nat) : State :=
  let g := Tab.get Page.none s.vn.pages p
  if g.use = .retiring then s.pageRetired p
  else if g.count < 65535 then
    { s with vn.pages := s.vn.pages.set Page.none p { g with use := .free, live := 0 },
             vn.deepFreed := s.vn.deepFreed ++ [p],
             vn.deepFresh := s.vn.deepFresh }
  else
    ({ s with vn.pages := s.vn.pages.set Page.none p { g with use := .exhausted, live := 0 } }.bump VNR_PAGE_EXH.V 0 1).pend
      0x389

/-- One 256 B unit of a page no longer holds a frame: a page that holds none any more is freed (R304). -/
def State.unitFree (s : State) (u : Nat) : State :=
  let p := u / 16
  let g := Tab.get Page.none s.vn.pages p
  let s := { s with vn.pages := s.vn.pages.set Page.none p { g with live := g.live - 1 } }
  if g.live ≤ 1 then (s.closePage p).pageFree p else s

/-- Take one unit: from the open page, else from a newly allocated one. A page filled is closed. -/
def State.unitTake (s : State) : Option Nat × State :=
  let go (s : State) (p u : Nat) : Option Nat × State :=
    let g := Tab.get Page.none s.vn.pages p
    (some (16 * p + u), { s with
      vn.pages := s.vn.pages.set Page.none p { g with live := g.live + 1 },
      vn.openPage := if u = 15 then none else some (p, u + 1) })
  match s.vn.openPage with
  | some (p, u) => go s p u
  | none => match s.allocPage with
    | (some p, s) => go s p 0
    | (none, s) => (none, s)

/-- Write octets into n units of the deep buffer, line by line; answers the units (R255, R301, R303). -/
def State.deepStore (s : State) (data : List Octet) (n : Nat) : List Nat × State :=
  (upto n).foldl (fun (a : List Nat × State) i =>
    match a.2.unitTake with
    | (some u, s) =>
      (a.1 ++ [u], s.each (upto 4) (fun j s => s.lineWrite (u / 16) (u % 16 * 4 + j) (padTo 64 (slice data (256 * i + 64 * j) 64))))
    | (none, s) => (a.1, s)) ([], s)

/-- Read units back, verifying each line; the octets, or none where a line failed (R306). The units are freed. -/
def State.deepFetch (s : State) (units : List Nat) : Option (List Octet) × State :=
  let r := units.foldl (fun (a : Option (List Octet) × State) u =>
    (upto 4).foldl (fun (a : Option (List Octet) × State) j =>
      match a.1 with
      | none => a
      | some d =>
        match a.2.lineRead (u / 16) (u % 16 * 4 + j) [] false with
        | (some x, s) => (some (d ++ x), s)
        | (none, s) => (none, s)) a) (some [], s)
  (r.1, r.2.each units (fun u s => s.unitFree u))

/-- Every Veneer key is zeroised (R299, R300): everything in the deep buffer is unreadable. -/
def State.vnrZero (s : State) : State :=
  (({ s with vn.vnrKeys := [] }.set VNR_STATUS.KEYS 0 0).set VNR_STATUS.TWO_EPOCHS 0 0).set
    VNR_STATUS.STATE 0 0

/-- Draw the keys of an epoch: one 112-octet request (R300). -/
def State.vnrDraw (s : State) (e : Nat) : Option (VnrKeys × State) :=
  match s.draw 112 with
  | some (o, s) => some (⟨e, slice o 0 32, slice o 32 32, slice o 64 32, slice o 96 16⟩, s)
  | none => none

/-- The keys of epoch 0 are drawn (R299, start-up step 8, or EN written in STANDBY). -/
def State.vnrStart (s : State) : State :=
  match s.vnrDraw 0 with
  | some (k, s) =>
    ((({ s with vn.vnrKeys := [k], vn.passAt := s.mono }.set VNR_STATUS.KEYS 0 1).set VNR_EPOCH.V 0 0).set VNR_BOUNDARY.V 0 0).set
      VNR_STATUS.STATE 0 1
  | none => (s.set VNR_STATUS.STATE 0 4).pend 0x388

/-- A write of EN (R299). -/
def State.vnrEnable (s : State) (w : Writer) (en : Nat) : State :=
  if s.get VNR_CTL.EN 0 = en then s
  else if s.mode = mBOOT ∧ w = .jig then s.set VNR_CTL.EN 0 en
  else if s.mode ≠ mSTANDBY then s.reject w 3 false 0xA0000
  else if en = 1 then (s.set VNR_CTL.EN 0 1).vnrStart
  else (s.set VNR_CTL.EN 0 0).vnrZero

/-- A rekey pass begins PASS_MIN minutes after the last one (R305): epoch keys drawn, boundary 0; stalled while the DRBG
is unavailable. -/
def State.passStart (s : State) : State :=
  if s.on VNR_CTL.EN 0 = false ∨ s.on VNR_STATUS.KEYS 0 = false ∨ s.on VNR_STATUS.TWO_EPOCHS 0 ∨
      s.mono < s.vn.passAt + s.get VNR_CTL.PASS_MIN 0 * 60 * sec then s
  else
    let e := s.get VNR_EPOCH.V 0 + 1
    match s.vnrDraw e with
    | some (k, s) =>
      ((({ s with vn.vnrKeys := k :: s.vn.vnrKeys.take 1, vn.passAt := s.mono }.set VNR_EPOCH.V 0 e).set VNR_BOUNDARY.V 0 0).set
        VNR_STATUS.TWO_EPOCHS 0 1).set VNR_STATUS.STATE 0 3
    | none => if s.get VNR_STATUS.STATE 0 = 4 then s else (s.set VNR_STATUS.STATE 0 4).pend 0x388

/-- The pass completes (R305). -/
def State.passDone (s : State) : State :=
  if s.dataPages ≤ s.get VNR_BOUNDARY.V 0 then
    (((({ s with vn.vnrKeys := s.vn.vnrKeys.take 1 }.set VNR_STATUS.TWO_EPOCHS 0 0).set VNR_STATUS.STATE 0 1).count
      VNR_CNT.PASSES 0 1)).pend 0x387
  else s

/-- Re-encrypt the lines of a live page from the older epoch to the newer, count 0 (R305). A line that does not verify is
an integrity failure and is left poisoned; one already poisoned stays so. -/
def State.pageRekey (s : State) (p : Nat) : State :=
  let old := (upto 64).filter (fun l => Tab.get Line.none s.vn.lines (64 * p + l) ≠ Line.none)
  let r := old.foldl (fun (a : List (Nat × Option (List Octet)) × State) l =>
    let raw := Tab.get Line.none a.2.vn.lines (64 * p + l)
    match a.2.lineCheck p l raw with
    | 1 => (a.1 ++ [(l, some (a.2.linePlain p l raw))], a.2)
    | 2 => (a.1 ++ [(l, none)], a.2)
    | _ => (a.1 ++ [(l, none)], a.2.integrityFail p l)) ([], s)
  let s := r.2
  let g := Tab.get Page.none s.vn.pages p
  let s := { s with vn.pages := s.vn.pages.set Page.none p { g with count := 0 } }
  let s := s.set VNR_BOUNDARY.V 0 (p + 1)
  s.each r.1 (fun x s => match x.2 with
    | some d => s.lineWrite p x.1 d
    | none => s.linePoison p x.1)

/-- The rekey engine walks the page at the boundary (R305). -/
def State.passWalk (s : State) : State :=
  if s.on VNR_STATUS.TWO_EPOCHS 0 = false ∨ s.pageHeld (s.get VNR_BOUNDARY.V 0) then s
  else if s.get RNG_STATUS.STATE 0 ≠ 1 then
    if s.get VNR_STATUS.STATE 0 = 4 then s else (s.set VNR_STATUS.STATE 0 4).pend 0x388
  else
    let s := s.set VNR_STATUS.STATE 0 3
    let p := s.get VNR_BOUNDARY.V 0
    let g := Tab.get Page.none s.vn.pages p
    let s := match g.use with
      | .live => s.pageRekey p
      | .retiring => s.pageRekey p
      | .exhausted =>
        (({ s with vn.pages := s.vn.pages.set Page.none p ⟨0, .free, 0⟩, vn.deepFreed := s.vn.deepFreed ++ [p] }.set
          VNR_PAGE_EXH.V 0 (s.get VNR_PAGE_EXH.V 0 - 1))).set VNR_BOUNDARY.V 0 (p + 1)
      | _ => { s with vn.pages := s.vn.pages.set Page.none p { g with count := 0 } }.set VNR_BOUNDARY.V 0 (p + 1)
    s.passDone

/-- Lowest unused spare frame in a channel in service (R308): 32 frames in a row lie in all 32 channels. -/
def State.nextSpare (s : State) : Option Nat :=
  (upto (32 * (s.vn.spares.length + 2))).find? (fun n =>
    n < spareFrames && !s.vn.spares.contains n && s.get MEM_CH.STATE (s.spareChan n) == 2)

/-- Page p holds data, not tags. -/
def State.dataPage (s : State) (p : Nat) : Bool := decide (p < s.dataPages)

/-- The failure whose physical location is line l of page p (R297, R308): that line of a data page, or the tags of a line of one
in the tag region. -/
def State.marchLine (s : State) (p l : Nat) : Option (Nat × Nat) :=
  s.vn.marchErr.find? (fun x => if s.dataPage p then x == (p, l)
    else s.dataPages + x.1 / 8 == p && x.1 % 8 * 8 + x.2 / 8 == l)

/-- The march test of line l of page p for the failure x ends (R308, R309): a page with no spare left is retired, a tag page with
its 8 data pages. The fifth passing test of a line within 10 s is a lasting fault (R337). -/
def State.marchDone (s : State) (p l : Nat) (x : Nat × Nat) (pass : Bool) : State :=
  let seen := s.vn.lineTrans.filter (fun y => s.mono < y.2.2 + 10 * sec) ++ if pass then [(p, l, s.mono)] else []
  let s := { s with vn.marchErr := s.vn.marchErr.filter (· != x), vn.lineTrans := seen }
  let s := s.count (if pass then VNR_CNT.MARCH_PASS else VNR_CNT.MARCH_FAIL) 0 1
  if pass ∧ (seen.filter (fun y => y.1 == p && y.2.1 == l)).length < 5 then s.linePoison x.1 x.2
  else
    match s.nextSpare with
    | some _ => { s with vn.spareDue := s.vn.spareDue ++ [(p, 64 * x.1 + x.2)] }
    | none =>
      let s := if s.vn.sparesDone then s else { s with vn.sparesDone := true }.pend 0x384
      let s := s.linePoison x.1 x.2
      if s.dataPage p then s.pageRetire p
      else s.each (upto 8) (fun j s => s.pageRetire (8 * (p - s.dataPages) + j))

/-- A sparing copy ends (R308): the page's contents lie in the spare frame, its failing line is poisoned there. -/
def State.spareDone (s : State) (p : Nat) : State :=
  match s.vn.spareDue.find? (fun x => x.1 == p), s.nextSpare with
  | some x, some n =>
    let s := { s with vn.spareDue := s.vn.spareDue.erase x, vn.spares := n :: s.vn.spares, vn.remap := s.vn.remap.set 0 p (n + 1) }
    ((s.bump VNR_SPARES_USED.V 0 1).pend 0x383).linePoison (x.2 / 64) (x.2 % 64)
  | _, _ => s

/-- A partial write of one 32-octet beat (R303). A line not yet written in the page's allocation takes a full line. -/
def State.beatWrite (s : State) (p l : Nat) (hi : Bool) (beat : List Octet) (raw : List RawLine) : State :=
  let b := padTo 32 beat
  let use := (Tab.get Page.none s.vn.pages p).use
  if (use = .live ∨ use = .retiring) ∧ l < 64 ∧ s.pageHeld p = false then
    if Tab.get Line.none s.vn.lines (64 * p + l) = Line.none then
      s.lineWrite p l (if hi then List.replicate 32 0 ++ b else b ++ List.replicate 32 0)
    else match s.lineRead p l raw true with
      | (some d, s) => s.lineWrite p l (if hi then d.take 32 ++ b else b ++ d.drop 32)
      | (none, s) => s
  else s

/-- A frame is lost to a line that failed (R307). -/
def State.deepLoss (s : State) (q : Nat) : State := (s.count VNR_CNT.FRAME_LOSS 0 1).bump VNR_QLOSS.V q 1

end Sys2Proof.Machine
end

