-- ==== Sys2Proof/Machine/Keys.lean ====
section
/-!
DEFINITION. Machine/Keys.lean: Dovetail, the key hierarchy (R156 to R182): root derivations, slots and their use,
installation, invalidation and erasure with their cascades, the battery-backed key RAM, key-store commands and the
Officer bootstrap.
-/
namespace Sys2Proof.Machine

/-! Root derivations (R157 to R159). -/

/-- LCY_STATE.DEBUG (R51, R157). -/
def State.debug (s : State) : Bool := s.lc.debugUnlocked

/-- Root secret, or the test root while DEBUG is 1 (R157). -/
def State.root (s : State) : List Octet :=
  if s.debug then List.replicate 32 0xA5 else padTo 32 s.lc.fuses.root

/-- OWNER_ENTRY (R51): the entry of the last TAKE_OWNERSHIP while OWNED. -/
def State.ownerEntry (s : State) : Nat :=
  if s.lc.fuses.lcs = 3 then s.lc.fuses.owners.length - 1 else 0x1F

/-- The root context (R159). -/
def State.rootContext (s : State) : List Octet :=
  leBytes 1 s.lc.fuses.lcs ++ leBytes 1 (b2n s.debug) ++ leBytes 1 s.ownerEntry ++ leBytes 1 0 ++ devId

/-- A root derivation (R159). -/
def State.rootKdf (s : State) (label : String) (l : Nat) : List Octet := kdf s.root (ascii label) s.rootContext l

/-- Slot 1's scalar (R159): (c mod (n - 1)) + 1. -/
def State.attestScalar (s : State) : Nat := beNat (s.rootKdf "QX-ATTEST" 448) % (p384N - 1) + 1

/-- K_bbr (R180). -/
def State.kbbr (s : State) : List Octet := s.rootKdf "QX-BBRAM" 256

/-! Battery-backed key RAM (R178 to R181). -/

/-- Entry a slot takes (R179): the one that holds it; otherwise entry 0 for slot 2, and the lowest free one of 1 to 31 for
another slot. -/
def State.kramFor (s : State) (slot : Nat) : Option Nat :=
  if s.on KST_SLOT.PERSISTED slot then some (Tab.get 0 s.ke.kramAt slot - 1)
  else if slot = 2 then some 0
  else ((upto 31).map (· + 1)).find? (fun j => (Tab.get [] s.ke.kram j).isEmpty)

/-- The 128 octets of an entry (R178). -/
def State.kramBuild (s : State) (slot : Nat) : List Octet :=
  let tail := leBytes 1 slot ++ leBytes 1 (s.get KST_SLOT.KLEN slot) ++ leBytes 2 0 ++
    leBytes 4 (s.readFields reg_KST_SLOT slot 1) ++ leBytes 4 (s.get KST_SLOT.LIMIT slot) ++
    leBytes 4 (s.get KST_SLOT.USED slot)
  padTo 128 (keyWrap s.kbbr (padTo 32 (Tab.get [] s.ke.slotKey slot)) ++ tail ++ cmac s.kbbr tail)

/-- Write a slot's entry (R179); answers whether one was free. -/
def State.persist (s : State) (slot : Nat) : Bool × State :=
  match s.kramFor slot with
  | some j =>
    (true, { s with ke.kram := s.ke.kram.set [] j (s.kramBuild slot), ke.kramAt := s.ke.kramAt.set 0 slot (j + 1) }.set
      KST_SLOT.PERSISTED slot 1 |>.set KST_KRAM_ENT.RESTORE_FAIL j 0)
  | none => (false, s)

/-- Zero a persisted slot's entry (R179). -/
def State.unpersist (s : State) (slot : Nat) : State :=
  if s.on KST_SLOT.PERSISTED slot then
    { s.set KST_SLOT.PERSISTED slot 0 with
      ke.kram := s.ke.kram.set [] (Tab.get 0 s.ke.kramAt slot - 1) [], ke.kramAt := s.ke.kramAt.set 0 slot 0 }
  else s

/-! Use of a slot (R163, R164). -/

/-- Status of the checks of R163, as CHS_STATUS.CODE: 0 OK, 1 DENIED, 2 EXHAUSTED, 8 INVALIDATED. `master` is 0 MP0,
1 MP1, 2 internal; `world` the world of a port's request (0 Operator, 1 Officer; WORLDS numbers them the other way). -/
def State.slotCheck (s : State) (slot master : Nat) (world : Option Nat) (purposes : List Nat) : Nat :=
  let st := s.get KST_SLOT.STATE slot
  let ok := bit (s.get KST_SLOT.MASTERS slot) master && world.all (fun w => bit (s.get KST_SLOT.WORLDS slot) (1 - w)) &&
    1 ≤ s.lc.fuses.lcs && s.lc.fuses.lcs ≤ 3 && bit (s.get KST_SLOT.LCS slot) (s.lc.fuses.lcs - 1) &&
    purposes.all (fun p => bit (s.get KST_SLOT.PURPOSE slot) p)
  if st = 2 then 8 else if st = 3 then 2 else if st = 1 && ok then 0 else 1

/-- A failed check counts (R163). -/
def State.denied (s : State) : State := s.count KST_DENY_CNT.V 0 1

/-- PURPOSE bits (R161). -/
def pWRAP : Nat := 0
def pUNWRAP : Nat := 1
def pDERIVE : Nat := 2
def pMAC : Nat := 3
def pDATAPATH : Nat := 4

/-- One use of a slot as a key (R164, R179). -/
def State.slotUse (s : State) (slot : Nat) : State :=
  if s.on KST_SLOT.LIMIT_EN slot then
    let s := s.bump KST_SLOT.USED slot 1
    let s := if s.get KST_SLOT.LIMIT slot ≤ s.get KST_SLOT.USED slot ∧ s.get KST_SLOT.STATE slot = 1 then
        (s.set KST_SLOT.STATE slot 3).pend 0x3C6 else s
    if s.on KST_SLOT.PERSISTED slot then (s.persist slot).2 else s
  else s

/-! Erasure (R173 to R176). -/

/-- Zeroise a slot's key and its key RAM copy (log entry 21). -/
def State.slotZero (s : State) (slot : Nat) : State :=
  { s.zeroNote slot with ke.slotKey := s.ke.slotKey.set [] slot [] }.unpersist slot

/-- Child slots of a slot, ascending. -/
def State.childSlots (s : State) (p : Nat) : List Nat :=
  (s.ones KST_SLOT.HAS_PARENT).filter (fun c =>
    s.get KST_SLOT.PARENT c == p && s.get KST_SLOT.STATE c != 0 && !s.on KST_SLOT.ORPHAN c)

/-- ORPHAN of an SA key. -/
def State.saOrphan (s : State) (k : Nat) : Bool :=
  if k < 8192 then s.on SAT_TX.ORPHAN k else s.on SAT_RX.ORPHAN (k - 8192)

/-- SA keys whose parent is slot p, ascending. -/
def State.childSas (s : State) (p : Nat) : List Nat :=
  (s.ke.saParent.filter (fun x => x.2 == p + 1 && !s.saOrphan x.1)).map (·.1)

/-- Transmit SA keys with a staged successor derived under slot p (R235). -/
def State.childStaged (s : State) (p : Nat) : List Nat :=
  (s.au.staged.filter (fun x => match x.2 with
    | some t => t.parent == p && !t.orphan
    | none => false)).map (·.1)

/-- Erase an SA key and the staged key that would replace it (R170, R235). -/
def State.saDrop (s : State) (k : Nat) : State :=
  let s := { s with au.staged := s.au.staged.set none k none }
  s.saErase k

/-- Mark an SA key or a staged key as an orphan. -/
def State.saMarkOrphan (s : State) (k : Nat) : State :=
  if k < 8192 then s.set SAT_TX.ORPHAN k 1 else s.set SAT_RX.ORPHAN (k - 8192) 1

def State.stagedOrphan (s : State) (k : Nat) : State :=
  { s with au.staged := s.au.staged.set none k ((Tab.get none s.au.staged k).map (fun t => { t with orphan := true })) }

/-- An SA key is erased by its parent's cascade: the epochs its SC had installed were of a key that is gone, so a RESYNC may
derive them under the next one (R244; log entry 76). -/
def State.saCascade (s : State) (k : Nat) : State :=
  let s := s.saDrop k
  { s with au.autEpoch := s.au.autEpoch.set 0 (if k < 8192 then k / 2 else 4096 + (k - 8192) / 2) 0 }

/-- INVALIDATE of a slot and what it does to its children, level by level (R173, R175); with `erase`, the slot itself
becomes EMPTY (R174). Answers how many other keys were erased or orphaned. -/
def State.slotKill : Nat → State → Nat → Bool → Nat × State
  | 0, s, _, _ => (0, s)
  | fuel + 1, s, slot, erase =>
    let casc := s.on KST_SLOT.CASCADE slot
    let s := (s.slotZero slot).set KST_SLOT.STATE slot 2
    let kids := s.childSlots slot
    let sas := s.childSas slot
    let stg := s.childStaged slot
    let r : Nat × State :=
      if casc then
        let a := kids.foldl (fun (a : Nat × State) c =>
          let b := State.slotKill fuel a.2 c true
          (a.1 + 1 + b.1, b.2)) (0, s)
        let t := a.2.each sas (fun k s => s.saCascade k)
        (a.1 + sas.length + stg.length, t.each stg (fun k s => { s with au.staged := s.au.staged.set none k none }))
      else
        let t := s.each kids (fun c s => s.set KST_SLOT.ORPHAN c 1)
        let t := t.each sas (fun k s => s.saMarkOrphan k)
        (kids.length + sas.length + stg.length, t.each stg (fun k s => s.stagedOrphan k))
    (r.1, if erase then
      r.2.resetFields [KST_SLOT.STATE, KST_SLOT.ORPHAN, KST_SLOT.KLEN, KST_SLOT.PARENT, KST_SLOT.HAS_PARENT,
        KST_SLOT.ORIGIN, KST_SLOT.MASTERS, KST_SLOT.WORLDS, KST_SLOT.LCS, KST_SLOT.PURPOSE, KST_SLOT.CASCADE,
        KST_SLOT.EXPORTABLE, KST_SLOT.PERSIST, KST_SLOT.LIMIT_EN, KST_SLOT.LIMIT, KST_SLOT.USED] slot
    else r.2)

/-- INVALIDATE or ERASE of a slot, with its event-log entry (R176, R472). -/
def State.slotKillLog (s : State) (slot op : Nat) (erase : Bool) : Nat × State :=
  let r := State.slotKill 257 s slot erase
  (r.1, r.2.logKst op slot (min r.1 65535) 0)

/-! Installation (R165 to R168). -/

/-- Put a key into a slot whose attributes are already in place. With PERSIST 1 it is persisted, if an entry is free
(R179). -/
def State.slotPlace (s : State) (slot : Nat) (key : List Octet) (klen origin : Nat) (parent : Option Nat) : State :=
  let s := { s with ke.slotKey := s.ke.slotKey.set [] slot key }
  let s := (((((((s.set KST_SLOT.STATE slot 1).set KST_SLOT.ORPHAN slot 0).set KST_SLOT.KLEN slot klen).set
    KST_SLOT.PARENT slot (parent.getD 0)).set KST_SLOT.HAS_PARENT slot (b2n parent.isSome)).set
    KST_SLOT.ORIGIN slot origin).set KST_SLOT.USED slot 0).turn KST_SLOT.GEN slot 1
  if s.on KST_SLOT.PERSIST slot then (s.persist slot).2 else s

/-- Narrow a child slot's attributes by its parent's (R166). -/
def State.slotNarrow (s : State) (slot parent : Nat) : State :=
  let f (s : State) (x : Fld) : State := s.set x slot (s.get x slot &&& s.get x parent)
  f (f (f s KST_SLOT.MASTERS) KST_SLOT.WORLDS) KST_SLOT.LCS

/-- Attribute fields of a slot. -/
def slotAttrs : List Fld := [KST_SLOT.MASTERS, KST_SLOT.WORLDS, KST_SLOT.LCS, KST_SLOT.PURPOSE, KST_SLOT.CASCADE,
  KST_SLOT.EXPORTABLE, KST_SLOT.PERSIST, KST_SLOT.LIMIT_EN, KST_SLOT.LIMIT]

/-- Why an installation into a general slot is refused, as KST_STATUS.REASON, or 0 (R160, R167, R170). -/
def State.slotRefused (s : State) (slot : Nat) (replace : Bool) : Nat :=
  let st := s.get KST_SLOT.STATE slot
  if slot < 4 then 2 else if slot < 16 then 8 else if st = 2 then 5 else if st ≠ 0 ∧ replace = false then 3 else 0

/-- Make room in a general slot that does not refuse an installation; `op` is the event-log code of a replacement (R472),
whose old key is treated as erased while the attributes stay (R167). Answers the keys affected. -/
def State.slotVacate (s : State) (slot op : Nat) : Nat × State :=
  if s.get KST_SLOT.STATE slot = 0 then (0, s)
  else
    let keep := slotAttrs.map (fun f => (f, s.get f slot))
    let r := s.slotKillLog slot op true
    (r.1, r.2.each keep (fun x s => s.set x.1 slot x.2))

/-- Install into a general slot; `fresh`: it was EMPTY, so that the attributes written into it narrow by the parent's
(R166). -/
def State.slotFill (s : State) (slot : Nat) (key : List Octet) (origin : Nat) (parent : Option Nat) (fresh : Bool) : State :=
  let s := match parent with
    | some p => if fresh then s.slotNarrow slot p else s
    | none => s
  s.slotPlace slot key (if key.length = 16 then 0 else 1) origin parent

/-- Fixed attributes of slots 0 to 3 (R160): MASTERS, WORLDS, LCS, PURPOSE, PERSIST. -/
def fixedAttrs (slot : Nat) : Nat × Nat × Nat × Nat × Nat :=
  match slot with
  | 0 => (7, 1, 7, 3, 0)
  | 1 => (4, 0, 7, 32, 0)
  | 2 => (4, 0, 7, 8, 1)
  | _ => (4, 0, 4, 0, 0)

/-- One of slots 0 to 3 takes its fixed attributes. -/
def State.slotFix (s : State) (slot : Nat) : State :=
  let a := fixedAttrs slot
  ((((s.set KST_SLOT.MASTERS slot a.1).set KST_SLOT.WORLDS slot a.2.1).set KST_SLOT.LCS slot a.2.2.1).set
    KST_SLOT.PURPOSE slot a.2.2.2.1).set KST_SLOT.PERSIST slot a.2.2.2.2

/-- Install into one of slots 0 to 2 with its fixed attributes. -/
def State.slotFixed (s : State) (slot : Nat) (key : List Octet) (klen origin : Nat) (parent : Option Nat := none) :
    State := (s.slotFix slot).slotPlace slot key klen origin parent

/-- Slot 3 refers to a fused entry: no key is installed into it (R160). -/
def State.slotRef (s : State) : State := ((s.slotFix 3).set KST_SLOT.STATE 3 1).set KST_SLOT.KLEN 3 3

/-- Derive slots 0 and 1 (R159); slot 3 is LIVE in OWNED (R160). -/
def State.rootSlots (s : State) : State :=
  let s := s.slotFixed 0 (s.rootKdf "QX-BIND" 256) 1 1
  let s := s.slotFixed 1 (beBytes 48 s.attestScalar) 2 1
  if s.lc.fuses.lcs = 3 then s.slotRef else s

/-! Restore at start-up (R180). -/

/-- Restore one entry of the key RAM. -/
def State.kramRestore (s : State) (j : Nat) : State :=
  let e := Tab.get [] s.ke.kram j
  if e.isEmpty then s
  else
    let tail := slice e 40 16
    let slot := (octetAt e 40).toNat
    let klen := (octetAt e 41).toNat
    match keyUnwrap s.kbbr (e.take 40) with
    | some k =>
      if cmac s.kbbr tail = slice e 56 16 then
        let word1 := leNat (slice e 44 4)
        let s := ((s.writeWord reg_KST_SLOT slot 1 word1).1.set KST_SLOT.LIMIT slot (leNat (slice e 48 4)))
        let s := { s with ke.slotKey := s.ke.slotKey.set [] slot (if klen = 0 then k.take 16 else k)
                          ke.kramAt := s.ke.kramAt.set 0 slot (j + 1) }
        let used := leNat (slice e 52 4)
        let dead := s.on KST_SLOT.LIMIT_EN slot && s.get KST_SLOT.LIMIT slot ≤ used
        ((((((s.set KST_SLOT.STATE slot (if dead then 3 else 1)).set KST_SLOT.KLEN slot klen).set
          KST_SLOT.ORIGIN slot 6).set KST_SLOT.PERSISTED slot 1).set KST_SLOT.USED slot used).turn KST_SLOT.GEN slot 1).set
          KST_KRAM_ENT.RESTORE_FAIL j 0
      else s.set KST_KRAM_ENT.RESTORE_FAIL j 1
    | none => s.set KST_KRAM_ENT.RESTORE_FAIL j 1

/-! Key-store commands (R170 to R172). -/

/-- A command of a port ends: 3 DONE or 4 REFUSED. -/
def State.kstEnd (s : State) (p st reason affected : Nat) : State :=
  ((s.set KST_STATUS.STATE p st).set KST_STATUS.REASON p reason).set KST_STATUS.AFFECTED p (min affected 65535)

/-- Keys that were held in `old` and are gone: slot s, or 256 + SA key. -/
def State.keysGone (s old : State) : List Nat :=
  (old.ke.slotKey.filter (fun x => !x.2.isEmpty && (Tab.get [] s.ke.slotKey x.1).isEmpty)).map (·.1) ++
  (old.ke.saKey.filter (fun x => !x.2.isEmpty && (Tab.get [] s.ke.saKey x.1).isEmpty)).map (256 + ·.1)

/-- A command's removals are in force; the zeroisation of what it removed runs on (R172, R176). -/
def State.kstBusy (s : State) (p affected : Nat) (keys : List Nat) : State :=
  { s.kstEnd p 2 0 affected with ke.kstZero := s.ke.kstZero.set [] p keys }

/-- The zeroisation of a key still runs: a port's command waits for it, or its 10 µs have not passed (R176). -/
def State.zeroing (s : State) (key : Nat) : Bool :=
  s.ke.kstZero.any (fun x => x.2.contains key) ||
    (Tab.get 0 s.ke.zeroAt key != 0 && decide (s.mono + 1 < Tab.get 0 s.ke.zeroAt key + 10 * us))

/-- A KST_CMD word reaches the key store (R170, R171). -/
def State.kstCmd (s : State) (p word : Nat) : State :=
  let op := bits word 0 4
  if op = 0 ∨ 6 < op then s.reject (.port p) 1 true reg_KST_CMD.base
  else if s.get KST_STATUS.STATE p = 1 ∨ s.get KST_STATUS.STATE p = 2 then s.set KST_STATUS.REASON p 9
  else
    { s.kstEnd p 1 0 0 with
      ke.kstQueue := s.ke.kstQueue ++ [⟨p, op, bits word 8 8, bits word 16 14, bit word 30, bit word 31⟩] }

/-- GENERATE into a slot that does not refuse it (R170, R179): the DRBG fills it; KEYRAM_FULL where it is to be persisted and
no entry is free. -/
def State.kstFill (s : State) (r : KstReq) : State :=
  match s.draw (if r.k256 then 32 else 16) with
  | none => s.kstEnd r.port 4 6 0
  | some (k, s) =>
    let fresh := s.get KST_SLOT.STATE r.slot == 0
    let v := s.slotVacate r.slot 1
    let t := v.2.slotFill r.slot k 5 none fresh
    if t.on KST_SLOT.PERSIST r.slot && !t.on KST_SLOT.PERSISTED r.slot then t.kstEnd r.port 4 7 v.1
    else if fresh then t.kstEnd r.port 3 0 0
    else t.kstBusy r.port v.1 (v.2.keysGone s)

/-- Effect of one command (R170, R173, R174, R179). -/
def State.kstRun (s : State) (r : KstReq) : State :=
  let st := s.get KST_SLOT.STATE r.slot
  if r.op = 4 then
    let t := (s.saDrop r.sa).logKst 4 0 0 r.sa
    t.kstBusy r.port 0 (t.keysGone s)
  else if r.slot < 4 then s.kstEnd r.port 4 2 0
  else if r.slot < 16 then s.kstEnd r.port 4 8 0
  else match r.op with
    | 1 =>
      let why := s.slotRefused r.slot r.replace
      if why ≠ 0 then s.kstEnd r.port 4 why 0 else s.kstFill r
    | 2 =>
      if st = 0 then s.kstEnd r.port 4 4 0
      else if st = 2 then s.kstEnd r.port 4 5 0
      else
        let t := s.slotKillLog r.slot 2 false
        t.2.kstBusy r.port t.1 (t.2.keysGone s)
    | 3 =>
      if st = 0 then s.kstEnd r.port 4 4 0
      else
        let t := s.slotKillLog r.slot 3 true
        t.2.kstBusy r.port t.1 (t.2.keysGone s)
    | 5 =>
      if st = 0 then s.kstEnd r.port 4 4 0
      else if st = 2 then s.kstEnd r.port 4 5 0
      else
        let t := s.persist r.slot
        if t.1 then t.2.kstEnd r.port 3 0 0 else s.kstEnd r.port 4 7 0
    | _ => if st = 0 then s.kstEnd r.port 4 4 0 else (s.unpersist r.slot).kstEnd r.port 3 0 0

/-- A GENERATE waits where the zeroisation of its slot runs (R172) or the start-up test of the source does (R220). -/
def State.kstWaits (s : State) (r : KstReq) : Bool :=
  r.op == 1 && s.slotRefused r.slot r.replace == 0 && (s.zeroing r.slot || s.get RNG_STATUS.STATE 0 == rngNOTREADY)

/-- The command at the front of the key store's queue starts, unless it waits (R172). -/
def State.kstStart (s : State) : State :=
  match s.ke.kstQueue with
  | r :: rest =>
    if s.kstWaits r then s
    else ({ s with ke.kstQueue := rest }.set KST_STATUS.STATE r.port 2).kstRun r
  | [] => s

/-- The zeroisation of a port's command completes (R176). -/
def State.kstZeroed (s : State) (p : Nat) : State :=
  if s.get KST_STATUS.STATE p = 2 then
    let s := s.each (Tab.get [] s.ke.kstZero p) (fun k s => { s with ke.zeroAt := s.ke.zeroAt.set 0 k 0 })
    { s with ke.kstZero := s.ke.kstZero.set [] p [] }.set KST_STATUS.STATE p 3
  else s

/-! Slot attributes (R160 to R162). -/

/-- Fields that only clear, that only set, once a slot holds a key. -/
def slotClearOnly : List Fld := [KST_SLOT.MASTERS, KST_SLOT.WORLDS, KST_SLOT.LCS, KST_SLOT.PURPOSE, KST_SLOT.EXPORTABLE,
  KST_SLOT.PERSIST]
def slotSetOnly : List Fld := [KST_SLOT.CASCADE, KST_SLOT.LIMIT_EN]

/-- Write word 1 or 2 of a slot (R160 to R162, R179). -/
def State.slotWrite (s : State) (w : Writer) (slot word v : Nat) : State :=
  let off := reg_KST_SLOT.base + 16 * slot + 4 * word
  let n := (s.writeWord reg_KST_SLOT slot word v).1
  let st := s.get KST_SLOT.STATE slot
  if word = 0 ∨ word = 3 then s
  else if slot < 16 then s.reject w 3 true off
  else if n.on KST_SLOT.LIMIT_EN slot ∧ n.get KST_SLOT.LIMIT slot = 0 then s.reject w 3 true off
  else if st = 0 then n
  else if st = 2 then s.reject w 2 true off
  else
    let widen (f : Fld) : Bool := (n.get f slot ||| s.get f slot) != s.get f slot
    let drop (f : Fld) : Bool := (n.get f slot ||| s.get f slot) != n.get f slot
    if slotClearOnly.any widen ∨ slotSetOnly.any drop ∨ s.get KST_SLOT.LIMIT slot < n.get KST_SLOT.LIMIT slot then
      s.reject w 2 true off
    else
      let n := if n.on KST_SLOT.LIMIT_EN slot ∧ n.get KST_SLOT.LIMIT slot ≤ n.get KST_SLOT.USED slot ∧ st = 1 then
          n.set KST_SLOT.STATE slot 3 else n
      if n.on KST_SLOT.PERSISTED slot then
        (if s.on KST_SLOT.PERSIST slot && !n.on KST_SLOT.PERSIST slot then n.unpersist slot else (n.persist slot).2)
      else n

/-! Officer bootstrap (R182). -/

/-- Carry out or refuse a bootstrap. -/
def State.bootstrap (s : State) : State :=
  let key := (upto 8).flatMap (fun i => leBytes 4 (Tab.get 0 s.ke.bootKey i))
  let s := { s with ke.bootHeld := false }
  if s.get KST_SLOT.STATE 2 ≠ 0 ∨ s.mode = mLOCKDOWN ∨ s.ke.bootDone then s.set GLB_OFC_BOOT_STATUS.V 0 2
  else
    let s := (s.slotFixed 2 key 1 7).logEvent 0x0033 noSrc []
    { s.set GLB_OFC_BOOT_STATUS.V 0 1 with
      ke.bootKey := [], ke.bootDone := true,
      ke.bootOut := keyWrap (Tab.get [] s.ke.slotKey 0) key, ke.bootRead := [] }

/-- GO of the bootstrap: held until start-up step 8 completes (R182). -/
def State.bootGo (s : State) (w : Writer) (v : Nat) : State :=
  if v ≠ 0x0B057A9E then s.reject w 1 false 0x220
  else if s.get GLB_BOOT_STATUS.STAGE 0 < 8 ∧ s.mode = mBOOT then
    { s.set GLB_OFC_BOOT_STATUS.V 0 3 with ke.bootHeld := true }
  else s.bootstrap

end Sys2Proof.Machine
end

