-- ==== Sys2Proof/Machine/Keying.lean ====
section
/-!
DEFINITION. Machine/Keying.lean: autonomous keying (R226 to R244): epochs and windows, schedules, derivation passes, the
instants of R235, and the transmit gate with its hold (R238, R239).
-/
namespace Sys2Proof.Machine

/-! Epochs and windows (R227), in 2^-32 ns of network time. -/

def State.schT0 (s : State) (j : Nat) : Nat := s.get GAU_SCH.T0_SEC j * sec
def State.schP (s : State) (j : Nat) : Nat := s.get GAU_SCH.P_SEC j * sec
def State.schLead (s : State) (j : Nat) : Nat := s.get GAU_SCH.LEAD_MS j * ms
def State.schW (s : State) (j : Nat) : Nat := s.get GAU_SCH.W_US j * us

/-- S(n). -/
def State.epochStart (s : State) (j n : Nat) : Nat := s.schT0 j + n * s.schP j

/-- e(t) + 1, 0 before T0. -/
def State.epochAt (s : State) (j t : Nat) : Nat := if t < s.schT0 j then 0 else (t - s.schT0 j) / s.schP j + 1

/-- The transmit window of epoch n contains t. -/
def State.txWindow (s : State) (j n t : Nat) : Bool :=
  s.epochStart j n ≤ t + s.schW j && t < s.epochStart j (n + 1)

/-- R57 permits epoch n: it starts later than the resume time of this start-up. -/
def State.resumePermits (s : State) (j n : Nat) : Bool :=
  !s.lc.resumeFresh && decide (s.lc.rBoot * ms < s.epochStart j n)

/-- A schedule is valid and the network time is. -/
def State.schRuns (s : State) (j : Nat) : Bool := s.on GAU_SCH.VALID j && s.on TIM_STATUS.VALID 0

/-! Selection and passes (R232, R233). -/

/-- SCs of a direction with VALID = 1 and KEYING = 1 on schedule j, ascending. -/
def State.autScs (s : State) (d : Dir) (j : Nat) : List Nat :=
  match d with
  | .eg => (s.ones SCT_TX.KEYING).filter (fun c => s.on SCT_TX.VALID c && s.get SCT_TX.SCHED c == j)
  | .ig => (s.ones SCT_RX.KEYING).filter (fun c => s.on SCT_RX.VALID c && s.get SCT_RX.SCHED c == j)

/-- Key of an SC in autEpoch. -/
def scKey (d : Dir) (c : Nat) : Nat := match d with
  | .eg => c
  | .ig => 4096 + c

/-- Derivations that one SC needs at time t (R232). -/
def State.autSelect (s : State) (j t : Nat) (d : Dir) (c : Nat) : List PassItem :=
  let e1 := s.epochAt j t
  let have_ := Tab.get 0 s.au.autEpoch (scKey d c)
  (if 1 ≤ e1 ∧ have_ < e1 then [⟨j, d, c, e1 - 1⟩] else []) ++
    (if s.epochStart j e1 ≤ t + s.schLead j ∧ have_ < e1 + 1 then [⟨j, d, c, e1⟩] else [])

/-- STATE of a schedule (R228): OFF, STALLED while Chisel is RETIRED, DERIVING, WAIT_TIME, RUNNING. -/
def State.schState (s : State) (j : Nat) : Nat :=
  if s.on GAU_SCH.VALID j = false then 0
  else if s.get CHS_ENGINE.STATE 0 = 2 then 4
  else if Tab.get 0 s.au.passStart j ≠ 0 then 3
  else if s.on TIM_STATUS.VALID 0 = false ∨ s.now + s.schLead j < s.schT0 j then 1 else 2

/-- Region of an SC. -/
def State.scRegion (s : State) (d : Dir) (c : Nat) : Nat := match d with
  | .eg => s.get SCT_TX.LPORT c / 4
  | .ig => s.get SCT_RX.LPORT c / 4

/-- The running pass of schedule j has reached an SC (R232). -/
def State.reached (s : State) (j : Nat) (d : Dir) (c : Nat) : Bool :=
  scKey d c < Tab.get 0 s.au.passPos (4 * j + s.scRegion d c)

/-- A pass over the SCs `tx` and `rx` begins, or is merged into the one that runs: an SC not reached yet is then derived under
the later selection (R232). -/
def State.passOver (s : State) (j : Nat) (tx rx : List Nat) : State :=
  if s.schRuns j = false then s
  else
    let running := Tab.get 0 s.au.passStart j != 0
    let again (x : PassItem) : Bool := x.sched == j && !s.reached j x.dir x.sc &&
      (if x.dir = .eg then tx.contains x.sc else rx.contains x.sc)
    let pick (d : Dir) (l : List Nat) : List PassItem :=
      (l.filter (fun c => !(running && s.reached j d c))).flatMap (fun c => s.autSelect j s.now d c)
    let items := s.au.passItems.filter (fun x => !again x) ++ pick .eg tx ++ pick .ig rx
    if running then { s with au.passItems := items }
    else
      { (s.set GAU_SCH.FAILS j 0) with
        au.passItems := items, au.passStart := s.au.passStart.set 0 j (s.mono + 1),
        au.passPos := (upto 4).foldl (fun t r => t.set 0 (4 * j + r) 0) s.au.passPos }

/-- A pass for every SC of the schedule (R232). -/
def State.passBegin (s : State) (j : Nat) : State := s.passOver j (s.autScs .eg j) (s.autScs .ig j)

/-- A pass for the one SC that becomes VALID on a running schedule (R237). -/
def State.passOne (s : State) (d : Dir) (c j : Nat) : State :=
  if s.schT0 j ≤ s.now + s.schLead j then
    match d with
    | .eg => s.passOver j [c] []
    | .ig => s.passOver j [] [c]
  else s

/-- An SC whose VALID has risen since `old`: no epoch counts as installed for it or as switched
to, and its selection runs (R235 to R237). -/
def State.scJoins (s old : State) (d : Dir) (c : Nat) : State :=
  let valid := match d with
    | .eg => SCT_TX.VALID
    | .ig => SCT_RX.VALID
  let keying := match d with
    | .eg => SCT_TX.KEYING
    | .ig => SCT_RX.KEYING
  let sched := match d with
    | .eg => SCT_TX.SCHED
    | .ig => SCT_RX.SCHED
  if old.on valid c = false ∧ s.on valid c ∧ s.on keying c then
    { s with au.autEpoch := s.au.autEpoch.set 0 (scKey d c) 0
             au.switched := match d with
               | .eg => s.au.switched.set 0 c 0
               | .ig => s.au.switched }.passOne d c (s.get sched c)
  else s

/-- A word of a receive SC entry (R99, R237). -/
def State.rxScPut (s : State) (w : Writer) (c word v : Nat) : State := (s.rxScWrite w c word v).scJoins s .ig c

/-- A pass whose derivations are all done ends (R228, R232). -/
def State.passEnd (s : State) (j : Nat) : State :=
  if Tab.get 0 s.au.passStart j ≠ 0 ∧ s.au.passItems.all (fun x => x.sched != j) then
    let d := (s.mono + 1 - Tab.get 0 s.au.passStart j) / us
    { s with au.passStart := s.au.passStart.set 0 j 0, au.passed := insertNat j s.au.passed }.set
      GAU_SCH.LAST_PASS_US j (min d 65535)
  else s

/-- A derivation fails (R234, R241, R243). -/
def State.autFail (s : State) (j : Nat) (d : Dir) (c reason : Nat) : State :=
  let f := match d with
    | .eg => GAU_AUT_FAIL_TX.V
    | .ig => GAU_AUT_FAIL_RX.V
  let s := s.set f (c / 32) (setBit (s.get f (c / 32)) (c % 32))
  let s := ((s.set GAU_AUT_LAST.SC 0 c).set GAU_AUT_LAST.DIR 0 (match d with
    | .eg => 0
    | .ig => 1)).set GAU_AUT_LAST.REASON 0 reason
  (s.bump GAU_SCH.FAILS j 1).event GAU_SCH.PASS_FAIL j 0x01D

/-! Installation and instants (R235, R236). -/

/-- Note an epoch as installed in SA key k for an SC. -/
def State.noteEpoch (s : State) (j : Nat) (d : Dir) (c k n : Nat) : State :=
  let s := { s with au.autEpoch := s.au.autEpoch.set 0 (scKey d c) (n + 1), au.saEpoch := s.au.saEpoch.set 0 k (n + 1) }
  s.set GAU_SCH.EPOCH j (max (s.get GAU_SCH.EPOCH j) n)

/-- SA of a transmit SC that the next epoch's key goes into (R236). -/
def State.autTarget (s : State) (c : Nat) : Nat :=
  if Tab.get 0 s.au.autEpoch c = 0 then s.curSa c else s.othSa c

/-- A transmit SC switches at S(n) (R235): the request of R77, once per epoch. -/
def State.autSwitch (s : State) (c : Nat) : State :=
  let j := s.get SCT_TX.SCHED c
  let e1 := s.epochAt j s.now
  if s.schRuns j ∧ s.on SCT_TX.VALID c ∧ s.on SCT_TX.KEYING c ∧ Tab.get 0 s.au.switched c < e1 then
    let s := { s with au.switched := s.au.switched.set 0 c e1 }
    if e1 ≤ Tab.get 0 s.au.saEpoch (s.curSa c) then s
    else if e1 < Tab.get 0 s.au.saEpoch (s.othSa c) ∧ s.get SAT_TX.STATE (s.othSa c) = saREADY then
      s.txEvent true SCT_TX.EV_SWITCH_MISS c
    else s.switchReq c
  else s

/-- The key store takes an installation at once (R172): no command waits in it, and no zeroisation of the key's place runs. A
derived key that must wait reaches the store anew (log entry 77). -/
def State.storeFree (s : State) (key : Nat) : Bool := s.ke.kstQueue.isEmpty && !s.zeroing key

/-- The staged key of a transmit SC is installed from S(n) - W on (R235). -/
def State.autInstallTx (s : State) (c : Nat) : State :=
  let j := s.get SCT_TX.SCHED c
  let a := s.autTarget c
  match Tab.get none s.au.staged a with
  | some g =>
    if s.schRuns j ∧ s.on SCT_TX.VALID c ∧ s.epochStart j g.epoch ≤ s.now + s.schW j ∧ s.storeFree (256 + a) then
      let s := { s with au.staged := s.au.staged.set none a none }
      if g.epoch < Tab.get 0 s.au.autEpoch c then s
      else if s.get SAT_TX.STATE a = saACTIVE then s.autFail j .eg c 0x0A
      else
        let s := ((s.set SAT_TX.AN a (g.epoch % 4)).set SAT_TX.SSCI a g.ssci).set SAT_TX.SALT a g.salt
        let s := s.noteEpoch j .eg c a g.epoch
        let s := s.saInstall a g.key (g.parent + 1)
        let s := if g.orphan then s.set SAT_TX.ORPHAN a 1 else s
        let e1 := s.epochAt j s.now
        if g.epoch + 1 ≤ e1 ∧ s.get SAT_TX.STATE a = saREADY then
          ({ s with au.switched := s.au.switched.set 0 c e1 }).switchReq c
        else s
    else s
  | none => s

/-- The acceptance time of a receive SC's READY slot (R235): it becomes ACTIVE, and the other slot, of epoch n, retires at
S(n + 1) + W. -/
def State.autActivateRx (s : State) (c : Nat) : State :=
  let j := s.get SCT_RX.SCHED c
  let a := 2 * c + (1 - s.get SCT_RX.CUR c)
  let o := 2 * c + s.get SCT_RX.CUR c
  let n1 := Tab.get 0 s.au.saEpoch (8192 + a)
  if s.schRuns j ∧ s.on SCT_RX.VALID c ∧ s.on SCT_RX.KEYING c ∧ s.get SAT_RX.STATE a = saREADY ∧ 1 ≤ n1 ∧
      s.epochStart j (n1 - 1) ≤ s.now + s.schW j then
    let s := s.rxActivate a
    let n := Tab.get 0 s.au.saEpoch (8192 + o)
    if s.get SAT_RX.STATE o = saACTIVE then s.rxArm o (s.epochStart j (if n = 0 then n1 - 1 else n) + s.schW j) else s
  else s

/-- The acceptance window of the epoch whose key an autonomous receive SA holds is over (R227): S(n + 1) + W. -/
def State.rxOver (s : State) (a : Nat) : Bool :=
  let j := s.get SCT_RX.SCHED (a / 2)
  let n1 := Tab.get 0 s.au.saEpoch (8192 + a)
  s.on SCT_RX.KEYING (a / 2) && s.schRuns j && s.get SAT_RX.STATE a == saACTIVE && n1 != 0 &&
    decide (s.epochStart j n1 + s.schW j ≤ s.now)

/-- A receive SA whose RETIRE_AT is reached retires (R104), and so does one whose epoch's window is over, whether or not a
later key came (R227, R234, R240). The instants of an autonomous SC need valid time (R240). -/
def State.retireDue (s : State) (a : Nat) : State :=
  if s.rxOver a then s.rxRetire a
  else if s.on SAT_RX.RETIRE_ARMED a ∧ (s.on TIM_STATUS.VALID 0 ∨ s.on SCT_RX.KEYING (a / 2) = false) ∧ s.rxRetireAt a ≤ s.now then
    s.rxRetire a
  else s

/-- Key, SALT and SSCI that a derivation yields for a suite (R231). -/
def autSplit (suite : Nat) (o : List Octet) : List Octet × Nat × Nat :=
  match suite with
  | 0 => (o.take 16, 0, 0)
  | 1 => (o.take 32, 0, 0)
  | 2 => (o.take 16, beNat (slice o 16 12), beNat (slice o 28 4))
  | _ => (o.take 32, beNat (slice o 32 12), beNat (slice o 44 4))

/-- Output length of a suite (R231). -/
def autBits (suite : Nat) : Nat := match suite with
  | 0 => 128
  | 1 => 256
  | 2 => 256
  | _ => 384

/-- CAK slot of a derivation. -/
def State.itemSlot (s : State) (x : PassItem) : Nat := match x.dir with
  | .eg => s.get SCT_TX.CAK_SLOT x.sc
  | .ig => s.get SCT_RX.CAK_SLOT x.sc

/-- SA key that a derivation is for (R236). -/
def State.itemKey (s : State) (x : PassItem) : Nat := match x.dir with
  | .eg => s.autTarget x.sc
  | .ig => 8192 + 2 * x.sc +
      (if Tab.get 0 s.au.autEpoch (4096 + x.sc) = 0 then s.get SCT_RX.CUR x.sc else 1 - s.get SCT_RX.CUR x.sc)

/-- Why a derivation fails before any AES work, as CHS_STATUS.CODE, or 0 (R234). -/
def State.itemCode (s : State) (x : PassItem) : Nat :=
  let slot := s.itemSlot x
  let code := s.slotCheck slot 2 none [pDERIVE, pDATAPATH]
  if code ≠ 0 then code else if s.get KST_SLOT.KLEN slot ≠ 1 then 5 else 0

/-- Derive one SA (R231, R234): the engine has computed it without a fault. -/
def State.autDerive (s : State) (x : PassItem) : State :=
  let c := x.sc
  let slot := s.itemSlot x
  let a := s.itemKey x
  let suite := match x.dir with
    | .eg => s.get SCT_TX.SUITE c
    | .ig => s.get SCT_RX.SUITE c
  let sci := match x.dir with
    | .eg => s.get SCT_TX.SCI c
    | .ig => s.get SCT_RX.SCI c
  let o := kdf (Tab.get [] s.ke.slotKey slot) (ascii "QX-SAK") (beBytes 8 sci ++ beBytes 8 x.epoch) (autBits suite)
  let r := autSplit suite o
  if s.saState a = saACTIVE then s.autFail x.sched x.dir c 0x0A
  else match x.dir with
    | .eg =>
      { s with au.staged := s.au.staged.set none a (some ⟨r.1, r.2.1, r.2.2, x.epoch, slot, false⟩) }.autInstallTx c
    | .ig =>
      let b := a - 8192
      let s := (((s.set SAT_RX.AN b (x.epoch % 4)).set SAT_RX.NEXT_PN b 1).set SAT_RX.SSCI b r.2.2).set SAT_RX.SALT b r.2.1
      let s := s.noteEpoch x.sched .ig c a x.epoch
      (s.saInstall a r.1 (slot + 1)).autActivateRx c

/-- Region of the SC of a derivation. -/
def State.itemRegion (s : State) (x : PassItem) : Nat := s.scRegion x.dir x.sc

/-- A derivation is done with, and the round goes on to the next requester (R203, R232). -/
def State.itemDone (s : State) (r : Nat) (x : PassItem) : State :=
  { s with au.passItems := s.au.passItems.erase x, au.passRetry := s.au.passRetry.set 0 r 0,
           au.passPos := s.au.passPos.set 0 (4 * x.sched + r) (scKey x.dir x.sc + 1), ch.chsRound := r + 1,
           vn.chsWait := s.vn.chsWait.set 0 r 0 }

/-- A derivation starts, and its use of the CAK slot counts (R164, R233); what it ends in is `fault`. After a fault and the
engine's KAT it is repeated once, uncounted (R202). -/
def State.itemRun (s : State) (r : Nat) (x : PassItem) (fault : Bool) : State :=
  let g := Tab.get 0 s.au.passRetry r
  let s := if g = 0 then s.slotUse (s.itemSlot x) else s
  if fault then
    let s := ((s.count CHS_FAULTS.V 0 1).set CHS_ENGINE.STATE 0 1).pend 0x3C2
    if g = 0 then { s with au.passRetry := s.au.passRetry.set 0 r (s.get KST_SLOT.GEN (s.itemSlot x) + 1) }
    else (s.itemDone r x).autFail x.sched x.dir x.sc 4
  else (s.itemDone r x).autDerive x

/-- The next derivation of a region, in its pass's order. -/
def State.nextItem (s : State) (r : Nat) : Option PassItem := s.au.passItems.find? (fun x => s.itemRegion x == r)

/-- The CAK slot of a derivation that a fault interrupted is unusable now (R177). -/
def State.cakGone (s : State) (x : PassItem) (g : Nat) : Bool :=
  s.get KST_SLOT.GEN (s.itemSlot x) + 1 != g || s.get KST_SLOT.STATE (s.itemSlot x) == 0 ||
    s.get KST_SLOT.STATE (s.itemSlot x) == 2

/-- One region turn (R203, R233, R234): one derivation. A RETIRED engine fails it (R202); one whose receive key the key store
cannot take yet waits (R172). -/
def State.regionTurn (s : State) (r : Nat) (x : PassItem) (fault : Bool) : State :=
  let g := Tab.get 0 s.au.passRetry r
  let fail (code : Nat) : State := (s.itemDone r x).autFail x.sched x.dir x.sc code
  if x.epoch < Tab.get 0 s.au.autEpoch (scKey x.dir x.sc) then s.itemDone r x
  else if s.get CHS_ENGINE.STATE 0 = 2 then fail 4
  else if g ≠ 0 ∧ s.cakGone x g then fail 3
  else if g = 0 ∧ s.itemCode x ≠ 0 then
    (if s.itemCode x = 5 then fail 5 else ((s.itemDone r x).denied).autFail x.sched x.dir x.sc (s.itemCode x))
  else if x.dir = .ig ∧ fault = false ∧ s.storeFree (256 + s.itemKey x) = false then s
  else s.itemRun r x fault

/-! Schedules (R228 to R230). -/

/-- Fields that only a schedule not running takes. -/
def schLocked : List Fld := [GAU_SCH.T0_SEC, GAU_SCH.P_SEC, GAU_SCH.LEAD_MS, GAU_SCH.W_US, GAU_SCH.DERIVE_ENTRY]

/-- VALID of schedule j goes from 0 to 1 with legal values (R230). -/
def State.schStart (s : State) (j : Nat) : State :=
  let i := s.get GAU_SCH.DERIVE_ENTRY j
  let s := (((((s.set GAU_ENT.ACTION i 4).set GAU_ENT.TARGET i j).set GAU_ENT.SCOPE i 0).set GAU_ENT.PARAM i 0).set
    GAU_ENT.PERIODIC i 1).set GAU_ENT.PERIOD i (s.schP j / 65536)
  let s := (s.set GAU_ENT.DUE i (time96 (s.epochStart j 1 - s.schLead j))).set GAU_ENT.ENABLE i 1
  let s := (s.gauCommit i).1
  let s := if s.get CHS_ENGINE.STATE 0 = 2 then s.pend 0x01D else s
  if s.on TIM_STATUS.VALID 0 = false ∨ s.now + s.schLead j < s.schT0 j then { s with au.firstDue := insertNat j s.au.firstDue }
  else s.passBegin j

/-- VALID of schedule j goes from 1 to 0 (R230). -/
def State.schStop (s : State) (j : Nat) : State :=
  let s := s.set GAU_ENT.ENABLE (s.get GAU_SCH.DERIVE_ENTRY j) 0
  { s with au.firstDue := s.au.firstDue.filter (· != j), au.passItems := s.au.passItems.filter (fun x => x.sched != j), au.passStart := s.au.passStart.set 0 j 0,
           au.passed := s.au.passed.filter (· != j) }

/-- A word-0 write of a schedule entry with its held words taken in; `n` is the state with the new values, `bad` a
reserved encoding met (R228, R229). -/
def State.schCommit (s n : State) (w : Writer) (j : Nat) (bad : Bool) : State :=
  let off := reg_GAU_SCH.base + 32 * j
  let lead := n.get GAU_SCH.LEAD_MS j * 1000
  let i := n.get GAU_SCH.DERIVE_ENTRY j
  if s.on GAU_SCH.VALID j ∧ schLocked.any (fun f => n.get f j != s.get f j) then s.reject w 2 false off
  else
    let rise := !s.on GAU_SCH.VALID j && n.on GAU_SCH.VALID j
    let res := rise && (n.get GAU_SCH.P_SEC j * 1000000 ≤ lead + n.get GAU_SCH.W_US j ||
      lead < n.get GAU_SCH.W_US j + 23000 ||
      (s.ones GAU_SCH.VALID).any (fun k => k != j && s.get GAU_SCH.DERIVE_ENTRY k == i))
    let n := if res then n.set GAU_SCH.VALID j 0 else n
    let n := if res || bad then n.reject w 1 false off else n
    if rise && !res then n.schStart j
    else if s.on GAU_SCH.VALID j && !n.on GAU_SCH.VALID j then n.schStop j else n

/-- A Gauge entry that a valid schedule uses (R230). -/
def State.gauLocked (s : State) (i : Nat) : Bool :=
  (s.ones GAU_SCH.VALID).any (fun j => s.get GAU_SCH.DERIVE_ENTRY j == i)

/-! Skew (R241). -/

/-- TIM_HO_ERR first exceeds LIMIT_NS in a holdover period (R129). -/
def State.hoLimit (s : State) : State :=
  if s.get TIM_HO.LIMIT_NS 0 < s.hoErr ∧ s.tm.hoErrHit = false then { s with tm.hoErrHit := true }.pend 0x026 else s

/-- SKEW_EST of every valid schedule whose overlap TIM_HO_ERR exceeds for the first time in a holdover period. -/
def State.skewCheck (s : State) : State :=
  if s.on TIM_STATUS.HOLDOVER 0 then
    let e := s.hoErr
    let l := (s.ones GAU_SCH.VALID).filter (fun j => s.get GAU_SCH.W_US j * 1000 < e && !s.au.skewHit.contains j)
    let s := { s with au.skewHit := s.au.skewHit ++ l }
    s.each l (fun j s => s.event GAU_SCH.SKEW_EST j 0x01C)
  else if s.au.skewHit = [] then s else { s with au.skewHit := [] }

/-- SKEW_SEEN (R241). -/
def State.skewSeen (s : State) (c : Nat) : State :=
  if s.on SCT_RX.KEYING c then s.event GAU_SCH.SKEW_SEEN (s.get SCT_RX.SCHED c) 0x01C else s

/-! The transmit gate (R238, R239). -/

/-- Verdict of the gate for an autonomous SC: pass, discard as KEY_PENDING, or hold. -/
inductive Gate where
  | pass | pending | hold
  deriving DecidableEq, Repr

/-- The gate's verdict for transmit SC c at network time t. -/
def State.autGate (s : State) (c t : Nat) : Gate :=
  if s.on SCT_TX.KEYING c = false then .pass
  else
    let j := s.get SCT_TX.SCHED c
    let a := s.curSa c
    let st := s.get SAT_TX.STATE a
    let x1 := Tab.get 0 s.au.saEpoch a
    if s.schRuns j = false then .pending
    else if (st = saACTIVE ∨ st = saEXHAUSTED ∨ st = saDISCARD) ∧ 1 ≤ x1 then
      if s.resumePermits j (x1 - 1) = false then .pending
      else if s.txWindow j (x1 - 1) t then .pass else .hold
    else .hold

/-- HELD of an SC's two queues. -/
def State.setHeld (s : State) (c v : Nat) : State := (s.set QUE_DQ.HELD (2 * c) v).set QUE_DQ.HELD (2 * c + 1) v

/-- Note what the gate says of a frame in an express or bulk queue (R239): whether the frame may be dequeued. -/
def State.gateHold (s : State) (c : Nat) : Bool × State :=
  let h := Tab.get 0 s.au.keyHold c
  match s.autGate c s.now with
  | .pass => (true, if h = 0 then s else { s with au.keyHold := s.au.keyHold.set 0 c 0 }.setHeld c 0)
  | .pending => (h != 1, s)
  | .hold => if h = 2 then (true, s)
    else if h = 1 then (false, s)
    else (false, { s with au.keyHold := s.au.keyHold.set 0 c 1, au.holdAt := s.au.holdAt.set 0 c s.mono }.setHeld c 1)

/-- 5 ms of a hold have passed (R239). -/
def State.holdOut (s : State) (c : Nat) : State :=
  if Tab.get 0 s.au.keyHold c = 1 ∧ Tab.get 0 s.au.holdAt c + 5 * ms ≤ s.mono then { s with au.keyHold := s.au.keyHold.set 0 c 2 }.setHeld c 0 else s

end Sys2Proof.Machine
end

