-- ==== Sys2Proof/Machine/Rings.lean ====
section
/-!
DEFINITION. Machine/Rings.lean: the host rings (R284 to R296): punt rings 0 to 63 and inject rings 64 to 127 of the HQ
fields, their completion records, the cells they hold and the punt engine.
-/
namespace Sys2Proof.Machine

/-- Cells of a frame of L octets, FCS included (R282). -/
def cellsOf (data : List Octet) : Nat := ceilDiv (data.length + 4) 256

def State.ring (s : State) (k : Nat) : Ring := Tab.get Ring.none s.hq.rings k
def State.setRing (s : State) (k : Nat) (r : Ring) : State := { s with hq.rings := s.hq.rings.set Ring.none k r }

/-- The ring runs (R285, R287). -/
def State.ringUp (s : State) (k : Nat) : Bool := s.on HQ_PUNT.EN k && !s.on HQ_PUNT.STOPPED k

/-- The ring may move data: it runs and its port masters the bus (R287, R388). -/
def State.ringDma (s : State) (k : Nat) : Bool := s.ringUp k && s.masters (s.get HQ_PUNT.PORT k)

/-- Entries of a ring. -/
def State.ringSize (s : State) (k : Nat) : Nat := 2 ^ s.get HQ_PUNT.SIZE_LOG2 k

/-- Descriptors posted and not yet consumed. -/
def State.posted (s : State) (k : Nat) : Nat := (s.get HQ_PUNT.PROD k + 65536 - s.get HQ_PUNT.CONS k) % 65536

/-- Completion records written and not yet acknowledged. -/
def State.unacked (s : State) (k : Nat) : Nat := (s.get HQ_PUNT.CPL_IDX k + 65536 - s.get HQ_PUNT.CPL_ACK k) % 65536

/-- Write one completion record (R286, R289, R293, R296). -/
def State.recWrite (s : State) (k : Nat) (r : Rec) : State :=
  let i := s.get HQ_PUNT.CPL_IDX k
  let n := s.ringSize k
  let ph := s.get HQ_PUNT.PHASE k
  let size := if k < 64 then 32 else 16
  let lost := if k < 64 then leBytes 4 (min (s.ring k).lostSince 0xFFFFFFFF) else []
  let body := if k < 64 then r.octets.take 12 ++ lost ++ r.octets.drop 16 else r.octets
  let rec_ := body.take 3 ++ [octetAt body 3 ||| BitVec.ofNat 8 ph] ++ body.drop 4
  let s := s.emit (.dmaWrite (s.get HQ_PUNT.PORT k) (s.get HQ_PUNT.CPL_BASE k + size * (i % n)) rec_)
  let s := s.set HQ_PUNT.CPL_IDX k (i + 1)
  let s := if (i + 1) % n = 0 then s.set HQ_PUNT.PHASE k (1 - ph) else s
  let s := if k < 64 then
      let s := (s.count HQ_PCNT.PACKETS k 1).count HQ_PCNT.OCTETS k r.len
      let s := if r.trunc then s.count HQ_PCNT.TRUNC k 1 else s
      s.setRing k { s.ring k with lostSince := 0 }
    else if r.status = 0 then s.count HQ_ICNT.ADMITTED (k - 64) 1
    else if r.status = 0xB then s.count HQ_ICNT.DMA_ERR (k - 64) 1
    else s.count HQ_ICNT.REFUSED (k - 64) 1
  s.pend (if k < 64 then 0x160 + k else 0x1A0 + (k - 64))

/-- The record that ring k writes next (R35): of an inject ring, that of the oldest descriptor, once it is known. -/
def Ring.next (r : Ring) (k : Nat) : Option Rec :=
  if k < 64 then r.recs.head? else (r.order.head?).bind (fun d => r.recs.find? (fun x => x.desc == d))

/-- The ring's state once that record is written. -/
def Ring.shift (r : Ring) (x : Rec) : Ring := { r with recs := r.recs.erase x, order := r.order.drop 1 }

/-- Write the records that are due, at most n, as far as the completion ring has room (R35, R286). -/
def State.recsGo (k : Nat) : Nat → State → State
  | 0, s => s
  | n + 1, s =>
    match (s.ring k).next k with
    | some r =>
      if s.ringDma k && s.unacked k < s.ringSize k then
        State.recsGo k n ((s.setRing k ((s.ring k).shift r)).recWrite k r)
      else s
    | none => s

/-- Write the waiting records of ring k. -/
def State.recsTry (s : State) (k : Nat) : State := State.recsGo k (s.ring k).recs.length s

/-- A record is due: it waits its turn. A ring that is stopped or disabled gets none (R287), nor does a descriptor that an
inject ring no longer waits for. -/
def State.recPut (s : State) (k : Nat) (r : Rec) : State :=
  if s.ringUp k && (k < 64 || (s.ring k).order.contains r.desc) then
    (s.setRing k { s.ring k with recs := (s.ring k).recs ++ [r] }).recsTry k
  else s

/-! Cells (R283, R290, R295). -/

/-- Cells that a punt ring holds. -/
def State.puntCells (s : State) (k : Nat) : Nat := ((s.ring k).waiting.map (·.cells)).sum

/-- Cells that inject ring k (64 to 127) holds: fetched frames before admission. -/
def State.injCells (s : State) (k : Nat) : Nat :=
  (s.fr.arrivals.map (fun x => ((x.2.filter (fun a => a.f.ring == some (k - 64))).map (fun a => cellsOf a.f.data)).sum)).sum

/-- Host-ring quota of a region (R283). -/
def State.ringQuota (s : State) (n : Nat) : Nat :=
  (((s.ones HQ_PUNT.EN).filter (fun k => s.get HQ_PUNT.REGION k == n)).map (fun k => s.get HQ_PUNT.QUOTA k)).sum

/-- Cells held under host-ring quotas in region n's slice. -/
def State.hqUsed (s : State) (n : Nat) : Nat :=
  (s.hq.rings.map (fun x => if x.1 < 64 then
    ((x.2.waiting.filter (fun p => !p.igr && p.reg == n)).map (·.cells)).sum else 0)).sum +
  (((upto 64).filter (fun k => s.get HQ_PUNT.REGION (64 + k) == n)).map (fun k => s.injCells (64 + k))).sum

/-! Punt rings. -/

/-- A packet of punt ring k is lost (R287, R291). -/
def State.puntLost (s : State) (k : Nat) : State :=
  let s := s.count HQ_PCNT.LOST k 1
  s.setRing k { s.ring k with lostSince := min ((s.ring k).lostSince + 1) 0xFFFFFFFF }

/-- Discard the oldest waiting packets whose writing has not begun until `need` cells fit in the quota (R291). -/
def State.puntRoom (s : State) (k need : Nat) : Nat → State
  | 0 => s
  | fuel + 1 =>
    if s.puntCells k + need ≤ s.get HQ_PUNT.QUOTA k then s
    else
      let w := (s.ring k).waiting
      match w with
      | [] => s
      | p :: rest =>
        if p.begun then
          match rest with
          | [] => s
          | _ :: rest' => ((s.setRing k { s.ring k with waiting := p :: rest' }).puntLost k).puntRoom k need fuel
        else ((s.setRing k { s.ring k with waiting := rest }).puntLost k).puntRoom k need fuel

/-- Hand a packet to punt ring k (R290, R291). A ring that is not enabled loses it (log entry 31). -/
def State.puntPush (s : State) (k : Nat) (p : Punt) : State :=
  if s.on HQ_PUNT.EN k = false then s.puntLost k
  else
    let s := s.puntRoom k p.cells ((s.ring k).waiting.length + 1)
    if s.puntCells k + p.cells ≤ s.get HQ_PUNT.QUOTA k then
      s.setRing k { s.ring k with waiting := (s.ring k).waiting ++ [p] }
    else s.puntLost k

/-- A packet for a ring: octets from DA, no FCS (R290). Egress copies lie in the ring's region, ingress packets in their
line port's. -/
def State.mkPunt (s : State) (k : Nat) (data : List Octet) (reason : Nat) (dirLine : Bool) (port rule time : Nat)
    (holdover : Bool) : Punt :=
  ⟨data, data.length, reason, dirLine, port, rule, time, holdover, cellsOf data,
   if dirLine then regionOfLp port else s.get HQ_PUNT.REGION k, dirLine, false, 0, 0, 0, false⟩

/-- The completion record of a packet (R289); LOST_SINCE and PHASE are filled in when it is written. -/
def puntRec (p : Punt) (trunc : Bool) : Rec :=
  ⟨leBytes 2 p.first ++ leBytes 1 p.nbuf ++
    leBytes 1 (2 * b2n trunc + 4 * b2n p.dirLine + 8 * b2n p.holdover + 16 * b2n p.badDesc) ++ leBytes 2 p.written ++
    leBytes 2 p.origLen ++ leBytes 1 p.reason ++ leBytes 1 p.port ++ leBytes 2 p.rule ++ leBytes 4 0 ++
    leBytes 12 (time96 p.time) ++ leBytes 4 0, p.written, trunc, 0, p.first⟩

/-- A punt descriptor's length is in range (R288). -/
def descOk (d : Desc) : Bool := 4 ≤ d.len64 && d.len64 ≤ 1024

/-- Use one posted descriptor for the packet at the front of ring k (R288, R290). -/
def State.puntDesc (s : State) (k : Nat) (p : Punt) (d : Desc) : Punt × State :=
  let i := s.get HQ_PUNT.CONS k
  let port := s.get HQ_PUNT.PORT k
  let s := s.emit (.dmaRead port (s.get HQ_PUNT.DESC_BASE k + 16 * (i % s.ringSize k)) 16)
  let s := s.set HQ_PUNT.CONS k (i + 1)
  let p := { p with begun := true, first := if p.nbuf = 0 then i else p.first, nbuf := p.nbuf + 1 }
  if descOk d then
    let part := slice p.data p.written (64 * d.len64)
    ({ p with written := p.written + part.length }, s.emit (.dmaWrite port d.addr part))
  else ({ p with badDesc := true }, s)

/-- Write the packet at the front of ring k into the posted descriptors, in order (R290); its record follows its last
octet. -/
def State.puntGo (s : State) (k : Nat) (p : Punt) : List Desc → State
  | [] => s.setRing k { s.ring k with waiting := p :: (s.ring k).waiting.drop 1 }
  | d :: ds =>
    if s.posted k = 0 then s.setRing k { s.ring k with waiting := p :: (s.ring k).waiting.drop 1 }
    else
      let r := s.puntDesc k p d
      if r.1.data.length ≤ r.1.written then
        (r.2.setRing k { r.2.ring k with waiting := (r.2.ring k).waiting.drop 1 }).recPut k (puntRec r.1 false)
      else r.2.puntGo k r.1 ds

/-- Write one packet (PUNT_PACKET_WRITE); `descs` are the posted descriptors as host memory holds them. -/
def State.puntWrite (s : State) (k : Nat) (descs : List Desc) : State :=
  match (s.ring k).waiting with
  | p :: _ => if s.ringDma k then s.puntGo k p descs else s
  | [] => s

/-- DROP_REST (R292). -/
def State.puntDrop (s : State) (k : Nat) : State :=
  match (s.ring k).waiting with
  | p :: rest =>
    if p.begun then
      ((s.setRing k { s.ring k with waiting := rest }).recPut k (puntRec p true)).set HQ_CTL.RESULT k 1
    else s.set HQ_CTL.RESULT k 2
  | [] => s.set HQ_CTL.RESULT k 2

/-- Every waiting packet of punt ring k is lost (R287). -/
def State.puntFlush (s : State) (k : Nat) : State :=
  let n := (s.ring k).waiting.length
  let s := s.setRing k { s.ring k with waiting := [], lostSince := min ((s.ring k).lostSince + n) 0xFFFFFFFF }
  if n = 0 then s else s.count HQ_PCNT.LOST k n

/-- The frames that inject ring k has fetched go on without a record (R287). -/
def State.ringForget (s : State) (k : Nat) : State :=
  let cut (a : Arrival) : Arrival := if a.inj.any (fun x => x.1 == k - 64) then { a with inj := none } else a
  let s := s.setRing k { s.ring k with recs := [], order := [] }
  if k < 64 then s
  else { s with fr.arrivals := s.fr.arrivals.map (fun x => (x.1, x.2.map cut)),
                fr.deepWr := s.fr.deepWr.map (fun x => (x.1, x.2.map (fun w => { w with a := cut w.a }))) }

/-- The link of a ring's port goes down (R287). -/
def State.ringStop (s : State) (k : Nat) : State :=
  if s.on HQ_PUNT.EN k then
    let s := (s.set HQ_PUNT.STOPPED k 1).ringForget k
    if k < 64 then
      match (s.ring k).waiting with
      | p :: rest => if p.begun then (s.setRing k { s.ring k with waiting := rest }).puntLost k else s
      | [] => s
    else s
  else s

/-! Inject rings. -/

/-- Completion of an injected frame (R296); `k` counts inject rings from 0. -/
def State.injDone (s : State) (k desc status queue : Nat) : State :=
  s.recPut (64 + k) ⟨leBytes 2 desc ++ leBytes 1 status ++ leBytes 1 0 ++ leBytes 2 queue ++ leBytes 10 0, 0, false, status, desc⟩

/-! Register writes (R285). -/

/-- Fields of a ring that only a disabled ring takes. -/
def ringLocked : List Fld := [HQ_PUNT.PORT, HQ_PUNT.SIZE_LOG2, HQ_PUNT.REGION, HQ_PUNT.QUOTA, HQ_PUNT.DESC_BASE,
  HQ_PUNT.CPL_BASE]

/-- Sum of GUAR over the queues of region n (R250). -/
def State.guarSum (s : State) (n : Nat) : Nat :=
  (((s.ones QUE_DQ.GUAR).filter (fun q =>
    (if q < 8192 then s.get SCT_TX.LPORT (q / 2) / 4 else (q - 8192) / 16) == n)).map (fun q => s.get QUE_DQ.GUAR q)).sum

/-- Size of region n's egress pool (R250, R283). -/
def State.poolSize (s : State) (n : Nat) : Nat :=
  65536 - Tab.get 0 s.fl.cellsLost n - s.get RGN_IGR_POOL.RESERVE n - s.ringQuota n

/-- EN of a ring goes from 0 to 1 (R285). -/
def State.ringOn (s : State) (k : Nat) : State :=
  ((((s.set HQ_PUNT.CONS k 0).set HQ_PUNT.CPL_IDX k 0).set HQ_PUNT.PHASE k 1).set HQ_PUNT.STOPPED k 0).setRing k
    { s.ring k with recs := [], desc := none, order := [] }

/-- EN of a ring goes from 1 to 0 (R285, R287). -/
def State.ringOff (s : State) (k : Nat) : State :=
  let s := (if k < 64 then s.puntFlush k else s).ringForget k
  s.setRing k { s.ring k with desc := none }

/-- The PROD and CPL_ACK limits of R285. A disabled ring starts with CONS and CPL_IDX 0, so they are held against 0
(log entry 66). -/
def State.prodBad (s : State) (k : Nat) : Bool :=
  let on := s.on HQ_PUNT.EN k
  let gap (a b : Nat) : Bool := decide (s.ringSize k < (a + 65536 - b) % 65536)
  gap (s.get HQ_PUNT.PROD k) (if on then s.get HQ_PUNT.CONS k else 0) ||
    gap (if on then s.get HQ_PUNT.CPL_IDX k else 0) (s.get HQ_PUNT.CPL_ACK k)

/-- Write a word of a ring's entry (R283, R285). Bits 5:0 of the bases are zero. -/
def State.ringWrite (s : State) (w : Writer) (k word v : Nat) : State :=
  let v := if word = 1 ∨ word = 3 then v / 64 * 64 else v
  let off := if k < 64 then 0x600000 + 64 * k + 4 * word else 0x601000 + 64 * (k - 64) + 4 * word
  let t := s.writeWord reg_HQ_PUNT k word v
  let n := t.1
  let was := s.on HQ_PUNT.EN k
  let now := n.on HQ_PUNT.EN k
  let r := n.get HQ_PUNT.REGION k
  if was ∧ ringLocked.any (fun f => n.get f k != s.get f k) then s.reject w 2 false off
  else if word = 5 ∧ n.prodBad k then s.reject w 3 false off
  else if was = false ∧ now ∧ n.poolSize r < n.guarSum r + 4096 then s.reject w 3 false off
  else
    let n := if t.2 then n.reject w 1 false off else n
    let n := if was = false ∧ now then n.ringOn k else if was ∧ now = false then n.ringOff k else n
    n.recsTry k

end Sys2Proof.Machine
end

