-- ==== Sys2Proof/Machine/Plane.lean ====
section
/-!
DEFINITION. Machine/Plane.lean: queues and tiers (R245 to R250), shapers (R251 to R254), admission (R255 to R259),
priority flow control (R260 to R262) and deficit round robin (R247, R248, R271).
-/
namespace Sys2Proof.Machine

/-! Queues: data queue q is number q, control queue c is 8,192 + c (R245, R249). -/

def State.queue (s : State) (q : Nat) : Queue := Tab.get Queue.none s.pl.queues q
def State.setQueue (s : State) (q : Nat) (x : Queue) : State := { s with pl.queues := s.pl.queues.set Queue.none q x }

/-- Line port that serves a queue. -/
def State.queuePort (s : State) (q : Nat) : Nat := if q < 8192 then s.get SCT_TX.LPORT (q / 2) else (q - 8192) / 4

/-- The tier of a data queue: 0 express, 1 bulk. -/
def tierOf (q : Nat) : Nat := q % 2

/-- Key of a port's active list for a tier. -/
def drrKey (lp tier : Nat) : Nat := 2 * lp + tier

/-- Frames of a queue, cell-buffer part first. -/
def Queue.frames (x : Queue) : List Frame := x.cells ++ x.deep.map (·.f)

/-- Cells of a frame. -/
def Frame.cells (f : Frame) : Nat := cellsOf f.data

/-- Line-side length of a frame, DA to FCS (R82, R246). -/
def State.lineLenOf (s : State) (f : Frame) : Nat :=
  match f.sc with
  | some c => f.data.length + 4 + (if s.on SCT_TX.SC_BIT c then 32 else 24)
  | none => f.data.length + 4

/-- The charge C(f) (R246). -/
def State.charge (s : State) (f : Frame) : Nat := s.lineLenOf f + 20

/-- Time of n octets on a line port, in 2^-32 ns. -/
def State.octTime (s : State) (lp n : Nat) : Nat := n * 8 * ns / s.lpRate lp

/-- A region is fenced. -/
def State.fenced (s : State) (r : Nat) : Bool :=
  (match r with
    | 0 => s.get GLB_REGION_STATUS.RGN0 0
    | 1 => s.get GLB_REGION_STATUS.RGN1 0
    | 2 => s.get GLB_REGION_STATUS.RGN2 0
    | _ => s.get GLB_REGION_STATUS.RGN3 0) == 3

/-! Cells of a region (R250, R282, R283). -/

/-- Frames that have left their queues and not yet the device, carriers apart: a carrier takes no cells. -/
def State.inFlight (s : State) : List Frame :=
  (s.fr.egress.flatMap (fun x => x.2.filterMap (fun i => if i.car.isSome then none else some i.f))) ++
  (s.fr.lineOut.flatMap (fun x => x.2.filterMap (fun i => if i.car.isSome then none else some i.f)))

/-- Cells that the frames of a list hold in region r's slice. -/
def cellsIn (r : Nat) (l : List Frame) : Nat := ((l.filter (fun f => f.reg == r)).map Frame.cells).sum

/-- Cells of frames that have left their queues and not yet the device. -/
def State.flightCells (s : State) (r : Nat) : Nat := cellsIn r s.inFlight

/-- Cells of region r's egress pool in use (R262 USED, R283 EGR_USED): a queue's cells stay charged to the region in which
they were admitted (R245). -/
def State.poolUsed (s : State) (r : Nat) : Nat :=
  (s.pl.queues.map (fun x => cellsIn r x.2.cells)).sum + s.flightCells r

/-- Cells of region r held by received frames before their admission, and by frames on their way into the deep buffer
(R282); those of an inject ring lie in its quota. -/
def State.waitCells (s : State) (r : Nat) : Nat :=
  (((Tab.get [] s.fr.arrivals r).filter (fun a => a.f.ring.isNone)).map (fun a => a.f.cells)).sum +
  ((Tab.get [] s.fr.deepWr r).map (fun w => w.a.f.cells)).sum

/-- Size of the shared part (R250). -/
def State.poolShared (s : State) (r : Nat) : Nat := s.poolSize r - s.guarSum r

/-- Shared cells of region r not in use (R255). -/
def State.freeShared (s : State) (r : Nat) : Nat :=
  s.poolShared r - (s.pl.queues.map (fun x => cellsIn r x.2.cells -
    (if regionOfLp (s.queuePort x.1) = r then s.get QUE_DQ.GUAR x.1 else 0))).sum - s.flightCells r

/-! Priority flow control (R260 to R262). -/

/-- OCC of priority p on host port h (R260): cells of admitted frames that are not yet dequeued. -/
def State.occ (s : State) (h p : Nat) : Nat :=
  (s.pl.queues.map (fun x => ((x.2.cells.filter (fun f => f.src == some h && f.prio == p)).map Frame.cells).sum)).sum

/-- Host port h holds a cell in region n's pool. -/
def State.holdsCell (s : State) (h n : Nat) : Bool :=
  let own (f : Frame) : Bool := f.src == some h && f.reg == n
  s.pl.queues.any (fun x => x.2.cells.any own) || s.inFlight.any own

/-- A region trigger holds for host port h (R262). -/
def State.poolTrig (s : State) (h : Nat) : Bool :=
  (upto 4).any (fun n => Tab.get false s.pl.poolPaused n && s.holdsCell h n)

/-- A priority flow control frame (R261): enable vector and times. -/
def State.pfcFrame (s : State) (h en xoff : Nat) : List Octet :=
  padTo 60 (beBytes 6 0x0180C2000001 ++ beBytes 6 (s.get RGN_HPORT.MAC h) ++ beBytes 2 0x8808 ++ beBytes 2 0x0101 ++
    beBytes 2 en ++ (upto 8).flatMap (fun p => beBytes 2 (if bit xoff p then s.get PLN_HPFC.QUANTA h else 0)))

/-- Queue a priority flow control frame ahead of a host port's output; counted as it is queued (log entry 33). -/
def State.pfcSend (s : State) (h en xoff : Nat) : State :=
  if s.on RGN_HPORT.LINK h then
    let s := { s with fr.pfcOut := s.fr.pfcOut.set [] h (Tab.get [] s.fr.pfcOut h ++ [s.pfcFrame h en xoff]) }
    let s := if xoff = 0 then s
      else ({ s with pl.xoffAt := s.pl.xoffAt.set 0 h s.mono }.count PLN_HPFC.XOFF_TX h 1).pend 0x34B
    if en = xoff then s else s.count PLN_HPFC.XON_TX h 1
  else s

/-- Re-evaluate the priorities of host port h (R261). -/
def State.pfcHost (s : State) (h : Nat) : State :=
  let en := s.get PLN_HPFC.PFC_EN h
  let was := s.get PLN_HPFC.PAUSED h
  let trig := s.poolTrig h
  let on (p : Nat) : Bool :=
    let o := s.occ h p
    bit en p && (if bit was p then s.get PLN_HPFC.XON h < o || trig else s.get PLN_HPFC.XOFF h ≤ o || trig)
  let m := ((upto 8).map (fun p => if on p then 2 ^ p else 0)).sum
  if m = was then s else (s.set PLN_HPFC.PAUSED h m).pfcSend h (m ^^^ was) (m &&& (m ^^^ was))

/-- Re-evaluate the pool triggers and every port's priorities after a change of what is queued. -/
def State.pfc (s : State) : State :=
  let s := s.each (upto 4) (fun n s =>
    let u := s.poolUsed n
    if Tab.get false s.pl.poolPaused n then
      (if u ≤ s.get PLN_POOL.POOL_XON n then { s with pl.poolPaused := s.pl.poolPaused.set false n false } else s)
    else if s.get PLN_POOL.POOL_XOFF n ≤ u then
      { s with pl.poolPaused := s.pl.poolPaused.set false n true }.pend (0x340 + n)
    else s)
  s.each ((upto 32).filter (fun h => s.get PLN_HPFC.PFC_EN h != 0 || s.get PLN_HPFC.PAUSED h != 0)) (fun h s => s.pfcHost h)

/-- Time of n quanta of 512 bit times on host port h, in 2^-32 ns (R260, R320). -/
def State.quantaTime (s : State) (h n : Nat) : Nat :=
  n * 512 * ns / (match s.get RGN_HPORT.SPEED h with
    | 0 => 200
    | 1 => 400
    | _ => 800)

/-- PFC_REFRESH (R261): while a priority stays paused the XOFF is repeated, REFRESH quanta after the last. -/
def State.pfcRefresh (s : State) (h : Nat) : State :=
  let m := s.get PLN_HPFC.PAUSED h
  if m = 0 ∨ s.mono < Tab.get 0 s.pl.xoffAt h + s.quantaTime h (s.get PLN_HPFC.REFRESH h) then s else s.pfcSend h m m

/-! Depth bookkeeping. -/

/-- Highest DEPTH of a queue since MAX_DEPTH was last read (R249): the depth that stands counts. -/
def State.maxDepth (s : State) (q : Nat) : Nat := max (s.get QUE_DQ.MAX_DEPTH q) (s.get QUE_DQ.DEPTH q)

/-- The queue's depth changes to d cells. -/
def State.setDepth (s : State) (q d : Nat) : State :=
  (s.set QUE_DQ.MAX_DEPTH q (max (s.maxDepth q) d)).set QUE_DQ.DEPTH q d

/-- A queue's event bit (R259). -/
def State.qEvent (s : State) (q : Nat) : State := s.set PLN_QEV.V (q / 32) (setBit (s.get PLN_QEV.V (q / 32)) (q % 32))

/-- A data queue that becomes non-empty joins its tier's list with deficit 0 (R248). -/
def State.joinList (s : State) (q : Nat) : State :=
  if q < 8192 then
    let k := drrKey (s.queuePort q) (tierOf q)
    let d := Tab.get Drr.none s.pl.drr k
    if d.list.contains q then s
    else (s.setQueue q { s.queue q with deficit := 0 }) |> fun s =>
      { s with pl.drr := s.pl.drr.set Drr.none k { d with list := d.list ++ [q] } }
  else s

/-- An active list without queue q; a turn of q ends. -/
def Drr.without (d : Drr) (q : Nat) : Drr :=
  if d.list.contains q then ⟨d.list.filter (fun x => x != q), d.started && !(d.list.head? == some q)⟩ else d

/-- An emptied queue leaves its list and its deficit becomes 0 (R248). -/
def State.leaveList (s : State) (q : Nat) : State :=
  let s := s.setQueue q { s.queue q with deficit := 0 }
  { s with pl.drr := (s.pl.drr.map (fun x => (x.1, x.2.without q))).filter (fun x => x.2 != Drr.none) }

/-- A queue that has become empty. -/
def State.checkEmpty (s : State) (q : Nat) : State :=
  if q < 8192 ∧ (s.queue q).frames = [] then s.leaveList q else s

/-- The queues of a transmit SC follow a change of its LPORT (R245; log entry 36). -/
def State.queueMove (s : State) (c : Nat) : State :=
  s.each [2 * c, 2 * c + 1] (fun q s => if (s.queue q).frames = [] then s else (s.leaveList q).joinList q)

/-- A word of a transmit SC entry (R71, R72, R237, R245). -/
def State.txScPut (s : State) (w : Writer) (c word v : Nat) : State :=
  let n := (s.txScWrite w c word v).scJoins s .eg c
  if n.get SCT_TX.LPORT c = s.get SCT_TX.LPORT c then n else n.queueMove c

/-! Admission (R255). -/

/-- The mode turns a frame away (R41), user frames that arrive while the overlay of SECURE or GUARDED is applied in STANDBY
among them (R46; log entry 62). -/
def State.modeDiscards (s : State) (f : Frame) : Bool := if f.sc.isSome then !s.userPasses else !s.clearPasses

/-- A guarded queue (R255). -/
def State.guardedQueue (s : State) (q : Nat) : Bool := decide (q < 8192) && s.guarded (s.queuePort q)

/-- The deep buffer takes n more units (R255). -/
def State.deepAvailable (s : State) (n : Nat) : Bool :=
  s.deepReady && !s.on GLB_DEGRADED_CAUSE.DEEP_FLOOR 0 && n ≤ s.freeUnits

/-- A frame is admitted: its completion record, if it came from a ring (R296). -/
def State.admitted (s : State) (a : Arrival) : State :=
  let s := s.count QUE_DCNT.ADMITTED a.f.queue 1
  match a.inj with
  | some (k, d) => s.injDone k d 0 a.f.queue
  | none => s

/-- A frame is refused at admission with an R296 status, counted in a queue counter (sampler reasons of R444). -/
def State.refuse (s : State) (a : Arrival) (ctr : Fld) (status : Nat) : State :=
  let s := s.count ctr a.f.queue 1
  let s := match a.inj with
    | some (k, d) => s.injDone k d status 0xFFFF
    | none => s
  s.smpEgress a.f 0 0 0 (if status = 7 then 7 else 1)

/-- A frame is discarded before its admission ends, by mode (7) or by a region fence (8). R296 gives no status for the
fence: that octet is a free value. -/
def State.dropArrival (s : State) (a : Arrival) (ctr : Fld) (reason : Nat) : State :=
  let s := s.count ctr a.f.queue 1
  let s := match a.inj with
    | some (k, d) => if reason = 7 then s.injDone k d 7 0xFFFF else
        let v := s.free
        v.2.injDone k d (v.1 % 256) 0xFFFF
    | none => s
  s.smpEgress a.f 0 0 0 reason

/-- Refusals that R259 reports: 0 QUEUE_LIMIT, 1 POOL_EXHAUSTED, 2 GUARD_OVERFLOW. -/
def State.refuseWhy (s : State) (r : Nat) (a : Arrival) (why : Nat) : State :=
  let s := s.qEvent a.f.queue
  match why with
  | 0 => (s.refuse a QUE_DCNT.D_QUEUE_LIMIT 4).pend 0x348
  | 1 => (s.refuse a QUE_DCNT.D_POOL 5).pend (0x344 + r)
  | _ => (s.refuse a QUE_DCNT.D_GUARD 6).pend 0x34A

/-- deep_admit (R255). -/
def State.deepAdmit (s : State) (r : Nat) (a : Arrival) (guard : Bool) : State :=
  let q := a.f.queue
  let n := a.f.cells
  if 16 * s.get QUE_DQ.DB_LIMIT q < s.get QUE_DQ.DB_CELLS q + n then s.refuseWhy r a (if guard then 2 else 0)
  else if s.deepAvailable n = false then s.refuseWhy r a (if guard then 2 else 1)
  else
    let t := s.deepStore a.f.data n
    let s := t.2.set QUE_DQ.DB_CELLS q (s.get QUE_DQ.DB_CELLS q + n)
    let s := if guard then s else s.set QUE_DQ.SPILLING q 1
    { s with fr.deepWr := s.fr.deepWr.set [] r (Tab.get [] s.fr.deepWr r ++ [⟨a, t.1⟩]) }

/-- enqueue_cells: the frame's cells are charged to region r (R245). -/
def State.enqueueCells (s : State) (r : Nat) (a : Arrival) : State :=
  let q := a.f.queue
  let x := s.queue q
  let s := (s.setQueue q { x with cells := x.cells ++ [{ a.f with age := s.mono, reg := r, time := if a.f.ring.isSome then s.now else a.f.time }] }).setDepth q (s.get QUE_DQ.DEPTH q + a.f.cells)
  ((s.set QUE_DQ.FRAMES q (s.get QUE_DQ.FRAMES q + 1)).joinList q).admitted a

/-- α(q) × n, exactly: whether x exceeds it. -/
def State.overAlpha (s : State) (q x n : Nat) : Bool := decide (2 ^ s.get QUE_DQ.ALPHA q * n < 16 * x)

/-- Part of queue q lies in the deep buffer or is on its way there (R32, R256). -/
def State.deepTail (s : State) (q : Nat) : Bool :=
  s.on QUE_DQ.SPILLING q || (s.queue q).deep != [] || s.fr.deepWr.any (fun x => x.2.any (fun w => w.a.f.queue == q))

/-! The arbiter of the deep buffer (R17, R18). -/

/-- A deep-buffer read of queue q can be made: a frame waits there, and its region has the cells (R256). -/
def State.readDue (s : State) (q : Nat) : Bool :=
  match (s.queue q).deep with
  | [] => false
  | d :: _ =>
    let r := regionOfLp (s.queuePort q)
    decide (s.poolUsed r + d.f.cells ≤ s.poolSize r) && !s.unitsHeld d.units

/-- Region r asks for a deep-buffer read. -/
def State.readReq (s : State) (r : Nat) : Bool :=
  s.pl.queues.any (fun x => regionOfLp (s.queuePort x.1) == r && s.readDue x.1)

/-- Region r asks for a deep-buffer write. -/
def State.writeReq (s : State) (r : Nat) : Bool :=
  match Tab.get [] s.fr.deepWr r with
  | [] => false
  | w :: _ => !s.unitsHeld w.units

/-- The region whose turn it is: the first from the turn on that asks; a region that does not leaves its share (R17). -/
def State.deepRegion (s : State) : Option Nat :=
  ((upto 4).map (fun i => (s.vn.deepTurn + i) % 4)).find? (fun r => s.readReq r || s.writeReq r)

/-- Region r's turn goes to its write: no read asks, or the write has waited for 16 reads (R18). -/
def State.writeTurn (s : State) (r : Nat) : Bool := s.writeReq r && (!s.readReq r || decide (16 ≤ Tab.get 0 s.vn.wrWait r))

/-- The deep buffer is granted to a read, or to a write, of region r. -/
def State.readGrant (s : State) (r : Nat) : Bool := s.deepRegion == some r && !s.writeTurn r
def State.writeGrant (s : State) (r : Nat) : Bool := s.deepRegion == some r && s.writeTurn r

/-- A turn of region r is used: the next round begins behind Region 3, and with it the rekey engine's turn (R17, R305).
`wait` is the number of reads that the region's write has now waited for; a Chisel command of the region waits too (R18). -/
def State.deepUsed (s : State) (r wait : Nat) : State :=
  { s with vn.deepTurn := (r + 1) % 4, vn.wrWait := s.vn.wrWait.set 0 r wait,
           vn.chsWait := s.vn.chsWait.set 0 r (if (s.nextItem r).isSome then Tab.get 0 s.vn.chsWait r + 1 else 0),
           vn.engTurn := s.vn.engTurn && decide (r + 1 < 4) }

/-- The rekey pass is behind its pace: its boundary reaches D within 90 % of the period (R305). -/
def State.passBehind (s : State) : Bool :=
  decide (s.get VNR_BOUNDARY.V 0 * s.get VNR_CTL.PASS_MIN 0 * 54 * sec < (s.mono - s.vn.passAt) * s.dataPages)

/-- The rekey engine walks a page in a turn that the regions leave, or once a round while it is behind (R305). -/
def State.rekeyTurn (s : State) : State :=
  if s.deepRegion = none then s.passWalk
  else if s.passBehind && !s.vn.engTurn then { s with vn.engTurn := true }.passWalk else s

/-- The oldest deep-buffer write of region r completes, in the region's turn: its frame is admitted (R17, R255). -/
def State.deepWritten (s : State) (r : Nat) : State :=
  match Tab.get [] s.fr.deepWr r with
  | [] => s
  | w :: rest =>
    if s.writeGrant r = false then s
    else
    let s := { s with fr.deepWr := s.fr.deepWr.set [] r rest }.deepUsed r 0
    let q := w.a.f.queue
    let x := s.queue q
    let s := s.setQueue q { x with deep := x.deep ++ [⟨{ w.a.f with age := s.mono, deep := true, reg := 4 }, w.units⟩] }
    ((s.set QUE_DQ.FRAMES q (s.get QUE_DQ.FRAMES q + 1)).joinList q).admitted w.a

/-- Read the queue's oldest deep-buffer frame back into cells, in its region's turn (R17, R256, R306, R307). -/
def State.deepBack (s : State) (q : Nat) : State :=
  let x := s.queue q
  match x.deep with
  | [] => s
  | d :: rest =>
    let n := d.f.cells
    let r := regionOfLp (s.queuePort q)
    if s.readGrant r = false ∨ s.readDue q = false then s
    else
      let t := (s.deepUsed r (if s.writeReq r then Tab.get 0 s.vn.wrWait r + 1 else 0)).deepFetch d.units
      let db := t.2.get QUE_DQ.DB_CELLS q - n
      let s := t.2.set QUE_DQ.DB_CELLS q db
      let s := if db = 0 then s.set QUE_DQ.SPILLING q 0 else s
      match t.1 with
      | some o =>
        let s := s.setQueue q { s.queue q with deep := rest, cells := x.cells ++ [{ d.f with data := o.take d.f.data.length, reg := r }] }
        (s.setDepth q (s.get QUE_DQ.DEPTH q + n)).pfc
      | none =>
        let s := s.setQueue q { s.queue q with deep := rest }
        ((s.set QUE_DQ.FRAMES q (s.get QUE_DQ.FRAMES q - 1)).deepLoss q |>.smpEgress d.f 0 0 0 6).checkEmpty q

/-- A frame as it leaves queue q (R14, R32): its port is the queue's present one, its place in the order is the next. -/
def State.leaving (s : State) (q : Nat) (f : Frame) : Frame × State :=
  ({ f with lp := s.queuePort q, ord := s.fr.taken }, { s with fr.taken := s.fr.taken + 1 })

/-- Frames of transmit SC c are past step 6 on another port than k: they leave before the SC's next frame does (R30,
R31). -/
def State.elsewhere (s : State) (c k : Nat) : Bool :=
  s.fr.egress.any (fun x => x.2.any (fun i => i.sc == c && i.f.lp != k)) ||
  s.fr.lineOut.any (fun x => x.1 != k && x.2.any (fun i => i.f.sc == some c))

/-- Take the head out of a queue's cells. -/
def State.popHead (s : State) (q : Nat) : State :=
  let x := s.queue q
  match x.cells with
  | [] => s
  | f :: rest =>
    let s := (s.setQueue q { x with cells := rest }).setDepth q (s.get QUE_DQ.DEPTH q - f.cells)
    s.set QUE_DQ.FRAMES q (s.get QUE_DQ.FRAMES q - 1)

/-- A head frame is older than AGE_US (R257); a launch frame only once its time has passed. -/
def State.aged (s : State) (q : Nat) (f : Frame) : Bool :=
  let a := s.get QUE_DQ.AGE_US q
  a != 0 && f.age + a * us < s.mono && f.launch.all (fun t => t < s.now)

/-- Shed the aged heads of a queue (R257). -/
def State.shed (s : State) (q : Nat) : Nat → State
  | 0 => s
  | n + 1 =>
    match (s.queue q).cells with
    | f :: _ =>
      if s.aged q f then
        (((s.popHead q).count QUE_DCNT.D_AGED q 1).qEvent q |>.pend 0x349 |>.smpEgress f 0 0 0 2).shed q n
      else s
    | [] => s

/-- Shed every aged head of a queue, and drop the queue from its list if it empties. -/
def State.shedAll (s : State) (q : Nat) : State := (s.shed q (s.queue q).cells.length).checkEmpty q

/-! Shapers (R251 to R254). Data queue q is shaper q, port k 8,192 + k, guarded stream k 8,208 + k. -/

/-- The level an untouched shaper has (R251). -/
def Level.reset : Level := ⟨0x4000 * 65536, 0⟩

/-- Level at this instant, in 2^-16 octet (R252). -/
def State.level (s : State) (i : Nat) : Int :=
  let l := Tab.get Level.reset s.pl.levels i
  min (s.get QUE_SHP.BURST i * 65536 : Nat)
    (l.lev + ((s.get QUE_SHP.RATE i * 125000 * 65536 * (s.mono - l.at_) / sec : Nat) : Int))

/-- Set a level. -/
def State.setLevel (s : State) (i : Nat) (v : Int) : State :=
  { s with pl.levels := s.pl.levels.set Level.reset i ⟨v, s.mono⟩ }

/-- The shaper is eligible (R252). -/
def State.shpOk (s : State) (i : Nat) : Bool := !s.on QUE_SHP.ENABLE i || decide (0 < s.level i)

/-- Charge a shaper with n octets (R252). -/
def State.shpCharge (s : State) (i n : Nat) : State := s.setLevel i (s.level i - ((n * 65536 : Nat) : Int))

/-- LEVEL as it reads (R251): octets, rounded towards minus infinity. -/
def State.levelRead (s : State) (i : Nat) : Nat := unsigned 32 (s.level i / 65536)

/-- LEVEL becomes BURST or 0 (R253, R254). -/
def State.shpInit (s : State) (i : Nat) (clear : Bool) : State :=
  s.setLevel i (if clear then 0 else ((s.get QUE_SHP.BURST i * 65536 : Nat) : Int))

/-- Put new values into a shaper (R253): ENABLE, EGROUP, LEN_ADJ, RATE, BURST, INIT. -/
def State.shpAdopt (s : State) (i en grp adj rate burst : Nat) (clear : Bool) : State :=
  let s := (((((s.set QUE_SHP.ENABLE i en).set QUE_SHP.EGROUP i grp).set QUE_SHP.LEN_ADJ i adj).set
    QUE_SHP.RATE i rate).set QUE_SHP.BURST i burst)
  { s.set QUE_SHP.PENDING i 0 with pl.shpStage := s.pl.shpStage.set [] i [] }.shpInit i clear

/-- A word-0 write of a shaper (R253), with the writer's held words 1 and 2 (R251). A reserved RATE or BURST takes its reset
value and is counted at the write, staged or not (R9). -/
def State.shpWrite (s : State) (w : Writer) (i v : Nat) (word1 word2 : Option Nat) (off : Nat) : State :=
  let en := bits v 0 1
  let r := word1.getD (s.get QUE_SHP.RATE i)
  let b := (word2.map (fun x => bits x 0 24)).getD (s.get QUE_SHP.BURST i)
  let badRate := decide (1600000 < r) || (en == 1 && r == 0)
  let badBurst := decide (b < 64)
  let rate := if badRate then 0 else r
  let burst := if badBurst then 0x4000 else b
  let s := if bit v 2 then
      { s.set QUE_SHP.PENDING i 1 with
        pl.shpStage := s.pl.shpStage.set [] i [en, bits v 4 8, bits v 12 6, rate, burst, bits v 1 1] }
    else s.shpAdopt i en (bits v 4 8) (bits v 12 6) rate burst (bit v 1)
  if badRate || badBurst then s.reject w 1 false off else s

/-- Shapers of an epoch group (R254). -/
def State.shpGroup (s : State) (g : Nat) : List Nat :=
  (upto 8224).filter (fun i => s.get QUE_SHP.EGROUP i == g)

/-- A SHAPER_EPOCH firing (R254). -/
def State.shpEpoch (s : State) (g param : Nat) : State :=
  if param = 0 then
    s.each ((s.ones QUE_SHP.PENDING).filter (fun i => s.get QUE_SHP.EGROUP i == g)) (fun i s =>
      match Tab.get [] s.pl.shpStage i with
      | [en, grp, adj, rate, burst, ini] => s.shpAdopt i en grp adj rate burst (ini == 1)
      | _ => s.set QUE_SHP.PENDING i 0)
  else s.each (s.shpGroup g) (fun i s => s.shpInit i (param == 2))

/-! Deficit round robin (R248, R271). -/

/-- What a tier charges for a frame: C(f), or ORIG_LEN + 8 on a guarded port (R271). -/
def State.drrCharge (s : State) (guarded : Bool) (f : Frame) : Nat :=
  if guarded then f.data.length + 8 else s.charge f

/-- What a queue shaper charges for a frame. -/
def State.shpCost (s : State) (guarded : Bool) (q : Nat) (f : Frame) : Nat :=
  if guarded then f.data.length + 8 else s.lineLenOf f + s.get QUE_SHP.LEN_ADJ q

/-- Change the active list. -/
def State.setDrr (s : State) (k : Nat) (d : Drr) : State := { s with pl.drr := s.pl.drr.set Drr.none k d }

/-- The queue at the front of a tier that may send its head now; turns begin and end on the way (R248). `skips` counts
queues passed over without quantum in a row. Guarded ports do not run the gate of other SCs (R264). -/
def State.drrGo (k : Nat) (guarded : Bool) : Nat → Nat → State → Option Nat × State
  | 0, _, s => (none, s)
  | fuel + 1, skips, s =>
    match (Tab.get Drr.none s.pl.drr k).list with
    | [] => (none, s)
    | q :: _ =>
      let s := s.shedAll q
      let d := Tab.get Drr.none s.pl.drr k
      if d.list.head? ≠ some q then State.drrGo k guarded fuel skips s
      else if d.list.length ≤ skips then (none, s)
      else
        let turn : State → State := fun s => s.setDrr k { list := d.list.drop 1 ++ [q], started := false }
        match (s.queue q).cells with
        | [] => State.drrGo k guarded fuel (skips + 1) (turn s)
        | f :: _ =>
          let g : Bool × State := if guarded then (true, s)
            else if s.elsewhere (q / 2) (s.queuePort q) then (false, s) else s.gateHold (q / 2)
          let s := g.2
          if g.1 = false ∨ s.shpOk q = false then State.drrGo k guarded fuel (if d.started then skips else skips + 1) (turn s)
          else
            let s := if d.started then s
              else (s.setQueue q { s.queue q with deficit := (s.queue q).deficit + s.get QUE_DQ.QUANTUM q }).setDrr k
                { d with started := true }
            if s.drrCharge guarded f ≤ (s.queue q).deficit then (some q, s)
            else State.drrGo k guarded fuel 0 (turn s)

/-- The queue whose head a tier sends next, if any. -/
def State.drrPeek (s : State) (lp tier : Nat) (guarded : Bool) : Option Nat × State :=
  let k := drrKey lp tier
  State.drrGo k guarded (200 * ((Tab.get Drr.none s.pl.drr k).list.length + 1)) 0 s

/-- Express, then bulk (R247, R270). -/
def State.drrPeek2 (s : State) (lp : Nat) (guarded : Bool) : Option Nat × State :=
  match s.drrPeek lp 0 guarded with
  | (some q, s) => (some q, s)
  | (none, s) => s.drrPeek lp 1 guarded

/-- Send the head of queue q: deficit, shaper, DEQUEUED (R248, R252, R258). -/
def State.drrTake (s : State) (q : Nat) (guarded : Bool) : Option Frame × State :=
  match (s.queue q).cells with
  | [] => (none, s)
  | f :: _ =>
    let x := s.queue q
    let s := s.setQueue q { x with deficit := x.deficit - s.drrCharge guarded f }
    let t := (s.shpCharge q (s.shpCost guarded q f)).leaving q f
    (some t.1, ((t.2.popHead q).count QUE_DCNT.DEQUEUED q 1).checkEmpty q)

/-! Discards of queued frames (R19, R45). -/

/-- Discard every frame of a queue for which a test holds, counting it in a queue counter. The frames of a region fence
that were not admitted yet are counted like the others (R19, R90; log entry 67). -/
def State.queueFlush (s : State) (q : Nat) (ctr : Fld) (reason : Nat) (p : Frame → Bool) : State :=
  let x := s.queue q
  let goneC := x.cells.filter p
  let goneD := x.deep.filter (fun d => p d.f)
  if goneC = [] ∧ goneD = [] then s
  else
    let s := s.setQueue q { x with cells := x.cells.filter (fun f => !p f), deep := x.deep.filter (fun d => !p d.f) }
    let s := s.each (goneD.flatMap (·.units)) (fun u s => s.unitFree u)
    let s := s.setDepth q (s.get QUE_DQ.DEPTH q - (goneC.map Frame.cells).sum)
    let db := s.get QUE_DQ.DB_CELLS q - (goneD.map (fun d => d.f.cells)).sum
    let s := s.set QUE_DQ.DB_CELLS q db
    let s := if db = 0 then s.set QUE_DQ.SPILLING q 0 else s
    let s := s.set QUE_DQ.FRAMES q (s.get QUE_DQ.FRAMES q - (goneC.length + goneD.length))
    let s := s.count ctr q (goneC.length + goneD.length)
    (s.each (goneC ++ goneD.map (·.f)) (fun f s => s.smpEgress f 0 0 0 reason)).checkEmpty q

/-- The same for every queue, and for frames on their way into the deep buffer. -/
def State.flushQueues (s : State) (ctr : Fld) (reason : Nat) (p : Nat → Frame → Bool) : State :=
  let s := s.each (s.pl.queues.map (·.1)) (fun q s => s.queueFlush q ctr reason (p q))
  let gone (w : DeepWr) : Bool := p w.a.f.queue w.a.f
  let l := (s.fr.deepWr.flatMap (·.2)).filter gone
  let kept : Tab (List DeepWr) := s.fr.deepWr.map (fun x => (x.1, x.2.filter (fun w => !gone w)))
  let s := { s with fr.deepWr := kept.filter (fun x => x.2 != []) }
  let s := s.each l (fun w s =>
    let q := w.a.f.queue
    let s := s.each w.units (fun u s => s.unitFree u)
    let db := s.get QUE_DQ.DB_CELLS q - w.a.f.cells
    let s := s.set QUE_DQ.DB_CELLS q db
    let s := if db = 0 then s.set QUE_DQ.SPILLING q 0 else s
    s.dropArrival w.a ctr reason)
  s.pfc

/-! Register writes of queue entries (R249, R250). -/

/-- Write a word of a queue entry: a GUAR that the region's pool cannot carry is refused. -/
def State.queueWrite (s : State) (w : Writer) (q word v off : Nat) : State :=
  let t := s.writeWord (if q < 8192 then reg_QUE_DQ else reg_QUE_CQ) q word v
  let r := regionOfLp (s.queuePort q)
  if t.1.get QUE_DQ.GUAR q ≠ s.get QUE_DQ.GUAR q ∧ s.poolSize r < t.1.guarSum r + 4096 then s.reject w 3 false off
  else if t.2 then t.1.reject w 1 false off else t.1

/-- Write a word of a PFC entry (R260): XON at or above XOFF, REFRESH at or above QUANTA are reserved. -/
def State.pfcWrite (s : State) (w : Writer) (h word v off : Nat) : State :=
  let t := s.writeWord reg_PLN_HPFC h word v
  let n := t.1
  let badX := n.get PLN_HPFC.XOFF h ≤ n.get PLN_HPFC.XON h
  let badR := n.get PLN_HPFC.QUANTA h ≤ n.get PLN_HPFC.REFRESH h
  let n := if badX then (n.set PLN_HPFC.XOFF h 0x1000).set PLN_HPFC.XON h 0x0800 else n
  let n := if badR then (n.set PLN_HPFC.QUANTA h 0xFFFF).set PLN_HPFC.REFRESH h 0x8000 else n
  (if t.2 || badX || badR then n.reject w 1 false off else n).pfc

/-- Write a word of a pool entry (R262): POOL_XON at or above POOL_XOFF is reserved. -/
def State.poolWrite (s : State) (w : Writer) (r word v off : Nat) : State :=
  let t := s.writeWord reg_PLN_POOL r word v
  let n := t.1
  let bad := n.get PLN_POOL.POOL_XOFF r ≤ n.get PLN_POOL.POOL_XON r
  let n := if bad then (n.set PLN_POOL.POOL_XOFF r 0x10000).set PLN_POOL.POOL_XON r 0xF000 else n
  (if t.2 || bad then n.reject w 1 false off else n).pfc

end Sys2Proof.Machine
end

