-- ==== Sys2Proof/Machine/Lattice.lean ====
section
/-!
DEFINITION. Machine/Lattice.lean: a line port's block grid and, on a guarded port, the lattice of carrier slots and the
control gaps between them (R148, R267, R269).
-/
namespace Sys2Proof.Machine

/-- First instant of a line port's block grid at or after t (R148, R153), by the phase measured last (R29). -/
def State.gridAtOrAfter (s : State) (lp t : Nat) : Nat :=
  ceilDiv t (2 ^ 16) * 2 ^ 16 + (Config.gridDelta lp (Tab.get 0 s.ca.phase lp) (ceilDiv t (2 ^ 16) * 2 ^ 16)).toNat * 2 ^ 16

/-- The device measures the phase of a line port's grid (R29). -/
def State.measurePhase (s : State) (lp : Nat) : State :=
  { s with ca.phase := s.ca.phase.set 0 lp (Tab.get 0 s.ca.phase lp + 1) }

/-- CAL_DONE of a line port rises: the latencies and the grid's phase are measured, and the instant is kept for the carrier
stream that restarts 1,000 ns later (R29, R132, R267). -/
def State.calDone (s : State) (k tx rx : Nat) : State :=
  let s := ((s.set TIM_LP.TX_LAT k tx).set TIM_LP.RX_LAT k rx).set TIM_LP.CAL_DONE k 1
  { s.measurePhase k with ca.calAt := s.ca.calAt.set 0 k s.mono }

/-- Slot m of the lattice of line port lp: START + m × T_c (R267). -/
def State.slotTime (s : State) (lp m : Nat) : Nat := fromTime96 (s.get CAR_TX.START lp) + m * s.get CAR_TX.PERIOD_PS lp * ns / 1000

/-- The last slot at or before t (0 before START). -/
def State.slotAt (s : State) (lp t : Nat) : Nat :=
  (t - fromTime96 (s.get CAR_TX.START lp)) * 1000 / (s.get CAR_TX.PERIOD_PS lp * ns)

/-- Charge of a carrier: its line-side length and 20 (R246, R273). -/
def State.carCharge (s : State) (lp : Nat) : Nat := s.get CAR_TX.CSIZE lp + 68

/-- A carrier stream runs on the guarded port lp. -/
def State.streams (s : State) (lp : Nat) : Bool := s.guarded lp && s.on CAR_TX.RUNNING lp

/-- Where the gap that contains t begins, and the slot that ends it. A t in a carrier's time belongs to the gap behind
that carrier. -/
def State.gapFrom (s : State) (lp t : Nat) : Nat × Nat :=
  if t < s.slotTime lp 0 then (t, s.slotTime lp 0)
  else
    let m := s.slotAt lp t
    (max t (s.gridAtOrAfter lp (s.slotTime lp m) + s.octTime lp (s.carCharge lp)), s.slotTime lp (m + 1))

/-- A frame of charge n that starts at t ends before the next slot (R269). -/
def State.fitsGap (s : State) (lp t n : Nat) : Bool :=
  let g := s.gapFrom lp t
  g.1 == t && t + s.octTime lp n ≤ g.2

/-- The first place at or after t between carriers that holds a frame of charge n (R269), searched over the next gaps. -/
def State.gapPlace (s : State) (lp n : Nat) : Nat → Nat → Nat
  | 0, t => s.gridAtOrAfter lp t
  | fuel + 1, t =>
    let g := s.gapFrom lp t
    let u := s.gridAtOrAfter lp g.1
    if u + s.octTime lp n ≤ g.2 then u else s.gapPlace lp n fuel (g.2 + 1)

/-- grid_at_or_after(k, t) for a frame of charge n (R148); on a guarded port the place between carriers (R269). -/
def State.launchPlace (s : State) (lp t n : Nat) : Nat :=
  if s.streams lp then s.gapPlace lp n 4 t else s.gridAtOrAfter lp t

end Sys2Proof.Machine
end

