-- ==== Sys2Proof/Machine/Classify.lean ====
section
/-!
DEFINITION. Machine/Classify.lean: the header fields a classifier compares (R64, R65, R93), PTP event messages and their
correction (R146, R147), and egress step 2 (R63 to R69, R148, R295).
-/
namespace Sys2Proof.Machine

/-! Header fields. -/

/-- EtherType of a VLAN tag: 802.1Q or 802.1ad. PRESUMED: the values are those of IEEE 802.1Q. -/
def isTag (e : Nat) : Bool := e == 0x8100 || e == 0x88A8

/-- Two octets at an offset. -/
def be16 (d : List Octet) (o : Nat) : Nat := beNat (slice d o 2)

/-- Offset of the EtherType that follows all tags, at most two (R64). -/
def etypeAt (d : List Octet) : Nat :=
  if isTag (be16 d 12) then (if isTag (be16 d 16) then 20 else 16) else 12

/-- What a classifier compares in a frame. -/
structure Hdr where
  da : Nat
  sa : Nat
  etype : Nat
  tagged : Bool
  vid : Nat
  pcp : Nat
  deriving DecidableEq, Repr

/-- Header of a frame; an untagged frame has VID and PCP 0 (R65). -/
def hdrOf (d : List Octet) : Hdr :=
  let t := isTag (be16 d 12)
  let tci := if t then be16 d 14 else 0
  ⟨beNat (slice d 0 6), beNat (slice d 6 6), be16 d (etypeAt d), t, tci % 4096, tci / 8192⟩

/-- A masked field matches (R65). -/
def masked (mask a b : Nat) : Bool := (mask &&& a) == (mask &&& b)

/-! PTP event messages (R146). -/

/-- Where the PTP header of an event message starts, and the offset of its UDP checksum and whether the packet is IPv4.
PRESUMED: the header layouts of IPv4, IPv6, UDP and IEEE 1588. -/
def ptpEvent (d : List Octet) : Option (Nat × Option (Nat × Bool)) :=
  let o := etypeAt d
  let e := be16 d o
  let place : Option (Nat × Option (Nat × Bool)) :=
    if e = 0x88F7 then some (o + 2, none)
    else if e = 0x0800 then
      let u := o + 2 + (octetAt d (o + 2)).toNat % 16 * 4
      if (octetAt d (o + 2)).toNat / 16 = 4 ∧ (octetAt d (o + 11)).toNat = 17 ∧ be16 d (o + 8) % 8192 = 0 ∧ be16 d (u + 2) = 319 then
        some (u + 8, some (u + 6, true)) else none
    else if e = 0x86DD then
      let u := o + 42
      if (octetAt d (o + 8)).toNat = 17 ∧ be16 d (u + 2) = 319 then some (u + 8, some (u + 6, false)) else none
    else none
  match place with
  | some (h, c) =>
    if (octetAt d h).toNat % 16 < 4 ∧ (octetAt d (h + 1)).toNat % 16 = 2 ∧ h + 34 ≤ d.length then some (h, c) else none
  | none => none

/-- sequenceId of a PTP message whose header starts at h. -/
def ptpSeq (d : List Octet) (h : Nat) : Nat := be16 d (h + 30)

/-- Ones'-complement sum of 16-bit words, folded. -/
def fold16 (n : Nat) : Nat := let a := n % 65536 + n / 65536; a % 65536 + a / 65536

/-- Replace octets of a frame from an offset on. -/
def patch (d : List Octet) (o : Nat) (x : List Octet) : List Octet := d.take o ++ x ++ d.drop (o + x.length)

/-- The UDP checksum after words `old` become `new` (R147). -/
def udpUpdate (sum : Nat) (old new : List Octet) : Nat :=
  let w (l : List Octet) (i : Nat) : Nat := be16 l (2 * i)
  let t := (0xFFFF - sum) + ((upto 4).map (fun i => 0xFFFF - w old i + w new i)).sum
  let r := 0xFFFF - fold16 t
  if r = 0 then 0xFFFF else r

/-- Add a residence time, in 2^-16 ns, to a frame's correctionField and mend the UDP checksum (R147). -/
def ptpCorrect (d : List Octet) (residence : Int) : List Octet :=
  match ptpEvent d with
  | none => d
  | some (h, c) =>
    let old := slice d (h + 8) 8
    let new := beBytes 8 (unsigned 64 (signed 64 (beNat old) + residence))
    let d := patch d (h + 8) new
    match c with
    | some (o, v4) =>
      let sum := be16 d o
      if v4 ∧ sum = 0 then d else patch d o (beBytes 2 (udpUpdate sum old new))
    | none => d

/-- Residence between two network instants in 2^-16 ns. -/
def residence (from_ to_ : Nat) : Int := ((to_ / 2 ^ 16 : Nat) : Int) - ((from_ / 2 ^ 16 : Nat) : Int)

/-- An instant moved by a port's BOARD_ADJ (R132). -/
def adjusted (t adj : Nat) : Nat := ((t : Int) + signed 32 adj * 65536).toNat

/-- First instant of a host port's grid at or after t (R154). -/
def hostGrid (hp t : Nat) : Nat :=
  ceilDiv t (2 ^ 16) * 2 ^ 16 + (Config.hostGridDelta hp (ceilDiv t (2 ^ 16) * 2 ^ 16)).toNat * 2 ^ 16

/-! Egress step 2. -/

/-- Rule i matches a frame of host port hp (R64, R65). -/
def State.egrMatch (s : State) (hp : Nat) (h : Hdr) (i : Nat) : Bool :=
  s.on CLS_EGR.VALID i && masked (s.get CLS_EGR.HPORT_MASK i) (s.get CLS_EGR.HPORT i) hp &&
  masked (s.get CLS_EGR.DA_MASK i) (s.get CLS_EGR.DA i) h.da && masked (s.get CLS_EGR.SA_MASK i) (s.get CLS_EGR.SA i) h.sa &&
  masked (s.get CLS_EGR.ETYPE_MASK i) (s.get CLS_EGR.ETYPE i) h.etype &&
  masked (s.get CLS_EGR.VID_MASK i) (s.get CLS_EGR.VID i) h.vid &&
  masked (s.get CLS_EGR.PCP_MASK i) (s.get CLS_EGR.PCP i) h.pcp &&
  (!s.on CLS_EGR.TAGGED_CARE i || s.on CLS_EGR.TAGGED i == h.tagged)

/-- Lowest-indexed valid rule that matches (R63). -/
def State.egrRule (s : State) (hp : Nat) (h : Hdr) : Option Nat := (s.ones CLS_EGR.VALID).find? (s.egrMatch hp h)

/-- The clear-text policy on egress (R68). -/
def State.egrClearOk (s : State) (etype : Nat) : Bool :=
  if etype = 0x888E then s.on OFC_CLR_POLICY.EGR_EAPOL_OK 0 else s.on OFC_CLR_POLICY.EGR_OTHER_OK 0

/-- Queue of a PROTECT frame (R64): QSEL 0 bulk, 1 express, 2 control queue CQ. -/
def State.protQueue (s : State) (c qsel cq : Nat) : Nat :=
  match qsel with
  | 0 => 2 * c + 1
  | 1 => 2 * c
  | _ => 8192 + 4 * s.get SCT_TX.LPORT c + cq

/-- Put an arrival into a region's list: those of one instant in host-port order, rings behind them (R255, R295). -/
def arrRank (a : Arrival) : Nat := match a.inj with
  | some (k, _) => 32 + k
  | none => a.f.src.getD 0

def insertArrival (a : Arrival) : List Arrival → List Arrival
  | [] => [a]
  | x :: r => if x.f.mono = a.f.mono ∧ arrRank a < arrRank x then a :: x :: r else x :: insertArrival a r

def State.arrive (s : State) (a : Arrival) : State :=
  let r := regionOfLp a.f.lp
  { s with fr.arrivals := s.fr.arrivals.set [] r (insertArrival a (Tab.get [] s.fr.arrivals r)) }

/-- The launch time of a frame at its admission: of a PTP event message from a host port (R148), with control queue CQ of its
rule; of an injected frame, the descriptor's time on the port's grid (R153). -/
def State.launchOf (s : State) (f : Frame) : Frame :=
  match f.ring with
  | none =>
    if s.on TIM_LP.TC_EN f.lp ∧ (ptpEvent f.data).isSome then
      { f with queue := 8192 + 4 * f.lp + f.cq, ptp := true,
               launch := some (s.launchPlace f.lp (f.time + s.get TIM_LP.D_NS f.lp * ns) (s.charge f)) }
    else f
  | some _ => match f.launch with
    | some t => { f with want := t, launch := some (s.launchPlace f.lp t (s.charge f)) }
    | none => f

/-- The admission unit of region r takes the frame at the front of its list (R255). -/
def State.admission (s : State) (r : Nat) : State :=
  match Tab.get [] s.fr.arrivals r with
  | [] => s
  | x :: rest =>
    let s := { s with fr.arrivals := s.fr.arrivals.set [] r rest }
    let a : Arrival := { x with f := s.launchOf x.f }
    let q := a.f.queue
    let n := a.f.cells
    let lp := s.queuePort q
    let depth := s.get QUE_DQ.DEPTH q
    let guar := s.get QUE_DQ.GUAR q
    let before := depth - guar
    let after := depth + n - guar
    let free := s.freeShared r
    let s :=
      if s.modeDiscards a.f then s.refuse a QUE_DCNT.D_MODE 7
      else if s.fenced r then s.dropArrival a QUE_DCNT.D_REGION 8
      else if 8192 ≤ q ∧ s.guarded lp ∧ s.gapOct lp < s.charge a.f then s.refuseWhy r a 0
      else if s.guardedQueue q then s.deepAdmit r a true
      else if q < 8192 ∧ s.deepTail q then s.deepAdmit r a false
      else if s.get QUE_DQ.QLIMIT q < depth + n then
        (if s.on QUE_DQ.SPILL_EN q ∧ q < 8192 then s.deepAdmit r a false else s.refuseWhy r a 0)
      else if before < after ∧ (free < after - before ∨ s.overAlpha q after free) then
        (if s.on QUE_DQ.SPILL_EN q ∧ q < 8192 then s.deepAdmit r a false else s.refuseWhy r a 1)
      else s.enqueueCells r a
    s.pfc

/-- Outcome of step 2 for a frame that is refused there: an injected frame gets its record (R296). -/
def State.step2Drop (s : State) (f : Frame) (inj : Option (Nat × Nat)) (status : Nat) : State :=
  let s := match inj with
    | some (k, d) => s.injDone k d status 0xFFFF
    | none => s
  s.smpEgress f 0 0 0 1

/-- Egress rule i sends a frame to a control queue (R64). -/
def State.toControl (s : State) (i : Nat) : Bool :=
  s.get CLS_EGR.ACTION i == 2 || (s.get CLS_EGR.ACTION i == 1 && s.get CLS_EGR.QSEL i == 2)

/-- The action of egress rule i for a frame of host port hp (R67, R68). In LOCKDOWN nothing is punted (R41; log entry
68). -/
def State.egrAct (s : State) (hp i : Nat) (f : Frame) (inj : Option (Nat × Nat)) : State :=
  match s.get CLS_EGR.ACTION i with
  | 0 => (s.count RGN_HPCLS.RULE_DROP hp 1).step2Drop f inj 9
  | 1 =>
    let c := s.get CLS_EGR.SC i
    let cq := s.get CLS_EGR.CQ i
    if s.on SCT_TX.VALID c then
      (s.count RGN_HPCLS.TO_PROTECT hp 1).arrive
        ⟨{ f with sc := some c, lp := s.get SCT_TX.LPORT c, cq := cq, queue := s.protQueue c (s.get CLS_EGR.QSEL i) cq }, inj⟩
    else (s.count RGN_HPCLS.SC_INVALID hp 1).step2Drop f inj 3
  | 2 =>
    if s.egrClearOk (hdrOf f.data).etype then
      let lp := s.get CLS_EGR.LPORT i
      let cq := s.get CLS_EGR.CQ i
      (s.count RGN_HPCLS.CLEARED hp 1).arrive ⟨{ f with sc := none, lp := lp, cq := cq, queue := 8192 + 4 * lp + cq }, inj⟩
    else (s.count RGN_HPCLS.CLEAR_DENIED hp 1).step2Drop f inj 2
  | _ =>
    if s.mode = mLOCKDOWN then s.step2Drop f inj 7
    else
      let k := s.get CLS_EGR.PUNT_RING i
      let s := (s.count RGN_HPCLS.PUNTED hp 1).puntPush k (s.mkPunt k f.data 8 false hp i f.time (s.on TIM_STATUS.HOLDOVER 0))
      match inj with
      | some (j, d) => s.injDone j d 0x0A 0xFFFF
      | none => s

/-- Egress classification of a frame as of host port hp (R63, R67, R68). A descriptor that asks for a launch time is
malformed where no rule sends its frame to a control queue (R295): the frame then has no effect at step 2 (log entry
69). -/
def State.classify (s : State) (hp : Nat) (f : Frame) (inj : Option (Nat × Nat)) : State :=
  let rule := s.egrRule hp (hdrOf f.data)
  match inj, f.launch.isSome && !rule.any s.toControl with
  | some (k, d), true => s.injDone k d 1 0xFFFF
  | _, _ =>
    let t := s.smpEligible (regionOfHp hp) (bit (s.get CNT_SMP_PORTS.HP 0) hp)
    let f := { f with sampled := t.1 }
    match rule with
    | none => (t.2.count RGN_HPCLS.NO_RULE hp 1).step2Drop f inj 8
    | some i => (t.2.count CLS_EGR.HITS i 1).egrAct hp i f inj

/-- A frame before its classification. -/
def newFrame (data : List Octet) (time mono steps : Nat) (src ring : Option Nat) (prio : Nat) : Frame :=
  ⟨data, time, mono, 0, steps, src, ring, prio, 0x3FFF, 0, 4, 0, none, 0, none, 0, false, false, none, false, false⟩

/-- Priority of a frame at a host port (R260). -/
def State.prioOf (s : State) (hp : Nat) (data : List Octet) : Nat :=
  let h := hdrOf data
  if h.tagged then h.pcp else s.get PLN_HPFC.DEF_PRIO hp

/-! Step 1 (R316). -/

/-- The first check of R316 that a received frame fails: 1 OVERSIZE, 2 FCS, 3 runt, 4 control; 0 none. -/
def rxCheck (octets : List Octet) (badCode : Bool) (limit : Nat) : Nat :=
  let d := octets.take (octets.length - 4)
  if limit < octets.length then 1
  else if badCode || fcs d != octets.drop (octets.length - 4) then 2
  else if octets.length < 64 then 3
  else if be16 octets 12 = 0x8808 then 4 else 0

/-- Count what step 1 does with a frame; answers whether it goes on. Ports are indexed as in RGN_HPCNT. -/
def State.rxCount (s : State) (i chk len : Nat) : Bool × State :=
  match chk with
  | 0 => (true, (s.count RGN_HPCNT.RX_FRAMES i 1).count RGN_HPCNT.RX_OCTETS i len)
  | 2 => (false, s.count RGN_HPCNT.RX_FCS_ERR i 1)
  | 3 => (false, s.count RGN_HPCNT.RX_RUNT i 1)
  | _ => (false, s.count RGN_HPCNT.RX_CTRL i 1)

/-- A port is up and calibrated (R132, R317). -/
def State.hpUp (s : State) (hp : Nat) : Bool := s.on RGN_HPORT.LINK hp && s.on TIM_HP.CAL_DONE hp
def State.lpUp (s : State) (lp : Nat) : Bool := s.on RGN_HPORT.LINK (lpIdx lp) && s.on TIM_LP.CAL_DONE lp

/-- A frame, DA to FCS, arrives at host port hp; its start of frame crossed the boundary `back` units of 2^-16 ns ago
(R22, R131, R316). No frame passes in BOOT (R41). -/
def State.hostFrame (s : State) (hp : Nat) (octets : List Octet) (badCode : Bool) (back : Nat) : State :=
  if s.hpUp hp = false ∨ s.mode = mBOOT ∨ s.mode = 0 then s
  else
    let chk := rxCheck octets badCode 9216
    if chk = 1 then s.count RGN_HPCLS.OVERSIZE hp 1
    else
      let t := s.rxCount hp chk octets.length
      if t.1 = false then t.2
      else
        let s := t.2
        let d := octets.take (octets.length - 4)
        let time := adjusted (s.now - back * 2 ^ 16) (s.get TIM_HP.BOARD_ADJ hp)
        s.classify hp (newFrame d time s.mono s.steps (some hp) none (s.prioOf hp d)) none

/-! Injected frames (R294, R295). -/

/-- Fields of an inject descriptor. -/
def injLen (o : List Octet) : Nat := leNat (slice o 8 2)
def injMode (o : List Octet) : Nat := (octetAt o 10).toNat % 4
def injTarget (o : List Octet) : Nat := leNat (slice o 12 2)
def injFlag (o : List Octet) (n : Nat) : Bool := bit (octetAt o 11).toNat n

/-- Fetch the next descriptor of inject ring k: `o` is what host memory holds (R295). -/
def State.injDesc (s : State) (k : Nat) (o : List Octet) : State :=
  let i := 64 + k
  if s.ringDma i = false ∨ s.posted i = 0 ∨ (s.ring i).desc.isSome then s
  else
    let c := s.get HQ_PUNT.CONS i
    let s := s.emit (.dmaRead (s.get HQ_PUNT.PORT i) (s.get HQ_PUNT.DESC_BASE i + 32 * (c % s.ringSize i)) 32)
    let s := s.set HQ_PUNT.CONS i (c + 1)
    let s := s.setRing i { s.ring i with order := (s.ring i).order ++ [c] }
    let n := injLen o
    if n < 14 ∨ 9212 < n ∨ injMode o = 3 then s.injDone k c 1 0xFFFF
    else s.setRing i { s.ring i with desc := some ⟨c, padTo 32 o⟩ }

/-- Fetch the frame of the descriptor that waits, and send it on its way (R295). A target or
QSEL outside its range is malformed (log entry 32). -/
def State.injFrame (s : State) (k : Nat) (data : FlashRead) : State :=
  let i := 64 + k
  match (s.ring i).desc with
  | none => s
  | some x =>
    let o := x.octets
    let n := injLen o
    let d := match data with
      | .error => List.replicate n (0 : Octet)
      | .octets l => padTo (max n 60) (padTo n l)
    if s.ringDma i = false ∨ s.get HQ_PUNT.QUOTA i < s.injCells i + cellsOf d then s
    else
      let s := s.setRing i { s.ring i with desc := none }
      let s := s.emit (.dmaRead (s.get HQ_PUNT.PORT i) (leNat (slice o 0 8)) n)
      match data with
      | .error => s.injDone k x.index 0x0B 0xFFFF
      | .octets _ =>
        let s := s.count HQ_ICNT.FETCHED k 1
        let id := leNat (slice o 14 2)
        let f := newFrame d s.now s.mono s.steps none (some k) 0
        let f := { f with
          tsId := if injFlag o 0 then some (if injFlag o 1 then ptpSeq d (((ptpEvent d).map (fun x => x.1)).getD (etypeAt d + 2)) else id) else none
          launch := if injFlag o 2 then some (fromTime96 (leNat (slice o 16 12))) else none
          strict := injFlag o 3 }
        let cq := (octetAt o 10).toNat / 16 % 4
        let tgt := injTarget o
        let inj := some (k, x.index)
        match injMode o with
        | 0 => if tgt < 32 then s.classify tgt f inj else s.injDone k x.index 1 0xFFFF
        | 1 =>
          let c := tgt
          let qsel := (octetAt o 10).toNat / 4 % 4
          if 4096 ≤ tgt ∨ qsel = 3 ∨ (f.launch.isSome ∧ qsel ≠ 2) then s.injDone k x.index 1 0xFFFF
          else if s.on SCT_TX.VALID c then
            s.arrive ⟨{ f with sc := some c, lp := s.get SCT_TX.LPORT c, cq := cq, queue := s.protQueue c qsel cq }, inj⟩
          else s.injDone k x.index 3 0xFFFF
        | _ =>
          if 16 ≤ tgt then s.injDone k x.index 1 0xFFFF
          else if s.egrClearOk (be16 d (etypeAt d)) then
            s.arrive ⟨{ f with lp := tgt, cq := cq, queue := 8192 + 4 * tgt + cq }, inj⟩
          else s.injDone k x.index 2 0xFFFF

end Sys2Proof.Machine
end

