-- ==== Sys2Proof/Machine/Receive.lean ====
section
/-!
DEFINITION. Machine/Receive.lean: ingress steps 1 to 3 (R92 to R97, R106 to R110), cells of the ingress reserve (R113),
delivery to the host side (R114, R154) and reassembly of carriers (R276 to R278).
-/
namespace Sys2Proof.Machine

/-! Cells of the ingress reserve (R113). -/

/-- Host-side octets, without FCS, of a frame with a SecTAG: secure data behind the addresses, padded (R114). -/
def builtLen (d : List Octet) : Nat := max 60 (12 + (secureData d (readTag d)).length)

/-- Cells of L octets without FCS. -/
def cellsLen (l : Nat) : Nat := ceilDiv (l + 4) 256

/-- An ingress item holds cells (step 4 on, or a frame delivered unverified). -/
def InItem.cells (x : InItem) : Nat := if x.stat = .pre then 0 else cellsLen (builtLen x.data)

/-- Cells of region r's reserve in use. -/
def State.igrUsed (s : State) (r : Nat) : Nat :=
  ((Tab.get [] s.fr.ingress r).map InItem.cells).sum +
  (s.fr.hostOut.map (fun x => ((x.2.filter (fun f => f.reg == r)).map (·.cells)).sum)).sum +
  (s.hq.rings.map (fun x => ((x.2.waiting.filter (fun p => p.igr && p.reg == r)).map (·.cells)).sum)).sum +
  (s.ca.carRx.map (fun x => if regionOfLp x.1 == r then (match x.2.part with
    | some (_, n, _, _, _) => cellsLen n
    | none => 0) else 0)).sum

/-- n more cells fit in region r's reserve. -/
def State.igrRoom (s : State) (r n : Nat) : Bool := s.igrUsed r + n ≤ s.get RGN_IGR_POOL.RESERVE r

/-! Host-port output queues (R114, R319). -/

/-- Cells that wait for a host port. -/
def State.hostCells (s : State) (hp : Nat) : Nat := ((Tab.get [] s.fr.hostOut hp).map (·.cells)).sum

/-- A frame enters a host port's output queue; false where it is discarded. HP_LIMIT is that of the region whose line port
received the frame, against all cells that wait at the port (log entry 70). -/
def State.hostPut (s : State) (hp : Nat) (f : OutFrame) : Bool × State :=
  if s.on RGN_HPORT.LINK hp = false ∨ s.get RGN_IGR_POOL.HP_LIMIT f.reg ≤ s.hostCells hp then (false, s)
  else (true, { s with fr.hostOut := s.fr.hostOut.set [] hp (Tab.get [] s.fr.hostOut hp ++ [f]) })

/-- Sampler record of an ingress frame that is discarded or sent. -/
def State.smpIn (s : State) (sampled : Bool) (hp lp sc an len time steps mono pn fl reason : Nat) : State :=
  if sampled then s.smpIngress hp lp sc an fl len time steps mono pn reason else s

/-! Reassembly (R276 to R278). -/

def State.carRxOf (s : State) (k : Nat) : CarRx := Tab.get CarRx.none s.ca.carRx k
def State.setCarRx (s : State) (k : Nat) (x : CarRx) : State := { s with ca.carRx := s.ca.carRx.set CarRx.none k x }

/-- An event bit of CAR_RXk (R281). -/
def State.carRxEv (s : State) (f : Fld) (k : Nat) : State := s.event f k (0x370 + k)

/-- The partial frame of LPk is discarded for a cause outside the stream (R19, R41). -/
def State.carLose (s : State) (k : Nat) : State := s.setCarRx k { s.carRxOf k with part := none }

/-- abort_partial (R277). -/
def State.carAbort (s : State) (k : Nat) : State :=
  if (s.carRxOf k).part.isSome then
    (s.setCarRx k { s.carRxOf k with part := none }).count CAR_RXCNT.REASM_ABORT k 1
  else s

/-- A segment header (R274). -/
structure Seg where
  first : Bool
  last : Bool
  orig : Nat
  len : Nat
  off : Nat
  fseq : Nat
  deriving DecidableEq, Repr

def readSeg (o : List Octet) : Seg :=
  let w := be16 o 0
  ⟨bit w 15, bit w 14, w % 16384, be16 o 2, be16 o 4, be16 o 6⟩

/-- R274's well-formedness, with the ranges of its table. -/
def Seg.ok (g : Seg) : Bool :=
  (g.first == (g.off == 0)) && (g.last == (g.off + g.len == g.orig)) && g.off + g.len ≤ g.orig && 1 ≤ g.len &&
  60 ≤ g.orig && g.orig ≤ 9212

/-- Headers of a carrier's segment table. -/
def carSegs (p : List Octet) : List Seg := (upto (octetAt p 1).toNat).map (fun i => readSeg (slice p (8 + 8 * i) 8))

/-- layout_ok (R277). -/
def layoutOk (p : List Octet) : Bool :=
  let l := carSegs p
  l.all Seg.ok && 8 + 8 * l.length + (l.map (·.len)).sum ≤ p.length

/-- A completed frame goes to the HPORT of the carrier receive SC, without correction (R277). -/
def State.carDeliver (s : State) (k c : Nat) : State :=
  match (s.carRxOf k).part with
  | some (_, _, d, _, t) =>
    let s := s.setCarRx k { s.carRxOf k with part := none }
    let hp := s.get SCT_RX.HPORT c
    let o := padTo (max 60 d.length) d
    let r := s.hostPut hp ⟨o, k, some c, t, s.mono, s.steps, cellsLen o.length, regionOfLp k, 0, 0, false, false⟩
    if r.1 then r.2.count CAR_RXCNT.FRAMES k 1 else r.2.count SCT_RX.D_HOST_CONGEST c 1
  | none => s

/-- One segment (R277): its header and its octets. `t` is the carrier's receive time, `m0` the monotonic instant of its
arrival (R278). -/
def State.carSeg (s : State) (k c t m0 : Nat) (g : Seg) (o : List Octet) : State :=
  let x := s.carRxOf k
  if g.first then
    let s := s.carAbort k
    let e := (g.fseq + 65536 - s.get CAR_RX.FSEQ_EXP k) % 65536
    if x.fsSync = false ∧ 32768 ≤ e then s.count CAR_RXCNT.ORPHAN_SEG k 1
    else
      let s := if x.fsSync then s else s.count CAR_RXCNT.FRAMES_MISSING k e
      let s := (s.set CAR_RX.FSEQ_EXP k (g.fseq + 1)).setCarRx k { s.carRxOf k with fsSync := false, noCell := none }
      if s.igrRoom (regionOfLp k) (cellsLen g.orig) then
        let s := s.setCarRx k { s.carRxOf k with part := some (g.fseq, g.orig, o, m0, t) }
        if g.last then s.carDeliver k c else s
      else (s.setCarRx k { s.carRxOf k with noCell := some g.fseq }).count CAR_RXCNT.NO_CELL k 1
  else
    match x.part with
    | some (q, n, h, m, t0) =>
      if q = g.fseq ∧ h.length = g.off then
        let s := s.setCarRx k { x with part := some (q, n, h ++ o, m, t0) }
        if g.last then s.carDeliver k c else s
      else (s.count CAR_RXCNT.ORPHAN_SEG k 1).carAbort k
    | none => if x.noCell = some g.fseq then s else s.count CAR_RXCNT.ORPHAN_SEG k 1

/-- The segments of a carrier in table order; `at_` is the offset of the next segment's octets. -/
def State.carSegsGo (s : State) (k c t m0 : Nat) (p : List Octet) : Nat → List Seg → State
  | _, [] => s
  | at_, g :: r => (s.carSeg k c t m0 g (slice p at_ g.len)).carSegsGo k c t m0 p (at_ + g.len) r

/-- A verified carrier of receive SC c is handed to reassembly (R277): its secure data in clear. -/
def State.reassemble (s : State) (k c t m0 : Nat) (p : List Octet) : State :=
  let s := (s.count CAR_RXCNT.CARRIERS k 1).setCarRx k { s.carRxOf k with last := s.mono }
  let s := if s.on CAR_RX.UP k then s
    else ((s.set CAR_RX.UP k 1).carRxEv CAR_RX.EV_UP k).setCarRx k { s.carRxOf k with csSync := true, fsSync := true }
  let ver := (octetAt p 0).toNat / 16
  let cseq := beNat (slice p 4 4)
  if ver ≠ 1 ∨ layoutOk p = false then
    let s := ((s.count CAR_RXCNT.FORMAT_ERR k 1).carRxEv CAR_RX.EV_ERR k).carAbort k
    if ver = 1 then s.set CAR_RX.CSEQ_EXP k (cseq + 1) else s
  else
    let d := (cseq + 2 ^ 32 - s.get CAR_RX.CSEQ_EXP k) % 2 ^ 32
    let sync := (s.carRxOf k).csSync
    if sync = false ∧ 2 ^ 31 ≤ d then (s.count CAR_RXCNT.STALE k 1).carRxEv CAR_RX.EV_ERR k
    else
      let s := if sync = false ∧ 0 < d then ((s.count CAR_RXCNT.LOST k d).carRxEv CAR_RX.EV_ERR k).carAbort k else s
      let s := (s.set CAR_RX.CSEQ_EXP k (cseq + 1)).setCarRx k { s.carRxOf k with csSync := false }
      let n := (octetAt p 1).toNat
      if n = 0 then s.count CAR_RXCNT.SHIMS k 1 else s.carSegsGo k c t m0 p (8 + 8 * n) (carSegs p)

/-- The partial frame of LPk is overdue (R278). -/
def State.carTimeout (s : State) (k : Nat) : State :=
  match (s.carRxOf k).part with
  | some (_, _, _, m, _) =>
    if m + s.get CAR_RX.REASM_US k * us ≤ s.mono then
      ((s.setCarRx k { s.carRxOf k with part := none }).count CAR_RXCNT.REASM_TIMEOUT k 1).carRxEv CAR_RX.EV_ERR k
    else s
  | none => s

/-- No carrier has been verified for LOSS_US (R278). -/
def State.carLoss (s : State) (k : Nat) : State :=
  if s.on CAR_RX.UP k ∧ (s.carRxOf k).last + s.get CAR_RX.LOSS_US k * us ≤ s.mono then
    ((((s.set CAR_RX.UP k 0).carRxEv CAR_RX.EV_DOWN k).count CAR_RXCNT.DOWN_EVENTS k 1)).carAbort k
  else s

/-! Delivery (R110, R114). -/

/-- Build a verified or stripped frame and queue it for its host port, or hand it to reassembly. -/
def State.deliverFrame (s : State) (x : InItem) (plain : List Octet) : State :=
  let t := readTag x.data
  let f := if t.c then RGN_LPIGR.OCT_DECRYPTED else RGN_LPIGR.OCT_VALIDATED
  let s := s.count f x.lp (secureData x.data t).length
  if s.on CAR_RX.EN x.lp ∧ s.get CAR_RX.SC x.lp = x.sc ∧ x.stat ≠ .strip then
    (s.smpIn x.sampled (s.get SCT_RX.HPORT x.sc) x.lp x.sc t.an (12 + plain.length + 4) x.time x.steps x.mono x.pn 2 0).reassemble
      x.lp x.sc x.time x.mono plain
  else
    let hp := s.get SCT_RX.HPORT x.sc
    let d := x.data.take 12 ++ plain
    let d := padTo (max 60 d.length) d
    let corr := s.on TIM_LP.INGRESS_TC_EN x.lp && (ptpEvent d).isSome
    let r := s.hostPut hp ⟨d, x.lp, some x.sc, x.time, x.mono, x.steps, cellsLen d.length, regionOfLp x.lp, t.an, x.pn, corr, x.sampled⟩
    if r.1 then r.2
    else (r.2.count SCT_RX.D_HOST_CONGEST x.sc 1).smpIn x.sampled hp x.lp x.sc t.an (d.length + 4) x.time x.steps x.mono x.pn 0 0x0A

/-! Ingress step 2. -/

/-- An exception copy (R115): the first 128 octets, charged to the region's reserve. With the reserve full none is made, and
none is counted (log entry 71); in LOCKDOWN nothing goes to a ring (R41). -/
def State.excCopy (s : State) (lp b : Nat) (d : List Octet) (time : Nat) (holdover : Bool) : State :=
  let k := s.get RGN_LP_RXCFG.EXC_RING lp
  let c := d.take 128
  if s.on RGN_LP_RXCFG.EXC_EN lp ∧ bit (s.get RGN_LP_RXCFG.EXC_MASK lp) b ∧ s.mode ≠ mLOCKDOWN ∧
      s.igrRoom (regionOfLp lp) (cellsOf c) then
    (s.count RGN_LPIGR.EXC_COPIES lp 1).puntPush k (s.mkPunt k c b true lp 0xFFFF time holdover)
  else s

/-- The SecTAG check (R94). `d` runs from DA to the octet before the FCS. -/
def tagBad (d : List Octet) : Bool :=
  let t := readTag d
  let n := (secureData d t).length
  decide (d.length < 12 + t.len + 16) || t.v || (t.sc && (t.es || t.scb)) || (t.e != t.c) ||
    decide (48 ≤ t.sl) || (t.sl != 0 && t.sl != n) || (t.sl == 0 && decide (n < 48))

/-- The SCI of a frame with a good SecTAG (R96). -/
def State.sciOf (s : State) (lp : Nat) (d : List Octet) : Option Nat :=
  let t := readTag d
  if t.sc then some t.sci
  else if t.scb then none
  else if t.es then some (beNat (slice d 6 6) * 65536 + 1)
  else if s.on RGN_LP_RXCFG.IMPLICIT_EN lp then some (s.get RGN_LP_RXCFG.IMPLICIT_SCI lp)
  else none

/-- Rule i matches a frame of line port lp (R93). -/
def State.igrMatch (s : State) (lp : Nat) (tagged : Bool) (sci da etype i : Nat) : Bool :=
  s.on CLS_IGR.VALID i && (!s.on CLS_IGR.SECTAG_CARE i || s.on CLS_IGR.SECTAG i == tagged) &&
  masked (s.get CLS_IGR.LPORT_MASK i) (s.get CLS_IGR.LPORT i) lp &&
  masked (s.get CLS_IGR.SCI_MASK i) (s.get CLS_IGR.SCI i) sci &&
  masked (s.get CLS_IGR.DA_MASK i) (s.get CLS_IGR.DA i) da &&
  masked (s.get CLS_IGR.ETYPE_MASK i) (s.get CLS_IGR.ETYPE i) etype

/-- The ACTIVE slot of receive SC c that carries an AN (R110). -/
def State.slotOfAn (s : State) (c an : Nat) : Option Nat :=
  ([0, 1].find? (fun k => s.get SAT_RX.STATE (2 * c + k) == saACTIVE && s.get SAT_RX.AN (2 * c + k) == an)).map (fun k => 2 * c + k)

/-- Put an item at the end of a region's ingress list. -/
def State.inPut (s : State) (x : InItem) : State :=
  let r := regionOfLp x.lp
  { s with fr.ingress := s.fr.ingress.set [] r (Tab.get [] s.fr.ingress r ++ [x]) }

/-- Slot selection (R110 step 2). A frame delivered unverified takes its cells without a check of room (R113, R114; log entry
72). -/
def State.slotSelect (s : State) (c lp : Nat) (d : List Octet) (time : Nat) (sampled : Bool) : State :=
  let t := readTag d
  let m := s.effValidate c
  let ho := s.on TIM_STATUS.HOLDOVER 0
  let item (a : Nat) (st : InStat) : InItem := ⟨d, lp, time, s.mono, s.steps, c, a, m, s.rxParOf c a, ho, t.pn, [], [], 0, st, sampled⟩
  match s.slotOfAn c t.an with
  | none =>
    let s := (s.rxEvent true SCT_RX.EV_NO_SA c).skewSeen c
    if m = 2 ∨ t.c then
      ((s.count SCT_RX.IN_NOT_USING_SA c 1).excCopy lp 3 d time ho).smpIn sampled (s.get SCT_RX.HPORT c) lp c t.an (d.length + 4) time
        s.steps s.mono t.pn 0 9
    else (s.count SCT_RX.IN_UNUSED_SA c 1).inPut (item 16384 .strip)
  | some a =>
    if m = 0 ∧ t.c = false then (s.count SCT_RX.IN_UNCHECKED c 1).inPut (item 16384 .strip)
    else s.inPut (item a .pre)

/-- The clear-text policy on ingress (R97). -/
def State.igrClearOk (s : State) (etype : Nat) : Bool :=
  if etype = 0x888E then s.on OFC_CLR_POLICY.IGR_EAPOL_OK 0 else s.on OFC_CLR_POLICY.IGR_OTHER_OK 0

/-- A CLEAR frame enters its host port's queue (R97, R113, R114). -/
def State.clearIn (s : State) (hp lp : Nat) (d : List Octet) (time : Nat) (sampled : Bool) : State :=
  let n := cellsOf d
  let corr := s.on TIM_LP.INGRESS_TC_EN lp && (ptpEvent d).isSome
  if s.igrRoom (regionOfLp lp) n then
    let r := s.hostPut hp ⟨d, lp, none, time, s.mono, s.steps, n, regionOfLp lp, 0, 0, corr, sampled⟩
    if r.1 then r.2.count RGN_LPIGR.CLEARED lp 1
    else (r.2.count RGN_LPIGR.D_CONGEST lp 1).smpIn sampled hp lp 0 0 (d.length + 4) time s.steps s.mono 0 32 0x0A
  else (s.count RGN_LPIGR.D_CONGEST lp 1).smpIn sampled hp lp 0 0 (d.length + 4) time s.steps s.mono 0 32 0x0A

/-- Ingress classification (R92 to R97). -/
def State.classifyIn (s : State) (lp : Nat) (d : List Octet) (time : Nat) : State :=
  let e := s.smpEligible (regionOfLp lp) (bit (s.get CNT_SMP_PORTS.LP 0) lp)
  let s := e.2
  let drop (s : State) (reason : Nat) : State :=
    s.smpIn e.1 0 lp 0 0 (d.length + 4) time s.steps s.mono 0 0 reason
  let tagged := be16 d 12 == 0x88E5
  let ho := s.on TIM_STATUS.HOLDOVER 0
  if tagged ∧ tagBad d then drop ((s.count RGN_LPIGR.BAD_TAG lp 1).excCopy lp 0 d time ho) 9
  else
    let sci := if tagged then s.sciOf lp d else some 0
    match sci with
    | none => drop ((s.count RGN_LPIGR.NO_SCI lp 1).excCopy lp 1 d time ho) 9
    | some sci =>
      let etype := if tagged then 0x88E5 else be16 d (etypeAt d)
      let unknown (s : State) : State := drop ((s.count RGN_LPIGR.UNKNOWN_SCI lp 1).excCopy lp 2 d time ho) 9
      let noTag (s : State) : State := drop ((s.count RGN_LPIGR.NO_TAG lp 1).excCopy lp 5 d time ho) 9
      match (s.ones CLS_IGR.VALID).find? (s.igrMatch lp tagged sci (beNat (slice d 0 6)) etype) with
      | none => if tagged then unknown s else noTag s
      | some i =>
        let s := s.count CLS_IGR.HITS i 1
        match s.get CLS_IGR.ACTION i with
        | 0 => drop (s.count RGN_LPIGR.RULE_DROP lp 1) 1
        | 1 =>
          let c := s.get CLS_IGR.SC i
          if tagged = false then noTag s
          else if s.on SCT_RX.VALID c = false ∨ s.get SCT_RX.LPORT c ≠ lp ∨ s.get SCT_RX.SCI c ≠ sci then unknown s
          else if s.mode = mSTANDBY ∨ s.mode = mLOCKDOWN then drop (s.count RGN_LPIGR.MODE_DISCARD lp 1) 7
          else (s.count RGN_LPIGR.TO_VALIDATE lp 1).slotSelect c lp d time e.1
        | 2 =>
          if s.mode = mLOCKDOWN then drop (s.count RGN_LPIGR.MODE_DISCARD lp 1) 7
          else if s.igrClearOk etype then s.clearIn (s.get CLS_IGR.HPORT i) lp d time e.1
          else drop (s.count RGN_LPIGR.CLEAR_DENIED lp 1) 1
        | _ =>
          let k := s.get CLS_IGR.PUNT_RING i
          if s.mode = mLOCKDOWN then drop (s.count RGN_LPIGR.MODE_DISCARD lp 1) 7
          else if s.igrRoom (regionOfLp lp) (cellsOf d) then
            (s.count RGN_LPIGR.PUNTED lp 1).puntPush k (s.mkPunt k d 9 true lp i time ho)
          else drop (s.count RGN_LPIGR.D_CONGEST lp 1) 0x0A

/-- A frame, DA to FCS, arrives at line port lp (R25, R131, R316). -/
def State.lineFrame (s : State) (lp : Nat) (octets : List Octet) (badCode : Bool) (back : Nat) : State :=
  if s.lpUp lp = false ∨ s.mode = mBOOT ∨ s.mode = 0 then s
  else
    let chk := rxCheck octets badCode 9248
    if chk = 1 then s.count RGN_LPIGR.OVERSIZE lp 1
    else
      let t := s.rxCount (lpIdx lp) chk octets.length
      if t.1 = false then t.2
      else if s.fenced (regionOfLp lp) then t.2.count RGN_LPIGR.D_REGION lp 1
      else t.2.classifyIn lp (octets.take (octets.length - 4)) (adjusted (s.now - back * 2 ^ 16) (s.get TIM_LP.BOARD_ADJ lp))

/-! Steps 3 and 4. -/

/-- Change the first item of a region's ingress list that meets a test; it is removed where the change answers none. -/
def changeFirst {α : Type} (p : α → Bool) (g : α → Option α) : List α → List α
  | [] => []
  | x :: r => if p x then (match g x with
      | some y => y :: r
      | none => r) else x :: changeFirst p g r

/-- The replay pre-check and the grant of cells for the next frame of region r (R108, R109). -/
def State.precheck (s : State) (r : Nat) : State :=
  let l := Tab.get [] s.fr.ingress r
  match l.find? (fun x => x.stat == .pre) with
  | none => s
  | some x =>
    let put (g : InItem → Option InItem) (s : State) : State :=
      { s with fr.ingress := s.fr.ingress.set [] r (changeFirst (fun y => y.stat == .pre) g l) }
    let t := readTag x.data
    let low := s.rxLow x.par.window x.sa
    let xpn := decide (2 ≤ x.par.suite)
    let pn := recoverPn xpn t.pn low
    let drop (s : State) : State :=
      s.smpIn x.sampled (s.get SCT_RX.HPORT x.sc) x.lp x.sc t.an (x.data.length + 4) x.time x.steps x.mono pn 0 9
    if xpn = false ∧ x.par.replay ∧ pn < low then
      drop ((put (fun _ => none) s |>.count SCT_RX.IN_LATE x.sc 1).excCopy x.lp 4 x.data x.time x.holdover)
    else if s.igrRoom r (cellsLen (builtLen x.data)) = false then
      drop (put (fun _ => none) s |>.count SCT_RX.D_OVERRUN x.sc 1)
    else put (fun y => some { y with pn := pn, stat := .wait }) s

/-! Host transmit (R154). -/

/-- A frame or a PFC frame leaves a host port, FCS included. -/
def State.hostOutput (s : State) (hp : Nat) (d : List Octet) : State :=
  ((s.emit (.hostFrame hp (d ++ fcs d))).count RGN_HPCNT.TX_FRAMES hp 1).count RGN_HPCNT.TX_OCTETS hp (d.length + 4)

/-- Host port hp sends its next frame: a priority flow control frame first (R261), PTP event messages corrected as
they are committed (R154). -/
def State.hostSend (s : State) (hp : Nat) : State :=
  if s.hpUp hp = false then s
  else match Tab.get [] s.fr.pfcOut hp with
  | p :: rest => { s with fr.pfcOut := s.fr.pfcOut.set [] hp rest }.hostOutput hp p
  | [] =>
    match Tab.get [] s.fr.hostOut hp with
    | [] => s
    | f :: rest =>
      let s := { s with fr.hostOut := s.fr.hostOut.set [] hp rest }
      let td := hostGrid hp s.now
      let d := if f.corr then ptpCorrect f.data (residence f.time td) else f.data
      (s.hostOutput hp d).smpIn f.sampled hp f.lp (f.sc.getD 0) f.an (d.length + 4) f.time f.steps f.mono f.pn
        (32 * b2n f.sc.isNone) 0

end Sys2Proof.Machine
end

