-- ==== Sys2Proof/Machine/Walk.lean ====
section
/-!
DEFINITION. Machine/Walk.lean: egress step 6 (R76, R238), the launch checks between step 6 and encryption (R150 to R153),
and the frames that stand between step 6 and the line (R24).
-/
namespace Sys2Proof.Machine

/-- Frames of region r past step 6, in step-6 order. -/
def State.eg (s : State) (r : Nat) : List EgItem := Tab.get [] s.fr.egress r
def State.setEg (s : State) (r : Nat) (l : List EgItem) : State := { s with fr.egress := s.fr.egress.set [] r l }

/-- Ingress frames of region r past slot selection, in arrival order. -/
def State.ig (s : State) (r : Nat) : List InItem := Tab.get [] s.fr.ingress r
def State.setIg (s : State) (r : Nat) (l : List InItem) : State := { s with fr.ingress := s.fr.ingress.set [] r l }

/-- Frames released to a line port and not yet on the line. -/
def State.lineQ (s : State) (lp : Nat) : List LineItem := Tab.get [] s.fr.lineOut lp
def State.setLineQ (s : State) (lp : Nat) (l : List LineItem) : State := { s with fr.lineOut := s.fr.lineOut.set [] lp l }

/-- An event bit of CAR_TXk (R281). -/
def State.carTxEv (s : State) (f : Fld) (k : Nat) : State := s.event f k (0x360 + k)

/-! Step 6. -/

/-- What step 6 says of a frame (R76): the reason of a discard, or the SA, PN and AN assigned. -/
inductive Step6 where
  | invalid | exhausted | keyGone | pending
  | ok (sa pn an : Nat)
  deriving DecidableEq, Repr

/-- R76 for a frame of transmit SC c with a line-side length of `len` octets. -/
def State.assign (s : State) (c len : Nat) : Step6 × State :=
  if s.on SCT_TX.VALID c = false then (.invalid, s)
  else
    let cost := if s.on SCT_TX.LIMIT_UNIT c then len else 1
    let a0 := s.curSa c
    let s := if s.get SAT_TX.STATE a0 = saACTIVE ∧ s.limited c ∧ s.get SCT_TX.LIMIT c < s.get SAT_TX.USED a0 + cost then
        s.exhaust c 2 else s
    let a := s.curSa c
    let st := s.get SAT_TX.STATE a
    if st = saEXHAUSTED then (.exhausted, s)
    else if st = saDISCARD then (.keyGone, s)
    else if st ≠ saACTIVE then (.pending, s)
    else
      let pn := s.get SAT_TX.NEXT_PN a
      let an := s.get SAT_TX.AN a
      let s := (s.count SAT_TX.USED a cost).count SAT_TX.PKTS a 1
      let s := if s.get SCT_TX.PN_THRESH c ≤ pn ∧ s.on SAT_TX.THRESH_HIT a = false then
          (s.set SAT_TX.THRESH_HIT a 1).txEvent false SCT_TX.EV_THRESH c else s
      let s := if pn = pnCeiling (s.get SCT_TX.SUITE c) then s.exhaust c 1 else s.set SAT_TX.NEXT_PN a (pn + 1)
      let s := if s.limited c ∧ s.on SCT_TX.LIMIT_UNIT c = false ∧ s.get SAT_TX.USED a = s.get SCT_TX.LIMIT c then s.exhaust c 2 else s
      (.ok a pn an, s)

/-- The gate, then R76 (R76, R238); a hold ends when a frame passes the gate (R239). -/
def State.gateAssign (s : State) (c len : Nat) : Step6 × State :=
  match s.autGate c s.now with
  | .pass =>
    let s := if Tab.get 0 s.au.keyHold c = 0 then s else { s with au.keyHold := s.au.keyHold.set 0 c 0 }.setHeld c 0
    s.assign c len
  | _ => (.pending, s)

/-- Count a step-6 discard of SC c (R90); KEY_GONE sets its event. -/
def State.step6Count (s : State) (c : Nat) : Step6 → State
  | .invalid => s.count SCT_TX.D_INVALID c 1
  | .exhausted => s.count SCT_TX.D_EXHAUSTED c 1
  | .keyGone => (s.count SCT_TX.D_KEY_GONE c 1).txEvent true SCT_TX.EV_KEY_GONE c
  | .pending => s.count SCT_TX.D_KEY_PENDING c 1
  | .ok _ _ _ => s

/-! Launch (R150 to R153). -/

/-- A launch-time frame is discarded for a miss (R151, R153). -/
def State.launchDrop (s : State) (f : Frame) (pn an : Nat) : State :=
  ((s.count TIM_LP.LAUNCH_DISCARD f.lp 1).pend 0x028).smpEgress f pn an 0 5

/-- A launch-time frame is discarded because of a step (R152). -/
def State.launchStep (s : State) (f : Frame) (pn an : Nat) : State :=
  (s.count TIM_LP.LAUNCH_STEP f.lp 1).smpEgress f pn an 0 5

/-- A step came between a PTP frame's timestamp and now (R152). -/
def State.stepped (s : State) (f : Frame) : Bool := f.ptp && f.steps != s.steps

/-- The dispatch deadline and the correction (R150, R151, R153): the frame to encrypt and whether it is late; none where
it is discarded. -/
def State.launchFix (s : State) (f : Frame) (pn an : Nat) : Option (Frame × Bool) × State :=
  match f.launch with
  | none => (some (f, false), s)
  | some tl =>
    let late := decide (tl < s.now + 600 * ns)
    let t := if late then s.launchPlace f.lp (s.now + 600 * ns) (s.charge f) else tl
    if s.stepped f then (none, s.launchStep f pn an)
    else if late ∧ (if f.ptp then s.on TIM_LP.LAUNCH_MISS_POLICY f.lp else f.strict) then (none, s.launchDrop f pn an)
    else
      let f := { f with launch := some t, data := if f.ptp then ptpCorrect f.data (residence f.time t) else f.data }
      (some (f, late), s)

/-- A frame goes from its queue to step 6 (R22): PROTECT frames take a PN and join their region's slice group, clear-text
frames go to the line port. -/
def State.step6 (s : State) (f : Frame) : State :=
  if s.stepped f then s.launchStep f 0 0
  else if f.ptp = false ∧ f.launch.isSome ∧ f.time + ms < f.want then s.launchDrop f 0 0
  else match f.sc with
  | some c =>
    match s.gateAssign c (s.lineLenOf f) with
    | (.ok a pn an, s) =>
      let r := regionOfLp f.lp
      s.setEg r (s.eg r ++ [⟨f, c, a, pn, an, [], s.protOf c a, [], 0, .wait, false, none⟩])
    | (x, s) => (s.step6Count c x).smpEgress f 0 0 0 3
  | none =>
    match s.launchFix f 0 0 with
    | (some (g, late), s) => s.setLineQ f.lp (s.lineQ f.lp ++ [⟨g.data, g, 0, 0, late, false, none⟩])
    | (none, s) => s

/-- A frame past step 6 is discarded: its own counter, a carrier's C_DISCARD, the sampler. -/
def State.egDrop (s : State) (x : EgItem) (reason : Nat) : State :=
  match x.car with
  | some c => (s.count CAR_TXCNT.C_DISCARD x.f.lp 1).each c.ends (fun f s => s.smpEgress f x.pn x.an 2 reason)
  | none => s.smpEgress x.f x.pn x.an (4 * b2n (1 < x.issues)) reason

/-! Release (R24, R91, R151). -/

/-- A protected frame leaves the reorder buffer for its line port: the slot deadline (R151, R153), then the SC's counters
(R91). -/
def State.egRelease (s : State) (x : EgItem) : State :=
  let missed := x.f.launch.any (fun t => t < s.now + 150 * ns)
  if s.stepped x.f then s.launchStep x.f x.pn x.an
  else if missed ∧ (x.f.ptp ∨ (x.f.strict ∧ x.late = false)) then s.launchDrop x.f x.pn x.an
  else
    let s := (s.count SCT_TX.PKTS x.sc 1).count SCT_TX.OCTETS x.sc (x.f.data.length - 12)
    let f := if missed then { x.f with launch := some (s.launchPlace x.f.lp s.now (s.charge x.f)) } else x.f
    s.setLineQ f.lp (s.lineQ f.lp ++ [⟨x.line, f, x.pn, x.an, x.late || missed, decide (1 < x.issues), x.car⟩])

/-- Release what may leave region r's list: finished frames with no earlier frame of their SC before them; `kept` is the
part already walked. -/
def State.egGo (r : Nat) (kept : List EgItem) : List EgItem → State → State
  | [], s => s
  | x :: l, s =>
    if x.stat = .done ∧ kept.any (fun y => y.sc == x.sc) = false then
      State.egGo r kept l ((s.setEg r (kept ++ l)).egRelease x)
    else State.egGo r (kept ++ [x]) l s

def State.relEg (s : State) (r : Nat) : State :=
  if (s.eg r).any (fun x => x.stat = .done) then State.egGo r [] (s.eg r) s else s

/-! Ingress verdict (R110). -/

/-- The verdict on a frame whose turn in its SC's arrival order has come. -/
def State.verdict (s : State) (x : InItem) (icvOk : Bool) : State :=
  let c := x.sc
  let t := readTag x.data
  let suite := x.par.suite
  let low := s.rxLow x.par.window x.sa
  let gone (s : State) : State :=
    s.smpIn x.sampled (s.get SCT_RX.HPORT c) x.lp c t.an (x.data.length + 4) x.time x.steps x.mono x.pn 0 9
  if icvOk = false ∨ (2 ≤ suite ∧ recoverPn true t.pn low ≠ x.pn) then
    gone ((s.count SAT_RX.IN_FAIL x.sa 1).count (if x.mode = 2 ∨ t.c then SCT_RX.IN_NOT_VALID else SCT_RX.IN_INVALID) c 1)
  else if x.pn < low ∧ x.par.replay then gone (s.count SCT_RX.IN_LATE c 1)
  else
    let s := (s.count (if x.pn < low then SCT_RX.IN_DELAYED else SCT_RX.IN_OK) c 1).count SAT_RX.IN_OK x.sa 1
    let s := if x.pn < s.get SAT_RX.NEXT_PN x.sa then s
      else if x.pn = pnCeiling suite then
        let s := s.set SAT_RX.NEXT_PN x.sa x.pn
        if s.get SAT_RX.STATE x.sa = saACTIVE then (s.set SAT_RX.STATE x.sa saEXHAUSTED).rxEvent true SCT_RX.EV_EXHAUST c
        else s
      else s.set SAT_RX.NEXT_PN x.sa (x.pn + 1)
    let o := 2 * c + (1 - x.sa % 2)
    let s := if s.on SCT_RX.KEYING c = false ∧ s.get SCT_RX.CUR c = x.sa % 2 ∧ s.get SAT_RX.STATE o = saACTIVE ∧
        s.on SAT_RX.RETIRE_ARMED o = false then s.rxArm o (s.now + x.par.overlap) else s
    s.deliverFrame x x.plain

/-- Release what may leave region r's ingress list; `kept` is the part already walked, with the SCs it blocks. -/
def State.igGo (r : Nat) (kept : List InItem) : List InItem → State → State
  | [], s => s
  | x :: l, s =>
    if kept.any (fun y => y.sc == x.sc) then State.igGo r (kept ++ [x]) l s
    else match x.stat with
    | .done ok => State.igGo r kept l ((s.setIg r (kept ++ l)).verdict x ok)
    | .strip => State.igGo r kept l ((s.setIg r (kept ++ l)).deliverFrame x (secureData x.data (readTag x.data)))
    | _ => State.igGo r (kept ++ [x]) l s

def InItem.ready (x : InItem) : Bool := match x.stat with
  | .done _ => true
  | .strip => true
  | _ => false

def State.relIg (s : State) (r : Nat) : State :=
  if (s.ig r).any InItem.ready then State.igGo r [] (s.ig r) s else s

/-- Release in every region, after a change that may have taken a frame out of a list. -/
def State.flow (s : State) : State := s.each (upto 4) (fun r s => (s.relEg r).relIg r)

end Sys2Proof.Machine
end

