-- ==== Sys2Proof/Machine/Chisel.lean ====
section
/-!
DEFINITION. Machine/Chisel.lean: the key engine (R189 to R209): command windows, arbitration, the checks at a grant, the
commands and their endings, faults and the KAT, and the Officer challenge checks it runs (R394, R395).
-/
namespace Sys2Proof.Machine

/-- CHS_STATUS.CODE values (R193). -/
def cDENIED : Nat := 1
def cKEYGONE : Nat := 3
def cFAULT : Nat := 4
def cBADOP : Nat := 5
def cUNWRAP : Nat := 6
def cOCCUPIED : Nat := 7
def cINVALIDATED : Nat := 8
def cFIXED : Nat := 9
def cSAACTIVE : Nat := 0xA
def cAUTO : Nat := 0xB
def cNOEXPORT : Nat := 0xC
def cCTXOPEN : Nat := 0xD
def cNOCTX : Nat := 0xE
def cCTXREJ : Nat := 0xF
def cBUSY : Nat := 0x10

/-- A world as the WORLDS bit and the record's octet (R161, R206). -/
def worldNum : World → Nat
  | .operator => 0
  | .officer => 1

/-- Chisel is RETIRED (R202). -/
def State.chsRetired (s : State) : Bool := s.get CHS_ENGINE.STATE 0 == 2

/-- The open MAC of a port. -/
def State.macOf (s : State) (p : Nat) : Option MacCtx := Tab.get none s.ch.macs p

/-- Set a port's MAC and CTX_OPEN. -/
def State.setMac (s : State) (p : Nat) (m : Option MacCtx) : State :=
  { s with ch.macs := s.ch.macs.set none p m }.set CHS_STATUS.CTX_OPEN p (b2n m.isSome)

/-- A slot's key has become unusable since GEN was read (R177). -/
def State.keyGone (s : State) (slot gen : Nat) : Bool :=
  s.get KST_SLOT.GEN slot != gen || s.get KST_SLOT.STATE slot == 0 || s.get KST_SLOT.STATE slot == 2

/-- The key of an open MAC has become unusable (R204). -/
def State.macGone (s : State) (m : MacCtx) : Bool := !m.clear && s.keyGone m.slot m.gen

/-! Writing a command (R189, R194). -/

/-- Zero a port's CHS_DOUT, RESULT_VALID, READ_ONCE and OUT_LEN. -/
def State.dropResult (s : State) (p : Nat) : State :=
  let s := { s.putWords CHS_DOUT.V (66 * p) 66 [] with ch.chsRead := s.ch.chsRead.set [] p [] }
  s.resetFields [CHS_STATUS.RESULT_VALID, CHS_STATUS.READ_ONCE, CHS_STATUS.OUT_LEN] p

/-- A write of CHS_CMD through a world's block. -/
def State.chsCmd (s : State) (p : Nat) (w : World) (v : Nat) : State :=
  let s := { s with ch.chsWorld := s.ch.chsWorld.set 0 p (worldNum w) }
  let op := bits v 0 4
  let reg := match w with
    | .operator => reg_CHS_CMD
    | .officer => reg_CLC_CMD
  if op = 0 ∨ 13 < op then s.reject (.port p) 1 reg.bar2 reg.base
  else if s.get CHS_STATUS.STATE p = 1 ∨ s.get CHS_STATUS.STATE p = 2 then s.set CHS_STATUS.CODE p cBUSY
  else
    { ((s.dropResult p).set CHS_STATUS.STATE p 1).set CHS_STATUS.CODE p 0 with
      ch.chsQueue := s.ch.chsQueue ++ [⟨p, w, v, false⟩] }

/-! The checks of a grant (R195 to R199). -/

/-- Operands captured at a grant: octets of CHS_DIN, the clear key, LEN, TARGET, OUT256, and the command's flags. -/
structure ChsArgs where
  op : Nat
  pad : Bool
  first : Bool
  last : Bool
  replace : Bool
  kslot : Nat
  ksrc : Bool
  clear : List Octet
  din : List Octet
  len : Nat
  target : Nat
  out256 : Bool
  deriving DecidableEq, Repr

/-- Capture a port's operands (R194). -/
def State.chsArgs (s : State) (p word : Nat) : ChsArgs :=
  ⟨bits word 0 4, bit word 4, bit word 5, bit word 6, bit word 7, bits word 8 8, bit word 16,
    (s.wordsOf CHS_KEY.V (8 * p) 8).take (if bit word 17 then 32 else 16),
    (s.wordsOf CHS_DIN.V (64 * p) 64).take (s.get CHS_ARG.LEN p), s.get CHS_ARG.LEN p, s.get CHS_ARG.TARGET p,
    s.on CHS_ARG.OUT256 p⟩

/-- What a grant decides: the state with any denial or use counted, the key slot, whether AES work is done, the plan. -/
structure Grant where
  s : State
  key : Option (Nat × Nat)
  aes : Bool
  plan : ChsPlan

/-- A refusal without AES work (R199). -/
def Grant.no (s : State) (code : Nat) : Grant := ⟨s, none, false, .code code⟩

/-- The key of an operation: the clear key, or the slot's key after R163; otherwise a status. -/
def State.chsKey (s : State) (p : Nat) (w : World) (a : ChsArgs) (purposes : List Nat) (clearOk : Bool) :
    Sum Nat (List Octet × Option (Nat × Nat)) :=
  if a.ksrc then (if clearOk then .inr (a.clear, none) else .inl cBADOP)
  else
    let c := if purposes.isEmpty then 1 else s.slotCheck a.kslot p (some (worldNum w)) purposes
    if c ≠ 0 then .inl c
    else .inr (Tab.get [] s.ke.slotKey a.kslot, some (a.kslot, s.get KST_SLOT.GEN a.kslot))

/-- A status that R163 gave counts (R163); the clear-key check's does not. -/
def State.refusedKey (s : State) (a : ChsArgs) (code : Nat) : Grant :=
  Grant.no (if a.ksrc then s else s.denied) code

/-- An operation with AES work starts: its slot use counts (R164, R199). -/
def State.chsGo (s : State) (key : Option (Nat × Nat)) (plan : ChsPlan) : Grant :=
  ⟨match key with
    | some k => s.slotUse k.1
    | none => s, key, true, plan⟩

/-- Checks 1 to 3 of R198 on a target slot. -/
def State.slotTarget (s : State) (t : Nat) (replace : Bool) : Nat :=
  if t < 16 ∨ 255 < t then cFIXED
  else if s.get KST_SLOT.STATE t = 2 then cINVALIDATED
  else if s.get KST_SLOT.STATE t ≠ 0 ∧ replace = false then cOCCUPIED else 0

/-- Checks 4 to 6 of R198 on a target SA key, for a key of n octets. -/
def State.saTarget (s : State) (t n : Nat) : Nat :=
  let tx := decide (t < 8192)
  let c := if tx then t / 2 else (t - 8192) / 2
  let auto := if tx then s.on SCT_TX.KEYING c else s.on SCT_RX.KEYING c
  let suite := if tx then s.get SCT_TX.SUITE c else s.get SCT_RX.SUITE c
  if auto then cAUTO
  else if s.saState t = saACTIVE then cSAACTIVE
  else if n ≠ (if suite % 2 = 1 then 32 else 16) then cBADOP else 0

/-- One part of a CMAC (R204). -/
def State.grantMac (s : State) (p : Nat) (w : World) (a : ChsArgs) : Grant :=
  let part (s : State) (m : MacCtx) (use : Option (Nat × Nat)) (key : Option (Nat × Nat)) : Grant :=
    let ks := expandKey m.key
    let t := s.chsGo use (.code 0)
    let m := { m with parts := m.parts + 1, octets := m.octets + a.len }
    if a.last then
      let h := headLen a.len
      ⟨t.s, key, true, .mac none (cmacFinish ks (cmacChain ks m.chain (blocks16 (a.din.take h))) (a.din.drop h))⟩
    else ⟨t.s, key, true, .mac (some { m with chain := cmacChain ks m.chain (blocks16 a.din) }) []⟩
  let badLen := if a.last then a.len = 0 ∧ a.first = false else a.len = 0 ∨ a.len % 16 ≠ 0
  match s.macOf p with
  | some m =>
    if a.first then Grant.no s cCTXOPEN
    else if badLen then Grant.no s cBADOP
    else if s.macGone m then Grant.no (s.setMac p none) cKEYGONE
    else part s m none (if m.clear then none else some (m.slot, m.gen))
  | none =>
    if a.first = false then Grant.no s cNOCTX
    else match s.chsKey p w a [pMAC] true with
      | .inl c => s.refusedKey a c
      | .inr (k, slot) =>
        if badLen then Grant.no s cBADOP
        else part s ⟨List.replicate 16 0, k, slot.isNone, (slot.getD (0, 0)).1, (slot.getD (0, 0)).2, w, 0, 0⟩ slot slot

/-- ENC and DEC (R195): a slot key is DENIED. -/
def State.grantEcb (s : State) (p : Nat) (w : World) (a : ChsArgs) : Grant :=
  match s.chsKey p w a [] true with
  | .inl c => s.refusedKey a c
  | .inr (k, slot) =>
    if a.len = 0 ∨ a.len % 16 ≠ 0 then Grant.no s cBADOP
    else s.chsGo slot (.result (if a.op = 1 then ecbEnc k a.din else ecbDec k a.din) false)

/-- WRAP (R195). -/
def State.grantWrap (s : State) (p : Nat) (w : World) (a : ChsArgs) : Grant :=
  match s.chsKey p w a [pWRAP] true with
  | .inl c => s.refusedKey a c
  | .inr (k, slot) =>
    if a.len = 0 ∨ (a.pad = false ∧ (a.len < 16 ∨ a.len % 8 ≠ 0)) then Grant.no s cBADOP
    else s.chsGo slot (.result (if a.pad then keyWrapPad k a.din else keyWrap k a.din) false)

/-- EXPORT (R195, R196). -/
def State.grantExport (s : State) (p : Nat) (w : World) (a : ChsArgs) : Grant :=
  match s.chsKey p w a [pWRAP] false with
  | .inl c => s.refusedKey a c
  | .inr (k, slot) =>
    if a.len ≠ 0 then Grant.no s cBADOP
    else if 255 < a.target ∨ s.slotCheck a.target p (some (worldNum w)) [] ≠ 0 then Grant.no s cDENIED
    else if s.on KST_SLOT.EXPORTABLE a.target = false ∨ a.target = 1 then Grant.no s cNOEXPORT
    else
      let t := Tab.get [] s.ke.slotKey a.target
      s.chsGo slot (.result (if a.pad then keyWrapPad k t else keyWrap k t) true)

/-- UNWRAP_SLOT and UNWRAP_SA (R195, R198). -/
def State.grantUnwrap (s : State) (p : Nat) (w : World) (a : ChsArgs) : Grant :=
  let sa := a.op = 7
  match s.chsKey p w a (if sa then [pUNWRAP, pDATAPATH] else [pUNWRAP]) false with
  | .inl c => s.refusedKey a c
  | .inr (k, slot) =>
    if a.len ≠ 24 ∧ a.len ≠ 40 then Grant.no s cBADOP
    else
      let why := if sa then s.saTarget a.target (a.len - 8) else s.slotTarget a.target a.replace
      if why ≠ 0 then Grant.no s why
      else match if a.pad then keyUnwrapPad k a.din else keyUnwrap k a.din with
        | none => s.chsGo slot (.code cUNWRAP)
        | some n =>
          if n.length ≠ a.len - 8 then s.chsGo slot (.code cUNWRAP)
          else s.chsGo slot (if sa then .sa n a.target a.kslot else .slot n a.target a.kslot a.replace 3)

/-- DERIVE_SLOT and DERIVE_SA (R197, R198). -/
def State.grantDerive (s : State) (p : Nat) (w : World) (a : ChsArgs) : Grant :=
  let sa := a.op = 9
  match s.chsKey p w a (if sa then [pDERIVE, pDATAPATH] else [pDERIVE]) false with
  | .inl c => s.refusedKey a c
  | .inr (k, slot) =>
    let m := (octetAt a.din 0).toNat
    let label := slice a.din 1 m
    if a.len < 2 ∨ m = 0 ∨ 64 < m ∨ a.len < m + 1 ∨ label.take 3 = [0x51#8, 0x58#8, 0x2D#8] ∨
        s.get KST_SLOT.KLEN a.kslot ≠ 1 then Grant.no s cBADOP
    else
      let n := if a.out256 then 32 else 16
      let why := if sa then s.saTarget a.target n else s.slotTarget a.target a.replace
      if why ≠ 0 then Grant.no s why
      else
        let o := kdf k label (a.din.drop (m + 1)) (8 * n)
        s.chsGo slot (if sa then .sa o a.target a.kslot else .slot o a.target a.kslot a.replace 4)

/-- The boot identity (R205). -/
def State.bootId (s : State) : List Octet := s.ch.ctxKey.drop 32

/-- The record of an open MAC (R206). -/
def State.macRecord (s : State) (m : MacCtx) : List Octet :=
  let head := [0x01#8] ++ leBytes 1 (b2n m.clear) ++ [0x03#8] ++ leBytes 1 m.slot ++ leBytes 1 m.gen ++
    leBytes 1 (worldNum m.world) ++ beBytes 2 (min m.parts 65535) ++ beBytes 8 m.octets ++ s.bootId ++
    beBytes 4 (if m.clear then 96 else 16) ++ List.replicate 4 0
  if m.clear then
    head ++ keyWrapPad (s.ch.ctxKey.take 32) (head ++ m.chain ++ leBytes 1 (b2n (m.key.length == 32)) ++
      List.replicate 7 0 ++ padTo 32 m.key)
  else head ++ m.chain

/-- SUSPEND (R205): it uses no slot key, so one that has become unusable ends only the restored MAC's next part (R204). -/
def State.grantSuspend (s : State) (p : Nat) : Grant :=
  match s.macOf p with
  | none => Grant.no s cNOCTX
  | some m =>
    if s.ch.ctxKey.isEmpty then Grant.no s cFAULT
    else ⟨s, none, false, .suspended (s.macRecord m)⟩

/-- RESTORE (R207); no MAC is open on the port. -/
def State.grantRestore (s : State) (p : Nat) (w : World) : Grant :=
  let r := s.wordsOf CHS_CTX.V (128 * p) 128
  let n (i : Nat) : Nat := (octetAt r i).toNat
  let body := beNat (slice r 24 4)
  if n 0 ≠ 1 ∨ n 2 ≠ 3 ∨ ¬((n 1 = 0 ∧ body = 16) ∨ (n 1 = 1 ∧ body = 96)) ∨ s.ch.ctxKey.isEmpty ∨
      slice r 16 8 ≠ s.bootId ∨ n 5 ≠ (worldNum w) then Grant.no s cCTXREJ
  else
    let parts := beNat (slice r 6 2)
    let octets := beNat (slice r 8 8)
    if n 1 = 0 then
      if s.slotCheck (n 3) p (some (worldNum w)) [pMAC] ≠ 0 ∨ s.get KST_SLOT.GEN (n 3) ≠ n 4 then
        Grant.no (if s.slotCheck (n 3) p (some (worldNum w)) [pMAC] ≠ 0 then s.denied else s) cCTXREJ
      else
        ⟨s, some (n 3, n 4), false,
          .mac (some ⟨slice r 32 16, Tab.get [] s.ke.slotKey (n 3), false, n 3, n 4, w, parts, octets⟩) []⟩
    else match keyUnwrapPad (s.ch.ctxKey.take 32) (slice r 32 96) with
      | none => ⟨s, none, true, .code cCTXREJ⟩
      | some o =>
        if o.length ≠ 88 ∨ o.take 32 ≠ r.take 32 then ⟨s, none, true, .code cCTXREJ⟩
        else
          let key := slice o 56 (if (octetAt o 48).toNat = 1 then 32 else 16)
          ⟨s, none, true, .mac (some ⟨slice o 32 16, key, true, 0, 0, w, parts, octets⟩) []⟩

/-- ABORT (R195, R204). -/
def State.grantAbort (s : State) (p : Nat) : Grant :=
  if (s.macOf p).isSome then ⟨s, none, false, .mac none []⟩ else Grant.no s cNOCTX

/-- ERASE_SA acts at its grant (R176, R472). -/
def State.grantErase (s : State) (a : ChsArgs) : Grant :=
  ⟨(((s.saDrop a.target).logKst 0x1A 0 0 a.target).flow), none, false, .code 0⟩

/-- The checks and the plan of a granted command (R195 to R207). A RETIRED engine ends every command FAULT but ABORT
(R202, R204). -/
def State.grantCmd (s : State) (r : ChsReq) (a : ChsArgs) : Grant :=
  let p := r.port
  let w := r.world
  if s.chsRetired ∧ a.op ≠ 13 then Grant.no s cFAULT
  else if (s.macOf p).isSome ∧ a.op ≠ 3 ∧ a.op ≠ 11 ∧ a.op ≠ 13 then Grant.no s cCTXOPEN
  else match a.op with
    | 1 => s.grantEcb p w a
    | 2 => s.grantEcb p w a
    | 3 => s.grantMac p w a
    | 4 => s.grantWrap p w a
    | 5 => s.grantExport p w a
    | 6 => s.grantUnwrap p w a
    | 7 => s.grantUnwrap p w a
    | 8 => s.grantDerive p w a
    | 9 => s.grantDerive p w a
    | 10 => s.grantErase a
    | 11 => s.grantSuspend p
    | 12 => s.grantRestore p w
    | _ => s.grantAbort p

/-- Grant a port's command: its operands are captured and the registers zeroed (R194). -/
def State.grantPort (s : State) (r : ChsReq) : State :=
  let a := s.chsArgs r.port r.word
  let s := { s with ch.chsQueue := s.ch.chsQueue.erase r, ch.chsFirst := 1 - r.port }
  let s := if r.lost then s else s.set CHS_STATUS.STATE r.port 2
  let s := (s.putWords CHS_KEY.V (8 * r.port) 8 []).putWords CHS_DIN.V (64 * r.port) 64 []
  let g := s.grantCmd r a
  { g.s with ch.chsJob := some (.cmd r g.key g.aes g.plan) }

/-! Officer challenge checks (R394, R395). -/

/-- A submission is decided (R395): LAST, the challenge zeroed, the event log for OPENED and BAD_RESPONSE. -/
def State.sessDecide (s : State) (p last : Nat) : State :=
  let s := { s.putWords OFC_CHAL.V (8 * p) 8 [] with ofc.chal := s.ofc.chal.set none p none }
  let s := s.set OFC_SESSION.LAST p last
  if last = 1 then
    { ((s.set OFC_SESSION.STATE p 2).set OFC_SESSION.FAILS p 0).logKst 0x0F 2 0 0 with
      ofc.sessAt := s.ofc.sessAt.set 0 p s.mono }
  else
    let s := s.set OFC_SESSION.STATE p 0
    if last = 2 then
      { (s.bump OFC_SESSION.FAILS p 1).logKst 0x0F 2 0 0 with ofc.lastFail := s.ofc.lastFail.set 0 p (s.mono + 1) }
    else s

/-- A check ends (R394, R395). -/
def State.checkEnd (s : State) (c : ChkReq) (key : List Octet) (gen : Nat) : State :=
  let s := { s with ch.chsJob := none }
  if s.keyGone 2 gen then s.sessDecide c.port 3
  else s.sessDecide c.port (if cmac key c.msg = c.resp then 1 else 2)

/-- Grant a check; on a RETIRED engine or an unusable slot 2 it is decided at once. -/
def State.grantCheck (s : State) (c : ChkReq) : State :=
  let s := { s with ch.checks := s.ch.checks.erase c }
  if s.chsRetired then s.sessDecide c.port 6
  else if s.slotCheck 2 2 none [pMAC] ≠ 0 then s.denied.sessDecide c.port 3
  else
    let key := Tab.get [] s.ke.slotKey 2
    let gen := s.get KST_SLOT.GEN 2
    { s.slotUse 2 with ch.chsJob := some (.check c key gen) }

/-! Image key records at start-up step 8 (R424, R180). -/

/-- An erase has taken the keys: nothing is restored or unwrapped (R373). -/
def State.keysLost (s : State) : Bool := s.cl.eraseDue || s.on CLM_STATUS.ERASED 0

/-- The running image's key records. -/
def State.imageKeys (s : State) : List (List Octet) := (s.jg.image.map (·.keys)).getD []

/-- A key record waits for Chisel (R203). -/
def State.recWaits (s : State) : Bool :=
  s.startsAt 7 && !s.keysLost && decide (s.jg.recNext < s.imageKeys.length)

/-- Before the first record every valid key RAM entry is restored (R180). -/
def State.recBegin (s : State) : State :=
  if s.jg.kramDone then s else { s.each (upto 32) (fun j s => s.kramRestore j) with jg.kramDone := true }

/-- The attributes of a record for a general slot, as writes of words 2 and 1 of the empty slot (R161). -/
def State.recAttrs (s : State) (slot : Nat) (k : List Octet) : State :=
  (s.slotWrite .jig slot 2 (u32 k 8)).slotWrite .jig slot 1 (u32 k 4)

/-- A record fails (R424). -/
def State.recFail (s : State) : State := s.bump JIG_KEY_FAIL.V 0 1

/-- Why a record is not unwrapped: 1 a second one for its slot, 2 a slot filled by the key RAM (R180, R424). -/
def State.recSkip (s : State) (n : Nat) : Nat :=
  let slot (k : List Octet) : Nat := (octetAt k 0).toNat
  let k := s.imageKeys.getD n []
  if (s.imageKeys.take n).any (fun x => slot x == slot k) then 1 else if s.get KST_SLOT.STATE (slot k) ≠ 0 then 2 else 0

/-- What the unwrap of record n gives: nothing on a RETIRED engine (R202). -/
def State.recInstall (s : State) (n : Nat) : State :=
  let k := s.imageKeys.getD n []
  let slot := (octetAt k 0).toNat
  let klen := (octetAt k 1).toNat
  match if s.chsRetired then none else keyUnwrap (Tab.get [] s.ke.slotKey 0) (slice k 16 (if klen = 0 then 24 else 40)) with
  | none => s.recFail
  | some key =>
    if slot = 2 then s.slotFixed 2 key klen 2 (some 0) else (s.recAttrs slot k).slotFill slot key 2 (some 0) true

/-- Record n is done with. -/
def State.recEnd (s : State) (n : Nat) : State :=
  let s := match s.recSkip n with
    | 0 => s.recInstall n
    | 1 => s.recFail
    | _ => s.bump KST_BOOT_SKIP.V 0 1
  { s with jg.recNext := n + 1, jg.recAgain := false }

/-- The records that are left, in order. -/
def State.recsEnd (s : State) : State :=
  s.each ((upto s.imageKeys.length).drop s.jg.recNext) (fun n s => s.recEnd n)

/-- The next record's unwrap ends FAULT (R201): it is repeated once, and then fails. -/
def State.recFault (s : State) : State :=
  if s.jg.recAgain then { s.recFail with jg.recNext := s.jg.recNext + 1, jg.recAgain := false }
  else { s with jg.recAgain := true }

/-! Arbitration. -/

/-- A requester of the round waits (R203): Regions 0 to 3 with a derivation, which in BOOT waits for step 14 (R60, log entry
9) and in its region gives way to deep-buffer reads and writes, 16 times (R18); then 4, the management ports and the chip's own
requests. -/
def State.chsWaits (s : State) (k : Nat) : Bool :=
  if k < 4 then s.mode != mBOOT && (s.nextItem k).isSome &&
    (!(s.readReq k || s.writeReq k) || decide (16 ≤ Tab.get 0 s.vn.chsWait k))
  else s.recWaits || !s.ch.checks.isEmpty || !s.ch.chsQueue.isEmpty

/-- Whose turn of Chisel it is (R17, R203): the first requester in the round that waits; none while the engine is held or
tested. -/
def State.chsTurn (s : State) : Option Nat :=
  if s.ch.chsJob.isSome ∨ s.get CHS_ENGINE.STATE 0 = 1 then none
  else ((upto 5).map (fun i => (s.ch.chsRound + i) % 5)).find? s.chsWaits

/-- The next management turn of Chisel (R203). -/
def State.chsGrant (s : State) : State :=
  if s.chsTurn ≠ some 4 then s
  else
    let s := { s with ch.chsRound := 0 }
    if s.recWaits then
      let s := s.recBegin
      if s.recSkip s.jg.recNext = 0 then { s with ch.chsJob := some .record } else s.recEnd s.jg.recNext
    else match s.ch.checks with
    | c :: _ => s.grantCheck c
    | [] => match s.ch.chsQueue.find? (fun r => r.port == s.ch.chsFirst) with
      | some r => s.grantPort r
      | none => match s.ch.chsQueue with
        | r :: _ => s.grantPort r
        | [] => s

/-- AUTOKEY_SA_DERIVE: the turn of region r in the round (R203). -/
def State.autTurn (s : State) (r : Nat) (fault : Bool) : State :=
  match s.nextItem r with
  | some x => if s.chsTurn = some r then s.regionTurn r x fault else s
  | none => s

/-! Endings (R199, R201, R208). -/

/-- A port's command ends with a status and a result. A lost port keeps nothing of it (R388). -/
def State.chsEnd (s : State) (r : ChsReq) (code : Nat) (out : List Octet) (len : Nat) (once : Bool) : State :=
  let s := { s with ch.chsJob := none }
  if r.lost then s
  else
    let p := r.port
    let ok := code == 0 && !out.isEmpty
    let s := s.putWords CHS_DOUT.V (66 * p) 66 out
    let s := ((((s.set CHS_STATUS.STATE p 3).set CHS_STATUS.CODE p code).set CHS_STATUS.OUT_LEN p len).set
      CHS_STATUS.RESULT_VALID p (b2n ok)).set CHS_STATUS.READ_ONCE p (b2n (ok && once))
    s.pend (0x3C0 + p)

/-- Install a plan's key into a slot; the target checks of R198 are made again. Where the replacement erases the parent, or a
slot above it by a cascade, nothing is created (R177). -/
def State.endSlot (s : State) (r : ChsReq) (key : List Octet) (t parent : Nat) (replace : Bool) (origin : Nat) : State :=
  let why := s.slotTarget t replace
  if why ≠ 0 then s.chsEnd r why [] 0 false
  else
    let fresh := s.get KST_SLOT.STATE t == 0
    let gen := s.get KST_SLOT.GEN parent
    let s := (s.slotVacate t (if origin = 3 then 0x16 else 0x18)).2
    if s.keyGone parent gen then s.chsEnd r cKEYGONE [] 0 false
    else (s.slotFill t key origin (some parent) fresh).chsEnd r 0 [] 0 false

/-- Install a plan's key into an SA key. It is the host's: no epoch's key, staged or in place, is there any more (R238). -/
def State.endSa (s : State) (r : ChsReq) (key : List Octet) (t parent : Nat) : State :=
  let why := s.saTarget t key.length
  if why ≠ 0 then s.chsEnd r why [] 0 false
  else
    let s := { s with au.staged := s.au.staged.set none t none, au.saEpoch := s.au.saEpoch.set 0 t 0 }
    ((s.saInstall t key (parent + 1)).flow).chsEnd r 0 [] 0 false

/-- What a plan installs into: slot t, or 256 + SA key t. -/
def ChsPlan.target : ChsPlan → Option Nat
  | .slot _ t _ _ _ => some t
  | .sa _ t _ => some (256 + t)
  | _ => none

/-- A port's command ends without a fault (R177, R195 to R207). -/
def State.cmdEnd (s : State) (r : ChsReq) (key : Option (Nat × Nat)) (pl : ChsPlan) : State :=
  let p := r.port
  let isMac : Bool := match pl with
    | .mac _ _ => true
    | _ => false
  if key.any (fun k => s.keyGone k.1 k.2) then
    (if isMac ∧ r.lost = false then s.setMac p none else s).chsEnd r cKEYGONE [] 0 false
  else match pl with
    | .code c => s.chsEnd r c [] 0 false
    | .result o once => s.chsEnd r 0 o o.length once
    | .mac m o => (if r.lost then s else s.setMac p m).chsEnd r 0 o o.length false
    | .suspended o =>
      (if r.lost then s else (s.putWords CHS_CTX.V (128 * p) 128 o).setMac p none).chsEnd r 0 [] o.length false
    | .slot k t parent rep origin => s.endSlot r k t parent rep origin
    | .sa k t parent => s.endSa r k t parent

/-- The place of the granted command's installation in the key store's queue (R172). -/
def chsPlace : KstReq := ⟨2, 0, 0, 0, false, false⟩

/-- The granted command reaches the key store with a key for `t` (R172): it is carried out behind the commands that reached it
before, and not while the zeroisation of what it would overwrite runs. -/
def State.chsInstall (s : State) (t : Nat) (go : State → State) : State :=
  match s.ke.kstQueue with
  | [] => if s.zeroing t then { s with ke.kstQueue := [chsPlace] } else go s
  | x :: rest =>
    if x.port = 2 then (if s.zeroing t then s else go { s with ke.kstQueue := rest })
    else if s.ke.kstQueue.contains chsPlace then s
    else { s with ke.kstQueue := s.ke.kstQueue ++ [chsPlace] }

/-- The granted operation ends (R200). -/
def State.chsComplete (s : State) : State :=
  match s.ch.chsJob with
  | some (.cmd r key _ pl) =>
    match pl.target with
    | some t => s.chsInstall t (fun s => s.cmdEnd r key pl)
    | none => { s with ke.kstQueue := s.ke.kstQueue.erase chsPlace }.cmdEnd r key pl
  | some (.check c key gen) => s.checkEnd c key gen
  | some .record =>
    let s := { s with ch.chsJob := none }
    if s.recWaits then s.recEnd s.jg.recNext else s
  | none => s

/-- The key store takes up what is at the front of its queue (R172): a port's command, or Chisel's installation. -/
def State.storeStart (s : State) : State :=
  match s.ke.kstQueue with
  | x :: _ => if x.port = 2 then s.chsComplete else s.kstStart
  | [] => s

/-- A mismatch of the datapaths (R201, R202): counted, the engine fenced for its KAT. -/
def State.engineFault (s : State) : State := ((s.count CHS_FAULTS.V 0 1).set CHS_ENGINE.STATE 0 1).pend 0x3C2

/-- The operation that runs ends FAULT; only AES work can, and only before its result has reached the key store (R201). A
check is repeated once. -/
def State.chsFault (s : State) : State :=
  match s.ch.chsJob with
  | some (.cmd r _ true _) => if s.ke.kstQueue.contains chsPlace then s else s.engineFault.chsEnd r cFAULT [] 0 false
  | some (.check c _ _) =>
    let s := { s.engineFault with ch.chsJob := none }
    if c.again then s.sessDecide c.port 6
    else { s with ch.checks := { c with again := true } :: s.ch.checks }
  | some .record =>
    let s := { s.engineFault with ch.chsJob := none }
    if s.recWaits then s.recFault else s
  | _ => s

/-- The engine is RETIRED: schedules read STALLED (R202, R234, R241). -/
def State.chsRetire (s : State) : State :=
  let s := (s.set CHS_ENGINE.STATE 0 2).pend 0x3C3
  if (s.ones GAU_SCH.VALID).isEmpty then s else s.pend 0x01D

/-- The KAT ends (R202). -/
def State.chsKat (s : State) (pass : Bool) : State :=
  if s.get CHS_ENGINE.STATE 0 ≠ 1 then s
  else
    let l := recent s (10 * sec) s.ch.chsTrans
    if pass = false then s.chsRetire
    else
      let s := { s with ch.chsTrans := l ++ [s.mono] }
      if 4 ≤ l.length then s.chsRetire else s.set CHS_ENGINE.STATE 0 0

/-- Close a port's open MAC and zero its state (R204). -/
def State.macClose (s : State) (p : Nat) : State := if (s.macOf p).isSome then s.setMac p none else s

/-! Reads of CHS_DOUT (R189, R208). -/

/-- The block of a world shows the port's results. -/
def State.chsVisible (s : State) (p : Nat) (w : World) : Bool := Tab.get 0 s.ch.chsWorld p == (worldNum w)

/-- Value of CHS_DOUT word i through a block. -/
def State.doutValue (s : State) (p : Nat) (w : World) (i : Nat) : Nat :=
  if s.chsVisible p w && s.on CHS_STATUS.RESULT_VALID p then s.get CHS_DOUT.V (66 * p + i) else 0

/-- What reading it does: a read-once word clears, and a second read counts. -/
def State.doutRead (s : State) (p : Nat) (w : World) (i : Nat) : State :=
  if s.chsVisible p w && s.on CHS_STATUS.RESULT_VALID p && s.on CHS_STATUS.READ_ONCE p then
    let l := Tab.get [] s.ch.chsRead p
    if l.contains i then
      let z := s.get CHS_REREAD.V p == 0
      let s := s.bump CHS_REREAD.V p 1
      if z then s.pend (0x3C4 + p) else s
    else { s.set CHS_DOUT.V (66 * p + i) 0 with ch.chsRead := s.ch.chsRead.set [] p (insertNat i l) }
  else s

end Sys2Proof.Machine
end

