-- ==== Sys2Proof/Machine/Carrier.lean ====
section
/-!
DEFINITION. Machine/Carrier.lean: the transmit carrier stream of a guarded port (R264 to R275).
-/
namespace Sys2Proof.Machine

def State.carTxOf (s : State) (k : Nat) : CarTx := Tab.get CarTx.none s.ca.carTx k
def State.setCarTx (s : State) (k : Nat) (x : CarTx) : State := { s with ca.carTx := s.ca.carTx.set CarTx.none k x }

/-- Give successive slots from m on to the carriers of a list; answers the slot behind them. -/
def renumber {α : Type} (get : α → Option CarInfo) (put : α → CarInfo → α) : Nat → List α → List α × Nat
  | m, [] => ([], m)
  | m, x :: l =>
    match get x with
    | some c => let r := renumber get put (m + 1) l; (put x { c with slot := m } :: r.1, r.2)
    | none => let r := renumber get put m l; (x :: r.1, r.2)

/-- The stream of LPk begins at slot m (R267). Carriers that were packed before a link-down and still wait take its first
slots (log entry 73). -/
def State.carBegin (s : State) (k m : Nat) : State :=
  let a := renumber (fun (x : LineItem) => x.car) (fun x c => { x with car := some c }) m (s.lineQ k)
  let b := renumber (fun (x : EgItem) => if x.f.lp = k then x.car else none) (fun x c => { x with car := some c }) a.2
    (s.eg (regionOfLp k))
  (((s.setLineQ k a.1).setEg (regionOfLp k) b.1).set CAR_TX.RUNNING k 1).carTxEv CAR_TX.EV_START k |>.setCarTx k
    { CarTx.none with slot := b.2 }

/-- A CARRIER_START for LPk (R267); `at_` is the instant 1,000 ns before slot 0. -/
def State.carStart (s : State) (k at_ : Nat) : State :=
  if s.on CAR_TX.EN k && s.guarded k && !s.on CAR_TX.RUNNING k && s.carValid k && s.on TIM_LP.CAL_DONE k then
    (s.set CAR_TX.START k (time96 (at_ + 1000 * ns))).carBegin k 0
  else s.carTxEv CAR_TX.EV_REFUSED k

/-- Segments placed so far in a carrier: headers, data, room left, frames that end in it. -/
structure Pack where
  hdrs : List (List Octet)
  data : List Octet
  room : Nat
  ends : List Frame

/-- A segment header (R274). -/
def segHeader (f : Frame) (fseq off n : Nat) : List Octet :=
  let o := f.data.length
  beBytes 2 (b2n (off == 0) * 32768 + b2n (off + n == o) * 16384 + o) ++ beBytes 2 n ++ beBytes 2 off ++ beBytes 2 fseq

/-- Place n octets of a frame from an offset on (R270, R271). -/
def State.place (s : State) (k : Nat) (p : Pack) (f : Frame) (fseq off n : Nat) : Pack × State :=
  let whole := off + n == f.data.length
  let s := (s.shpCharge (8208 + k) (8 + n)).setCarTx k { s.carTxOf k with split := if whole then none else some (f, fseq, off + n) }
  let s := (s.count CAR_TXCNT.SEGMENTS k 1).count CAR_TXCNT.SEG_OCTETS k (8 + n)
  (⟨p.hdrs ++ [segHeader f fseq off n], p.data ++ slice f.data off n, p.room - (8 + n), if whole then p.ends ++ [f] else p.ends⟩, s)

/-- Frames begun in a carrier (R270). -/
def State.packGo (k : Nat) : Nat → Pack → State → Pack × State
  | 0, p, s => (p, s)
  | fuel + 1, p, s =>
    if (s.carTxOf k).stopping ∨ 255 ≤ p.hdrs.length ∨ p.room ≤ 8 ∨ s.shpOk (8208 + k) = false then (p, s)
    else
      let t := s.drrPeek2 k true
      match t.1 with
      | none => (p, t.2)
      | some q =>
        let o := ((t.2.queue q).cells.head?.map (fun f => f.data.length)).getD 0
        if p.room - 8 < min o 64 then (p, t.2)
        else match t.2.drrTake q true with
          | (some f, s) =>
            let fseq := s.get CAR_TX.FSEQ_NEXT k
            let r := (s.turn CAR_TX.FSEQ_NEXT k 1).place k p f fseq 0 (min o (p.room - 8))
            State.packGo k fuel r.1 r.2
          | (none, s) => (p, s)

/-- The secure data of a carrier (R273). -/
def carrierData (csize cseq : Nat) (p : Pack) : List Octet :=
  padTo csize ([0x10, BitVec.ofNat 8 p.hdrs.length, 0, 0] ++ beBytes 4 cseq ++ p.hdrs.flatten ++ p.data)

/-- A carrier of LPk may be packed now (R268, R46). -/
def State.carDue (s : State) (k : Nat) : Bool :=
  s.streams k && s.lpUp k && s.md.trans.isNone && !s.cl.eraseDue && !s.fenced (regionOfLp k) &&
  decide (s.slotTime k (s.carTxOf k).slot ≤ s.now + 800 * ns) && !((s.carTxOf k).stopping && (s.carTxOf k).split.isNone)

/-- The slot passes idle (R268). -/
def State.slotSkip (s : State) (k : Nat) : State := (s.count CAR_TXCNT.SLOT_SKIPPED k 1).carTxEv CAR_TX.EV_IDLE k

/-- Pack the carrier for the next slot (R268, R270). -/
def State.carPack (s : State) (k : Nat) : State :=
  if s.carDue k = false then s
  else
    let c := s.get CAR_TX.SC k
    let n := s.get CAR_TX.CSIZE k
    let m := (s.carTxOf k).slot
    let s := s.setCarTx k { s.carTxOf k with slot := m + 1 }
    if s.elsewhere c k then s.slotSkip k
    else match s.gateAssign c (n + 48) with
    | (.ok a pn an, s) =>
      let p : Pack := ⟨[], [], n - 8, []⟩
      let t := match (s.carTxOf k).split with
        | some (f, fseq, off) => s.place k p f fseq off (min (f.data.length - off) (p.room - 8))
        | none => (p, s)
      let t := State.packGo k 256 t.1 t.2
      let s := t.2
      let cseq := s.get CAR_TX.CSEQ_NEXT k
      let s := s.turn CAR_TX.CSEQ_NEXT k 1
      let sa := s.get SCT_TX.SCI c / 65536
      let data := beBytes 6 (s.get CAR_TX.DA k) ++ beBytes 6 sa ++ carrierData n cseq t.1
      let f := { newFrame data s.now s.mono s.steps none none 0 with sc := some c, lp := k }
      let r := regionOfLp k
      (s.setEg r (s.eg r ++ [⟨f, c, a, pn, an, [], s.protOf c a, [], 0, .wait, false, some ⟨m, t.1.hdrs.length, t.1.ends.filter (·.sampled)⟩⟩])).pfc
    | (x, s) => (s.step6Count c x).slotSkip k

/-- Carriers of LPk that are packed and not on the line. -/
def State.carPacked (s : State) (k : Nat) : List CarInfo :=
  ((s.eg (regionOfLp k)).filter (fun x => x.f.lp == k)).filterMap (·.car) ++ (s.lineQ k).filterMap (·.car)

/-- A stopping stream ends once nothing of it is left (R267). -/
def State.carEnd (s : State) (k : Nat) : State :=
  if (s.carTxOf k).stopping ∧ (s.carTxOf k).split = none ∧ s.carPacked k = [] then
    (s.set CAR_TX.RUNNING k 0).setCarTx k CarTx.none
  else s

/-- STOP (R267). -/
def State.carStop (s : State) (k : Nat) : State :=
  if s.on CAR_TX.RUNNING k then (s.setCarTx k { s.carTxOf k with stopping := true }).carEnd k else s

/-- A frame of the carrier's SC that is no carrier stands before it at the port (R31). -/
def carBlocked (l : List LineItem) (x : LineItem) : Bool :=
  (l.takeWhile (fun y => y.car.isNone)).any (fun y => y.f.sc == x.f.sc)

/-- A packed carrier has not reached the launch slot 150 ns before its slot (R268): it and those behind it move one slot
later. -/
def State.carLate (s : State) (k : Nat) : State :=
  let r := regionOfLp k
  let move (c : CarInfo) : CarInfo := { c with slot := c.slot + 1 }
  let due (c : Option CarInfo) : Bool := c.any (fun c => s.slotTime k c.slot ≤ s.now + 150 * ns)
  let held := ((s.lineQ k).find? (fun x => x.car.isSome)).any (fun x => carBlocked (s.lineQ k) x && due x.car)
  let slow := ((s.eg r).find? (fun x => x.f.lp == k && x.car.isSome)).any (fun x => due x.car)
  if held || slow then
    let s := if held then s.setLineQ k ((s.lineQ k).map (fun x => { x with car := x.car.map move })) else s
    let s := s.setEg r ((s.eg r).map (fun x => if x.f.lp = k then { x with car := x.car.map move } else x))
    let s := s.setCarTx k { s.carTxOf k with slot := (s.carTxOf k).slot + 1 }
    (s.count CAR_TXCNT.SLOT_LATE k 1).carTxEv CAR_TX.EV_IDLE k
  else s

/-- Discard the packed carriers of LPk, each counted in C_DISCARD; reason of the sampler records. -/
def State.carDrop (s : State) (k reason : Nat) : State :=
  let r := regionOfLp k
  let l := (s.eg r).filter (fun x => x.f.lp == k && x.car.isSome)
  let q := (s.lineQ k).filter (fun x => x.car.isSome)
  let s := s.setEg r ((s.eg r).filter (fun x => !(x.f.lp == k && x.car.isSome)))
  let s := s.setLineQ k ((s.lineQ k).filter (fun x => x.car.isNone))
  let s := s.each l (fun x s => s.egDrop x reason)
  s.each q (fun x s => (s.count CAR_TXCNT.C_DISCARD k 1).each ((x.car.map (·.ends)).getD []) (fun f s => s.smpEgress f x.pn x.an 2 reason))

/-- The frame split across carriers is discarded, counted by its queue where the cause names a counter. -/
def State.splitDrop (s : State) (k : Nat) (ctr : Option Fld) (reason : Nat) : State :=
  match (s.carTxOf k).split with
  | some (f, _, _) =>
    let s := s.setCarTx k { s.carTxOf k with split := none }
    match ctr with
    | some c => (s.count c f.queue 1).smpEgress f 0 0 2 reason
    | none => s
  | none => s

/-- The stream stops by a link-down (R267); it restarts on its own, unless it was stopping. The carriers already packed wait:
a link-down is no cause of C_DISCARD (R279; log entry 73). A region fence, which has discarded them, gives its counter for
the split frame (R19). -/
def State.carDown (s : State) (k : Nat) (ctr : Option Fld) : State :=
  if s.on CAR_TX.RUNNING k then
    let s := s.splitDrop k ctr 8
    (s.set CAR_TX.RUNNING k 0).setCarTx k { s.carTxOf k with restart := !(s.carTxOf k).stopping, stopping := false }
  else s

/-- The stream stops because the port is no longer guarded (R45, R267). -/
def State.carLeave (s : State) (k : Nat) : State :=
  let s := (s.splitDrop k (some QUE_DCNT.D_MODE) 7).carDrop k 7
  (s.set CAR_TX.RUNNING k 0).setCarTx k CarTx.none

/-- The stream restarts at the first slot of its lattice at least 1,000 ns after CAL_DONE became 1 (R267), in a region that
is not fenced; no slot that is past is taken. -/
def State.carRestart (s : State) (k : Nat) : State :=
  if (s.carTxOf k).restart && s.guarded k && s.lpUp k && !s.on CAR_TX.RUNNING k && !s.fenced (regionOfLp k) then
    let t := s.now + (1000 * ns - (s.mono - Tab.get 0 s.ca.calAt k))
    let m := if t ≤ s.slotTime k 0 then 0
      else if s.slotTime k (s.slotAt k t) = t then s.slotAt k t else s.slotAt k t + 1
    s.carBegin k m
  else s

/-- Fields of a carrier configuration, written only while the stream does not run (R266). -/
def carLocked : List Fld := [CAR_TX.EN, CAR_TX.SC, CAR_TX.CSIZE, CAR_TX.PERIOD_PS, CAR_TX.DA]

/-- A word-0 write of CAR_TXk with its held words taken in (R265, R266): `n` is the state with the new values, `bad` a
reserved encoding met. -/
def State.carTxCommit (s n : State) (w : Writer) (k v off : Nat) (bad : Bool) : State :=
  if s.on CAR_TX.RUNNING k ∧ carLocked.any (fun f => n.get f k != s.get f k) then s.reject w 2 false off
  else
    let res := n.get CAR_TX.CSIZE k != s.get CAR_TX.CSIZE k && !csizeOk (n.get CAR_TX.CSIZE k)
    let n := if res then n.set CAR_TX.CSIZE k 0x800 else n
    let n := if bad || res then n.reject w 1 false off else n
    if bit v 2 then n.carStop k else n

/-- Write a word of CAR_RXk (R276): EN needs a valid receive SC of the port. -/
def State.carRxWrite (s : State) (w : Writer) (k word v off : Nat) : State :=
  let t := s.writeWord reg_CAR_RX k word v
  let n := t.1
  let c := n.get CAR_RX.SC k
  if word = 0 ∧ n.on CAR_RX.EN k ∧ (s.on SCT_RX.VALID c = false ∨ s.get SCT_RX.LPORT c ≠ k) then
    s.reject w 3 false off
  else if t.2 then n.reject w 1 false off else n

end Sys2Proof.Machine
end

