-- ==== Sys2Proof/Machine/Region.lean ====
section
/-!
DEFINITION. Machine/Region.lean: region states, spare pairs, and the region fence (R12, R19, R21, R345).
-/
namespace Sys2Proof.Machine

def rgnField (r : Nat) : Fld := match r with
  | 0 => GLB_REGION_STATUS.RGN0
  | 1 => GLB_REGION_STATUS.RGN1
  | 2 => GLB_REGION_STATUS.RGN2
  | _ => GLB_REGION_STATUS.RGN3

/-- State of a region: 0 OFF, 1 ACTIVE, 2 REDUCED, 3 FENCED. -/
def State.rgn (s : State) (r : Nat) : Nat := s.get (rgnField r) 0
def State.setRgn (s : State) (r v : Nat) : State := s.set (rgnField r) 0 v

/-- Bit of a region's spare pair. -/
def State.setSpare (s : State) (r : Nat) (d : Dir) (on : Bool) : State :=
  let f := if d = .eg then GLB_REGION_STATUS.SPARE_E else GLB_REGION_STATUS.SPARE_I
  s.set f 0 (if on then setBit (s.get f 0) r else clearBit (s.get f 0) r)

/-- Change STATE of a pair: its source becomes pending (R89). -/
def State.setPair (s : State) (r : Nat) (d : Dir) (k st : Nat) : State :=
  let i := pairIdx r d k
  if s.get RGN_PPE_STATUS.STATE i = st then s
  else (s.set RGN_PPE_STATUS.STATE i st).pend (0x2E0 + 18 * r + (if d = .ig then 9 else 0) + k)

/-- Pairs of a group that work: in service, or in test. -/
def State.working (s : State) (r : Nat) (d : Dir) : Nat :=
  ((upto 9).filter (fun k => s.get RGN_PPE_STATUS.STATE (pairIdx r d k) == 1 || s.get RGN_PPE_STATUS.STATE (pairIdx r d k) == 2)).length

/-- Ports of a region (R13). -/
def hostPorts (r : Nat) : List Nat := (upto 8).map (fun k => 8 * r + k)
def linePorts (r : Nat) : List Nat := (upto 4).map (fun k => 4 * r + k)

/-- A frame past step 6 is lost to a fence (R19): SC D_REGION, the queue's counter for clear text. -/
def State.fenceCount (s : State) (f : Frame) : State :=
  match f.sc with
  | some c => s.count SCT_TX.D_REGION c 1
  | none => s.count QUE_DCNT.D_REGION f.queue 1

/-- Every frame that region r, or its slice, holds past step 6 or in a line port is discarded (R19): C_DISCARD counts the
carriers, beside the SC's own counter (R279). -/
def State.fenceEgress (s : State) (r : Nat) : State :=
  let s := s.each (upto 4) (fun n s =>
    let gone (x : EgItem) : Bool := n == r || (x.car.isNone && x.f.reg == r)
    let l := (s.eg n).filter gone
    let s := s.setEg n ((s.eg n).filter (fun x => !gone x))
    s.each l (fun x s => (s.fenceCount x.f).egDrop x 8))
  s.each (upto 16) (fun k s =>
    let gone (x : LineItem) : Bool := regionOfLp k == r || (x.car.isNone && x.f.reg == r)
    let l := (s.lineQ k).filter gone
    let s := s.setLineQ k ((s.lineQ k).filter (fun x => !gone x))
    s.each l (fun x s =>
      let s := s.fenceCount x.f
      match x.car with
      | some c => (s.count CAR_TXCNT.C_DISCARD k 1).each c.ends (fun f s => s.smpEgress f x.pn x.an 2 8)
      | none => s.smpEgress x.f x.pn x.an 0 8))

/-- Every received frame that region r holds is discarded (R19). -/
def State.fenceIngress (s : State) (r : Nat) : State :=
  let l := s.ig r
  let s := s.setIg r []
  let s := s.each l (fun x s => (s.count SCT_RX.D_REGION x.sc 1).smpIn x.sampled (s.get SCT_RX.HPORT x.sc) x.lp x.sc 0
    (x.data.length + 4) x.time x.steps x.mono x.pn 0 8)
  let out := s.fr.hostOut.flatMap (fun x => (x.2.filter (fun f => f.reg == r)).map (fun f => (x.1, f)))
  let kept : Tab (List OutFrame) := s.fr.hostOut.map (fun x => (x.1, x.2.filter (fun f => f.reg != r)))
  let s := { s with fr.hostOut := kept.filter (fun x => x.2 != []) }
  let s := s.each out (fun y s =>
    let s := match y.2.sc with
      | some c => s.count SCT_RX.D_REGION c 1
      | none => s.count RGN_LPIGR.D_REGION y.2.lp 1
    s.smpIn y.2.sampled y.1 y.2.lp (y.2.sc.getD 0) y.2.an (y.2.data.length + 4) y.2.time y.2.steps y.2.mono y.2.pn 0 8)
  s.each (linePorts r) (fun k s =>
    if (s.carRxOf k).part.isSome then (s.carLose k).count SCT_RX.D_REGION (s.get CAR_RX.SC k) 1 else s)

/-- Punt packets whose cells lie in region r's slice are lost with it. -/
def State.fencePunt (s : State) (r : Nat) : State :=
  s.each (upto 64) (fun k s =>
    let n := ((s.ring k).waiting.filter (fun p => p.reg == r)).length
    if n = 0 then s
    else (s.setRing k { s.ring k with waiting := (s.ring k).waiting.filter (fun p => p.reg != r),
                                      lostSince := min ((s.ring k).lostSince + n) 0xFFFFFFFF }).count HQ_PCNT.LOST k n)

/-- Frames of region r before admission (R19). -/
def State.fenceArrivals (s : State) (r : Nat) : State :=
  let l := Tab.get [] s.fr.arrivals r
  let s := { s with fr.arrivals := s.fr.arrivals.set [] r [] }
  s.each l (fun a s => s.dropArrival a QUE_DCNT.D_REGION 8)

/-- One hour. -/
def hour : Nat := 3600 * sec

/-- Region r fences itself (R19, R345); `cause` as FLT_RGN_INFO.LAST_CAUSE. A fence during its restart abandons the
restart (R346). -/
def State.fence (s : State) (r cause : Nat) : State :=
  if s.fenced r ∧ s.on FLT_RGN_INFO.RESTARTING r = false then s
  else
    let times := s.mono :: recent s hour (Tab.get [] s.fl.fenceAt r)
    let s := { s.setRgn r 3 with fl.fenceAt := s.fl.fenceAt.set [] r times,
                                 fl.restart := s.fl.restart.set 0 r (s.mono + s.get FLT_CFG.HOLD_MS 0 * ms) }
    let s := (((s.set FLT_RGN_INFO.LAST_CAUSE r cause).set FLT_RGN_INFO.FENCES_1H r (min times.length 15)).set
      FLT_RGN_INFO.RESTARTING r 0).set GLB_DEGRADED_CAUSE.REGION_FENCED 0 1
    let s := ((s.fenceArrivals r).fenceEgress r).fenceIngress r
    let s := s.each (linePorts r) (fun k s => s.carDown k (some QUE_DCNT.D_REGION))
    let s := s.flushQueues QUE_DCNT.D_REGION 8 (fun q f => regionOfLp (s.queuePort q) == r || f.reg == r)
    let s := s.fencePunt r
    let s := s.each (upto 128) (fun k s => if s.on HQ_PUNT.EN k ∧ s.get HQ_PUNT.REGION k = r then s.ringStop k else s)
    let s := s.pend r
    if s.get FLT_CFG.FENCE_LIMIT 0 < times.length ∧ s.on FLT_RGN_INFO.AUTO_BLOCKED r = false then
      (s.set FLT_RGN_INFO.AUTO_BLOCKED r 1).pend (8 + r)
    else s

end Sys2Proof.Machine
end

