-- ==== Sys2Proof/Machine/Slices.lean ====
section
/-!
DEFINITION. Machine/Slices.lean: the crypto slices (R85 to R89, R109): dispatch to pairs, completion, pair faults and
re-issue, known-answer tests and spare pairs.
-/
namespace Sys2Proof.Machine

/-- Pair k of a group carries a frame. -/
def State.pairBusy (s : State) (r : Nat) (d : Dir) (k : Nat) : Bool :=
  match d with
  | .eg => (s.eg r).any (fun x => x.stat == .inPair k)
  | .ig => (s.ig r).any (fun x => x.stat == .inPair k)

/-- In-service pairs of a group that are idle, ascending (R85). -/
def State.idlePairs (s : State) (r : Nat) (d : Dir) : List Nat :=
  (upto 9).filter (fun k => s.get RGN_PPE_STATUS.STATE (pairIdx r d k) == 1 && !s.pairBusy r d k)

/-- A region's reorder buffer has 1,024 entries (R16). -/
def reorderSize : Nat := 1024

/-- A frame of a slice group has an entry of the reorder buffer: it has been dispatched. -/
def EgItem.entered (x : EgItem) : Bool := x.stat != .wait
def InItem.entered (x : InItem) : Bool := match x.stat with
  | .reissue _ => true
  | .inPair _ => true
  | .done _ => true
  | _ => false

/-- The frame that egress dispatch takes next: the ports of the region in turn, each its first that waits (R85, R263). -/
def State.nextEg (s : State) (r : Nat) : Option EgItem :=
  ((upto 4).map (fun i => (Tab.get 0 s.fr.dispTurn r + i) % 4)).findSome? (fun k =>
    (s.eg r).find? (fun x => x.stat == .wait && x.f.lp % 4 == k))

/-- The pair for a frame that is re-issued away from pair `not`, or for a new frame. -/
def State.pairFor (s : State) (r : Nat) (d : Dir) (avoid : Option Nat) : Option Nat :=
  (s.idlePairs r d).find? (fun k => avoid != some k)

/-- Dispatch one egress frame of region r (R85, R87): a re-issue first; then, while the reorder buffer has an entry free
(R16), the frame whose port's turn it is (R263). -/
def State.dispatchEg (s : State) (r : Nat) : State :=
  let l := s.eg r
  let re := l.findSome? (fun x => match x.stat with
    | .reissue n => (s.pairFor r .eg (some n)).map (fun k => (n, k))
    | _ => none)
  match re with
  | some (n, k) =>
    s.setEg r (changeFirst (fun x => x.stat == .reissue n) (fun x => some { x with stat := .inPair k, issues := x.issues + 1 }) l)
  | none =>
    match s.pairFor r .eg none, s.nextEg r with
    | some k, some x =>
      if reorderSize ≤ (l.filter EgItem.entered).length then s
      else
        let s := { s with fr.dispTurn := s.fr.dispTurn.set 0 r ((x.f.lp + 1) % 4) }
        let t := if x.car.isSome then (some (x.f, false), s) else s.launchFix x.f x.pn x.an
        let put (g : EgItem → Option EgItem) (s : State) : State := s.setEg r (changeFirst (fun y => y == x) g l)
        match t.1 with
        | some (f, late) =>
          put (fun y => some { y with f := f, late := late, key := Tab.get [] s.ke.saKey x.sa, stat := .inPair k, issues := 1 }) t.2
        | none => (put (fun _ => none) t.2).relEg r
    | _, _ => s

/-- Dispatch one ingress frame of region r (R109). -/
def State.dispatchIg (s : State) (r : Nat) : State :=
  let l := s.ig r
  let re := l.findSome? (fun x => match x.stat with
    | .reissue n => (s.pairFor r .ig (some n)).map (fun k => (n, k))
    | _ => none)
  match re with
  | some (n, k) =>
    s.setIg r (changeFirst (fun x => x.stat == .reissue n) (fun x => some { x with stat := .inPair k, issues := x.issues + 1 }) l)
  | none =>
    match s.pairFor r .ig none, l.find? (fun x => x.stat == .wait) with
    | some k, some x =>
      if reorderSize ≤ (l.filter InItem.entered).length then s
      else s.setIg r (changeFirst (fun y => y.stat == .wait)
        (fun y => some { y with key := Tab.get [] s.ke.saKey (8192 + x.sa), stat := .inPair k, issues := 1 }) l)
    | _, _ => s

/-- DISPATCH (R85): nothing in a fenced region (R19). -/
def State.dispatch (s : State) (r : Nat) (d : Dir) : State :=
  if s.fenced r then s
  else match d with
  | .eg => s.dispatchEg r
  | .ig => s.dispatchIg r

/-- Protect the frame of an egress item (R82 to R84). -/
def EgItem.wire (x : EgItem) : List Octet := protect x.prot x.key x.an x.pn x.f.data

/-- Decrypt the frame of an ingress item (R109): secure data in clear and the ICV verdict. -/
def InItem.opened (x : InItem) : List Octet × Bool :=
  unprotect (2 ≤ x.par.suite) (offOctets x.par.off) x.par.sci x.par.ssci x.par.salt x.key x.pn x.data

/-- Pair k of a group finishes its frame (R86): the results agree. -/
def State.pairDone (s : State) (r : Nat) (d : Dir) (k : Nat) : State :=
  match d with
  | .eg => (s.setEg r (changeFirst (fun x => x.stat == .inPair k)
      (fun x => some { x with stat := .done, line := x.wire }) (s.eg r))).relEg r
  | .ig => (s.setIg r (changeFirst (fun x => x.stat == .inPair k)
      (fun x => let o := x.opened; some { x with stat := .done o.2, plain := o.1 }) (s.ig r))).relIg r

/-- Code of a pair fault's cause (R89). -/
def causeCode : PairCause → Nat
  | .keystream => 1
  | .tagMask => 2
  | .ghash => 3

/-- The frame of a faulted pair (R87): to be issued again, or discarded after its third issue. -/
def State.reissue (s : State) (r : Nat) (d : Dir) (k : Nat) : State :=
  match d with
  | .eg =>
    match (s.eg r).find? (fun x => x.stat == .inPair k) with
    | some x =>
      if x.issues < 3 then s.setEg r (changeFirst (fun y => y.stat == .inPair k) (fun y => some { y with stat := .reissue k }) (s.eg r))
      else
        let s := s.setEg r (changeFirst (fun y => y.stat == .inPair k) (fun _ => none) (s.eg r))
        (((s.count SCT_TX.D_REISSUE x.sc 1).txEvent true SCT_TX.EV_REISSUE_LIMIT x.sc).egDrop x 4).relEg r
    | none => s
  | .ig =>
    match (s.ig r).find? (fun x => x.stat == .inPair k) with
    | some x =>
      if x.issues < 3 then s.setIg r (changeFirst (fun y => y.stat == .inPair k) (fun y => some { y with stat := .reissue k }) (s.ig r))
      else
        let s := s.setIg r (changeFirst (fun y => y.stat == .inPair k) (fun _ => none) (s.ig r))
        (((s.count SCT_RX.D_REISSUE x.sc 1).rxEvent true SCT_RX.EV_REISSUE_LIMIT x.sc).smpIn x.sampled
          (s.get SCT_RX.HPORT x.sc) x.lp x.sc (readTag x.data).an (x.data.length + 4) x.time x.steps x.mono x.pn 4 4).relIg r
    | none => s

/-- A pair fault (R86 to R88). -/
def State.pairFault (s : State) (r : Nat) (d : Dir) (k : Nat) (c : PairCause) : State :=
  let i := pairIdx r d k
  if s.get RGN_PPE_STATUS.STATE i = 1 ∧ s.pairBusy r d k then
    let s := (s.count RGN_PPE_MISMATCH.V i 1).set RGN_PPE_STATUS.LAST_CAUSE i (causeCode c)
    (s.setPair r d k 2).reissue r d k
  else s

/-- A pair is retired (R88): the standby spare comes in, or the group goes on with 7 pairs, or the region is fenced
(R12). -/
def State.pairRetire (s : State) (r : Nat) (d : Dir) (k : Nat) : State :=
  let s := s.setPair r d k 3
  let s := if k = 8 then s.setSpare r d false else s
  if s.get RGN_PPE_STATUS.STATE (pairIdx r d 8) = 0 then (s.setPair r d 8 1).setSpare r d true
  else if s.working r d < 7 then s.fence r 1
  else if s.working r d = 7 then
    (if s.rgn r = 1 then s.setRgn r 2 else s).set GLB_DEGRADED_CAUSE.SLICE_REDUCED 0 1
  else s

/-- The KAT of a faulted pair ends (R88): five transients in 10 s make a lasting fault. -/
def State.pairKat (s : State) (r : Nat) (d : Dir) (k : Nat) (pass : Bool) : State :=
  let i := pairIdx r d k
  if s.get RGN_PPE_STATUS.STATE i = 2 then
    if pass then
      let l := s.mono :: recent s (10 * sec) (Tab.get [] s.fr.pairTrans i)
      let s := { s with fr.pairTrans := s.fr.pairTrans.set [] i l }
      let s := s.set RGN_PPE_STATUS.TRANS_10S i (min l.length 5)
      if l.length < 5 then s.setPair r d k 1 else s.pairRetire r d k
    else s.pairRetire r d k
  else s

/-- The 10 s KAT of a standby spare (R88). -/
def State.spareKat (s : State) (r : Nat) (d : Dir) (pass : Bool) : State :=
  let i := pairIdx r d 8
  if s.get RGN_PPE_STATUS.STATE i = 0 ∧ pass = false then (s.set RGN_PPE_STATUS.LAST_CAUSE i 4).setPair r d 8 3 else s

end Sys2Proof.Machine
end

