-- ==== Sys2Proof/Machine/Line.lean ====
section
/-!
DEFINITION. Machine/Line.lean: the dequeue decision of a line port (R247, R269), and the line side of egress: launch
times, timestamp entries, transmit counters (R131, R134 to R136, R149 to R153, R267).
-/
namespace Sys2Proof.Machine

/-! Launch times that a port waits for. -/

/-- Launch times of frames of LPk that are at the head of a control queue, in the slice group or at the port. -/
def State.pendingLaunch (s : State) (k : Nat) : List Nat :=
  (upto 4).filterMap (fun c => ((s.queue (8192 + 4 * k + c)).cells.head?).bind (·.launch)) ++
  ((s.eg (regionOfLp k)).filter (fun x => x.f.lp == k)).filterMap (·.f.launch) ++ (s.lineQ k).filterMap (·.f.launch)

/-- A frame of charge n that starts now ends before every launch time to come (R149). -/
def State.clearOfLaunch (s : State) (k n : Nat) : Bool :=
  (s.pendingLaunch k).all (fun t => t < s.now || s.now + s.octTime k n ≤ t)

/-- Charge of the longest line frame: 9,248 octets and 20 (R95). -/
def maxCharge : Nat := 9268

/-- A launch window of LPk is open (R153). -/
def State.windowed (s : State) (k : Nat) : Bool := s.now < Tab.get 0 s.ga.launchWin k

/-- line_clear_hold (R149, R153). -/
def State.lineClearHold (s : State) (k : Nat) : Bool :=
  s.windowed k || !s.clearOfLaunch k maxCharge

/-! Dequeue (R247). -/

/-- A port makes dequeue decisions (R19, R46, R319). -/
def State.dequeues (s : State) (k : Nat) : Bool :=
  s.lpUp k && s.md.trans.isNone && !s.cl.eraseDue && !s.fenced (regionOfLp k)

/-- The head of control queue q may be sent (R149, R247, R269): it fits in the gap in which it would start, and no frame of its
SC is past step 6 on another port (R31). -/
def State.ctrlEligible (s : State) (k q : Nat) : Bool :=
  match (s.queue q).cells with
  | [] => false
  | f :: _ =>
    let start := max s.now (f.launch.getD 0)
    !f.sc.any (fun c => s.elsewhere c k) && f.launch.all (fun t => t ≤ s.now + 800 * ns) &&
      (!s.streams k || s.fitsGap k start (s.charge f))

/-- Send the head of control queue q to step 6, charging the port shaper. -/
def State.ctrlTake (s : State) (k q : Nat) : State :=
  match (s.queue q).cells with
  | [] => s
  | f :: _ =>
    let t := (s.shpCharge (8192 + k) (s.lineLenOf f + s.get QUE_SHP.LEN_ADJ (8192 + k))).leaving q f
    ((t.2.popHead q).count QUE_DCNT.DEQUEUED q 1).step6 t.1

/-- The control queues of LPk in turn, until one has a head to send; a queue that is reached sheds its aged heads (R247,
R257). -/
def State.ctrlGo (k : Nat) : List Nat → State → Bool × State
  | [], s => (false, s)
  | q :: l, s =>
    let s := s.shedAll q
    if s.ctrlEligible k q then (true, s.ctrlTake k q) else State.ctrlGo k l s

/-- Serve express, then bulk, of an ordinary port. -/
def State.dataTake (s : State) (k : Nat) : State :=
  if s.lineClearHold k ∨ s.shpOk (8192 + k) = false then s
  else
    let t := s.drrPeek2 k false
    match t.1 with
    | some q =>
      match t.2.drrTake q false with
      | (some f, s) => (s.shpCharge (8192 + k) (s.lineLenOf f + s.get QUE_SHP.LEN_ADJ (8192 + k))).step6 f
      | (none, s) => s
    | none => t.2

/-- One dequeue decision for line port k (R247). -/
def State.dequeue (s : State) (k : Nat) : State :=
  if s.dequeues k = false then s
  else if s.carDue k then s.carPack k
  else
    let t := State.ctrlGo k ((upto 4).map (fun c => 8192 + 4 * k + c)) s
    (if t.1 || s.guarded k then t.2 else t.2.dataTake k).pfc

/-! Transmission. -/

/-- Queue a timestamp entry of a frame that crossed at network time t (R134, R136). -/
def State.tsPut (s : State) (k : Nat) (late : Bool) (id t : Nat) : State :=
  let q := Tab.get [] s.tm.txq k
  if 32 ≤ q.length then (s.count TIM_TXQ_LOST.V k 1).event TIM_TXQ_STAT.OVERFLOW k (0x150 + k)
  else
    let e : TsEntry := ⟨late, s.on TIM_STATUS.HOLDOVER 0, id, time96 (adjusted t (s.get TIM_LP.BOARD_ADJ k))⟩
    let s := { s with tm.txq := s.tm.txq.set [] k (q ++ [e]) }.set TIM_TXQ_STAT.COUNT k (q.length + 1)
    if q = [] then s.pend (0x140 + k) else s

/-- A line-side frame crosses the boundary of LPk, FCS behind it (R82). The port's counters count it here, as R323 says; R91
would count it at its release from the reorder buffer (log entry 74). -/
def State.lineOutput (s : State) (k : Nat) (d : List Octet) : State :=
  ((s.emit (.lineFrame k (d ++ fcs d))).count RGN_HPCNT.TX_FRAMES (lpIdx k) 1).count RGN_HPCNT.TX_OCTETS (lpIdx k) (d.length + 4)

/-- HWM of R56 after an autonomous frame crossed at t. -/
def State.hwmNote (s : State) (sc : Option Nat) (t : Nat) : State :=
  if sc.any (fun c => s.on SCT_TX.KEYING c) then { s with lc.hwm := max s.lc.hwm t } else s

/-- Time that a frame of the port takes, with its gap. -/
def State.itemTime (s : State) (k : Nat) (x : LineItem) : Nat := s.octTime k (x.line.length + 24)

/-- The timestamp entry that a frame asks for as it crosses (R134). -/
def State.tsOf (s : State) (k : Nat) (f : Frame) : Option Nat :=
  if f.ptp && s.on TIM_LP.TS_CROSSING k then (ptpEvent f.data).map (fun x => ptpSeq f.data x.1) else f.tsId

/-- Send one frame that is not a carrier: `t` is the network time at which its start of frame crosses. -/
def State.lineSend (s : State) (k : Nat) (x : LineItem) (t : Nat) : State :=
  let s := (s.lineOutput k x.line).hwmNote x.f.sc t
  let s := if x.f.launch.isNone then s
    else
      let s := { s with ga.launchEnd := s.ga.launchEnd.set 0 k (s.mono - (s.now - t) + s.itemTime k x) }
      if x.late then (s.count TIM_LP.LAUNCH_MISS k 1).pend 0x028 else s.count TIM_LP.LAUNCH_OK k 1
  let s := if s.streams k && 8192 ≤ x.f.queue then s.count CAR_TXCNT.CTRL_IN_GAP k 1 else s
  let s := match s.tsOf k x.f with
    | some id => s.tsPut k x.late id t
    | none => s
  (s.smpEgress x.f x.pn x.an (4 * b2n x.reissued) 0).pfc

/-- A launch-time frame cannot start at its T_L (R149, R269): another launch time comes before it would end, an earlier
launch-time frame has not ended, or it does not fit between carriers. -/
def State.launchHit (s : State) (k : Nat) (x : LineItem) (t : Nat) : Bool :=
  ((s.pendingLaunch k).erase t).any (fun u => t < u && u < t + s.itemTime k x) ||
    decide (s.mono - (s.now - t) < Tab.get 0 s.ga.launchEnd k) || (s.streams k && !s.fitsGap k t (x.line.length + 24))

/-- An item may cross the boundary now (R149, R153, R269): express and bulk not inside a launch window. -/
def State.lineReady (s : State) (k : Nat) (x : LineItem) : Bool :=
  match x.f.launch with
  | some t => t ≤ s.now
  | none => s.clearOfLaunch k (x.line.length + 24) && (!s.streams k || s.fitsGap k s.now (x.line.length + 24)) &&
      (8192 ≤ x.f.queue || !s.windowed k)

/-- The order in which two items of a port stand binds them: they are of one SC, carriers included, or of one queue (R24, R31,
R32). -/
def bound (x y : LineItem) : Bool :=
  (x.f.sc.isSome && y.f.sc == x.f.sc) || (x.car.isNone && y.car.isNone && y.f.queue == x.f.queue)

/-- The items of a port, carriers apart, that no earlier item holds back. -/
def lineHeads : List LineItem → List LineItem → List LineItem
  | _, [] => []
  | before, x :: l => (if x.car.isNone && !before.any (bound x) then [x] else []) ++ lineHeads (before ++ [x]) l

/-- An earlier frame of the item's queue is still in the slice group (R32). -/
def State.queueAhead (s : State) (k : Nat) (x : LineItem) : Bool :=
  (s.eg (regionOfLp k)).any (fun y => y.car.isNone && y.f.lp == k && y.f.queue == x.f.queue && y.f.ord < x.f.ord)

/-- A launch-time frame that cannot start at its T_L is discarded, or takes the next place it can meet (R151, R153). -/
def State.launchMiss (s : State) (k : Nat) (x : LineItem) : State :=
  if x.f.ptp || x.f.strict then (s.setLineQ k ((s.lineQ k).erase x)).launchDrop x.f x.pn x.an
  else
    let f := { x.f with launch := some (s.launchPlace k (s.now + 1) (x.line.length + 24)) }
    s.setLineQ k ((s.lineQ k).map (fun y => if y = x then { y with f := f, late := true } else y))

/-- LPk sends its next frame. A PTP frame from before a step is discarded (R152). -/
def State.transmit (s : State) (k : Nat) : State :=
  if s.lpUp k = false then s
  else match (lineHeads [] (s.lineQ k)).find? (fun x => !s.queueAhead k x && (s.stepped x.f || s.lineReady k x)) with
  | none => s
  | some x =>
    let t := x.f.launch.getD s.now
    if s.stepped x.f then (s.setLineQ k ((s.lineQ k).erase x)).launchStep x.f x.pn x.an
    else if x.f.launch.isSome && s.launchHit k x t then s.launchMiss k x
    else (s.setLineQ k ((s.lineQ k).erase x)).lineSend k x t

/-- The slot of the next carrier has come (R267, R279). -/
def State.carSlot (s : State) (k : Nat) : State :=
  match (s.lineQ k).find? (fun x => x.car.isSome) with
  | some x =>
    match x.car with
    | some c =>
      let t := s.gridAtOrAfter k (s.slotTime k c.slot)
      if s.lpUp k ∧ s.on CAR_TX.RUNNING k ∧ t ≤ s.now ∧ carBlocked (s.lineQ k) x = false then
        let s := ((s.setLineQ k ((s.lineQ k).erase x)).lineOutput k x.line).hwmNote x.f.sc t
        let s := s.count CAR_TXCNT.CARRIERS k 1
        let s := if c.nseg = 0 then s.count CAR_TXCNT.SHIMS k 1 else s
        (s.each c.ends (fun f s => s.smpEgress f x.pn x.an (2 + 4 * b2n x.reissued) 0)).carEnd k
      else s
    | none => s
  | none => s

/-- Launch frames of LPk that have not reached the launch slot by T_L - 150 ns (R151, R153): discarded, or marked late.
One in a pair is judged when it leaves it. -/
def State.slotDeadline (s : State) (k : Nat) : State :=
  let r := regionOfLp k
  let miss (x : EgItem) : Bool := x.f.lp == k && x.car.isNone && !x.late && x.f.launch.any (fun t => t ≤ s.now + 150 * ns) &&
    (match x.stat with
      | .inPair _ => false
      | .wait => false
      | _ => true)
  let out (x : EgItem) : Bool := miss x && (x.f.ptp || x.f.strict)
  let l := (s.eg r).filter out
  let s := s.setEg r (((s.eg r).filter (fun x => !out x)).map (fun x => if miss x then { x with late := true } else x))
  (s.each l (fun x s => if s.stepped x.f then s.launchStep x.f x.pn x.an else s.launchDrop x.f x.pn x.an)).relEg r

/-- A held launch frame at the head of control queue c of LPk is dequeued from T_L - 800 ns on (R149). -/
def State.launchHold (s : State) (k c : Nat) : State :=
  let q := 8192 + 4 * k + c
  match (s.queue q).cells with
  | f :: _ => if f.launch.isSome && s.dequeues k && s.ctrlEligible k q && !s.carDue k then (s.ctrlTake k q).pfc else s
  | [] => s

/-- Line ports: a link-down (R267, R319). -/
def State.lineDown (s : State) (k : Nat) : State := s.carDown k none

end Sys2Proof.Machine
end

