-- ==== Sys2Proof/Machine/Lanes.lean ====
section
/-!
DEFINITION. Machine/Lanes.lean: forming ports, link state, lanes and their fences and tests, reference clocks
(R312 to R328, R339, R340), optical modules and their management (R329 to R334). Ports are numbered 0 to 31 host and
32 to 47 line; lanes 0 to 63 host and 64 to 95 line, as in the shared fields of Machine/RegMap.lean.
-/
namespace Sys2Proof.Machine

/-! Ports and their lanes (R320). -/

/-- Lanes that a port takes at a SPEED. -/
def lanesOf (port speed : Nat) : List Nat := (upto (2 ^ (speed + 1))).map (fun i => 2 * port + i)

/-- Lanes of a port at its SPEED. -/
def State.portLanes (s : State) (port : Nat) : List Nat := lanesOf port (s.get RGN_HPORT.SPEED port)

/-- The enabled port that a lane belongs to. -/
def State.laneOwner (s : State) (lane : Nat) : Option Nat :=
  (upto 48).find? (fun q => s.on RGN_HPORT.EN q && (s.portLanes q).contains lane)

/-- Region of a port. -/
def portRegion (port : Nat) : Nat := if port < 32 then port / 8 else (port - 32) / 4

/-- The reference of a lane is good (R313). -/
def State.refGood (s : State) (lane : Nat) : Bool :=
  if lane < 64 then s.on GLB_REFCLK_STATUS.HREF_OK 0 else s.on GLB_REFCLK_STATUS.LREF_OK 0

/-- MOD_STATE values (R322). -/
def mABSENT : Nat := 0
def mRESET : Nat := 1
def mIDENTIFY : Nat := 2
def mDENIED : Nat := 3
def mINIT : Nat := 4
def mREADY : Nat := 5
def mFAULT : Nat := 6

def State.modState (s : State) (k : Nat) : Nat := s.get RGN_LPORT.MOD_STATE (32 + k)

/-- What LINK needs of the port's own state (R317). -/
def State.linkCan (s : State) (port : Nat) : Bool :=
  s.on RGN_HPORT.EN port && (s.portLanes port).all (fun l => s.on RGN_HLANE.LOCKED l && !s.on RGN_HLANE.FENCED l) &&
  (port < 32 || s.modState (port - 32) == mREADY)

/-- Frames in the output queue of a host port whose LINK falls are discarded (R319). -/
def State.hostDown (s : State) (hp : Nat) : State :=
  let l := Tab.get [] s.fr.hostOut hp
  let s := { s with fr.hostOut := s.fr.hostOut.set [] hp [], fr.pfcOut := s.fr.pfcOut.set [] hp [] }
  s.each l (fun f s =>
    let s := match f.sc with
      | some c => s.count SCT_RX.D_HOST_CONGEST c 1
      | none => s.count RGN_LPIGR.D_CONGEST f.lp 1
    s.smpIn f.sampled hp f.lp (f.sc.getD 0) f.an (f.data.length + 4) f.time f.steps f.mono f.pn 0 0x0A)

/-- LINK of a port takes a value (R317, R132, R267, R319). -/
def State.linkSet (s : State) (port v : Nat) : State :=
  if s.get RGN_HPORT.LINK port = v then s
  else
    let s := (s.set RGN_HPORT.LINK port v).event RGN_HPORT.EV_LINK port (0x100 + port)
    if v = 1 then s
    else
      let s := s.count RGN_HPCNT.LINK_DOWNS port 1
      if port < 32 then (s.set TIM_HP.CAL_DONE port 0).hostDown port
      else (s.set TIM_LP.CAL_DONE (port - 32) 0).lineDown (port - 32)

/-- LINK falls where its port can no longer hold it. -/
def State.linkCheck (s : State) (port : Nat) : State := if s.linkCan port then s else s.linkSet port 0

/-- LINK_CHANGE (R317): alignment and the ordered sets received. -/
def State.linkChange (s : State) (port : Nat) (aligned lf rf : Bool) : State :=
  let s := (s.set RGN_HPORT.RX_LF port (b2n lf)).set RGN_HPORT.RX_RF port (b2n rf)
  s.linkSet port (b2n (s.linkCan port && aligned && !lf && !rf))

/-- TX_LF (R317, R19): sent while the region or a lane of the enabled port is fenced; a line port whose module is DENIED
or FAULT is muted. -/
def State.txLf (s : State) (port : Nat) : Nat :=
  b2n (s.on RGN_HPORT.EN port &&
    (s.fenced (portRegion port) || (s.portLanes port).any (fun l => s.on RGN_HLANE.FENCED l)) &&
    !(32 ≤ port && (s.modState (port - 32) == mDENIED || s.modState (port - 32) == mFAULT)))

/-- Link-up calibration completes (R132, R133). -/
def State.calibrate (s : State) (port tx rx : Nat) : State :=
  if s.on RGN_HPORT.LINK port = false then s
  else if port < 32 then ((s.set TIM_HP.TX_LAT port tx).set TIM_HP.RX_LAT port rx).set TIM_HP.CAL_DONE port 1
  else s.calDone (port - 32) tx rx

/-- A 1 ms interval of FEC counts ends (R321, R323). -/
def State.fecInterval (s : State) (port cw corr uncorr sym : Nat) : State :=
  if s.on RGN_HPORT.EN port = false then s
  else
    let s := (((s.count RGN_HPCNT.FEC_CW port cw).count RGN_HPCNT.FEC_CORR port corr).count
      RGN_HPCNT.FEC_UNCORR port uncorr).count RGN_HPCNT.FEC_SYM port sym
    let thr := s.get RGN_HPORT.FEC_DEG_THR port
    if thr ≠ 0 ∧ thr ≤ sym then s.event RGN_HPORT.EV_FEC_DEG port (0x100 + port) else s

/-! Lanes (R324 to R328, R339, R340). -/

/-- LOCKED falls or rises (R324, R328, R335). -/
def State.laneLock (s : State) (lane : Nat) (v : Bool) : State :=
  if s.on RGN_HLANE.LOCKED lane = v then s
  else
    let s := (s.set RGN_HLANE.LOCKED lane (b2n v)).pend (0x80 + lane)
    if v then
      let s := if s.on RGN_HLANE.CTLE_AUTO lane then
          let r := s.free
          r.2.set RGN_HLANE.CTLE_CODE lane r.1
        else s
      if lane < 64 then s.set RGN_HLANE.ADAPTED lane 1 else s
    else
      let s := (s.count RGN_HLANE.LOCK_LOSSES lane 1).resetFields [RGN_HLANE.EYE_UPPER, RGN_HLANE.EYE_MIDDLE,
        RGN_HLANE.EYE_LOWER, RGN_HLANE.EYE_WIDTH, RGN_HLANE.SNR] lane
      let s := if lane < 64 then s.set RGN_HLANE.ADAPTED lane 0 else s
      match s.laneOwner lane with
      | some port => s.linkCheck port
      | none => s

/-- The lane's errors fence it (R339): its port is enabled, its reference good and SIGNAL 1. -/
def State.laneFences (s : State) (lane : Nat) : Bool :=
  (s.laneOwner lane).isSome && s.refGood lane && s.on RGN_HLANE.SIGNAL lane && !s.on RGN_HLANE.FENCED lane

/-- Fence a lane (R317, R335, R340). -/
def State.laneFence (s : State) (lane : Nat) : State :=
  if s.laneFences lane then
    let s := (s.set RGN_HLANE.FENCED lane 1).pend (0x80 + lane)
    let s := { s with ln.laneTest := s.ln.laneTest.set 0 lane (s.get FLT_CFG.LANE_AUTO 0) }
    match s.laneOwner lane with
    | some port => s.linkCheck port
    | none => s
  else s

/-- Every lane of an enabled port is LOCKED. -/
def State.lanesLocked (s : State) (port : Nat) : Bool :=
  !s.on RGN_HPORT.EN port || (s.portLanes port).all (fun l => s.on RGN_HLANE.LOCKED l)

/-- The host lanes that STANDBY requires (R59). -/
def State.hostLanesUp (s : State) : Bool := (upto 32).all s.lanesLocked

/-- The module of slot k reported ModuleReady within 200 ms of start-up's step 0 and has neither left nor been shut out since
(R59, log entry 9). -/
def State.modInTime (s : State) (k : Nat) : Bool :=
  Tab.get 0 s.ln.modReadyAt k != 0 && decide (Tab.get 0 s.ln.modReadyAt k ≤ s.lc.bootAt + 200 * ms + 1) &&
    [mIDENTIFY, mINIT, mREADY].contains (s.modState k)

/-- The module of slot k may still report ModuleReady in time. -/
def State.modMayYet (s : State) (k : Nat) : Bool := s.modState k == mRESET && decide (s.mono < s.lc.bootAt + 200 * ms)

/-- The line lanes that STANDBY requires: every lane of a port whose module reported ModuleReady by 200 ms (R59). -/
def State.lineLanesUp (s : State) : Bool :=
  (upto 16).all (fun k => !s.modMayYet k && (!s.modInTime k || (s.modState k == mREADY && s.lanesLocked (32 + k))))

/-- Start-up steps 10 and 11 (R60, R61): host lanes locked, then those line lanes. -/
def State.lanesStage (s : State) : State :=
  if s.mode = mBOOT ∧ s.get GLB_BOOT_STATUS.CODE 0 = 0 ∧ [9, 10].contains (s.get GLB_BOOT_STATUS.STAGE 0) ∧ s.hostLanesUp then
    s.set GLB_BOOT_STATUS.STAGE 0 (if s.lineLanesUp then 11 else 10)
  else s

/-- LANE_LOCK_CHANGE (R339). A lane whose reference is not good is not LOCKED (R313). -/
def State.laneChange (s : State) (lane : Nat) (locked signal : Bool) : State :=
  let was := s.on RGN_HLANE.LOCKED lane
  let locked := locked && s.refGood lane
  let s := (s.set RGN_HLANE.SIGNAL lane (b2n signal)).laneLock lane locked
  if was ∧ locked = false ∧ (lane < 64 ∨ s.modState ((s.laneOwner lane).getD 32 - 32) = mREADY) then s.laneFence lane
  else s.lanesStage

/-- SNR below FLT_CFG.SNR_MIN for 1 ms (R339). -/
def State.laneSnr (s : State) (lane : Nat) : State :=
  if s.on RGN_HLANE.LOCKED lane ∧ s.get RGN_HLANE.SNR lane < s.get FLT_CFG.SNR_MIN 0 then s.laneFence lane else s

/-- DFE taps as the field holds them: tap 1 lowest (R324). -/
def tapsNat (taps : List Octet) : Nat := leNat (padTo 12 taps)

/-- A tap stands at +127 or -127 (R326). -/
def tapLimit (taps : List Octet) : Bool := (taps.take 12).any (fun t => t == 0x7F#8 || t == 0x81#8)

/-- ADAPTED of a line lane changes (R326, R335). -/
def State.laneAdapted (s : State) (lane v : Nat) : State :=
  if s.get RGN_HLANE.ADAPTED lane = v then s else (s.set RGN_HLANE.ADAPTED lane v).pend (0x0A0 + lane)

/-- A DFE tap reaches its limit (R326, R339). -/
def State.dfeLimit (s : State) (lane : Nat) (taps : List Octet) : State :=
  if lane < 64 ∨ s.on RGN_LLANE.DFE_FREEZE lane ∨ tapLimit taps = false then s
  else ((s.set RGN_LLANE.DFE_TAPS lane (tapsNat taps)).laneAdapted lane 0).laneFence lane

/-- The DFE has converged (R326). -/
def State.dfeDone (s : State) (lane : Nat) (taps : List Octet) : State :=
  if lane < 64 ∨ s.on RGN_LLANE.DFE_FREEZE lane ∨ tapLimit taps ∨ s.on RGN_HLANE.LOCKED lane = false then s
  else (s.set RGN_LLANE.DFE_TAPS lane (tapsNat taps)).laneAdapted lane 1

/-- The test of a fenced lane ends (R337, R340): a pass clears FENCED, unless it is the lane's fifth transient in 10 s
and was not commanded. -/
def State.laneTested (s : State) (lane : Nat) (pass : Bool) : State :=
  let t := Tab.get 0 s.ln.laneTest lane
  if s.on RGN_HLANE.FENCED lane = false ∨ t = 0 then s
  else if 64 ≤ lane ∧ (s.laneOwner lane).any (fun q => s.modState (q - 32) != mREADY) then s
  else
    let l := recent s (10 * sec) (Tab.get [] s.ln.laneTrans lane)
    let s := { s with ln.laneTest := s.ln.laneTest.set 0 lane 0 }
    if pass = false then s
    else if t = 2 then s.set RGN_HLANE.FENCED lane 0
    else
      let s := { s with ln.laneTrans := s.ln.laneTrans.set [] lane (l ++ [s.mono]) }
      if 4 ≤ l.length then s else s.set RGN_HLANE.FENCED lane 0

/-- FLT_LANE_CMD (R360). -/
def State.laneRetest (s : State) (w : Writer) (v : Nat) : State :=
  let off := reg_FLT_LANE_CMD.base
  let lane := bits v 0 6 + (if bit v 6 then 64 else 0)
  if bits v 8 2 ≠ 1 then s.reject w 1 false off
  else if 96 ≤ lane ∨ s.on RGN_HLANE.FENCED lane = false then s.reject w 3 false off
  else { s with ln.laneTest := s.ln.laneTest.set 0 lane 2 }

/-- The eye monitors update (R328). -/
def State.eyeUpdate (s : State) (lane u m l w snr : Nat) : State :=
  if s.on RGN_HLANE.LOCKED lane then
    ((((s.set RGN_HLANE.EYE_UPPER lane u).set RGN_HLANE.EYE_MIDDLE lane m).set RGN_HLANE.EYE_LOWER lane l).set
      RGN_HLANE.EYE_WIDTH lane w).set RGN_HLANE.SNR lane snr
  else s

/-- Taps that a lane is to drive, c(-2) to c(2) (R325). -/
def State.tapGoal (s : State) (lane : Nat) : List Nat :=
  [if lane < 64 then 0 else s.get RGN_LLANE.TX_PRE2 lane, s.get RGN_HLANE.TX_PRE1 lane, s.get RGN_HLANE.TX_MAIN lane,
    s.get RGN_HLANE.TX_POST1 lane, if lane < 64 then 0 else s.get RGN_LLANE.TX_POST2 lane]

/-- Taps at reset. -/
def tapReset : List Nat := [0, 4, 0x33, 8, 0]

/-- Each tap moves one unit towards its written value (R325). -/
def State.tapStep (s : State) (lane : Nat) : State :=
  let l := List.zipWith (fun a g => if a < g then a + 1 else if g < a then a - 1 else a)
    (Tab.get tapReset s.ln.laneTaps lane) (s.tapGoal lane)
  { s with ln.laneTaps := s.ln.laneTaps.set tapReset lane l }

/-- Fields of a lane's taps. -/
def tapFields (lane : Nat) : List Fld :=
  [RGN_HLANE.TX_PRE1, RGN_HLANE.TX_MAIN, RGN_HLANE.TX_POST1] ++
    (if lane < 64 then [] else [RGN_LLANE.TX_PRE2, RGN_LLANE.TX_POST2])

/-- The magnitudes of a lane are a reserved encoding (R325). -/
def State.tapsBad (s : State) (lane : Nat) : Bool :=
  let g := s.tapGoal lane
  63 < g.sum || 2 * s.get RGN_HLANE.TX_MAIN lane < g.sum

/-- Write a word of a lane's entry (R324 to R327). With CTLE_AUTO 1 the field CTLE_CODE keeps the code that was chosen. -/
def State.laneWrite (s : State) (w : Writer) (r : Reg) (lane word v off : Nat) : State :=
  let t := s.writeWord r lane word v
  let n := t.1
  let n := if word = 1 ∧ n.on RGN_HLANE.CTLE_AUTO lane then n.set RGN_HLANE.CTLE_CODE lane (s.get RGN_HLANE.CTLE_CODE lane) else n
  if word = 6 then
    let gen := bits v 0 3
    let chk := bits v 4 3
    if (gen ≠ 0 ∨ chk ≠ 0) ∧ (s.laneOwner lane).isSome then s.reject w 3 false off
    else
      let n := if n.get RGN_HLANE.PRBS_CHK lane = 0 then n.set RGN_HLANE.CHK_LOCK lane 0 else n
      let n := if bit v 9 then (n.clearCount RGN_HLANE.PRBS_ERR lane).clearCount RGN_HLANE.PRBS_SYM lane else n
      if t.2 then n.reject w 1 false off else n
  else if word = 0 then
    let bad := n.tapsBad lane
    let n := if bad then n.resetFields (tapFields lane) lane else n
    if t.2 || bad then n.reject w 1 false off else n
  else if word = 1 ∧ 64 ≤ lane ∧ bit v 6 then
    let n := (n.set RGN_LLANE.DFE_TAPS lane 0).laneAdapted lane 0
    if t.2 then n.reject w 1 false off else n
  else if t.2 then n.reject w 1 false off else n

/-- A reference is not good: every lane it serves loses LOCKED (R313, R27). -/
def State.refLost (s : State) (from_ n : Nat) : State :=
  s.each ((upto n).map (· + from_)) (fun l s => s.laneLock l false)

/-- A 100 µs window of the reference monitors (R313). -/
def State.refWindow (s : State) (h l : Int) : State :=
  let hg := decide (-5100 ≤ h ∧ h ≤ 100)
  let lg := decide (-100 ≤ l ∧ l ≤ 100)
  let s := (s.set GLB_REFCLK_STATUS.HREF_OK 0 (b2n hg)).set GLB_REFCLK_STATUS.LREF_OK 0 (b2n lg)
  let s := if hg then s else s.refLost 0 64
  if lg then s else s.refLost 64 32

/-! Modules (R329 to R333). -/

/-- MOD_STATE of slot k changes (R330): EV_MOD, the event log, LINK. A data path stays activated in READY only. -/
def State.modSet (s : State) (k st : Nat) : State :=
  if s.modState k = st then s
  else
    let act := if st = mREADY then s.get RGN_LPORT.APPSEL (32 + k)
      else if s.modState k = mRESET ∧ st = mIDENTIFY then Tab.get 0 s.ln.modActive k else 0
    let s := { s with ln.modSince := s.ln.modSince.set 0 k s.mono, ln.modActive := s.ln.modActive.set 0 k act }
    let s := (s.set RGN_LPORT.MOD_STATE (32 + k) st).event RGN_LPORT.EV_MOD (32 + k) (0x130 + k)
    (s.logEvent 0x0050 (0x130 + k) (leBytes 1 k ++ leBytes 1 st)).linkCheck (32 + k)

/-- Presence of a slot is filtered (R329, R330). -/
def State.modPresence (s : State) (k : Nat) (present : Bool) : State :=
  if s.on RGN_LPORT.MOD_PRESENT (32 + k) = present then s
  else
    let s := s.set RGN_LPORT.MOD_PRESENT (32 + k) (b2n present)
    let s := { s with ln.modI2c := s.ln.modI2c.set 0 k 0, ln.modReadyAt := s.ln.modReadyAt.set 0 k 0, ln.modOnce := s.ln.modOnce.set 0 k 0,
                      ln.biasSum := s.ln.biasSum.set [] k [], ln.biasOver := s.ln.biasOver.set [] k [] }
    if present then s.modSet k mRESET
    else
      let s := s.resetFields [RGN_LMOD.VENDOR, RGN_LMOD.PART, RGN_LMOD.SERIAL, RGN_LMOD.HASH, RGN_LMOD.VALID] k
      (s.resetFields [RGN_LMON.BIAS_BASE, RGN_LMON.BASE_VALID] k).modSet k mABSENT

/-- MOD_REINIT (R330). -/
def State.modReinit (s : State) (k : Nat) : State :=
  if s.modState k = mABSENT then s
  else
    { s with ln.modI2c := s.ln.modI2c.set 0 k 0, ln.modActive := s.ln.modActive.set 0 k 0,
             ln.modSince := s.ln.modSince.set 0 k s.mono }.modSet k mRESET

/-- MOD_RST_N of the slots is released from start-up step 5 on (R330). -/
def State.modReleased (s : State) : Bool := s.mode != 0 && (s.mode != mBOOT || 5 ≤ s.get GLB_BOOT_STATUS.STAGE 0)

/-- ModuleReady is read (R330). -/
def State.modReadyPoll (s : State) (k : Nat) (ready : Bool) : State :=
  if s.modState k = mRESET ∧ ready ∧ s.modReleased then
    { s with ln.modReadyAt := s.ln.modReadyAt.set 0 k (s.mono + 1) }.modSet k mIDENTIFY
  else s

/-- The allow check of slot k passes, or is not required (R331). -/
def State.modAllowed (s : State) (k : Nat) : Bool :=
  !(s.on RGN_LPORT.ALLOW_EN (32 + k) || s.on CAR_TX.EN k) || s.allowListed k

/-- State of an admitted module of an enabled port (R330): INIT, or READY where its data path is already activated under the
port's APPSEL, as a warm reset may leave it. -/
def State.modEnter (s : State) (k : Nat) : Nat :=
  if Tab.get 0 s.ln.modActive k = s.get RGN_LPORT.APPSEL (32 + k) then mREADY else mINIT

/-- The allow check runs (R330, R331). -/
def State.modCheck (s : State) (k : Nat) : State :=
  let st := s.modState k
  let deny (s : State) : State := (s.modSet k mDENIED).eventEach RGN_LPORT.EV_DENIED (32 + k) (0x130 + k)
  if s.modAllowed k = false then
    (if st = mREADY ∨ (st = mIDENTIFY ∧ s.on RGN_LMOD.VALID k) then deny s else s)
  else if s.on RGN_HPORT.EN (32 + k) ∧ (st = mDENIED ∨ (st = mIDENTIFY ∧ s.on RGN_LMOD.VALID k)) then s.modSet k (s.modEnter k)
  else s

/-- The identity of a module is read (R330 to R332). -/
def State.modIdentify (s : State) (k : Nat) (vendor part serial : List Octet) : State :=
  if s.modState k ≠ mIDENTIFY then s
  else
    let id := padTo 16 vendor ++ padTo 16 part ++ padTo 16 serial
    let s := (((s.set RGN_LMOD.VENDOR k (leNat (slice id 0 16))).set RGN_LMOD.PART k (leNat (slice id 16 16))).set
      RGN_LMOD.SERIAL k (leNat (slice id 32 16))).set RGN_LMOD.HASH k (leNat ((sha384 id).take 32))
    (s.set RGN_LMOD.VALID k 1).modCheck k

/-- The module's answer for the data path (R330): its application's host-lane count must be the port's width. -/
def State.modActivated (s : State) (k width : Nat) : State :=
  if s.modState k ≠ mINIT then s
  else s.modSet k (if width = (s.portLanes (32 + k)).length then mREADY else mFAULT)

/-- READY_MS elapses with no ModuleReady, or no DataPathActivated (R322, R330). -/
def State.modTimeout (s : State) (k : Nat) : State :=
  if ((s.modState k = mRESET ∧ s.modReleased) ∨ s.modState k = mINIT) ∧
      Tab.get 0 s.ln.modSince k + s.get RGN_LPORT.READY_MS (32 + k) * ms ≤ s.mono then s.modSet k mFAULT
  else s

/-- A transfer is retried (R329): after three retries without an answer the slot becomes FAULT. -/
def State.modRetry (s : State) (k : Nat) (acked : Bool) : State :=
  if s.modState k = mABSENT ∨ s.modState k = mFAULT then s
  else if acked then { s with ln.modI2c := s.ln.modI2c.set 0 k 0 }
  else
    let n := Tab.get 0 s.ln.modI2c k + 1
    if n < 3 then { s with ln.modI2c := s.ln.modI2c.set 0 k n }
    else { s with ln.modI2c := s.ln.modI2c.set 0 k 0 }.modSet k mFAULT

/-- Tx bias of the first 8 module lanes as numbers. -/
def biasWords (bias : List (BitVec 16)) : List Nat := (upto 8).map (fun i => (bias.getD i 0).toNat)

/-- Eight 16-bit values as the field holds them, lane 1 lowest (R333). -/
def packWords (l : List Nat) : Nat := l.foldr (fun x a => x % 65536 + 65536 * a) 0

/-- Poll towards the baseline: the mean of the first 16 (R333). -/
def State.biasPoll (s : State) (k : Nat) (b : List Nat) : State :=
  let old := Tab.get [] s.ln.biasSum k
  let old := if old.isEmpty then List.replicate 9 0 else old
  let sums := List.zipWith (· + ·) old (1 :: b)
  let s := { s with ln.biasSum := s.ln.biasSum.set [] k sums }
  if sums.getD 0 0 = 16 then
    (s.set RGN_LMON.BIAS_BASE k (packWords ((sums.drop 1).map (· / 16)))).set RGN_LMON.BASE_VALID k 1
  else s

/-- Poll after the baseline: EV_EOL on the third poll in a row above the threshold, once per insertion (R333). -/
def State.eolPoll (s : State) (k : Nat) (b : List Nat) : State :=
  let n := (s.portLanes (32 + k)).length
  let base := s.get RGN_LMON.BIAS_BASE k
  let pct := 100 + s.get RGN_LPORT.EOL_PCT (32 + k)
  let above := (upto 8).map (fun i =>
    if i < n && bits base (16 * i) 16 * pct < b.getD i 0 * 100 then (Tab.get [] s.ln.biasOver k).getD i 0 + 1 else 0)
  let s := { s with ln.biasOver := s.ln.biasOver.set [] k above }
  let once := Tab.get 0 s.ln.modOnce k
  if above.any (fun x => 3 ≤ x) ∧ once % 2 = 0 then
    ({ s with ln.modOnce := s.ln.modOnce.set 0 k (once + 1) }.event RGN_LPORT.EV_EOL (32 + k) (0x130 + k)).logEvent
      0x0051 (0x130 + k) (leBytes 1 k)
  else s

/-- EV_MODFLAG, its first of an insertion in the event log (R333). -/
def State.modFlag (s : State) (k : Nat) : State :=
  let s := s.event RGN_LPORT.EV_MODFLAG (32 + k) (0x130 + k)
  let once := Tab.get 0 s.ln.modOnce k
  if once < 2 then
    { s with ln.modOnce := s.ln.modOnce.set 0 k (once + 2) }.logEvent 0x0052 (0x130 + k) (leBytes 1 k)
  else s

/-- A monitor poll (R333). -/
def State.modPoll (s : State) (k temp vcc : Nat) (flags : List Octet) (bias : List (BitVec 16)) : State :=
  if s.modState k ≠ mREADY then s
  else
    let b := biasWords bias
    let s := (((s.set RGN_LMON.TEMP k temp).set RGN_LMON.VCC k vcc).set RGN_LMON.BIAS k (packWords b)).set
      RGN_LMON.FLAGS k (leNat (padTo 6 flags))
    let s := if s.on RGN_LMON.BASE_VALID k then s.eolPoll k b else s.biasPoll k b
    if flags.any (· != 0) then s.modFlag k else s

/-! Module memory access (R334). -/

/-- A write of word 0 of RGNn_MODACC. -/
def State.modacc (s : State) (r v : Nat) : State :=
  let k := 4 * r + bits v 0 2
  if s.get RGN_MODACC_STATUS.V r = 1 then s
  else if s.modState k = mABSENT ∨ (bit v 2 ∧ s.on RGN_HPORT.EN (32 + k)) then s.set RGN_MODACC_STATUS.V r 4
  else { s.set RGN_MODACC_STATUS.V r 1 with ln.modJob := s.ln.modJob.set 0 r (v + 1) }

/-- A request ends DONE or NACK. -/
def State.modaccEnd (s : State) (r : Nat) (ack : Bool) (data : List Octet) : State :=
  let j := Tab.get 0 s.ln.modJob r
  if j = 0 then s
  else
    let v := j - 1
    let n := bits v 3 3 + 1
    let words := s.wordsOf RGN_MODACC_DATA.V (2 * r) 2
    let out := if bit v 2 then words.take n else (padTo n data)
    let s := { s with ln.modJob := s.ln.modJob.set 0 r 0 }.emit
      (.module (4 * r + bits v 0 2) (bits v 8 8) (bits v 16 8) (bits v 24 8) n (bit v 2) out)
    if ack then
      (if bit v 2 then s else s.putWords RGN_MODACC_DATA.V (2 * r) 2 (out ++ words.drop n)).set RGN_MODACC_STATUS.V r 2
    else s.set RGN_MODACC_STATUS.V r 3

/-! Port entries (R320 to R322). -/

/-- EN may rise: k is permitted for SPEED and the lanes overlap no enabled port's (R320). -/
def State.portFits (s : State) (port : Nat) : Bool :=
  port % 2 ^ s.get RGN_HPORT.SPEED port == 0 &&
  (upto 48).all (fun q => q == port || !s.on RGN_HPORT.EN q ||
    (s.portLanes q).all (fun l => !(s.portLanes port).contains l))

/-- A port is enabled: its lanes' generators and checkers go off (R320); a slot that waits for it moves on (R330). -/
def State.portOn (s : State) (port : Nat) : State :=
  let s := s.each (s.portLanes port) (fun l s => s.resetFields [RGN_HLANE.PRBS_GEN, RGN_HLANE.PRBS_CHK, RGN_HLANE.CHK_LOCK] l)
  if port < 32 then s else s.modCheck (port - 32)

/-- A port is disabled (R320, R330). -/
def State.portOff (s : State) (port : Nat) : State :=
  let s := s.linkSet port 0
  if 32 ≤ port ∧ s.modState (port - 32) = mREADY then s.modSet (port - 32) mIDENTIFY else s

/-- Write a word of a port's entry. -/
def State.portWrite (s : State) (w : Writer) (r : Reg) (port word v off : Nat) : State :=
  let t := s.writeWord r port word v
  let n := t.1
  let en := s.on RGN_HPORT.EN port
  let locked := n.get RGN_HPORT.SPEED port != s.get RGN_HPORT.SPEED port ||
    (32 ≤ port && n.get RGN_LPORT.APPSEL port != s.get RGN_LPORT.APPSEL port)
  let rise := !en && n.on RGN_HPORT.EN port
  if en ∧ locked then s.reject w 2 false off
  else if rise ∧ n.portFits port = false then s.reject w 3 false off
  else
    let n := if t.2 then n.reject w 1 false off else n
    let n := if rise then n.portOn port else if en && !n.on RGN_HPORT.EN port then n.portOff port else n
    if 32 ≤ port ∧ word = 0 ∧ bit v 12 then n.modReinit (port - 32) else n

end Sys2Proof.Machine
end

