-- ==== Sys2Proof/Machine/Clamp.lean ====
section
/-!
DEFINITION. Machine/Clamp.lean: tamper monitoring (R364 to R385): classes and windows, detectors, thresholds, the erase,
the shared log entry, configuration and its lock, the backup cell.
-/
namespace Sys2Proof.Machine

/-! Discards. -/

/-- Every frame held in the device is discarded as MODE_DISCARD (R45, R373). -/
def State.discardAll (s : State) : State :=
  let s := s.each (upto 16) (fun k s => s.carLeave k)
  let arr := s.fr.arrivals.flatMap (·.2)
  let s := ({ s with fr.arrivals := [] }.each arr (fun a s => s.dropArrival a QUE_DCNT.D_MODE 7))
  let s := s.flushQueues QUE_DCNT.D_MODE 7 (fun _ _ => true)
  let eg := s.fr.egress.flatMap (·.2)
  let s := ({ s with fr.egress := [] }.each eg (fun x s =>
    (if x.car.isSome then s else s.count QUE_DCNT.D_MODE x.f.queue 1).egDrop x 7))
  let out := s.fr.lineOut.flatMap (·.2)
  let s := ({ s with fr.lineOut := [] }.each out (fun x s =>
    (s.count QUE_DCNT.D_MODE x.f.queue 1).smpEgress x.f x.pn x.an 0 7))
  let ig := s.fr.ingress.flatMap (·.2)
  let s := ({ s with fr.ingress := [] }.each ig (fun x s =>
    (s.count RGN_LPIGR.MODE_DISCARD x.lp 1).smpIn x.sampled (s.get SCT_RX.HPORT x.sc) x.lp x.sc 0 (x.data.length + 4)
      x.time x.steps x.mono x.pn 0 7))
  let ho := s.fr.hostOut.flatMap (fun x => x.2.map (fun f => (x.1, f)))
  let s := ({ s with fr.hostOut := [], fr.pfcOut := [] }.each ho (fun y s =>
    (s.count RGN_LPIGR.MODE_DISCARD y.2.lp 1).smpIn y.2.sampled y.1 y.2.lp (y.2.sc.getD 0) y.2.an (y.2.data.length + 4)
      y.2.time y.2.steps y.2.mono y.2.pn 0 7))
  let s := s.each (upto 16) (fun k s =>
    if (s.carRxOf k).part.isSome then (s.carLose k).count RGN_LPIGR.MODE_DISCARD k 1 else s)
  s.each (upto 4) (fun r s => s.fencePunt r)

/-! The erase (R373, R374, R380). -/

/-- Fields of a slot that go back to reset when it becomes EMPTY (R174). -/
def slotFields : List Fld := [KST_SLOT.STATE, KST_SLOT.ORPHAN, KST_SLOT.KLEN, KST_SLOT.PARENT, KST_SLOT.HAS_PARENT,
  KST_SLOT.ORIGIN, KST_SLOT.MASTERS, KST_SLOT.WORLDS, KST_SLOT.LCS, KST_SLOT.PURPOSE, KST_SLOT.CASCADE,
  KST_SLOT.EXPORTABLE, KST_SLOT.PERSIST, KST_SLOT.PERSISTED, KST_SLOT.LIMIT_EN, KST_SLOT.LIMIT, KST_SLOT.USED]

/-- Every slot, staged key, SA key and key RAM entry is zeroised (R50, R373). -/
def State.zeroKeys (s : State) : State :=
  let s := s.each (upto 256) (fun k s => s.resetFields slotFields k)
  let s := s.each (s.ke.slotKey.map (·.1)) (fun k s => s.zeroNote k)
  let s := { s with ke.slotKey := [], ke.kram := [], au.staged := [] }
  let s := s.each (s.ones SAT_TX.STATE) (fun a s => s.saDrop a)
  s.each (s.ones SAT_RX.STATE) (fun a s => s.saDrop (8192 + a))

/-- Chisel loses its keys: operations in progress end KEY_GONE, open MACs close, the context key goes (R373). -/
def State.zeroChisel (s : State) : State :=
  let s := ({ s with ch.ctxKey := [] }.set CHS_ENGINE.CTX_KEY 0 0).each [0, 1] (fun p s => s.macClose p)
  match s.ch.chsJob with
  | some (.cmd r _ a _) => { s with ch.chsJob := some (.cmd r none a (.code cKEYGONE)) }
  | some (.check c k _) => { s with ch.chsJob := some (.check c k 256) }
  | some .record => s
  | none => s

/-- An open session closes (R396); a challenge goes with it, and the CLC MAC. -/
def State.sessClose (s : State) (p last : Nat) : State :=
  if s.session p then
    let s := (s.set OFC_SESSION.STATE p 0).set OFC_SESSION.LAST p last
    let s := { s.putWords OFC_CHAL.V (8 * p) 8 [] with ofc.chal := s.ofc.chal.set none p none }
    if (s.macOf p).any (fun m => m.world == .officer) then s.setMac p none else s
  else s

/-- Disarm a scheduled warm reset (R55). -/
def State.warmDisarm (s : State) : State :=
  { (s.set OFC_RESET.WARM_AT 0 0).set OFC_RESET.ARMED 0 0 with lc.warmAt := none, lc.warmLate := false }

/-- Perform an erase; in DORMANT the key RAM is all there is (R380, R383). -/
def State.clampErase (s : State) : State :=
  if s.mode = 0 then { s with ke.kram := [], cl.dormAlarm := true, cl.eraseDue := true }
  else
    let s := { (s.zeroKeys.vnrZero).zeroChisel with cl.eraseDue := true }
    let s := (s.each [0, 1] (fun p s => s.sessClose p 0xA)).warmDisarm
    s.discardAll.lockdown 7

/-- The erase is complete (R373, R384, R385). -/
def State.eraseDone (s : State) : State :=
  if s.cl.eraseDue then ({ s with cl.eraseDue := false }.set CLM_STATUS.ERASED 0 1).pendClamp 0x42A else s

/-! Events, windows, thresholds (R368, R372, R375). -/

/-- The agreement and coalescing window (R366, R380). -/
def State.agreeSpan (s : State) : Nat := if s.mode = 0 then sec / 32768 else 100 * ns

/-- A class crosses its threshold: it joins the open coalescing window or opens one (R375). -/
def State.clmCross (s : State) (c feeds : Nat) (erase : Bool) : State :=
  let x := match s.cl.coalesce with
    | some w => { w with classes := setBit w.classes c, erase := w.erase || erase, feeds := w.feeds ||| feeds }
    | none => ⟨s.cl.logSeq + 1, s.logTime, s.logFlags false, 2 ^ c, erase, feeds, s.mono + s.agreeSpan⟩
  let s := if s.cl.coalesce.isNone ∧ s.cl.logOff = false then { s with cl.logSeq := s.cl.logSeq + 1 } else s
  let s := { s with cl.coalesce := some x }
  if erase then s.clampErase else s

/-- An event of class c is counted (R364, R368, R372). -/
def State.clmCounted (s : State) (c feeds : Nat) : State :=
  let s := (s.count CLM_CLASS_CNT.V c 1).pendClamp (0x420 + c)
  let w := match Tab.get none s.cl.clmWin c with
    | some w => if w.ends ≤ s.mono then none else some w
    | none => none
  let w : ClmWin := match w with
    | some w => ⟨min (w.count + 1) 255, w.ends⟩
    | none => ⟨1, s.mono + s.get OFC_CLM_CLASS.T_US c * us⟩
  let s := { s with cl.clmWin := s.cl.clmWin.set none c (some w) }
  let mode := s.get OFC_CLM_CLASS.MODE c
  if w.count < s.get OFC_CLM_CLASS.K1 c then s
  else s.clmCross c feeds (mode = 1 || (mode = 2 && s.get OFC_CLM_CLASS.K2 c ≤ w.count))

/-- The open window of a class. -/
def State.clmOpenWin (s : State) (c : Nat) : Option ClmWin := (Tab.get none s.cl.clmWin c).filter (fun w => s.mono < w.ends)

/-- The count of a class (R384). -/
def State.clmCount (s : State) (c : Nat) : Nat := ((s.clmOpenWin c).map (·.count)).getD 0

/-- CLM_STATUS.OPEN. -/
def State.clmOpen (s : State) : Nat := ((upto 9).map (fun c => b2n (s.clmOpenWin c).isSome * 2 ^ c)).sum

/-- A window closes T after it opened (R368). -/
def State.clmClose (s : State) (c : Nat) : State :=
  match Tab.get none s.cl.clmWin c with
  | some w => if w.ends ≤ s.mono then { s with cl.clmWin := s.cl.clmWin.set none c none } else s
  | none => s

/-! Supplies and their detectors (R365 to R367), and the shared entry (R375). -/

/-- Number of a supply: 2 g + f for a feed, 14 for VBAT. -/
def supplyIdx : Supply → Nat
  | .feed g .a => 2 * g.val
  | .feed g .b => 2 * g.val + 1
  | .vbat => 14

/-- Class of a supply. -/
def supplyClass : Supply → Nat
  | .feed _ .a => 0
  | .feed _ .b => 1
  | .vbat => 2

/-- Brace marks feed f of group g good (R352, R355). -/
def State.feedGood (s : State) (g : Nat) (f : Feed) : Bool :=
  match f with
  | .a => s.on FLT_BRACE_STATUS.A_GOOD g
  | .b => s.on FLT_BRACE_STATUS.B_GOOD g

/-- The detectors of a supply are armed (R365, R380). -/
def State.tripArmed (s : State) (x : Supply) : Bool :=
  match x with
  | .feed g f => s.mode != 0 && s.feedGood g.val f
  | .vbat => true

/-- Feed bit of a supply in the log entry (R377). -/
def feedBit (i : Nat) : Nat := if i < 14 then 2 ^ i else 0

/-- The trips of a supply are judged (R366): a disagreement is a class 8 event. -/
def State.tripJudge (s : State) (i : Nat) (t : TripEvent) : State :=
  let s := { s with cl.trips := s.cl.trips.set none i none }
  if (t.comparator ∧ t.width = 0) ∨ (t.comparator = false ∧ 8 ≤ t.width) then s.clmCounted 8 (feedBit i) else s

/-- The shared entry is written, then those held behind it (R375, R377). -/
def State.coalesceWrite (s : State) (x : Coalesce) : State :=
  let held := s.cl.logHeld
  let s := { s with cl.coalesce := none, cl.logHeld := [] }
  if s.cl.logOff then s
  else
    let src := if x.erase then 0x42A else 0x429
    let detail := (upto 9).flatMap (fun c => leBytes 1 (s.clmCount c)) ++ leBytes 2 x.feeds
    let s := s.logStore x.seq (logOctets (s.logSeqOf x.seq) x.time 0x0010 x.flags (if x.erase then 2 else 1)
      x.classes src detail)
    let s := s.each held (fun e s => s.logStore e.1 e.2)
    if x.erase then s else s.pendClamp 0x429

/-- A coalescing window that ends by instant `upTo` closes; disagreements decided within it, or at its close, share its
entry (R375). -/
def State.coalesceLapse (s : State) (upTo : Nat) : State :=
  match s.cl.coalesce with
  | none => s
  | some w =>
    if upTo < w.ends then s
    else
      let s := s.each (upto 15) (fun i s => match Tab.get none s.cl.trips i with
        | some t => if t.at_ + s.agreeSpan ≤ w.ends then s.tripJudge i t else s
        | none => s)
      match s.cl.coalesce with
      | some x => s.coalesceWrite x
      | none => s

/-- The coalescing window closes (R375). -/
def State.coalesceClose (s : State) : State := s.coalesceLapse s.mono

/-- An event of class c (R364, R368, R372): one after the coalescing window's end does not share its entry (R375). -/
def State.clmEvent (s : State) (c feeds : Nat) : State := s.coalesceClose.clmCounted c feeds

/-- A disagreement is decided when its window closes (R366). -/
def State.tripDecide (s : State) (i : Nat) : State :=
  match Tab.get none s.cl.trips i with
  | none => s
  | some t =>
    if s.mono < t.at_ + s.agreeSpan then s
    else
      let s := s.coalesceLapse (t.at_ + s.agreeSpan - 1)
      match Tab.get none s.cl.trips i with
      | some t => s.tripJudge i t
      | none => s

/-- DISAGREE_WINDOW_CLOSE. -/
def State.disagreeClose (s : State) (x : Supply) : State := s.tripDecide (supplyIdx x)

/-- A detector trips (R365 to R367): a trip after the agreement window of the last event is a new event. -/
def State.supplyTrip (s : State) (x : Supply) (d : Detector) : State :=
  let i := supplyIdx x
  let comp : Bool := match d with
    | .comparator => true
    | .delayLine _ => false
  let width := match d with
    | .comparator => 0
    | .delayLine w => w
  if s.tripArmed x = false ∨ (comp = false ∧ width = 0) then s
  else
    let s := s.tripDecide i
    let old := match Tab.get none s.cl.trips i with
      | some t => if s.mono < t.at_ + s.agreeSpan then some t else none
      | none => none
    let put (t : TripEvent) (s : State) : State := { s with cl.trips := s.cl.trips.set none i (some t) }
    match old with
    | some t => put ⟨t.at_, t.comparator || comp, max t.width width⟩ s
    | none =>
      let b := Tab.get 0 s.cl.braceAt i
      let s := put ⟨s.mono, comp, width⟩ s
      if b ≠ 0 ∧ s.mono < b + 100 * ns then s else s.clmEvent (supplyClass x) (feedBit i)

/-- A Brace report about groups of one side (R354, R367): one event, unless a detector event of one of the feeds, or a
report of the side, lies within 100 ns before. -/
def State.braceReport (s : State) (f : Feed) (groups : List Nat) : State :=
  let side := if f = .a then 0 else 1
  let joins := groups.any (fun g => match Tab.get none s.cl.trips (2 * g + side) with
      | some t => s.mono < t.at_ + 100 * ns
      | none => false) ||
    (Tab.get 0 s.cl.braceAt (16 + side) != 0 && s.mono < Tab.get 0 s.cl.braceAt (16 + side) + 100 * ns)
  let put (k : Nat) (s : State) : State := { s with cl.braceAt := s.cl.braceAt.set 0 k (s.mono + 1) }
  let s := put (16 + side) (s.each groups (fun g s => put (2 * g + side) s))
  if joins ∨ groups.isEmpty then s
  else s.clmEvent side ((groups.map (fun g => feedBit (2 * g + side))).sum)

/-! Clocks, temperature, EVIN15, memory integrity (R364, R370, R415, R307). -/

/-- An event that re-arms only after a recovery. -/
def State.armedEvent (s : State) (c : Nat) : State :=
  if Tab.get false s.cl.armedOff c then s
  else { s with cl.armedOff := s.cl.armedOff.set false c true }.clmEvent c 0

def State.rearm (s : State) (c : Nat) : State := { s with cl.armedOff := s.cl.armedOff.set false c false }

/-- KCLK leaves its band: Clamp runs on its reference oscillator (R364, R384). -/
def State.kclkBad (s : State) : State := if s.mode = 0 then s else (s.set CLM_STATUS.REFOSC 0 1).armedEvent 3

def State.cclkBad (s : State) : State := if s.mode = 0 then s else s.armedEvent 4

/-- A clock is back in its band. -/
def State.clockRearm (s : State) (cclk : Bool) : State :=
  if cclk then s.rearm 4 else (s.set CLM_STATUS.REFOSC 0 0).rearm 3

/-- EVIN15 as Clamp sees it (R415). -/
def State.evin15 (s : State) : State := if s.on OFC_CLM_CTL.EVIN15_ROUTE 0 then s.clmEvent 6 0 else s

/-- Memory-integrity alarms raised in this command reach Clamp (R307). -/
def State.takeAlarms (s : State) : State :=
  let n := s.vn.alarms
  ({ s with vn.alarms := 0 }).each (upto n) (fun _ s => s.clmEvent 7 0)

/-- The hottest sensor crosses +150 °C (R44, R416). -/
def State.thermal (s : State) (above : Bool) : State :=
  if s.on GLB_DEGRADED_CAUSE.THERMAL 0 = above then s
  else (s.set GLB_DEGRADED_CAUSE.THERMAL 0 (b2n above)).pend (if above then 0x450 else 0x451)

/-! VBAT (R382). -/

/-- VBAT stays below 2.3 V: the key RAM is erased. Below 1.8 V the backup domain is lost at the next cold reset. -/
def State.vbatLow (s : State) (mv : Nat) : State :=
  let s := if mv < 1800 then { s with cl.backupNew := true } else s
  if 2300 ≤ mv ∨ Tab.get false s.cl.armedOff 9 then s
  else
    let s := { s with ke.kram := [], cl.armedOff := s.cl.armedOff.set false 9 true }
    let s := s.each (s.ones KST_SLOT.PERSISTED) (fun k s => s.set KST_SLOT.PERSISTED k 0)
    ((s.set CLM_STATUS.PREERASED 0 1).logEvent 0x0011 0x42B (leBytes 2 mv)).pendClamp 0x42B

/-! Configuration (R369 to R371). -/

/-- Log an accepted Clamp configuration write. -/
def State.clmLogCfg (s : State) (reg w0 w1 : Nat) : State :=
  s.logEvent 0x0012 noSrc (leBytes 1 reg ++ [0, 0, 0] ++ leBytes 4 w0 ++ leBytes 4 w1)

/-- A class entry only narrows (R371). MODE order: RECORD, ESCALATE, ERASE. -/
def clmRank (m : Nat) : Nat := if m = 0 then 0 else if m = 2 then 1 else 2

def State.clmNarrows (s n : State) (c : Nat) : Bool :=
  clmRank (s.get OFC_CLM_CLASS.MODE c) ≤ clmRank (n.get OFC_CLM_CLASS.MODE c) &&
  n.get OFC_CLM_CLASS.K1 c ≤ s.get OFC_CLM_CLASS.K1 c && n.get OFC_CLM_CLASS.K2 c ≤ s.get OFC_CLM_CLASS.K2 c &&
  s.get OFC_CLM_CLASS.T_US c ≤ n.get OFC_CLM_CLASS.T_US c

/-- A word-0 write of a class entry with its held word taken in; `n` is the state with the new values. -/
def State.clmCommit (s n : State) (w : Writer) (c off : Nat) (bad : Bool) : State :=
  let k2 := n.get OFC_CLM_CLASS.MODE c = 2 ∧ n.get OFC_CLM_CLASS.K2 c ≤ n.get OFC_CLM_CLASS.K1 c
  let n := if k2 then n.set OFC_CLM_CLASS.K2 c 0xFF else n
  if s.on OFC_CLM_CTL.LOCK 0 ∧ s.clmNarrows n c = false then s.reject w 3 true off
  else
    let n := if bad || decide k2 then n.reject w 1 true off else n
    n.clmLogCfg c (n.readFields reg_OFC_CLM_CLASS c 0) (n.readFields reg_OFC_CLM_CLASS c 1)

/-- A write of OFC_CLM_CTL (R370, R371). -/
def State.clmCtl (s : State) (w : Writer) (v : Nat) : State :=
  let off := reg_OFC_CLM_CTL.base
  let t := s.writeWord reg_OFC_CLM_CTL 0 0 v
  let n := t.1
  let narrow := s.get OFC_CLM_CTL.EVIN15_ROUTE 0 ≤ n.get OFC_CLM_CTL.EVIN15_ROUTE 0 &&
    n.get OFC_CLM_CTL.EVIN15_LOW 0 == s.get OFC_CLM_CTL.EVIN15_LOW 0 &&
    decide (signed 8 (s.get OFC_CLM_CTL.TEMP_LO 0) ≤ signed 8 (n.get OFC_CLM_CTL.TEMP_LO 0)) &&
    n.get OFC_CLM_CTL.TEMP_HI 0 ≤ s.get OFC_CLM_CTL.TEMP_HI 0
  if s.on OFC_CLM_CTL.LOCK 0 ∧ narrow = false then s.reject w 3 true off
  else
    let n := if t.2 then n.reject w 1 true off else n
    n.clmLogCfg 0x10 (n.readFields reg_OFC_CLM_CTL 0 0) 0

end Sys2Proof.Machine
end

