-- ==== Sys2Proof/Machine/Faults.lean ====
section
/-!
DEFINITION. Machine/Faults.lean: faults and their outcomes (R336 to R361): Brace's feeds and switches, uncorrectable words
and rows, crossbar and time-counter errors, LPDDR5X channels, region restarts.
-/
namespace Sys2Proof.Machine

/-! Brace (R351 to R358). -/

/-- The field that says a feed of a group is good. -/
def goodF : Feed → Fld
  | .a => FLT_BRACE_STATUS.A_GOOD
  | .b => FLT_BRACE_STATUS.B_GOOD

/-- The feed of a group that is active. -/
def State.activeFeed (s : State) (g : Nat) : Feed := if s.on FLT_BRACE_STATUS.ACTIVE g then .b else .a

/-- The other feed. -/
def otherFeed : Feed → Feed
  | .a => .b
  | .b => .a

/-- A feed of group g becomes good or not good (R353, R355, R361). -/
def State.feedSet (s : State) (g : Nat) (f : Feed) (v : Bool) : State :=
  if s.feedGood g f = v then s
  else
    let was := s.on FLT_BRACE_STATUS.REDUNDANT g
    let s := s.set (goodF f) g (b2n v)
    let both := s.feedGood g .a && s.feedGood g .b
    let s := s.set FLT_BRACE_STATUS.REDUNDANT g (b2n both)
    let s := if was && !both then s.pend (0x408 + g) else if !was && both then s.pend (0x410 + g) else s
    s.set GLB_DEGRADED_CAUSE.FEED_LOST 0 (b2n ((upto 7).any (fun k => !s.on FLT_BRACE_STATUS.REDUNDANT k)))

/-- Group g goes over to its other feed (R352, R357). -/
def State.braceSwitch (s : State) (g cause : Nat) : State :=
  (((s.set FLT_BRACE_STATUS.ACTIVE g (1 - s.get FLT_BRACE_STATUS.ACTIVE g)).set FLT_BRACE_STATUS.LAST_CAUSE g cause).count
    FLT_BRACE_SW.V g 1).pend (0x400 + g)

/-- Neither feed of group g is good (R352). -/
def State.braceNone (s : State) (g : Nat) : State := (s.set FLT_BRACE_STATUS.LAST_CAUSE g 5).pend (0x418 + g)

/-- The feeds of group g differ by more than 25 mV and one of them has failed (R352, R354). -/
def State.feedDivergence (s : State) (g : Nat) (failed : Feed) (mv : Nat) : State :=
  if mv ≤ 25 ∨ s.feedGood g failed = false then s
  else
    let active := s.activeFeed g
    let s := (s.set FLT_BRACE_STATUS.LAST_DIFF_MV g (min mv 255)).feedSet g failed false
    let s := if s.feedGood g (otherFeed failed) = false then s.braceNone g
      else if active = failed then s.braceSwitch g 1
      else s.set FLT_BRACE_STATUS.LAST_CAUSE g 4
    s.braceReport failed [g]

/-- PG of a feed falls (R352): every group whose active feed it is switches, if its other feed is good. -/
def State.pgFall (s : State) (f : Feed) : State :=
  let hit := (upto 7).filter (fun g => s.feedGood g f)
  let s := s.each hit (fun g s =>
    let active := s.activeFeed g
    let s := s.feedSet g f false
    if s.feedGood g (otherFeed f) = false then s.braceNone g
    else if active = f then s.braceSwitch g 2 else s)
  s.braceReport f hit

/-- A feed has met R352 for 100 ms, within 25 mV of the active one (R355). -/
def State.feedRecovered (s : State) (g : Nat) (f : Feed) : State := s.feedSet g f true

/-- FLT_BRACE_CMD (R358): groups whose other feed is not good are refused. -/
def State.braceCmd (s : State) (w : Writer) (v : Nat) : State :=
  let off := reg_FLT_BRACE_CMD.base
  let grp := bits v 0 3
  if bits v 8 2 ≠ 1 then s.reject w 1 false off
  else
    let all := if grp = 7 then upto 7 else [grp]
    let bad := all.filter (fun g => !s.feedGood g (otherFeed (s.activeFeed g)))
    let s := s.each all (fun g s =>
      if s.feedGood g (otherFeed (s.activeFeed g)) then (s.braceSwitch g 3).logEvent 0x0060 (0x400 + g) (leBytes 1 g)
      else s.reject w 3 false off)
    s.set FLT_BRACE_CMD_STATUS.V 0 (if bad.isEmpty then 1 else 2)

/-! On-chip memories (R342 to R344, R350). -/

/-- The counter whose word lies at a BAR0 offset is zeroed and its wrap bit set (R343). -/
def State.counterLost (s : State) (off : Nat) : State :=
  match Sys2Proof.Machine.place false off with
  | some pl => match pl.counter with
    | some f => s.clearCount f (pl.reg.copy 0 pl.idx)
    | none => s
  | none => s

/-- A Gauge entry is disarmed; a schedule that uses it becomes invalid (R230, R343). -/
def State.gauLost (s : State) (i : Nat) : State :=
  let l := (s.ones GAU_SCH.VALID).filter (fun j => s.get GAU_SCH.DERIVE_ENTRY j == i)
  let s := s.set GAU_ENT.ENABLE i 0
  s.each l (fun j s => (s.set GAU_SCH.VALID j 0).schStop j)

/-- What the loss of an owner's word does (R343). -/
def State.ownerLost (s : State) (o : SramOwner) : State :=
  match o with
  | .duplicated => s.count FLT_CNT.DUP_CORR 0 1
  | .queueState r => s.fence r.val 2
  | .saEntry k => ((s.saDrop k.val).logKst 4 0 0 k.val).flow
  | .slot k => (s.slotKillLog k.val 3 true).2.flow
  | .saKey k => ((s.saDrop k.val).logKst 4 0 0 k.val).flow
  | .gaugeEntry i => s.gauLost i.val
  | .shadowBoth => s.lockdown 9
  | .shadowed => s
  | .cellPayload r => s.fence r.val 3
  | .reorderEntry r => s.fence r.val 4
  | .counter off => s.counterLost off
  | .chip => s.lockdown 9

/-- An uncorrectable word (R343): a BIST of its row starts. -/
def State.sramLost (s : State) (o : SramOwner) (mac row : Nat) : State :=
  let s := (s.count FLT_CNT.SRAM_UNCORR 0 1).logEvent 0x0041 0x00C (leBytes 4 mac ++ leBytes 2 row)
  ({ s with fl.rowTests := s.fl.rowTests ++ [(o, mac, row)] }.pend 0x00C).ownerLost o

/-- The structure a row belongs to needs it and no spare is left (R350). -/
def State.rowLost (s : State) (o : SramOwner) : State :=
  match o with
  | .queueState r => s.fence r.val 5
  | .reorderEntry r => s.fence r.val 5
  | .cellPayload _ => s
  | _ => s.lockdown 9

/-- A row gets a spare row of its macro (R350). -/
def State.rowSpared (s : State) (mac : Nat) : State :=
  { s.count FLT_CNT.ROW_SPARED 0 1 with fl.rowUsed := s.fl.rowUsed.set 0 mac (Tab.get 0 s.fl.rowUsed mac + 1) }

/-- No spare row remains (R350, R361): `cells` leave the free list of a cell-buffer row's slice. -/
def State.rowNoSpare (s : State) (o : SramOwner) (cells : Nat) : State :=
  let s := (s.count FLT_CNT.ROW_NOSPARE 0 1).pend 0x00D
  match o with
  | .cellPayload r => { s with fl.cellsLost := s.fl.cellsLost.set 0 r.val (min 65536 (Tab.get 0 s.fl.cellsLost r.val + cells)) }
  | o => s.rowLost o

/-- A row passes its BIST (R337, R343): it is kept, unless this is its fifth transient within 10 s. The rule does not say how
many cells a row holds: a free value where none is told. -/
def State.rowKept (s : State) (o : SramOwner) (mac row : Nat) : State :=
  let l := s.fl.rowTrans.filter (fun x => s.mono < x.2.2 + 10 * sec) ++ [(mac, row, s.mono)]
  let s := { s with fl.rowTrans := l }
  if (l.filter (fun x => x.1 == mac && x.2.1 == row)).length < 5 then s
  else if Tab.get 0 s.fl.rowUsed mac < 2 then s.rowSpared mac
  else
    let n := s.free
    n.2.rowNoSpare o n.1

/-- The BIST of a row ends (R343, R350): the oldest that runs for the owner. -/
def State.rowBist (s : State) (o : SramOwner) (res : RowResult) : State :=
  match s.fl.rowTests.find? (fun x => x.1 == o) with
  | none => s
  | some x =>
    let s := { s with fl.rowTests := s.fl.rowTests.erase x }
    match res with
    | .kept => s.rowKept o x.2.1 x.2.2
    | .spared => s.rowSpared x.2.1
    | .noSpareCells n => s.rowNoSpare o n
    | .noSpare =>
      let n := s.free
      n.2.rowNoSpare o n.1

/-- A crossbar transfer with an uncorrectable beat has been repeated (R11, R336): a third repeat is not made. -/
def State.xbar (s : State) (n : Nat) : State :=
  let s := s.count FLT_CNT.XBAR_REPEAT 0 (min n 2)
  if n ≤ 2 then s else s.lockdown 9

/-- The middle one of three numbers. -/
def median (a b c : Nat) : Nat := max (min a b) (min (max a b) c)

/-- The copies of the time counter are compared (R342, R344); `now` is what they hold when they agree. -/
def State.timeCopies (s : State) (a b c : Nat) : State :=
  if a = b ∧ b = c then s
  else if a = b ∨ b = c ∨ a = c then s.count FLT_CNT.TIME_VOTE 0 1
  else
    let s := { s with now := wrapTime (median a b c) }.holdoverLeave
    ((s.set TIM_STATUS.VALID 0 0).set TIM_STATUS.VALID_SRC 0 0).pend 0x00C

/-! LPDDR5X channels (R341). -/

/-- A data page that a frame's unit lies in is in channel c. -/
def State.inChan (s : State) (c : Nat) (units : List Nat) : Bool := units.any (fun u => s.chanOf (u / 16) == c)

/-- Give back a lost frame's units and its share of the queue's deep cells. -/
def State.deepGiveUp (s : State) (q : Nat) (units : List Nat) (n : Nat) : State :=
  let s := s.each units (fun u s => s.unitFree u)
  let db := s.get QUE_DQ.DB_CELLS q - n
  let s := s.set QUE_DQ.DB_CELLS q db
  (if db = 0 then s.set QUE_DQ.SPILLING q 0 else s).deepLoss q

/-- Frames with a unit in channel c are discarded as DB_INTEGRITY (R341, R307). -/
def State.chanFrames (s : State) (c : Nat) : State :=
  let s := s.each (s.pl.queues.map (·.1)) (fun q s =>
    let x := s.queue q
    let gone := x.deep.filter (fun d => s.inChan c d.units)
    if gone = [] then s
    else
      let s := s.setQueue q { x with deep := x.deep.filter (fun d => !s.inChan c d.units) }
      let s := s.each gone (fun d s => (s.deepGiveUp q d.units d.f.cells).smpEgress d.f 0 0 0 6)
      (s.set QUE_DQ.FRAMES q (s.get QUE_DQ.FRAMES q - gone.length)).checkEmpty q)
  s.each (upto 4) (fun r s =>
    let l := Tab.get [] s.fr.deepWr r
    let gone := l.filter (fun w => s.inChan c w.units)
    let s := { s with fr.deepWr := s.fr.deepWr.set [] r (l.filter (fun w => !s.inChan c w.units)) }
    s.each gone (fun w s =>
      let s := s.deepGiveUp w.a.f.queue w.units w.a.f.cells
      let s := match w.a.inj with
        | some (k, d) =>
          let v := s.free
          v.2.injDone k d (v.1 % 256) 0xFFFF
        | none => s
      s.smpEgress w.a.f 0 0 0 6))

/-- Pages of channel c leave use (R341): its data pages, and the 8 data pages of each of its tag pages. -/
def State.chanPages (s : State) (c : Nat) : State :=
  let l := (upto s.dataPages).filter (fun p => s.chanOf p == c || s.chanOf (s.dataPages + p / 8) == c)
  s.each l (fun p s => s.pageRetire p)

/-- The data region has changed (R298): its pages in fenced channels leave use, and DEEP_FLOOR follows (R44). -/
def State.layoutPages (s : State) : State :=
  (s.each ((upto 32).filter (fun c => s.get MEM_CH.STATE c == 4)) (fun c s => s.chanPages c)).floorCheck

/-- Channel c is fenced (R341, R311). -/
def State.chanFence (s : State) (c : Nat) : State :=
  if s.get MEM_CH.STATE c = 4 then s
  else
    let s := ((s.set MEM_CH.STATE c 4).pend (0x3A0 + c)).set GLB_DEGRADED_CAUSE.MEM_CHANNEL 0 1
    ((s.chanFrames c).chanPages c).pfc

/-- Channel c is to be retrained (R341). -/
def State.chanTrigger (s : State) (c : Nat) : State :=
  if s.get MEM_CH.STATE c = 2 then (s.set MEM_CH.STATE c 3).bump MEM_CH.RETRAINS c 1 else s

/-- The retraining ends (R338, R341): the identity must be unchanged. A fifth transient within 10 s is lasting (R337). -/
def State.chanTrained (s : State) (c : Nat) (i : ChanId) : State :=
  if s.get MEM_CH.STATE c ≠ 3 then s
  else
    let same := s.get MEM_CH.MR5 c == i.mr5.toNat && s.get MEM_CH.MR6 c == i.mr6.toNat && s.get MEM_CH.MR8 c == i.mr8.toNat
    let s := ((s.set MEM_CH.MR5 c i.mr5.toNat).set MEM_CH.MR6 c i.mr6.toNat).set MEM_CH.MR8 c i.mr8.toNat
    let l := recent s (10 * sec) (Tab.get [] s.fl.chanTrans c) ++ [s.mono]
    if i.ok && same && l.length < 5 then { s.set MEM_CH.STATE c 2 with fl.chanTrans := s.fl.chanTrans.set [] c l }
    else s.chanFence c

/-- A march test ends (R308, R341): more than 64 failures of a channel's pages in an hour fence it. -/
def State.marchEnd (s : State) (p l : Nat) (pass : Bool) : State :=
  match s.marchLine p l with
  | none => s
  | some x =>
    let c := s.chanOf p
    if s.get MEM_CH.STATE c = 3 then s else
    let s := s.marchDone p l x pass
    if pass then s
    else
      let at_ := recent s hour (Tab.get [] s.fl.chanAt c) ++ [s.mono]
      let s := { s with fl.chanAt := s.fl.chanAt.set [] c at_ }
      if 64 < at_.length then s.chanFence c else s

/-! Region restarts (R345 to R347). -/

/-- RESTARTING of region r. -/
def State.restarting (s : State) (r : Nat) : Bool := s.on FLT_RGN_INFO.RESTARTING r

/-- Clear a counter as a reset does (R436): a reset clears its wrap bit with it. -/
def State.resetCount (s : State) (f : Fld) (i : Nat) : State :=
  { s.set f i 0 with wraps := s.wraps.set 0 (f.key i) 0 }

/-- A region restart begins (R346 steps 0 and 1): the counters of the region's blocks are cleared (R54, R436). -/
def State.restartBegin (s : State) (r : Nat) : State :=
  let s := s.set FLT_RGN_INFO.RESTARTING r 1
  let lanes := (upto 16).map (fun i => 16 * r + i) ++ (upto 8).map (fun i => 64 + 8 * r + i)
  let s := s.each lanes (fun l s =>
    ((s.resetCount RGN_HLANE.PRBS_ERR l).resetCount RGN_HLANE.PRBS_SYM l).resetCount RGN_HLANE.LOCK_LOSSES l)
  let clear := fun (l : List (Nat × Fld)) (i : Nat) (s : State) => s.each l (fun x s => s.resetCount x.2 i)
  let s := s.each (hostPorts r) (fun h s => clear reg_RGN_HPCNT.fields h (clear reg_RGN_HPCLS.fields h s))
  let s := s.each (linePorts r) (fun k s => clear reg_RGN_HPCNT.fields (lpIdx k) (clear reg_RGN_LPIGR.fields k s))
  s.each [Dir.eg, Dir.ig] (fun d s => s.each (upto 9) (fun k s =>
    (s.resetCount RGN_PPE_MISMATCH.V (pairIdx r d k)).set RGN_PPE_STATUS.LAST_CAUSE (pairIdx r d k) 0))

/-- A fenced region restarts by itself once its hold has passed (R345). -/
def State.autoRestart (s : State) (r : Nat) : State :=
  if s.fenced r && !s.restarting r && s.on FLT_CFG.AUTO_RESTART 0 && !s.on FLT_RGN_INFO.AUTO_BLOCKED r &&
      decide (Tab.get 0 s.fl.restart r ≤ s.mono) then s.restartBegin r
  else s

/-- FLT_RGN_CMD (R360). -/
def State.rgnCmd (s : State) (w : Writer) (v : Nat) : State :=
  let off := reg_FLT_RGN_CMD.base
  let r := bits v 0 2
  if bits v 4 2 ≠ 1 then s.reject w 1 false off
  else if s.fenced r && !s.restarting r then s.restartBegin r
  else s.reject w 3 false off

/-- The pairs of a direction take the states that their KAT gives (R346): the first 8 that pass are in service, a ninth
stands by. -/
def State.pairsUp (s : State) (r : Nat) (d : Dir) (pass : List Bool) : State :=
  let good := (upto 9).filter (fun k => pass.getD k false)
  let s := s.each (upto 9) (fun k s =>
    let i := pairIdx r d k
    let s := { s with fr.pairTrans := s.fr.pairTrans.set [] i [] }.set RGN_PPE_STATUS.TRANS_10S i 0
    s.setPair r d k (if (good.take 8).contains k then 1 else if good.contains k then 0 else 3))
  s.setSpare r d ((good.take 8).contains 8)

/-- Number of pairs that pass. -/
def passing (pass : List Bool) : Nat := ((upto 9).filter (fun k => pass.getD k false)).length

/-- Some group of a region has lost a pair for good: it runs on 7, or did when the region was fenced. -/
def State.reducedRgn (s : State) (r : Nat) : Bool := s.working r .eg < 8 || s.working r .ig < 8

/-- REGION_FENCED and SLICE_REDUCED as the regions stand: a restart alone clears what its region adds to SLICE_REDUCED (R44,
R346). -/
def State.rgnCauses (s : State) : State :=
  (s.set GLB_DEGRADED_CAUSE.REGION_FENCED 0 (b2n ((upto 4).any (fun n => s.fenced n)))).set
    GLB_DEGRADED_CAUSE.SLICE_REDUCED 0 (b2n ((upto 4).any (fun n => s.reducedRgn n)))

/-- A restart fails (R346). -/
def State.restartFailed (s : State) (r : Nat) : State :=
  let s := (s.set FLT_RGN_INFO.LAST_CAUSE r 6).set FLT_RGN_INFO.RESTARTING r 0
  if s.on FLT_RGN_INFO.AUTO_BLOCKED r then s else (s.set FLT_RGN_INFO.AUTO_BLOCKED r 1).pend (8 + r)

/-- Line ports of a restarted region are calibrated again (R346 step 5): the latencies measured are free values. -/
def State.recalibrate (s : State) (r : Nat) : State :=
  s.each (linePorts r) (fun k s =>
    if s.on RGN_HPORT.LINK (lpIdx k) then
      let a := s.free
      let b := a.2.free
      b.2.calDone k a.1 b.1
    else s)

/-- A region restart ends (R346). -/
def State.restartEnd (s : State) (r rows : Nat) (rowsOk : Bool) (passE passI : List Bool) : State :=
  if s.restarting r = false then s
  else
    let s := s.count FLT_CNT.ROW_SPARED 0 rows
    if rowsOk = false then ((s.count FLT_CNT.ROW_NOSPARE 0 1).pend 0x00D).restartFailed r
    else
      let s := (s.pairsUp r .eg passE).pairsUp r .ig passI
      if passing passE < 7 ∨ passing passI < 7 then s.restartFailed r
      else
        let s := (s.recalibrate r).setRgn r (if s.reducedRgn r then 2 else 1)
        let s := ((s.set FLT_RGN_INFO.RESTARTING r 0).set FLT_RGN_INFO.AUTO_BLOCKED r 0).turn FLT_RGN_INFO.RESTARTS r 1
        s.rgnCauses.pend (4 + r)

end Sys2Proof.Machine
end

