-- ==== Sys2Proof/Machine/Jig.lean ====
section
/-!
DEFINITION. Machine/Jig.lean: the configuration image (R418 to R427): the checks that make a copy well-formed, its
records, tables, key records and overlays, the choice of a copy, staging (R432, R433) and the flash pass-through window
(R434, R435). Records are written in Machine/Boot.lean.
-/
namespace Sys2Proof.Machine

/-! Reading a copy. -/

/-- n octets from i are zero. -/
def zeros (o : List Octet) (i n : Nat) : Bool := (slice o i n).all (· == 0)

/-- Whether a record may address a byte offset of a window (R421, R425). -/
def recAddrOk (ovl bar2 : Bool) (off : Nat) : Bool :=
  if bar2 then !ovl && 0x200 ≤ off && off < 0x10000
  else !(0x50000 ≤ off && off < 0x80000) && !(0x800000 ≤ off && off < 0x1002000) &&
    !(ovl && (off < 0x40000 || (0xA0000 ≤ off && off < 0xB0000)))

/-- The record at an offset (R421): window and byte offset as one number (bit 31 the window), VALUE, MASK. -/
def recAt (o : List Octet) (i : Nat) : Nat × Nat × Nat := (u32 o i, u32 o (i + 4), u32 o (i + 8))

/-- Window and byte offset of a record's ADDR. -/
def recBar2 (addr : Nat) : Bool := bit addr 31
def recOff (addr : Nat) : Nat := bits addr 2 24 * 4

/-- A record meets R421, and R425 in an overlay. -/
def recOk (ovl : Bool) (r : Nat × Nat × Nat) : Bool :=
  bits r.1 0 2 == 0 && bits r.1 26 5 == 0 && recAddrOk ovl (recBar2 r.1) (recOff r.1)

/-- n records from an offset. -/
def recsAt (o : List Octet) (i n : Nat) : List (Nat × Nat × Nat) := (upto n).map (fun k => recAt o (i + 12 * k))

/-- A table of R423: window, entry base, stride, entry words, entries, commit word. -/
structure TblRow where
  bar2 : Bool
  base : Nat
  stride : Nat
  words : Nat
  count : Nat
  commit : Nat

/-- The tables by code (R423). -/
def tblRow (code : Nat) : Option TblRow :=
  match code with
  | 1 => some ⟨false, 0x200000, 0x40, 16, 8192, 0⟩
  | 2 => some ⟨false, 0x280000, 0x40, 16, 8192, 0⟩
  | 3 => some ⟨false, 0x300000, 0x80, 32, 4096, 0⟩
  | 4 => some ⟨false, 0x380000, 0x80, 32, 4096, 0⟩
  | 5 => some ⟨false, 0x500000, 0x20, 8, 8192, 0⟩
  | 6 => some ⟨false, 0x540000, 0x20, 8, 64, 0⟩
  | 7 => some ⟨false, 0x560000, 0x10, 4, 8192, 0⟩
  | 8 => some ⟨false, 0x48000, 0x20, 8, 1024, 0⟩
  | 9 => some ⟨false, 0x44000, 0x20, 8, 256, 0⟩
  | 10 => some ⟨true, 0x1000, 0x40, 16, 64, 8⟩
  | _ => none

/-- A number rounded up to a multiple of 16. -/
def up16 (n : Nat) : Nat := (n + 15) / 16 * 16

/-- The table blocks of a section (R423), or none where one breaks its layout; structural on the fuel. A block reads as
code, first index, count and its entries (one when REPEAT). -/
def blocksOf : Nat → List Octet → Option (List (Nat × Nat × Nat × List (List Nat)))
  | 0, o => if o.isEmpty then some [] else none
  | n + 1, o =>
    if o.isEmpty then some []
    else
      let words := u16 o 2
      let first := u32 o 4
      let count := u32 o 8
      let flags := (octetAt o 12).toNat
      match tblRow (u16 o 0) with
      | none => none
      | some t =>
        let ents := if flags = 1 then 1 else count
        let len := 16 + ents * words * 4
        if words = 0 ∨ t.words < words ∨ count = 0 ∨ t.count < first + count ∨ 1 < flags ∨ zeros o 13 3 = false ∨
            o.length < up16 len ∨ zeros o len (up16 len - len) = false then none
        else
          let entry (k : Nat) : List Nat := (upto words).map (fun w => u32 o (16 + (k * words + w) * 4))
          (blocksOf n (o.drop (up16 len))).map (fun r => (u16 o 0, first, count, (upto ents).map entry) :: r)

/-- A key record meets R424. -/
def keyRecOk (k : List Octet) : Bool :=
  let slot := (octetAt k 0).toNat
  let klen := (octetAt k 1).toNat
  (slot == 2 || 16 ≤ slot) && klen ≤ 1 && zeros k 2 2 && zeros k 12 4 && (klen == 1 || zeros k 40 16) && zeros k 56 8

/-- Overlays of a section (R425): mode code and records, or none where the section breaks its layout: each mode once, the
records of all overlays filling what follows the directory. -/
def overlaysOf (o : List Octet) : Option (List (Nat × List (Nat × Nat × Nat))) :=
  if o.isEmpty then some []
  else
    let dir : List (Nat × Nat × Nat) := (upto 5).map (fun i => ((octetAt o (8 * i)).toNat, u16 o (8 * i + 2), u32 o (8 * i + 4)))
    let modes := dir.map (·.1)
    let starts : List (Nat × Nat) := (dir.filter (fun d => d.2.1 != 0)).map (fun d => (d.2.2, d.2.2 + 12 * d.2.1))
    -- each run of records starts where the directory or another run ends
    let fills := starts.all (fun x => x.1 == 40 || starts.any (fun y => y.2 == x.1)) &&
      40 + (starts.map (fun x => x.2 - x.1)).sum == o.length && starts.all (fun x => (starts.filter (fun y => y.1 == x.1)).length == 1) &&
      starts.all (fun x => 40 ≤ x.1 && x.2 ≤ o.length)
    let l := dir.map (fun d => (d.1, recsAt o d.2.2 d.2.1))
    if [2, 3, 4, 5, 6].all (fun m => modes.contains m) && (upto 5).all (fun i => octetAt o (8 * i + 1) == 0) &&
        dir.all (fun d => d.2.1 ≤ 256) && fills && l.all (fun x => x.2.all (recOk true)) then some l
    else none

/-- The largest copy (R418). -/
def copyMax : Nat := 8388608

/-- Sections lie in order without overlap, each at a multiple of 16 behind the header, ending at or before SIG_OFF
(R420). -/
def sectsOk (at_ : Nat) (sig : Nat) : List (Nat × Nat) → Bool
  | [] => decide (at_ ≤ sig)
  | (off, len) :: l => if len = 0 then sectsOk at_ sig l
    else off % 16 == 0 && decide (at_ ≤ off) && sectsOk (off + len) sig l

/-- The header is as R419 gives it. -/
def headerOk (o : List Octet) : Bool :=
  o.take 4 == [0x4B#8, 0x51#8, 0x4A#8, 0x47#8] && u16 o 4 == 1 && u16 o 6 == 128 &&
  [2, 3, 4].contains (octetAt o 14).toNat && octetAt o 15 == 0 && u32 o 20 % 12 == 0 && u32 o 36 % 64 == 0 &&
  zeros o 60 68

/-- The image that a copy holds, or none where it is not well-formed (R419 to R425). -/
def imageOf (o : List Octet) (source : Nat) : Option Image :=
  let sig := u32 o 48
  let sects := [(u32 o 16, u32 o 20), (u32 o 24, u32 o 28), (u32 o 32, u32 o 36), (u32 o 40, u32 o 44)]
  if headerOk o && sectsOk 128 sig sects && 128 ≤ sig && sig + 196 ≤ copyMax && sig + 196 ≤ o.length &&
      zeros o (sig + 97) 3 then
    let base := recsAt o (u32 o 16) (u32 o 20 / 12)
    let keys := (upto (u32 o 36 / 64)).map (fun k => slice o (u32 o 32 + 64 * k) 64)
    let tbl := slice o (u32 o 24) (u32 o 28)
    match blocksOf (tbl.length / 16) tbl, overlaysOf (slice o (u32 o 40) (u32 o 44)) with
    | some t, some v =>
      if base.all (recOk false) && keys.all keyRecOk then
        some ⟨u32 o 8, u16 o 12, (octetAt o 14).toNat, base, t, keys, v, sha384 (o.take sig), source⟩
      else none
    | _, _ => none
  else none

/-! Choosing a copy (R426, R427). -/

/-- The minimum security version in force (R426). -/
def State.minSvn (s : State) : Nat :=
  if s.lc.fuses.lcs = 3 then
    match s.lc.fuses.owners.getLast? with
    | some e => e.svns.getLast?.getD 0
    | none => 0
  else 0

/-- The reference of the signer's key (R426). -/
def State.signerHash (s : State) : List Octet :=
  if s.lc.fuses.lcs = 3 then
    match s.lc.fuses.owners.getLast? with
    | some e => e.hash
    | none => []
  else beBytes 48 Config.vendorKeyHash.toNat

/-- The signature check of a copy (R426). -/
def State.signedOk (s : State) (o : List Octet) : Bool :=
  let sig := u32 o 48
  let key := slice o sig 97
  octetAt key 0 == 4#8 && sha384 key == s.signerHash &&
  ecdsaVerify (beNat (slice key 1 48), beNat (slice key 49 48)) (sha384 (o.take sig)) (slice o (sig + 100) 96)

/-- What R427 finds of one copy before its signature: a code 3 to 5, or a candidate. -/
def State.candidate (s : State) (c : FlashRead) (source : Nat) : Sum Nat Image :=
  match c with
  | .error => .inl 5
  | .octets o =>
    if u32 o 8 = 0xFFFFFFFF then .inl 4
    else match imageOf o source with
      | none => .inl 5
      | some i => if i.svn < s.minSvn then .inl 3 else .inr i

/-- The octets of a copy. -/
def readOctets : FlashRead → List Octet
  | .error => []
  | .octets o => o

/-- The running image's registers (R431). -/
def State.runImage (s : State) (i : Image) : State :=
  let s := { s with jg.image := some i }
  let s := (((s.set JIG_RUN_SEQ.V 0 i.seq).set JIG_RUN_SVN.SVN 0 i.svn).set JIG_RUN_SVN.AUTO_MODE 0 i.autoMode).set
    JIG_RUN_SVN.SOURCE 0 i.source
  s.putWords JIG_RUN_HASH.V 0 12 i.hash

/-! The PKE (R210, R211). -/

/-- A signature begins: slot 1 is derived again if it is EMPTY (R183), and its GEN is noted (R177). -/
def State.signStart (s : State) : State :=
  let s := if s.get KST_SLOT.STATE 1 = 0 then s.slotFixed 1 (beBytes 48 s.attestScalar) 2 1 else s
  { s.slotUse 1 with ch.pkeGen := s.get KST_SLOT.GEN 1 }

/-- The PKE takes the next waiting operation. -/
def State.pkeNext (s : State) : State :=
  if s.ch.pkeJob.isSome ∨ s.get PKE_STATUS.STATE 0 ≠ 0 then s
  else match s.ch.pkeQueue with
    | [] => s.set PKE_STATUS.BUSY_OP 0 0
    | r :: rest =>
      let op := match r with
        | .sign _ _ => 1
        | .verify _ => 2
      ({ s with ch.pkeQueue := rest, ch.pkeJob := some r }.set PKE_STATUS.BUSY_OP 0 op) |> fun s =>
        if op = 1 then s.signStart else s

/-- The PKE's operation ends. -/
def State.pkeFree (s : State) : State := { s with ch.pkeJob := none }.pkeNext

/-- The PKE is retired. -/
def State.pkeRetired (s : State) : Bool := s.get PKE_STATUS.STATE 0 == 2

/-! Staging (R432, R433). -/

/-- JIG_STG_CTL.GO (R432). -/
def State.stgGo (s : State) (p v : Nat) : State :=
  let st := s.get JIG_STG_STATUS.STATE 0
  let len := s.get JIG_STG_LEN.V 0
  if bit v 0 = false then s
  else if st = 1 ∨ st = 2 ∨ s.get GLB_BOOT_STATUS.CODE 0 ≠ 1 ∨ len = 0 ∨ copyMax < len then
    s.reject (.port p) 3 false reg_JIG_STG_CTL.base
  else
    let addr := (s.get JIG_STG_ADDR_LO.V 0 + s.get JIG_STG_ADDR_HI.V 0 * 2 ^ 32) / 64 * 64
    (({ s with jg.stgBuf := [], jg.stgJob := none }.set JIG_STG_STATUS.STATE 0 1).set JIG_STG_STATUS.PORT 0 p).set
      JIG_STG_STATUS.REASON 0 0 |>.emit (.dmaRead p addr len)

/-- A staging is rejected. -/
def State.stgReject (s : State) (why : Nat) : State :=
  ({ s with jg.stgBuf := [], jg.stgJob := none }.set JIG_STG_STATUS.STATE 0 4).set JIG_STG_STATUS.REASON 0 why

/-- The image has been fetched: its checks begin (R432). -/
def State.stgFetched (s : State) (data : FlashRead) : State :=
  if s.get JIG_STG_STATUS.STATE 0 ≠ 1 then s
  else match data with
    | .error => s.stgReject 7
    | .octets o =>
      let o := padTo (s.get JIG_STG_LEN.V 0) o
      let s := { s with jg.stgBuf := o }.set JIG_STG_STATUS.STATE 0 2
      match s.candidate (.octets o) 2 with
      | .inl c => { s with jg.stgJob := some c }
      | .inr _ =>
        if s.pkeRetired then { s with jg.stgJob := some 2 }
        else { s with ch.pkeQueue := s.ch.pkeQueue ++ [PkeReq.verify false] }.pkeNext

/-- The checks are complete: the image runs from step 7 on, or is rejected (R433). -/
def State.stgChecked (s : State) : State :=
  if s.get JIG_STG_STATUS.STATE 0 ≠ 2 then s
  else match s.jg.stgJob with
    | none => s
    | some c =>
      if c = 1 then
        match imageOf s.jg.stgBuf 2 with
        | some i =>
          let s := { s with jg.stgBuf := [], jg.stgJob := none }.runImage i
          let s := (s.set JIG_STG_STATUS.STATE 0 3).set GLB_BOOT_STATUS.CODE 0 0
          ((s.set GLB_BOOT_STATUS.SELECTED 0 1).set GLB_BOOT_STATUS.STAGED 0 1).set GLB_BOOT_STATUS.STAGE 0 6
        | none => s.stgReject 5
      else s.stgReject c

/-! The flash pass-through window (R434, R435). -/

/-- Modes that permit it. -/
def State.flashMode (s : State) : Bool := [mSTANDBY, mSECURE, mGUARDED, mDEGRADED, mFACTORY].contains s.mode

/-- The pass-through command v of port p goes to the flash (R434). -/
def State.flashStart (s : State) (p v : Nat) : State :=
  let wr := bit v 17
  let data := if wr then (s.wordsOf JIG_FL_DATA.V (64 * p) 64).take (bits v 8 9) else []
  { s with jg.flashWait := false }.emit (.flash (bits v 0 8) (s.get JIG_FL_ADDR.V p) (bits v 8 9) wr (bit v 18) data)

/-- A certificate read of the device is due or in progress (R188, R435). -/
def State.certReads (s : State) : Bool := [0, 1].any (fun p => Tab.get [] s.att.attSigned p != [])

/-- A write of JIG_FL_CMD: the command waits for a certificate read in progress (R435). -/
def State.flashCmd (s : State) (p v : Nat) : State :=
  if s.flashMode = false then s.reject (.port p) 3 false reg_JIG_FL_CMD.base
  else if 256 < bits v 8 9 then s.reject (.port p) 1 false reg_JIG_FL_CMD.base
  else if Tab.get 0 s.jg.flashJob p ≠ 0 then s
  else if Tab.get 0 s.jg.flashJob (1 - p) ≠ 0 then s.set JIG_FL_STATUS.V p 3
  else
    let s := { s.set JIG_FL_STATUS.V p 1 with jg.flashJob := s.jg.flashJob.set 0 p (v + 1) }
    if s.certReads then { s with jg.flashWait := true } else s.flashStart p v

/-- A write of JIG_FL_ADDR or of the data window: in the modes that permit the window (R434). -/
def State.flashWrite (s : State) (w : Writer) (r : Reg) (i k v off : Nat) : State :=
  if s.flashMode = false then s.reject w 3 false off else s.set (if r.rid = .JIG_FL_ADDR then JIG_FL_ADDR.V else JIG_FL_DATA.V) (i + k) v

/-- The device has no certificate to read any more: a command that waits goes to the flash (R435). -/
def State.flashNext (s : State) : State :=
  if s.jg.flashWait ∧ s.certReads = false then
    match [0, 1].find? (fun p => Tab.get 0 s.jg.flashJob p != 0) with
    | some p => s.flashStart p (Tab.get 0 s.jg.flashJob p - 1)
    | none => { s with jg.flashWait := false }
  else s

/-- A certificate read waits for the pass-through command in progress (R435). -/
def State.certWaits (s : State) : Bool := !s.jg.flashWait && [0, 1].any (fun p => Tab.get 0 s.jg.flashJob p != 0)

/-- A pass-through command ends: the octets read take their place in JIG_FL_DATA. -/
def State.flashDone (s : State) (p : Nat) (data : List Octet) : State :=
  match (if s.jg.flashWait then 0 else Tab.get 0 s.jg.flashJob p) with
  | 0 => s
  | n + 1 =>
    let len := bits n 8 9
    let s := { s with jg.flashJob := s.jg.flashJob.set 0 p 0 }.set JIG_FL_STATUS.V p 2
    if bit n 17 then s
    else
      let old := s.wordsOf JIG_FL_DATA.V (64 * p) 64
      s.putWords JIG_FL_DATA.V (64 * p) 64 (padTo len data ++ old.drop len)

end Sys2Proof.Machine
end

