-- ==== Sys2Proof/Machine/Attest.lean ====
section
/-!
DEFINITION. Machine/Attest.lean: attestation (R183 to R188) and the PKE's endings (R210): the attestation map in CBOR, the
signed report, the certificate check, faults and the KAT.
-/
namespace Sys2Proof.Machine

/-! CBOR, core deterministic encoding (RFC 8949, PRESUMED from the standard that R185 names). -/

/-- Head of a data item of a major type. -/
def cborHead (major n : Nat) : List Octet :=
  if n < 24 then beBytes 1 (major * 32 + n)
  else if n < 2 ^ 8 then beBytes 1 (major * 32 + 24) ++ beBytes 1 n
  else if n < 2 ^ 16 then beBytes 1 (major * 32 + 25) ++ beBytes 2 n
  else if n < 2 ^ 32 then beBytes 1 (major * 32 + 26) ++ beBytes 4 n
  else beBytes 1 (major * 32 + 27) ++ beBytes 8 n

def cUint (n : Nat) : List Octet := cborHead 0 n
def cBytes (o : List Octet) : List Octet := cborHead 2 o.length ++ o
def cText (o : List Octet) : List Octet := cborHead 3 o.length ++ o
def cArray (l : List (List Octet)) : List Octet := cborHead 4 l.length ++ l.flatten
def cBool (b : Bool) : List Octet := if b then [0xF5] else [0xF4]

/-- One entry of a map with unsigned keys. -/
def cEntry (k : Nat) (v : List Octet) : List Octet := cUint k ++ v

/-! The attestation map (R186, R187). -/

/-- Entries of one kind: indices whose state is not 0. -/
def cellKind (kind n : Nat) (st : Nat → Nat) : List (List Octet) :=
  ((upto n).filter (fun i => st i != 0)).map (fun i => cArray [cUint kind, cUint i, cUint (st i)])

/-- State of pipeline pair i = 18 r + 9 d + k: 1 retired, 2 the spare in service. -/
def State.pairCell (s : State) (i : Nat) : Nat :=
  let d : Dir := if i % 18 < 9 then .eg else .ig
  let k := i % 9
  let st := s.get RGN_PPE_STATUS.STATE (pairIdx (i / 18) d k)
  if st = 3 then 1 else if k = 8 ∧ st = 1 then 2 else 0

/-- Key 7 (R187). -/
def State.cells (s : State) : List (List Octet) :=
  cellKind 1 72 s.pairCell ++ cellKind 2 64 (fun i => s.get RGN_HLANE.FENCED i) ++
  cellKind 3 32 (fun i => s.get RGN_HLANE.FENCED (64 + i)) ++
  cellKind 4 32 (fun c => if s.get MEM_CH.STATE c = 4 then 1 else 0) ++
  cellKind 5 4 (fun r => if s.rgn r = 3 then 1 else 0)

/-- A module string with its trailing spaces removed (R332). -/
def trimmed (o : List Octet) : List Octet := (o.reverse.dropWhile (· == 0x20#8)).reverse

/-- Key 8: modules present whose identity has been read (R332). -/
def State.modules (s : State) : List (List Octet) :=
  ((upto 16).filter (fun k => s.on RGN_LPORT.MOD_PRESENT (32 + k) && s.on RGN_LMOD.VALID k)).map (fun k =>
    cArray [cUint k, cText (trimmed (leBytes 16 (s.get RGN_LMOD.VENDOR k))),
      cText (trimmed (leBytes 16 (s.get RGN_LMOD.PART k))), cText (trimmed (leBytes 16 (s.get RGN_LMOD.SERIAL k)))])

/-- The fuses other than the root secret, as octets. -/
def Fuses.octets (f : Fuses) : List Octet :=
  leBytes 1 f.lcs ++ leBytes 1 f.reown ++
    f.owners.flatMap (fun e => padTo 48 e.hash ++ leBytes 1 e.svns.length ++ e.svns.flatMap (fun v => leBytes 2 v)) ++
    padTo 48 f.certHash ++ leBytes 1 f.logEpoch

/-- The GLB_DEGRADED_CAUSE word. -/
def State.causeWord (s : State) : Nat := s.readFields reg_GLB_DEGRADED_CAUSE 0 0

/-- Keys 1 to 12 of the map for port p, captured now (R185, R186). -/
def State.attMap (s : State) (p : Nat) : List Octet :=
  let f := s.lc.fuses
  let img := match s.jg.image with
    | some i => (i.hash, i.seq, i.svn, i.source)
    | none => (s.wordsOf JIG_RUN_HASH.V 0 12, 0, 0, 0)
  cEntry 1 (cBytes devId) ++ cEntry 2 (cUint f.lcs) ++ cEntry 3 (cBool s.debug) ++
  cEntry 4 (cArray [cUint f.reown, cUint s.ownerEntry, cUint s.minSvn,
    cBytes (beBytes 48 (Config.fuseHash f.octets).toNat)]) ++
  cEntry 5 (cArray [cBytes img.1, cUint img.2.1, cUint img.2.2.1, cUint img.2.2.2]) ++
  cEntry 6 (cArray [cUint s.mode, cUint (s.get GLB_MODE.BASE 0), cUint s.causeWord]) ++
  cEntry 7 (cArray s.cells) ++ cEntry 8 (cArray s.modules) ++ cEntry 9 (cBool s.ke.bootDone) ++
  cEntry 10 (cArray [cUint (s.now / sec), cUint (s.now / ns % 1000000000), cBool (s.on TIM_STATUS.VALID 0),
    cBool (s.on TIM_STATUS.HOLDOVER 0)]) ++
  cEntry 11 (cArray [cUint (s.get CLM_LOG_NEWEST.V 0), cUint (s.get CLM_LOG_COUNT.COUNT 0)]) ++
  cEntry 12 (cBytes (s.wordsOf ATT_NONCE.V (8 * p) 8))

/-- The encoded protected header {1: -35} (R185). -/
def attProtected : List Octet := [0xA1, 0x01, 0x38, 0x22]

/-- The whole map: 13 entries, the last the report count (R186). -/
def State.attPayload (s : State) (map : List Octet) : List Octet :=
  cborHead 5 13 ++ map ++ cEntry 13 (cUint (s.att.attCount + 1))

/-- The report of a payload with a signature (R185). -/
def attReportOf (payload sig : List Octet) : List Octet :=
  cborHead 6 18 ++ cArray [cBytes attProtected, cborHead 5 1 ++ cEntry 4 (cBytes devId), cBytes payload, cBytes sig]

/-- What is signed: Sig_structure (R185). -/
def sigStructure (payload : List Octet) : List Octet :=
  cArray [cText (ascii "Signature1"), cBytes attProtected, cBytes [], cBytes payload]

/-! Requests. -/

/-- A report ends in an error, without a report (R184). -/
def State.attError (s : State) (p err : Nat) : State :=
  ((s.set ATT_STATUS.STATE p 3).set ATT_STATUS.ERR p err).set ATT_STATUS.LEN p 0

/-- ATT_CTL.GO (R183, R184): the windows empty, the map is captured, the request waits for the PKE. -/
def State.attGo (s : State) (p : Nat) : State :=
  if s.mode = mBOOT ∨ s.mode = 0 ∨ s.get ATT_STATUS.STATE p = 1 then s
  else
    let s := { s with att.attReport := s.att.attReport.set [] p [], att.attCert := s.att.attCert.set [] p [],
                      att.attSigned := s.att.attSigned.set [] p [] }
    let s := s.set ATT_CERT_LEN.V p 0
    if s.pkeRetired then s.attError p 3
    else
      let s := ((s.set ATT_STATUS.STATE p 1).set ATT_STATUS.ERR p 0).set ATT_STATUS.LEN p 0
      { s with ch.pkeQueue := s.ch.pkeQueue ++ [PkeReq.sign p (s.attMap p)] }.pkeNext

/-- Slot 1 has become unusable since the signature began (R177). -/
def State.signGone (s : State) : Bool :=
  s.get KST_SLOT.GEN 1 != s.ch.pkeGen || s.get KST_SLOT.STATE 1 == 0 || s.get KST_SLOT.STATE 1 == 2

/-- The PKE has signed (R185, R210): the nonce comes from the DRBG, drawn as FIPS 186-5 does with extra random bits. Before
the source's start-up test is over the operation waits (R220). A slot 1 erased since the start ends it with no report (R177),
under ERR 0x03 (log entry 80). -/
def State.pkeSigned (s : State) : State :=
  match s.ch.pkeJob with
  | some (.sign p map) =>
    if s.get RNG_STATUS.STATE 0 = rngNOTREADY then s
    else if s.signGone then (s.attError p 3).pkeFree
    else match s.draw 56 with
    | none => (s.attError p 1).pkeFree
    | some (c, s) =>
      let payload := s.attPayload map
      let k := beNat c % (p384N - 1) + 1
      let sig := ecdsaSign (beNat (Tab.get [] s.ke.slotKey 1)) k (sha384 (sigStructure payload))
      { s with att.attCount := s.att.attCount + 1,
               att.attSigned := s.att.attSigned.set [] p (attReportOf payload sig) }.pkeFree
  | _ => s

/-- The certificate has been read (R184, R188): the report is in its window, the certificate too if its hash is the fused
one; otherwise ERR reads 0x02 and STATE ERROR (log entry 42). -/
def State.attDone (s : State) (p : Nat) (cert : FlashRead) : State :=
  let r := Tab.get [] s.att.attSigned p
  if r.isEmpty ∨ s.certWaits then s
  else
    let o := readOctets cert
    let ok := !o.isEmpty && decide (o.length ≤ 8192) && sha384 o == s.lc.fuses.certHash
    let s := { s with att.attSigned := s.att.attSigned.set [] p [], att.attReport := s.att.attReport.set [] p r,
                      att.attCert := s.att.attCert.set [] p (if ok then o else []) }
    ((((s.set ATT_STATUS.STATE p (if ok then 2 else 3)).set ATT_STATUS.ERR p (if ok then 0 else 2)).set ATT_STATUS.LEN p r.length).set
      ATT_CERT_LEN.V p (if ok then o.length else 0)).flashNext

/-- A verification of the staged image ends (R426, R433). -/
def State.pkeVerified (s : State) : State :=
  match s.ch.pkeJob with
  | some (.verify _) =>
    (if s.get JIG_STG_STATUS.STATE 0 = 2 then { s with jg.stgJob := some (if s.signedOk s.jg.stgBuf then 1 else 2) } else s).pkeFree
  | _ => s

/-- The PKE is fenced for its KAT after a fault (R210). -/
def State.pkeFence (s : State) : State :=
  { ((s.count PKE_FAULTS.V 0 1).set PKE_STATUS.STATE 0 1).pend 0x3E5 with ch.pkeJob := none }.set PKE_STATUS.BUSY_OP 0 3

/-- A PKE fault (R210): nothing is released. A verification is made again once, one of an image copy at step 6 too; the engine is
fenced for its KAT. -/
def State.pkeFault (s : State) : State :=
  match s.ch.pkeJob with
  | none => if s.startsAt 5 ∧ s.get PKE_STATUS.STATE 0 = 0 then { s.pkeFence with ch.pkeBoot := s.ch.pkeBoot + 1 } else s
  | some j =>
    let s := s.pkeFence
    match j with
    | .sign p _ => s.attError p 3
    | .verify false => { s with ch.pkeQueue := PkeReq.verify true :: s.ch.pkeQueue }
    | .verify true => if s.get JIG_STG_STATUS.STATE 0 = 2 then { s with jg.stgJob := some 2 } else s

/-- The PKE is RETIRED (R210): what waits ends in a fault. -/
def State.pkeRetire (s : State) : State :=
  let l := s.ch.pkeQueue
  let s := (({ s with ch.pkeQueue := [] }.set PKE_STATUS.STATE 0 2).set PKE_STATUS.BUSY_OP 0 0).pend 0x3E6
  s.each l (fun j s => match j with
    | .sign p _ => s.attError p 3
    | .verify _ => if s.get JIG_STG_STATUS.STATE 0 = 2 then { s with jg.stgJob := some 2 } else s)

/-- The PKE's KAT ends (R202, R210). -/
def State.pkeKat (s : State) (pass : Bool) : State :=
  if s.get PKE_STATUS.STATE 0 ≠ 1 then s
  else
    let l := recent s (10 * sec) s.ch.pkeTrans
    if pass = false then s.pkeRetire
    else
      let s := { s with ch.pkeTrans := l ++ [s.mono] }
      if 4 ≤ l.length then s.pkeRetire else (s.set PKE_STATUS.STATE 0 0).pkeNext

/-! Image selection at start-up (R427). -/

/-- The verdict on a copy at step 6, and the PKE faults left for the next copy (R210): only a copy whose signature is good meets
a disagreement, the second one on it ends its verification, and a RETIRED engine accepts nothing (R202, log entry 79). -/
def State.copyVerify (s : State) (o : List Octet) (faults : Nat) : Bool × Nat :=
  if s.signedOk o then (!s.pkeRetired && decide (faults < 2), faults - 2) else (false, faults)

/-- COPY_A, COPY_B and SELECTED (R61). -/
def State.copies (s : State) (a b sel : Nat) : State :=
  ((s.set GLB_BOOT_STATUS.COPY_A 0 a).set GLB_BOOT_STATUS.COPY_B 0 b).set GLB_BOOT_STATUS.SELECTED 0 sel

/-- A copy is selected: step 6 ends (R427). -/
def State.copyRuns (s : State) (i : Image) : State := (s.runImage i).set GLB_BOOT_STATUS.STAGE 0 6

/-- The verification of two candidates, or of one (R427): copy `x` first, then copy `y` if there is a second. `put c d sel`
sets the codes of x and y. -/
def State.copyPick (s : State) (x : Image × List Octet) (y : Option (Image × List Octet)) (put : Nat → Nat → Nat → State) :
    State :=
  let r := s.copyVerify x.2 s.ch.pkeBoot
  if r.1 then (put 1 6 x.1.source).copyRuns x.1
  else match y with
    | none => (put 2 0 0).set GLB_BOOT_STATUS.CODE 0 1
    | some y =>
      if (s.copyVerify y.2 r.2).1 then (put 2 1 y.1.source).copyRuns y.1 else (put 2 2 0).set GLB_BOOT_STATUS.CODE 0 1

/-- Image selection at start-up step 6 (R427); while the PKE's KAT runs the verification waits. -/
def State.imageSelect (s : State) (a b : FlashRead) : State :=
  if s.startsAt 5 = false ∨ s.get PKE_STATUS.STATE 0 = 1 then s
  else match s.candidate a 0, s.candidate b 1 with
  | .inr ia, .inr ib =>
    if ia.seq < ib.seq then s.copyPick (ib, readOctets b) (some (ia, readOctets a)) (fun x y sel => s.copies y x sel)
    else s.copyPick (ia, readOctets a) (some (ib, readOctets b)) (fun x y sel => s.copies x y sel)
  | .inr ia, .inl y => s.copyPick (ia, readOctets a) none (fun x _ sel => s.copies x y sel)
  | .inl x, .inr ib => s.copyPick (ib, readOctets b) none (fun y _ sel => s.copies x y sel)
  | .inl x, .inl y => (s.copies x y 0).set GLB_BOOT_STATUS.CODE 0 1

end Sys2Proof.Machine
end

