-- ==== Sys2Proof/Machine/Manage.lean ====
section
/-!
DEFINITION. Machine/Manage.lean: the management ports: Officer sessions (R393 to R396), semaphores (R397 to R399), vectors,
messages, sleep and wake (R400 to R413), event inputs (R414), link states and port loss (R386, R388, R450).
-/
namespace Sys2Proof.Machine

/-! Officer sessions. -/

/-- The pause that a port's failed responses ask for (R395). -/
def State.backoff (s : State) (p : Nat) : Bool :=
  let f := s.get OFC_SESSION.FAILS p
  f ≠ 0 && Tab.get 0 s.ofc.lastFail p ≠ 0 && s.mono + 1 < Tab.get 0 s.ofc.lastFail p + min (2 ^ (f - 1)) 64 * sec

/-- OFC_CHAL_GO (R395). -/
def State.chalGo (s : State) (p v : Nat) : State :=
  if bit v 0 = false then s
  else if s.session p then s.reject (.port p) 3 true reg_OFC_CHAL_GO.base
  else if s.backoff p then s.set OFC_SESSION.LAST p 5
  else match s.draw 32 with
    | none => s.set OFC_SESSION.LAST p 6
    | some (o, s) =>
      let s := (s.putWords OFC_CHAL.V (8 * p) 8 o).set OFC_SESSION.STATE p 1
      { s with ofc.chal := s.ofc.chal.set none p (some ⟨o, s.mono⟩) }

/-- The challenge of port p is past its second (R395). -/
def State.chalOver (s : State) (p : Nat) : Bool :=
  match Tab.get none s.ofc.chal p with
  | some c => decide (c.drawn + sec ≤ s.mono)
  | none => true

/-- A challenge expires (R395): LAST keeps its value. -/
def State.chalExpire (s : State) (p : Nat) : State :=
  if (Tab.get none s.ofc.chal p).isSome && s.chalOver p then
    let s := { s.putWords OFC_CHAL.V (8 * p) 8 [] with ofc.chal := s.ofc.chal.set none p none }
    if s.get OFC_SESSION.STATE p = 1 then s.set OFC_SESSION.STATE p 0 else s
  else s

/-- The message of challenge X on port p (R394). -/
def chalMsg (p : Nat) (x : List Octet) : List Octet :=
  ascii "QX-OFC" ++ [0] ++ x ++ [BitVec.ofNat 8 p] ++ devId

/-- A check of port p waits or runs. -/
def State.checking (s : State) (p : Nat) : Bool :=
  s.ch.checks.any (fun c => c.port == p) || (match s.ch.chsJob with
    | some (.check c _ _) => c.port == p
    | _ => false)

/-- A write of OFC_RESP3 submits (R393, R395). -/
def State.respSubmit (s : State) (p v : Nat) : State :=
  if s.session p then s.reject (.port p) 3 true (reg_OFC_RESP.base + 12)
  else if s.checking p then s
  else
    let s := s.set OFC_RESP.V (4 * p + 3) v
    let resp := s.wordsOf OFC_RESP.V (4 * p) 4
    match Tab.get none s.ofc.chal p with
    | none => s.sessDecide p 4
    | some c =>
      if s.chalOver p then s.sessDecide p 4
      else if s.get KST_SLOT.STATE 2 ≠ 1 then s.sessDecide p 3
      else if s.get CHS_ENGINE.STATE 0 ≠ 0 then s.sessDecide p 6
      else
        let s := (s.putWords OFC_CHAL.V (8 * p) 8 []).set OFC_SESSION.STATE p 0
        { s with ofc.chal := s.ofc.chal.set none p none
                 ch.checks := s.ch.checks ++ [⟨p, resp, chalMsg p c.data, false⟩] }

/-- OFC_LOCK (R393, R396). -/
def State.sessLock (s : State) (p v : Nat) : State := if bit v 0 then s.sessClose p 7 else s

/-- 600 s without an Officer-world access (R396). -/
def State.sessionIdle (s : State) (p : Nat) : State :=
  if s.session p ∧ Tab.get 0 s.ofc.sessAt p + 600 * sec ≤ s.mono then s.sessClose p 8 else s

/-- Whole seconds since the session's last access (R393). -/
def State.idleSecs (s : State) (p : Nat) : Nat :=
  if s.session p then min ((s.mono - Tab.get 0 s.ofc.sessAt p) / sec) 0xFFFF else 0

/-- OFC_LOCKDOWN (R393, R45). -/
def State.ofcLockdown (s : State) (v : Nat) : State :=
  if bit v 0 ∧ bits v 16 16 = 0x10CD then s.lockdown 0x0A else s

/-! Semaphores. -/

/-- What port p reads of semaphore n (R397). -/
def State.semValue (s : State) (p n : Nat) : Nat :=
  let own := s.on GLB_SEM.OWNED n
  let o := s.get GLB_SEM.OWNER n
  b2n (own && o == p) + 2 * b2n own + 4 * (if own then o else 0)

/-- A read by port p takes a free semaphore (R398). -/
def State.semTake (s : State) (p n : Nat) : State :=
  if s.on GLB_SEM.OWNED n then s else (s.set GLB_SEM.OWNED n 1).set GLB_SEM.OWNER n p

/-- Both ports read the free semaphore n in one CCLK cycle (R398): the port that did not win the previous tie. -/
def State.semTie (s : State) (n : Nat) : State :=
  if s.on GLB_SEM.OWNED n then s
  else
    let w := if s.ofc.semLast = 1 then 1 else 0
    { s.semTake w n with ofc.semLast := w + 1 }

/-- Semaphore n is freed. -/
def State.semFree (s : State) (n : Nat) : State := (s.set GLB_SEM.OWNED n 0).set GLB_SEM.OWNER n 0

/-- A write of semaphore n by port p (R397, R398). -/
def State.semWrite (s : State) (p n v : Nat) : State :=
  if bit v 8 = false then s
  else if s.on GLB_SEM.OWNED n ∧ s.get GLB_SEM.OWNER n = p then s.semFree n
  else s.reject (.port p) 3 false (reg_GLB_SEM.offset n 0)

/-- Every semaphore of port p is freed with LOST (R399). -/
def State.semLost (s : State) (p : Nat) : State :=
  s.each (upto 32) (fun n s =>
    if s.on GLB_SEM.OWNED n ∧ s.get GLB_SEM.OWNER n = p then
      (s.semFree n).set GLB_SEM_LOST.V p (setBit (s.get GLB_SEM_LOST.V p) n)
    else s)

/-! Messages. -/

/-- The open delivery of a vector. -/
def State.delivery (s : State) (p v : Nat) : Option Delivery :=
  s.ic.deliveries.find? (fun d => d.port == p && d.vec == v)

/-- Change or remove the open delivery of a vector. -/
def State.setDelivery (s : State) (p v : Nat) (d : Option Delivery) : State :=
  let l := s.ic.deliveries.filterMap (fun x => if x.port == p && x.vec == v then d else some x)
  { s with ic.deliveries := l }

/-- The message is blocked by the table's Mask bit or the Function Mask (R407). -/
def State.msixBlocked (s : State) (p v : Nat) : Bool :=
  s.on MSIX_ENT.MASK (64 * p + v) || Tab.get false s.ic.funcMask p

/-- Bit v of a port's PBA. -/
def State.setPba (s : State) (p v : Nat) (on : Bool) : State :=
  let w := s.get MSIX_PBA.V p
  s.set MSIX_PBA.V p (if on then setBit w v else clearBit w v)

/-- Source i is announced on port p (R403); one that has failed over is announced on both (R412). -/
def State.announce (s : State) (p i : Nat) : State :=
  let both := s.overTo i p
  let s := s.set (annF p) i 1
  if both then s.set (annF (1 - p)) i 1 else s

/-- The message of (p, v) leaves (R403, R405). -/
def State.msixSend (s : State) (p v : Nat) (d : Delivery) : State :=
  let l := (d.srcs.filter (fun i => s.ic.icu.contains i)) ++ (s.waiting p v).filter (fun i => !d.srcs.contains i)
  let s := s.each l (fun i s => s.announce p i)
  let s := ((s.setDelivery p v none).setPba p v false).count ICU_PORT.MSGS p 1
  let s := { s with ic.vecTimer := s.ic.vecTimer.set 0 (64 * p + v) 0 }
  (s.emit (.msix p v (s.get MSIX_ENT.ADDR (64 * p + v)) (s.get MSIX_ENT.DATA (64 * p + v)))).touchAll

/-- A port can send a message: neither sleeping nor lost, mastering the bus with MSI-X enabled (R408, R410). -/
def State.msixOpen (s : State) (p : Nat) : Bool :=
  !s.vecHeld p && s.masters p && Tab.get false s.ic.msixEnable p

/-- MSIX_MESSAGE_SEND (R405, R407): a source that joined since and lies behind a read of R36 makes that read due first. -/
def State.msixMessage (s : State) (p v : Nat) : State :=
  match s.delivery p v with
  | none => s
  | some d =>
    let new := (s.waiting p v).filter (fun i => !d.srcs.contains i)
    if s.msixOpen p = false ∨ d.zlr ≠ none then s
    else match new.findSome? (s.ringPort p) with
      | some q => s.setDelivery p v (some { d with srcs := d.srcs ++ new, zlr := some q })
      | none => if s.msixBlocked p v then s.setPba p v true else s.msixSend p v d

/-- The zero-length read that a delivery waits for completes (R36). -/
def State.zeroReadDone (s : State) (p v : Nat) : State :=
  match s.delivery p v with
  | some d => match d.zlr with
    | some q =>
      if s.masters q then
        let new := (s.waiting p v).filter (fun i => !d.srcs.contains i)
        (s.emit (.zeroRead q)).setDelivery p v (some { d with srcs := d.srcs ++ new, zlr := none })
      else s
    | none => s
  | none => s

/-- Messages held in the PBA leave once nothing blocks them (R407). -/
def State.pbaSend (s : State) (p : Nat) : State :=
  s.each (upto 64) (fun v s =>
    if bit (s.get MSIX_PBA.V p) v && !s.msixBlocked p v && s.msixOpen p then
      match s.delivery p v with
      | some d => s.msixSend p v d
      | none => s.setPba p v false
    else s)

/-- The timer of a vector has run TIMER_US (R405). -/
def State.vecExpire (s : State) (p v : Nat) : State :=
  let t := Tab.get 0 s.ic.vecTimer (64 * p + v)
  if t ≠ 0 ∧ s.vecHeld p = false ∧ s.accum p v ≠ 0 ∧ t - 1 + s.get ICU_VEC.TIMER_US (64 * p + v) * us ≤ s.mono then
    s.deliver p v
  else s

/-- Write a word of ICU_SRCi (R402, R406, R407). -/
def State.srcWrite (s : State) (i v : Nat) : State × Bool :=
  let a := s.get ICU_SRC.VEC_MP0 i
  let b := s.get ICU_SRC.VEC_MP1 i
  let r := s.writeWord reg_ICU_SRC i 0 v
  (((r.1.touch 0 a).touch 1 b).touchSrc i, r.2)

/-! Sleep, wake, links. -/

/-- A port has no open delivery and no running timer. -/
def State.holdVectors (s : State) (p : Nat) : State :=
  { s with ic.deliveries := s.ic.deliveries.filter (fun d => d.port != p)
           ic.vecTimer := s.ic.vecTimer.filter (fun x => x.1 / 64 != p) }.set MSIX_PBA.V p 0

/-- Port p goes to sleep (R410). -/
def State.sleepOn (s : State) (p : Nat) : State :=
  if s.asleep p then s else ((s.set ICU_PORT.SLEEPING p 1).holdVectors p).touchAll

/-- Write word 0 of ICU_PORTp (R408 to R410, R412). -/
def State.portHint (s : State) (p v : Nat) : State :=
  let s := (s.writeWord reg_ICU_PORT p 0 v).1
  let s := if s.on ICU_PORT.SLEEP p then s.sleepOn p else s
  s.touchAll

/-- PORT_WAKE (R411, R413). -/
def State.portWake (s : State) (p : Nat) : State :=
  if s.ready p ∧ (s.asleep p ∨ s.isLost p) then
    let s := { s with ic.lost := s.ic.lost.set false p false }
    if s.on ICU_PORT.SLEEP p then s.touchAll else s.wake p
  else s

/-- Fields of banked registers that a port loss returns to reset (R450): field, entries of a copy, index of the first. -/
def bankedFields : List (Nat × Nat × Nat) :=
  (regTable.filter (fun r => r.banked && r.rid != .OFC_SESSION && r.rid != .MSIX_ENT && r.rid != .MSIX_PBA)).flatMap
    (fun r => r.fields.map (fun x => (x.2.id, r.count1 * r.count2, r.first)))

/-- An entry of the register store belongs to port p's copies (R450). -/
def portCopy (p : Nat) (key : Nat) : Bool :=
  bankedFields.any (fun b => b.1 == key % 2048 && b.2.2 + p * b.2.1 ≤ key / 2048 && key / 2048 < b.2.2 + (p + 1) * b.2.1)

/-- What the device's registers and windows lose at a loss of port p (R388, R450, R451). -/
def State.bankReset (s : State) (p : Nat) : State :=
  { s with
    regs := s.regs.filter (fun x => !portCopy p x.1)
    wraps := s.wraps.filter (fun x => !portCopy p x.1)
    ac.wide := s.ac.wide.filter (fun x => x.1 / 2 != p)
    ac.held := s.ac.held.filter (fun x => x.1 != p)
    ac.txqLatch := s.ac.txqLatch.filter (fun x => x.1 / 32 != p)
    ac.logLatch := s.ac.logLatch.filter (fun x => x.1 / 2 != p)
    ac.smpLatch := s.ac.smpLatch.filter (fun x => x.1 / 2 != p)
    tm.incrLow := s.tm.incrLow.filter (fun x => x.1 != p)
    lc.resumeLow := s.lc.resumeLow.filter (fun x => x.1 != p)
    att.attSigned := s.att.attSigned.set [] p []
    att.attReport := s.att.attReport.set [] p []
    att.attCert := s.att.attCert.set [] p []
    ch.chsRead := s.ch.chsRead.set [] p [] }

/-- Commands of port p that wait are dropped; the result of one that runs is lost (R388). -/
def State.dropCommands (s : State) (p : Nat) : State :=
  let s := { s with
    ch.chsQueue := s.ch.chsQueue.filter (fun r => r.port != p)
    ch.checks := s.ch.checks.filter (fun c => c.port != p)
    ch.rngQueue := s.ch.rngQueue.filter (fun x => x.1 != p)
    ch.pkeQueue := s.ch.pkeQueue.filter (fun r => match r with
      | .sign q _ => q != p
      | .verify _ => true)
    ke.kstQueue := s.ke.kstQueue.filter (fun r => r.port != p)
    jg.flashJob := s.jg.flashJob.set 0 p 0 }
  let s := match s.ch.chsJob with
    | some (.cmd r k a pl) => if r.port = p then { s with ch.chsJob := some (.cmd { r with lost := true } k a pl) } else s
    | some (.check c _ _) => if c.port = p then { s with ch.chsJob := none } else s
    | some .record => s
    | none => s
  match s.ch.pkeJob with
  | some (.sign q _) => if q = p then s.pkeFree else s
  | _ => s

/-- OFC_SESSION at a port loss (R450). -/
def State.sessLost (s : State) (p : Nat) : State :=
  let s := s.sessClose p 9
  let s := { s.putWords OFC_CHAL.V (8 * p) 8 [] with ofc.chal := s.ofc.chal.set none p none }
  s.set OFC_SESSION.STATE p 0

/-- Every per-vector Mask bit of a port is set, its bus mastering and MSI-X enable are off. -/
def State.configReset (s : State) (p : Nat) : State :=
  let s := { s with ic.busMaster := s.ic.busMaster.set false p false
                    ic.msixEnable := s.ic.msixEnable.set false p false
                    ic.funcMask := s.ic.funcMask.set false p false }
  (s.each (upto 64) (fun v s => s.set MSIX_ENT.MASK (64 * p + v) 1)).set ICU_PORT.LINK p 0

/-- A port loss (R388, R450). -/
def State.portLoss (s : State) (p : Nat) : State :=
  let s := (s.sessLost p).dropCommands p
  let s := s.each (upto 128) (fun k s => if s.get HQ_PUNT.PORT k = p then s.ringStop k else s)
  let s := if s.get JIG_STG_STATUS.STATE 0 = 1 ∧ s.get JIG_STG_STATUS.PORT 0 = p then s.stgReject 7 else s
  let s := { ((s.macClose p).bankReset p).semLost p with ch.chsWorld := s.ch.chsWorld.set 0 p (worldNum .operator) }
  let s := (s.configReset p).holdVectors p
  let s := { s with ic.lost := s.ic.lost.set false p true
                    ic.deliveries := s.ic.deliveries.map (fun (d : Delivery) => if d.zlr = some p then { d with zlr := none } else d) }
  (s.set ICU_PORT.SLEEPING p (s.get ICU_PORT.SLEEP p)).flashNext.touchAll

/-- A wake reset (R388): PERST after the L2/L3 Ready handshake. -/
def State.wakeReset (s : State) (p : Nat) : State := if s.get ICU_PORT.LINK p = 3 then s.configReset p else s

/-- The device's links can train (R463): step 2 is complete. -/
def State.linksTrain (s : State) : Bool := s.mode ≠ 0 && (s.mode ≠ mBOOT || decide (2 ≤ s.get GLB_BOOT_STATUS.STAGE 0))

/-- Bus mastering, MSI-X enable and Function Mask as configured; what they held up goes on (R388, R407). -/
def State.configure (s : State) (p : Nat) (bm me fm : Bool) : State :=
  let s := { s with ic.busMaster := s.ic.busMaster.set false p bm
                    ic.msixEnable := s.ic.msixEnable.set false p me
                    ic.funcMask := s.ic.funcMask.set false p fm }
  let s := s.each (upto 128) (fun k s => if s.get HQ_PUNT.PORT k = p then s.recsTry k else s)
  s.pbaSend p

/-- PCIE_LINK_STATE_CHANGE (R386, R388, R408 to R410): a link that goes down other than from L2/L3 Ready is a port loss. -/
def State.linkState (s : State) (p : Nat) (st : LinkState) (bm me fm : Bool) : State :=
  let old := s.get ICU_PORT.LINK p
  match st with
  | .down => if s.linkUp p then s.portLoss p else s
  | .l2l3 => if s.linkUp p then ((s.set ICU_PORT.LINK p 3).sleepOn p).touchAll else s
  | .l0 => if s.linksTrain then ((s.set ICU_PORT.LINK p 1).configure p bm me fm).touchAll else s
  | .l1 => if s.linksTrain ∧ old ≠ 0 then ((s.set ICU_PORT.LINK p 2).configure p bm me fm).touchAll else s

/-! Event inputs. -/

/-- A change of EVINi is accepted (R414). -/
def State.evin (s : State) (i : Nat) (level : Bool) : State :=
  let a := level != s.on ICU_EVIN.ACTIVE_LOW i
  if s.mode = 0 ∨ a = s.on ICU_EVIN.LEVEL i then s
  else
    let s := (s.set ICU_EVIN.LEVEL i (b2n a)).set ICU_EVIN.STAMP i (time96 (s.now - s.get ICU_EVIN.FILT i * 10 * ns))
    if bit (s.get ICU_EVIN.EDGE i) (if a then 0 else 1) then s.pend (0x440 + i) else s

end Sys2Proof.Machine
end

