-- ==== Sys2Proof/Machine/Counters.lean ====
section
/-!
DEFINITION. Machine/Counters.lean: counters by address, their wrap bits (R437), counter sweeps and the snapshot banks (R438
to R441).
-/
namespace Sys2Proof.Machine

/-- Low-word offsets of a row's counters in the families of a mask (R438). -/
def Reg.counters (r : Reg) (fam : Nat) : List Nat :=
  let fs := r.fields.filter (fun x => x.2.width == 64 && (match familyOf x.2 with
    | some f => bit fam f
    | none => false))
  if fs.isEmpty then []
  else (upto (r.count1 * r.count2)).flatMap (fun i => fs.map (fun x => r.offset i (x.1 / 32)))

/-- The counters of a sweep in ascending BAR0 address (R440). -/
def counterOffsets (fam : Nat) : List Nat :=
  ((regTable.filter (fun r => !r.bar2)).flatMap (fun r => r.counters fam)).mergeSort (fun a b => decide (a ≤ b))

/-- The counter whose low word lies at a BAR0 offset: its field and index. Of a banked counter, port p's copy. -/
def counterAt (p off : Nat) : Option (Fld × Nat) :=
  match place false off with
  | some pl => (pl.reg.fields.find? (fun x => x.1 / 32 == pl.word && x.2.width == 64 && (familyOf x.2).isSome)).map
      (fun x => (x.2, pl.reg.copy p pl.idx))
  | none => none

/-- The counter's block is neither in reset nor fenced (R441): regions and memory channels. -/
def State.counterLive (s : State) (off : Nat) : Bool :=
  if 0x100000 ≤ off ∧ off < 0x200000 then [1, 2].contains (s.rgn ((off - 0x100000) / 0x40000))
  else if 0xB0000 ≤ off ∧ off < 0xB0400 then
    s.get MEM_CH.STATE ((off - 0xB0000) / 0x20) != 0 && s.get MEM_CH.STATE ((off - 0xB0000) / 0x20) != 4
  else true

/-- Capture the counter at an offset, `cap` ns after START (R440, R441). -/
def State.capture (s : State) (p off cap : Nat) : Capture :=
  match counterAt p off with
  | some (f, i) =>
    let live := s.counterLive off
    ⟨if live then s.get f i else 0, off, Tab.get 0 s.wraps (f.key i) == 1, live, cap⟩
  | none => ⟨0, off, false, false, cap⟩

/-- The copy of banked counters that a sweep takes: the port's that wrote GO, otherwise MP0's. -/
def Sweep.port (w : Sweep) : Nat := if w.head.byGauge then 0 else w.head.source

/-- A sweep is triggered (R439, R440). -/
def State.sweepStart (s : State) (byGauge : Bool) (source families : Nat) : State :=
  match s.cn.sweep with
  | some _ => (s.bump CNT_STATUS.SKIPPED 0 1).pend 0x461
  | none =>
    let fam := if families = 0 then s.get CNT_CTL.DEF_MASK 0 else families
    let b := 1 - s.get CNT_STATUS.LAST_BANK 0
    let h : Bank := ⟨s.cn.sweeps % 2 ^ 32, false, byGauge, source, fam, 0, time96 s.now,
      s.on TIM_STATUS.HOLDOVER 0, false, []⟩
    { s.set CNT_STATUS.BUSY 0 1 with
      cn.sweep := some ⟨b, h, s.mono, 0, counterOffsets fam⟩, cn.sweeps := s.cn.sweeps + 1 }

/-- The collector reads the next counter once its 32 ns have come (R440). -/
def State.sweepTick (s : State) : State :=
  match s.cn.sweep with
  | some w => match w.todo with
    | o :: rest =>
      if w.mono + 32 * w.head.count * ns ≤ s.mono then
        let h := { w.head with entries := w.head.entries ++ [s.capture w.port o ((s.mono - w.mono) / ns)], count := w.head.count + 1 }
        { s with cn.sweep := some { w with head := h, todo := rest } }
      else s
    | [] => s
  | none => s

/-- A bank as it reads: while a sweep writes it, what is not yet overwritten stands behind the new entries. -/
def State.bank (s : State) (b : Nat) : Bank :=
  let old := Tab.get Bank.none s.cn.banks b
  match s.cn.sweep with
  | some w => if w.bank = b then
      { w.head with step := w.steps != 0, entries := w.head.entries ++ old.entries.drop w.head.count }
    else old
  | none => old

/-- The sweep ends (R440) once every counter is captured: the bank is complete. -/
def State.sweepDone (s : State) : State :=
  match s.cn.sweep with
  | some w =>
    if w.todo ≠ [] then s
    else
      let old := (Tab.get Bank.none s.cn.banks w.bank).entries
      let h := { w.head with entries := w.head.entries ++ old.drop w.head.count, complete := true, step := w.steps != 0 }
      let s := { s with cn.sweep := none, cn.banks := s.cn.banks.set Bank.none w.bank h }
      (((s.set CNT_STATUS.BUSY 0 0).set CNT_STATUS.LAST_BANK 0 w.bank).turn CNT_STATUS.SWEEPS 0 1).pend 0x460
  | none => s

/-- A bank's header as a number (R441). -/
def Bank.header (b : Bank) : Nat :=
  b.seq + b2n b.complete * 2 ^ 32 + b2n b.byGauge * 2 ^ 33 + b.source % 1024 * 2 ^ 34 + b.families * 2 ^ 48 +
  b.count % 2 ^ 32 * 2 ^ 64 + b.start * 2 ^ 96 + b2n b.holdover * 2 ^ 192 + b2n b.step * 2 ^ 193

/-- Entry k of a bank as a number (R441). -/
def Bank.entry (b : Bank) (k : Nat) : Nat :=
  match b.entries[k]? with
  | some c => c.value + c.off / 4 * 2 ^ 64 + b2n c.wrap * 2 ^ 88 + b2n c.valid * 2 ^ 89 + c.cap % 2 ^ 24 * 2 ^ 104
  | _ => 0

/-- The counter that CNT_WRAP_ADDR selects, as port p sees it (R437). -/
def State.wrapSel (s : State) (p : Nat) : Option (Fld × Nat) := counterAt p (4 * s.get CNT_WRAP_ADDR.A 0)

/-- CNT_WRAP_STAT (R437). -/
def State.wrapStat (s : State) (p : Nat) : Nat :=
  match s.wrapSel p with
  | some (f, i) => Tab.get 0 s.wraps (f.key i) + 2
  | none => 0

/-- A 1 written to WRAP clears the selected counter's bit (R437). -/
def State.wrapClear (s : State) (p v : Nat) : State :=
  match s.wrapSel p with
  | some (f, i) => if bit v 0 then { s with wraps := s.wraps.erase (f.key i) } else s
  | none => s

/-- CNT_WRAP_SUM (R437): the families with a wrap bit set. -/
def State.wrapSum (s : State) : Nat :=
  s.wraps.foldl (fun a x =>
    match counterFields.find? (fun c => c.1.id == x.1 % 2048) with
    | some c => setBit a c.2
    | none => a) 0

/-- The sampler starts new windows (R443). -/
def State.smpRestart (s : State) : State := { s with cn.smpPos := [], cn.smpPick := [], cn.smpLen := [], cn.smpWin := [] }

end Sys2Proof.Machine
end

