-- ==== Sys2Proof/Machine/Life.lean ====
section
/-!
DEFINITION. Machine/Life.lean: resets and what they preserve (R54, R55, R417), DORMANT (R381, R460), the life-cycle (R49 to
R53), debug (R157, R456), and the start-up steps that need no image (R60 to R62, R379).
-/
namespace Sys2Proof.Machine

/-! What a reset keeps. -/

/-- Entries of the register store whose fields are numbered below a bound. -/
def keptBelow (b : Nat) (t : Tab Nat) : Tab Nat := t.filter (fun x => x.1 % 2048 < b)

/-- The ICU configuration (R417). -/
def retention (t : Tab Nat) : Tab Nat :=
  t.filter (fun x => Fld.warmBound ≤ x.1 % 2048 && x.1 % 2048 < Fld.retainBound)

/-- Put entries into a table. -/
def putAll (l t : Tab Nat) : Tab Nat := l.foldl (fun t x => t.insert x.1 x.2) t

/-- Fields that tell what the supplies and sensors are, whatever reset comes (R352, R44). -/
def physical : List Fld := [FLT_BRACE_STATUS.ACTIVE, FLT_BRACE_STATUS.A_GOOD, FLT_BRACE_STATUS.B_GOOD,
  FLT_BRACE_STATUS.REDUNDANT]

/-- The fuses as the next reset finds them: with those of a life-cycle change that are blown (R49). -/
def State.burnt (s : State) : Fuses :=
  match s.lc.lcyJob with
  | some j => if j.blown then j.new else s.lc.fuses
  | none => s.lc.fuses

/-- The state after a cold reset with a newly initialised backup domain (R54, R379). -/
def State.coldNew (s : State) : State :=
  { State.reset with
    pending := s.pending, out := s.out, mono := s.mono, tape := s.tape
    lc.fuses := s.burnt, ch.seeds := s.ch.seeds, tm.rtcMono := s.mono, tm.rtcLost := s.tm.rtcLost }

/-- The state after a reset that keeps the backup domain (R54). -/
def State.coldKept (s : State) : State :=
  let r := { s.coldNew with
    regs := putAll ppeSpareReset (keptBelow Fld.backupBound s.regs)
    wraps := keptBelow Fld.backupBound s.wraps
    lc.rBoot := s.get GLB_TX_RESUME.V 0
    lc.resumeFresh := s.lc.resumeFresh
    ic.retained := s.ic.retained
    ke.kram := s.ke.kram
    tm.rtc := s.tm.rtc
    tm.rtcMono := s.tm.rtcMono }
  { r with
    cl.clmWin := s.cl.clmWin, cl.coalesce := s.cl.coalesce, cl.log := s.cl.log, cl.logSeq := s.cl.logSeq
    cl.logHeld := s.cl.logHeld, cl.heldSrcs := s.cl.heldSrcs, cl.backupNew := false, cl.dormAlarm := s.cl.dormAlarm
  } |>.set CLM_LOG_NEWEST.V 0 (s.get CLM_LOG_NEWEST.V 0) |>.set CLM_LOG_COUNT.COUNT 0 (s.get CLM_LOG_COUNT.COUNT 0)
    |>.set CLM_LOG_COUNT.NEWEST 0 (s.get CLM_LOG_COUNT.NEWEST 0)

/-- The state after a warm reset (R54): the time state and what lies outside the reset as well; semaphores are released
with LOST. The modules are left alone: a slot with one present reads RESET until it is read again (R330). -/
def State.warmKept (s : State) : State :=
  let r := { s.coldKept with
    regs := putAll ppeSpareReset (keptBelow Fld.warmBound s.regs)
    wraps := keptBelow Fld.warmBound s.wraps
    now := s.now
    tm := { s.tm with incrLow := [], txq := [], pulseEnd := [] }
    ke.bootDone := s.ke.bootDone
    att.attCount := s.att.attCount
    lc.coldDue := s.lc.coldDue
    lc.resetLow := s.lc.resetLow
    ln.modActive := s.ln.modActive }
  let r := { r with
    cl.trips := s.cl.trips, cl.braceAt := s.cl.braceAt, cl.armedOff := s.cl.armedOff, cl.eraseDue := s.cl.eraseDue
    cl.logOff := s.cl.logOff, cl.backupNew := s.cl.backupNew }
  let r := r.each [CLM_LOG_NEWEST.V, CLM_LOG_COUNT.COUNT, CLM_LOG_COUNT.NEWEST, CLM_STATUS.PREERASED, CLM_STATUS.REFOSC,
    GLB_DEGRADED_CAUSE.FEED_LOST, GLB_DEGRADED_CAUSE.THERMAL] (fun f r => r.set f 0 (s.get f 0))
  let r := r.each ((upto 16).filter (fun k => s.on RGN_LPORT.MOD_PRESENT (32 + k))) (fun k r =>
    (r.set RGN_LPORT.MOD_PRESENT (32 + k) 1).set RGN_LPORT.MOD_STATE (32 + k) 1)
  let r := r.each (upto 7) (fun g r => r.each physical (fun f r => r.set f g (s.get f g)))
  let r := r.each (upto 32) (fun n r =>
    if s.on GLB_SEM.OWNED n then
      r.set GLB_SEM_LOST.V (s.get GLB_SEM.OWNER n) (setBit (r.get GLB_SEM_LOST.V (s.get GLB_SEM.OWNER n)) n)
    else r)
  if s.on TIM_STATUS.VALID 0 then r.set TIM_STATUS.VALID_SRC 0 3 else r

/-- GLB_MODE as a word (R42). -/
def State.modeWord (s : State) : Nat :=
  s.mode + s.get GLB_MODE.BASE 0 * 16 + s.get GLB_MODE.IN_TRANSITION 0 * 256 + s.get GLB_MODE.PREV 0 * 4096 +
    s.get GLB_MODE.CAUSE 0 * 65536

/-- The event-log entry of a mode change (R377). -/
def State.logMode (s : State) : State := s.logEvent 0x0005 noSrc (leBytes 4 s.modeWord)

/-- MODE, BASE, PREV and CAUSE after a transition (R42), with its entry. -/
def State.setMode (s : State) (m base cause : Nat) : State :=
  ((((s.set GLB_MODE.PREV 0 s.mode).set GLB_MODE.MODE 0 m).set GLB_MODE.BASE 0 base).set GLB_MODE.CAUSE 0 cause).logMode

/-! Resets. -/

/-- A warm reset takes place (R45, R54, R56, R377, R417): PREV reads the mode it left. `detail` says what started it. -/
def State.warmNow (s : State) (detail : Nat) (late : Bool) : State :=
  let s := s.resumeStop
  let d := leBytes 1 detail
  let s := if late then s.logLate 0x0003 noSrc d else s.logEvent 0x0003 noSrc d
  let s := { s with ic.retained := retention s.regs }
  ({ s.warmKept with lc.bootAt := s.mono }.set GLB_MODE.PREV 0 s.mode).logMode.pinsFrom s

/-- A trigger of a warm reset (R45, R47): it waits for a transition in progress. In DORMANT nothing is there to reset. -/
def State.warmReset (s : State) (detail : Nat) (late : Bool) : State :=
  if s.mode = 0 then s
  else
    let s := s.yieldReq
    if s.md.trans ≠ none then { s with md.pendWarm := some (s.md.pendWarm.getD (detail, late)) }
    else s.warmNow detail late

/-- Loss of the core rail (R45, R377, R381, R417, R460). -/
def State.coreLoss (s : State) : State :=
  if s.mode = 0 then s
  else
    let s := s.logEvent 0x0004 noSrc (leBytes 4 (s.rtcNow % 2 ^ 32))
    let s := { s with ic.retained := retention s.regs }
    let r := if s.lc.coldDue && s.cl.backupNew then s.coldNew else s.coldKept
    { (r.set GLB_MODE.MODE 0 0).set GLB_MODE.PREV 0 s.mode with
      cl.dormNow := s.now, cl.dormMono := s.mono, cl.dormInvalid := !s.on TIM_STATUS.VALID 0
      cl.backupNew := s.cl.backupNew, cl.armedOff := s.cl.armedOff }

/-- Feeds of every group as bit masks (R45, R353). -/
def State.feedsAre (s : State) (a b : Nat) : State :=
  let s := s.each (upto 7) (fun g s =>
    let s := (s.set FLT_BRACE_STATUS.A_GOOD g (b2n (bit a g))).set FLT_BRACE_STATUS.B_GOOD g (b2n (bit b g))
    (s.set FLT_BRACE_STATUS.ACTIVE g (b2n (!bit a g))).set FLT_BRACE_STATUS.REDUNDANT g (b2n (bit a g && bit b g)))
  s.set GLB_DEGRADED_CAUSE.FEED_LOST 0 (b2n ((upto 7).any (fun g => !(bit a g && bit b g))))

/-- POWER_GOOD (R45, R54, R379): every rail has a feed good, out of DORMANT or just after power-on. -/
def State.powerGood (s : State) (a b : Nat) (kept low : Bool) : State :=
  if (s.mode = 0 ∨ (s.mode = mBOOT ∧ s.get GLB_BOOT_STATUS.STAGE 0 = 0)) ∧ (upto 7).all (fun g => bit a g || bit b g) then
    let new := !kept || s.cl.backupNew
    let r := if new then s.coldNew else s.coldKept
    let r := { r.feedsAre a b with lc.resetLow := low, lc.bootAt := s.mono }
    if new then r else (r.logEvent 0x0002 noSrc (leBytes 1 (b2n s.cl.dormAlarm))).logMode
  else s

/-- RESET_N (R54, R463). -/
def State.resetN (s : State) : State :=
  if s.mode = 0 then s else { s with lc.resetLow := true }.warmReset 1 false

def State.resetNOff (s : State) : State := { s with lc.resetLow := false }

/-- A write of OFC_RESET (R55). -/
def State.ofcReset (s : State) (v : Nat) : State :=
  if bit v 0 then s.warmReset 2 false
  else if bit v 1 then
    if s.on OFC_RESET.WARM_AT 0 then s
    else
      let secs := s.get OFC_RESET_TIME0.V 0 + s.get OFC_RESET_TIME1.V 0 * 2 ^ 32
      let at_ := (secs * 1000000000 + s.get OFC_RESET_TIME2.V 0) * ns
      { (s.set OFC_RESET.WARM_AT 0 1).set OFC_RESET.ARMED 0 1 with lc.warmAt := some at_, lc.warmLate := false }
  else s.warmDisarm

/-- The armed time has come on a valid clock, or a forward step has crossed it (R55, R142). -/
def State.warmAtDue (s : State) : State :=
  match s.lc.warmAt with
  | some t =>
    if s.on TIM_STATUS.VALID 0 ∧ (s.lc.warmLate ∨ t ≤ s.now) then
      { s.set OFC_RESET.ARMED 0 0 with lc.warmAt := none }.warmReset 3 s.lc.warmLate
    else s
  | none => s

/-! Life-cycle (R49 to R53). -/

/-- Fuses begin to be blown (R49). -/
def State.lcyBegin (s : State) (f : Fuses) : State := { s with lc.lcyJob := some ⟨f, false⟩ }.set LCY_STATUS.V 0 1

def State.lcyRefused (s : State) : State := s.set LCY_STATUS.V 0 3

/-- Octets of the operand (R52). -/
def State.lcyOperand (s : State) : List Octet := s.wordsOf LCY_OPERAND.V 0 13

/-- RAISE_MIN_SVN (R53). -/
def State.raiseSvn (s : State) : State :=
  let f := s.lc.fuses
  let v := leNat (slice s.lcyOperand 48 2)
  match f.owners.getLast? with
  | some e =>
    if f.lcs = 3 ∧ e.svns.length < 4 ∧ s.minSvn < v ∧ v ≤ s.get JIG_RUN_SVN.SVN 0 then
      let e := { e with svns := e.svns ++ [v] }
      let s := { s with lc.fuses := { f with owners := f.owners.dropLast ++ [e] } }
      (s.set LCY_STATUS.V 0 2).logEvent 0x0030 noSrc [3, 3]
    else s.lcyRefused
  | none => s.lcyRefused

/-- A write of LCY_CMD through an Officer session (R49, R52). `cert` is the vendor certificate hash to be fused. -/
def State.lcyCmd (s : State) (v : Nat) (cert : List Octet) : State :=
  let f := s.lc.fuses
  let o := s.lcyOperand
  if s.lc.lcyJob.isSome then s
  else if bits v 16 16 ≠ 0xA55A then s.lcyRefused
  else match bits v 0 4 with
    | 2 => if f.lcs = 1 ∧ s.debug = false then s.lcyBegin { f with lcs := 2, certHash := padTo 48 cert } else s.lcyRefused
    | 3 => if f.lcs = 2 ∧ f.owners.length < 17 then
        s.lcyBegin { f with lcs := 3, owners := f.owners ++ [⟨slice o 0 48, [leNat (slice o 48 2)]⟩] }
      else s.lcyRefused
    | 4 => if f.lcs = 3 ∧ f.reown < 16 then s.lcyBegin { f with lcs := 2, reown := f.reown + 1 } else s.lcyRefused
    | 5 => if f.lcs ≠ 0 then s.lcyBegin { f with lcs := 4 } else s.lcyRefused
    | 6 => s.raiseSvn
    | _ => s.lcyRefused

/-- ADV_FACTORY through JTAG (R49, R156). -/
def State.advFactory (s : State) (root : List Octet) : State :=
  if s.lc.fuses.lcs = 0 ∧ s.lc.lcyJob.isNone ∧ s.mode ≠ 0 ∧ 2 ≤ s.get GLB_BOOT_STATUS.STAGE 0 then
    s.lcyBegin { s.lc.fuses with lcs := 1, root := padTo 32 root }
  else s

/-- SCRAP through JTAG in FACTORY (R49). -/
def State.scrapJtag (s : State) : State :=
  if s.lc.fuses.lcs = 1 ∧ s.lc.lcyJob.isNone ∧ s.mode ≠ 0 then s.lcyBegin { s.lc.fuses with lcs := 4 } else s

/-- The fuses are blown (R50): every key is erased, both are recorded, and the warm reset follows, at which the change
takes effect (R49). -/
def State.lcyDone (s : State) : State :=
  match s.lc.lcyJob with
  | some j =>
    if j.blown then s
    else
      let s := ((s.zeroKeys.vnrZero).zeroChisel).logEvent 0x0031 noSrc []
      let s := { s with lc.lcyJob := some { j with blown := true } }
      ((s.logEvent 0x0030 noSrc [BitVec.ofNat 8 s.lc.fuses.lcs, BitVec.ofNat 8 j.new.lcs]).set LCY_STATUS.V 0 2).warmReset
        4 false
  | none => s

/-- A write of OFC_TX_RESUME's low word is held, of its high word takes both (R58). -/
def State.txResumeLo (s : State) (p v : Nat) : State := { s with lc.resumeLow := s.lc.resumeLow.set none p (some v) }

/-- The high word. The spec does not say whether this write ends the state of a newly initialised backup domain, in which
VALID's first rise writes ceil(now): the model takes the Officer's value for good (log entry 59). -/
def State.txResumeHi (s : State) (p v : Nat) : State :=
  match Tab.get none s.lc.resumeLow p with
  | some lo =>
    let x := lo + v * 2 ^ 32
    { s with lc.resumeLow := s.lc.resumeLow.set none p none, lc.rBoot := x, lc.resumeFresh := false }.set
      GLB_TX_RESUME.V 0 x |>.logKst 0x0E 0 0 0
  | none => s.reject (.port p) 3 true reg_OFC_TX_RESUME_HI.base

/-- The write of R56, every 1 ms. -/
def State.resumeTick (s : State) : State := if s.autActive then s.resumeWrite else s

/-! Debug (R157, R456). -/

/-- FACTORY mode is entered from BOOT (R45 guard 4, R157). While the STANDBY overlay that ends BOOT is being applied, the spec
does not say what ENTER does: the model ignores it (log entry 61). -/
def State.enterFactory (s : State) : State :=
  if s.mode = mBOOT ∧ s.md.trans = none ∧ (s.lc.fuses.lcs = 1 ∨ s.debug) then
    let kram := s.ke.kram
    let s := { (s.zeroKeys.vnrZero).zeroChisel with ke.kram := kram, lc.debugUnlocked := true }
    let s := s.rootSlots.setMode mFACTORY mFACTORY 0x0B
    match s.md.heldLock with
    | some c => { s with md.heldLock := none }.lockdown c
    | none => s
  else s

/-- DBG_CTL (R456). -/
def State.dbgCtl (s : State) (v : Nat) : State := if bit v 0 then s.enterFactory else s

/-- The JTAG debug-unlock challenge is passed (R157, R456). -/
def State.jtagUnlock (s : State) : State :=
  if s.mode = 0 then s
  else
    let s := { s with lc.jtagUnlocked := true }
    if s.mode = mBOOT ∧ s.get GLB_BOOT_STATUS.STAGE 0 < 3 then { s with lc.debugUnlocked := true } else s

/-! Start-up steps (R60, R61). -/

/-- Step 1 (R60, R417): the ICU configuration is restored. RESET_N low holds it (R463). -/
def State.crystal (s : State) : State :=
  if s.startsAt 0 && !s.lc.resetLow then { s with regs := putAll s.ic.retained s.regs }.stage 1 else s

/-- The entries that a newly initialised backup domain begins with, and those that waited behind them (R379). -/
def State.logBegin (s : State) : State :=
  let held := s.cl.logHeld
  let cut := (s.cl.coalesce.map (·.seq)).getD (s.cl.logSeq + 1)
  let fix (x : Nat × LogEntry) : Nat × LogEntry := (x.1, leBytes 8 (s.logSeqOf x.1) ++ x.2.drop 8)
  let e (n typ : Nat) (d : List Octet) := logOctets (s.logSeqOf n) s.logTime typ (s.logFlags false) 0 0 noSrc d
  let s := { s with cl.logHeld := (held.filter (fun (x : Nat × LogEntry) => cut < x.1)).map fix }
  let s := s.logStore 1 (e 1 0x0001 (leBytes 1 s.lc.fuses.logEpoch))
  let s := (s.logStore 2 (e 2 0x0002 [0])).logStore 3 (e 3 0x0005 (leBytes 4 0x11))
  s.each (held.filter (fun (x : Nat × LogEntry) => x.1 < cut)) (fun x s => s.logStore (fix x).1 (fix x).2)

/-- Step 2 (R60, R61, R379): fuses sensed; after a cold reset the LOG_EPOCH of a new backup domain is blown. -/
def State.fuseSense (s : State) (err : Bool) : State :=
  if s.startsAt 1 then
    let new := s.lc.coldDue && s.cl.backupNew
    let full := new && decide (255 ≤ s.lc.fuses.logEpoch)
    let cold := s.lc.coldDue
    let s := if full then { s with lc.coldDue := false, cl.logOff := true, cl.logHeld := [], cl.coalesce := none }
      else if new then
        { s with lc.coldDue := false, lc.fuses.logEpoch := s.lc.fuses.logEpoch + 1, cl.backupNew := false }.logBegin
      else { s with lc.coldDue := false }
    let s := if cold && s.cl.dormAlarm then ((s.set CLM_STATUS.DORMANT_ALARM 0 1).pendClamp 0x42C).clampErase else s
    let s := s.stage 2
    if err || full then s.bootLock 3
    else if s.lc.fuses.lcs = 4 then s.bootLock 5
    else if s.lc.fuses.lcs = 0 then s.set GLB_BOOT_STATUS.CODE 0 6
    else s
  else s

/-- Step 3 (R60, R160): the ROM self-test; slots 0, 1 and 3 are derived. A PKE that fails its KAT signs nothing afterwards
(R183): it reads RETIRED (log entry 79). -/
def State.romTest (s : State) (ok pke : Bool) : State :=
  if s.startsAt 2 then
    let s := s.stage 3
    let s := if pke then s else s.set PKE_STATUS.STATE 0 2
    if ok && pke then s.rootSlots else s.bootLock 2
  else s

/-- What an RNG start-up test or re-run means for start-up (R60, R61, R222). -/
def State.rngStage (s : State) : State :=
  if s.startsAt 3 then
    if s.get RNG_STATUS.STATE 0 = rngREADY then s.stage 4
    else if s.get RNG_STATUS.STATE 0 = rngFAILED then s.set GLB_BOOT_STATUS.CODE 0 4
    else s
  else s

/-- Veneer, whose draw of the epoch 0 keys has waited, resumes once the DRBG is instantiated (R222). -/
def State.vnrResume (s : State) : State :=
  if s.get RNG_STATUS.STATE 0 = rngREADY ∧ s.on VNR_CTL.EN 0 ∧ s.on VNR_STATUS.KEYS 0 = false ∧ s.get VNR_STATUS.STATE 0 = 4 then
    s.vnrStart
  else s

/-- The RNG start-up test ends (R220, R221): after step 3 of start-up, whatever mode that led to. -/
def State.rngStart (s : State) (fail : Option HealthFail) : State :=
  if s.get RNG_STATUS.STATE 0 = rngNOTREADY ∧ s.mode ≠ 0 ∧ 3 ≤ s.get GLB_BOOT_STATUS.STAGE 0 then
    (match s.testOutcome fail with
    | none => s.instantiate
    | some f => s.healthFail f).rngStage.vnrResume
  else s

/-- Step 5 (R60): SRAM initialised; the regions are ACTIVE, channel training begins, the modules leave their reset (R330). -/
def State.sramUp (s : State) : State :=
  if s.startsAt 4 then
    let s := s.each (upto 4) (fun r s => s.setRgn r 1)
    let s := { s with ln.modSince := (upto 16).foldl (fun t k => t.set 0 k s.mono) s.ln.modSince }
    (s.each (upto 32) (fun c s => s.set MEM_CH.STATE c 1)).stage 5
  else s

/-- Step 12 (R60); it follows steps 10 and 11. -/
def State.measured (s : State) : State :=
  let s := s.lanesStage
  if s.startsAt 11 then s.stage 0x0C else s

/-- Step 13 (R45, R59, R60): guards 2 and 3; the STANDBY overlay is applied. A part whose life-cycle is FACTORY holds
instead (R62). -/
def State.bootDone (s : State) : State :=
  if !s.startsAt 0x0C then s
  else if s.lc.fuses.lcs = 1 then s.set GLB_BOOT_STATUS.CODE 0 7
  else if s.jg.image.isSome && [2, 3].contains s.lc.fuses.lcs && s.hostLanesUp && s.lineLanesUp then
    s.begin ⟨mSTANDBY, mSTANDBY, 1, [2]⟩
  else s

end Sys2Proof.Machine
end

