-- ==== Sys2Proof/Machine/Bus.lean ====
section
/-!
DEFINITION. Machine/Bus.lean: reads and writes of the register map: the values that are read off the device rather than
stored, the holding registers and latches (R6, R135, R378, R444), what a read does, and what a write to each register
does. Management ports, Jig records and overlay records all write through `busWrite` (R422).
-/
namespace Sys2Proof.Machine

/-! Values that are not stored. -/

/-- An RCLK_OUT pin toggles (R314). -/
def State.rclkActive (s : State) (x : Nat) : Bool :=
  let lane := 64 + s.get GLB_RCLK_CFG.LANE x
  s.on GLB_RCLK_CFG.EN x &&
    (!s.on GLB_RCLK_CFG.SQUELCH x || (s.on RGN_HLANE.LOCKED lane && !s.on RGN_HLANE.FENCED lane))

/-- Cells of region r's egress pool in use, and cells on the free list (R283, R350). -/
def State.freeCells (s : State) (r : Nat) : Nat :=
  65536 - Tab.get 0 s.fl.cellsLost r - s.igrUsed r - s.poolUsed r - s.hqUsed r - s.waitCells r

/-- Fields of entry i of a row that are read off the device, as port p reads them; `idle` is IDLE_S of the port. -/
def State.derived (s : State) (p idle : Nat) (rid : RegId) (i : Nat) : List (Fld × Nat) :=
  match rid with
  | .GLB_SEM => [(GLB_SEM.GRANTED, s.semValue p i % 2)]
  | .GLB_RCLK_CFG => [(GLB_RCLK_CFG.ACTIVE, b2n (s.rclkActive i))]
  | .ICU_PEND => [(ICU_PEND.V, bitsOf 32 (fun b => s.ic.icu.contains (32 * i + b)))]
  | .ICU_PEND_SUM0 => [(ICU_PEND_SUM0.V, bitsOf 32 (fun w => s.ic.icu.any (fun n => n / 32 == w)))]
  | .ICU_PEND_SUM1 => [(ICU_PEND_SUM1.V, bitsOf 4 (fun w => s.ic.icu.any (fun n => n / 32 == 32 + w)))]
  | .ICU_SRC => [(ICU_SRC.PEND, b2n (s.ic.icu.contains i))]
  | .ICU_VEC => [(ICU_VEC.ACCUM, s.accum (i / 64) (i % 64)), (ICU_VEC.TIMING, b2n (Tab.get 0 s.ic.vecTimer i != 0)),
      (ICU_VEC.HELD, b2n (s.vecHeld (i / 64)))]
  | .ICU_PORT => [(ICU_PORT.READY, b2n (s.ready i))]
  | .JIG_MIN_SVN => [(JIG_MIN_SVN.V, s.minSvn)]
  | .CNT_WRAP_STAT => [(CNT_WRAP_STAT.WRAP, s.wrapStat p % 2), (CNT_WRAP_STAT.IS_COUNTER, s.wrapStat p / 2)]
  | .CNT_WRAP_SUM => [(CNT_WRAP_SUM.V, s.wrapSum)]
  | .MEM_FENCED => [(MEM_FENCED.V, bitsOf 32 (fun c => s.get MEM_CH.STATE c == 4))]
  | .OFC_SESSION => [(OFC_SESSION.IDLE_S, idle)]
  | .LCY_STATE => [(LCY_STATE.STATE, s.lc.fuses.lcs), (LCY_STATE.DEBUG, b2n s.debug),
      (LCY_STATE.REOWN_USED, s.lc.fuses.reown), (LCY_STATE.OWNER_ENTRY, s.ownerEntry)]
  | .DBG_STATUS => [(DBG_STATUS.DEBUG, b2n s.debug), (DBG_STATUS.UNLOCKED, b2n s.lc.jtagUnlocked)]
  | .CLM_STATUS => [(CLM_STATUS.LOCKED, s.get OFC_CLM_CTL.LOCK 0), (CLM_STATUS.OPEN, s.clmOpen)]
  | .CLM_WIN => [(CLM_WIN.V, s.clmCount i)]
  | .SCT_RX => [(SCT_RX.EFF_VALIDATE, s.effValidate i)]
  | .RGN_CELL_STATUS => [(RGN_CELL_STATUS.FREE, s.freeCells i), (RGN_CELL_STATUS.IGR_USED, s.igrUsed i),
      (RGN_CELL_STATUS.EGR_USED, s.poolUsed i), (RGN_CELL_STATUS.HQ_USED, s.hqUsed i)]
  | .RGN_PPE_STATUS | .RGN_PPI_STATUS =>
    [(RGN_PPE_STATUS.TRANS_10S, (recent s (10 * sec) (Tab.get [] s.fr.pairTrans i)).length)]
  | .RGN_HPORT | .RGN_LPORT => [(RGN_HPORT.TX_LF, s.txLf i)]
  | .QUE_SHP | .PLN_SHP_PORT | .PLN_SHP_GRD => [(QUE_SHP.LEVEL, s.levelRead i)]
  | .QUE_DQ => [(QUE_DQ.MAX_DEPTH, s.maxDepth i)]
  | .QUE_CQ => [(QUE_DQ.MAX_DEPTH, s.maxDepth i)]
  | .PLN_HPFC => [(PLN_HPFC.OCC, ((upto 8).map (fun k => min (s.occ i k) 0xFFFF * 2 ^ (16 * k))).sum)]
  | .PLN_POOL => [(PLN_POOL.USED, s.poolUsed i), (PLN_POOL.SHARED, s.poolShared i)]
  | .PLN_TXSA_ADV_SUM => [(PLN_TXSA_ADV_SUM.V, bitsOf 64 (fun b => s.txSum false (64 * i + b)))]
  | .PLN_TXSA_FLT_SUM => [(PLN_TXSA_FLT_SUM.V, bitsOf 64 (fun b => s.txSum true (64 * i + b)))]
  | .PLN_RXSA_ADV_SUM => [(PLN_RXSA_ADV_SUM.V, bitsOf 64 (fun b => s.rxSum false (64 * i + b)))]
  | .PLN_RXSA_FLT_SUM => [(PLN_RXSA_FLT_SUM.V, bitsOf 64 (fun b => s.rxSum true (64 * i + b)))]
  | .TIM_NOW => [(TIM_NOW.V, time96 s.now)]
  | .TIM_SLEW_REMAIN => [(TIM_SLEW_REMAIN.V, unsigned 32 (s.tm.slew.tdiv ns))]
  | .TIM_STATUS => [(TIM_STATUS.SLEWING, b2n (s.tm.slew.tdiv ns != 0))]
  | .TIM_HO_ERR => [(TIM_HO_ERR.V, s.hoErr)]
  | .TIM_RTC_SEC => [(TIM_RTC_SEC.V, s.rtcNow / 32768)]
  | .TIM_RTC_STATUS => [(TIM_RTC_STATUS.FRAC, s.rtcNow % 32768)]
  | .CHS_ENGINE | .CLC_ENGINE => [(CHS_ENGINE.TRANS_10S, (recent s (10 * sec) s.ch.chsTrans).length)]
  | .PKE_STATUS => [(PKE_STATUS.TRANS_10S, (recent s (10 * sec) s.ch.pkeTrans).length)]
  | .CAR_TX => [(CAR_TX.GAP_OCT, s.gapOct i)]
  | .GAU_SCH => [(GAU_SCH.STATE, s.schState i)]
  | .VNR_PAGE_FREE => [(VNR_PAGE_FREE.V, s.freePages)]
  | .FLT_RGN_INFO => [(FLT_RGN_INFO.FENCES_1H, min (recent s hour (Tab.get [] s.fl.fenceAt i)).length 15)]
  | .KST_KRAM_MAP => [(KST_KRAM_MAP.V, bitsOf 32 (fun j => decide (Tab.get [] s.ke.kram j ≠ [])))]
  | .KST_KRAM_ENT => [(KST_KRAM_ENT.SLOT, (octetAt (Tab.get [] s.ke.kram i) 40).toNat),
      (KST_KRAM_ENT.VALID, b2n (decide (Tab.get [] s.ke.kram i ≠ [])))]
  | .KST_DEVID => [(KST_DEVID.V, leNat (slice devId (4 * i) 4))]
  | _ => []

/-- KST_SA_INFO of SA key k (R169). -/
def State.saInfo (s : State) (k : Nat) : Nat :=
  if Tab.get [] s.ke.saKey k = [] then 0 else Tab.get 0 s.ke.saParent k - 1 + 256 + 512 * b2n (s.saOrphan k)

/-- The 128 bits of the entry at the head of a timestamp queue (R135), 0 while it is empty. -/
def State.txqHead (s : State) (k : Nat) : Nat :=
  match Tab.get [] s.tm.txq k with
  | e :: _ => 1 + 2 * b2n e.late + 4 * b2n e.holdover + e.ident % 65536 * 2 ^ 16 + e.time * 2 ^ 32
  | [] => 0

/-- A word of a port's Chisel context record as a world's block shows it (R189). -/
def State.ctxValue (s : State) (p : Nat) (w : World) (i : Nat) : Nat :=
  if s.chsVisible p w then s.get CHS_CTX.V (128 * p + i) else 0

/-- A word of the bootstrap's read-once output (R182, R208). -/
def State.bootWord (s : State) (i : Nat) : Nat :=
  if s.ke.bootRead.contains i then 0 else leNat (slice s.ke.bootOut (4 * i) 4)

/-- Entry i of a row that has no register fields, as one number. -/
def State.rawEntry (s : State) (p : Nat) (rid : RegId) (i : Nat) : Option Nat :=
  match rid with
  | .SNP_HDR => some (s.bank i).header
  | .SNP_ENT => some ((s.bank (i / 245756)).entry (i % 245756))
  | .SNP_SMP => some (Tab.get 0 s.cn.smpRing i)
  | .CLM_LOG => some (leNat (Tab.get [] s.cl.log i))
  | .TIM_TXQ => some (s.txqHead i)
  | .GAU_RING => some (Tab.get 0 s.ga.gauRing i)
  | .KST_SA_INFO => some (s.saInfo (2 * i) + s.saInfo (2 * i + 1) * 2 ^ 16)
  | .ATT_REPORT => some (leNat (slice (Tab.get [] s.att.attReport p) (4 * i) 4))
  | .ATT_CERT => some (leNat (slice (Tab.get [] s.att.attCert p) (4 * i) 4))
  | .CHS_DOUT => some (s.doutValue p .operator i)
  | .CLC_DOUT => some (s.doutValue p .officer i)
  | .CHS_CTX => some (s.ctxValue p .operator i)
  | .CLC_CTX => some (s.ctxValue p .officer i)
  | .GLB_OFC_BOOT_OUT => some (s.bootWord i)
  | _ => none

/-- Word w of a place, live and committed, as port p and a function read it. GLB_MODE_REQ shows the Observer RESULT and
GUARD only (R448). -/
def State.liveWord (s : State) (p fn idle : Nat) (pl : Place) (w : Nat) : Nat :=
  let r := pl.reg
  match s.rawEntry p r.rid pl.idx with
  | some v => bits v (32 * w) 32
  | none =>
    let i := r.copy p pl.idx
    let d := s.derived p idle r.rid i
    let v := (r.inWord w).foldl (fun a x =>
      if x.1.acc = .wo then a
      else a + bits (match d.find? (fun y => y.1.id == x.1.id) with
        | some y => y.2
        | none => s.get x.1 i) x.2.1 x.2.2.2 * 2 ^ x.2.2.1) 0
    if fn = 1 ∧ r.rid = .GLB_MODE_REQ then putBits v 11 3 0 else v

/-! Wide values (R6). -/

/-- Add the words a-b of a wide value to the values found so far, newest first: values that share a word are one. -/
def spanAdd (l : List (Nat × Nat)) (x : Nat × Nat) : List (Nat × Nat) :=
  match l with
  | (a, b) :: t => if x.1 ≤ b then (a, max b x.2) :: t else x :: (a, b) :: t
  | [] => [x]

/-- Words first-last of every value wider than 32 bits in an entry of a row (R6, R449). -/
def Reg.wides (r : Reg) : List (Nat × Nat) :=
  match r.rid with
  | .GAU_RING => [(0, 2)]
  | .SNP_HDR => [(3, 5)]
  | .SNP_ENT => [(0, 1)]
  | _ => (r.fields.filter (fun x => 32 < x.2.width)).foldl
      (fun l x => spanAdd l (x.1 / 32, (x.1 + x.2.width - 1) / 32)) []

/-- The wide value whose words include w. -/
def Reg.wideAt (r : Reg) (w : Nat) : Option (Nat × Nat) := r.wides.find? (fun x => x.1 ≤ w && w ≤ x.2)

/-- Key of a port and function. -/
def pfKey (p fn : Nat) : Nat := 2 * p + fn

/-- The holding register's word for a place, if it holds this value (R6). -/
def State.wideWord (s : State) (p fn : Nat) (pl : Place) : Option Nat :=
  match pl.reg.wideAt pl.word, Tab.get none s.ac.wide (pfKey p fn) with
  | some (a, _), some h =>
    if h.bar2 = pl.reg.bar2 ∧ h.off = pl.reg.offset pl.idx a ∧ a < pl.word then some (bits h.val (32 * (pl.word - a - 1)) 32)
    else none
  | _, _ => none

/-- The read of a wide value's low word latches its other words (R6). -/
def State.wideLatch (s : State) (p fn idle : Nat) (pl : Place) : State :=
  match pl.reg.wideAt pl.word with
  | some (a, b) =>
    if pl.word = a then
      let hi := ((upto (b - a)).map (fun k => s.liveWord p fn idle pl (a + 1 + k) * 2 ^ (32 * k))).sum
      { s with ac.wide := s.ac.wide.set none (pfKey p fn) (some ⟨pl.reg.bar2, pl.reg.offset pl.idx a, b - a, hi⟩) }
    else s
  | none => s

/-! Reads. -/

/-- A read of TIM_INCR: its writer sees the low word it holds (R120, R451). -/
def State.incrRead (s : State) (p fn word live : Nat) : Nat :=
  if fn = 0 ∧ word = 0 then (Tab.get none s.tm.incrLow p).getD live else live

/-- The word a read returns: the reader's held word (R451), the latch of the register's own kind (R135, R378, R444), the
holding register (R6), or the live word. -/
def State.wordRead (s : State) (p fn idle : Nat) (pl : Place) : Nat :=
  let live := s.liveWord p fn idle pl pl.word
  let ofEntry (l : Option (Nat × Nat)) : Nat := match l with
    | some (i, v) => if i = pl.idx ∧ pl.word ≠ 0 then bits v (32 * pl.word) 32 else live
    | none => live
  match pl.reg.rid with
  | .TIM_TXQ =>
    let l := Tab.get 0 s.ac.txqLatch (16 * pfKey p fn + pl.idx)
    if pl.word ≠ 0 ∧ l ≠ 0 then bits l (32 * pl.word) 32 else live
  | .CLM_LOG => ofEntry (Tab.get none s.ac.logLatch (pfKey p fn))
  | .SNP_SMP => ofEntry (Tab.get none s.ac.smpLatch (pfKey p fn))
  | .TIM_INCR => s.incrRead p fn pl.word ((s.wideWord p fn pl).getD live)
  | _ =>
    match (if fn = 0 then s.heldWord (.port p) pl else none) with
    | some v => v + (live - pl.reg.keeps pl.word live)
    | none => (s.wideWord p fn pl).getD live

/-- TIM_TXQk word 0 (R135): the head leaves the queue into the reader's latch. -/
def State.txqPop (s : State) (p fn k : Nat) : State :=
  let s := { s with ac.txqLatch := s.ac.txqLatch.set 0 (16 * pfKey p fn + k) (s.txqHead k) }
  match Tab.get [] s.tm.txq k with
  | _ :: r => { s with tm.txq := s.tm.txq.set [] k r }.set TIM_TXQ_STAT.COUNT k r.length
  | [] => s

/-- A second read of a read-once word counts (R208). -/
def State.reread (s : State) (p : Nat) : State :=
  let z := s.get CHS_REREAD.V p == 0
  let s := s.bump CHS_REREAD.V p 1
  if z then s.pend (0x3C4 + p) else s

/-- A read of a GLB_OFC_BOOT_OUT word (R182, R208). -/
def State.bootOutRead (s : State) (p i : Nat) : State :=
  if s.ke.bootOut = [] then s
  else if s.ke.bootRead.contains i then s.reread p
  else { s with ke.bootRead := insertNat i s.ke.bootRead }

/-- What a read does besides returning its word. -/
def State.readEffect (s : State) (p fn idle : Nat) (pl : Place) : State :=
  match pl.reg.rid with
  | .GLB_SEM => s.semTake p pl.idx
  | .GAU_RING_HEAD => { s with ga.gauMark := s.ga.gauCount }
  | .TIM_TXQ => if pl.word = 0 then s.txqPop p fn pl.idx else s
  | .CLM_LOG =>
    if pl.word = 0 then
      { s with ac.logLatch := s.ac.logLatch.set none (pfKey p fn) (some (pl.idx, leNat (Tab.get [] s.cl.log pl.idx))) }
    else s
  | .SNP_SMP =>
    if pl.word = 0 then
      { s with ac.smpLatch := s.ac.smpLatch.set none (pfKey p fn) (some (pl.idx, Tab.get 0 s.cn.smpRing pl.idx)) }
    else s
  | .CHS_DOUT => s.doutRead p .operator pl.idx
  | .CLC_DOUT => s.doutRead p .officer pl.idx
  | .GLB_OFC_BOOT_OUT => s.bootOutRead p pl.idx
  | _ => (s.wideLatch p fn idle pl).readClear pl.reg (pl.reg.copy p pl.idx) pl.word

/-- A permitted read of a register word: its word is read, then the read has its effect. A semaphore's word is the one
after the read (R397). -/
def State.placeRead (s : State) (p fn idle : Nat) (bar2 : Bool) (off : Nat) (pl : Place) : State :=
  let t := s.readEffect p fn idle pl
  t.emit (.readData p fn bar2 off (if pl.reg.rid = .GLB_SEM then t.wordRead p fn idle pl else s.wordRead p fn idle pl))

/-- A permitted read of a 32-bit word: reserved offsets read zero (R5), function 1 shows its aliases only (R448). -/
def State.busRead (s : State) (p fn idle : Nat) (bar2 : Bool) (off : Nat) : State :=
  match (if fn = 1 ∧ aliased off = false then none else Sys2Proof.Machine.place bar2 off) with
  | none => s.emit (.readData p fn bar2 off 0)
  | some pl => s.placeRead p fn idle bar2 off pl

/-- A read by port p through a function: one that the access rules forbid reads zero (R7, R391). IDLE_S is taken before
the access itself restarts it. -/
def State.readAt (s : State) (p fn : Nat) (bar2 : Bool) (off : Nat) : State :=
  if fn = 1 ∧ bar2 then s
  else
    let idle := s.idleSecs p
    s.access p fn bar2 false off (fun s => s.busRead p fn idle bar2 off) (fun s => s.emit (.readData p fn bar2 off 0))

/-- The same read of word k of entry i of a register. -/
def State.readReg (s : State) (p fn : Nat) (r : Reg) (i k : Nat) : State :=
  let off := r.offset i k
  if fn = 1 ∧ r.bar2 then s
  else
    let idle := s.idleSecs p
    s.access p fn r.bar2 false off
      (fun s => if fn = 1 ∧ aliased off = false then s.emit (.readData p fn r.bar2 off 0)
        else s.placeRead p fn idle r.bar2 off ⟨r, i, k⟩)
      (fun s => s.emit (.readData p fn r.bar2 off 0))

/-! Writes. -/

/-- The copy of a banked register that a writer reaches (R450); a record reaches MP0's. -/
def Writer.copy : Writer → Nat
  | .port p => p
  | _ => 0

/-- An action only a management port can start; a record or a firing that tries is refused. -/
def State.byPort (s : State) (w : Writer) (bar2 : Bool) (off : Nat) (g : Nat → State) : State :=
  match w with
  | .port p => g p
  | _ => s.reject w 3 bar2 off

/-- A write that acts by the access codes alone (R4, R9). One with several reserved encodings counts once: the spec does not say
(log entry 58). -/
def State.writePlain (s : State) (w : Writer) (r : Reg) (i word v off : Nat) : State :=
  let t := s.writeWord r i word v
  if t.2 || r.woReserved word v then t.1.reject w 1 r.bar2 off else t.1

/-- GLB_MODE_REQ.TARGET (R43). The spec names no SRC or CAUSE for a write that an image or overlay record makes: the model
reports those of the image's own request (log entry 60). -/
def State.modeReqWrite (s : State) (w : Writer) (v off : Nat) : State :=
  let t := bits v 0 4
  if t < 2 ∨ 4 < t then s.reject w 1 false off
  else match w with
    | .port p => s.modeRequest t p 2 (prioPort p)
    | _ => s.modeRequest t 3 4 prioAuto

/-- ICU_PENDw (R401): each 1 clears. -/
def State.pendClear (s : State) (w v : Nat) : State :=
  s.each ((upto 32).filter (bit v)) (fun b s => s.unpend (32 * w + b))

/-- A switch request for one transmit SC: one of an autonomous SC is refused (R77, R226). -/
def State.txSwitchOne (s : State) (w : Writer) (c off : Nat) : State :=
  if s.on SCT_TX.KEYING c then s.reject w 3 false off else s.switchReq c

/-- A switch request for a group (R77, R226). -/
def State.txSwitchGroup (s : State) (g : Nat) : State := s.each (s.txGroup g) (fun c s => s.switchReq c)

/-- PLN_TXSA_CMD (R79). -/
def State.txSwitchCmd (s : State) (w : Writer) (v off : Nat) : State :=
  if bits v 16 2 ≠ 1 then s.reject w 1 false off
  else if bit v 12 then s.txSwitchGroup (bits v 0 8) else s.txSwitchOne w (bits v 0 12) off

/-- ACTIVATE or RETIRE of a receive group (R105). -/
def State.rxActivateGroup (s : State) (g : Nat) : State := s.each (s.rxGroup g) (fun c s => s.rxActivateReq c)
def State.rxRetireGroup (s : State) (g : Nat) : State := s.each (s.rxGroup g) (fun c s => s.rxRetireReq c)

/-- PLN_RXSA_CMD (R105). -/
def State.rxSwitchCmd (s : State) (w : Writer) (v off : Nat) : State :=
  match bits v 16 2 with
  | 1 => if bit v 12 then s.rxActivateGroup (bits v 0 8) else s.rxActivateReq (bits v 0 12)
  | 2 => if bit v 12 then s.rxRetireGroup (bits v 0 8) else s.rxRetireReq (bits v 0 12)
  | _ => s.reject w 1 false off

/-- GAU_SCHED_CMD (R237). -/
def State.schedCmd (s : State) (w : Writer) (v off : Nat) : State :=
  if bits v 8 2 = 1 then s.passBegin (bits v 0 8) else s.reject w 1 false off

/-- Pages that the installed capacity leaves for data, in units of 8 (R297, R298): at most 458,752 units. -/
def State.layoutBound (s : State) : Nat :=
  if s.vn.capPages = 0 then 458752 else min 458752 ((s.vn.capPages - spareFrames) * 8 / 9 / 8)

/-- VNR_LAYOUT (R298). -/
def State.layoutWrite (s : State) (w : Writer) (word v off : Nat) : State :=
  if s.on VNR_CTL.EN 0 then s.reject w 2 false off
  else
    let n := s.writePlain w reg_VNR_LAYOUT 0 word v off
    (if word = 0 ∧ s.layoutBound < n.get VNR_LAYOUT.DATA_P8 0 then (n.set VNR_LAYOUT.DATA_P8 0 0).reject w 1 false off
    else n).layoutPages

/-- VNR_CTL (R299): a refused write of EN is ignored in full. -/
def State.vnrCtlWrite (s : State) (w : Writer) (v off : Nat) : State :=
  let en := bits v 0 1
  if en = s.get VNR_CTL.EN 0 ∨ s.mode = mSTANDBY ∨ (s.mode = mBOOT ∧ w = .jig) then
    (s.writePlain w reg_VNR_CTL 0 0 (putBits v 0 1 (s.get VNR_CTL.EN 0)) off).vnrEnable w en
  else s.vnrEnable w en

/-- A NS of 10^9 or more in TIM_STEP.VAL is a reserved encoding, reads 0 and is counted (R9, R119; log entry 57). -/
def State.stepNs (s : State) (w : Writer) (off : Nat) : State :=
  if time96Legal (s.get TIM_STEP.VAL 0) then s
  else (s.set TIM_STEP.VAL 0 (putBits (s.get TIM_STEP.VAL 0) 16 30 0)).reject w 1 false off

/-- TIM_STEP's control word (R9, R119, R122, R123). It acts on the operand as its three words stand. A reserved KIND 0
performs nothing and is counted. -/
def State.stepControl (s : State) (w : Writer) (v off : Nat) : State :=
  let s := s.stepNs w off
  let k := bits v 1 2
  let s := s.set TIM_STEP.KIND 0 k
  if k = 0 then (s.reject w 1 false off).disciplined
  else if bit v 0 then s.stepGo w k else s.disciplined

/-- TIM_STEP (R122, R124): operand words are stored, NS judged with its upper word; the control word acts. -/
def State.stepWrite (s : State) (w : Writer) (word v off : Nat) : State :=
  if word = 3 then s.stepControl w v off
  else
    let s := s.writePlain w reg_TIM_STEP 0 word v off
    (if word = 1 then s.stepNs w off else s).disciplined

/-- DBG_CTL (R456): ENTER outside BOOT is ignored and counted. -/
def State.dbgWrite (s : State) (w : Writer) (v off : Nat) : State :=
  if bit v 0 ∧ s.mode ≠ mBOOT then s.reject w 3 true off else s.dbgCtl v

/-- n free octets: values the spec leaves open (see log entry 3). -/
def State.freeOctets (s : State) : Nat → List Octet × State
  | 0 => ([], s)
  | n + 1 =>
    let a := s.free
    let b := a.2.freeOctets n
    (BitVec.ofNat 8 a.1 :: b.1, b.2)

/-- LCY_CMD (R52): ADV_PROVISIONED fuses the vendor certificate hash, which no operand gives (see log entry 3). -/
def State.lcyWrite (s : State) (v : Nat) : State :=
  if bits v 0 4 = 2 then
    let a := s.freeOctets 48
    a.2.lcyCmd v a.1
  else s.lcyCmd v []

/-- OFC_RESP words (R393): the last one submits. -/
def State.respWrite (s : State) (p i v : Nat) : State :=
  if i = 3 then s.respSubmit p v else s.set OFC_RESP.V (4 * p + i) v

/-- CNT_CTL (R439). -/
def State.cntCtl (s : State) (w : Writer) (v off : Nat) : State :=
  let n := s.writePlain w reg_CNT_CTL 0 0 v off
  if bit v 8 then n.sweepStart false w.copy 0 else n

/-- CNT_SMP_CTL (R443). -/
def State.smpCtl (s : State) (w : Writer) (v off : Nat) : State :=
  let n := s.writePlain w reg_CNT_SMP_CTL 0 0 v off
  if s.on CNT_SMP_CTL.EN 0 = false ∧ n.on CNT_SMP_CTL.EN 0 then n.smpRestart else n

/-- A word-0 write of a Gauge entry with its held words taken in (R140). -/
def State.gauWrite (n : State) (w : Writer) (i off : Nat) (bad : Bool) : State :=
  let t := n.gauCommit i
  if bad || t.2 then t.1.reject w 1 false off else t.1

/-- A committed entry that acts by the access codes alone. -/
def State.plainCommit (n : State) (w : Writer) (bar2 : Bool) (off : Nat) (bad : Bool) : State :=
  if bad then n.reject w 1 bar2 off else n

/-- The write of an array's commit word (R451): the writer's held words of the entry take effect with it. Reserved encodings in
them count with it, once, under its offset: the spec does not say (log entry 58). -/
def State.commitWrite (s : State) (w : Writer) (pl : Place) (v off : Nat) : State :=
  let r := pl.reg
  let i := r.copy w.copy pl.idx
  let a := s.commitHeld w pl i
  let b := a.1.writeWord r i pl.word v
  let bad := a.2 || b.2
  let s0 := { s with ac := a.1.ac }
  match r.rid with
  | .OFC_CLM_CLASS => s0.clmCommit b.1 w i off bad
  | .QUE_SHP | .PLN_SHP_PORT | .PLN_SHP_GRD =>
    s0.shpWrite w i v (s.heldWord w { pl with word := 1 }) (s.heldWord w { pl with word := 2 }) off
  | .GAU_SCH => s0.schCommit b.1 w i bad
  | .GAU_ENT => b.1.gauWrite w i off bad
  | .CAR_TX => s0.carTxCommit b.1 w i v off bad
  | _ => b.1.plainCommit w r.bar2 off bad

/-- A write to a word of an array with a commit word. Words with no RW field hold nothing. -/
def State.arrayWrite (s : State) (w : Writer) (pl : Place) (c v off : Nat) : State :=
  if pl.reg.rid = .GAU_ENT ∧ s.gauLocked pl.idx then s.reject w 3 false off
  else if pl.word = c then s.commitWrite w pl v off
  else if (pl.reg.inWord pl.word).any (fun x => x.1.acc = .rw) then s.hold w pl v off
  else s

/-- What a write of a word to a register or an entry without a commit word does. -/
def State.regWrite (s : State) (w : Writer) (pl : Place) (v off : Nat) : State :=
  let r := pl.reg
  let k := pl.word
  let i := r.copy w.copy pl.idx
  match r.rid with
  | .GLB_MODE_REQ => s.modeReqWrite w v off
  | .GLB_SEM => if bit v 8 then s.byPort w false off (fun p => s.semWrite p i v) else s
  | .GLB_OFC_BOOT_KEY => { s with ke.bootKey := s.ke.bootKey.set 0 i v }
  | .GLB_OFC_BOOT_GO => s.bootGo w v
  | .ICU_PEND => s.pendClear i v
  | .ICU_SRC => let t := s.srcWrite i v; if t.2 then t.1.reject w 1 false off else t.1
  | .ICU_VEC => (s.writePlain w r i k v off).touch (i / 64) (i % 64)
  | .ICU_PORT => if k = 0 then s.portHint i v else s
  | .JIG_STG_CTL => if bit v 0 then s.byPort w false off (fun p => s.stgGo p v) else s
  | .JIG_FL_ADDR | .JIG_FL_DATA => s.flashWrite w r i k v off
  | .JIG_FL_CMD => s.byPort w false off (fun p => s.flashCmd p v)
  | .CNT_CTL => s.cntCtl w v off
  | .CNT_WRAP_STAT => s.wrapClear w.copy v
  | .CNT_SMP_CTL => s.smpCtl w v off
  | .MSIX_ENT => (s.writePlain w r i k v off).pbaSend (i / 64)
  | .OFC_LOCK => s.byPort w true off (fun p => s.sessLock p v)
  | .OFC_CHAL_GO => s.byPort w true off (fun p => s.chalGo p v)
  | .OFC_LOCKDOWN => s.ofcLockdown v
  | .OFC_RESP => s.byPort w true off (fun p => s.respWrite p pl.idx v)
  | .OFC_RESET => s.ofcReset v
  | .OFC_TX_RESUME_LO => s.byPort w true off (fun p => s.txResumeLo p v)
  | .OFC_TX_RESUME_HI => s.byPort w true off (fun p => s.txResumeHi p v)
  | .OFC_CLM_CTL => s.clmCtl w v
  | .LCY_CMD => s.lcyWrite v
  | .DBG_CTL => s.dbgWrite w v off
  | .SCT_TX => s.txScPut w i k v
  | .SCT_RX => s.rxScPut w i k v
  | .SAT_TX => s.txSaWrite w i k v
  | .SAT_RX => s.rxSaWrite w i k v
  | .RGN_IGR_POOL => (s.writePlain w r i k v off).pfc
  | .RGN_HPORT | .RGN_LPORT => s.portWrite w r i k v off
  | .RGN_HLANE | .RGN_LLANE => s.laneWrite w r i k v off
  | .RGN_MODACC => s.modacc i v
  | .QUE_DQ | .QUE_CQ => s.queueWrite w i k v off
  | .PLN_HPFC => s.pfcWrite w i k v off
  | .PLN_POOL => s.poolWrite w i k v off
  | .PLN_TXSA_CMD => s.txSwitchCmd w v off
  | .PLN_RXSA_CMD => s.rxSwitchCmd w v off
  | .TIM_INCR => if k = 0 then s.incrLo w v else s.incrHi w v
  | .TIM_SLEW => s.slewWrite w v
  | .TIM_STEP => s.stepWrite w k v off
  | .TIM_HO => (s.writePlain w r i k v off).hoLimit.skewCheck
  | .TIM_PULSE_CFG => (s.writePlain w r i k v off).pinsFrom s
  | .TIM_KEEP => s.disciplined
  | .GAU_SCHED_CMD => s.schedCmd w v off
  | .CHS_CMD => s.byPort w false off (fun p => s.chsCmd p .operator v)
  | .CLC_CMD => s.byPort w true off (fun p => s.chsCmd p .officer v)
  | .CHS_KEY | .CLC_KEY => s.set CHS_KEY.V i v
  | .CHS_DIN | .CLC_DIN => s.set CHS_DIN.V i v
  | .CHS_CTX => { s.set CHS_CTX.V i v with ch.chsWorld := s.ch.chsWorld.set 0 w.copy 0 }
  | .CLC_CTX => { s.set CHS_CTX.V i v with ch.chsWorld := s.ch.chsWorld.set 0 w.copy 1 }
  | .RNG_CTL => s.rngCtl w v
  | .RNG_REQ => s.byPort w false off (fun p => s.rngRequest p (bits v 0 10))
  | .CAR_RX => s.carRxWrite w i k v off
  | .VNR_CTL => s.vnrCtlWrite w v off
  | .VNR_LAYOUT => s.layoutWrite w k v off
  | .HQ_PUNT | .HQ_INJ => s.ringWrite w i k v
  | .HQ_CTL => if bit v 0 then s.puntDrop i else s
  | .FLT_RGN_CMD => s.rgnCmd w v
  | .FLT_LANE_CMD => s.laneRetest w v
  | .FLT_BRACE_CMD => s.braceCmd w v
  | .KST_CMD => s.byPort w true off (fun p => s.kstCmd p v)
  | .KST_SLOT => s.slotWrite w i k v
  | .ATT_CTL => if bit v 0 then s.byPort w true off (fun p => s.attGo p) else s
  | _ => s.writePlain w r i k v off

/-- A write of a 32-bit word at an offset of a window: reserved offsets ignore it (R5). -/
def State.busWrite (s : State) (w : Writer) (bar2 : Bool) (off v : Nat) : State :=
  match Sys2Proof.Machine.place bar2 off with
  | none => s
  | some pl => match pl.reg.commit with
    | some c => s.arrayWrite w pl c v off
    | none => s.regWrite w pl v off

/-- A write by port p through a function, with its byte enables: a partial one is ignored and counted (R387); function 1
takes no write (R448). -/
def State.writeAt (s : State) (p fn : Nat) (bar2 : Bool) (off v be : Nat) : State :=
  if fn = 1 ∧ bar2 then s
  else s.access p fn bar2 true off (fun s =>
    if be = 15 then s.busWrite (.port p) bar2 off v else s.reject (.port p) 4 bar2 off)

/-- A write by port p of the commit word of entry i of an array (R451). -/
def State.putEntry (s : State) (p : Nat) (r : Reg) (i v : Nat) : State :=
  let c := r.commit.getD 0
  s.onWrite p r.bar2 (r.offset i c) (fun s => s.arrayWrite (.port p) ⟨r, i, c⟩ c v (r.offset i c))

/-- A whole-word write of port p to function 0. -/
def State.portPut (s : State) (p : Nat) (bar2 : Bool) (off v : Nat) : State := s.writeAt p 0 bar2 off v 15

end Sys2Proof.Machine
end

