-- ==== Sys2Proof/Machine/Boot.lean ====
section
/-!
DEFINITION. Machine/Boot.lean: what start-up does with the image and the deep buffer (steps 7 to 9: R422 to R424, R428,
R455), overlays and the end of a mode transition (R45 to R47, R430), AUTO_MODE (R429), and the passing of a TCLK edge.
-/
namespace Sys2Proof.Machine

/-! Records (R421, R422). -/

/-- The word a record's MASK merges with: Jig's held word, or the live one. -/
def State.recWord (s : State) (bar2 : Bool) (off : Nat) : Nat :=
  match Sys2Proof.Machine.place bar2 off with
  | some pl => (s.heldWord .jig pl).getD (s.liveWord 0 0 0 pl pl.word)
  | none => 0

/-- Write one record: ADDR, VALUE and MASK. -/
def State.record (s : State) (r : Nat × Nat × Nat) : State :=
  let b := recBar2 r.1
  let o := recOff r.1
  let full := 0xFFFFFFFF
  let v := if r.2.2 = full then r.2.1 else (s.recWord b o &&& (full - r.2.2)) ||| (r.2.1 &&& r.2.2)
  s.busWrite .jig b o v

/-- Write a list of records in order. -/
def State.records (s : State) (l : List (Nat × Nat × Nat)) : State := s.each l (fun r s => s.record r)

/-- A word of a table entry that lies wholly in RO fields (R423). -/
def roWord (bar2 : Bool) (off : Nat) : Bool :=
  match Sys2Proof.Machine.place bar2 off with
  | some pl => (pl.reg.inWord pl.word).all (fun x => x.1.acc = .ro)
  | none => true

/-- Words of one table entry: in ascending order, the commit word last. -/
def State.tableEntry (s : State) (t : TblRow) (i : Nat) (ws : List Nat) : State :=
  let base := t.base + i * t.stride
  let put (k : Nat) (s : State) : State :=
    if roWord t.bar2 (base + 4 * k) then s else s.busWrite .jig t.bar2 (base + 4 * k) (ws.getD k 0)
  let s := s.each ((upto ws.length).filter (· != t.commit)) put
  if t.commit < ws.length then put t.commit s else s

/-- One block of the table section (R423): `l` has one entry where REPEAT is set. -/
def State.tableBlock (s : State) (b : Nat × Nat × Nat × List (List Nat)) : State :=
  match tblRow b.1 with
  | some t => s.each (upto b.2.2.1) (fun k s =>
      s.tableEntry t (b.2.1 + k) (b.2.2.2.getD (if b.2.2.2.length = 1 then 0 else k) []))
  | none => s

/-- Step 7 (R60, R428): base records, then table blocks. -/
def State.imageApply (s : State) : State :=
  if s.startsAt 6 then
    match s.jg.image with
    | some i => ((s.records i.base).each i.tables (fun b s => s.tableBlock b)).stage 7
    | none => s
  else s

/-! The key store (R424, R180, R182, R299). -/

/-- Step 8 (R60, R180, R182, R299, R424): key RAM, key records, Veneer keys, a held bootstrap. After an erase nothing is
restored or unwrapped. While the engine's KAT runs the unwraps wait (R202). -/
def State.keyStage (s : State) : State :=
  if s.startsAt 7 = false ∨ s.get CHS_ENGINE.STATE 0 = 1 then s
  else
    let s := if s.keysLost then s else { s.recBegin.recsEnd with ch.chsJob := none }
    let s := if s.on VNR_CTL.EN 0 && !s.keysLost then s.vnrStart else s
    let s := s.stage 8
    if s.ke.bootHeld then s.bootstrap else s

/-! The deep buffer's training (R297, R455). -/

/-- Step 9: identities are read; a channel that failed or whose MR8 differs from channel 0's is fenced. A DATA_P8 above
the bound that the capacity gives is a reserved encoding (R298). -/
def State.memTrained (s : State) (pages : Nat) (chans : List ChanId) : State :=
  if s.startsAt 8 then
    let ch (c : Nat) : ChanId := chans.getD c ⟨false, 0, 0, 0⟩
    let s := { s with vn.capPages := pages }
    let s := if s.layoutBound < s.get VNR_LAYOUT.DATA_P8 0 then
        (s.set VNR_LAYOUT.DATA_P8 0 0).reject .jig 1 false reg_VNR_LAYOUT.base
      else s
    let s := s.each (upto 32) (fun c s =>
      (((s.set MEM_CH.MR5 c (ch c).mr5.toNat).set MEM_CH.MR6 c (ch c).mr6.toNat).set MEM_CH.MR8 c (ch c).mr8.toNat).set
        MEM_CH.STATE c 2)
    let s := s.each ((upto 32).filter (fun c => !(ch c).ok || (ch c).mr8 != (ch 0).mr8)) (fun c s => s.chanFence c)
    (s.floorCheck.stage 9).lanesStage
  else s

/-! Mode transitions. -/

/-- The records of the overlay of a mode (R425). -/
def State.overlay (s : State) (m : Nat) : List (Nat × Nat × Nat) :=
  match s.jg.image with
  | some i => (i.overlays.filter (fun o => o.1 == m)).flatMap (·.2)
  | none => []

/-- What a transition discards (R45): `was` and `now` are the modes whose traffic rules applied and apply. -/
def State.modeDrop (s : State) (was target now : Nat) : State :=
  if target = mLOCKDOWN then s.discardAll
  else
    let s := if was = mGUARDED ∧ now ≠ mGUARDED then
        let g := (upto 16).filter (fun k => s.on CAR_TX.EN k)
        (s.each g (fun k s => s.carLeave k)).flushQueues QUE_DCNT.D_MODE 7
          (fun q _ => decide (q < 8192) && g.contains (s.queuePort q))
      else s
    if was = mSTANDBY ∨ target = mSTANDBY then
      s.flushQueues QUE_DCNT.D_MODE 7 (fun _ f => f.sc.isSome)
    else s

/-- What waits behind a transition (R45, R47), in the order of R47: a LOCKDOWN trigger, a warm reset, a degradation
cause, a request. -/
def State.nextTrigger (s : State) : State :=
  match s.md.pendLock, s.md.pendWarm with
  | some c, _ => { s with md.pendLock := none }.lockdown c
  | none, some (d, late) => { s with md.pendWarm := none }.warmNow d late
  | none, none =>
    let s := s.settle
    match s.md.trans, s.md.pendReq with
    | none, some r => { s with md.pendReq := none }.evalReq r
    | _, _ => s

/-- The first STANDBY entry after start-up (R61, R429), and the LOCKDOWN trigger held during BOOT (R45). -/
def State.firstStandby (s : State) : State :=
  let auto := s.get JIG_RUN_SVN.AUTO_MODE 0
  { s.stage 0x0D with jg.autoDue := auto == 3 || auto == 4
                      md.pendLock := s.md.heldLock, md.heldLock := none }

/-- The overlay of the transition in progress is complete (R45 to R47, R430). -/
def State.overlayDone (s : State) : State :=
  match s.md.trans with
  | none => s
  | some t =>
    let from_ := s.mode
    let was := s.trafficMode
    let s := s.modeDrop was t.target (if t.target = mDEGRADED then t.base else t.target)
    let s := s.each t.overlays (fun m s => s.records (s.overlay m))
    let s := if t.target = mSTANDBY ∧ from_ ≠ mBOOT then s.resumeStop else s
    let s := { s.set GLB_MODE.IN_TRANSITION 0 0 with md.trans := none, md.cyc := none, md.cycBegan := false }.setMode t.target t.base t.cause
    let s := if [2, 3, 4].contains t.cause ∧ s.md.pendReq = none ∧ s.get GLB_MODE_REQ.RESULT 0 = 1 then
        s.set GLB_MODE_REQ.RESULT 0 2
      else s
    let s := if t.target = mLOCKDOWN then { s with cl.dormAlarm := false, md.pendLock := none, md.heldLock := none } else s
    let s := if from_ = mBOOT ∧ t.target = mSTANDBY then s.firstStandby else s
    s.nextTrigger

/-- Every degradation cause has been clear for 1 s (R45). -/
def State.degradedClear (s : State) : State :=
  let b := s.get GLB_MODE.BASE 0
  if s.mode = mDEGRADED ∧ s.degraded = 0 ∧ s.md.degClear ≠ 0 ∧ s.md.degClear - 1 + sec ≤ s.mono ∧ s.md.trans = none then
    s.begin ⟨b, b, 6, baseOverlays b⟩
  else s

/-- The AUTO_MODE request (R429): every valid schedule has completed a pass, or none is in WAIT_TIME. -/
def State.autoMode (s : State) : State :=
  let l := s.ones GAU_SCH.VALID
  if s.jg.autoDue && (l.all (fun j => s.au.passed.contains j) || l.all (fun j => s.schState j != 1)) then
    { s with jg.autoDue := false }.modeRequest (s.get JIG_RUN_SVN.AUTO_MODE 0) 3 4 prioAuto
  else s

/-! Time. -/

/-- What passes when no command waits: a TCLK edge (R120, log entry 5); in DORMANT the monotonic counter alone goes on. -/
def tickStep (s : State) : Host.Outcome State Fault Refusal :=
  done (if s.mode = 0 then { s with mono := s.mono + 0xCCCCCCCD } else s.tick.skewCheck.sweepTick)

/-- The end of a meaning that moves frames: what the reorder buffers can release leaves them, a stopping stream with nothing
left ends, and Clamp takes the alarms that the deep buffer raised (R24, R267, R307). -/
def finish (s : State) : Host.Outcome State Fault Refusal := done (s.flow.each (upto 16) (fun k s => s.carEnd k)).takeAlarms

end Sys2Proof.Machine
end

