-- ==== Sys2Proof/Machine/RunBus.lean ====
section
/-!
DEFINITION. Machine/RunBus.lean: the meanings of register accesses, of secure channels and associations, and of the
classifiers and shapers.
-/
namespace Sys2Proof.Machine

/-- REGISTER_WRITE (R4, R5, R387). -/
def execRegisterWrite (p : Port) (fn : Fin 2) (bar2 : Bool) (off : Nat) (v : Word) (be : BitVec 4) (s : State) :
    Host.Outcome State Fault Refusal := finish (s.writeAt p.val fn.val bar2 off v.toNat be.toNat)

/-- HELD_WORD_WRITE (R451). -/
def execHeldWordWrite (p : Port) (bar2 : Bool) (off : Nat) (v : Word) (s : State) : Host.Outcome State Fault Refusal :=
  finish (s.portPut p.val bar2 off v.toNat)

/-- CLS_RULE_COMMIT (R66). -/
def execClsRuleCommit (p : Port) (d : Dir) (i : Fin 8192) (v : Word) (s : State) : Host.Outcome State Fault Refusal :=
  finish (s.putEntry p.val (if d = .eg then reg_CLS_EGR else reg_CLS_IGR) i.val v.toNat)

/-- WIDE_LOW_READ (R6). -/
def execWideLowRead (p : Port) (fn : Fin 2) (bar2 : Bool) (off : Nat) (s : State) : Host.Outcome State Fault Refusal :=
  done (s.readAt p.val fn.val bar2 off)

/-- RC_READ (R4). -/
def execRcRead (p : Port) (fn : Fin 2) (bar2 : Bool) (off : Nat) (s : State) : Host.Outcome State Fault Refusal :=
  done (s.readAt p.val fn.val bar2 off)

/-! Secure channels and associations. -/

/-- A word-0 write of a transmit SC by a port (R71, R72). -/
def State.txScCmd (s : State) (p c v : Nat) : State :=
  s.onWrite p false (reg_SCT_TX.offset c 0) (fun s => s.txScPut (.port p) c 0 v)

/-- A word-0 write of a receive SC by a port (R98, R99). -/
def State.rxScCmd (s : State) (p c v : Nat) : State :=
  s.onWrite p false (reg_SCT_RX.offset c 0) (fun s => s.rxScPut (.port p) c 0 v)

/-- SC_VALID_SET (R72). -/
def execScValidSet (p : Port) (sc : Fin 4096) (v : Word) (s : State) : Host.Outcome State Fault Refusal :=
  finish (s.txScCmd p.val sc.val (putBits v.toNat 0 1 1))

/-- SC_VALID_CLEAR (R72). -/
def execScValidClear (p : Port) (sc : Fin 4096) (v : Word) (s : State) : Host.Outcome State Fault Refusal :=
  finish (s.txScCmd p.val sc.val (putBits v.toNat 0 1 0))

/-- RX_SC_VALID_SET (R99). -/
def execRxScValidSet (p : Port) (sc : Fin 4096) (v : Word) (s : State) : Host.Outcome State Fault Refusal :=
  finish (s.rxScCmd p.val sc.val (putBits v.toNat 0 1 1))

/-- RX_SC_VALID_CLEAR (R99). -/
def execRxScValidClear (p : Port) (sc : Fin 4096) (v : Word) (s : State) : Host.Outcome State Fault Refusal :=
  finish (s.rxScCmd p.val sc.val (putBits v.toNat 0 1 0))

/-- A write of PLN_TXSA_CMD or PLN_RXSA_CMD by a port. -/
def State.saCmd (s : State) (p off : Nat) (act : State → State) : State := s.onWrite p false off act

/-- TXSA_SWITCH (R77, R79). -/
def execTxsaSwitch (p : Port) (sc : Fin 4096) (s : State) : Host.Outcome State Fault Refusal :=
  finish (s.saCmd p.val reg_PLN_TXSA_CMD.base (fun s => s.txSwitchOne (.port p.val) sc.val reg_PLN_TXSA_CMD.base))

/-- TXSA_GROUP_SWITCH (R79). -/
def execTxsaGroupSwitch (p : Port) (g : Fin 256) (s : State) : Host.Outcome State Fault Refusal :=
  finish (s.saCmd p.val reg_PLN_TXSA_CMD.base (fun s => s.txSwitchGroup g.val))

/-- RXSA_ACTIVATE (R105). -/
def execRxsaActivate (p : Port) (sc : Fin 4096) (s : State) : Host.Outcome State Fault Refusal :=
  finish (s.saCmd p.val reg_PLN_RXSA_CMD.base (fun s => s.rxActivateReq sc.val))

/-- RXSA_GROUP_ACTIVATE (R105). -/
def execRxsaGroupActivate (p : Port) (g : Fin 256) (s : State) : Host.Outcome State Fault Refusal :=
  finish (s.saCmd p.val reg_PLN_RXSA_CMD.base (fun s => s.rxActivateGroup g.val))

/-- RXSA_RETIRE (R105). -/
def execRxsaRetire (p : Port) (sc : Fin 4096) (s : State) : Host.Outcome State Fault Refusal :=
  finish (s.saCmd p.val reg_PLN_RXSA_CMD.base (fun s => s.rxRetireReq sc.val))

/-- RXSA_GROUP_RETIRE (R105). -/
def execRxsaGroupRetire (p : Port) (g : Fin 256) (s : State) : Host.Outcome State Fault Refusal :=
  finish (s.saCmd p.val reg_PLN_RXSA_CMD.base (fun s => s.rxRetireGroup g.val))

/-- RETIRE_AT_REACHED (R104). -/
def execRetireAtReached (sa : Fin 8192) (s : State) : Host.Outcome State Fault Refusal := finish (s.retireDue sa.val)

/-! Shapers. -/

/-- The array and the entry of shaper q: data queues, ports, guarded streams (R251). -/
def shaperAt (q : Nat) : Reg × Nat :=
  if q < 8192 then (reg_QUE_SHP, q) else if q < 8208 then (reg_PLN_SHP_PORT, q - 8192) else (reg_PLN_SHP_GRD, q - 8208)

/-- SHAPER_WRITE (R253): word 0 with STAGE 0. -/
def execShaperWrite (p : Port) (q : Fin 8224) (v : Word) (s : State) : Host.Outcome State Fault Refusal :=
  finish (s.putEntry p.val (shaperAt q.val).1 (shaperAt q.val).2 (putBits v.toNat 2 1 0))

/-- SHAPER_STAGE (R253): word 0 with STAGE 1. -/
def execShaperStage (p : Port) (q : Fin 8224) (v : Word) (s : State) : Host.Outcome State Fault Refusal :=
  finish (s.putEntry p.val (shaperAt q.val).1 (shaperAt q.val).2 (putBits v.toNat 2 1 1))

end Sys2Proof.Machine
end

