-- ==== Sys2Proof/Machine/RunFrames.lean ====
section
/-!
DEFINITION. Machine/RunFrames.lean: the meanings of the commands of the datapath: reception, admission, scheduling, the
crypto slices, transmission, carriers, and the host queues.
-/
namespace Sys2Proof.Machine

/-- HOST_FRAME_RECEIVE (R22, R316). -/
def execHostFrameReceive (hp : Fin 32) (octets : List Octet) (badCode : Bool) (back : Nat) (s : State) :
    Host.Outcome State Fault Refusal := finish (s.hostFrame hp.val octets badCode back)

/-- ADMISSION (R255). -/
def execAdmission (r : Region) (s : State) : Host.Outcome State Fault Refusal := finish (s.admission r.val)

/-- DEEP_WRITE_COMPLETE (R255). -/
def execDeepWriteComplete (r : Region) (s : State) : Host.Outcome State Fault Refusal := finish (s.deepWritten r.val)

/-- PFC_REFRESH (R261). -/
def execPfcRefresh (hp : Fin 32) (s : State) : Host.Outcome State Fault Refusal := finish (s.pfcRefresh hp.val)

/-- DEQUEUE_DECISION (R247). -/
def execDequeueDecision (lp : Fin 16) (s : State) : Host.Outcome State Fault Refusal := finish (s.dequeue lp.val)

/-- TX_HOLD_TIMEOUT (R239). -/
def execTxHoldTimeout (sc : Fin 4096) (s : State) : Host.Outcome State Fault Refusal := finish (s.holdOut sc.val)

/-- DEEP_READ_BACK (R256). -/
def execDeepReadBack (q : Fin 8192) (s : State) : Host.Outcome State Fault Refusal := finish (s.deepBack q.val)

/-- DISPATCH (R85). -/
def execDispatch (r : Region) (d : Dir) (s : State) : Host.Outcome State Fault Refusal := finish (s.dispatch r.val d)

/-- PAIR_FRAME_COMPLETE (R86). -/
def execPairFrameComplete (r : Region) (d : Dir) (k : Fin 9) (s : State) : Host.Outcome State Fault Refusal :=
  finish (s.pairDone r.val d k.val)

/-- PAIR_FAULT (R86). -/
def execPairFault (r : Region) (d : Dir) (k : Fin 9) (cause : PairCause) (s : State) :
    Host.Outcome State Fault Refusal := finish (s.pairFault r.val d k.val cause)

/-- PAIR_KAT_COMPLETE (R88). -/
def execPairKatComplete (r : Region) (d : Dir) (k : Fin 9) (pass : Bool) (s : State) :
    Host.Outcome State Fault Refusal := finish (s.pairKat r.val d k.val pass)

/-- SPARE_KAT (R88). -/
def execSpareKat (r : Region) (d : Dir) (pass : Bool) (s : State) : Host.Outcome State Fault Refusal :=
  finish (s.spareKat r.val d pass)

/-- LAUNCH_HOLD_EXPIRE (R149). -/
def execLaunchHoldExpire (lp : Fin 16) (cq : Fin 4) (s : State) : Host.Outcome State Fault Refusal :=
  finish (s.launchHold lp.val cq.val)

/-- LAUNCH_SLOT_DEADLINE (R151). -/
def execLaunchSlotDeadline (lp : Fin 16) (s : State) : Host.Outcome State Fault Refusal := finish (s.slotDeadline lp.val)

/-- LINE_FRAME_TRANSMIT (R131). -/
def execLineFrameTransmit (lp : Fin 16) (s : State) : Host.Outcome State Fault Refusal := finish (s.transmit lp.val)

/-- LINE_FRAME_RECEIVE (R25, R316). -/
def execLineFrameReceive (lp : Fin 16) (octets : List Octet) (badCode : Bool) (back : Nat) (s : State) :
    Host.Outcome State Fault Refusal := finish (s.lineFrame lp.val octets badCode back)

/-- REPLAY_PRECHECK (R108). -/
def execReplayPrecheck (r : Region) (s : State) : Host.Outcome State Fault Refusal := finish (s.precheck r.val)

/-- HOST_PORT_TRANSMIT (R154). -/
def execHostPortTransmit (hp : Fin 32) (s : State) : Host.Outcome State Fault Refusal := finish (s.hostSend hp.val)

/-! Carriers. -/

/-- CARRIER_PACK (R270). -/
def execCarrierPack (lp : Fin 16) (s : State) : Host.Outcome State Fault Refusal := finish (s.carPack lp.val)

/-- CARRIER_SLOT (R267). -/
def execCarrierSlot (lp : Fin 16) (s : State) : Host.Outcome State Fault Refusal := finish (s.carSlot lp.val)

/-- CARRIER_SLOT_LATE (R268). -/
def execCarrierSlotLate (lp : Fin 16) (s : State) : Host.Outcome State Fault Refusal := finish (s.carLate lp.val)

/-- CARRIER_STOP (R265, R267): a word-0 write of CAR_TXk with STOP, its other RW fields as they stand. -/
def execCarrierStop (p : Port) (lp : Fin 16) (s : State) : Host.Outcome State Fault Refusal :=
  finish (s.putEntry p.val reg_CAR_TX lp.val
    (s.get CAR_TX.EN lp.val + 4 + s.get CAR_TX.SC lp.val * 256))

/-- CARRIER_RESTART (R267). -/
def execCarrierRestart (lp : Fin 16) (s : State) : Host.Outcome State Fault Refusal := finish (s.carRestart lp.val)

/-- REASM_TIMEOUT (R278). -/
def execReasmTimeout (lp : Fin 16) (s : State) : Host.Outcome State Fault Refusal := finish (s.carTimeout lp.val)

/-- STREAM_LOSS (R278). -/
def execStreamLoss (lp : Fin 16) (s : State) : Host.Outcome State Fault Refusal := finish (s.carLoss lp.val)

/-! Host queues. -/

/-- A write of word `word` of ring k by a port; rings 64 to 127 are the inject rings (R283). -/
def State.ringPut (s : State) (p k word v : Nat) : State :=
  let off := if k < 64 then reg_HQ_PUNT.offset k word else reg_HQ_INJ.offset (k - 64) word
  s.onWrite p false off (fun s => s.ringWrite (.port p) k word v)

/-- RING_ENABLE (R285). -/
def execRingEnable (p : Port) (k : Fin 128) (v : Word) (s : State) : Host.Outcome State Fault Refusal :=
  finish (s.ringPut p.val k.val 0 (putBits v.toNat 0 1 1))

/-- RING_DISABLE (R287). -/
def execRingDisable (p : Port) (k : Fin 128) (v : Word) (s : State) : Host.Outcome State Fault Refusal :=
  finish (s.ringPut p.val k.val 0 (putBits v.toNat 0 1 0))

/-- RING_PROD_WRITE (R285): the low half of word 5. -/
def execRingProdWrite (p : Port) (k : Fin 128) (prod : BitVec 16) (s : State) : Host.Outcome State Fault Refusal :=
  finish (s.ringPut p.val k.val 5 (prod.toNat + s.get HQ_PUNT.CPL_ACK k.val * 2 ^ 16))

/-- RING_CPL_ACK (R286): the high half of word 5. -/
def execRingCplAck (p : Port) (k : Fin 128) (ack : BitVec 16) (s : State) : Host.Outcome State Fault Refusal :=
  finish (s.ringPut p.val k.val 5 (s.get HQ_PUNT.PROD k.val + ack.toNat * 2 ^ 16))

/-- PUNT_PACKET_WRITE (R290). -/
def execPuntPacketWrite (k : Fin 64) (descs : List Desc) (s : State) : Host.Outcome State Fault Refusal :=
  finish (s.puntWrite k.val descs)

/-- PUNT_DROP_REST (R292). -/
def execPuntDropRest (p : Port) (k : Fin 64) (s : State) : Host.Outcome State Fault Refusal :=
  finish (s.onWrite p.val false (reg_HQ_CTL.offset k.val 0) (fun s => s.puntDrop k.val))

/-- INJECT_DESCRIPTOR_FETCH (R295). -/
def execInjectDescriptorFetch (k : Fin 64) (desc : List Octet) (s : State) : Host.Outcome State Fault Refusal :=
  finish (s.injDesc k.val desc)

/-- INJECT_FRAME_FETCH (R295). -/
def execInjectFrameFetch (k : Fin 64) (data : FlashRead) (s : State) : Host.Outcome State Fault Refusal :=
  finish (s.injFrame k.val data)

/-- COMPLETION_ZERO_LENGTH_READ (R36). -/
def execCompletionZeroLengthRead (p : Port) (vec : Fin 64) (s : State) : Host.Outcome State Fault Refusal :=
  done (s.zeroReadDone p.val vec.val)

end Sys2Proof.Machine
end

