-- ==== Sys2Proof/Machine/RunPower.lean ====
section
/-!
DEFINITION. Machine/RunPower.lean: the meanings of the commands of power, start-up, modes, the life cycle and the transmit
resume time.
-/
namespace Sys2Proof.Machine

/-- An event that only the powered chip sees: nothing in DORMANT. -/
def State.powered (s : State) (act : State → State) : State := if s.mode = 0 then s else act s

/-! Power and start-up. -/

/-- POWER_GOOD (R45, R54, R59). -/
def execPowerGood (feedsA feedsB : Nat) (backupKept resetLow : Bool) (s : State) : Host.Outcome State Fault Refusal :=
  done (s.powerGood feedsA feedsB backupKept resetLow)

/-- CORE_RAIL_LOSS (R45, R460). -/
def execCoreRailLoss (s : State) : Host.Outcome State Fault Refusal := done s.coreLoss

/-- RAIL_GROUP_LOSS (R460, R20): the CORE group sends the device to DORMANT, any other to LOCKDOWN. -/
def execRailGroupLoss (g : Fin 7) (s : State) : Host.Outcome State Fault Refusal :=
  finish (if g.val = 0 then s.coreLoss
    else s.powered (fun s => ((s.feedSet g.val .a false).feedSet g.val .b false).lockdown 9))

/-- RESET_N_ASSERT (R463). -/
def execResetNAssert (s : State) : Host.Outcome State Fault Refusal := done s.resetN

/-- RESET_N_RELEASE (R463). -/
def execResetNRelease (s : State) : Host.Outcome State Fault Refusal := done s.resetNOff

/-- CRYSTAL_STABLE (R60). -/
def execCrystalStable (s : State) : Host.Outcome State Fault Refusal := done s.crystal

/-- FUSE_SENSE (R60). -/
def execFuseSense (err : Bool) (s : State) : Host.Outcome State Fault Refusal := done (s.fuseSense err)

/-- ROM_SELFTEST (R60). -/
def execRomSelftest (romOk chiselOk pkeOk : Bool) (s : State) : Host.Outcome State Fault Refusal :=
  done (s.romTest (romOk && chiselOk) pkeOk)

/-- RNG_STARTUP_TEST_COMPLETE (R220). -/
def execRngStartupTestComplete (fail : Option HealthFail) (s : State) : Host.Outcome State Fault Refusal :=
  done (s.rngStart fail)

/-- SRAM_BIST_COMPLETE (R60). -/
def execSramBistComplete (s : State) : Host.Outcome State Fault Refusal := done s.sramUp

/-- IMAGE_SELECT (R427). -/
def execImageSelect (a b : FlashRead) (s : State) : Host.Outcome State Fault Refusal := done (s.imageSelect a b)

/-- IMAGE_APPLY (R428). -/
def execImageApply (s : State) : Host.Outcome State Fault Refusal := done s.imageApply

/-- KEY_RECORD_UNWRAP (R424). -/
def execKeyRecordUnwrap (s : State) : Host.Outcome State Fault Refusal := done s.keyStage

/-- LPDDR5X_TRAINING_COMPLETE (R297, R455). -/
def execLpddr5xTrainingComplete (pages : Nat) (chans : List ChanId) (s : State) : Host.Outcome State Fault Refusal :=
  done (s.memTrained pages chans)

/-- ATTESTATION_MEASURE_COMPLETE (R60). -/
def execAttestationMeasureComplete (s : State) : Host.Outcome State Fault Refusal := done s.measured

/-- BOOT_COMPLETE (R45, R60). -/
def execBootComplete (s : State) : Host.Outcome State Fault Refusal := done s.bootDone

/-- AUTO_MODE_REQUEST (R429). -/
def execAutoModeRequest (s : State) : Host.Outcome State Fault Refusal := done s.autoMode

/-! Modes. -/

/-- A write of GLB_MODE_REQ.TARGET by a port (R43). -/
def State.modeReqCmd (s : State) (p target : Nat) : State :=
  s.onWrite p false reg_GLB_MODE_REQ.base (fun s => s.modeReqWrite (.port p) target reg_GLB_MODE_REQ.base)

/-- MODE_REQ_STANDBY (R43). -/
def execModeReqStandby (p : Port) (s : State) : Host.Outcome State Fault Refusal := finish (s.modeReqCmd p.val mSTANDBY)

/-- MODE_REQ_SECURE (R43). -/
def execModeReqSecure (p : Port) (s : State) : Host.Outcome State Fault Refusal := finish (s.modeReqCmd p.val mSECURE)

/-- MODE_REQ_GUARDED (R43). -/
def execModeReqGuarded (p : Port) (s : State) : Host.Outcome State Fault Refusal := finish (s.modeReqCmd p.val mGUARDED)

/-- OVERLAY_COMPLETE (R45, R46). -/
def execOverlayComplete (s : State) : Host.Outcome State Fault Refusal := finish s.overlayDone

/-- DEGRADED_CLEAR_TIMER (R45). -/
def execDegradedClearTimer (s : State) : Host.Outcome State Fault Refusal := done s.degradedClear

/-- OFC_LOCKDOWN (R393): the confirmed word. -/
def execOfcLockdown (p : Port) (s : State) : Host.Outcome State Fault Refusal :=
  done (s.onWrite p.val true reg_OFC_LOCKDOWN.base (fun s => s.ofcLockdown 0x10CD0001))

/-- DBG_ENTER (R45, R456): through DBG_CTL, or by JTAG once its challenge is passed. -/
def execDbgEnter (who : Option Port) (s : State) : Host.Outcome State Fault Refusal :=
  done (match who with
    | some p => s.onWrite p.val true reg_DBG_CTL.base (fun s => s.dbgWrite (.port p.val) 1 reg_DBG_CTL.base)
    | none => if s.lc.jtagUnlocked then s.dbgCtl 1 else s)

/-- JTAG_DEBUG_UNLOCK (R157). -/
def execJtagDebugUnlock (s : State) : Host.Outcome State Fault Refusal := done s.jtagUnlock

/-! Warm reset by register. -/

/-- A write of OFC_RESET by a port (R55). -/
def State.resetCmd (s : State) (p v : Nat) : State := s.onWrite p true reg_OFC_RESET.base (fun s => s.ofcReset v)

/-- OFC_RESET_WARM (R55). -/
def execOfcResetWarm (p : Port) (s : State) : Host.Outcome State Fault Refusal := done (s.resetCmd p.val 1)

/-- OFC_RESET_WARM_AT_ARM (R55). -/
def execOfcResetWarmAtArm (p : Port) (s : State) : Host.Outcome State Fault Refusal := done (s.resetCmd p.val 2)

/-- OFC_RESET_WARM_AT_DISARM (R55). -/
def execOfcResetWarmAtDisarm (p : Port) (s : State) : Host.Outcome State Fault Refusal := done (s.resetCmd p.val 0)

/-- WARM_AT_TIME_REACHED (R55). -/
def execWarmAtTimeReached (s : State) : Host.Outcome State Fault Refusal := done s.warmAtDue

/-! Life cycle. -/

/-- A write of LCY_CMD by a port, code and confirmation (R49, R52). -/
def State.lifeCmd (s : State) (p code : Nat) (cert : List Octet) : State :=
  s.onWrite p true reg_LCY_CMD.base (fun s => s.lcyCmd (code + 0xA55A0000) cert)

/-- ADV_FACTORY through JTAG (R49). -/
def execAdvFactory (root : List Octet) (s : State) : Host.Outcome State Fault Refusal := done (s.advFactory root)

/-- ADV_PROVISIONED (R49). -/
def execAdvProvisioned (p : Port) (certHash : List Octet) (s : State) : Host.Outcome State Fault Refusal :=
  done (s.lifeCmd p.val 2 certHash)

/-- TAKE_OWNERSHIP (R49). -/
def execTakeOwnership (p : Port) (s : State) : Host.Outcome State Fault Refusal := done (s.lifeCmd p.val 3 [])

/-- RELEASE_OWNERSHIP (R49). -/
def execReleaseOwnership (p : Port) (s : State) : Host.Outcome State Fault Refusal := done (s.lifeCmd p.val 4 [])

/-- SCRAP (R49): through a session, or through JTAG in FACTORY. -/
def execScrap (who : Option Port) (s : State) : Host.Outcome State Fault Refusal :=
  done (match who with
    | some p => s.lifeCmd p.val 5 []
    | none => s.scrapJtag)

/-- RAISE_MIN_SVN (R53). -/
def execRaiseMinSvn (p : Port) (s : State) : Host.Outcome State Fault Refusal := done (s.lifeCmd p.val 6 [])

/-- LIFECYCLE_CHANGE_COMPLETE (R50). -/
def execLifecycleChangeComplete (s : State) : Host.Outcome State Fault Refusal := done s.lcyDone

/-! Transmit resume. -/

/-- OFC_TX_RESUME_LO (R58). -/
def execOfcTxResumeLo (p : Port) (v : Word) (s : State) : Host.Outcome State Fault Refusal :=
  done (s.onWrite p.val true reg_OFC_TX_RESUME_LO.base (fun s => s.txResumeLo p.val v.toNat))

/-- OFC_TX_RESUME_HI (R58). -/
def execOfcTxResumeHi (p : Port) (v : Word) (s : State) : Host.Outcome State Fault Refusal :=
  done (s.onWrite p.val true reg_OFC_TX_RESUME_HI.base (fun s => s.txResumeHi p.val v.toNat))

/-- TX_RESUME_UPDATE (R56). -/
def execTxResumeUpdate (s : State) : Host.Outcome State Fault Refusal := done s.resumeTick

end Sys2Proof.Machine
end

