-- ==== Sys2Proof/Machine/RunHealth.lean ====
section
/-!
DEFINITION. Machine/RunHealth.lean: the meanings of the commands of lanes, ports and modules, of fault handling, Brace and
Clamp.
-/
namespace Sys2Proof.Machine

/-! Lanes and ports. -/

/-- LANE_LOCK_CHANGE (R339). -/
def execLaneLockChange (lane : Fin 96) (locked signal : Bool) (s : State) : Host.Outcome State Fault Refusal :=
  finish (s.powered (fun s => s.laneChange lane.val locked signal))

/-- SNR_LOW (R339). -/
def execSnrLow (lane : Fin 96) (s : State) : Host.Outcome State Fault Refusal := finish (s.laneSnr lane.val)

/-- DFE_TAP_LIMIT (R326, R339). -/
def execDfeTapLimit (lane : Fin 96) (taps : List (BitVec 8)) (s : State) : Host.Outcome State Fault Refusal :=
  finish (s.dfeLimit lane.val taps)

/-- DFE_ADAPTED (R326). -/
def execDfeAdapted (lane : Fin 96) (taps : List (BitVec 8)) (s : State) : Host.Outcome State Fault Refusal :=
  finish (s.dfeDone lane.val taps)

/-- LANE_TEST_COMPLETE (R340). -/
def execLaneTestComplete (lane : Fin 96) (pass : Bool) (s : State) : Host.Outcome State Fault Refusal :=
  finish (s.laneTested lane.val pass)

/-- LANE_RETEST (R360). -/
def execLaneRetest (p : Port) (lane : Fin 96) (s : State) : Host.Outcome State Fault Refusal :=
  finish (s.onWrite p.val false reg_FLT_LANE_CMD.base (fun s => s.laneRetest (.port p.val) (lane.val + 0x100)))

/-- A word-0 write of a port's entry: host ports 0 to 31, line ports 32 to 47 (R320, R330). -/
def State.portCmd (s : State) (p port v : Nat) : State :=
  let r := if port < 32 then reg_RGN_HPORT else reg_RGN_LPORT
  let off := r.offset (if port < 32 then port else port - 32) 0
  s.onWrite p false off (fun s => s.portWrite (.port p) r port 0 v off)

/-- PORT_ENABLE (R320): EN 1. -/
def execPortEnable (p : Port) (port : Fin 48) (v : Word) (s : State) : Host.Outcome State Fault Refusal :=
  finish (s.portCmd p.val port.val (putBits v.toNat 0 1 1))

/-- PORT_DISABLE (R320): EN 0. -/
def execPortDisable (p : Port) (port : Fin 48) (v : Word) (s : State) : Host.Outcome State Fault Refusal :=
  finish (s.portCmd p.val port.val (putBits v.toNat 0 1 0))

/-- LINK_CHANGE (R317). -/
def execLinkChange (port : Fin 48) (aligned rxLf rxRf : Bool) (s : State) : Host.Outcome State Fault Refusal :=
  finish (s.powered (fun s => s.linkChange port.val aligned rxLf rxRf))

/-- CALIBRATION_COMPLETE (R132, R133). -/
def execCalibrationComplete (port : Fin 48) (txLat rxLat : Word) (s : State) : Host.Outcome State Fault Refusal :=
  finish (s.calibrate port.val txLat.toNat rxLat.toNat)

/-- FEC_DEG_INTERVAL (R321, R323). -/
def execFecDegInterval (port : Fin 48) (codewords corrected uncorrectable symbols : Nat) (s : State) :
    Host.Outcome State Fault Refusal := done (s.fecInterval port.val codewords corrected uncorrectable symbols)

/-- TAP_STEP (R325). -/
def execTapStep (lane : Fin 96) (s : State) : Host.Outcome State Fault Refusal := done (s.tapStep lane.val)

/-- CHK_CLR (R327): the word of the lane's PRBS controls with CHK_CLR, the others as they stand. -/
def execChkClr (p : Port) (lane : Fin 96) (s : State) : Host.Outcome State Fault Refusal :=
  let r := if lane.val < 64 then reg_RGN_HLANE else reg_RGN_LLANE
  let off := r.offset (if lane.val < 64 then lane.val else lane.val - 64) 6
  done (s.onWrite p.val false off (fun s => s.laneWrite (.port p.val) r lane.val 6
    (s.get RGN_HLANE.PRBS_GEN lane.val + s.get RGN_HLANE.PRBS_CHK lane.val * 16 + 0x200) off))

/-- EYE_MONITOR_UPDATE (R328). -/
def execEyeMonitorUpdate (lane : Fin 96) (upper middle lower width snr : BitVec 8) (s : State) :
    Host.Outcome State Fault Refusal :=
  done (s.eyeUpdate lane.val upper.toNat middle.toNat lower.toNat width.toNat snr.toNat)

/-- REFCLK_MONITOR_WINDOW (R313). -/
def execRefclkMonitorWindow (hPpm lPpm : Int) (s : State) : Host.Outcome State Fault Refusal :=
  finish (s.powered (fun s => s.refWindow hPpm lPpm))

/-! Modules. -/

/-- MOD_PRESENCE_CHANGE (R329, R330). -/
def execModPresenceChange (slot : Fin 16) (present : Bool) (s : State) : Host.Outcome State Fault Refusal :=
  finish (s.powered (fun s => s.modPresence slot.val present))

/-- MOD_REINIT (R330): the slot's word 0 with MOD_REINIT, the others as they stand. -/
def execModReinit (p : Port) (slot : Fin 16) (s : State) : Host.Outcome State Fault Refusal :=
  let i := 32 + slot.val
  finish (s.portCmd p.val i
    (s.get RGN_HPORT.EN i + s.get RGN_HPORT.SPEED i * 2 + s.get RGN_LPORT.ALLOW_EN i * 8 + 0x1000))

/-- MODULE_READY_POLL (R330). -/
def execModuleReadyPoll (slot : Fin 16) (ready : Bool) (s : State) : Host.Outcome State Fault Refusal :=
  finish (s.modReadyPoll slot.val ready)

/-- MODULE_IDENTIFY (R331). -/
def execModuleIdentify (slot : Fin 16) (vendor part serial : List Octet) (s : State) : Host.Outcome State Fault Refusal :=
  finish (s.modIdentify slot.val vendor part serial)

/-- ALLOW_LIST_COMMIT (R332). -/
def execAllowListCommit (p : Port) (i : Fin 64) (v : Word) (s : State) : Host.Outcome State Fault Refusal :=
  finish (s.putEntry p.val reg_OFC_MOD_ALLOW i.val v.toNat)

/-- ALLOW_RECHECK (R331). -/
def execAllowRecheck (slot : Fin 16) (s : State) : Host.Outcome State Fault Refusal := finish (s.modCheck slot.val)

/-- DATAPATH_ACTIVATED (R330). -/
def execDatapathActivated (slot : Fin 16) (width : Nat) (s : State) : Host.Outcome State Fault Refusal :=
  finish (s.modActivated slot.val width)

/-- MODULE_READY_TIMEOUT (R330). -/
def execModuleReadyTimeout (slot : Fin 16) (s : State) : Host.Outcome State Fault Refusal :=
  finish (s.modTimeout slot.val)

/-- I2C_RETRY (R329). -/
def execI2cRetry (slot : Fin 16) (acked : Bool) (s : State) : Host.Outcome State Fault Refusal :=
  finish (s.modRetry slot.val acked)

/-- MODULE_MONITOR_POLL (R333). -/
def execModuleMonitorPoll (slot : Fin 16) (temp vcc : BitVec 16) (flags : List Octet) (bias : List (BitVec 16)) (s : State) :
    Host.Outcome State Fault Refusal := done (s.modPoll slot.val temp.toNat vcc.toNat flags bias)

/-- MODACC_REQUEST (R334). -/
def execModaccRequest (p : Port) (r : Region) (v : Word) (s : State) : Host.Outcome State Fault Refusal :=
  done (s.onWrite p.val false (reg_RGN_MODACC.offset r.val 0) (fun s => s.modacc r.val v.toNat))

/-- MODACC_COMPLETE (R334). -/
def execModaccComplete (r : Region) (ack : Bool) (data : List Octet) (s : State) : Host.Outcome State Fault Refusal :=
  done (s.modaccEnd r.val ack data)

/-! Faults. -/

/-- SRAM_UNCORRECTABLE (R343). -/
def execSramUncorrectable (owner : SramOwner) (mac row : Nat) (s : State) : Host.Outcome State Fault Refusal :=
  finish (s.powered (fun s => s.sramLost owner mac row))

/-- SRAM_SCRUB (R342): words corrected. -/
def execSramScrub (corrected : Nat) (s : State) : Host.Outcome State Fault Refusal :=
  done (s.powered (fun s => s.count FLT_CNT.SRAM_CORR 0 corrected))

/-- ROW_BIST_COMPLETE (R343, R350). -/
def execRowBistComplete (owner : SramOwner) (result : RowResult) (s : State) : Host.Outcome State Fault Refusal :=
  finish (s.powered (fun s => s.rowBist owner result))

/-- CROSSBAR_BEAT_ERROR (R11, R336). -/
def execCrossbarBeatError (repeats : Nat) (s : State) : Host.Outcome State Fault Refusal :=
  done (s.powered (fun s => s.xbar repeats))

/-- CHANNEL_TRIGGER (R341). -/
def execChannelTrigger (c : Fin 32) (s : State) : Host.Outcome State Fault Refusal := finish (s.chanTrigger c.val)

/-- CHANNEL_RETRAIN_COMPLETE (R341, R338). -/
def execChannelRetrainComplete (c : Fin 32) (id : ChanId) (s : State) : Host.Outcome State Fault Refusal :=
  finish (s.chanTrained c.val id)

/-- MCLK fails: every channel in service is fenced (R27). -/
def State.mclkLost (s : State) : State :=
  s.each ((upto 32).filter (fun c => s.get MEM_CH.STATE c == 2 || s.get MEM_CH.STATE c == 3)) (fun c s => s.chanFence c)

/-- MCLK_FAIL (R27). -/
def execMclkFail (s : State) : Host.Outcome State Fault Refusal := finish s.mclkLost

/-- REGION_AUTO_RESTART (R345). -/
def execRegionAutoRestart (r : Region) (s : State) : Host.Outcome State Fault Refusal := done (s.autoRestart r.val)

/-- REGION_RESTART_CMD (R360). -/
def execRegionRestartCmd (p : Port) (r : Region) (s : State) : Host.Outcome State Fault Refusal :=
  done (s.onWrite p.val false reg_FLT_RGN_CMD.base (fun s => s.rgnCmd (.port p.val) (r.val + 0x10)))

/-- REGION_RESTART_COMPLETE (R346). -/
def execRegionRestartComplete (r : Region) (rowsSpared : Nat) (rowsOk : Bool) (passE passI : List Bool) (s : State) :
    Host.Outcome State Fault Refusal := finish (s.restartEnd r.val rowsSpared rowsOk passE passI)

/-! Brace. -/

/-- FEED_DIVERGENCE (R352, R354). -/
def execFeedDivergence (g : Fin 7) (failed : Feed) (mv : Nat) (s : State) : Host.Outcome State Fault Refusal :=
  done (s.powered (fun s => s.feedDivergence g.val failed mv))

/-- PG_FALL (R352). -/
def execPgFall (feed : Feed) (s : State) : Host.Outcome State Fault Refusal := done (s.powered (fun s => s.pgFall feed))

/-- FEED_RECOVERED (R355). -/
def execFeedRecovered (g : Fin 7) (feed : Feed) (s : State) : Host.Outcome State Fault Refusal :=
  done (s.powered (fun s => s.feedRecovered g.val feed))

/-- BRACE_SWITCH_CMD (R358): group 7 names every group. -/
def execBraceSwitchCmd (p : Port) (g : Fin 8) (s : State) : Host.Outcome State Fault Refusal :=
  done (s.onWrite p.val false reg_FLT_BRACE_CMD.base (fun s => s.braceCmd (.port p.val) (g.val + 0x100)))

/-! Clamp. -/

/-- CLAMP_SUPPLY_TRIP (R365). -/
def execClampSupplyTrip (s' : Supply) (det : Detector) (s : State) : Host.Outcome State Fault Refusal :=
  done (s.supplyTrip s' det)

/-- DISAGREE_WINDOW_CLOSE (R366). -/
def execDisagreeWindowClose (s' : Supply) (s : State) : Host.Outcome State Fault Refusal := done (s.disagreeClose s')

/-- KCLK_OUT_OF_BAND (R364). -/
def execKclkOutOfBand (s : State) : Host.Outcome State Fault Refusal := done s.kclkBad

/-- CCLK_RATIO_OUT_OF_BAND (R364). -/
def execCclkRatioOutOfBand (s : State) : Host.Outcome State Fault Refusal := done s.cclkBad

/-- TEMP_LIMIT (R364): class 5, also in DORMANT (R380). -/
def execTempLimit (s : State) : Host.Outcome State Fault Refusal := done (s.armedEvent 5)

/-- TEMP_REARM (R364). -/
def execTempRearm (s : State) : Host.Outcome State Fault Refusal := done (s.rearm 5)

/-- CLOCK_EVENT_REARM (R364). -/
def execClockEventRearm (cclk : Bool) (s : State) : Host.Outcome State Fault Refusal := done (s.clockRearm cclk)

/-- THERMAL_THRESHOLD (R44, R416). -/
def execThermalThreshold (above : Bool) (s : State) : Host.Outcome State Fault Refusal :=
  done (s.powered (fun s => s.thermal above))

/-- EVIN15_CLAMP_ASSERT (R415). -/
def execEvin15ClampAssert (s : State) : Host.Outcome State Fault Refusal := done s.evin15

/-- CLASS_WINDOW_CLOSE (R368). -/
def execClassWindowClose (c : Fin 9) (s : State) : Host.Outcome State Fault Refusal := done (s.clmClose c.val)

/-- COALESCE_WINDOW_CLOSE (R375). -/
def execCoalesceWindowClose (s : State) : Host.Outcome State Fault Refusal := done s.coalesceClose

/-- CLAMP_ERASE_COMPLETE (R373). -/
def execClampEraseComplete (s : State) : Host.Outcome State Fault Refusal := done s.eraseDone

/-- CLAMP_LOCK (R371): LOCK 1. -/
def execClampLock (p : Port) (v : Word) (s : State) : Host.Outcome State Fault Refusal :=
  done (s.onWrite p.val true reg_OFC_CLM_CTL.base (fun s => s.clmCtl (.port p.val) (putBits v.toNat 2 1 1)))

/-- VBAT_LOW (R382). -/
def execVbatLow (mv : Nat) (s : State) : Host.Outcome State Fault Refusal := done (s.vbatLow mv)

/-- VBAT_PREERASE_REARM (R382). -/
def execVbatPreeraseRearm (s : State) : Host.Outcome State Fault Refusal := done (s.rearm 9)

end Sys2Proof.Machine
end

