-- ==== Sys2Proof/Machine/RunKeys.lean ====
section
/-!
DEFINITION. Machine/RunKeys.lean: the meanings of the commands of the key store, attestation, Chisel, the public-key engine,
the random-number generator and Veneer.
-/
namespace Sys2Proof.Machine

/-! The key store. -/

/-- A KST_CMD word of a port (R170). -/
def State.storeCmd (s : State) (p word : Nat) : State := s.onWrite p true reg_KST_CMD.base (fun s => s.kstCmd p word)

/-- KST_GENERATE (R170). -/
def execKstGenerate (p : Port) (slot : Fin 256) (k256 replace : Bool) (s : State) : Host.Outcome State Fault Refusal :=
  finish (s.storeCmd p.val (1 + slot.val * 2 ^ 8 + b2n k256 * 2 ^ 30 + b2n replace * 2 ^ 31))

/-- KST_INVALIDATE (R173). -/
def execKstInvalidate (p : Port) (slot : Fin 256) (s : State) : Host.Outcome State Fault Refusal :=
  finish (s.storeCmd p.val (2 + slot.val * 2 ^ 8))

/-- KST_ERASE (R174). -/
def execKstErase (p : Port) (slot : Fin 256) (s : State) : Host.Outcome State Fault Refusal :=
  finish (s.storeCmd p.val (3 + slot.val * 2 ^ 8))

/-- KST_ERASE_SA (R170). -/
def execKstEraseSa (p : Port) (sa : Fin 16384) (s : State) : Host.Outcome State Fault Refusal :=
  finish (s.storeCmd p.val (4 + sa.val * 2 ^ 16))

/-- KST_PERSIST (R179). -/
def execKstPersist (p : Port) (slot : Fin 256) (s : State) : Host.Outcome State Fault Refusal :=
  finish (s.storeCmd p.val (5 + slot.val * 2 ^ 8))

/-- KST_UNPERSIST (R179). -/
def execKstUnpersist (p : Port) (slot : Fin 256) (s : State) : Host.Outcome State Fault Refusal :=
  finish (s.storeCmd p.val (6 + slot.val * 2 ^ 8))

/-- KST_COMMAND_START (R171, R172). -/
def execKstCommandStart (s : State) : Host.Outcome State Fault Refusal := finish s.storeStart

/-- KST_ZEROISE_COMPLETE (R176). -/
def execKstZeroiseComplete (p : Port) (s : State) : Host.Outcome State Fault Refusal := finish (s.kstZeroed p.val)

/-- OFC_BOOT_GO (R182). -/
def execOfcBootGo (p : Port) (v : Word) (s : State) : Host.Outcome State Fault Refusal :=
  finish (s.onWrite p.val false reg_GLB_OFC_BOOT_GO.base (fun s => s.bootGo (.port p.val) v.toNat))

/-! Attestation. -/

/-- ATT_GO (R184). -/
def execAttGo (p : Port) (s : State) : Host.Outcome State Fault Refusal :=
  done (s.onWrite p.val true reg_ATT_CTL.base (fun s => s.attGo p.val))

/-- ATT_REPORT_COMPLETE (R185). -/
def execAttReportComplete (p : Port) (cert : FlashRead) (s : State) : Host.Outcome State Fault Refusal :=
  done (s.attDone p.val cert)

/-! Chisel. -/

/-- A CHS_CMD word of a port through a world's block, with the operation's code (R191, R195). -/
def State.chiselCmd (s : State) (p : Nat) (w : World) (op v : Nat) : State :=
  let r := if w = .operator then reg_CHS_CMD else reg_CLC_CMD
  s.onWrite p r.bar2 r.base (fun s => s.chsCmd p w (putBits v 0 4 op))

/-- ENC (R195). -/
def execEnc (p : Port) (w : World) (v : Word) (s : State) : Host.Outcome State Fault Refusal :=
  finish (s.chiselCmd p.val w 0x1 v.toNat)

/-- DEC (R195). -/
def execDec (p : Port) (w : World) (v : Word) (s : State) : Host.Outcome State Fault Refusal :=
  finish (s.chiselCmd p.val w 0x2 v.toNat)

/-- CMAC (R204). -/
def execCmac (p : Port) (w : World) (v : Word) (s : State) : Host.Outcome State Fault Refusal :=
  finish (s.chiselCmd p.val w 0x3 v.toNat)

/-- WRAP (R195). -/
def execWrap (p : Port) (w : World) (v : Word) (s : State) : Host.Outcome State Fault Refusal :=
  finish (s.chiselCmd p.val w 0x4 v.toNat)

/-- EXPORT (R196). -/
def execExportKey (p : Port) (w : World) (v : Word) (s : State) : Host.Outcome State Fault Refusal :=
  finish (s.chiselCmd p.val w 0x5 v.toNat)

/-- UNWRAP_SLOT (R198). -/
def execUnwrapSlot (p : Port) (w : World) (v : Word) (s : State) : Host.Outcome State Fault Refusal :=
  finish (s.chiselCmd p.val w 0x6 v.toNat)

/-- UNWRAP_SA (R198). -/
def execUnwrapSa (p : Port) (w : World) (v : Word) (s : State) : Host.Outcome State Fault Refusal :=
  finish (s.chiselCmd p.val w 0x7 v.toNat)

/-- DERIVE_SLOT (R197). -/
def execDeriveSlot (p : Port) (w : World) (v : Word) (s : State) : Host.Outcome State Fault Refusal :=
  finish (s.chiselCmd p.val w 0x8 v.toNat)

/-- DERIVE_SA (R197). -/
def execDeriveSa (p : Port) (w : World) (v : Word) (s : State) : Host.Outcome State Fault Refusal :=
  finish (s.chiselCmd p.val w 0x9 v.toNat)

/-- CHS_ERASE_SA (R195). -/
def execChsEraseSa (p : Port) (w : World) (v : Word) (s : State) : Host.Outcome State Fault Refusal :=
  finish (s.chiselCmd p.val w 0xA v.toNat)

/-- SUSPEND (R205). -/
def execSuspend (p : Port) (w : World) (v : Word) (s : State) : Host.Outcome State Fault Refusal :=
  finish (s.chiselCmd p.val w 0xB v.toNat)

/-- RESTORE (R207). -/
def execRestore (p : Port) (w : World) (v : Word) (s : State) : Host.Outcome State Fault Refusal :=
  finish (s.chiselCmd p.val w 0xC v.toNat)

/-- ABORT (R195). -/
def execAbort (p : Port) (w : World) (v : Word) (s : State) : Host.Outcome State Fault Refusal :=
  finish (s.chiselCmd p.val w 0xD v.toNat)

/-- CHISEL_GRANT (R203). -/
def execChiselGrant (s : State) : Host.Outcome State Fault Refusal := finish s.chsGrant

/-- The port whose session response Chisel checks, if it checks one (R395). -/
def State.checkPort (s : State) : Option Nat :=
  match s.ch.chsJob with
  | some (.check c _ _) => some c.port
  | _ => none

/-- CHISEL_COMMAND_COMPLETE (R200): the granted command ends. -/
def execChiselCommandComplete (s : State) : Host.Outcome State Fault Refusal :=
  finish (if s.checkPort.isSome then s else s.chsComplete)

/-- CHISEL_FAULT (R201). -/
def execChiselFault (s : State) : Host.Outcome State Fault Refusal := finish s.chsFault

/-- CHISEL_KAT_COMPLETE (R202). -/
def execChiselKatComplete (pass : Bool) (s : State) : Host.Outcome State Fault Refusal := finish (s.chsKat pass)

/-- CHS_DOUT_READ (R208). -/
def execChsDoutRead (p : Port) (w : World) (i : Fin 66) (s : State) : Host.Outcome State Fault Refusal :=
  done (s.readReg p.val 0 (if w = .operator then reg_CHS_DOUT else reg_CLC_DOUT) i.val 0)

/-! The public-key engine. -/

/-- PKE_SIGN_COMPLETE (R210). -/
def execPkeSignComplete (s : State) : Host.Outcome State Fault Refusal := done s.pkeSigned

/-- PKE_VERIFY_COMPLETE (R210). -/
def execPkeVerifyComplete (s : State) : Host.Outcome State Fault Refusal := done s.pkeVerified

/-- PKE_FAULT (R210). -/
def execPkeFault (s : State) : Host.Outcome State Fault Refusal := done s.pkeFault

/-- PKE_KAT_COMPLETE (R210). -/
def execPkeKatComplete (pass : Bool) (s : State) : Host.Outcome State Fault Refusal := done (s.pkeKat pass)

/-! The random-number generator. -/

/-- A write of RNG_CTL by a port with TEST_SRC as it stands (R217). -/
def State.rngCtlCmd (s : State) (p v : Nat) : State :=
  s.onWrite p false reg_RNG_CTL.base (fun s => s.rngCtl (.port p) (v + 4 * s.get RNG_CTL.TEST_SRC 0))

/-- RESEED (R217). -/
def execReseed (p : Port) (s : State) : Host.Outcome State Fault Refusal := done (s.rngCtlCmd p.val 1)

/-- REINST (R217). -/
def execReinst (p : Port) (s : State) : Host.Outcome State Fault Refusal := done (s.rngCtlCmd p.val 2)

/-- DRBG_RESEED_TIMER (R215): the DRBG is running. -/
def execDrbgReseedTimer (s : State) : Host.Outcome State Fault Refusal :=
  done (if s.get RNG_STATUS.STATE 0 = rngREADY then s.reseed else s)

/-- A health test fails in mission (R221, R223). -/
def State.missionFail (s : State) (f : HealthFail) : State :=
  match s.testOutcome (some f) with
  | some f => if s.get RNG_STATUS.STATE 0 = rngREADY then s.healthFail f else s
  | none => s

/-- RNG_HEALTH_FAIL (R221). -/
def execRngHealthFail (f : HealthFail) (s : State) : Host.Outcome State Fault Refusal := done (s.missionFail f)

/-- RNG_RERUN_COMPLETE (R222). -/
def execRngRerunComplete (fail : Option HealthFail) (s : State) : Host.Outcome State Fault Refusal :=
  done (s.rerun fail).rngStage.vnrResume

/-- RNG_REQUEST (R219). -/
def execRngRequest (p : Port) (len : Nat) (s : State) : Host.Outcome State Fault Refusal :=
  done (s.onWrite p.val false reg_RNG_REQ.base (fun s => s.rngRequest p.val (bits len 0 10)))

/-- RNG_REQUEST_SERVED (R216). -/
def execRngRequestServed (p : Port) (s : State) : Host.Outcome State Fault Refusal := done (s.rngServe p.val)

/-- RNG_OUT_READ (R219). -/
def execRngOutRead (p : Port) (i : Fin 64) (s : State) : Host.Outcome State Fault Refusal :=
  done (s.readReg p.val 0 reg_RNG_OUT i.val 0)

/-! Veneer. -/

/-- A write of VNR_CTL by a port (R299). -/
def State.veneerCmd (s : State) (p v : Nat) : State :=
  s.onWrite p false reg_VNR_CTL.base (fun s => s.vnrCtlWrite (.port p) v reg_VNR_CTL.base)

/-- VENEER_ENABLE (R299): EN 1. -/
def execVeneerEnable (p : Port) (v : Word) (s : State) : Host.Outcome State Fault Refusal :=
  finish (s.veneerCmd p.val (putBits v.toNat 0 1 1))

/-- VENEER_DISABLE (R299): EN 0. -/
def execVeneerDisable (p : Port) (v : Word) (s : State) : Host.Outcome State Fault Refusal :=
  finish (s.veneerCmd p.val (putBits v.toNat 0 1 0))

/-- REKEY_PASS_START (R305). -/
def execRekeyPassStart (s : State) : Host.Outcome State Fault Refusal := finish s.passStart

/-- REKEY_PAGE (R305). -/
def execRekeyPage (s : State) : Host.Outcome State Fault Refusal := finish s.rekeyTurn

/-- A read of a written line of a live page (R306). -/
def State.deepLine (s : State) (page line : Nat) (raw : List RawLine) : State :=
  let use := (Tab.get Page.none s.vn.pages page).use
  if (use = .live ∨ use = .retiring) ∧ s.pageHeld page = false ∧
      Tab.get Line.none s.vn.lines (64 * page + line) ≠ Line.none then
    (s.lineRead page line raw false).2
  else s

/-- DEEP_READ (R306). -/
def execDeepRead (page : Nat) (line : Fin 64) (raw : List RawLine) (s : State) : Host.Outcome State Fault Refusal :=
  finish (s.deepLine page line.val raw)

/-- DEEP_PARTIAL_WRITE (R303). -/
def execDeepPartialWrite (page : Nat) (line : Fin 64) (beat : Bool) (data : List Octet) (raw : List RawLine) (s : State) :
    Host.Outcome State Fault Refusal := finish (s.beatWrite page line.val beat data raw)

/-- MARCH_TEST_COMPLETE (R308). -/
def execMarchTestComplete (page : Nat) (line : Fin 64) (pass : Bool) (s : State) : Host.Outcome State Fault Refusal :=
  finish (s.marchEnd page line.val pass)

/-- SPARE_COPY_COMPLETE (R308). -/
def execSpareCopyComplete (page : Nat) (s : State) : Host.Outcome State Fault Refusal := finish (s.spareDone page)

end Sys2Proof.Machine
end

