-- ==== Sys2Proof/Machine/RunPorts.lean ====
section
/-!
DEFINITION. Machine/RunPorts.lean: the meanings of the commands of the management ports: links, interrupts, semaphores,
sessions, staging, flash, counters and the sampler.
-/
namespace Sys2Proof.Machine

/-! Ports and links. -/

/-- PORT_LOSS (R388). -/
def execPortLoss (p : Port) (s : State) : Host.Outcome State Fault Refusal := finish (s.portLoss p.val)

/-- WAKE_RESET (R388). -/
def execWakeReset (p : Port) (s : State) : Host.Outcome State Fault Refusal := finish (s.wakeReset p.val)

/-- PCIE_LINK_STATE_CHANGE (R408). -/
def execPcieLinkStateChange (p : Port) (st : LinkState) (busMaster msixEnable functionMask : Bool) (s : State) :
    Host.Outcome State Fault Refusal := finish (s.linkState p.val st busMaster msixEnable functionMask)

/-- A hint written to ICU_PORTp, FAILOVER_ROUTE as it stands (R408 to R410). -/
def State.hintCmd (s : State) (p v : Nat) : State :=
  s.onWrite p false (reg_ICU_PORT.offset p 0) (fun s => s.portHint p (v + 4 * s.get ICU_PORT.FAILOVER_ROUTE p))

/-- PORT_IDLE_HINT (R409). -/
def execPortIdleHint (p : Port) (s : State) : Host.Outcome State Fault Refusal := done (s.hintCmd p.val 1)

/-- PORT_SLEEP_HINT (R410). -/
def execPortSleepHint (p : Port) (s : State) : Host.Outcome State Fault Refusal := done (s.hintCmd p.val 2)

/-- PORT_WAKE (R411). -/
def execPortWake (p : Port) (s : State) : Host.Outcome State Fault Refusal := done (s.portWake p.val)

/-- EVIN_CHANGE (R414). -/
def execEvinChange (i : Fin 16) (level : Bool) (s : State) : Host.Outcome State Fault Refusal := done (s.evin i.val level)

/-! Interrupts. -/

/-- ICU_PEND_CLEAR (R401). -/
def execIcuPendClear (p : Port) (w : Fin 36) (v : Word) (s : State) : Host.Outcome State Fault Refusal :=
  done (s.onWrite p.val false (reg_ICU_PEND.offset w.val 0) (fun s => s.pendClear w.val v.toNat))

/-- A write of ICU_SRCi by a port (R406). -/
def State.sourceCmd (s : State) (p i v : Nat) : State :=
  let off := reg_ICU_SRC.offset i 0
  s.onWrite p false off (fun s => if (s.srcWrite i v).2 then (s.srcWrite i v).1.reject (.port p) 1 false off
    else (s.srcWrite i v).1)

/-- ICU_SRC_WRITE (R406). -/
def execIcuSrcWrite (p : Port) (i : Fin 1152) (v : Word) (s : State) : Host.Outcome State Fault Refusal :=
  done (s.sourceCmd p.val i.val v.toNat)

/-- VECTOR_TIMER_EXPIRE (R405). -/
def execVectorTimerExpire (p : Port) (vec : Fin 64) (s : State) : Host.Outcome State Fault Refusal :=
  done (s.vecExpire p.val vec.val)

/-- MSIX_MESSAGE_SEND (R405, R407). -/
def execMsixMessageSend (p : Port) (vec : Fin 64) (s : State) : Host.Outcome State Fault Refusal :=
  done (s.msixMessage p.val vec.val)

/-- MSIX_UNMASK (R407): the Mask bit of a vector clears; messages held in the PBA leave. -/
def execMsixUnmask (p : Port) (vec : Fin 64) (s : State) : Host.Outcome State Fault Refusal :=
  done (s.onWrite p.val false (reg_MSIX_ENT.offset vec.val 3)
    (fun s => (s.set MSIX_ENT.MASK (64 * p.val + vec.val) 0).pbaSend p.val))

/-! Sessions. -/

/-- CHALLENGE_REQUEST (R395). -/
def execChallengeRequest (p : Port) (s : State) : Host.Outcome State Fault Refusal :=
  done (s.onWrite p.val true reg_OFC_CHAL_GO.base (fun s => s.chalGo p.val 1))

/-- CHALLENGE_EXPIRE (R395). -/
def execChallengeExpire (p : Port) (s : State) : Host.Outcome State Fault Refusal := done (s.chalExpire p.val)

/-- RESPONSE_SUBMIT (R393, R395): the last word of OFC_RESP. -/
def execResponseSubmit (p : Port) (v : Word) (s : State) : Host.Outcome State Fault Refusal :=
  done (s.onWrite p.val true (reg_OFC_RESP.offset 3 0) (fun s => s.respSubmit p.val v.toNat))

/-- RESPONSE_CHECK_COMPLETE (R395): Chisel has checked the response of port p. -/
def execResponseCheckComplete (p : Port) (s : State) : Host.Outcome State Fault Refusal :=
  done (match s.ch.chsJob with
    | some (.check c key gen) => if c.port = p.val then s.checkEnd c key gen else s
    | _ => s)

/-- SESSION_LOCK (R396). -/
def execSessionLock (p : Port) (s : State) : Host.Outcome State Fault Refusal :=
  done (s.onWrite p.val true reg_OFC_LOCK.base (fun s => s.sessLock p.val 1))

/-- SESSION_IDLE_TIMEOUT (R396). -/
def execSessionIdleTimeout (p : Port) (s : State) : Host.Outcome State Fault Refusal := done (s.sessionIdle p.val)

/-! Semaphores. -/

/-- Both ports read semaphore n in one CCLK cycle (R398). -/
def State.semBoth (s : State) (n : Nat) : State :=
  let off := reg_GLB_SEM.offset n 0
  if s.reachable 0 ∧ s.reachable 1 then
    s.access 0 0 false false off (fun s => s.access 1 0 false false off (fun s =>
      let t := s.semTie n
      (t.emit (.readData 0 0 false off (t.semValue 0 n))).emit (.readData 1 0 false off (t.semValue 1 n))))
  else (s.readReg 0 0 reg_GLB_SEM n 0).readReg 1 0 reg_GLB_SEM n 0

/-- SEMAPHORE_READ (R398). -/
def execSemaphoreRead (who : SemReader) (n : Fin 32) (s : State) : Host.Outcome State Fault Refusal :=
  done (match who with
    | .one p => s.readReg p.val 0 reg_GLB_SEM n.val 0
    | .both => s.semBoth n.val)

/-- SEMAPHORE_RELEASE (R398). -/
def execSemaphoreRelease (p : Port) (n : Fin 32) (s : State) : Host.Outcome State Fault Refusal :=
  done (s.onWrite p.val false (reg_GLB_SEM.offset n.val 0) (fun s => s.semWrite p.val n.val 0x100))

/-! Staging and flash. -/

/-- STAGING_GO (R432). -/
def execStagingGo (p : Port) (s : State) : Host.Outcome State Fault Refusal :=
  done (s.onWrite p.val false reg_JIG_STG_CTL.base (fun s => s.stgGo p.val 1))

/-- STAGING_FETCH_COMPLETE (R432). -/
def execStagingFetchComplete (data : FlashRead) (s : State) : Host.Outcome State Fault Refusal := done (s.stgFetched data)

/-- STAGING_CHECK_COMPLETE (R433). -/
def execStagingCheckComplete (s : State) : Host.Outcome State Fault Refusal := done s.stgChecked

/-- FLASH_COMMAND (R434). -/
def execFlashCommand (p : Port) (v : Word) (s : State) : Host.Outcome State Fault Refusal :=
  done (s.onWrite p.val false reg_JIG_FL_CMD.base (fun s => s.flashCmd p.val v.toNat))

/-- FLASH_COMMAND_COMPLETE (R435). -/
def execFlashCommandComplete (p : Port) (data : List Octet) (s : State) : Host.Outcome State Fault Refusal :=
  done (s.flashDone p.val data)

/-! Counters, the sampler, the event log. -/

/-- SNAPSHOT_GO (R439): a write of CNT_CTL with GO, DEF_MASK as it stands. -/
def execSnapshotGo (p : Port) (s : State) : Host.Outcome State Fault Refusal :=
  done (s.onWrite p.val false reg_CNT_CTL.base
    (fun s => s.cntCtl (.port p.val) (0x100 + s.get CNT_CTL.DEF_MASK 0) reg_CNT_CTL.base))

/-- SWEEP_COMPLETE (R440). -/
def execSweepComplete (s : State) : Host.Outcome State Fault Refusal := done s.sweepDone

/-- SAMPLER_ENABLE (R443): EN 1. -/
def execSamplerEnable (p : Port) (v : Word) (s : State) : Host.Outcome State Fault Refusal :=
  done (s.onWrite p.val false reg_CNT_SMP_CTL.base
    (fun s => s.smpCtl (.port p.val) (putBits v.toNat 0 1 1) reg_CNT_SMP_CTL.base))

/-- SAMPLER_RECORD_READ (R444). -/
def execSamplerRecordRead (p : Port) (fn : Fin 2) (i : Fin 4096) (s : State) : Host.Outcome State Fault Refusal :=
  done (s.readReg p.val fn.val reg_SNP_SMP i.val 0)

/-- EVENT_LOG_READ (R378). -/
def execEventLogRead (p : Port) (fn : Fin 2) (i : Fin 256) (s : State) : Host.Outcome State Fault Refusal :=
  done (s.readReg p.val fn.val reg_CLM_LOG i.val 0)

end Sys2Proof.Machine
end

