-- ==== Sys2Proof/Machine/RunTime.lean ====
section
/-!
DEFINITION. Machine/RunTime.lean: the meanings of the commands of network time, the Gauge, autonomous keying and shaper
epochs.
-/
namespace Sys2Proof.Machine

/-! Network time. -/

/-- TIM_INCR_LO (R120). -/
def execTimIncrLo (p : Port) (v : Word) (s : State) : Host.Outcome State Fault Refusal :=
  done (s.onWrite p.val false (reg_TIM_INCR.offset 0 0) (fun s => s.incrLo (.port p.val) v.toNat))

/-- TIM_INCR_HI (R120). -/
def execTimIncrHi (p : Port) (v : Word) (s : State) : Host.Outcome State Fault Refusal :=
  done (s.onWrite p.val false (reg_TIM_INCR.offset 0 1) (fun s => s.incrHi (.port p.val) v.toNat))

/-- TIM_SLEW (R121). -/
def execTimSlew (p : Port) (v : Word) (s : State) : Host.Outcome State Fault Refusal :=
  done (s.onWrite p.val false reg_TIM_SLEW.base (fun s => s.slewWrite (.port p.val) v.toNat))

/-- The TCLK edge that applies the last of a slew (R121). -/
def State.slewEnd (s : State) : State :=
  if s.tm.slew ≠ 0 ∧ s.tick.tm.slew = 0 then s.tick.skewCheck.sweepTick else s

/-- SLEW_COMPLETE (R121). -/
def execSlewComplete (s : State) : Host.Outcome State Fault Refusal := done s.slewEnd

/-- A write of TIM_STEP's last word with GO and a KIND (R122). -/
def State.stepCmd (s : State) (p kind : Nat) : State :=
  s.onWrite p false (reg_TIM_STEP.offset 0 3) (fun s => s.stepWrite (.port p) 3 (1 + 2 * kind) (reg_TIM_STEP.offset 0 3))

/-- TIME_STEP_SET (R123). -/
def execTimeStepSet (p : Port) (s : State) : Host.Outcome State Fault Refusal := finish (s.stepCmd p.val 1)

/-- TIME_STEP_FORWARD (R123). -/
def execTimeStepForward (p : Port) (s : State) : Host.Outcome State Fault Refusal := finish (s.stepCmd p.val 2)

/-- TIME_STEP_BACKWARD (R123). -/
def execTimeStepBackward (p : Port) (s : State) : Host.Outcome State Fault Refusal := finish (s.stepCmd p.val 3)

/-- TIM_KEEP (R124): any value. -/
def execTimKeep (p : Port) (_v : Word) (s : State) : Host.Outcome State Fault Refusal :=
  done (s.onWrite p.val false reg_TIM_KEEP.base (fun s => s.disciplined))

/-- PPS_EDGE (R125, R127, R128). -/
def execPpsEdge (s : State) : Host.Outcome State Fault Refusal := finish (s.powered (fun s => s.ppsEdge))

/-- TREF_MEASURE (R125). -/
def execTrefMeasure (tclk : Nat) (s : State) : Host.Outcome State Fault Refusal :=
  done (s.powered (fun s => s.trefMeasure tclk))

/-- No PPS_IN edge has come for 1 s and 1 ms (R128). -/
def State.ppsLost (s : State) : State :=
  if s.on TIM_STATUS.PPS_OK 0 ∧ s.tm.ppsEdgeAt + 1001 * ms ≤ s.mono + 1 then
    ({ s with tm.ppsRun := 0 }.set TIM_STATUS.PPS_OK 0 0).pend 0x023
  else s

/-- PPS_OK_FALL (R128). -/
def execPpsOkFall (s : State) : Host.Outcome State Fault Refusal := done s.ppsLost

/-- TREF_IN comes within 50 ppm of 10 MHz or leaves that range (R128). -/
def State.trefSet (s : State) (ok : Bool) : State :=
  if s.on TIM_STATUS.TREF_OK 0 = ok then s
  else
    let s := s.set TIM_STATUS.TREF_OK 0 (b2n ok)
    if ok then s else { s with tm.trefAt := s.mono, tm.ppsRun := 0 }.pend 0x024

/-- TREF_OK_CHANGE (R128). -/
def execTrefOkChange (ok : Bool) (s : State) : Host.Outcome State Fault Refusal :=
  done (s.powered (fun s => s.trefSet ok))

/-- The discipline has been silent, or TREF_IN bad, for as long as R127 allows. -/
def State.undisciplined (s : State) : Bool :=
  if s.get TIM_DISC.MODE 0 = 0 then decide (s.tm.discAt + s.get TIM_DISC.KEEP_TIMEOUT 0 * sec ≤ s.mono)
  else decide (s.tm.ppsAt + 1500 * ms ≤ s.mono) || (!s.on TIM_STATUS.TREF_OK 0 && decide (s.tm.trefAt + 10 * us ≤ s.mono))

/-- HOLDOVER_ENTER (R127). -/
def execHoldoverEnter (s : State) : Host.Outcome State Fault Refusal :=
  done (if s.undisciplined then s.holdoverEnter else s)

/-- HOLDOVER_ERR_LIMIT (R129); the schedules' own limits are seen with it (R243). -/
def execHoldoverErrLimit (s : State) : Host.Outcome State Fault Refusal := done s.hoLimit.skewCheck

/-- A TCLK edge just past a whole second of valid network time sets the RTC (R126). -/
def State.rtcAlign (s : State) : State :=
  if s.mode ≠ 0 ∧ s.on TIM_STATUS.VALID 0 ∧ s.now % sec < ns then
    { s with tm.rtc := s.now / sec * 32768, tm.rtcMono := s.mono }.set TIM_RTC_STATUS.VALID 0 1
  else s

/-- RTC_ALIGN (R126). -/
def execRtcAlign (s : State) : Host.Outcome State Fault Refusal := done s.rtcAlign

/-- LREFCLK fails (R27, R130, R313): the time PLL takes the crystal, the line lanes lose lock. -/
def State.lrefLost (s : State) : State :=
  if s.on TIM_STATUS.TCLK_XTAL 0 then s
  else (((s.set TIM_STATUS.TCLK_XTAL 0 1).pend 0x025).set GLB_REFCLK_STATUS.LREF_OK 0 0).refLost 64 32

/-- LREFCLK_FAIL (R130). -/
def execLrefclkFail (s : State) : Host.Outcome State Fault Refusal := finish (s.powered (fun s => s.lrefLost))

/-- TIME_COPY_DISAGREE (R342, R344). -/
def execTimeCopyDisagree (c0 c1 c2 : Nat) (s : State) : Host.Outcome State Fault Refusal :=
  done (s.powered (fun s => s.timeCopies c0 c1 c2))

/-- TIM_TXQ_READ (R135). -/
def execTimTxqRead (p : Port) (fn : Fin 2) (lp : Fin 16) (s : State) : Host.Outcome State Fault Refusal :=
  done (s.readReg p.val fn.val reg_TIM_TXQ lp.val 0)

/-! The Gauge. -/

/-- GAUGE_ARM (R140): word 0 with ENABLE 1. -/
def execGaugeArm (p : Port) (i : Fin 1024) (v : Word) (s : State) : Host.Outcome State Fault Refusal :=
  finish (s.putEntry p.val reg_GAU_ENT i.val (putBits v.toNat 0 1 1))

/-- GAUGE_DISARM (R140): word 0 with ENABLE 0. -/
def execGaugeDisarm (p : Port) (i : Fin 1024) (v : Word) (s : State) : Host.Outcome State Fault Refusal :=
  finish (s.putEntry p.val reg_GAU_ENT i.val (putBits v.toNat 0 1 0))

/-- GAUGE_NONE (R141, R145): the firing is recorded. -/
def execGaugeNone (i : Fin 1024) (s : State) : Host.Outcome State Fault Refusal := finish (s.gauAct i.val 0 id)

/-- The leading edge of a pulse on a pin, or a restart of its width (R137, R138). -/
def State.pulseStart (s : State) (pin : Nat) : State :=
  { s with tm.pulseEnd := s.tm.pulseEnd.set 0 pin (s.mono + s.get TIM_PULSE_CFG.WIDTH pin * 100 * ns) }.pinsFrom s

/-- PULSE_OUT (R138, R141): TARGET bits 1:0 name the pin. -/
def execPulseOut (i : Fin 1024) (s : State) : Host.Outcome State Fault Refusal :=
  finish (s.gauAct i.val 1 (fun t => t.pulseStart (s.get GAU_ENT.TARGET i.val % 4)))

/-- The width of a pin's pulse has passed. -/
def State.pulseStop (s : State) (pin : Nat) : State :=
  let e := Tab.get 0 s.tm.pulseEnd pin
  if e ≠ 0 ∧ e ≤ s.mono then { s with tm.pulseEnd := s.tm.pulseEnd.set 0 pin 0 }.pinsFrom s else s

/-- PULSE_WIDTH_END (R138). -/
def execPulseWidthEnd (pin : Fin 4) (s : State) : Host.Outcome State Fault Refusal := done (s.pulseStop pin.val)

/-- MODE_OVERLAY (R141): the request is resolved as one of GLB_MODE_REQ (R45, R47). -/
def execModeOverlay (i : Fin 1024) (s : State) : Host.Outcome State Fault Refusal :=
  finish (s.gauAct i.val 2 (fun t => t.modeRequest (s.get GAU_ENT.TARGET i.val) 2 3 (prioGauge i.val)))

/-- An SA_SWITCH firing of one SCOPE (R141). -/
def State.saFire (s : State) (i scope : Nat) (act : State → State) : State :=
  if s.get GAU_ENT.SCOPE i = scope then s.gauAct i 3 act else s

/-- SA_SWITCH_TX_SC (R77, R141). -/
def execSaSwitchTxSc (i : Fin 1024) (s : State) : Host.Outcome State Fault Refusal :=
  finish (s.saFire i.val 0 (fun t => t.txSwitchOne .gauge (s.get GAU_ENT.TARGET i.val) (reg_GAU_ENT.offset i.val 0)))

/-- SA_SWITCH_TX_GROUP (R77, R141). -/
def execSaSwitchTxGroup (i : Fin 1024) (s : State) : Host.Outcome State Fault Refusal :=
  finish (s.saFire i.val 1 (fun t => t.txSwitchGroup (s.get GAU_ENT.TARGET i.val)))

/-- SA_SWITCH_RX_SC (R105, R141). -/
def execSaSwitchRxSc (i : Fin 1024) (s : State) : Host.Outcome State Fault Refusal :=
  finish (s.saFire i.val 2 (fun t => t.rxActivateReq (s.get GAU_ENT.TARGET i.val)))

/-- SA_SWITCH_RX_GROUP (R105, R141). -/
def execSaSwitchRxGroup (i : Fin 1024) (s : State) : Host.Outcome State Fault Refusal :=
  finish (s.saFire i.val 3 (fun t => t.rxActivateGroup (s.get GAU_ENT.TARGET i.val)))

/-- KEY_DERIVE (R141, R232). -/
def execKeyDerive (i : Fin 1024) (s : State) : Host.Outcome State Fault Refusal :=
  finish (s.gauAct i.val 4 (fun t => t.passBegin (s.get GAU_ENT.TARGET i.val)))

/-- A SHAPER_EPOCH firing of one PARAM (R254). -/
def State.epochFire (s : State) (i param : Nat) : State :=
  if s.get GAU_ENT.PARAM i = param then s.gauAct i 5 (fun t => t.shpEpoch (s.get GAU_ENT.TARGET i) param) else s

/-- SHAPER_EPOCH_ADOPT (R254). -/
def execShaperEpochAdopt (i : Fin 1024) (s : State) : Host.Outcome State Fault Refusal := finish (s.epochFire i.val 0)

/-- SHAPER_EPOCH_FULL (R254). -/
def execShaperEpochFull (i : Fin 1024) (s : State) : Host.Outcome State Fault Refusal := finish (s.epochFire i.val 1)

/-- SHAPER_EPOCH_ZERO (R254). -/
def execShaperEpochZero (i : Fin 1024) (s : State) : Host.Outcome State Fault Refusal := finish (s.epochFire i.val 2)

/-- CARRIER_START (R267): START counts from the due time, or from a LATE firing. -/
def execCarrierStart (i : Fin 1024) (s : State) : Host.Outcome State Fault Refusal :=
  let from_ := if Tab.get 0 s.ga.gauLate i.val ≠ 0 then s.now else s.gauDue i.val
  finish (s.gauAct i.val 6 (fun t => t.carStart (s.get GAU_ENT.TARGET i.val % 16) from_))

/-- COUNTER_SNAPSHOT (R439). -/
def execCounterSnapshot (i : Fin 1024) (s : State) : Host.Outcome State Fault Refusal :=
  finish (s.gauAct i.val 7 (fun t => t.sweepStart true i.val (s.get GAU_ENT.TARGET i.val)))

/-- A launch window of line port k until an instant of network time (R153); a longer one that is open stays. -/
def State.windowOpen (s : State) (k until_ : Nat) : State :=
  if until_ ≤ s.now then s else { s with ga.launchWin := s.ga.launchWin.set 0 k (max until_ (Tab.get 0 s.ga.launchWin k)) }

/-- LAUNCH_WINDOW (R153): from the due time for PARAM ns. -/
def execLaunchWindow (i : Fin 1024) (s : State) : Host.Outcome State Fault Refusal :=
  finish (s.gauAct i.val 8 (fun t =>
    t.windowOpen (s.get GAU_ENT.TARGET i.val % 16) (s.gauDue i.val + s.get GAU_ENT.PARAM i.val * ns)))

/-- A launch window has passed. -/
def State.windowClose (s : State) (k : Nat) : State :=
  let e := Tab.get 0 s.ga.launchWin k
  if e ≠ 0 ∧ e ≤ s.now then { s with ga.launchWin := s.ga.launchWin.set 0 k 0 } else s

/-- LAUNCH_WINDOW_END (R153). -/
def execLaunchWindowEnd (lp : Fin 16) (s : State) : Host.Outcome State Fault Refusal := done (s.windowClose lp.val)

/-- GAUGE_INTERRUPT (R141): source 0x040 + TARGET. -/
def execGaugeInterrupt (i : Fin 1024) (s : State) : Host.Outcome State Fault Refusal :=
  finish (s.gauAct i.val 9 (fun t => t.pend (0x040 + s.get GAU_ENT.TARGET i.val % 64)))

/-- GAU_RING_HEAD_READ (R145). -/
def execGauRingHeadRead (p : Port) (s : State) : Host.Outcome State Fault Refusal :=
  done (s.readReg p.val 0 reg_GAU_RING_HEAD 0 0)

/-! Autonomous keying. -/

/-- SCHEDULE_VALID_SET (R229, R230): word 0 with VALID 1. -/
def execScheduleValidSet (p : Port) (j : Fin 256) (v : Word) (s : State) : Host.Outcome State Fault Refusal :=
  finish (s.putEntry p.val reg_GAU_SCH j.val (putBits v.toNat 0 1 1))

/-- SCHEDULE_VALID_CLEAR (R230): word 0 with VALID 0. -/
def execScheduleValidClear (p : Port) (j : Fin 256) (v : Word) (s : State) : Host.Outcome State Fault Refusal :=
  finish (s.putEntry p.val reg_GAU_SCH j.val (putBits v.toNat 0 1 0))

/-- The first pass of a waiting schedule (R230): at T0 - LEAD, or when time becomes valid after it. -/
def State.firstPass (s : State) (j : Nat) : State :=
  if s.au.firstDue.contains j ∧ s.schRuns j ∧ s.schT0 j ≤ s.now + s.schLead j then
    { s with au.firstDue := s.au.firstDue.filter (· != j) }.passBegin j
  else s

/-- SCHEDULE_FIRST_PASS (R230). -/
def execScheduleFirstPass (j : Fin 256) (s : State) : Host.Outcome State Fault Refusal := finish (s.firstPass j.val)

/-- RESYNC (R237). -/
def execResync (p : Port) (j : Fin 256) (s : State) : Host.Outcome State Fault Refusal :=
  finish (s.onWrite p.val false reg_GAU_SCHED_CMD.base (fun s => s.passBegin j.val))

/-- AUTOKEY_SA_DERIVE (R233). -/
def execAutokeySaDerive (r : Region) (fault : Bool) (s : State) : Host.Outcome State Fault Refusal :=
  finish (s.autTurn r.val fault)

/-- AUTOKEY_PASS_COMPLETE (R232). -/
def execAutokeyPassComplete (j : Fin 256) (s : State) : Host.Outcome State Fault Refusal := finish (s.passEnd j.val)

/-- EPOCH_INSTALL_INSTANT (R235). -/
def execEpochInstallInstant (d : Dir) (sc : Fin 4096) (s : State) : Host.Outcome State Fault Refusal :=
  finish (match d with
    | .eg => s.autInstallTx sc.val
    | .ig => s.autActivateRx sc.val)

/-- EPOCH_SWITCH_INSTANT (R235). -/
def execEpochSwitchInstant (sc : Fin 4096) (s : State) : Host.Outcome State Fault Refusal :=
  finish (s.autSwitch sc.val)

end Sys2Proof.Machine
end

