-- ==== Sys2Proof/Machine/Dispatch.lean ====
section
/-! DEFINITION. Machine/Dispatch.lean: one arm per command, each a direct call of its meaning. -/
namespace Sys2Proof.Machine

/-- The effect of a command on everything but the queue. -/
def exec (i : Instr) (s : State) : Host.Outcome State Fault Refusal :=
  match i with
  | .powerGood feedsA feedsB backupKept resetLow => Sys2Proof.Machine.execPowerGood feedsA feedsB backupKept resetLow s
  | .coreRailLoss => Sys2Proof.Machine.execCoreRailLoss s
  | .railGroupLoss g => Sys2Proof.Machine.execRailGroupLoss g s
  | .resetNAssert => Sys2Proof.Machine.execResetNAssert s
  | .crystalStable => Sys2Proof.Machine.execCrystalStable s
  | .fuseSense err => Sys2Proof.Machine.execFuseSense err s
  | .romSelftest romOk chiselOk pkeOk => Sys2Proof.Machine.execRomSelftest romOk chiselOk pkeOk s
  | .rngStartupTestComplete fail => Sys2Proof.Machine.execRngStartupTestComplete fail s
  | .sramBistComplete => Sys2Proof.Machine.execSramBistComplete s
  | .imageSelect a b => Sys2Proof.Machine.execImageSelect a b s
  | .imageApply => Sys2Proof.Machine.execImageApply s
  | .keyRecordUnwrap => Sys2Proof.Machine.execKeyRecordUnwrap s
  | .lpddr5xTrainingComplete pages chans => Sys2Proof.Machine.execLpddr5xTrainingComplete pages chans s
  | .attestationMeasureComplete => Sys2Proof.Machine.execAttestationMeasureComplete s
  | .bootComplete => Sys2Proof.Machine.execBootComplete s
  | .autoModeRequest => Sys2Proof.Machine.execAutoModeRequest s
  | .modeReqStandby p => Sys2Proof.Machine.execModeReqStandby p s
  | .modeReqSecure p => Sys2Proof.Machine.execModeReqSecure p s
  | .modeReqGuarded p => Sys2Proof.Machine.execModeReqGuarded p s
  | .overlayComplete => Sys2Proof.Machine.execOverlayComplete s
  | .degradedClearTimer => Sys2Proof.Machine.execDegradedClearTimer s
  | .ofcLockdown p => Sys2Proof.Machine.execOfcLockdown p s
  | .dbgEnter who => Sys2Proof.Machine.execDbgEnter who s
  | .ofcResetWarm p => Sys2Proof.Machine.execOfcResetWarm p s
  | .ofcResetWarmAtArm p => Sys2Proof.Machine.execOfcResetWarmAtArm p s
  | .ofcResetWarmAtDisarm p => Sys2Proof.Machine.execOfcResetWarmAtDisarm p s
  | .warmAtTimeReached => Sys2Proof.Machine.execWarmAtTimeReached s
  | .advFactory root => Sys2Proof.Machine.execAdvFactory root s
  | .advProvisioned p certHash => Sys2Proof.Machine.execAdvProvisioned p certHash s
  | .takeOwnership p => Sys2Proof.Machine.execTakeOwnership p s
  | .releaseOwnership p => Sys2Proof.Machine.execReleaseOwnership p s
  | .scrap who => Sys2Proof.Machine.execScrap who s
  | .raiseMinSvn p => Sys2Proof.Machine.execRaiseMinSvn p s
  | .lifecycleChangeComplete => Sys2Proof.Machine.execLifecycleChangeComplete s
  | .ofcTxResumeLo p v => Sys2Proof.Machine.execOfcTxResumeLo p v s
  | .ofcTxResumeHi p v => Sys2Proof.Machine.execOfcTxResumeHi p v s
  | .txResumeUpdate => Sys2Proof.Machine.execTxResumeUpdate s
  | .hostFrameReceive hp octets badCode back => Sys2Proof.Machine.execHostFrameReceive hp octets badCode back s
  | .admission r => Sys2Proof.Machine.execAdmission r s
  | .deepWriteComplete r => Sys2Proof.Machine.execDeepWriteComplete r s
  | .pfcRefresh hp => Sys2Proof.Machine.execPfcRefresh hp s
  | .dequeueDecision lp => Sys2Proof.Machine.execDequeueDecision lp s
  | .txHoldTimeout sc => Sys2Proof.Machine.execTxHoldTimeout sc s
  | .deepReadBack q => Sys2Proof.Machine.execDeepReadBack q s
  | .dispatch r d => Sys2Proof.Machine.execDispatch r d s
  | .pairFrameComplete r d k => Sys2Proof.Machine.execPairFrameComplete r d k s
  | .pairFault r d k cause => Sys2Proof.Machine.execPairFault r d k cause s
  | .pairKatComplete r d k pass => Sys2Proof.Machine.execPairKatComplete r d k pass s
  | .spareKat r d pass => Sys2Proof.Machine.execSpareKat r d pass s
  | .launchHoldExpire lp cq => Sys2Proof.Machine.execLaunchHoldExpire lp cq s
  | .launchSlotDeadline lp => Sys2Proof.Machine.execLaunchSlotDeadline lp s
  | .lineFrameTransmit lp => Sys2Proof.Machine.execLineFrameTransmit lp s
  | .lineFrameReceive lp octets badCode back => Sys2Proof.Machine.execLineFrameReceive lp octets badCode back s
  | .replayPrecheck r => Sys2Proof.Machine.execReplayPrecheck r s
  | .hostPortTransmit hp => Sys2Proof.Machine.execHostPortTransmit hp s
  | .registerWrite p fn bar2 off v be => Sys2Proof.Machine.execRegisterWrite p fn bar2 off v be s
  | .heldWordWrite p bar2 off v => Sys2Proof.Machine.execHeldWordWrite p bar2 off v s
  | .clsRuleCommit p d idx v => Sys2Proof.Machine.execClsRuleCommit p d idx v s
  | .wideLowRead p fn bar2 off => Sys2Proof.Machine.execWideLowRead p fn bar2 off s
  | .rcRead p fn bar2 off => Sys2Proof.Machine.execRcRead p fn bar2 off s
  | .scValidSet p sc v => Sys2Proof.Machine.execScValidSet p sc v s
  | .scValidClear p sc v => Sys2Proof.Machine.execScValidClear p sc v s
  | .rxScValidSet p sc v => Sys2Proof.Machine.execRxScValidSet p sc v s
  | .rxScValidClear p sc v => Sys2Proof.Machine.execRxScValidClear p sc v s
  | .txsaSwitch p sc => Sys2Proof.Machine.execTxsaSwitch p sc s
  | .txsaGroupSwitch p g => Sys2Proof.Machine.execTxsaGroupSwitch p g s
  | .rxsaActivate p sc => Sys2Proof.Machine.execRxsaActivate p sc s
  | .rxsaGroupActivate p g => Sys2Proof.Machine.execRxsaGroupActivate p g s
  | .rxsaRetire p sc => Sys2Proof.Machine.execRxsaRetire p sc s
  | .rxsaGroupRetire p g => Sys2Proof.Machine.execRxsaGroupRetire p g s
  | .retireAtReached sa => Sys2Proof.Machine.execRetireAtReached sa s
  | .timIncrLo p v => Sys2Proof.Machine.execTimIncrLo p v s
  | .timIncrHi p v => Sys2Proof.Machine.execTimIncrHi p v s
  | .timSlew p v => Sys2Proof.Machine.execTimSlew p v s
  | .slewComplete => Sys2Proof.Machine.execSlewComplete s
  | .timeStepSet p => Sys2Proof.Machine.execTimeStepSet p s
  | .timeStepForward p => Sys2Proof.Machine.execTimeStepForward p s
  | .timeStepBackward p => Sys2Proof.Machine.execTimeStepBackward p s
  | .timKeep p v => Sys2Proof.Machine.execTimKeep p v s
  | .ppsEdge => Sys2Proof.Machine.execPpsEdge s
  | .trefMeasure tclk => Sys2Proof.Machine.execTrefMeasure tclk s
  | .holdoverEnter => Sys2Proof.Machine.execHoldoverEnter s
  | .holdoverErrLimit => Sys2Proof.Machine.execHoldoverErrLimit s
  | .rtcAlign => Sys2Proof.Machine.execRtcAlign s
  | .lrefclkFail => Sys2Proof.Machine.execLrefclkFail s
  | .timeCopyDisagree c0 c1 c2 => Sys2Proof.Machine.execTimeCopyDisagree c0 c1 c2 s
  | .timTxqRead p fn lp => Sys2Proof.Machine.execTimTxqRead p fn lp s
  | .gaugeArm p idx v => Sys2Proof.Machine.execGaugeArm p idx v s
  | .gaugeDisarm p idx v => Sys2Proof.Machine.execGaugeDisarm p idx v s
  | .gaugeNone idx => Sys2Proof.Machine.execGaugeNone idx s
  | .pulseOut idx => Sys2Proof.Machine.execPulseOut idx s
  | .pulseWidthEnd pin => Sys2Proof.Machine.execPulseWidthEnd pin s
  | .modeOverlay idx => Sys2Proof.Machine.execModeOverlay idx s
  | .saSwitchTxSc idx => Sys2Proof.Machine.execSaSwitchTxSc idx s
  | .saSwitchTxGroup idx => Sys2Proof.Machine.execSaSwitchTxGroup idx s
  | .saSwitchRxSc idx => Sys2Proof.Machine.execSaSwitchRxSc idx s
  | .saSwitchRxGroup idx => Sys2Proof.Machine.execSaSwitchRxGroup idx s
  | .keyDerive idx => Sys2Proof.Machine.execKeyDerive idx s
  | .shaperEpochAdopt idx => Sys2Proof.Machine.execShaperEpochAdopt idx s
  | .shaperEpochFull idx => Sys2Proof.Machine.execShaperEpochFull idx s
  | .shaperEpochZero idx => Sys2Proof.Machine.execShaperEpochZero idx s
  | .carrierStart idx => Sys2Proof.Machine.execCarrierStart idx s
  | .counterSnapshot idx => Sys2Proof.Machine.execCounterSnapshot idx s
  | .launchWindow idx => Sys2Proof.Machine.execLaunchWindow idx s
  | .launchWindowEnd lp => Sys2Proof.Machine.execLaunchWindowEnd lp s
  | .gaugeInterrupt idx => Sys2Proof.Machine.execGaugeInterrupt idx s
  | .gauRingHeadRead p => Sys2Proof.Machine.execGauRingHeadRead p s
  | .kstGenerate p slot k256 replace => Sys2Proof.Machine.execKstGenerate p slot k256 replace s
  | .kstInvalidate p slot => Sys2Proof.Machine.execKstInvalidate p slot s
  | .kstErase p slot => Sys2Proof.Machine.execKstErase p slot s
  | .kstEraseSa p sa => Sys2Proof.Machine.execKstEraseSa p sa s
  | .kstPersist p slot => Sys2Proof.Machine.execKstPersist p slot s
  | .kstUnpersist p slot => Sys2Proof.Machine.execKstUnpersist p slot s
  | .kstCommandStart => Sys2Proof.Machine.execKstCommandStart s
  | .kstZeroiseComplete p => Sys2Proof.Machine.execKstZeroiseComplete p s
  | .ofcBootGo p v => Sys2Proof.Machine.execOfcBootGo p v s
  | .attGo p => Sys2Proof.Machine.execAttGo p s
  | .attReportComplete p cert => Sys2Proof.Machine.execAttReportComplete p cert s
  | .enc p w v => Sys2Proof.Machine.execEnc p w v s
  | .dec p w v => Sys2Proof.Machine.execDec p w v s
  | .cmac p w v => Sys2Proof.Machine.execCmac p w v s
  | .wrap p w v => Sys2Proof.Machine.execWrap p w v s
  | .exportKey p w v => Sys2Proof.Machine.execExportKey p w v s
  | .unwrapSlot p w v => Sys2Proof.Machine.execUnwrapSlot p w v s
  | .unwrapSa p w v => Sys2Proof.Machine.execUnwrapSa p w v s
  | .deriveSlot p w v => Sys2Proof.Machine.execDeriveSlot p w v s
  | .deriveSa p w v => Sys2Proof.Machine.execDeriveSa p w v s
  | .chsEraseSa p w v => Sys2Proof.Machine.execChsEraseSa p w v s
  | .suspend p w v => Sys2Proof.Machine.execSuspend p w v s
  | .restore p w v => Sys2Proof.Machine.execRestore p w v s
  | .abort p w v => Sys2Proof.Machine.execAbort p w v s
  | .chiselGrant => Sys2Proof.Machine.execChiselGrant s
  | .chiselCommandComplete => Sys2Proof.Machine.execChiselCommandComplete s
  | .chiselFault => Sys2Proof.Machine.execChiselFault s
  | .chiselKatComplete pass => Sys2Proof.Machine.execChiselKatComplete pass s
  | .chsDoutRead p w idx => Sys2Proof.Machine.execChsDoutRead p w idx s
  | .pkeSignComplete => Sys2Proof.Machine.execPkeSignComplete s
  | .pkeVerifyComplete => Sys2Proof.Machine.execPkeVerifyComplete s
  | .pkeFault => Sys2Proof.Machine.execPkeFault s
  | .pkeKatComplete pass => Sys2Proof.Machine.execPkeKatComplete pass s
  | .reseed p => Sys2Proof.Machine.execReseed p s
  | .reinst p => Sys2Proof.Machine.execReinst p s
  | .drbgReseedTimer => Sys2Proof.Machine.execDrbgReseedTimer s
  | .rngHealthFail f => Sys2Proof.Machine.execRngHealthFail f s
  | .rngRerunComplete fail => Sys2Proof.Machine.execRngRerunComplete fail s
  | .rngRequest p len => Sys2Proof.Machine.execRngRequest p len s
  | .rngRequestServed p => Sys2Proof.Machine.execRngRequestServed p s
  | .rngOutRead p idx => Sys2Proof.Machine.execRngOutRead p idx s
  | .scheduleValidSet p j v => Sys2Proof.Machine.execScheduleValidSet p j v s
  | .scheduleValidClear p j v => Sys2Proof.Machine.execScheduleValidClear p j v s
  | .scheduleFirstPass j => Sys2Proof.Machine.execScheduleFirstPass j s
  | .resync p j => Sys2Proof.Machine.execResync p j s
  | .autokeySaDerive r fault => Sys2Proof.Machine.execAutokeySaDerive r fault s
  | .autokeyPassComplete j => Sys2Proof.Machine.execAutokeyPassComplete j s
  | .epochInstallInstant d sc => Sys2Proof.Machine.execEpochInstallInstant d sc s
  | .epochSwitchInstant sc => Sys2Proof.Machine.execEpochSwitchInstant sc s
  | .shaperWrite p q v => Sys2Proof.Machine.execShaperWrite p q v s
  | .shaperStage p q v => Sys2Proof.Machine.execShaperStage p q v s
  | .carrierPack lp => Sys2Proof.Machine.execCarrierPack lp s
  | .carrierSlot lp => Sys2Proof.Machine.execCarrierSlot lp s
  | .carrierSlotLate lp => Sys2Proof.Machine.execCarrierSlotLate lp s
  | .carrierStop p lp => Sys2Proof.Machine.execCarrierStop p lp s
  | .carrierRestart lp => Sys2Proof.Machine.execCarrierRestart lp s
  | .reasmTimeout lp => Sys2Proof.Machine.execReasmTimeout lp s
  | .streamLoss lp => Sys2Proof.Machine.execStreamLoss lp s
  | .ringEnable p k v => Sys2Proof.Machine.execRingEnable p k v s
  | .ringDisable p k v => Sys2Proof.Machine.execRingDisable p k v s
  | .ringProdWrite p k prod => Sys2Proof.Machine.execRingProdWrite p k prod s
  | .ringCplAck p k ack => Sys2Proof.Machine.execRingCplAck p k ack s
  | .puntPacketWrite k descs => Sys2Proof.Machine.execPuntPacketWrite k descs s
  | .puntDropRest p k => Sys2Proof.Machine.execPuntDropRest p k s
  | .injectDescriptorFetch k desc => Sys2Proof.Machine.execInjectDescriptorFetch k desc s
  | .injectFrameFetch k data => Sys2Proof.Machine.execInjectFrameFetch k data s
  | .completionZeroLengthRead p vec => Sys2Proof.Machine.execCompletionZeroLengthRead p vec s
  | .veneerEnable p v => Sys2Proof.Machine.execVeneerEnable p v s
  | .veneerDisable p v => Sys2Proof.Machine.execVeneerDisable p v s
  | .rekeyPassStart => Sys2Proof.Machine.execRekeyPassStart s
  | .rekeyPage => Sys2Proof.Machine.execRekeyPage s
  | .deepRead page line raw => Sys2Proof.Machine.execDeepRead page line raw s
  | .deepPartialWrite page line beat data raw => Sys2Proof.Machine.execDeepPartialWrite page line beat data raw s
  | .marchTestComplete page line pass => Sys2Proof.Machine.execMarchTestComplete page line pass s
  | .spareCopyComplete page => Sys2Proof.Machine.execSpareCopyComplete page s
  | .laneLockChange lane locked signal => Sys2Proof.Machine.execLaneLockChange lane locked signal s
  | .snrLow lane => Sys2Proof.Machine.execSnrLow lane s
  | .dfeTapLimit lane taps => Sys2Proof.Machine.execDfeTapLimit lane taps s
  | .dfeAdapted lane taps => Sys2Proof.Machine.execDfeAdapted lane taps s
  | .laneTestComplete lane pass => Sys2Proof.Machine.execLaneTestComplete lane pass s
  | .laneRetest p lane => Sys2Proof.Machine.execLaneRetest p lane s
  | .portEnable p port v => Sys2Proof.Machine.execPortEnable p port v s
  | .portDisable p port v => Sys2Proof.Machine.execPortDisable p port v s
  | .linkChange port aligned rxLf rxRf => Sys2Proof.Machine.execLinkChange port aligned rxLf rxRf s
  | .calibrationComplete port txLat rxLat => Sys2Proof.Machine.execCalibrationComplete port txLat rxLat s
  | .fecDegInterval port codewords corrected uncorrectable symbols => Sys2Proof.Machine.execFecDegInterval port codewords corrected uncorrectable symbols s
  | .tapStep lane => Sys2Proof.Machine.execTapStep lane s
  | .chkClr p lane => Sys2Proof.Machine.execChkClr p lane s
  | .eyeMonitorUpdate lane upper middle lower width snr => Sys2Proof.Machine.execEyeMonitorUpdate lane upper middle lower width snr s
  | .refclkMonitorWindow hPpm lPpm => Sys2Proof.Machine.execRefclkMonitorWindow hPpm lPpm s
  | .modPresenceChange slot present => Sys2Proof.Machine.execModPresenceChange slot present s
  | .modReinit p slot => Sys2Proof.Machine.execModReinit p slot s
  | .moduleReadyPoll slot ready => Sys2Proof.Machine.execModuleReadyPoll slot ready s
  | .moduleIdentify slot vendor part serial => Sys2Proof.Machine.execModuleIdentify slot vendor part serial s
  | .allowListCommit p idx v => Sys2Proof.Machine.execAllowListCommit p idx v s
  | .allowRecheck slot => Sys2Proof.Machine.execAllowRecheck slot s
  | .datapathActivated slot width => Sys2Proof.Machine.execDatapathActivated slot width s
  | .moduleReadyTimeout slot => Sys2Proof.Machine.execModuleReadyTimeout slot s
  | .i2cRetry slot acked => Sys2Proof.Machine.execI2cRetry slot acked s
  | .moduleMonitorPoll slot temp vcc flags bias => Sys2Proof.Machine.execModuleMonitorPoll slot temp vcc flags bias s
  | .modaccRequest p r v => Sys2Proof.Machine.execModaccRequest p r v s
  | .modaccComplete r ack data => Sys2Proof.Machine.execModaccComplete r ack data s
  | .sramUncorrectable owner mac row => Sys2Proof.Machine.execSramUncorrectable owner mac row s
  | .sramScrub corrected => Sys2Proof.Machine.execSramScrub corrected s
  | .rowBistComplete owner result => Sys2Proof.Machine.execRowBistComplete owner result s
  | .crossbarBeatError repeats => Sys2Proof.Machine.execCrossbarBeatError repeats s
  | .channelTrigger c => Sys2Proof.Machine.execChannelTrigger c s
  | .channelRetrainComplete c id => Sys2Proof.Machine.execChannelRetrainComplete c id s
  | .regionAutoRestart r => Sys2Proof.Machine.execRegionAutoRestart r s
  | .regionRestartCmd p r => Sys2Proof.Machine.execRegionRestartCmd p r s
  | .regionRestartComplete r rowsSpared rowsOk passE passI => Sys2Proof.Machine.execRegionRestartComplete r rowsSpared rowsOk passE passI s
  | .feedDivergence g failed mv => Sys2Proof.Machine.execFeedDivergence g failed mv s
  | .pgFall feed => Sys2Proof.Machine.execPgFall feed s
  | .feedRecovered g feed => Sys2Proof.Machine.execFeedRecovered g feed s
  | .braceSwitchCmd p g => Sys2Proof.Machine.execBraceSwitchCmd p g s
  | .clampSupplyTrip x det => Sys2Proof.Machine.execClampSupplyTrip x det s
  | .disagreeWindowClose x => Sys2Proof.Machine.execDisagreeWindowClose x s
  | .kclkOutOfBand => Sys2Proof.Machine.execKclkOutOfBand s
  | .cclkRatioOutOfBand => Sys2Proof.Machine.execCclkRatioOutOfBand s
  | .tempLimit => Sys2Proof.Machine.execTempLimit s
  | .thermalThreshold above => Sys2Proof.Machine.execThermalThreshold above s
  | .evin15ClampAssert => Sys2Proof.Machine.execEvin15ClampAssert s
  | .classWindowClose c => Sys2Proof.Machine.execClassWindowClose c s
  | .coalesceWindowClose => Sys2Proof.Machine.execCoalesceWindowClose s
  | .clampEraseComplete => Sys2Proof.Machine.execClampEraseComplete s
  | .clampLock p v => Sys2Proof.Machine.execClampLock p v s
  | .vbatLow mv => Sys2Proof.Machine.execVbatLow mv s
  | .eventLogRead p fn idx => Sys2Proof.Machine.execEventLogRead p fn idx s
  | .portLoss p => Sys2Proof.Machine.execPortLoss p s
  | .wakeReset p => Sys2Proof.Machine.execWakeReset p s
  | .pcieLinkStateChange p st busMaster msixEnable functionMask => Sys2Proof.Machine.execPcieLinkStateChange p st busMaster msixEnable functionMask s
  | .challengeRequest p => Sys2Proof.Machine.execChallengeRequest p s
  | .challengeExpire p => Sys2Proof.Machine.execChallengeExpire p s
  | .responseSubmit p v => Sys2Proof.Machine.execResponseSubmit p v s
  | .responseCheckComplete p => Sys2Proof.Machine.execResponseCheckComplete p s
  | .sessionLock p => Sys2Proof.Machine.execSessionLock p s
  | .sessionIdleTimeout p => Sys2Proof.Machine.execSessionIdleTimeout p s
  | .semaphoreRead who n => Sys2Proof.Machine.execSemaphoreRead who n s
  | .semaphoreRelease p n => Sys2Proof.Machine.execSemaphoreRelease p n s
  | .icuPendClear p w v => Sys2Proof.Machine.execIcuPendClear p w v s
  | .icuSrcWrite p idx v => Sys2Proof.Machine.execIcuSrcWrite p idx v s
  | .vectorTimerExpire p vec => Sys2Proof.Machine.execVectorTimerExpire p vec s
  | .msixMessageSend p vec => Sys2Proof.Machine.execMsixMessageSend p vec s
  | .msixUnmask p vec => Sys2Proof.Machine.execMsixUnmask p vec s
  | .portIdleHint p => Sys2Proof.Machine.execPortIdleHint p s
  | .portSleepHint p => Sys2Proof.Machine.execPortSleepHint p s
  | .portWake p => Sys2Proof.Machine.execPortWake p s
  | .evinChange idx level => Sys2Proof.Machine.execEvinChange idx level s
  | .stagingGo p => Sys2Proof.Machine.execStagingGo p s
  | .stagingFetchComplete data => Sys2Proof.Machine.execStagingFetchComplete data s
  | .stagingCheckComplete => Sys2Proof.Machine.execStagingCheckComplete s
  | .flashCommand p v => Sys2Proof.Machine.execFlashCommand p v s
  | .flashCommandComplete p data => Sys2Proof.Machine.execFlashCommandComplete p data s
  | .snapshotGo p => Sys2Proof.Machine.execSnapshotGo p s
  | .sweepComplete => Sys2Proof.Machine.execSweepComplete s
  | .samplerEnable p v => Sys2Proof.Machine.execSamplerEnable p v s
  | .samplerRecordRead p fn idx => Sys2Proof.Machine.execSamplerRecordRead p fn idx s
  | .jtagDebugUnlock => Sys2Proof.Machine.execJtagDebugUnlock s
  | .resetNRelease => Sys2Proof.Machine.execResetNRelease s
  | .ppsOkFall => Sys2Proof.Machine.execPpsOkFall s
  | .trefOkChange ok => Sys2Proof.Machine.execTrefOkChange ok s
  | .mclkFail => Sys2Proof.Machine.execMclkFail s
  | .tempRearm => Sys2Proof.Machine.execTempRearm s
  | .clockEventRearm cclk => Sys2Proof.Machine.execClockEventRearm cclk s
  | .vbatPreeraseRearm => Sys2Proof.Machine.execVbatPreeraseRearm s

end Sys2Proof.Machine
end

