-- ==== Sys2Proof/Safety.lean ====
section
/-!
DEFINITION. Safety.lean: the terms in which claims speak of the state: its canonical form, the rules that hold between
commands, what stands before an access of a port acts, and how a command ends.
-/
namespace Sys2Proof.Machine

/-- The register store is in its canonical form: keys rising, no entry at the reset value. -/
def State.wfRegs (s : State) : Bool := Tab.wf 0 s.regs

/-- A standing degradation cause in SECURE or GUARDED goes with a transition in progress (R45). -/
def State.degSafe (s : State) : Prop :=
  ¬(s.degraded ≠ 0 ∧ (s.mode = mSECURE ∨ s.mode = mGUARDED) ∧ s.md.trans = none)

/-- The one second without a cause is counted in DEGRADED only, while no cause stands (R45). -/
def State.timerSafe (s : State) : Prop := s.md.degClear ≠ 0 → s.mode = mDEGRADED ∧ s.degraded = 0

/-- Clamp sources are held only while the management ports are down (R385). -/
def State.heldSafe (s : State) : Prop := s.cl.heldSrcs ≠ [] → s.portsUp = false

/-- No mode request has come in this KCLK cycle before (R47). -/
def State.reqQuiet (s : State) : Bool := s.md.cyc.all (fun c => c.cycle != s.kclk)

/-- What holds between commands. -/
def State.Safe (s : State) : Prop := s.degSafe ∧ s.timerSafe ∧ s.heldSafe

/-- No frame waits for its release, no stream for its end and no integrity alarm for Clamp: the end of a command moves no
frame. -/
def State.calm (s : State) : Bool :=
  (upto 4).all (fun r => !(s.eg r).any (fun x => x.stat = .done) && !(s.ig r).any InItem.ready) &&
  (upto 16).all (fun k => !(s.carTxOf k).stopping) && s.vn.alarms == 0

/-- An access of port p to a word arrives and is not forbidden (R387 to R391, R463). -/
def State.admits (s : State) (p fn : Nat) (bar2 wr : Bool) (off : Nat) : Bool :=
  s.reachable p && (s.mmio p).forbidden p fn bar2 wr off == 0

/-- The state on which an admitted access of port p acts: its hints have cleared, and an Officer-world access has restarted
the session's idle time (R396, R408, R411). -/
def State.granted (s : State) (p : Nat) (bar2 : Bool) : State := (s.mmio p).officerSeen p bar2

/-- The command register of Chisel through which a port of a world commands it (R191). -/
abbrev cmdReg (w : World) : Reg := if w = .operator then reg_CHS_CMD else reg_CLC_CMD

/-- A port may write a word of function 0, and the device is calm. -/
abbrev State.mayWrite (s : State) (p : Nat) (bar2 : Bool) (off : Nat) : Prop :=
  s.admits p 0 bar2 true off = true ∧ s.calm = true

/-- Register fields that a source becoming pending may move. -/
def pendMoves (f : Fld) : Bool := f.id % 2048 == ICU_PORT.WAKE.id
/-- Register fields that the hints of an access may move. -/
def mmioMoves (f : Fld) : Bool :=
  [ICU_PORT.WAKE.id, ICU_PORT.SLEEPING.id, ICU_PORT.IDLE.id, ICU_PORT.SLEEP.id].contains (f.id % 2048)
/-- Register fields that the end of a command may move. -/
def closeMoves (f : Fld) : Bool := [ICU_PORT.WAKE.id, GLB_MODE.IN_TRANSITION.id].contains (f.id % 2048)

/-- A field that none of the registers holds. -/
def Fld.outside (f : Fld) (rs : List Reg) : Bool :=
  rs.all (fun r => r.fields.all (fun x => x.2.id % 2048 != f.id % 2048))

/-- The registers of a refused write (R5, R448). -/
def rejectRegs : List Reg := [reg_GLB_CFG_REJECT, reg_GLB_CFG_REJECT_LAST]

/-- From s to t no field outside the registers rs moves, but those that the hints of an access (R408, R411) and the end of a
command (R44, R45) may move; network time, the keys, the frames on the walks, the deep buffer and the fuses stay. -/
def State.keepsBut (s t : State) (rs : List Reg) : Prop :=
  (∀ (f : Fld) (i : Nat), closeMoves f = false → mmioMoves f = false → f.outside rs = true → t.get f i = s.get f i) ∧
  t.now = s.now ∧ t.fr = s.fr ∧ t.vn = s.vn ∧ t.lc.fuses = s.lc.fuses ∧ t.ke.slotKey = s.ke.slotKey ∧
  t.ke.saKey = s.ke.saKey ∧ t.ke.kram = s.ke.kram

/-- From s to t transmit channel c has taken a switch request (R77): its READY other slot is ACTIVE and current, the old one
RETIRED if it was ACTIVE; without a READY slot both stay and EV_SWITCH_MISS is set. -/
abbrev State.switched (s t : State) (c : Nat) : Prop :=
  if s.get SAT_TX.STATE (s.othSa c) = saREADY then
    t.get SAT_TX.STATE (s.othSa c) = saACTIVE ∧ t.get SCT_TX.CUR c = 1 - s.get SCT_TX.CUR c ∧ t.get SCT_TX.EV_SWITCH c = 1 ∧
    (s.get SAT_TX.STATE (s.curSa c) = saACTIVE → t.get SAT_TX.STATE (s.curSa c) = saRETIRED)
  else
    t.get SCT_TX.EV_SWITCH_MISS c = 1 ∧ t.get SCT_TX.CUR c = s.get SCT_TX.CUR c ∧
    t.get SAT_TX.STATE (s.othSa c) = s.get SAT_TX.STATE (s.othSa c) ∧
    t.get SAT_TX.STATE (s.curSa c) = s.get SAT_TX.STATE (s.curSa c)

/-- The receive SA in the current slot of channel c, and in the other one. -/
def State.rxCur (s : State) (c : Nat) : Nat := 2 * c + s.get SCT_RX.CUR c
def State.rxOth (s : State) (c : Nat) : Nat := 2 * c + (1 - s.get SCT_RX.CUR c)

/-- From s to t receive channel c has taken an activation (R102, R104): its READY other slot is ACTIVE and current, its FLOOR
the slot's NEXT_PN, and the old ACTIVE slot retires after OVERLAP; without a READY slot both stay and EV_NO_SA is set. -/
abbrev State.activated (s t : State) (c : Nat) : Prop :=
  if s.get SAT_RX.STATE (s.rxOth c) = saREADY then
    t.get SAT_RX.STATE (s.rxOth c) = saACTIVE ∧ t.get SCT_RX.CUR c = 1 - s.get SCT_RX.CUR c ∧
    t.get SAT_RX.FLOOR (s.rxOth c) = s.get SAT_RX.NEXT_PN (s.rxOth c) ∧
    (s.get SAT_RX.STATE (s.rxCur c) = saACTIVE →
      if s.get SCT_RX.OVERLAP c = 0 then t.get SAT_RX.STATE (s.rxCur c) = saRETIRED
      else t.get SAT_RX.STATE (s.rxCur c) = saACTIVE ∧ t.get SAT_RX.RETIRE_ARMED (s.rxCur c) = 1 ∧
        t.rxRetireAt (s.rxCur c) = (s.now + s.overlapOf c) / ns * ns)
  else
    t.get SCT_RX.EV_NO_SA c = 1 ∧ t.get SCT_RX.CUR c = s.get SCT_RX.CUR c ∧
    t.get SAT_RX.STATE (s.rxOth c) = s.get SAT_RX.STATE (s.rxOth c) ∧
    t.get SAT_RX.STATE (s.rxCur c) = s.get SAT_RX.STATE (s.rxCur c)

/-- From s to t receive channel c has taken a retire request (R105): its other slot, if ACTIVE, is RETIRED; the current one
stays. -/
abbrev State.retiredOld (s t : State) (c : Nat) : Prop :=
  t.get SCT_RX.CUR c = s.get SCT_RX.CUR c ∧ t.get SAT_RX.STATE (s.rxCur c) = s.get SAT_RX.STATE (s.rxCur c) ∧
  t.get SAT_RX.STATE (s.rxOth c) =
    if s.get SAT_RX.STATE (s.rxOth c) = saACTIVE then saRETIRED else s.get SAT_RX.STATE (s.rxOth c)

/-- The entry of the Gauge table with its writer's held words and word 0 taken in (R66, R140). -/
def State.gauTaken (s : State) (p i v : Nat) : State :=
  ((s.commitHeld (.port p) ⟨reg_GAU_ENT, i, 0⟩ i).1.writeWord reg_GAU_ENT i 0 v).1

/-- Entry i holds no reserved value (R141). -/
def State.gauLegal (n : State) (i : Nat) : Bool :=
  n.get GAU_ENT.ACTION i ≤ 9 && gauTargetOk (n.get GAU_ENT.ACTION i) (n.get GAU_ENT.TARGET i) &&
  gauScopeOk (n.get GAU_ENT.ACTION i) (n.get GAU_ENT.SCOPE i) (n.get GAU_ENT.TARGET i) &&
  gauParamOk (n.get GAU_ENT.ACTION i) (n.get GAU_ENT.PARAM i) && time96Legal (n.get GAU_ENT.DUE i) &&
  (!n.on GAU_ENT.PERIODIC i || decide (100 * 65536 ≤ n.get GAU_ENT.PERIOD i))

/-- From s to t entry i of the Gauge table has fired (R142, R145): FIRED is set and one record more stands in the ring, with
the time, the entry and its action. -/
abbrev State.firedIn (s t : State) (i : Nat) : Prop :=
  t.get GAU_ENT.FIRED i = 1 ∧ t.ga.gauCount = s.ga.gauCount + 1 ∧
  bits (Tab.get 0 t.ga.gauRing (s.ga.gauCount % 256)) 0 96 = time96 s.now ∧
  bits (Tab.get 0 t.ga.gauRing (s.ga.gauCount % 256)) 96 10 = i ∧
  bits (Tab.get 0 t.ga.gauRing (s.ga.gauCount % 256)) 106 4 = s.get GAU_ENT.ACTION i

/-- The entry is the next to fire, carries the action, and the device is calm. -/
abbrev State.fires (s : State) (i action : Nat) : Prop :=
  s.calm = true ∧ s.gauReady i = true ∧ s.get GAU_ENT.ACTION i = action

/-- From s to t a change of the network time has counted one step and raised its source (R123, R128). -/
abbrev State.stepCounted (s t : State) : Prop :=
  time96 t.now ≠ time96 s.now →
    t.get TIM_STATUS.STEPS 0 = (s.get TIM_STATUS.STEPS 0 + 1) % 2 ^ 16 ∧ t.ic.icu.contains 0x022 = true

/-- From s to t shaper q has adopted its staged values (R254). -/
abbrev State.adopted (s t : State) (q : Nat) : Prop :=
  t.get QUE_SHP.PENDING q = 0 ∧
  (match Tab.get [] s.pl.shpStage q with
    | [en, grp, adj, rate, burst, ini] =>
      t.get QUE_SHP.ENABLE q = en % 2 ∧ t.get QUE_SHP.EGROUP q = grp % 256 ∧ t.get QUE_SHP.LEN_ADJ q = adj % 64 ∧
      t.get QUE_SHP.RATE q = rate % 2 ^ QUE_SHP.RATE.width ∧ t.get QUE_SHP.BURST q = burst % 2 ^ QUE_SHP.BURST.width ∧
      t.level q = if ini = 1 then 0 else ((t.get QUE_SHP.BURST q * 65536 : Nat) : Int)
    | _ => True)

/-- A schedule's entry with its writer's held words and word 0 taken in (R228). -/
def State.schTaken (s : State) (p j v : Nat) : State :=
  ((s.commitHeld (.port p) ⟨reg_GAU_SCH, j, 0⟩ j).1.writeWord reg_GAU_SCH j 0 v).1

/-- Entry j of n may start (R229): the lead and the overlap fit, and no other valid schedule uses its Gauge entry. -/
def State.schFits (s n : State) (j : Nat) : Bool :=
  decide (n.get GAU_SCH.LEAD_MS j * 1000 + n.get GAU_SCH.W_US j < n.get GAU_SCH.P_SEC j * 1000000) &&
  decide (n.get GAU_SCH.W_US j + 23000 ≤ n.get GAU_SCH.LEAD_MS j * 1000) &&
  (s.ones GAU_SCH.VALID).all (fun k => k == j || s.get GAU_SCH.DERIVE_ENTRY k != n.get GAU_SCH.DERIVE_ENTRY j)

/-- From s to t a pass of schedule j has begun at the present (R232): FAILS is 0 and its items hold every channel's selection. -/
abbrev State.passBegun (s t : State) (j : Nat) : Prop :=
  Tab.get 0 t.au.passStart j = s.mono + 1 ∧ t.get GAU_SCH.FAILS j = 0 ∧
  (∀ c ∈ s.autScs .eg j, ∀ x ∈ s.autSelect j s.now .eg c, x ∈ t.au.passItems) ∧
  (∀ c ∈ s.autScs .ig j, ∀ x ∈ s.autSelect j s.now .ig c, x ∈ t.au.passItems)

/-- Read i of a line as the memory returns it; one that is not listed returns the stored line. -/
def State.rawRead (s : State) (page l : Nat) (raw : List RawLine) (i : Nat) : Line :=
  match raw[i]? with
  | some r => ⟨r.data, r.tag⟩
  | none => Tab.get Line.none s.vn.lines (64 * page + l)

/-- Line l of a page that is in use is written, and no access to the page is held. -/
def State.lineThere (s : State) (page l : Nat) : Bool :=
  ((Tab.get Page.none s.vn.pages page).use == .live || (Tab.get Page.none s.vn.pages page).use == .retiring) &&
  !s.pageHeld page && Tab.get Line.none s.vn.lines (64 * page + l) != Line.none

/-- A poisoned line under the keys k (R302): zero octets, and their tag with POISON 1. -/
def State.poisoned (s : State) (k : VnrKeys) (page l : Nat) : Line :=
  ⟨List.replicate 64 0, lineTag k.kt k.kh page l true (Tab.get Page.none s.vn.pages page).count k.epoch (List.replicate 64 0)⟩

end Sys2Proof.Machine
end

