-- ==== Sys2Proof/WellFormed.lean ====
section
/-!
DEFINITION. WellFormed.lean: which commands are well formed: a register access names a word of its window, and what the
outside world hands over has the size the cited rule gives it. The machine is total: it also answers ill-formed commands.
-/
namespace Sys2Proof

/-- Octets of a window (R386): function 0 BAR0 and BAR2, function 1 BAR0. -/
def windowSize (fn : Fin 2) (bar2 : Bool) : Nat :=
  if fn.val = 1 then (if bar2 then 0 else 16777216) else if bar2 then 1048576 else 33554432

/-- The offset of a whole word inside the window of a function and BAR (R3, R386). -/
def regOffset (fn : Fin 2) (bar2 : Bool) (off : Nat) : Bool := off % 4 == 0 && decide (off < windowSize fn bar2)

/-- Most data pages of the deep buffer: DATA_P8 counts up to 458,752 groups of 8 (R298). -/
def dataPageMax : Nat := 8 * 458752

/-- Instants of the network time counter: 48-bit seconds in units of 2^-32 ns (R119). -/
def timeSpan : Nat := 2 ^ 48 * 1000000000 * 2 ^ 32

/-- A line of 64 octets with its 8 tag octets (R302). -/
def RawLine.whole (r : RawLine) : Bool := r.data.length == 64 && r.tag.length == 8

/-- A line lane: lanes 0 to 63 are host lanes, 64 to 95 line lanes (R312). -/
def lineLane (lane : Fin 96) : Bool := decide (64 ≤ lane.val)

/-- Taps of a DFE (R326). -/
def dfeTapCount : Nat := 12

/-- An SRAM owner: a counter is named by the offset of its low word. -/
def SramOwner.wellFormed (o : SramOwner) : Bool :=
  match o with
  | .counter off => regOffset 0 false off
  | _ => true

/-- A detector: the delay line gives a width of at most 16 bits (R376). -/
def Detector.wellFormed (d : Detector) : Bool :=
  match d with
  | .comparator => true
  | .delayLine widthNs => decide (widthNs < 65536)

/-- The command is well formed. -/
def Instr.wellFormed (i : Instr) : Bool :=
  match i with
  | .powerGood feedsA feedsB _ _ => decide (feedsA < 128) && decide (feedsB < 128)
  | .coreRailLoss => true
  | .railGroupLoss _ => true
  | .resetNAssert => true
  | .crystalStable => true
  | .fuseSense _ => true
  | .romSelftest _ _ _ => true
  | .rngStartupTestComplete _ => true
  | .sramBistComplete => true
  | .imageSelect _ _ => true
  | .imageApply => true
  | .keyRecordUnwrap => true
  | .lpddr5xTrainingComplete _ chans => decide (chans.length = 32)
  | .attestationMeasureComplete => true
  | .bootComplete => true
  | .autoModeRequest => true
  | .modeReqStandby _ => true
  | .modeReqSecure _ => true
  | .modeReqGuarded _ => true
  | .overlayComplete => true
  | .degradedClearTimer => true
  | .ofcLockdown _ => true
  | .dbgEnter _ => true
  | .ofcResetWarm _ => true
  | .ofcResetWarmAtArm _ => true
  | .ofcResetWarmAtDisarm _ => true
  | .warmAtTimeReached => true
  | .advFactory root => decide (root.length = 32)
  | .advProvisioned _ certHash => decide (certHash.length = 48)
  | .takeOwnership _ => true
  | .releaseOwnership _ => true
  | .scrap _ => true
  | .raiseMinSvn _ => true
  | .lifecycleChangeComplete => true
  | .ofcTxResumeLo _ _ => true
  | .ofcTxResumeHi _ _ => true
  | .txResumeUpdate => true
  | .hostFrameReceive _ _ _ _ => true
  | .admission _ => true
  | .deepWriteComplete _ => true
  | .pfcRefresh _ => true
  | .dequeueDecision _ => true
  | .txHoldTimeout _ => true
  | .deepReadBack _ => true
  | .dispatch _ _ => true
  | .pairFrameComplete _ _ _ => true
  | .pairFault _ _ _ _ => true
  | .pairKatComplete _ _ _ _ => true
  | .spareKat _ _ _ => true
  | .launchHoldExpire _ _ => true
  | .launchSlotDeadline _ => true
  | .lineFrameTransmit _ => true
  | .lineFrameReceive _ _ _ _ => true
  | .replayPrecheck _ => true
  | .hostPortTransmit _ => true
  | .registerWrite _ fn bar2 off _ _ => regOffset fn bar2 off
  | .heldWordWrite _ bar2 off _ => regOffset 0 bar2 off
  | .clsRuleCommit _ _ _ _ => true
  | .wideLowRead _ fn bar2 off => regOffset fn bar2 off
  | .rcRead _ fn bar2 off => regOffset fn bar2 off
  | .scValidSet _ _ _ => true
  | .scValidClear _ _ _ => true
  | .rxScValidSet _ _ _ => true
  | .rxScValidClear _ _ _ => true
  | .txsaSwitch _ _ => true
  | .txsaGroupSwitch _ _ => true
  | .rxsaActivate _ _ => true
  | .rxsaGroupActivate _ _ => true
  | .rxsaRetire _ _ => true
  | .rxsaGroupRetire _ _ => true
  | .retireAtReached _ => true
  | .timIncrLo _ _ => true
  | .timIncrHi _ _ => true
  | .timSlew _ _ => true
  | .slewComplete => true
  | .timeStepSet _ => true
  | .timeStepForward _ => true
  | .timeStepBackward _ => true
  | .timKeep _ _ => true
  | .ppsEdge => true
  | .trefMeasure _ => true
  | .holdoverEnter => true
  | .holdoverErrLimit => true
  | .rtcAlign => true
  | .lrefclkFail => true
  | .timeCopyDisagree c0 c1 c2 => decide (c0 < timeSpan) && decide (c1 < timeSpan) && decide (c2 < timeSpan)
  | .timTxqRead _ _ _ => true
  | .gaugeArm _ _ _ => true
  | .gaugeDisarm _ _ _ => true
  | .gaugeNone _ => true
  | .pulseOut _ => true
  | .pulseWidthEnd _ => true
  | .modeOverlay _ => true
  | .saSwitchTxSc _ => true
  | .saSwitchTxGroup _ => true
  | .saSwitchRxSc _ => true
  | .saSwitchRxGroup _ => true
  | .keyDerive _ => true
  | .shaperEpochAdopt _ => true
  | .shaperEpochFull _ => true
  | .shaperEpochZero _ => true
  | .carrierStart _ => true
  | .counterSnapshot _ => true
  | .launchWindow _ => true
  | .launchWindowEnd _ => true
  | .gaugeInterrupt _ => true
  | .gauRingHeadRead _ => true
  | .kstGenerate _ _ _ _ => true
  | .kstInvalidate _ _ => true
  | .kstErase _ _ => true
  | .kstEraseSa _ _ => true
  | .kstPersist _ _ => true
  | .kstUnpersist _ _ => true
  | .kstCommandStart => true
  | .kstZeroiseComplete _ => true
  | .ofcBootGo _ _ => true
  | .attGo _ => true
  | .attReportComplete _ _ => true
  | .enc _ _ _ => true
  | .dec _ _ _ => true
  | .cmac _ _ _ => true
  | .wrap _ _ _ => true
  | .exportKey _ _ _ => true
  | .unwrapSlot _ _ _ => true
  | .unwrapSa _ _ _ => true
  | .deriveSlot _ _ _ => true
  | .deriveSa _ _ _ => true
  | .chsEraseSa _ _ _ => true
  | .suspend _ _ _ => true
  | .restore _ _ _ => true
  | .abort _ _ _ => true
  | .chiselGrant => true
  | .chiselCommandComplete => true
  | .chiselFault => true
  | .chiselKatComplete _ => true
  | .chsDoutRead _ _ _ => true
  | .pkeSignComplete => true
  | .pkeVerifyComplete => true
  | .pkeFault => true
  | .pkeKatComplete _ => true
  | .reseed _ => true
  | .reinst _ => true
  | .drbgReseedTimer => true
  | .rngHealthFail _ => true
  | .rngRerunComplete _ => true
  | .rngRequest _ len => decide (len < 1024)
  | .rngRequestServed _ => true
  | .rngOutRead _ _ => true
  | .scheduleValidSet _ _ _ => true
  | .scheduleValidClear _ _ _ => true
  | .scheduleFirstPass _ => true
  | .resync _ _ => true
  | .autokeySaDerive _ _ => true
  | .autokeyPassComplete _ => true
  | .epochInstallInstant _ _ => true
  | .epochSwitchInstant _ => true
  | .shaperWrite _ _ _ => true
  | .shaperStage _ _ _ => true
  | .carrierPack _ => true
  | .carrierSlot _ => true
  | .carrierSlotLate _ => true
  | .carrierStop _ _ => true
  | .carrierRestart _ => true
  | .reasmTimeout _ => true
  | .streamLoss _ => true
  | .ringEnable _ _ _ => true
  | .ringDisable _ _ _ => true
  | .ringProdWrite _ _ _ => true
  | .ringCplAck _ _ _ => true
  | .puntPacketWrite _ _ => true
  | .puntDropRest _ _ => true
  | .injectDescriptorFetch _ desc => decide (desc.length = 32)
  | .injectFrameFetch _ _ => true
  | .completionZeroLengthRead _ _ => true
  | .veneerEnable _ _ => true
  | .veneerDisable _ _ => true
  | .rekeyPassStart => true
  | .rekeyPage => true
  | .deepRead page _ raw => decide (page < dataPageMax) && raw.all RawLine.whole
  | .deepPartialWrite page _ _ data raw => decide (page < dataPageMax) && decide (data.length = 32) && raw.all RawLine.whole
  | .marchTestComplete page _ _ => decide (page < dataPageMax)
  | .spareCopyComplete page => decide (page < dataPageMax)
  | .laneLockChange _ _ _ => true
  | .snrLow _ => true
  | .dfeTapLimit lane taps => lineLane lane && decide (taps.length = dfeTapCount)
  | .dfeAdapted lane taps => lineLane lane && decide (taps.length = dfeTapCount)
  | .laneTestComplete _ _ => true
  | .laneRetest _ _ => true
  | .portEnable _ _ _ => true
  | .portDisable _ _ _ => true
  | .linkChange _ _ _ _ => true
  | .calibrationComplete _ _ _ => true
  | .fecDegInterval _ _ _ _ _ => true
  | .tapStep _ => true
  | .chkClr _ _ => true
  | .eyeMonitorUpdate _ _ _ _ _ _ => true
  | .refclkMonitorWindow _ _ => true
  | .modPresenceChange _ _ => true
  | .modReinit _ _ => true
  | .moduleReadyPoll _ _ => true
  | .moduleIdentify _ vendor part serial => decide (vendor.length = 16) && decide (part.length = 16) && decide (serial.length = 16)
  | .allowListCommit _ _ _ => true
  | .allowRecheck _ => true
  | .datapathActivated _ width => decide (width ≤ 8)
  | .moduleReadyTimeout _ => true
  | .i2cRetry _ _ => true
  | .moduleMonitorPoll _ _ _ flags bias => decide (flags.length = 6) && decide (bias.length = 8)
  | .modaccRequest _ _ _ => true
  | .modaccComplete _ _ data => decide (data.length ≤ 8)
  | .sramUncorrectable owner _ _ => owner.wellFormed
  | .sramScrub _ => true
  | .rowBistComplete owner _ => owner.wellFormed
  | .crossbarBeatError _ => true
  | .channelTrigger _ => true
  | .channelRetrainComplete _ _ => true
  | .regionAutoRestart _ => true
  | .regionRestartCmd _ _ => true
  | .regionRestartComplete _ _ _ passE passI => decide (passE.length = 9) && decide (passI.length = 9)
  | .feedDivergence _ _ mv => decide (mv < 65536)
  | .pgFall _ => true
  | .feedRecovered _ _ => true
  | .braceSwitchCmd _ _ => true
  | .clampSupplyTrip _ det => det.wellFormed
  | .disagreeWindowClose _ => true
  | .kclkOutOfBand => true
  | .cclkRatioOutOfBand => true
  | .tempLimit => true
  | .thermalThreshold _ => true
  | .evin15ClampAssert => true
  | .classWindowClose _ => true
  | .coalesceWindowClose => true
  | .clampEraseComplete => true
  | .clampLock _ _ => true
  | .vbatLow mv => decide (mv < 65536)
  | .eventLogRead _ _ _ => true
  | .portLoss _ => true
  | .wakeReset _ => true
  | .pcieLinkStateChange _ _ _ _ _ => true
  | .challengeRequest _ => true
  | .challengeExpire _ => true
  | .responseSubmit _ _ => true
  | .responseCheckComplete _ => true
  | .sessionLock _ => true
  | .sessionIdleTimeout _ => true
  | .semaphoreRead _ _ => true
  | .semaphoreRelease _ _ => true
  | .icuPendClear _ _ _ => true
  | .icuSrcWrite _ _ _ => true
  | .vectorTimerExpire _ _ => true
  | .msixMessageSend _ _ => true
  | .msixUnmask _ _ => true
  | .portIdleHint _ => true
  | .portSleepHint _ => true
  | .portWake _ => true
  | .evinChange _ _ => true
  | .stagingGo _ => true
  | .stagingFetchComplete _ => true
  | .stagingCheckComplete => true
  | .flashCommand _ _ => true
  | .flashCommandComplete _ _ => true
  | .snapshotGo _ => true
  | .sweepComplete => true
  | .samplerEnable _ _ => true
  | .samplerRecordRead _ _ _ => true
  | .jtagDebugUnlock => true
  | .resetNRelease => true
  | .ppsOkFall => true
  | .trefOkChange _ => true
  | .mclkFail => true
  | .tempRearm => true
  | .clockEventRearm _ => true
  | .vbatPreeraseRearm => true

end Sys2Proof
end

