-- ==== Sys2Proof/Certificates/Slice0/Obligations.lean ====
section
/-!
DEFINITION. Obligations.lean: the statements for the provers. Each is a Prop about exec and step; the rules of spec/ it
formalises stand in its docstring. A result statement concludes that exec answers a next state.
-/
open Sys2Proof Sys2Proof.Machine

/-- A step with a command at the front of the queue is exec of that command on the state with the queue's rest. -/
def Obligations.StepRunsFront : Prop :=
  ∀ (c : Instr) (rest : List Instr) (s : State),
    step { s with pending := c :: rest } = exec c { s with pending := rest }

/-- Every step answers a next state, whatever the command at the front of the queue. The model's own rule for an empty
queue (log entry 5): a TCLK edge passes. The monotonic counter goes on; outside DORMANT, with no slew in progress and
no written increment waiting, the network time advances by the increment, its seconds modulo 2^48 (R119, R120); in
DORMANT it stays. -/
def Obligations.EveryStepAnswers : Prop :=
  (∀ s : State, ∃ t, step s = .next t) ∧
  (∀ s : State, s.pending = [] →
    ∃ t, step s = .next t ∧ t.mono = s.mono + 0xCCCCCCCD ∧ t.pending = [] ∧
      (s.mode ≠ 0 → s.tm.slew = 0 → s.tm.incrNext = none → t.now = wrapTime (s.now + s.tm.incr)) ∧ (s.mode = 0 →
        t.now = s.now))

/-- At reset every register field reads the reset value of its table (R3, R436), where the spec gives none the model's
choice (log entry 1), but for the states of the pairs: eight of a slice group serve and the spare stands by (R89). No
slot, SA or key RAM entry holds a key, no source is pending, no frame is on the walks, in a queue or before a port, no
command waits and nothing has been put out. -/
def Obligations.ResetValues : Prop :=
  (∀ (f : Fld) (i : Nat), f.id % 2048 ≠ RGN_PPE_STATUS.STATE.id → State.reset.get f i = f.reset % 2 ^ f.width) ∧
  (∀ r < 4, ∀ d : Dir, ∀ k < 9, State.reset.get RGN_PPE_STATUS.STATE (pairIdx r d k) = if k = 8 then 0 else 1) ∧
  State.reset.pending = [] ∧ State.reset.ke.slotKey = [] ∧ State.reset.ke.saKey = [] ∧ State.reset.ic.icu = [] ∧
  State.reset.ke.kram = [] ∧ State.reset.fr.arrivals = [] ∧ State.reset.pl.queues = [] ∧ State.reset.fr.egress = [] ∧
  State.reset.fr.lineOut = [] ∧ State.reset.fr.ingress = [] ∧ State.reset.fr.hostOut = [] ∧ State.reset.out = []

/-- At reset `State.Safe` holds: a degradation cause that stands in SECURE or GUARDED goes with a transition in progress,
the second without a cause is counted only in DEGRADED (R44, R45), and Clamp sources are held only while the ports are
down (R385). The register store is canonical there and the device is calm. -/
def Obligations.SafeAtReset : Prop :=
  State.reset.Safe ∧ State.reset.wfRegs = true ∧ State.reset.calm = true

/-- Every step, of any command or of the clock, keeps `State.Safe` (R44, R45, R385). -/
def Obligations.SafeKeptByEveryStep : Prop :=
  ∀ s t : State, s.Safe → step s = .next t → t.Safe

/-- The register store: a field reads what was written, in its width; a field of another number, and the same field of
another entry, keeps its value; the store stays in its canonical form, and two stores in that form that read alike are
equal. -/
def Obligations.RegisterStore : Prop :=
  (∀ (s : State) (f : Fld) (i v : Nat), (s.set f i v).get f i = v % 2 ^ f.width) ∧
  (∀ (s : State) (f g : Fld) (i j v : Nat), (f.id % 2048 ≠ g.id % 2048 ∨ (f.id = g.id ∧ i ≠ j)) →
    (s.set g j v).get f i = s.get f i) ∧
  (∀ (s : State) (f : Fld) (i v : Nat), s.wfRegs = true → (s.set f i v).wfRegs = true) ∧
  (∀ s t : State, s.wfRegs = true → t.wfRegs = true → (∀ k, Tab.get 0 s.regs k = Tab.get 0 t.regs k) → s.regs = t.regs)

/-- How much the end of a command (R44, R45, R385) and the hints of an access with the Officer's mark (R396, R408, R411)
leave: the end moves no register field but WAKE of ICU_PORT and IN_TRANSITION, and beside those only the mode machine,
the interrupt state, Clamp's state and the outbox, a transition in progress that yields to nothing staying (R47); the
hints move WAKE, SLEEPING, IDLE and SLEEP of ICU_PORT, and beside those only the interrupt state, the outbox and the
Officer's records. -/
def Obligations.EndOfCommandFrame : Prop :=
  (∀ s : State, (∀ (f : Fld) (i : Nat), closeMoves f = false → s.closed.get f i = s.get f i) ∧
    s.closed.pending = s.pending ∧ s.closed.wraps = s.wraps ∧ s.closed.now = s.now ∧ s.closed.mono = s.mono ∧
    s.closed.tape = s.tape ∧ s.closed.ac = s.ac ∧ s.closed.lc = s.lc ∧ s.closed.tm = s.tm ∧ s.closed.ga = s.ga ∧
    s.closed.fr = s.fr ∧ s.closed.ke = s.ke ∧ s.closed.att = s.att ∧ s.closed.ch = s.ch ∧ s.closed.au = s.au ∧
    s.closed.pl = s.pl ∧ s.closed.ca = s.ca ∧ s.closed.hq = s.hq ∧ s.closed.vn = s.vn ∧ s.closed.ln = s.ln ∧
    s.closed.fl = s.fl ∧ s.closed.ofc = s.ofc ∧ s.closed.jg = s.jg ∧ s.closed.cn = s.cn ∧
    (s.md.trans ≠ none → s.yields = false → s.closed.md.trans = s.md.trans)) ∧
  (∀ (s : State) (p : Nat) (b : Bool), (∀ (f : Fld) (i : Nat), mmioMoves f = false → (s.granted p b).get f i = s.get f i) ∧
    (s.granted p b).pending = s.pending ∧ (s.granted p b).now = s.now ∧ (s.granted p b).mono = s.mono ∧
    (s.granted p b).lc = s.lc ∧ (s.granted p b).tm = s.tm ∧ (s.granted p b).ga = s.ga ∧ (s.granted p b).fr = s.fr ∧
    (s.granted p b).ke = s.ke ∧ (s.granted p b).ch = s.ch ∧ (s.granted p b).au = s.au ∧ (s.granted p b).pl = s.pl ∧
    (s.granted p b).vn = s.vn ∧ (s.granted p b).md = s.md ∧ (s.granted p b).cl = s.cl ∧ (s.granted p b).ac = s.ac ∧
    (s.granted p b).wraps = s.wraps ∧ (s.granted p b).tape = s.tape ∧ (s.granted p b).att = s.att ∧
      (s.granted p b).ca = s.ca ∧
    (s.granted p b).hq = s.hq ∧ (s.granted p b).ln = s.ln ∧ (s.granted p b).fl = s.fl ∧ (s.granted p b).jg = s.jg ∧
      (s.granted p b).cn = s.cn)

/-- R4, R5, R387, R391, R448: a whole word written to LCY_OPERAND reads back; a partial write is counted with CAUSE 4 and
moves no other register; a write through function 1 is a violation of KIND 2 and moves no other register; a write of a
reserved offset moves none. R391, R392: an access that is forbidden has no effect but the violation it counts: beside
OFC_VIOL_CNT and OFC_VIOL_LAST of the port no register moves but the port's hints, and time, keys, frames, the deep
buffer, life cycle and Chisel stay, for a write the queues, the Gauge and Jig too; a forbidden read returns 0. -/
def Obligations.RegisterWritesAndForbiddenAccesses : Prop :=
  ((∀ (s : State) (p : Port) (i : Fin 13) (v : Word), s.mayWrite p.val true (reg_LCY_OPERAND.offset i.val 0) →
    ∃ t, exec (.registerWrite p 0 true (reg_LCY_OPERAND.offset i.val 0) v 15) s = .next t ∧
      t.get LCY_OPERAND.V i.val = v.toNat ∧ s.keepsBut t [reg_LCY_OPERAND]) ∧
  (∀ (s : State) (p : Port) (bar2 : Bool) (off : Nat) (v : Word) (be : BitVec 4), s.mayWrite p.val bar2 off → be ≠ 15 →
    ∃ t, exec (.registerWrite p 0 bar2 off v be) s = .next t ∧
      t.get GLB_CFG_REJECT.V p.val = (s.get GLB_CFG_REJECT.V p.val + 1) % 2 ^ 64 ∧
      t.get GLB_CFG_REJECT_LAST.CAUSE p.val = 4 ∧ s.keepsBut t rejectRegs) ∧
  (∀ (s : State) (p : Port) (off : Nat) (v : Word) (be : BitVec 4), s.reachable p.val = true → s.calm = true →
    ∃ t, exec (.registerWrite p 1 false off v be) s = .next t ∧ t.get OFC_VIOL_LAST.KIND p.val = 2 ∧
      t.get OFC_VIOL_LAST.FUNC p.val = 1 ∧ t.get OFC_VIOL_LAST.WRITE p.val = 1 ∧
      s.keepsBut t [reg_OFC_VIOL_CNT, reg_OFC_VIOL_LAST]) ∧
  (∀ (s : State) (p : Port) (bar2 : Bool) (off : Nat) (v : Word), s.mayWrite p.val bar2 off → place bar2 off = none →
    ∃ t, exec (.registerWrite p 0 bar2 off v 15) s = .next t ∧ s.keepsBut t [])) ∧
  (∀ (s : State) (p : Port) (fn : Fin 2) (bar2 : Bool) (off : Nat) (v : Word) (be : BitVec 4), s.reachable p.val = true →
    s.calm = true → (fn = 1 → bar2 = false) →
    ((s.mmio p.val).forbidden p.val fn.val bar2 true off ≠ 0 →
      ∃ t, exec (.registerWrite p fn bar2 off v be) s = .next t ∧ s.keepsBut t [reg_OFC_VIOL_CNT, reg_OFC_VIOL_LAST] ∧
        t.ke = s.ke ∧ t.lc = s.lc ∧ t.tm = s.tm ∧ t.ch = s.ch ∧ t.pl = s.pl ∧ t.jg = s.jg ∧ t.ga = s.ga) ∧
    ((s.mmio p.val).forbidden p.val fn.val bar2 false off ≠ 0 →
      (∃ t, exec (.wideLowRead p fn bar2 off) s = .next t ∧ Emit.readData p.val fn.val bar2 off 0 ∈ t.out ∧
        s.keepsBut t [reg_OFC_VIOL_CNT, reg_OFC_VIOL_LAST] ∧ t.ke = s.ke ∧ t.lc = s.lc ∧ t.tm = s.tm ∧ t.ch = s.ch) ∧
      (∃ t, exec (.rcRead p fn bar2 off) s = .next t ∧ Emit.readData p.val fn.val bar2 off 0 ∈ t.out ∧
        s.keepsBut t [reg_OFC_VIOL_CNT, reg_OFC_VIOL_LAST] ∧ t.ke = s.ke ∧ t.lc = s.lc ∧ t.tm = s.tm ∧ t.ch = s.ch)))

/-- R60, R61, R346: the start-up steps 1, 2, 3, 5, 7 and 12, each at its stage: the step that ends moves
GLB_BOOT_STATUS.STAGE to its number; a failed fuse sense leaves CODE 3, a failed ROM self-test CODE 2 and one that
passes CODE 0; step 5 makes the regions ACTIVE and begins channel training. -/
def Obligations.StartUpStepsComplete : Prop :=
  (∀ s : State, s.startsAt 0 = true → s.lc.resetLow = false →
    ∃ t, exec .crystalStable s = .next t ∧ t.get GLB_BOOT_STATUS.STAGE 0 = 1) ∧
  (∀ (s : State) (err : Bool), s.startsAt 1 = true →
    ∃ t, exec (.fuseSense err) s = .next t ∧ t.get GLB_BOOT_STATUS.STAGE 0 = 2 ∧
      (err = true → t.get GLB_BOOT_STATUS.CODE 0 = 3)) ∧
  (∀ (s : State) (rom chisel pke : Bool), s.startsAt 2 = true →
    ∃ t, exec (.romSelftest rom chisel pke) s = .next t ∧ t.get GLB_BOOT_STATUS.STAGE 0 = 3 ∧
      t.get GLB_BOOT_STATUS.CODE 0 = if rom && chisel && pke then 0 else 2) ∧
  (∀ s : State, s.startsAt 4 = true →
    ∃ t, exec .sramBistComplete s = .next t ∧ t.get GLB_BOOT_STATUS.STAGE 0 = 5 ∧ (∀ r < 4, t.rgn r = 1) ∧
      ∀ c < 32, t.get MEM_CH.STATE c = 1) ∧
  (∀ (s : State) (i : Image), s.startsAt 6 = true → s.jg.image = some i →
    ∃ t, exec .imageApply s = .next t ∧ t.get GLB_BOOT_STATUS.STAGE 0 = 7) ∧
  (∀ s : State, s.startsAt 11 = true →
    ∃ t, exec .attestationMeasureComplete s = .next t ∧ t.get GLB_BOOT_STATUS.STAGE 0 = 12)

/-- R60, R62, R180, R213, R220, R221, R297, R341, R424, R427, R429, R455: the steps 4, 6, 8, 9 and 13 and the request of
AUTO_MODE, each at its stage. Step 4 reaches STAGE 4 with a DRBG, or begins re-runs when the source fails its test.
Step 6, no PKE fault standing: without a candidate CODE reads 1 and COPY_A and COPY_B what was found; a sole candidate
that is rightly signed is selected; of two, the first by sequence number, rightly signed, is selected and the other's
code reads 6. Step 8 reaches STAGE 8, the slots filled from the key RAM and the records unless an erase has come. Step
9 shows each channel's identity and fences one that failed or whose MR8 differs from channel 0's. Step 13 begins the
STANDBY overlay with the lanes up in PROVISIONED or OWNED, and holds with CODE 7 in FACTORY. The request comes when no
schedule waits for its first pass. -/
def Obligations.StartUpOutcomes : Prop :=
  (∀ s : State, s.startsAt 3 = true → s.get RNG_STATUS.STATE 0 = 0 → s.on RNG_STATUS.PATTERN 0 = false →
    (∃ t, exec (.rngStartupTestComplete none) s = .next t ∧ t.get RNG_STATUS.STATE 0 = 1 ∧
      t.get GLB_BOOT_STATUS.STAGE 0 = 4 ∧ t.ch.drbg.isSome = true) ∧
    (∀ f, ∃ t, exec (.rngStartupTestComplete (some f)) s = .next t ∧ t.get RNG_STATUS.STATE 0 = 2 ∧
      t.get GLB_BOOT_STATUS.STAGE 0 = 3 ∧ t.ch.drbg = none)) ∧
  (∀ (s : State) (a b : FlashRead), s.startsAt 5 = true → s.get PKE_STATUS.STATE 0 = 0 → s.ch.pkeBoot = 0 →
    (∀ x y, s.candidate a 0 = .inl x → s.candidate b 1 = .inl y →
      ∃ t, exec (.imageSelect a b) s = .next t ∧ t.get GLB_BOOT_STATUS.CODE 0 = 1 ∧ t.get GLB_BOOT_STATUS.COPY_A 0 = x ∧
        t.get GLB_BOOT_STATUS.COPY_B 0 = y ∧ t.get GLB_BOOT_STATUS.STAGE 0 = 5) ∧
    (∀ i y, s.candidate a 0 = .inr i → s.signedOk (readOctets a) = true → s.candidate b 1 = .inl y →
      ∃ t, exec (.imageSelect a b) s = .next t ∧ t.get GLB_BOOT_STATUS.STAGE 0 = 6 ∧ t.get GLB_BOOT_STATUS.COPY_A 0 = 1 ∧
        t.get GLB_BOOT_STATUS.COPY_B 0 = y ∧ t.get GLB_BOOT_STATUS.SELECTED 0 = 0 ∧ t.jg.image = some i) ∧
    (∀ i x, s.candidate b 1 = .inr i → s.signedOk (readOctets b) = true → s.candidate a 0 = .inl x →
      ∃ t, exec (.imageSelect a b) s = .next t ∧ t.get GLB_BOOT_STATUS.STAGE 0 = 6 ∧ t.get GLB_BOOT_STATUS.COPY_A 0 = x ∧
        t.get GLB_BOOT_STATUS.COPY_B 0 = 1 ∧ t.get GLB_BOOT_STATUS.SELECTED 0 = 1 ∧ t.jg.image = some i) ∧
    (∀ i j, s.candidate a 0 = .inr i → s.candidate b 1 = .inr j →
      (j.seq ≤ i.seq → s.signedOk (readOctets a) = true →
        ∃ t, exec (.imageSelect a b) s = .next t ∧ t.get GLB_BOOT_STATUS.STAGE 0 = 6 ∧ t.get GLB_BOOT_STATUS.COPY_A 0 = 1 ∧
          t.get GLB_BOOT_STATUS.COPY_B 0 = 6 ∧ t.get GLB_BOOT_STATUS.SELECTED 0 = 0 ∧ t.jg.image = some i) ∧
      (i.seq < j.seq → s.signedOk (readOctets b) = true →
        ∃ t, exec (.imageSelect a b) s = .next t ∧ t.get GLB_BOOT_STATUS.STAGE 0 = 6 ∧ t.get GLB_BOOT_STATUS.COPY_A 0 = 6 ∧
          t.get GLB_BOOT_STATUS.COPY_B 0 = 1 ∧ t.get GLB_BOOT_STATUS.SELECTED 0 = 1 ∧ t.jg.image = some j))) ∧
  (∀ s : State, s.startsAt 7 = true → s.get CHS_ENGINE.STATE 0 ≠ 1 → s.ke.bootHeld = false →
    ∃ t, exec .keyRecordUnwrap s = .next t ∧ t.get GLB_BOOT_STATUS.STAGE 0 = 8 ∧
      t.ke.slotKey = if s.keysLost then s.ke.slotKey else s.recBegin.recsEnd.ke.slotKey) ∧
  (∀ (s : State) (pages : Nat) (chans : List ChanId), s.startsAt 8 = true →
    ∃ t, exec (.lpddr5xTrainingComplete pages chans) s = .next t ∧ t.vn.capPages = pages ∧
      9 ≤ t.get GLB_BOOT_STATUS.STAGE 0 ∧
      ∀ (c : Fin 32) (x y : ChanId), chans[c.val]? = some x → chans[0]? = some y →
        t.get MEM_CH.STATE c.val = (if x.ok && x.mr8 == y.mr8 then 2 else 4) ∧
        t.get MEM_CH.MR5 c.val = x.mr5.toNat ∧ t.get MEM_CH.MR6 c.val = x.mr6.toNat ∧
          t.get MEM_CH.MR8 c.val = x.mr8.toNat) ∧
  (∀ s : State, s.startsAt 12 = true →
    (∀ i, s.jg.image = some i → (s.lc.fuses.lcs = 2 ∨ s.lc.fuses.lcs = 3) → s.hostLanesUp = true → s.lineLanesUp = true →
      ∃ t, exec .bootComplete s = .next t ∧ t.md.trans = some ⟨mSTANDBY, mSTANDBY, 1, [2]⟩ ∧
        t.get GLB_MODE.IN_TRANSITION 0 = 1) ∧
    (s.lc.fuses.lcs = 1 → ∃ t, exec .bootComplete s = .next t ∧ t.get GLB_BOOT_STATUS.CODE 0 = 7 ∧ t.md.trans = none)) ∧
  (∀ (s : State) (m : Nat), s.jg.autoDue = true → (s.ones GAU_SCH.VALID).all (fun j => s.schState j != 1) = true →
    s.mode = mSTANDBY → s.md.trans = none → s.reqQuiet = true → s.get JIG_RUN_SVN.AUTO_MODE 0 = m →
      (m = mSECURE ∨ m = mGUARDED) →
    s.failedGuard true (m == mGUARDED) = 0 →
    ∃ t, exec .autoModeRequest s = .next t ∧ t.jg.autoDue = false ∧ t.get GLB_MODE_REQ.SRC 0 = 3 ∧
      t.md.trans = some ⟨m, m, 4, if m = mSECURE then [3] else [3, 4]⟩)

/-- R45, R54, R59, R460, R463: with every rail group fed, power that comes begins start-up in BOOT, and with a group unfed
the mode stays; the core rail's loss, or its group's, leads to DORMANT; another group's loss starts LOCKDOWN with
cause 9; RESET_N begins start-up again and keeps network time; fuses blown stay blown; its release changes no register
but what a command's end moves. -/
def Obligations.PowerAndResetPins : Prop :=
  (∀ (s : State) (a b : Nat) (kept low : Bool),
    ((s.mode = 0 ∨ (s.mode = mBOOT ∧ s.get GLB_BOOT_STATUS.STAGE 0 = 0)) →
      (upto 7).all (fun g => bit a g || bit b g) = true →
      ∃ t, exec (.powerGood a b kept low) s = .next t ∧ t.mode = mBOOT ∧ t.get GLB_BOOT_STATUS.STAGE 0 = 0 ∧
        t.lc.resetLow = low ∧ t.mono = s.mono) ∧
    ((upto 7).all (fun g => bit a g || bit b g) = false →
      ∃ t, exec (.powerGood a b kept low) s = .next t ∧ t.mode = s.mode)) ∧
  (∀ s : State, s.mode ≠ 0 →
    (∃ t, exec .coreRailLoss s = .next t ∧ t.mode = 0 ∧ t.cl.dormNow = s.now ∧ t.lc.fuses = s.burnt) ∧
    (s.calm = true → ∃ t, exec (.railGroupLoss 0) s = .next t ∧ t.mode = 0 ∧ t.cl.dormNow = s.now)) ∧
  (∀ (s : State) (g : Fin 7), s.calm = true → g.val ≠ 0 → (s.mode ≠ 0 ∧ s.mode ≠ mBOOT ∧ s.mode ≠ mLOCKDOWN) →
    s.md.trans = none →
    ∃ t, exec (.railGroupLoss g) s = .next t ∧ t.md.trans = some ⟨mLOCKDOWN, mLOCKDOWN, 9, [6]⟩) ∧
  (∀ s : State, s.mode ≠ 0 → s.md.trans = none →
    ∃ t, exec .resetNAssert s = .next t ∧ t.mode = mBOOT ∧ t.get GLB_BOOT_STATUS.STAGE 0 = 0 ∧ t.lc.resetLow = true ∧
      t.now = s.now ∧ t.lc.fuses = s.burnt) ∧
  (∀ s : State,
    ∃ t, exec .resetNRelease s = .next t ∧ t.lc.resetLow = false ∧
      ∀ (f : Fld) (i : Nat), closeMoves f = false → t.get f i = s.get f i)

/-- R43, R45, R47, R471: the only request of its KCLK cycle, with no transition in progress. For the mode the device is
in, or the base of DEGRADED, RESULT reads 2. For a target the table of R45 gives the mode: RESULT 3 with the number of
the guard that fails, or, when none does, RESULT 1 and the transition to it with cause 2. For another target RESULT
reads 4. SRC is the requester's port. While a transition is in progress the request is kept with RESULT 1. -/
def Obligations.ModeRequestsStartTransitions : Prop :=
  ∀ (s : State) (p : Port) (c : Instr) (m g : Nat) (legal : Bool), s.mayWrite p.val false reg_GLB_MODE_REQ.base →
    s.reqQuiet = true → s.degSafe →
    (c, m) ∈ [(Instr.modeReqStandby p, mSTANDBY), (.modeReqSecure p, mSECURE), (.modeReqGuarded p, mGUARDED)] →
    legal = [(2, 3), (2, 4), (3, 4), (3, 2), (4, 3), (4, 2), (5, 2)].contains (s.mode, m) →
    g = (s.granted p.val false).failedGuard (decide (s.mode = mSTANDBY)) (decide (m = mGUARDED)) →
    (s.md.trans = none → (m = s.mode ∨ (s.mode = mDEGRADED ∧ m = s.get GLB_MODE.BASE 0)) →
      ∃ t, exec c s = .next t ∧ t.get GLB_MODE_REQ.RESULT 0 = 2 ∧ t.get GLB_MODE_REQ.SRC 0 = p.val ∧ t.md.trans = none) ∧
    (s.md.trans = none → m ≠ s.mode → ¬(s.mode = mDEGRADED ∧ m = s.get GLB_MODE.BASE 0) →
      (legal = true → g = 0 →
        ∃ t, exec c s = .next t ∧ t.get GLB_MODE_REQ.RESULT 0 = 1 ∧ t.get GLB_MODE_REQ.SRC 0 = p.val ∧
          t.md.trans = some ⟨m, m, 2, if m = mGUARDED ∧ s.mode ≠ mSECURE then [3, 4] else [m]⟩) ∧
      (legal = true → g ≠ 0 →
        ∃ t, exec c s = .next t ∧ t.get GLB_MODE_REQ.RESULT 0 = 3 ∧ t.get GLB_MODE_REQ.GUARD 0 = g ∧
          t.get GLB_MODE_REQ.SRC 0 = p.val ∧ t.md.trans = none) ∧
      (legal = false →
        ∃ t, exec c s = .next t ∧ t.get GLB_MODE_REQ.RESULT 0 = 4 ∧ t.get GLB_MODE_REQ.SRC 0 = p.val ∧ t.md.trans = none)) ∧
    (∀ x, s.md.trans = some x → s.yields = false →
      ∃ t, exec c s = .next t ∧ t.get GLB_MODE_REQ.RESULT 0 = 1 ∧ t.get GLB_MODE_REQ.SRC 0 = p.val ∧ t.md.trans = some x ∧
        t.md.pendReq = some ⟨m, p.val, 2⟩)

/-- R45, R46: when a transition whose overlays have no records is complete, with nothing waiting behind it and no
degradation cause, GLB_MODE shows the target, its base, the mode left and the cause, and no transition is in progress.
R45, R157, R393, R456: DEGRADED is left for its base with cause 6 after a second without a degradation cause;
OFC_LOCKDOWN starts LOCKDOWN with cause 0x0A; DBG_CTL of a session, or JTAG once unlocked, enters FACTORY from BOOT
with cause 0x0B where the life-cycle is FACTORY or DEBUG stands; the JTAG unlock is remembered, and in start-up before
step 3 sets DEBUG. -/
def Obligations.OverlaysAndModeEvents : Prop :=
  (∀ (s : State) (x : Trans), s.md.trans = some x → s.calm = true →
    (∀ m ∈ x.overlays, s.overlay m = []) → (x.target < 8 ∧ x.base < 8 ∧ x.cause < 16) →
    (s.md.pendLock = none ∧ s.md.pendWarm = none ∧ s.md.pendReq = none ∧ s.md.heldLock = none) → s.degraded = 0 →
    ∃ t, exec .overlayComplete s = .next t ∧ t.mode = x.target ∧ t.get GLB_MODE.BASE 0 = x.base ∧
      t.get GLB_MODE.PREV 0 = s.mode ∧ t.get GLB_MODE.CAUSE 0 = x.cause ∧ t.get GLB_MODE.IN_TRANSITION 0 = 0 ∧
      t.md.trans = none) ∧
  ((∀ s : State, s.mode = mDEGRADED → s.degraded = 0 → s.md.degClear ≠ 0 → s.md.degClear - 1 + sec ≤ s.mono →
    s.md.trans = none →
    ∃ t, exec .degradedClearTimer s = .next t ∧
      t.md.trans = some ⟨s.get GLB_MODE.BASE 0, s.get GLB_MODE.BASE 0, 6, baseOverlays (s.get GLB_MODE.BASE 0)⟩) ∧
  (∀ (s : State) (p : Port), s.admits p.val 0 true true reg_OFC_LOCKDOWN.base = true →
    (s.mode ≠ 0 ∧ s.mode ≠ mBOOT ∧ s.mode ≠ mLOCKDOWN) → s.md.trans = none →
    ∃ t, exec (.ofcLockdown p) s = .next t ∧ t.md.trans = some ⟨mLOCKDOWN, mLOCKDOWN, 0x0A, [6]⟩) ∧
  (∀ (s : State) (who : Option Port),
    (∀ p, who = some p → s.admits p.val 0 true true reg_DBG_CTL.base = true) →
    (who = none → s.lc.jtagUnlocked = true) → s.mode = mBOOT → s.md.trans = none →
    (s.lc.fuses.lcs = 1 ∨ s.lc.debugUnlocked = true) →
    ∃ t, exec (.dbgEnter who) s = .next t ∧ t.mode = mFACTORY ∧ t.get GLB_MODE.CAUSE 0 = 0x0B ∧
      t.lc.debugUnlocked = true) ∧
  (∀ s : State, s.mode ≠ 0 →
    ∃ t, exec .jtagDebugUnlock s = .next t ∧ t.lc.jtagUnlocked = true ∧
      (s.mode = mBOOT → s.get GLB_BOOT_STATUS.STAGE 0 < 3 → t.lc.debugUnlocked = true)))

/-- R55: with no transition in progress OFC_RESET.WARM resets at once; WARM_AT, while not set, arms the time that
OFC_RESET_TIME holds; a write of 0 disarms it; the armed time that has come on a valid clock resets. Network time goes
on. R56, R58: the low word of OFC_TX_RESUME is held, and the high word then sets GLB_TX_RESUME to both; the 1 ms
update writes the maximum of R56 while an autonomous SA is ACTIVE in a backup domain whose fresh state is over, and
nothing without such an SA. That the Officer's write ends the fresh state is the model's choice (log entry 59) and no
part of this statement. -/
def Obligations.WarmResetAndTransmitResume : Prop :=
  ((∀ (s : State) (p : Port), s.admits p.val 0 true true reg_OFC_RESET.base = true → s.mode ≠ 0 → s.md.trans = none →
    ∃ t, exec (.ofcResetWarm p) s = .next t ∧ t.mode = mBOOT ∧ t.get GLB_BOOT_STATUS.STAGE 0 = 0 ∧ t.now = s.now) ∧
  (∀ (s : State) (p : Port), s.admits p.val 0 true true reg_OFC_RESET.base = true → s.on OFC_RESET.WARM_AT 0 = false →
    ∃ t, exec (.ofcResetWarmAtArm p) s = .next t ∧ t.get OFC_RESET.WARM_AT 0 = 1 ∧ t.get OFC_RESET.ARMED 0 = 1 ∧
      t.lc.warmAt = some (((s.get OFC_RESET_TIME0.V 0 + s.get OFC_RESET_TIME1.V 0 * 2 ^ 32) * 1000000000 +
        s.get OFC_RESET_TIME2.V 0) * ns) ∧ t.now = s.now) ∧
  (∀ (s : State) (p : Port), s.admits p.val 0 true true reg_OFC_RESET.base = true →
    ∃ t, exec (.ofcResetWarmAtDisarm p) s = .next t ∧ t.get OFC_RESET.WARM_AT 0 = 0 ∧ t.get OFC_RESET.ARMED 0 = 0 ∧
      t.lc.warmAt = none ∧ t.now = s.now) ∧
  (∀ (s : State) (w : Nat), s.lc.warmAt = some w → w ≤ s.now → s.on TIM_STATUS.VALID 0 = true → s.mode ≠ 0 →
    s.md.trans = none →
    ∃ t, exec .warmAtTimeReached s = .next t ∧ t.mode = mBOOT ∧ t.lc.warmAt = none ∧ t.now = s.now)) ∧
  ((∀ (s : State) (p : Port) (v : Word), s.admits p.val 0 true true reg_OFC_TX_RESUME_LO.base = true →
    ∃ t, exec (.ofcTxResumeLo p v) s = .next t ∧ Tab.get none t.lc.resumeLow p.val = some v.toNat ∧
      t.get GLB_TX_RESUME.V 0 = s.get GLB_TX_RESUME.V 0) ∧
  (∀ (s : State) (p : Port) (v : Word) (lo : Nat), s.admits p.val 0 true true reg_OFC_TX_RESUME_HI.base = true →
    Tab.get none s.lc.resumeLow p.val = some lo → lo < 2 ^ 32 →
    ∃ t, exec (.ofcTxResumeHi p v) s = .next t ∧ t.get GLB_TX_RESUME.V 0 = lo + v.toNat * 2 ^ 32 ∧
      t.lc.rBoot = lo + v.toNat * 2 ^ 32 ∧ Tab.get none t.lc.resumeLow p.val = none) ∧
  (∀ s : State, (s.autActive = true → s.lc.resumeFresh = false →
      ∃ t, exec .txResumeUpdate s = .next t ∧
        t.get GLB_TX_RESUME.V 0 = max s.lc.rBoot (max (ceilMs s.lc.hwm) (ceilMs s.now + 1)) % 2 ^ 64) ∧
    (s.autActive = false → ∃ t, exec .txResumeUpdate s = .next t ∧ t.get GLB_TX_RESUME.V 0 = s.get GLB_TX_RESUME.V 0)))

/-- R49, R50, R52, R53: each life-cycle command in its state begins to blow the fuses that R49 gives it, and LCY_STATUS
reads 1; one given through a session in another state is refused: LCY_STATUS reads 3 and no fuse changes;
RAISE_MIN_SVN appends the operand's version to the owner's entry; with the fuses blown, the warm reset that follows
has them in force, no key is left and start-up begins again. -/
def Obligations.LifeCycleCommands : Prop :=
  (∀ (s : State) (root : List Octet), s.lc.fuses.lcs = 0 → s.lc.lcyJob = none → s.mode ≠ 0 →
    2 ≤ s.get GLB_BOOT_STATUS.STAGE 0 →
    ∃ t, exec (.advFactory root) s = .next t ∧
      t.lc.lcyJob = some ⟨{ s.lc.fuses with lcs := 1, root := padTo 32 root }, false⟩ ∧ t.get LCY_STATUS.V 0 = 1) ∧
  (∀ (s : State) (p : Port) (h : List Octet), s.admits p.val 0 true true reg_LCY_CMD.base = true → s.lc.lcyJob = none →
    s.lc.fuses.lcs = 1 → s.lc.debugUnlocked = false →
    ∃ t, exec (.advProvisioned p h) s = .next t ∧
      t.lc.lcyJob = some ⟨{ s.lc.fuses with lcs := 2, certHash := padTo 48 h }, false⟩ ∧ t.get LCY_STATUS.V 0 = 1) ∧
  (∀ (s : State) (p : Port), s.admits p.val 0 true true reg_LCY_CMD.base = true → s.lc.lcyJob = none →
    s.lc.fuses.lcs = 2 → s.lc.fuses.owners.length < 17 →
    ∃ t, exec (.takeOwnership p) s = .next t ∧ t.get LCY_STATUS.V 0 = 1 ∧
      t.lc.lcyJob = some ⟨{ s.lc.fuses with lcs := 3, owners := s.lc.fuses.owners ++
        [⟨slice s.lcyOperand 0 48, [leNat (slice s.lcyOperand 48 2)]⟩] }, false⟩) ∧
  (∀ (s : State) (p : Port), s.admits p.val 0 true true reg_LCY_CMD.base = true → s.lc.lcyJob = none →
    s.lc.fuses.lcs = 3 → s.lc.fuses.reown < 16 →
    ∃ t, exec (.releaseOwnership p) s = .next t ∧ t.get LCY_STATUS.V 0 = 1 ∧
      t.lc.lcyJob = some ⟨{ s.lc.fuses with lcs := 2, reown := s.lc.fuses.reown + 1 }, false⟩) ∧
  (∀ (s : State) (p : Port), s.admits p.val 0 true true reg_LCY_CMD.base = true → s.lc.lcyJob = none →
    s.lc.fuses.lcs ≠ 0 →
    ∃ t, exec (.scrap (some p)) s = .next t ∧ t.get LCY_STATUS.V 0 = 1 ∧
      t.lc.lcyJob = some ⟨{ s.lc.fuses with lcs := 4 }, false⟩) ∧
  (∀ s : State, s.lc.lcyJob = none → s.lc.fuses.lcs = 1 → s.mode ≠ 0 →
    ∃ t, exec (.scrap none) s = .next t ∧ t.lc.lcyJob = some ⟨{ s.lc.fuses with lcs := 4 }, false⟩) ∧
  (∀ (s : State) (p : Port) (e : OwnerEntry), s.admits p.val 0 true true reg_LCY_CMD.base = true → s.lc.lcyJob = none →
    s.lc.fuses.lcs = 3 → s.lc.fuses.owners.getLast? = some e → e.svns.length < 4 →
    (s.minSvn < leNat (slice s.lcyOperand 48 2) ∧ leNat (slice s.lcyOperand 48 2) ≤ s.get JIG_RUN_SVN.SVN 0) →
    ∃ t, exec (.raiseMinSvn p) s = .next t ∧ t.get LCY_STATUS.V 0 = 2 ∧
      t.lc.fuses.owners = s.lc.fuses.owners.dropLast ++ [{ e with svns := e.svns ++ [leNat (slice s.lcyOperand 48 2)] }]) ∧
  (∀ (s : State) (p : Port) (h : List Octet) (c : Instr) (n : Nat), s.admits p.val 0 true true reg_LCY_CMD.base = true →
    s.lc.lcyJob = none →
    (c, n) ∈ [(Instr.advProvisioned p h, 1), (.takeOwnership p, 2), (.releaseOwnership p, 3), (.raiseMinSvn p, 3)] →
    s.lc.fuses.lcs ≠ n →
    ∃ t, exec c s = .next t ∧ t.get LCY_STATUS.V 0 = 3 ∧ t.lc.lcyJob = none ∧ t.lc.fuses = s.lc.fuses) ∧
  (∀ (s : State) (j : LcyJob), s.lc.lcyJob = some j → j.blown = false → s.mode ≠ 0 → s.md.trans = none →
    ∃ t, exec .lifecycleChangeComplete s = .next t ∧ t.lc.fuses = j.new ∧ t.lc.lcyJob = none ∧ t.mode = mBOOT ∧
      t.ke.slotKey = [] ∧ t.ke.saKey = [] ∧ t.ke.kram = [])

/-- R66, R451: a word of an array entry with a commit word is held for its writer, without the bits that its fields
reserve, and moves no register; held words of another entry of the array are discarded and counted with CAUSE 5. The
commit word of a classification rule sets VALID and ACTION, a reserved ACTION becoming 0, its writer's held words of
the rule take effect with it, and none of them remains held. -/
def Obligations.HeldWordsAndCommit : Prop :=
  (∀ (s : State) (p : Port) (bar2 : Bool) (off c : Nat) (v : Word) (pl : Place), s.mayWrite p.val bar2 off →
    place bar2 off = some pl → pl.reg.commit = some c → pl.word ≠ c →
    (pl.reg.rid = .GAU_ENT → s.gauLocked pl.idx = false) →
    (pl.reg.inWord pl.word).any (fun x => x.1.acc = .rw) = true →
    ((∀ h, s.heldOf (.port p.val) pl.reg.rid = some h → h.idx = pl.idx) →
      ∃ t, exec (.heldWordWrite p bar2 off v) s = .next t ∧
        t.heldWord (.port p.val) pl = some (pl.reg.keeps pl.word v.toNat) ∧ s.keepsBut t []) ∧
    (∀ h, s.heldOf (.port p.val) pl.reg.rid = some h → h.idx ≠ pl.idx →
      ∃ t, exec (.heldWordWrite p bar2 off v) s = .next t ∧
        t.heldOf (.port p.val) pl.reg.rid = some ⟨pl.reg.rid, pl.idx, [(pl.word, pl.reg.keeps pl.word v.toNat)]⟩ ∧
        t.get GLB_CFG_REJECT_LAST.CAUSE p.val = 5 ∧ s.keepsBut t rejectRegs)) ∧
  (∀ (s : State) (p : Port) (d : Dir) (i : Fin 8192) (v : Word) (r : Reg),
    r = (if d = .eg then reg_CLS_EGR else reg_CLS_IGR) →
    s.mayWrite p.val false (r.offset i.val 0) →
    ∃ t, exec (.clsRuleCommit p d i v) s = .next t ∧
      t.get (if d = .eg then CLS_EGR.VALID else CLS_IGR.VALID) i.val = v.toNat % 2 ∧
      (t.get (if d = .eg then CLS_EGR.ACTION else CLS_IGR.ACTION) i.val =
        if v.toNat / 2 % 8 ≤ 3 then v.toNat / 2 % 8 else 0) ∧
      (∀ h, s.heldOf (.port p.val) r.rid = some h → h.idx = i.val →
        t.heldOf (.port p.val) r.rid = none ∧
        ((h.words.map (·.1)).Nodup → ∀ x ∈ h.words, 0 < x.1 → x.1 < 12 → t.readFields r i.val x.1 = r.keeps x.1 x.2)))

/-- R4, R6, R391: an admitted read of any offset puts out a word. That of TIM_NOW's low word is the low 32 bits of the
present time, and it latches the other two; that of CNT_STATUS shows SKIPPED and clears it. -/
def Obligations.ReadsReturnAndClear : Prop :=
  (∀ (s : State) (p : Port) (fn : Fin 2) (bar2 : Bool) (off : Nat), s.admits p.val fn.val bar2 false off = true →
    (fn = 1 → bar2 = false) →
    (∃ t v, exec (.wideLowRead p fn bar2 off) s = .next t ∧ Emit.readData p.val fn.val bar2 off v ∈ t.out) ∧
    (∃ t v, exec (.rcRead p fn bar2 off) s = .next t ∧ Emit.readData p.val fn.val bar2 off v ∈ t.out)) ∧
  (∀ (s : State) (p : Port), s.admits p.val 0 false false reg_TIM_NOW.base = true →
    s.heldWord (.port p.val) ⟨reg_TIM_NOW, 0, 0⟩ = none →
    ∃ t, exec (.wideLowRead p 0 false reg_TIM_NOW.base) s = .next t ∧
      Emit.readData p.val 0 false reg_TIM_NOW.base (time96 s.now % 2 ^ 32) ∈ t.out ∧
      Tab.get none t.ac.wide (pfKey p.val 0) = some ⟨false, reg_TIM_NOW.base, 2,
        bits (time96 s.now) 32 32 + bits (time96 s.now) 64 32 * 2 ^ 32⟩) ∧
  (∀ (s : State) (p : Port), s.admits p.val 0 false false reg_CNT_STATUS.base = true →
    s.heldWord (.port p.val) ⟨reg_CNT_STATUS, 0, 0⟩ = none →
    ∃ t, exec (.rcRead p 0 false reg_CNT_STATUS.base) s = .next t ∧ t.get CNT_STATUS.SKIPPED 0 = 0 ∧
      ∃ v, Emit.readData p.val 0 false reg_CNT_STATUS.base v ∈ t.out ∧ bits v 8 8 = s.get CNT_STATUS.SKIPPED 0)

/-- R72, R74, R99: a write of word 0 that raises VALID of a secure channel makes a READY key in slot 0 ACTIVE and slot 0
current. One that clears VALID, leaving the fields that a valid channel locks, clears it and leaves the states of both
slots; one that would change a locked field of a valid channel is ignored and counted with CAUSE 2. -/
def Obligations.SecureChannelValid : Prop :=
  (∀ (s : State) (p : Port) (sc : Fin 4096) (v : Word), s.mayWrite p.val false (reg_SCT_TX.offset sc.val 0) →
    s.on SCT_TX.VALID sc.val = false →
    ∃ t, exec (.scValidSet p sc v) s = .next t ∧ t.get SCT_TX.VALID sc.val = 1 ∧
      (s.get SAT_TX.STATE (2 * sc.val) = saREADY →
        t.get SAT_TX.STATE (2 * sc.val) = saACTIVE ∧ t.get SCT_TX.CUR sc.val = 0)) ∧
  (∀ (s : State) (p : Port) (sc : Fin 4096) (v : Word) (same : Bool), s.mayWrite p.val false (reg_SCT_TX.offset sc.val 0) →
    s.get SCT_TX.VALID sc.val = 1 →
    same = txLocked.all (fun f =>
      (s.writeWord reg_SCT_TX sc.val 0 (putBits v.toNat 0 1 0)).1.get f sc.val == s.get f sc.val) →
    (same = true → ∃ t, exec (.scValidClear p sc v) s = .next t ∧ t.get SCT_TX.VALID sc.val = 0 ∧
      t.get SAT_TX.STATE (2 * sc.val) = s.get SAT_TX.STATE (2 * sc.val) ∧
      t.get SAT_TX.STATE (2 * sc.val + 1) = s.get SAT_TX.STATE (2 * sc.val + 1)) ∧
    (same = false → ∃ t, exec (.scValidClear p sc v) s = .next t ∧ s.keepsBut t rejectRegs ∧
      t.get GLB_CFG_REJECT_LAST.CAUSE p.val = 2)) ∧
  (∀ (s : State) (p : Port) (sc : Fin 4096) (v : Word), s.mayWrite p.val false (reg_SCT_RX.offset sc.val 0) →
    s.on SCT_RX.VALID sc.val = false →
    ∃ t, exec (.rxScValidSet p sc v) s = .next t ∧ t.get SCT_RX.VALID sc.val = 1 ∧
      (s.get SAT_RX.STATE (2 * sc.val) = saREADY →
        t.get SAT_RX.STATE (2 * sc.val) = saACTIVE ∧ t.get SCT_RX.CUR sc.val = 0)) ∧
  (∀ (s : State) (p : Port) (sc : Fin 4096) (v : Word) (same : Bool), s.mayWrite p.val false (reg_SCT_RX.offset sc.val 0) →
    s.get SCT_RX.VALID sc.val = 1 →
    same = rxLocked.all (fun f =>
      (s.writeWord reg_SCT_RX sc.val 0 (putBits v.toNat 0 1 0)).1.get f sc.val == s.get f sc.val) →
    (same = true → ∃ t, exec (.rxScValidClear p sc v) s = .next t ∧ t.get SCT_RX.VALID sc.val = 0 ∧
      t.get SAT_RX.STATE (2 * sc.val) = s.get SAT_RX.STATE (2 * sc.val) ∧
      t.get SAT_RX.STATE (2 * sc.val + 1) = s.get SAT_RX.STATE (2 * sc.val + 1)) ∧
    (same = false → ∃ t, exec (.rxScValidClear p sc v) s = .next t ∧ s.keepsBut t rejectRegs ∧
      t.get GLB_CFG_REJECT_LAST.CAUSE p.val = 2))

/-- R77, R79, R226: a switch of a manually keyed transmit channel whose other slot is READY makes that slot ACTIVE and
current and retires the old one if it was ACTIVE; with no READY slot it sets EV_SWITCH_MISS and leaves both slots. For
an autonomous channel it is refused with CAUSE 3. A group switch does the same for every manually keyed channel of the
group. -/
def Obligations.TransmitSwitch : Prop :=
  ∀ (s : State) (p : Port), s.mayWrite p.val false reg_PLN_TXSA_CMD.base →
    (∀ sc : Fin 4096,
      (s.on SCT_TX.KEYING sc.val = false → ∃ t, exec (.txsaSwitch p sc) s = .next t ∧ s.switched t sc.val) ∧
      (s.on SCT_TX.KEYING sc.val = true → ∃ t, exec (.txsaSwitch p sc) s = .next t ∧ s.keepsBut t rejectRegs ∧
        t.get GLB_CFG_REJECT_LAST.CAUSE p.val = 3)) ∧
    (∀ g : Fin 256, ∃ t, exec (.txsaGroupSwitch p g) s = .next t ∧
      ∀ c < 4096, s.get SCT_TX.GROUP c = g.val → s.on SCT_TX.KEYING c = false → s.switched t c)

/-- R102, R104, R105: an activation of a manually keyed receive channel makes its READY non-current slot ACTIVE and
current, FLOOR its NEXT_PN, and arms the retirement of the old ACTIVE slot after OVERLAP, or retires it at once where
that is 0; with no READY slot it sets EV_NO_SA and leaves both slots. A retire request retires an ACTIVE non-current
slot. A group request does the same for every such channel of the group; an autonomous channel's request moves no
register. An armed time that has come on a valid clock retires its slot. -/
def Obligations.ReceiveActivateAndRetire : Prop :=
  (∀ (s : State) (p : Port), s.mayWrite p.val false reg_PLN_RXSA_CMD.base →
    (∀ sc : Fin 4096,
      (s.on SCT_RX.KEYING sc.val = false →
        (∃ t, exec (.rxsaActivate p sc) s = .next t ∧ s.activated t sc.val) ∧
        (∃ t, exec (.rxsaRetire p sc) s = .next t ∧ s.retiredOld t sc.val)) ∧
      (s.on SCT_RX.KEYING sc.val = true →
        (∃ t, exec (.rxsaActivate p sc) s = .next t ∧ s.keepsBut t []) ∧
        (∃ t, exec (.rxsaRetire p sc) s = .next t ∧ s.keepsBut t []))) ∧
    (∀ g : Fin 256,
      (∃ t, exec (.rxsaGroupActivate p g) s = .next t ∧
        ∀ c < 4096, s.get SCT_RX.GROUP c = g.val → s.on SCT_RX.KEYING c = false → s.activated t c) ∧
      (∃ t, exec (.rxsaGroupRetire p g) s = .next t ∧
        ∀ c < 4096, s.get SCT_RX.GROUP c = g.val → s.on SCT_RX.KEYING c = false → s.retiredOld t c))) ∧
  (∀ (s : State) (a : Fin 8192), s.calm = true → s.on SAT_RX.RETIRE_ARMED a.val = true → s.on TIM_STATUS.VALID 0 = true →
    s.rxRetireAt a.val ≤ s.now → s.get SAT_RX.STATE a.val = saACTIVE →
    ∃ t, exec (.retireAtReached a) s = .next t ∧ t.get SAT_RX.STATE a.val = saRETIRED ∧
      t.get SAT_RX.RETIRE_ARMED a.val = 0 ∧ t.get SCT_RX.EV_RETIRE (a.val / 2) = 1)

/-- R251, R253: a word-0 write of a shaper with STAGE 0 puts the new values in force with the writer's held RATE and
BURST, drops staged values, and LEVEL becomes BURST or, with INIT ZERO, 0. With STAGE 1 it stages the values, sets
PENDING and leaves the shaper as it was. RATE and BURST are said for values that are no reserved encodings. -/
def Obligations.ShaperWrites : Prop :=
  ∀ (s : State) (p : Port) (q : Fin 8224) (v : Word) (r b : Nat),
    s.mayWrite p.val false ((shaperAt q.val).1.offset (shaperAt q.val).2 0) →
    r = (s.heldWord (.port p.val) ⟨(shaperAt q.val).1, (shaperAt q.val).2, 1⟩).getD (s.get QUE_SHP.RATE q.val) →
    b = ((s.heldWord (.port p.val) ⟨(shaperAt q.val).1, (shaperAt q.val).2, 2⟩).getD (s.get QUE_SHP.BURST q.val)) % 2 ^ 24 →
    (∃ t, exec (.shaperWrite p q v) s = .next t ∧ t.get QUE_SHP.ENABLE q.val = v.toNat % 2 ∧
      t.get QUE_SHP.EGROUP q.val = v.toNat / 16 % 256 ∧ t.get QUE_SHP.LEN_ADJ q.val = v.toNat / 4096 % 64 ∧
      (r ≤ 1600000 → (r = 0 → v.toNat % 2 = 0) → t.get QUE_SHP.RATE q.val = r) ∧
      (64 ≤ b → t.get QUE_SHP.BURST q.val = b) ∧
      t.get QUE_SHP.PENDING q.val = 0 ∧ Tab.get [] t.pl.shpStage q.val = [] ∧
      t.level q.val = if v.toNat / 2 % 2 = 1 then 0 else ((t.get QUE_SHP.BURST q.val * 65536 : Nat) : Int)) ∧
    (∃ t, exec (.shaperStage p q v) s = .next t ∧ t.get QUE_SHP.PENDING q.val = 1 ∧
      (r ≤ 1600000 → (r = 0 → v.toNat % 2 = 0) → 64 ≤ b → Tab.get [] t.pl.shpStage q.val =
        [v.toNat % 2, v.toNat / 16 % 256, v.toNat / 4096 % 64, r, b, v.toNat / 2 % 2]) ∧
      t.get QUE_SHP.ENABLE q.val = s.get QUE_SHP.ENABLE q.val ∧ t.get QUE_SHP.RATE q.val = s.get QUE_SHP.RATE q.val ∧
      t.get QUE_SHP.BURST q.val = s.get QUE_SHP.BURST q.val ∧ t.get QUE_SHP.EGROUP q.val = s.get QUE_SHP.EGROUP q.val ∧
      t.get QUE_SHP.LEN_ADJ q.val = s.get QUE_SHP.LEN_ADJ q.val ∧ t.pl.levels = s.pl.levels)

/-- R120, R121: the low word of TIM_INCR waits for the high word; both, when they make 0.78 ns to 0.82 ns, are the
increment from the next TCLK edge on, else 0.8 ns is, and CAUSE reads 1. A slew within 1 ms replaces the slew in
progress and leaves the time; a larger one is refused with CAUSE 1. The edge at which nothing of a slew is left ends
it. -/
def Obligations.IncrementAndSlew : Prop :=
  (∀ (s : State) (p : Port) (v : Word), s.admits p.val 0 false true (reg_TIM_INCR.offset 0 0) = true →
    ∃ t, exec (.timIncrLo p v) s = .next t ∧ Tab.get none t.tm.incrLow (Writer.port p.val).heldKey = some v.toNat ∧
      t.tm.incr = s.tm.incr ∧ t.tm.incrNext = s.tm.incrNext) ∧
  (∀ (s : State) (p : Port) (v : Word) (x : Nat), s.admits p.val 0 false true (reg_TIM_INCR.offset 0 1) = true →
    x = v.toNat % 16 * 2 ^ 32 + (Tab.get none s.tm.incrLow (Writer.port p.val).heldKey).getD (s.get TIM_INCR.FRAC32 0) →
    ((3350074491 ≤ x ∧ x ≤ 3521873182) →
      ∃ t, exec (.timIncrHi p v) s = .next t ∧ t.tm.incr = s.tm.incr ∧ t.tick.tm.incr = x ∧
        Tab.get none t.tm.incrLow (Writer.port p.val).heldKey = none) ∧
    ((x < 3350074491 ∨ 3521873182 < x) →
      ∃ t, exec (.timIncrHi p v) s = .next t ∧ t.tm.incr = s.tm.incr ∧ t.tick.tm.incr = 0xCCCCCCCD ∧
        t.get GLB_CFG_REJECT_LAST.CAUSE p.val = 1)) ∧
  (∀ (s : State) (p : Port) (v : Word), s.admits p.val 0 false true reg_TIM_SLEW.base = true →
    ((-1000000 ≤ v.toInt ∧ v.toInt ≤ 1000000) →
      ∃ t, exec (.timSlew p v) s = .next t ∧ t.tm.slew = v.toInt * ns ∧ t.now = s.now ∧
        t.get TIM_STATUS.STEPS 0 = s.get TIM_STATUS.STEPS 0) ∧
    ((v.toInt < -1000000 ∨ 1000000 < v.toInt) →
      ∃ t, exec (.timSlew p v) s = .next t ∧ t.tm.slew = s.tm.slew ∧ t.now = s.now ∧
        t.get GLB_CFG_REJECT_LAST.CAUSE p.val = 1)) ∧
  (∀ s : State, s.tm.slew ≠ 0 → s.tick.tm.slew = 0 →
    ∃ t, exec .slewComplete s = .next t ∧ t.tm.slew = 0 ∧ t.now = s.tick.now)

/-- R122, R123, R128: a GO with a VAL that is no reserved encoding. SET takes it as the network time and makes the time
valid; FORWARD and BACKWARD move the time by it; a BACKWARD below zero is refused with CAUSE 3 and leaves the time. A
change of the time counts one step and raises source 0x022. -/
def Obligations.TimeSteps : Prop :=
  ∀ (s : State) (p : Port) (v : Nat), s.mayWrite p.val false (reg_TIM_STEP.offset 0 3) → s.get TIM_STEP.VAL 0 = v →
    time96Legal v = true →
    (∃ t, exec (.timeStepSet p) s = .next t ∧ time96 t.now = time96 (fromTime96 v) ∧ t.on TIM_STATUS.VALID 0 = true ∧
      s.stepCounted t) ∧
    (∃ t, exec (.timeStepForward p) s = .next t ∧ time96 t.now = time96 (s.now + fromTime96 v) ∧ s.stepCounted t) ∧
    (fromTime96 v ≤ s.now →
      ∃ t, exec (.timeStepBackward p) s = .next t ∧ time96 t.now = time96 (s.now - fromTime96 v) ∧ s.stepCounted t) ∧
    (s.now < fromTime96 v →
      ∃ t, exec (.timeStepBackward p) s = .next t ∧ t.now = s.now ∧ t.get GLB_CFG_REJECT_LAST.CAUSE p.val = 3)

/-- R124, R125, R127, R128: TIM_KEEP marks the discipline and, in HOST mode, ends holdover. At a PPS_IN edge PPS_OK reads
1 when the edge comes 1 s ±1 ms after the last one, else 0. In PPS_TREF mode, the time valid and not in holdover, the
edge slews or, from STEP_THRESH on, steps by the offset from the nearest whole second, and the TREF_IN measurement
sets the increment, which it leaves in any other case. PPS_OK falls when no edge has come for 1 s and 1 ms; TREF_OK
follows TREF_IN; a fall raises 0x023 or 0x024. On a valid time whose discipline has been silent or whose TREF_IN bad
for the time of R127, holdover begins and raises 0x020. -/
def Obligations.DisciplineAndHoldover : Prop :=
  (∀ (s : State) (p : Port) (v : Word), s.admits p.val 0 false true reg_TIM_KEEP.base = true →
    ∃ t, exec (.timKeep p v) s = .next t ∧ t.tm.discAt = s.mono ∧
      t.get TIM_STATUS.HOLDOVER 0 = if s.get TIM_DISC.MODE 0 = 0 then 0 else s.get TIM_STATUS.HOLDOVER 0) ∧
  (∀ (s : State) (gap : Nat), s.calm = true → s.mode ≠ 0 → gap = s.mono + 1 - s.tm.ppsEdgeAt →
    ∃ t, exec .ppsEdge s = .next t ∧ t.tm.ppsEdgeAt = s.mono + 1 ∧
      t.get TIM_STATUS.PPS_OK 0 = if s.tm.ppsEdgeAt ≠ 0 ∧ 999 * ms ≤ gap ∧ gap ≤ 1001 * ms then 1 else 0) ∧
  (∀ (s : State) (e : Int), s.calm = true → s.mode ≠ 0 → s.get TIM_DISC.MODE 0 = 1 → s.on TIM_STATUS.VALID 0 = true →
    s.on TIM_STATUS.HOLDOVER 0 = false →
      e = (if 2 * (s.now % sec) < sec then (s.now % sec : Int) else (s.now % sec : Int) - sec) →
    (e.natAbs < s.get TIM_DISC.STEP_THRESH 0 * ns →
      ∃ t, exec .ppsEdge s = .next t ∧ t.tm.slew = -e ∧ t.now = s.now) ∧
    (s.get TIM_DISC.STEP_THRESH 0 * ns ≤ e.natAbs →
      ∃ t, exec .ppsEdge s = .next t ∧ time96 t.now = time96 ((s.now : Int) - e).toNat ∧ s.stepCounted t)) ∧
  (∀ (s : State) (n : Nat), s.mode ≠ 0 →
    ∃ t, exec (.trefMeasure n) s = .next t ∧ t.now = s.now ∧
      t.tm.incr = if s.get TIM_DISC.MODE 0 = 1 ∧ s.on TIM_STATUS.HOLDOVER 0 = false ∧ n ≠ 0 then sec / n else s.tm.incr) ∧
  (∀ s : State, s.on TIM_STATUS.PPS_OK 0 = true → s.tm.ppsEdgeAt + 1001 * ms ≤ s.mono + 1 →
    ∃ t, exec .ppsOkFall s = .next t ∧ t.get TIM_STATUS.PPS_OK 0 = 0 ∧ t.ic.icu.contains 0x023 = true) ∧
  (∀ (s : State) (ok : Bool), s.mode ≠ 0 →
    ∃ t, exec (.trefOkChange ok) s = .next t ∧ t.get TIM_STATUS.TREF_OK 0 = b2n ok ∧
      (s.on TIM_STATUS.TREF_OK 0 = true → ok = false → t.ic.icu.contains 0x024 = true)) ∧
  (∀ s : State, s.undisciplined = true → s.on TIM_STATUS.VALID 0 = true → s.on TIM_STATUS.HOLDOVER 0 = false →
    ∃ t, exec .holdoverEnter s = .next t ∧ t.get TIM_STATUS.HOLDOVER 0 = 1 ∧ t.tm.hoAt = s.mono ∧ t.now = s.now ∧
      t.ic.icu.contains 0x020 = true)

/-- R126, R129, R130, R344: the first excess of the holdover error raises 0x026; the RTC takes the whole second of valid
time; a lost LREFCLK leaves TCLK on the crystal and no line lane locked; of three copies of the counter that all
differ the median stays, not valid, and copies of which two agree leave the time. -/
def Obligations.TimeEvents : Prop :=
  (∀ s : State, s.get TIM_HO.LIMIT_NS 0 < s.hoErr → s.tm.hoErrHit = false →
    ∃ t, exec .holdoverErrLimit s = .next t ∧ t.tm.hoErrHit = true ∧ t.ic.icu.contains 0x026 = true) ∧
  (∀ s : State, s.mode ≠ 0 → s.on TIM_STATUS.VALID 0 = true → s.now % sec < ns →
    ∃ t, exec .rtcAlign s = .next t ∧ t.tm.rtc = s.now / sec * 32768 ∧ t.tm.rtcMono = s.mono ∧
      t.get TIM_RTC_STATUS.VALID 0 = 1) ∧
  (∀ s : State, s.calm = true → s.mode ≠ 0 → s.on TIM_STATUS.TCLK_XTAL 0 = false →
    ∃ t, exec .lrefclkFail s = .next t ∧ t.get TIM_STATUS.TCLK_XTAL 0 = 1 ∧ t.get GLB_REFCLK_STATUS.LREF_OK 0 = 0 ∧
      t.ic.icu.contains 0x025 = true ∧ (∀ l < 96, 64 ≤ l → t.get RGN_HLANE.LOCKED l = 0)) ∧
  (∀ (s : State) (a b c : Nat), s.mode ≠ 0 →
    ((a ≠ b ∧ b ≠ c ∧ a ≠ c) →
      ∃ t, exec (.timeCopyDisagree a b c) s = .next t ∧ t.now = wrapTime (median a b c) ∧ t.get TIM_STATUS.VALID 0 = 0 ∧
        t.get TIM_STATUS.HOLDOVER 0 = 0 ∧ t.ic.icu.contains 0x00C = true) ∧
    ((a = b ∨ b = c ∨ a = c) →
      ∃ t, exec (.timeCopyDisagree a b c) s = .next t ∧ t.now = s.now ∧
        t.get TIM_STATUS.VALID 0 = s.get TIM_STATUS.VALID 0))

/-- R135, R145, R378, R444, R448: a read of word 0 of a timestamp queue puts out the head's word, takes the head into the
reader's latch and out of the queue, and of an empty queue puts out 0; one of the event log or of the sampler ring
takes that entry into the reader's latch; through function 1 the timestamp queues and the event log read 0 and stay;
reading GAU_RING_HEAD marks the records seen. -/
def Obligations.LatchedReads : Prop :=
  (∀ (s : State) (p : Port) (lp : Fin 16), s.admits p.val 0 false false (reg_TIM_TXQ.offset lp.val 0) = true →
    ∃ t, exec (.timTxqRead p 0 lp) s = .next t ∧ Tab.get [] t.tm.txq lp.val = (Tab.get [] s.tm.txq lp.val).tail ∧
      Emit.readData p.val 0 false (reg_TIM_TXQ.offset lp.val 0) (s.txqHead lp.val % 2 ^ 32) ∈ t.out ∧
      Tab.get 0 t.ac.txqLatch (16 * pfKey p.val 0 + lp.val) = s.txqHead lp.val) ∧
  (∀ (s : State) (p : Port), s.admits p.val 0 false false reg_GAU_RING_HEAD.base = true →
    ∃ t, exec (.gauRingHeadRead p) s = .next t ∧ t.ga.gauMark = s.ga.gauCount) ∧
  (∀ (s : State) (p : Port) (i : Fin 256), s.admits p.val 0 false false (reg_CLM_LOG.offset i.val 0) = true →
    ∃ t, exec (.eventLogRead p 0 i) s = .next t ∧
      Tab.get none t.ac.logLatch (pfKey p.val 0) = some (i.val, leNat (Tab.get [] s.cl.log i.val))) ∧
  (∀ (s : State) (p : Port),
    (∀ lp : Fin 16, s.admits p.val 1 false false (reg_TIM_TXQ.offset lp.val 0) = true →
      ∃ t, exec (.timTxqRead p 1 lp) s = .next t ∧ Emit.readData p.val 1 false (reg_TIM_TXQ.offset lp.val 0) 0 ∈ t.out ∧
        t.tm.txq = s.tm.txq) ∧
    (∀ i : Fin 256, s.admits p.val 1 false false (reg_CLM_LOG.offset i.val 0) = true →
      ∃ t, exec (.eventLogRead p 1 i) s = .next t ∧ Emit.readData p.val 1 false (reg_CLM_LOG.offset i.val 0) 0 ∈ t.out ∧
        t.ac.logLatch = s.ac.logLatch)) ∧
  (∀ (s : State) (p : Port) (fn : Fin 2) (i : Fin 4096),
    s.admits p.val fn.val false false (reg_SNP_SMP.offset i.val 0) = true →
    ∃ t, exec (.samplerRecordRead p fn i) s = .next t ∧
      Tab.get none t.ac.smpLatch (pfKey p.val fn.val) = some (i.val, Tab.get 0 s.cn.smpRing i.val))

/-- R140, R141, R230: word 0 with ENABLE 1 takes the writer's held words in. Free of reserved values, the entry is armed:
FIRED and FIRE_COUNT are cleared, and a periodic DUE in the past becomes the first boundary later than now, another
DUE stays. With a reserved value it stays disarmed and CAUSE reads 1. Word 0 with ENABLE 0 disarms. The entry of a
valid schedule takes neither, and CAUSE reads 3. R138, R141, R142, R145, R153: the entry that is next to fire fires
and its record stands in the ring. NONE does no more; PULSE_OUT starts its pin's pulse, which the end of its width
ends; INTERRUPT raises source 0x040 + TARGET; LAUNCH_WINDOW opens the port's window from the due time for PARAM ns, a
longer one that is open staying, and its end closes it. -/
def Obligations.GaugeArmingAndSimpleActions : Prop :=
  (∀ (s : State) (p : Port) (i : Fin 1024) (v : Word), s.mayWrite p.val false (reg_GAU_ENT.offset i.val 0) →
    (∀ n : State, s.gauLocked i.val = false → n = s.gauTaken p.val i.val (putBits v.toNat 0 1 1) →
      (n.gauLegal i.val = true →
        ∃ t, exec (.gaugeArm p i v) s = .next t ∧ t.get GAU_ENT.ENABLE i.val = 1 ∧ t.get GAU_ENT.FIRED i.val = 0 ∧
          t.get GAU_ENT.FIRE_COUNT i.val = 0 ∧ t.gauArmed i.val = true ∧
          t.get GAU_ENT.ACTION i.val = n.get GAU_ENT.ACTION i.val ∧
            t.get GAU_ENT.TARGET i.val = n.get GAU_ENT.TARGET i.val ∧
          t.get GAU_ENT.DUE i.val = if n.on GAU_ENT.PERIODIC i.val = true ∧ n.gauDue i.val < s.now then
              time96 (nextPeriod (n.gauDue i.val) (n.gauPeriod i.val) s.now) else n.get GAU_ENT.DUE i.val) ∧
      (n.gauLegal i.val = false →
        ∃ t, exec (.gaugeArm p i v) s = .next t ∧ t.get GAU_ENT.ENABLE i.val = 0 ∧
          t.get GLB_CFG_REJECT_LAST.CAUSE p.val = 1)) ∧
    (s.gauLocked i.val = false → ∃ t, exec (.gaugeDisarm p i v) s = .next t ∧ t.get GAU_ENT.ENABLE i.val = 0) ∧
    (s.gauLocked i.val = true →
      (∃ t, exec (.gaugeArm p i v) s = .next t ∧ s.keepsBut t rejectRegs ∧ t.get GLB_CFG_REJECT_LAST.CAUSE p.val = 3) ∧
      (∃ t, exec (.gaugeDisarm p i v) s = .next t ∧ s.keepsBut t rejectRegs ∧ t.get GLB_CFG_REJECT_LAST.CAUSE p.val = 3))) ∧
  ((∀ (s : State) (i : Fin 1024),
    (s.fires i.val 0 → ∃ t, exec (.gaugeNone i) s = .next t ∧ s.firedIn t i.val) ∧
    (s.fires i.val 1 → ∃ t, exec (.pulseOut i) s = .next t ∧ s.firedIn t i.val ∧
      Tab.get 0 t.tm.pulseEnd (s.get GAU_ENT.TARGET i.val % 4) =
        s.mono + s.get TIM_PULSE_CFG.WIDTH (s.get GAU_ENT.TARGET i.val % 4) * 100 * ns) ∧
    (s.fires i.val 9 → ∃ t, exec (.gaugeInterrupt i) s = .next t ∧ s.firedIn t i.val ∧
      t.ic.icu.contains (0x040 + s.get GAU_ENT.TARGET i.val % 64) = true) ∧
    (s.fires i.val 8 → ∃ t, exec (.launchWindow i) s = .next t ∧ s.firedIn t i.val ∧
      (s.now < s.gauDue i.val + s.get GAU_ENT.PARAM i.val * ns →
        Tab.get 0 t.ga.launchWin (s.get GAU_ENT.TARGET i.val % 16) =
          max (s.gauDue i.val + s.get GAU_ENT.PARAM i.val * ns) (Tab.get 0 s.ga.launchWin (s.get GAU_ENT.TARGET i.val % 16))))) ∧
  (∀ (s : State) (pin : Fin 4), Tab.get 0 s.tm.pulseEnd pin.val ≠ 0 → Tab.get 0 s.tm.pulseEnd pin.val ≤ s.mono →
    ∃ t, exec (.pulseWidthEnd pin) s = .next t ∧ Tab.get 0 t.tm.pulseEnd pin.val = 0) ∧
  (∀ (s : State) (lp : Fin 16), Tab.get 0 s.ga.launchWin lp.val ≠ 0 → Tab.get 0 s.ga.launchWin lp.val ≤ s.now →
    ∃ t, exec (.launchWindowEnd lp) s = .next t ∧ Tab.get 0 t.ga.launchWin lp.val = 0))

/-- R77, R79, R105, R141, R226: an SA_SWITCH firing of each SCOPE fires and makes, for the channel that TARGET names or
for every channel of that group, the switch request or the activation; on an autonomous transmit channel it is refused
with CAUSE 3, on an autonomous receive channel it moves no slot. -/
def Obligations.GaugeSwitches : Prop :=
  ∀ (s : State) (i : Fin 1024) (c : Nat), s.fires i.val 3 → s.get GAU_ENT.TARGET i.val = c →
    (s.get GAU_ENT.SCOPE i.val = 0 →
      ∃ t, exec (.saSwitchTxSc i) s = .next t ∧ s.firedIn t i.val ∧ (s.on SCT_TX.KEYING c = false → s.switched t c) ∧
        (s.on SCT_TX.KEYING c = true → t.get GLB_CFG_REJECT_LAST.CAUSE Writer.gauge.rejIdx = 3 ∧
          t.get SCT_TX.CUR c = s.get SCT_TX.CUR c)) ∧
    (s.get GAU_ENT.SCOPE i.val = 1 →
      ∃ t, exec (.saSwitchTxGroup i) s = .next t ∧ s.firedIn t i.val ∧
        ∀ x < 4096, s.get SCT_TX.GROUP x = c → s.on SCT_TX.KEYING x = false → s.switched t x) ∧
    (s.get GAU_ENT.SCOPE i.val = 2 →
      ∃ t, exec (.saSwitchRxSc i) s = .next t ∧ s.firedIn t i.val ∧ (s.on SCT_RX.KEYING c = false → s.activated t c) ∧
        (s.on SCT_RX.KEYING c = true → t.get SCT_RX.CUR c = s.get SCT_RX.CUR c)) ∧
    (s.get GAU_ENT.SCOPE i.val = 3 →
      ∃ t, exec (.saSwitchRxGroup i) s = .next t ∧ s.firedIn t i.val ∧
        ∀ x < 4096, s.get SCT_RX.GROUP x = c → s.on SCT_RX.KEYING x = false → s.activated t x)

/-- R232, R254, R267, R439: KEY_DERIVE of a valid schedule with no pass running begins a pass that holds the selection of
every channel of the schedule; SHAPER_EPOCH with PARAM 0 adopts the staged values of every shaper of its group that
has PENDING, with PARAM 1 or 2 it sets the level of every shaper of the group to BURST or 0; CARRIER_START starts a
guarded port's valid stream on a calibrated lattice 1,000 ns after the due time, or of a LATE firing, and else sets
EV_REFUSED; COUNTER_SNAPSHOT begins a sweep, or, during one, counts SKIPPED. Each fires. R45, R47, R141, R471: a
MODE_OVERLAY firing for m, the only request of its KCLK cycle and with no transition in progress, is resolved as a
request with SRC 2: for the mode the device is in, or the base of DEGRADED, RESULT 2; for a target that the table of
R45 gives the mode, RESULT 3 where a guard fails and else RESULT 1 and the transition with cause 3; for another target
RESULT 4. -/
def Obligations.GaugeEngineActionsAndShapers : Prop :=
  ((∀ (s : State) (i : Fin 1024) (j : Nat), s.fires i.val 4 → s.get GAU_ENT.TARGET i.val = j → s.on GAU_SCH.VALID j = true →
    Tab.get 0 s.au.passStart j = 0 →
    ∃ t, exec (.keyDerive i) s = .next t ∧ s.firedIn t i.val ∧ s.passBegun t j ∧
      (s.get CHS_ENGINE.STATE 0 ≠ 2 → t.schState j = 3)) ∧
  (∀ (s : State) (i : Fin 1024), s.fires i.val 5 →
    (s.get GAU_ENT.PARAM i.val = 0 →
      ∃ t, exec (.shaperEpochAdopt i) s = .next t ∧ s.firedIn t i.val ∧
        ∀ q < 8224, s.get QUE_SHP.PENDING q = 1 → s.get QUE_SHP.EGROUP q = s.get GAU_ENT.TARGET i.val → s.adopted t q) ∧
    (s.get GAU_ENT.PARAM i.val = 1 →
      ∃ t, exec (.shaperEpochFull i) s = .next t ∧ s.firedIn t i.val ∧
        ∀ q < 8224, s.get QUE_SHP.EGROUP q = s.get GAU_ENT.TARGET i.val →
          t.level q = ((s.get QUE_SHP.BURST q * 65536 : Nat) : Int)) ∧
    (s.get GAU_ENT.PARAM i.val = 2 →
      ∃ t, exec (.shaperEpochZero i) s = .next t ∧ s.firedIn t i.val ∧
        ∀ q < 8224, s.get QUE_SHP.EGROUP q = s.get GAU_ENT.TARGET i.val → t.level q = 0)) ∧
  (∀ (s : State) (i : Fin 1024) (k : Nat) (ok : Bool), s.fires i.val 6 → k = s.get GAU_ENT.TARGET i.val % 16 →
    ok = (s.guarded k && !s.on CAR_TX.RUNNING k && s.carValid k && s.on TIM_LP.CAL_DONE k) →
    (ok = true →
      ∃ t, exec (.carrierStart i) s = .next t ∧ s.firedIn t i.val ∧ t.get CAR_TX.RUNNING k = 1 ∧
        t.get CAR_TX.EV_START k = 1 ∧
        t.get CAR_TX.START k =
          time96 ((if Tab.get 0 s.ga.gauLate i.val ≠ 0 then s.now else s.gauDue i.val) + 1000 * ns)) ∧
    (ok = false →
      ∃ t, exec (.carrierStart i) s = .next t ∧ s.firedIn t i.val ∧ t.get CAR_TX.EV_REFUSED k = 1 ∧
        t.get CAR_TX.RUNNING k = s.get CAR_TX.RUNNING k)) ∧
  (∀ (s : State) (i : Fin 1024), s.fires i.val 7 →
    (s.cn.sweep = none →
      ∃ t, exec (.counterSnapshot i) s = .next t ∧ s.firedIn t i.val ∧ t.get CNT_STATUS.BUSY 0 = 1 ∧
        t.cn.sweep.isSome = true ∧ t.cn.sweeps = s.cn.sweeps + 1) ∧
    (s.cn.sweep.isSome = true →
      ∃ t, exec (.counterSnapshot i) s = .next t ∧ s.firedIn t i.val ∧
        t.get CNT_STATUS.SKIPPED 0 = min (s.get CNT_STATUS.SKIPPED 0 + 1) (2 ^ CNT_STATUS.SKIPPED.width - 1)))) ∧
  (∀ (s : State) (i : Fin 1024) (m g : Nat) (legal : Bool), s.fires i.val 2 → s.get GAU_ENT.TARGET i.val = m →
    (m = mSTANDBY ∨ m = mSECURE ∨ m = mGUARDED) → s.reqQuiet = true → s.degSafe → s.md.trans = none → s.mode ≠ mBOOT →
      s.mode ≠ 0 →
    legal = [(2, 3), (2, 4), (3, 4), (3, 2), (4, 3), (4, 2), (5, 2)].contains (s.mode, m) →
    g = s.failedGuard (decide (s.mode = mSTANDBY)) (decide (m = mGUARDED)) →
    ((m = s.mode ∨ (s.mode = mDEGRADED ∧ m = s.get GLB_MODE.BASE 0)) →
      ∃ t, exec (.modeOverlay i) s = .next t ∧ s.firedIn t i.val ∧ t.get GLB_MODE_REQ.SRC 0 = 2 ∧
        t.get GLB_MODE_REQ.RESULT 0 = 2 ∧ t.md.trans = none) ∧
    (m ≠ s.mode → ¬(s.mode = mDEGRADED ∧ m = s.get GLB_MODE.BASE 0) →
      (legal = true → g = 0 →
        ∃ t, exec (.modeOverlay i) s = .next t ∧ s.firedIn t i.val ∧ t.get GLB_MODE_REQ.SRC 0 = 2 ∧
          t.get GLB_MODE_REQ.RESULT 0 = 1 ∧
          t.md.trans = some ⟨m, m, 3, if m = mGUARDED ∧ s.mode ≠ mSECURE then [3, 4] else [m]⟩) ∧
      (legal = true → g ≠ 0 →
        ∃ t, exec (.modeOverlay i) s = .next t ∧ s.firedIn t i.val ∧ t.get GLB_MODE_REQ.SRC 0 = 2 ∧
          t.get GLB_MODE_REQ.RESULT 0 = 3 ∧ t.get GLB_MODE_REQ.GUARD 0 = g ∧ t.md.trans = none) ∧
      (legal = false →
        ∃ t, exec (.modeOverlay i) s = .next t ∧ s.firedIn t i.val ∧ t.get GLB_MODE_REQ.SRC 0 = 2 ∧
          t.get GLB_MODE_REQ.RESULT 0 = 4 ∧ t.md.trans = none)))

/-- R228, R229, R230, R232: word 0 of a schedule takes the writer's held words in. With VALID 1 and values that fit, a
stopped schedule starts, its Gauge entry becoming an armed KEY_DERIVE entry, and it awaits its first pass while
network time is not valid or before T0 - LEAD; where the values do not fit it stays stopped with CAUSE 1. With VALID 0
and the locked fields as they are, a valid schedule stops: its Gauge entry is disarmed and none of its derivations is
left; a write that would change a locked field is refused with CAUSE 2. The first pass of a waiting schedule, and
RESYNC of a running one, begin a pass. R177, R201, R202, R231 to R234, R236: the derivation of a region whose turn it
is. One that its slot or its key refuses fails with that reason. One that meets a fault fences Chisel for its KAT and
stays, and repeated after a fault fails with reason 4 if it meets another. One that ends well derives by the KDF under
QX-SAK from the slot's key, SCI and epoch: a transmit key is staged before its window opens; a receive key is
installed with NEXT_PN 1 and AN the epoch modulo 4, once the key store takes it; for a slot that is ACTIVE it fails
with reason 0x0A. A pass with no derivation left ends with its length. R227, R235, R236: from S(n) - W on, the key
store free, the staged key of a transmit channel is installed with AN = n mod 4 and its salt and SSCI; a READY receive
slot becomes ACTIVE and current, and the other one, ACTIVE with epoch n, retires at S(n + 1) + W; at S(n) a transmit
channel whose current key is of an earlier epoch makes the switch request of R77. -/
def Obligations.AutonomousKeying : Prop :=
  ((∀ (s : State) (p : Port) (j : Fin 256) (v : Word) (n : State), s.mayWrite p.val false (reg_GAU_SCH.offset j.val 0) →
    (n = s.schTaken p.val j.val (putBits v.toNat 0 1 1) → s.on GAU_SCH.VALID j.val = false →
      (s.schFits n j.val = true →
        ∃ t, exec (.scheduleValidSet p j v) s = .next t ∧ t.get GAU_SCH.VALID j.val = 1 ∧
          t.get GAU_SCH.DERIVE_ENTRY j.val = n.get GAU_SCH.DERIVE_ENTRY j.val ∧
          t.get GAU_ENT.TARGET (n.get GAU_SCH.DERIVE_ENTRY j.val) = j.val ∧
          t.get GAU_ENT.ACTION (n.get GAU_SCH.DERIVE_ENTRY j.val) = 4 ∧
          t.get GAU_ENT.ENABLE (n.get GAU_SCH.DERIVE_ENTRY j.val) = 1 ∧
          ((s.on TIM_STATUS.VALID 0 = false ∨ s.now + n.schLead j.val < n.schT0 j.val) →
            t.au.firstDue.contains j.val = true)) ∧
      (s.schFits n j.val = false →
        ∃ t, exec (.scheduleValidSet p j v) s = .next t ∧ t.get GAU_SCH.VALID j.val = 0 ∧
          t.get GLB_CFG_REJECT_LAST.CAUSE p.val = 1)) ∧
    (n = s.schTaken p.val j.val (putBits v.toNat 0 1 0) → s.get GAU_SCH.VALID j.val = 1 →
      (schLocked.all (fun f => n.get f j.val == s.get f j.val) = true →
        ∃ t, exec (.scheduleValidClear p j v) s = .next t ∧ t.get GAU_SCH.VALID j.val = 0 ∧ t.schState j.val = 0 ∧
          t.get GAU_ENT.ENABLE (s.get GAU_SCH.DERIVE_ENTRY j.val) = 0 ∧ Tab.get 0 t.au.passStart j.val = 0 ∧
          t.au.passItems.all (fun x => x.sched != j.val) = true) ∧
      (schLocked.all (fun f => n.get f j.val == s.get f j.val) = false →
        ∃ t, exec (.scheduleValidClear p j v) s = .next t ∧ s.keepsBut t rejectRegs ∧
          t.get GLB_CFG_REJECT_LAST.CAUSE p.val = 2))) ∧
  (∀ (s : State) (j : Fin 256), s.calm = true → s.au.firstDue.contains j.val = true → s.schRuns j.val = true →
    s.schT0 j.val ≤ s.now + s.schLead j.val → Tab.get 0 s.au.passStart j.val = 0 →
    ∃ t, exec (.scheduleFirstPass j) s = .next t ∧ s.passBegun t j.val ∧ t.au.firstDue.contains j.val = false) ∧
  (∀ (s : State) (p : Port) (j : Fin 256), s.mayWrite p.val false reg_GAU_SCHED_CMD.base → s.schRuns j.val = true →
    Tab.get 0 s.au.passStart j.val = 0 → ∃ t, exec (.resync p j) s = .next t ∧ s.passBegun t j.val)) ∧
  ((∀ (s : State) (r : Region) (x : PassItem), s.calm = true → s.nextItem r.val = some x → s.chsTurn = some r.val →
    s.get CHS_ENGINE.STATE 0 = 0 → Tab.get 0 s.au.autEpoch (scKey x.dir x.sc) ≤ x.epoch →
    (Tab.get 0 s.au.passRetry r.val = 0 → s.itemCode x ≠ 0 → ∀ fault : Bool,
      ∃ t, exec (.autokeySaDerive r fault) s = .next t ∧ t.au.passItems = s.au.passItems.erase x ∧
        t.get GAU_AUT_LAST.REASON 0 = s.itemCode x ∧ t.get GAU_SCH.PASS_FAIL x.sched = 1) ∧
    (Tab.get 0 s.au.passRetry r.val = 0 → s.itemCode x = 0 →
      ∃ t, exec (.autokeySaDerive r true) s = .next t ∧ t.get CHS_ENGINE.STATE 0 = 1 ∧
        t.get CHS_FAULTS.V 0 = (s.get CHS_FAULTS.V 0 + 1) % 2 ^ 64 ∧ t.ic.icu.contains 0x3C2 = true ∧
        t.au.passItems = s.au.passItems) ∧
    (Tab.get 0 s.au.passRetry r.val ≠ 0 → s.cakGone x (Tab.get 0 s.au.passRetry r.val) = false →
      ∃ t, exec (.autokeySaDerive r true) s = .next t ∧ t.get CHS_ENGINE.STATE 0 = 1 ∧
        t.au.passItems = s.au.passItems.erase x ∧ t.get GAU_AUT_LAST.REASON 0 = 4) ∧
    (Tab.get 0 s.au.passRetry r.val = 0 → s.itemCode x = 0 → s.saState (s.itemKey x) = saACTIVE →
      (x.dir = .ig → s.storeFree (256 + s.itemKey x) = true) →
      ∃ t, exec (.autokeySaDerive r false) s = .next t ∧ t.au.passItems = s.au.passItems.erase x ∧
        t.get GAU_AUT_LAST.REASON 0 = 0x0A) ∧
    (∀ k : List Octet × Nat × Nat, Tab.get 0 s.au.passRetry r.val = 0 → s.itemCode x = 0 → x.dir = .eg →
      s.saState (s.itemKey x) ≠ saACTIVE →
        s.now + s.schW (s.get SCT_TX.SCHED x.sc) < s.epochStart (s.get SCT_TX.SCHED x.sc) x.epoch →
      k = autSplit (s.get SCT_TX.SUITE x.sc) (kdf (Tab.get [] s.ke.slotKey (s.itemSlot x)) (ascii "QX-SAK")
        (beBytes 8 (s.get SCT_TX.SCI x.sc) ++ beBytes 8 x.epoch) (autBits (s.get SCT_TX.SUITE x.sc))) →
      ∃ t, exec (.autokeySaDerive r false) s = .next t ∧ t.au.passItems = s.au.passItems.erase x ∧
        Tab.get none t.au.staged (s.itemKey x) = some ⟨k.1, k.2.1, k.2.2, x.epoch, s.itemSlot x, false⟩) ∧
    (∀ (k : List Octet × Nat × Nat) (b : Nat), Tab.get 0 s.au.passRetry r.val = 0 → s.itemCode x = 0 → x.dir = .ig →
      s.itemKey x = 8192 + b → s.get SAT_RX.STATE b ≠ saACTIVE → s.storeFree (256 + s.itemKey x) = true →
      k = autSplit (s.get SCT_RX.SUITE x.sc) (kdf (Tab.get [] s.ke.slotKey (s.itemSlot x)) (ascii "QX-SAK")
        (beBytes 8 (s.get SCT_RX.SCI x.sc) ++ beBytes 8 x.epoch) (autBits (s.get SCT_RX.SUITE x.sc))) →
      ∃ t, exec (.autokeySaDerive r false) s = .next t ∧ t.au.passItems = s.au.passItems.erase x ∧
        Tab.get [] t.ke.saKey (8192 + b) = k.1 ∧ t.get SAT_RX.NEXT_PN b = 1 ∧ t.get SAT_RX.AN b = x.epoch % 4 ∧
        t.get SAT_RX.SALT b = k.2.1 % 2 ^ SAT_RX.SALT.width ∧ t.get SAT_RX.SSCI b = k.2.2 % 2 ^ SAT_RX.SSCI.width)) ∧
  (∀ (s : State) (j : Fin 256), s.calm = true → Tab.get 0 s.au.passStart j.val ≠ 0 →
    s.au.passItems.all (fun x => x.sched != j.val) = true →
    ∃ t, exec (.autokeyPassComplete j) s = .next t ∧ Tab.get 0 t.au.passStart j.val = 0 ∧
      t.get GAU_SCH.LAST_PASS_US j.val = min ((s.mono + 1 - Tab.get 0 s.au.passStart j.val) / us) 65535)) ∧
  ((∀ (s : State) (c : Fin 4096) (g : Staged) (a : Nat), s.calm = true → a = s.autTarget c.val →
    Tab.get none s.au.staged a = some g → s.schRuns (s.get SCT_TX.SCHED c.val) = true → s.on SCT_TX.VALID c.val = true →
    s.epochStart (s.get SCT_TX.SCHED c.val) g.epoch ≤ s.now + s.schW (s.get SCT_TX.SCHED c.val) →
    Tab.get 0 s.au.autEpoch c.val ≤ g.epoch → s.get SAT_TX.STATE a ≠ saACTIVE → s.storeFree (256 + a) = true →
    ∃ t, exec (.epochInstallInstant .eg c) s = .next t ∧ Tab.get none t.au.staged a = none ∧
      Tab.get [] t.ke.saKey a = g.key ∧ t.get SAT_TX.AN a = g.epoch % 4 ∧ t.get SAT_TX.INSTALLED a = 1 ∧
      t.get SAT_TX.SALT a = g.salt % 2 ^ SAT_TX.SALT.width ∧ t.get SAT_TX.SSCI a = g.ssci % 2 ^ SAT_TX.SSCI.width ∧
      (t.get SAT_TX.STATE a = saREADY ∨ t.get SAT_TX.STATE a = saACTIVE) ∧ Tab.get 0 t.au.autEpoch c.val = g.epoch + 1) ∧
  (∀ (s : State) (c : Fin 4096) (n m j : Nat), s.calm = true → j = s.get SCT_RX.SCHED c.val →
    Tab.get 0 s.au.saEpoch (8192 + s.rxOth c.val) = n + 1 → Tab.get 0 s.au.saEpoch (8192 + s.rxCur c.val) = m + 1 →
    s.schRuns j = true → s.on SCT_RX.VALID c.val = true → s.on SCT_RX.KEYING c.val = true →
    s.get SAT_RX.STATE (s.rxOth c.val) = saREADY → s.epochStart j n ≤ s.now + s.schW j →
    ∃ t, exec (.epochInstallInstant .ig c) s = .next t ∧ t.get SAT_RX.STATE (s.rxOth c.val) = saACTIVE ∧
      t.get SCT_RX.CUR c.val = 1 - s.get SCT_RX.CUR c.val ∧
      (s.get SAT_RX.STATE (s.rxCur c.val) = saACTIVE →
        if s.epochStart j (m + 1) + s.schW j ≤ s.now then t.get SAT_RX.STATE (s.rxCur c.val) = saRETIRED
        else t.get SAT_RX.RETIRE_ARMED (s.rxCur c.val) = 1 ∧
          t.rxRetireAt (s.rxCur c.val) = (s.epochStart j (m + 1) + s.schW j) / ns * ns)) ∧
  (∀ (s : State) (c : Fin 4096) (e : Nat), s.calm = true → e = s.epochAt (s.get SCT_TX.SCHED c.val) s.now →
    s.schRuns (s.get SCT_TX.SCHED c.val) = true → s.on SCT_TX.VALID c.val = true → s.on SCT_TX.KEYING c.val = true →
    Tab.get 0 s.au.switched c.val < e → Tab.get 0 s.au.saEpoch (s.curSa c.val) < e →
    Tab.get 0 s.au.saEpoch (s.othSa c.val) ≤ e →
    ∃ t, exec (.epochSwitchInstant c) s = .next t ∧ s.switched t c.val ∧ Tab.get 0 t.au.switched c.val = e))

/-- R170, R171: a KST_CMD of a port with no command waiting or running joins the queue, with its operation, slot or SA
key, length and REPLACE, and KST_STATUS.STATE reads PENDING; one given while the port's command waits or runs is not
taken, and REASON reads 9. R191, R194: a CHS_CMD of either world from a port with no command waiting or running joins
Chisel's queue with its operation code, and CHS_STATUS reads PENDING, CODE 0 and no result; one given while the port's
command waits or runs is not taken, and CODE reads BUSY. -/
def Obligations.KeyStoreAndChiselCommandsQueue : Prop :=
  (∀ (s : State) (p : Port) (slot : Fin 256) (sa : Fin 16384) (k256 replace : Bool) (c : Instr) (r : KstReq),
    s.mayWrite p.val true reg_KST_CMD.base →
    (c, r) ∈ [(Instr.kstGenerate p slot k256 replace, KstReq.mk p.val 1 slot.val 0 k256 replace),
      (.kstInvalidate p slot, ⟨p.val, 2, slot.val, 0, false, false⟩), (.kstErase p slot, ⟨p.val, 3, slot.val, 0, false,
        false⟩),
      (.kstEraseSa p sa, ⟨p.val, 4, 0, sa.val, false, false⟩), (.kstPersist p slot, ⟨p.val, 5, slot.val, 0, false, false⟩),
      (.kstUnpersist p slot, ⟨p.val, 6, slot.val, 0, false, false⟩)] →
    ((s.get KST_STATUS.STATE p.val ≠ 1 ∧ s.get KST_STATUS.STATE p.val ≠ 2) →
      ∃ t, exec c s = .next t ∧ t.get KST_STATUS.STATE p.val = 1 ∧ t.get KST_STATUS.REASON p.val = 0 ∧
        t.ke.kstQueue = s.ke.kstQueue ++ [r]) ∧
    ((s.get KST_STATUS.STATE p.val = 1 ∨ s.get KST_STATUS.STATE p.val = 2) →
      ∃ t, exec c s = .next t ∧ t.get KST_STATUS.REASON p.val = 9 ∧ t.ke.kstQueue = s.ke.kstQueue)) ∧
  (∀ (s : State) (p : Port) (w : World) (v : Word) (c : Instr) (op : Nat),
    s.mayWrite p.val (cmdReg w).bar2 (cmdReg w).base →
    (c, op) ∈ [(Instr.enc p w v, 1), (.dec p w v, 2), (.cmac p w v, 3), (.wrap p w v, 4), (.exportKey p w v, 5),
      (.unwrapSlot p w v, 6), (.unwrapSa p w v, 7), (.deriveSlot p w v, 8), (.deriveSa p w v, 9), (.chsEraseSa p w v, 10),
      (.suspend p w v, 11), (.restore p w v, 12), (.abort p w v, 13)] →
    ((s.get CHS_STATUS.STATE p.val ≠ 1 ∧ s.get CHS_STATUS.STATE p.val ≠ 2) →
      ∃ t, exec c s = .next t ∧ t.get CHS_STATUS.STATE p.val = 1 ∧ t.get CHS_STATUS.CODE p.val = 0 ∧
        t.get CHS_STATUS.RESULT_VALID p.val = 0 ∧
        t.ch.chsQueue = s.ch.chsQueue ++ [⟨p.val, w, v.toNat / 16 * 16 + op, false⟩]) ∧
    ((s.get CHS_STATUS.STATE p.val = 1 ∨ s.get CHS_STATUS.STATE p.val = 2) →
      ∃ t, exec c s = .next t ∧ t.get CHS_STATUS.CODE p.val = cBUSY ∧ t.ch.chsQueue = s.ch.chsQueue))

/-- R160, R170, R172 to R176, R179: the port's command at the front of the queue that need not wait. One for a fixed, a
reserved, an EMPTY or an INVALIDATED slot is REFUSED with its reason. GENERATE into an EMPTY general slot puts the
drawn key there, LIVE and of origin GENERATED. INVALIDATE and ERASE remove the slot's key; with CASCADE its children's
keys go too, without it INVALIDATE leaves the slot INVALIDATED and its children are orphans; ERASE leaves it EMPTY.
ERASE_SA removes the SA key. UNPERSIST ends the slot's key RAM entry. A zeroisation that completes ends its port's
command DONE. R182: the bootstrap word, start-up step 8 complete, installs the key register in an EMPTY slot 2, puts
out its wrapping under slot 0 and reads DONE, but with slot 2 in use, or a second time, reads REFUSED; before that it
is held and reads HELD; another word is counted with CAUSE 1. -/
def Obligations.KeyStoreCommandsRun : Prop :=
  ((∀ (s : State) (r : KstReq) (rest : List KstReq), s.calm = true → s.ke.kstQueue = r :: rest → r.port < 2 →
    s.kstWaits r = false →
    (∀ why : Nat, r.op ≠ 4 → (1 ≤ r.op ∧ r.op ≤ 6) →
      why = (if r.slot < 4 then 2 else if r.slot < 16 then 8 else if r.op = 1 then s.slotRefused r.slot r.replace
        else if s.get KST_SLOT.STATE r.slot = 0 then 4
        else if s.get KST_SLOT.STATE r.slot = 2 ∧ (r.op = 2 ∨ r.op = 5) then 5 else 0) → why ≠ 0 →
      ∃ t, exec .kstCommandStart s = .next t ∧ t.ke.kstQueue = rest ∧ t.get KST_STATUS.STATE r.port = 4 ∧
        t.get KST_STATUS.REASON r.port = why ∧ t.ke.slotKey = s.ke.slotKey) ∧
    (∀ k : List Octet, r.op = 1 → 16 ≤ r.slot → s.get KST_SLOT.STATE r.slot = 0 →
      (s.draw (if r.k256 then 32 else 16)).map (·.1) = some k →
      ∃ t, exec .kstCommandStart s = .next t ∧ t.ke.kstQueue = rest ∧ t.get KST_SLOT.STATE r.slot = 1 ∧
        t.get KST_SLOT.ORIGIN r.slot = 5 ∧ t.get KST_SLOT.HAS_PARENT r.slot = 0 ∧ Tab.get [] t.ke.slotKey r.slot = k ∧
        (s.on KST_SLOT.PERSIST r.slot = false → t.get KST_STATUS.STATE r.port = 3)) ∧
    (r.op = 2 → 16 ≤ r.slot → s.get KST_SLOT.STATE r.slot ≠ 0 → s.get KST_SLOT.STATE r.slot ≠ 2 →
      ∃ t, exec .kstCommandStart s = .next t ∧ t.ke.kstQueue = rest ∧ Tab.get [] t.ke.slotKey r.slot = [] ∧
        (s.on KST_SLOT.CASCADE r.slot = true → ∀ c ∈ s.childSlots r.slot, Tab.get [] t.ke.slotKey c = []) ∧
        (s.on KST_SLOT.CASCADE r.slot = false → t.get KST_SLOT.STATE r.slot = 2 ∧
          ∀ c ∈ s.childSlots r.slot, t.get KST_SLOT.ORPHAN c = 1)) ∧
    (r.op = 3 → 16 ≤ r.slot → s.get KST_SLOT.STATE r.slot ≠ 0 →
      ∃ t, exec .kstCommandStart s = .next t ∧ t.ke.kstQueue = rest ∧ Tab.get [] t.ke.slotKey r.slot = [] ∧
        t.get KST_SLOT.STATE r.slot = 0 ∧
        (s.on KST_SLOT.CASCADE r.slot = true → ∀ c ∈ s.childSlots r.slot, Tab.get [] t.ke.slotKey c = [])) ∧
    (r.op = 4 →
      ∃ t, exec .kstCommandStart s = .next t ∧ t.ke.kstQueue = rest ∧ Tab.get [] t.ke.saKey r.sa = []) ∧
    (r.op = 6 → 16 ≤ r.slot → s.get KST_SLOT.STATE r.slot ≠ 0 →
      ∃ t, exec .kstCommandStart s = .next t ∧ t.ke.kstQueue = rest ∧ t.get KST_STATUS.STATE r.port = 3 ∧
        t.get KST_SLOT.PERSISTED r.slot = 0)) ∧
  (∀ (s : State) (p : Port), s.calm = true → s.get KST_STATUS.STATE p.val = 2 →
    ∃ t, exec (.kstZeroiseComplete p) s = .next t ∧ t.get KST_STATUS.STATE p.val = 3 ∧
      Tab.get [] t.ke.kstZero p.val = [])) ∧
  (∀ (s : State) (p : Port) (v : Word) (key : List Octet), s.mayWrite p.val false reg_GLB_OFC_BOOT_GO.base →
    key = (upto 8).flatMap (fun i => leBytes 4 (Tab.get 0 s.ke.bootKey i)) →
    (v.toNat = 0x0B057A9E → (8 ≤ s.get GLB_BOOT_STATUS.STAGE 0 ∨ s.mode ≠ mBOOT) →
      ((s.get KST_SLOT.STATE 2 = 0 ∧ s.ke.bootDone = false) →
        ∃ t, exec (.ofcBootGo p v) s = .next t ∧ t.get GLB_OFC_BOOT_STATUS.V 0 = 1 ∧ t.ke.bootDone = true ∧
          t.ke.bootKey = [] ∧ Tab.get [] t.ke.slotKey 2 = key ∧ t.ke.bootOut = keyWrap (Tab.get [] s.ke.slotKey 0) key) ∧
      ((s.get KST_SLOT.STATE 2 ≠ 0 ∨ s.ke.bootDone = true) →
        ∃ t, exec (.ofcBootGo p v) s = .next t ∧ t.get GLB_OFC_BOOT_STATUS.V 0 = 2 ∧ t.ke.slotKey = s.ke.slotKey)) ∧
    (v.toNat = 0x0B057A9E → (s.get GLB_BOOT_STATUS.STAGE 0 < 8 ∧ s.mode = mBOOT) →
      ∃ t, exec (.ofcBootGo p v) s = .next t ∧ t.get GLB_OFC_BOOT_STATUS.V 0 = 3 ∧ t.ke.bootHeld = true ∧
        t.ke.slotKey = s.ke.slotKey) ∧
    (v.toNat ≠ 0x0B057A9E →
      ∃ t, exec (.ofcBootGo p v) s = .next t ∧ s.keepsBut t rejectRegs ∧ t.get GLB_CFG_REJECT_LAST.CAUSE p.val = 1))

/-- R202, R210, R426, R433: a verification decides the staged image; a PKE fault of a signature ends its report with ERR
3, one of a first verification has it made again, and each fences the engine; its KAT returns it to service, or,
failed or the fifth in 10 s, retires it. R183, R184, R185, R188: GO captures the port's map, which waits for or takes
the PKE, and STATE reads BUSY; on a RETIRED PKE it ends with ERR 3. The PKE signs the payload with the key of slot 1,
unless it is gone, and counts the report. The certificate read, the report is in its window, and the certificate with
STATE DONE if its hash is the fused one, else no certificate and ERR 2. -/
def Obligations.PkeOperationsAndReports : Prop :=
  ((∀ (s : State) (b : Bool), s.ch.pkeJob = some (.verify b) → s.get JIG_STG_STATUS.STATE 0 = 2 →
    ∃ t, exec .pkeVerifyComplete s = .next t ∧ t.jg.stgJob = some (if s.signedOk s.jg.stgBuf then 1 else 2)) ∧
  (∀ (s : State) (p : Nat) (map : List Octet), s.ch.pkeJob = some (.sign p map) →
    ∃ t, exec .pkeFault s = .next t ∧ t.get PKE_STATUS.STATE 0 = 1 ∧
      t.get PKE_FAULTS.V 0 = (s.get PKE_FAULTS.V 0 + 1) % 2 ^ 64 ∧
      t.get ATT_STATUS.STATE p = 3 ∧ t.get ATT_STATUS.ERR p = 3 ∧ t.ic.icu.contains 0x3E5 = true) ∧
  (∀ s : State, s.ch.pkeJob = some (.verify false) →
    ∃ t, exec .pkeFault s = .next t ∧ t.get PKE_STATUS.STATE 0 = 1 ∧ t.ch.pkeJob = none ∧
      t.ch.pkeQueue = .verify true :: s.ch.pkeQueue ∧ t.jg.stgJob = s.jg.stgJob) ∧
  (∀ (s : State) (pass : Bool), s.get PKE_STATUS.STATE 0 = 1 →
    ∃ t, exec (.pkeKatComplete pass) s = .next t ∧
      t.get PKE_STATUS.STATE 0 = (if pass = true ∧ (recent s (10 * sec) s.ch.pkeTrans).length < 4 then 0 else 2))) ∧
  ((∀ (s : State) (p : Port), s.admits p.val 0 true true reg_ATT_CTL.base = true → s.mode ≠ mBOOT → s.mode ≠ 0 →
    s.get ATT_STATUS.STATE p.val ≠ 1 →
    (s.get PKE_STATUS.STATE 0 ≠ 2 →
      ∃ t, exec (.attGo p) s = .next t ∧ t.get ATT_STATUS.STATE p.val = 1 ∧
        PkeReq.sign p.val (s.attMap p.val) ∈ t.ch.pkeJob.toList ++ t.ch.pkeQueue) ∧
    (s.get PKE_STATUS.STATE 0 = 2 →
      ∃ t, exec (.attGo p) s = .next t ∧ t.get ATT_STATUS.STATE p.val = 3 ∧ t.get ATT_STATUS.ERR p.val = 3)) ∧
  (∀ (s : State) (p : Nat) (map : List Octet), s.ch.pkeJob = some (.sign p map) → s.get RNG_STATUS.STATE 0 ≠ 0 →
    s.signGone = false → (s.draw 56).isSome = true →
    ∃ t, exec .pkeSignComplete s = .next t ∧ t.att.attCount = s.att.attCount + 1 ∧
      ∃ k, 0 < k ∧ k < p384N ∧ Tab.get [] t.att.attSigned p = attReportOf (s.attPayload map)
        (ecdsaSign (beNat (Tab.get [] s.ke.slotKey 1)) k (sha384 (sigStructure (s.attPayload map))))) ∧
  (∀ (s : State) (p : Port) (r : List Octet) (cert : FlashRead) (o : List Octet), Tab.get [] s.att.attSigned p.val = r →
    r ≠ [] →
    s.certWaits = false → o = readOctets cert →
    ((o ≠ [] ∧ o.length ≤ 8192 ∧ sha384 o = s.lc.fuses.certHash) →
      ∃ t, exec (.attReportComplete p cert) s = .next t ∧ t.get ATT_STATUS.STATE p.val = 2 ∧
        t.get ATT_STATUS.ERR p.val = 0 ∧
        t.get ATT_CERT_LEN.V p.val = o.length ∧ Tab.get [] t.att.attReport p.val = r ∧ Tab.get [] t.att.attCert p.val = o) ∧
    (¬(o ≠ [] ∧ o.length ≤ 8192 ∧ sha384 o = s.lc.fuses.certHash) →
      ∃ t, exec (.attReportComplete p cert) s = .next t ∧ t.get ATT_STATUS.ERR p.val = 2 ∧ t.get ATT_CERT_LEN.V p.val = 0 ∧
        Tab.get [] t.att.attReport p.val = r ∧ Tab.get [] t.att.attCert p.val = [])))

/-- R177, R194, R195, R199, R200, R203: in the management turn, no key record and no session check waiting, the queue's
first command of the port whose turn it is, or else its first, is granted: its operands are captured and the key and
data windows zeroed; an ENC with the clear key then holds the encryption of its data. A granted result completes DONE
with its length and source 0x3C0 + p, and with KEY_GONE where its key is gone. R201, R202, R208: a fault ends the
granted AES operation, its result not yet at the key store, with FAULT and fences Chisel; the KAT returns it to
service, or, failed or the fifth in 10 s, retires it; a read-once word of CHS_DOUT is read and then zero. -/
def Obligations.ChiselGrantsFaultsAndReads : Prop :=
  ((∀ (s : State) (r : ChsReq) (a : ChsArgs), s.calm = true → s.chsTurn = some 4 → s.recWaits = false → s.ch.checks = [] →
    (s.ch.chsQueue.find? (fun r => r.port == s.ch.chsFirst)).or s.ch.chsQueue.head? = some r → r.lost = false →
    a = s.chsArgs r.port r.word →
    (∃ t, exec .chiselGrant s = .next t ∧ t.ch.chsQueue = s.ch.chsQueue.erase r ∧ t.get CHS_STATUS.STATE r.port = 2 ∧
      t.ch.chsJob.isSome = true ∧ (∀ i < 8, t.get CHS_KEY.V (8 * r.port + i) = 0) ∧
      (∀ i < 64, t.get CHS_DIN.V (64 * r.port + i) = 0)) ∧
    ((a.op = 1 ∧ a.ksrc = true ∧ a.len ≠ 0 ∧ a.len % 16 = 0) → s.macOf r.port = none → s.get CHS_ENGINE.STATE 0 = 0 →
      ∃ t, exec .chiselGrant s = .next t ∧ t.ch.chsJob = some (.cmd r none true (.result (ecbEnc a.clear a.din) false)))) ∧
  (∀ (s : State) (r : ChsReq) (key : Option (Nat × Nat)) (aes : Bool) (o : List Octet) (once : Bool), s.calm = true →
    s.ch.chsJob = some (.cmd r key aes (.result o once)) → r.lost = false →
    (key.any (fun k => s.keyGone k.1 k.2) = false → o ≠ [] →
      ∃ t, exec .chiselCommandComplete s = .next t ∧ t.ch.chsJob = none ∧ t.get CHS_STATUS.STATE r.port = 3 ∧
        t.get CHS_STATUS.CODE r.port = 0 ∧ t.get CHS_STATUS.OUT_LEN r.port = o.length % 2 ^ CHS_STATUS.OUT_LEN.width ∧
        t.get CHS_STATUS.RESULT_VALID r.port = 1 ∧ t.ic.icu.contains (0x3C0 + r.port) = true) ∧
    (key.any (fun k => s.keyGone k.1 k.2) = true →
      ∃ t, exec .chiselCommandComplete s = .next t ∧ t.ch.chsJob = none ∧ t.get CHS_STATUS.STATE r.port = 3 ∧
        t.get CHS_STATUS.CODE r.port = cKEYGONE ∧ t.get CHS_STATUS.RESULT_VALID r.port = 0))) ∧
  ((∀ (s : State) (r : ChsReq) (key : Option (Nat × Nat)) (pl : ChsPlan), s.calm = true →
    s.ch.chsJob = some (.cmd r key true pl) → r.lost = false → s.ke.kstQueue.contains chsPlace = false →
    ∃ t, exec .chiselFault s = .next t ∧ t.ch.chsJob = none ∧ t.get CHS_ENGINE.STATE 0 = 1 ∧
      t.get CHS_FAULTS.V 0 = (s.get CHS_FAULTS.V 0 + 1) % 2 ^ 64 ∧ t.get CHS_STATUS.CODE r.port = cFAULT ∧
      t.get CHS_STATUS.RESULT_VALID r.port = 0 ∧ t.ic.icu.contains 0x3C2 = true) ∧
  (∀ (s : State) (pass : Bool), s.calm = true → s.get CHS_ENGINE.STATE 0 = 1 →
    ∃ t, exec (.chiselKatComplete pass) s = .next t ∧
      t.get CHS_ENGINE.STATE 0 = (if pass = true ∧ (recent s (10 * sec) s.ch.chsTrans).length < 4 then 0 else 2) ∧
      (t.get CHS_ENGINE.STATE 0 = 2 → t.ic.icu.contains 0x3C3 = true)) ∧
  (∀ (s : State) (p : Port) (w : World) (i : Fin 66) (r : Reg), r = (if w = .operator then reg_CHS_DOUT else reg_CLC_DOUT) →
    s.admits p.val 0 r.bar2 false (r.offset i.val 0) = true → s.chsVisible p.val w = true →
    s.heldWord (.port p.val) ⟨r, i.val, 0⟩ = none →
    s.on CHS_STATUS.RESULT_VALID p.val = true → s.on CHS_STATUS.READ_ONCE p.val = true →
    (Tab.get [] s.ch.chsRead p.val).contains i.val = false →
    ∃ t, exec (.chsDoutRead p w i) s = .next t ∧ t.get CHS_DOUT.V (66 * p.val + i.val) = 0 ∧
      Emit.readData p.val 0 r.bar2 (r.offset i.val 0) (s.get CHS_DOUT.V (66 * p.val + i.val)) ∈ t.out))

/-- R214, R215, R217: on a READY source RESEED and the reseed timer reseed the DRBG from the next seed and count; REINST
instantiates it afresh from the next seed; on another source both commands are counted with CAUSE 3. The seed is the
two conditioned outputs over the samples of the source that TEST_SRC, as it stands, selects; the noise itself is a
free value. R216, R218, R219, R221, R222: a request of a legal length from a port that has none waits, and while the
source fails ends ENTROPY_FAIL; an illegal length is counted with CAUSE 1. The first that waits is served from the
DRBG into RNG_OUT with source 0x3E3 + p. A failure that the health tests find ends every request ENTROPY_FAIL and
starts re-runs; a good re-run brings the DRBG back; a failed one is counted, and the third fails the source. -/
def Obligations.RandomNumbers : Prop :=
  ((∀ (s : State) (d : Drbg), s.ch.drbg = some d → s.get RNG_STATUS.STATE 0 = 1 →
    ∃ t, exec .drbgReseedTimer s = .next t ∧ t.ch.drbg = some (drbgReseed d s.seed.1) ∧ t.ch.seeds = s.ch.seeds + 1 ∧
      t.get RNG_RESEEDS.V 0 = (s.get RNG_RESEEDS.V 0 + 1) % 2 ^ 64) ∧
  (∀ (s u : State) (p : Port) (d : Drbg), s.admits p.val 0 false true reg_RNG_CTL.base = true → s.ch.drbg = some d →
    u = (if s.on RNG_CTL.TEST_SRC 0 = false then s.set RNG_STATUS.PATTERN 0 0
      else if s.lc.fuses.lcs = 1 then s.set RNG_STATUS.PATTERN 0 1 else s) →
    (s.get RNG_STATUS.STATE 0 = 1 →
      (∃ t, exec (.reseed p) s = .next t ∧ t.ch.drbg = some (drbgReseed d u.seed.1) ∧ t.ch.seeds = s.ch.seeds + 1 ∧
        t.get RNG_RESEEDS.V 0 = (s.get RNG_RESEEDS.V 0 + 1) % 2 ^ 64) ∧
      (∃ t, exec (.reinst p) s = .next t ∧ t.ch.seeds = s.ch.seeds + 1 ∧
        (s.ch.ctxKey ≠ [] → t.ch.drbg = some (drbgInstantiate u.seed.1 (devId ++ s.wordsOf RNG_PERS.V 0 4))))) ∧
    (s.get RNG_STATUS.STATE 0 ≠ 1 →
      (∃ t, exec (.reseed p) s = .next t ∧ t.ch.drbg = some d ∧ t.get GLB_CFG_REJECT_LAST.CAUSE p.val = 3) ∧
      (∃ t, exec (.reinst p) s = .next t ∧ t.ch.drbg = some d ∧ t.get GLB_CFG_REJECT_LAST.CAUSE p.val = 3)))) ∧
  ((∀ (s : State) (p : Port) (len n : Nat), s.admits p.val 0 false true reg_RNG_REQ.base = true → n = len % 1024 →
    ((4 ≤ n ∧ n ≤ 256 ∧ n % 4 = 0) → (s.get RNG_REQ_STATUS.STATE p.val ≠ 1 ∧ s.get RNG_REQ_STATUS.STATE p.val ≠ 2) →
      (s.get RNG_STATUS.STATE 0 < 2 →
        ∃ t, exec (.rngRequest p len) s = .next t ∧ t.get RNG_REQ_STATUS.STATE p.val = 1 ∧
          t.ch.rngQueue = s.ch.rngQueue ++ [(p.val, n)]) ∧
      ((s.get RNG_STATUS.STATE 0 = 2 ∨ s.get RNG_STATUS.STATE 0 = 3) →
        ∃ t, exec (.rngRequest p len) s = .next t ∧ t.get RNG_REQ_STATUS.STATE p.val = 4 ∧
          t.ic.icu.contains (0x3E3 + p.val) = true)) ∧
    (¬(4 ≤ n ∧ n ≤ 256 ∧ n % 4 = 0) →
      ∃ t, exec (.rngRequest p len) s = .next t ∧ s.keepsBut t rejectRegs ∧ t.get GLB_CFG_REJECT_LAST.CAUSE p.val = 1)) ∧
  (∀ (s : State) (p : Port) (len : Nat) (rest : List (Nat × Nat)) (d : Drbg), s.ch.rngQueue = (p.val, len) :: rest →
    s.ch.drbg = some d → s.get RNG_STATUS.STATE 0 = 1 →
    ∃ t, exec (.rngRequestServed p) s = .next t ∧ t.get RNG_REQ_STATUS.STATE p.val = 3 ∧
      t.ic.icu.contains (0x3E3 + p.val) = true ∧
      ∀ i < 64, t.get RNG_OUT.V (64 * p.val + i) = leNat (slice (drbgGenerate d len).1 (4 * i) 4)) ∧
  (∀ (s : State) (p : Port) (i : Fin 64), s.admits p.val 0 false false (reg_RNG_OUT.offset i.val 0) = true →
    s.heldWord (.port p.val) ⟨reg_RNG_OUT, i.val, 0⟩ = none →
    ∃ t, exec (.rngOutRead p i) s = .next t ∧
      Emit.readData p.val 0 false (reg_RNG_OUT.offset i.val 0) (s.get RNG_OUT.V (64 * p.val + i.val)) ∈ t.out) ∧
  (∀ (s : State) (f g : HealthFail), s.get RNG_STATUS.STATE 0 = 1 → s.testOutcome (some f) = some g →
    ∃ t, exec (.rngHealthFail f) s = .next t ∧ t.get RNG_STATUS.STATE 0 = 2 ∧ t.ch.drbg = none ∧ t.ch.rngQueue = [] ∧
      t.get RNG_STATUS.LAST_CHAN 0 = g.chan.val ∧ t.ic.icu.contains 0x3E0 = true ∧
      ∀ x ∈ s.ch.rngQueue, t.get RNG_REQ_STATUS.STATE x.1 = 4) ∧
  (∀ (s : State) (seen : Option HealthFail), s.get RNG_STATUS.STATE 0 = 2 →
    (s.testOutcome seen = none →
      ∃ t, exec (.rngRerunComplete seen) s = .next t ∧ t.get RNG_STATUS.STATE 0 = 1 ∧ t.get RNG_STATUS.RERUNS 0 = 0 ∧
        t.ch.drbg.isSome = true ∧ t.ic.icu.contains 0x3E1 = true) ∧
    (∀ g, s.testOutcome seen = some g →
      (s.get RNG_STATUS.RERUNS 0 < 2 →
        ∃ t, exec (.rngRerunComplete seen) s = .next t ∧ t.get RNG_STATUS.STATE 0 = 2 ∧
          t.get RNG_STATUS.RERUNS 0 = s.get RNG_STATUS.RERUNS 0 + 1) ∧
      (s.get RNG_STATUS.RERUNS 0 = 2 →
        ∃ t, exec (.rngRerunComplete seen) s = .next t ∧ t.get RNG_STATUS.STATE 0 = 3 ∧ t.ic.icu.contains 0x3E2 = true))))

/-- R222, R299, R300, R305: EN 1 written in STANDBY draws the keys of epoch 0, and without the DRBG stalls Veneer; EN 0
zeroises every key; a write that would change EN in another mode is refused with CAUSE 3. PASS_MIN minutes after the
last one a pass draws the next epoch's keys with boundary 0. In a turn that the regions leave, a page walked has count
0 and moves the boundary up by one, and at the last page one epoch is left. R303, R306, R307: a read of a written line
of a page in use. One that verifies has no effect on Veneer; a poisoned one is counted; one that verifies the second
time is counted as transient with source 0x381; one that fails twice is counted with source 0x380, and with FAIL_MODE
1 it awaits its march test and, outside BOOT, LOCKDOWN and DORMANT and with no transition in progress, starts LOCKDOWN
with cause 8. A beat written to a line not yet written makes a whole line, one to a line that verifies changes its
half, encrypted and tagged; one to a poisoned line is refused and counted. R302, R308, R337, R341: the march test of a
line whose failure waits, its channel not retraining. One that passes, fewer than five times in 10 s, is counted and
leaves the line poisoned; one that fails is counted and, a spare frame being left and its channel staying in service,
calls for a sparing copy, which puts the page into the lowest free frame, raises 0x383 and poisons the line there. -/
def Obligations.VeneerPassesAndDeepLines : Prop :=
  ((∀ (s : State) (p : Port) (v : Word), s.mayWrite p.val false reg_VNR_CTL.base →
    (s.mode = mSTANDBY → s.get VNR_CTL.EN 0 = 0 →
      (∀ o, (s.draw 112).map (·.1) = some o →
        ∃ t, exec (.veneerEnable p v) s = .next t ∧ t.get VNR_CTL.EN 0 = 1 ∧ t.get VNR_STATUS.KEYS 0 = 1 ∧
          t.get VNR_STATUS.STATE 0 = 1 ∧ t.get VNR_EPOCH.V 0 = 0 ∧
          t.vn.vnrKeys = [⟨0, slice o 0 32, slice o 32 32, slice o 64 32, slice o 96 16⟩]) ∧
      ((s.draw 112).isNone = true →
        ∃ t, exec (.veneerEnable p v) s = .next t ∧ t.get VNR_CTL.EN 0 = 1 ∧ t.get VNR_STATUS.STATE 0 = 4 ∧
          t.ic.icu.contains 0x388 = true)) ∧
    (s.mode = mSTANDBY → s.get VNR_CTL.EN 0 = 1 →
      ∃ t, exec (.veneerDisable p v) s = .next t ∧ t.get VNR_CTL.EN 0 = 0 ∧ t.get VNR_STATUS.KEYS 0 = 0 ∧
        t.get VNR_STATUS.TWO_EPOCHS 0 = 0 ∧ t.vn.vnrKeys = []) ∧
    (s.mode ≠ mSTANDBY →
      (s.get VNR_CTL.EN 0 = 0 → ∃ t, exec (.veneerEnable p v) s = .next t ∧ s.keepsBut t rejectRegs ∧
        t.get GLB_CFG_REJECT_LAST.CAUSE p.val = 3) ∧
      (s.get VNR_CTL.EN 0 = 1 → ∃ t, exec (.veneerDisable p v) s = .next t ∧ s.keepsBut t rejectRegs ∧
        t.get GLB_CFG_REJECT_LAST.CAUSE p.val = 3))) ∧
  (∀ (s : State) (o : List Octet), s.calm = true → s.on VNR_CTL.EN 0 = true → s.on VNR_STATUS.KEYS 0 = true →
    s.on VNR_STATUS.TWO_EPOCHS 0 = false → s.vn.passAt + s.get VNR_CTL.PASS_MIN 0 * 60 * sec ≤ s.mono →
    (s.draw 112).map (·.1) = some o → s.get VNR_EPOCH.V 0 + 1 < 2 ^ VNR_EPOCH.V.width →
    ∃ t, exec .rekeyPassStart s = .next t ∧ t.get VNR_EPOCH.V 0 = s.get VNR_EPOCH.V 0 + 1 ∧ t.get VNR_BOUNDARY.V 0 = 0 ∧
      t.get VNR_STATUS.TWO_EPOCHS 0 = 1 ∧ t.get VNR_STATUS.STATE 0 = 3 ∧
      t.vn.vnrKeys = ⟨s.get VNR_EPOCH.V 0 + 1, slice o 0 32, slice o 32 32, slice o 64 32,
        slice o 96 16⟩ :: s.vn.vnrKeys.take 1) ∧
  (∀ (s : State) (b : Nat), s.calm = true → s.deepRegion = none → s.on VNR_STATUS.TWO_EPOCHS 0 = true →
    s.get VNR_BOUNDARY.V 0 = b → s.pageHeld b = false → s.get RNG_STATUS.STATE 0 = 1 → b + 1 < 2 ^ VNR_BOUNDARY.V.width →
    ∃ t, exec .rekeyPage s = .next t ∧ t.get VNR_BOUNDARY.V 0 = b + 1 ∧ (Tab.get Page.none t.vn.pages b).count = 0 ∧
      t.get VNR_STATUS.TWO_EPOCHS 0 = if s.dataPages ≤ b + 1 then 0 else 1)) ∧
  ((∀ (s : State) (page : Nat) (l : Fin 64) (raw : List RawLine) (x y : Nat), s.calm = true →
    s.lineThere page l.val = true →
    x = s.lineCheck page l.val (s.rawRead page l.val raw 0) → y = s.lineCheck page l.val (s.rawRead page l.val raw 1) →
    (x = 1 → ∃ t, exec (.deepRead page l raw) s = .next t ∧ t.vn = s.vn ∧ s.keepsBut t []) ∧
    (x = 2 → ∃ t, exec (.deepRead page l raw) s = .next t ∧ t.vn = s.vn ∧
      t.get VNR_CNT.POISON_READ 0 = (s.get VNR_CNT.POISON_READ 0 + 1) % 2 ^ 64) ∧
    (x = 0 → y = 1 → ∃ t, exec (.deepRead page l raw) s = .next t ∧ t.vn = s.vn ∧ t.ic.icu.contains 0x381 = true ∧
      t.get VNR_CNT.TRANSIENT_READ 0 = (s.get VNR_CNT.TRANSIENT_READ 0 + 1) % 2 ^ 64) ∧
    (x = 0 → y ≠ 1 →
      (∃ t, exec (.deepRead page l raw) s = .next t ∧ t.ic.icu.contains 0x380 = true ∧
        t.get VNR_CNT.INTEGRITY_FAIL 0 = (s.get VNR_CNT.INTEGRITY_FAIL 0 + 1) % 2 ^ 64) ∧
      (s.on VNR_CTL.FAIL_MODE 0 = true → (s.mode ≠ 0 ∧ s.mode ≠ mBOOT ∧ s.mode ≠ mLOCKDOWN) → s.md.trans = none →
        ∃ t, exec (.deepRead page l raw) s = .next t ∧ t.vn.marchErr = s.vn.marchErr ++ [(page, l.val)] ∧
          t.md.trans = some ⟨mLOCKDOWN, mLOCKDOWN, 8, [6]⟩))) ∧
  (∀ (s : State) (page : Nat) (l : Fin 64) (hi : Bool) (data : List Octet) (raw : List RawLine) (k : VnrKeys),
    s.calm = true →
    ((Tab.get Page.none s.vn.pages page).use = .live ∨ (Tab.get Page.none s.vn.pages page).use = .retiring) →
    s.pageHeld page = false → s.pageKeys page = some k →
    (∀ c, Tab.get Line.none s.vn.lines (64 * page + l.val) = Line.none →
      c = xtsLineEnc k.k1 k.k2 page l.val (if hi then List.replicate 32 0 ++ padTo 32 data else padTo 32 data ++ List.replicate 32 0) →
      ∃ t, exec (.deepPartialWrite page l hi data raw) s = .next t ∧ Tab.get Line.none t.vn.lines (64 * page + l.val) =
        ⟨c, lineTag k.kt k.kh page l.val false (Tab.get Page.none s.vn.pages page).count k.epoch c⟩) ∧
    (∀ c d, Tab.get Line.none s.vn.lines (64 * page + l.val) ≠ Line.none →
      s.lineCheck page l.val (s.rawRead page l.val raw 0) = 1 → d = s.linePlain page l.val (s.rawRead page l.val raw 0) →
      c = xtsLineEnc k.k1 k.k2 page l.val (if hi then d.take 32 ++ padTo 32 data else padTo 32 data ++ d.drop 32) →
      ∃ t, exec (.deepPartialWrite page l hi data raw) s = .next t ∧ Tab.get Line.none t.vn.lines (64 * page + l.val) =
        ⟨c, lineTag k.kt k.kh page l.val false (Tab.get Page.none s.vn.pages page).count k.epoch c⟩) ∧
    (Tab.get Line.none s.vn.lines (64 * page + l.val) ≠ Line.none →
      s.lineCheck page l.val (s.rawRead page l.val raw 0) = 2 →
      ∃ t, exec (.deepPartialWrite page l hi data raw) s = .next t ∧ t.vn = s.vn ∧
        t.get VNR_CNT.PARTIAL_REFUSED 0 = (s.get VNR_CNT.PARTIAL_REFUSED 0 + 1) % 2 ^ 64))) ∧
  ((∀ (s : State) (page : Nat) (l : Fin 64) (x : Nat × Nat), s.calm = true → s.marchLine page l.val = some x →
    s.get MEM_CH.STATE (s.chanOf page) ≠ 3 →
    (∀ k, (s.vn.lineTrans.filter (fun y => decide (s.mono < y.2.2 + 10 * sec) && (y.1 == page && y.2.1 == l.val))).length < 4 →
      s.pageKeys x.1 = some k →
      ∃ t, exec (.marchTestComplete page l true) s = .next t ∧ t.vn.marchErr = s.vn.marchErr.filter (· != x) ∧
        t.get VNR_CNT.MARCH_PASS 0 = (s.get VNR_CNT.MARCH_PASS 0 + 1) % 2 ^ 64 ∧
        Tab.get Line.none t.vn.lines (64 * x.1 + x.2) = s.poisoned k x.1 x.2) ∧
    (s.nextSpare.isSome = true → (recent s hour (Tab.get [] s.fl.chanAt (s.chanOf page))).length < 64 →
      ∃ t, exec (.marchTestComplete page l false) s = .next t ∧ t.vn.marchErr = s.vn.marchErr.filter (· != x) ∧
        t.get VNR_CNT.MARCH_FAIL 0 = (s.get VNR_CNT.MARCH_FAIL 0 + 1) % 2 ^ 64 ∧
        t.vn.spareDue = s.vn.spareDue ++ [(page, 64 * x.1 + x.2)])) ∧
  (∀ (s : State) (page n : Nat) (x : Nat × Nat) (k : VnrKeys), s.calm = true →
    s.vn.spareDue.find? (fun x => x.1 == page) = some x → s.nextSpare = some n → s.pageKeys (x.2 / 64) = some k →
    ∃ t, exec (.spareCopyComplete page) s = .next t ∧ t.vn.spares = n :: s.vn.spares ∧ Tab.get 0 t.vn.remap page = n + 1 ∧
      t.vn.spareDue = s.vn.spareDue.erase x ∧ t.ic.icu.contains 0x383 = true ∧
      Tab.get Line.none t.vn.lines x.2 = s.poisoned k (x.2 / 64) (x.2 % 64)))

/-- R22, R63, R64, R67, R68, R316: a frame comes to a host port that is up. One that is too long, has a bad FCS or code,
is too short or is a control frame is only counted. A good one goes by the lowest rule that matches, which counts it:
by PROTECT of a valid channel, and by a CLEAR that the policy permits, it is counted and waits for admission to the
queue named; with no rule, and by every other outcome, it has its counter and waits for no admission. -/
def Obligations.HostFramesArrive : Prop :=
  ∀ (s : State) (hp : Fin 32) (octets : List Octet) (badCode : Bool) (back chk : Nat) (d : List Octet), s.calm = true →
    s.hpUp hp.val = true → s.mode ≠ mBOOT → s.mode ≠ 0 → chk = rxCheck octets badCode 9216 →
    d = octets.take (octets.length - 4) →
    (∀ f : Fld, (chk, f) ∈ [(1, RGN_HPCLS.OVERSIZE), (2, RGN_HPCNT.RX_FCS_ERR), (3, RGN_HPCNT.RX_RUNT), (4,
      RGN_HPCNT.RX_CTRL)] →
      ∃ t, exec (.hostFrameReceive hp octets badCode back) s = .next t ∧ t.fr = s.fr ∧
        t.get f hp.val = (s.get f hp.val + 1) % 2 ^ 64) ∧
    (chk = 0 → s.egrRule hp.val (hdrOf d) = none →
      ∃ t, exec (.hostFrameReceive hp octets badCode back) s = .next t ∧ t.fr = s.fr ∧
        t.get RGN_HPCNT.RX_FRAMES hp.val = (s.get RGN_HPCNT.RX_FRAMES hp.val + 1) % 2 ^ 64 ∧
        t.get RGN_HPCLS.NO_RULE hp.val = (s.get RGN_HPCLS.NO_RULE hp.val + 1) % 2 ^ 64) ∧
    (∀ i : Nat, chk = 0 → s.egrRule hp.val (hdrOf d) = some i →
      (∀ f : Fld, ((f = RGN_HPCLS.RULE_DROP ∧ s.get CLS_EGR.ACTION i = 0) ∨
          (f = RGN_HPCLS.SC_INVALID ∧ s.get CLS_EGR.ACTION i = 1 ∧ s.on SCT_TX.VALID (s.get CLS_EGR.SC i) = false) ∨
          (f = RGN_HPCLS.CLEAR_DENIED ∧ s.get CLS_EGR.ACTION i = 2 ∧ s.egrClearOk (hdrOf d).etype = false) ∨
          (f = RGN_HPCLS.PUNTED ∧ s.get CLS_EGR.ACTION i = 3 ∧ s.mode ≠ mLOCKDOWN)) →
        ∃ t, exec (.hostFrameReceive hp octets badCode back) s = .next t ∧ t.fr = s.fr ∧
          t.get CLS_EGR.HITS i = (s.get CLS_EGR.HITS i + 1) % 2 ^ 64 ∧ t.get f hp.val = (s.get f hp.val + 1) % 2 ^ 64) ∧
      (∀ (c : Nat) (f : Fld), c = s.get CLS_EGR.SC i →
        ((f = RGN_HPCLS.TO_PROTECT ∧ s.get CLS_EGR.ACTION i = 1 ∧ s.on SCT_TX.VALID c = true) ∨
          (f = RGN_HPCLS.CLEARED ∧ s.get CLS_EGR.ACTION i = 2 ∧ s.egrClearOk (hdrOf d).etype = true)) →
        ∃ t, exec (.hostFrameReceive hp octets badCode back) s = .next t ∧
          t.get CLS_EGR.HITS i = (s.get CLS_EGR.HITS i + 1) % 2 ^ 64 ∧ t.get f hp.val = (s.get f hp.val + 1) % 2 ^ 64 ∧
          if s.get CLS_EGR.ACTION i = 1 then
            ∃ a ∈ Tab.get [] t.fr.arrivals (regionOfLp (s.get SCT_TX.LPORT c)), a.f.sc = some c ∧ a.f.data = d ∧
              a.inj = none ∧
              a.f.queue = s.protQueue c (s.get CLS_EGR.QSEL i) (s.get CLS_EGR.CQ i)
          else
            ∃ a ∈ Tab.get [] t.fr.arrivals (regionOfLp (s.get CLS_EGR.LPORT i)), a.f.sc = none ∧ a.f.data = d ∧
              a.inj = none ∧
              a.f.queue = 8192 + 4 * s.get CLS_EGR.LPORT i + s.get CLS_EGR.CQ i))

/-- R17, R19, R41, R255, R256, R258: the oldest arrival of a region, with its launch time, is discarded by the mode, by a
fence or for its queue's limit, and counted so; one for which its queue's guarantee has room takes its cells and is
ADMITTED. In its region's turn a deep-buffer write that is due completes and its frame is ADMITTED, and a frame read
back moves from the queue's deep part to its cells. R239, R261: a hold that has lasted 5 ms ends for the channel's two
queues; while a priority stays paused its XOFF is sent again, REFRESH quanta after the last. -/
def Obligations.AdmissionHoldsAndPauses : Prop :=
  ((∀ (s : State) (r : Region) (x : Arrival) (rest : List Arrival) (f : Frame) (q : Nat), s.calm = true →
    Tab.get [] s.fr.arrivals r.val = x :: rest → f = s.launchOf x.f → q = f.queue →
    (s.modeDiscards f = true →
      ∃ t, exec (.admission r) s = .next t ∧ Tab.get [] t.fr.arrivals r.val = rest ∧ t.queue q = s.queue q ∧
        t.get QUE_DCNT.D_MODE q = (s.get QUE_DCNT.D_MODE q + 1) % 2 ^ 64) ∧
    (s.modeDiscards f = false → s.fenced r.val = true →
      ∃ t, exec (.admission r) s = .next t ∧ Tab.get [] t.fr.arrivals r.val = rest ∧ t.queue q = s.queue q ∧
        t.get QUE_DCNT.D_REGION q = (s.get QUE_DCNT.D_REGION q + 1) % 2 ^ 64) ∧
    (s.modeDiscards f = false → s.fenced r.val = false →
      (8192 ≤ q → s.guarded (s.queuePort q) = true → s.charge f ≤ s.gapOct (s.queuePort q)) →
      (q < 8192 → s.guardedQueue q = false ∧ s.deepTail q = false) →
      (s.get QUE_DQ.QLIMIT q < s.get QUE_DQ.DEPTH q + f.cells → (8192 ≤ q ∨ s.on QUE_DQ.SPILL_EN q = false) →
        ∃ t, exec (.admission r) s = .next t ∧ Tab.get [] t.fr.arrivals r.val = rest ∧ t.queue q = s.queue q ∧
          t.ic.icu.contains 0x348 = true ∧
          t.get QUE_DCNT.D_QUEUE_LIMIT q = (s.get QUE_DCNT.D_QUEUE_LIMIT q + 1) % 2 ^ 64) ∧
      (s.get QUE_DQ.DEPTH q + f.cells ≤ s.get QUE_DQ.QLIMIT q → s.get QUE_DQ.DEPTH q + f.cells ≤ s.get QUE_DQ.GUAR q →
        ∃ t, exec (.admission r) s = .next t ∧ Tab.get [] t.fr.arrivals r.val = rest ∧
          t.get QUE_DQ.DEPTH q = s.get QUE_DQ.DEPTH q + f.cells ∧ (t.queue q).deep = (s.queue q).deep ∧
          (t.queue q).cells = (s.queue q).cells ++
            [{ f with age := s.mono, reg := r.val, time := if f.ring.isSome then s.now else f.time }] ∧
          t.get QUE_DCNT.ADMITTED q = (s.get QUE_DCNT.ADMITTED q + 1) % 2 ^ 64))) ∧
  (∀ (s : State) (r : Region) (w : DeepWr) (rest : List DeepWr) (q : Nat), s.calm = true → s.writeGrant r.val = true →
    Tab.get [] s.fr.deepWr r.val = w :: rest → q = w.a.f.queue →
    ∃ t, exec (.deepWriteComplete r) s = .next t ∧ Tab.get [] t.fr.deepWr r.val = rest ∧
      (t.queue q).cells = (s.queue q).cells ∧
      (t.queue q).deep = (s.queue q).deep ++ [⟨{ w.a.f with age := s.mono, deep := true, reg := 4 }, w.units⟩] ∧
      t.get QUE_DCNT.ADMITTED q = (s.get QUE_DCNT.ADMITTED q + 1) % 2 ^ 64) ∧
  (∀ (s : State) (q : Fin 8192) (d : DeepFrame) (rest : List DeepFrame) (r n : Nat) (o : List Octet) (u : State),
    (s.queue q.val).deep = d :: rest → r = regionOfLp (s.queuePort q.val) → s.readGrant r = true → s.readDue q.val = true →
    n = (if s.writeReq r then Tab.get 0 s.vn.wrWait r + 1 else 0) → (s.deepUsed r n).deepFetch d.units = (some o, u) →
    u.calm = true → s.get QUE_DQ.DEPTH q.val + d.f.cells < 2 ^ QUE_DQ.DEPTH.width →
    ∃ t, exec (.deepReadBack q) s = .next t ∧ (t.queue q.val).deep = rest ∧
      (t.queue q.val).cells = (s.queue q.val).cells ++ [{ d.f with data := o.take d.f.data.length, reg := r }] ∧
      t.get QUE_DQ.DEPTH q.val = s.get QUE_DQ.DEPTH q.val + d.f.cells)) ∧
  ((∀ (s : State) (c : Fin 4096), s.calm = true → Tab.get 0 s.au.keyHold c.val = 1 →
    Tab.get 0 s.au.holdAt c.val + 5 * ms ≤ s.mono →
    ∃ t, exec (.txHoldTimeout c) s = .next t ∧ Tab.get 0 t.au.keyHold c.val = 2 ∧ t.get QUE_DQ.HELD (2 * c.val) = 0 ∧
      t.get QUE_DQ.HELD (2 * c.val + 1) = 0) ∧
  (∀ (s : State) (hp : Fin 32) (m : Nat), s.calm = true → s.get PLN_HPFC.PAUSED hp.val = m → m ≠ 0 →
    Tab.get 0 s.pl.xoffAt hp.val + s.quantaTime hp.val (s.get PLN_HPFC.REFRESH hp.val) ≤ s.mono →
    s.on RGN_HPORT.LINK hp.val = true →
    ∃ t, exec (.pfcRefresh hp) s = .next t ∧
      Tab.get [] t.fr.pfcOut hp.val = Tab.get [] s.fr.pfcOut hp.val ++ [s.pfcFrame hp.val m m] ∧
      Tab.get 0 t.pl.xoffAt hp.val = s.mono ∧
      t.get PLN_HPFC.XOFF_TX hp.val = (s.get PLN_HPFC.XOFF_TX hp.val + 1) % 2 ^ 64 ∧ t.ic.icu.contains 0x34B = true))

/-- R22, R76, R247, R248: a decision of a line port serves its first control queue whose head may go. In clear text, with
no launch time, the head goes to the line port. Of a channel that the gate and its usage limit let pass, and whose
current SA is ACTIVE and below its PN ceiling, it takes the SA's next PN and joins the slice group. With no control
head to serve, no hold of the line and the port's shaper eligible, the first express queue whose turn covers its
head's charge sends that head, its deficit reduced by the charge, or 0 if it empties. -/
def Obligations.DequeueDecisions : Prop :=
  (∀ (s : State) (lp : Fin 16) (cq : Fin 4) (f g : Frame) (rest : List Frame) (q : Nat), s.calm = true →
    q = 8192 + 4 * lp.val + cq.val → s.dequeues lp.val = true → s.carDue lp.val = false →
    (∀ k < 4, k < cq.val → s.ctrlEligible lp.val (8192 + 4 * lp.val + k) = false ∧
      (s.queue (8192 + 4 * lp.val + k)).cells.head?.any (s.aged (8192 + 4 * lp.val + k)) = false) →
    (s.queue q).cells = f :: rest → s.aged q f = false → s.ctrlEligible lp.val q = true →
    g = { f with lp := lp.val, ord := s.fr.taken } →
    (f.sc = none → f.ptp = false → f.launch = none →
      ∃ t, exec (.dequeueDecision lp) s = .next t ∧ (t.queue q).cells = rest ∧
        t.get QUE_DCNT.DEQUEUED q = (s.get QUE_DCNT.DEQUEUED q + 1) % 2 ^ 64 ∧
        t.lineQ lp.val = s.lineQ lp.val ++ [⟨f.data, g, 0, 0, false, false, none⟩]) ∧
    (∀ c a : Nat, f.sc = some c → a = s.curSa c → s.stepped f = false →
      (f.ptp = false → f.launch.isSome = true → f.want ≤ f.time + ms) → s.autGate c s.now = .pass →
      s.on SCT_TX.VALID c = true → s.get SAT_TX.STATE a = saACTIVE →
      (s.limited c = true → s.get SAT_TX.USED a + (if s.on SCT_TX.LIMIT_UNIT c then s.lineLenOf f else 1) ≤ s.get SCT_TX.LIMIT c) →
      s.get SAT_TX.NEXT_PN a < pnCeiling (s.get SCT_TX.SUITE c) →
      ∃ t, exec (.dequeueDecision lp) s = .next t ∧ (t.queue q).cells = rest ∧
        t.get QUE_DCNT.DEQUEUED q = (s.get QUE_DCNT.DEQUEUED q + 1) % 2 ^ 64 ∧
        t.get SAT_TX.NEXT_PN a = s.get SAT_TX.NEXT_PN a + 1 ∧
        t.eg (regionOfLp lp.val) = s.eg (regionOfLp lp.val) ++
          [⟨g, c, a, s.get SAT_TX.NEXT_PN a, s.get SAT_TX.AN a, [], s.protOf c a, [], 0, .wait, false, none⟩])) ∧
  (∀ (s : State) (lp : Fin 16) (f : Frame) (rest : List Frame) (q p c a : Nat) (l : List Nat) (b : Bool) (m : Nat),
    s.calm = true →
    s.dequeues lp.val = true → s.guarded lp.val = false →
    (∀ k < 4, s.ctrlEligible lp.val (8192 + 4 * lp.val + k) = false ∧
      (s.queue (8192 + 4 * lp.val + k)).cells.head?.any (s.aged (8192 + 4 * lp.val + k)) = false) →
    s.lineClearHold lp.val = false → s.shpOk (8192 + lp.val) = true →
    Tab.get Drr.none s.pl.drr (drrKey lp.val 0) = ⟨q :: l, b⟩ → q < 8192 → (s.queue q).cells = f :: rest →
    (s.queue q).deep = [] → s.aged q f = false → p = s.queuePort q → s.elsewhere (q / 2) p = false →
    s.autGate (q / 2) s.now = .pass → s.shpOk q = true →
    m = (s.queue q).deficit + (if b then 0 else s.get QUE_DQ.QUANTUM q) → s.charge f ≤ m →
    f.sc = some c → a = s.curSa c → s.stepped f = false → (f.ptp = false → f.launch.isSome = true → f.want ≤ f.time + ms) →
    s.autGate c s.now = .pass → s.on SCT_TX.VALID c = true → s.get SAT_TX.STATE a = saACTIVE →
    (s.limited c = true → s.get SAT_TX.USED a + (if s.on SCT_TX.LIMIT_UNIT c then s.lineLenOf f else 1) ≤ s.get SCT_TX.LIMIT c) →
    s.get SAT_TX.NEXT_PN a < pnCeiling (s.get SCT_TX.SUITE c) →
    ∃ t, exec (.dequeueDecision lp) s = .next t ∧ (t.queue q).cells = rest ∧
      (t.queue q).deficit = (if rest = [] then 0 else m - s.charge f) ∧
      t.get QUE_DCNT.DEQUEUED q = (s.get QUE_DCNT.DEQUEUED q + 1) % 2 ^ 64 ∧
      t.get SAT_TX.NEXT_PN a = s.get SAT_TX.NEXT_PN a + 1 ∧
      t.eg (regionOfLp p) = s.eg (regionOfLp p) ++ [⟨{ f with lp := p, ord := s.fr.taken }, c, a, s.get SAT_TX.NEXT_PN a,
        s.get SAT_TX.AN a, [], s.protOf c a, [], 0, .wait, false, none⟩])

/-- R16, R17, R85, R87, R88, R109, R263: dispatch first issues a frame again away from the pair that faulted; then, with
an entry of the reorder buffer free, it puts the next waiting frame into the lowest idle pair, the key captured; with
none free it takes no frame. The pair that finishes an egress frame protects it; with no earlier frame of its channel
before it, it goes to its line port and is counted, else it waits. A received frame is opened by its pair, and gets
its verdict when no earlier one of its channel is before it. R86 to R89: a fault of a pair that carries a frame is
counted with its cause, takes the pair out for its KAT, and has the frame issued again, or, after its third issue,
discarded and counted. A KAT that passes returns the pair, but the fifth within 10 s retires it as one that fails
does, and a standby spare comes in for it. A standby spare that fails its own KAT is out of service; one that passes
stays. -/
def Obligations.SlicePairs : Prop :=
  ((∀ (s : State) (r : Region), s.calm = true → s.fenced r.val = false →
    (∀ (x : EgItem) (l : List EgItem) (n k : Nat), s.eg r.val = x :: l → x.stat = .reissue n →
      s.pairFor r.val .eg (some n) = some k →
      ∃ t, exec (.dispatch r .eg) s = .next t ∧ t.eg r.val = { x with stat := .inPair k, issues := x.issues + 1 } :: l) ∧
    (∀ (x : InItem) (l : List InItem) (n k : Nat), s.ig r.val = x :: l → x.stat = .reissue n →
      s.pairFor r.val .ig (some n) = some k →
      ∃ t, exec (.dispatch r .ig) s = .next t ∧ t.ig r.val = { x with stat := .inPair k, issues := x.issues + 1 } :: l) ∧
    (∀ (x : EgItem) (k : Nat), (∀ y ∈ s.eg r.val, ∀ n, y.stat ≠ .reissue n) → s.pairFor r.val .eg none = some k →
      s.nextEg r.val = some x →
      (((s.eg r.val).filter EgItem.entered).length < reorderSize →
        (x.car = none → x.f.ptp = false ∧ x.f.launch.all (fun tl => s.now + 600 * ns ≤ tl) = true) →
        ∃ t, exec (.dispatch r .eg) s = .next t ∧ t.eg r.val = changeFirst (fun y => y == x)
          (fun y => some { y with late := false, key := Tab.get [] s.ke.saKey x.sa, stat := .inPair k, issues := 1 }) (s.eg r.val)) ∧
      (reorderSize ≤ ((s.eg r.val).filter EgItem.entered).length →
        ∃ t, exec (.dispatch r .eg) s = .next t ∧ s.keepsBut t [])) ∧
    (∀ (x : InItem) (l m : List InItem) (k : Nat), s.ig r.val = l ++ x :: m → (∀ y ∈ l, y.stat ≠ .wait) → x.stat = .wait →
      (∀ y ∈ l ++ m, ∀ n, y.stat ≠ .reissue n) → s.pairFor r.val .ig none = some k →
      (((s.ig r.val).filter InItem.entered).length < reorderSize →
        ∃ t, exec (.dispatch r .ig) s = .next t ∧
          t.ig r.val = l ++ { x with key := Tab.get [] s.ke.saKey (8192 + x.sa), stat := .inPair k, issues := 1 } :: m) ∧
      (reorderSize ≤ ((s.ig r.val).filter InItem.entered).length →
        ∃ t, exec (.dispatch r .ig) s = .next t ∧ s.keepsBut t []))) ∧
  (∀ (s : State) (r : Region) (k : Fin 9) (x : EgItem) (l m : List EgItem), s.calm = true → s.eg r.val = l ++ x :: m →
    (∀ y ∈ l, y.stat ≠ .inPair k.val) → x.stat = .inPair k.val →
    (l.any (fun y => y.sc == x.sc) = false → x.f.launch = none → x.f.ptp = false →
      ∃ t, exec (.pairFrameComplete r .eg k) s = .next t ∧ t.eg r.val = l ++ m ∧
        t.get SCT_TX.PKTS x.sc = (s.get SCT_TX.PKTS x.sc + 1) % 2 ^ 64 ∧
        t.lineQ x.f.lp = s.lineQ x.f.lp ++ [⟨x.wire, x.f, x.pn, x.an, x.late, decide (1 < x.issues), x.car⟩]) ∧
    (l.any (fun y => y.sc == x.sc) = true →
      ∃ t, exec (.pairFrameComplete r .eg k) s = .next t ∧
        t.eg r.val = l ++ { x with stat := .done, line := x.wire } :: m)) ∧
  (∀ (s : State) (r : Region) (k : Fin 9) (x : InItem) (l m : List InItem), s.calm = true → s.ig r.val = l ++ x :: m →
    (∀ y ∈ l, y.stat ≠ .inPair k.val) → x.stat = .inPair k.val →
    (l.any (fun y => y.sc == x.sc) = false →
      ∃ t, exec (.pairFrameComplete r .ig k) s = .next t ∧ t.ig r.val = l ++ m ∧
        (x.opened.2 = false → t.get SAT_RX.IN_FAIL x.sa = (s.get SAT_RX.IN_FAIL x.sa + 1) % 2 ^ 64) ∧
        (x.opened.2 = true → x.par.suite < 2 → s.rxLow x.par.window x.sa ≤ x.pn →
          t.get SAT_RX.IN_OK x.sa = (s.get SAT_RX.IN_OK x.sa + 1) % 2 ^ 64)) ∧
    (l.any (fun y => y.sc == x.sc) = true →
      ∃ t, exec (.pairFrameComplete r .ig k) s = .next t ∧
        t.ig r.val = l ++ { x with stat := .done x.opened.2, plain := x.opened.1 } :: m))) ∧
  ((∀ (s : State) (r : Region) (d : Dir) (k : Fin 9) (c : PairCause) (i : Nat), s.calm = true → i = pairIdx r.val d k.val →
    s.get RGN_PPE_STATUS.STATE i = 1 →
    (∀ x : EgItem, d = .eg → (s.eg r.val).find? (fun x => x.stat == .inPair k.val) = some x →
      ∃ t, exec (.pairFault r d k c) s = .next t ∧ t.get RGN_PPE_STATUS.STATE i = 2 ∧
        t.get RGN_PPE_STATUS.LAST_CAUSE i = causeCode c ∧
        t.get RGN_PPE_MISMATCH.V i = (s.get RGN_PPE_MISMATCH.V i + 1) % 2 ^ 64 ∧
        (x.issues < 3 → t.eg r.val =
          changeFirst (fun y => y.stat == .inPair k.val) (fun y => some { y with stat := .reissue k.val }) (s.eg r.val)) ∧
        (3 ≤ x.issues → t.eg r.val = changeFirst (fun y => y.stat == .inPair k.val) (fun _ => none) (s.eg r.val) ∧
          t.get SCT_TX.D_REISSUE x.sc = (s.get SCT_TX.D_REISSUE x.sc + 1) % 2 ^ 64 ∧
            t.get SCT_TX.EV_REISSUE_LIMIT x.sc = 1)) ∧
    (∀ x : InItem, d = .ig → (s.ig r.val).find? (fun x => x.stat == .inPair k.val) = some x →
      ∃ t, exec (.pairFault r d k c) s = .next t ∧ t.get RGN_PPE_STATUS.STATE i = 2 ∧
        t.get RGN_PPE_STATUS.LAST_CAUSE i = causeCode c ∧
        t.get RGN_PPE_MISMATCH.V i = (s.get RGN_PPE_MISMATCH.V i + 1) % 2 ^ 64 ∧
        (x.issues < 3 → t.ig r.val =
          changeFirst (fun y => y.stat == .inPair k.val) (fun y => some { y with stat := .reissue k.val }) (s.ig r.val)) ∧
        (3 ≤ x.issues → t.ig r.val = changeFirst (fun y => y.stat == .inPair k.val) (fun _ => none) (s.ig r.val) ∧
          t.get SCT_RX.D_REISSUE x.sc = (s.get SCT_RX.D_REISSUE x.sc + 1) % 2 ^ 64 ∧
            t.get SCT_RX.EV_REISSUE_LIMIT x.sc = 1))) ∧
  (∀ (s : State) (r : Region) (d : Dir) (k : Fin 9) (i n : Nat), s.calm = true → i = pairIdx r.val d k.val →
    s.get RGN_PPE_STATUS.STATE i = 2 → n = (recent s (10 * sec) (Tab.get [] s.fr.pairTrans i)).length →
    (n < 4 →
      ∃ t, exec (.pairKatComplete r d k true) s = .next t ∧ t.get RGN_PPE_STATUS.STATE i = 1 ∧
        t.get RGN_PPE_STATUS.TRANS_10S i = n + 1) ∧
    (∀ pass : Bool, (pass = false ∨ 4 ≤ n) →
      ∃ t, exec (.pairKatComplete r d k pass) s = .next t ∧ t.get RGN_PPE_STATUS.STATE i = 3 ∧
        (s.get RGN_PPE_STATUS.STATE (pairIdx r.val d 8) = 0 → t.get RGN_PPE_STATUS.STATE (pairIdx r.val d 8) = 1))) ∧
  (∀ (s : State) (r : Region) (d : Dir), s.calm = true → s.get RGN_PPE_STATUS.STATE (pairIdx r.val d 8) = 0 →
    (∃ t, exec (.spareKat r d false) s = .next t ∧ t.get RGN_PPE_STATUS.STATE (pairIdx r.val d 8) = 3 ∧
      t.get RGN_PPE_STATUS.LAST_CAUSE (pairIdx r.val d 8) = 4) ∧
    (∃ t, exec (.spareKat r d true) s = .next t ∧ s.keepsBut t [])))

/-- R82, R131, R149, R151 to R154, R323: a held launch frame is dequeued from 800 ns before its time on. The first frame
of a line port that may go crosses the boundary with its FCS and is counted; a PTP frame from before a step is
discarded and counted. A launch frame that has not reached the launch slot 150 ns before its time is discarded and
counted where it is strict, and else goes on late. A host port sends a priority flow control frame first, then its
next frame, a PTP event message corrected, with its FCS. R19, R25, R92 to R97, R106, R110, R113, R114, R316: a frame
comes to a line port that is up. One that is too long, has a bad FCS or code, is too short or is a control frame is
only counted, and so is every good one in a fenced region and one with a bad SecTAG. A clear-text frame that a CLEAR
rule and the policy permit enters its host port's queue. A frame with a good SecTAG whose rule validates it for its
own channel waits for the pre-check under the ACTIVE slot with its AN. R107, R108, R113: the replay pre-check of a
region takes the first frame that waits for it. A GCM-AES one below LOW, with REPLAY_PROTECT, is dropped as IN_LATE;
one for which the region's reserve has no room is dropped as D_OVERRUN; another goes on to the slice group with its PN
recovered. -/
def Obligations.FramesLeaveAndArrive : Prop :=
  ((∀ (s : State) (lp : Fin 16) (cq : Fin 4) (f : Frame) (rest : List Frame) (q tl : Nat), s.calm = true →
    q = 8192 + 4 * lp.val + cq.val → (s.queue q).cells = f :: rest → f.launch = some tl →
    s.dequeues lp.val = true → s.ctrlEligible lp.val q = true → s.carDue lp.val = false → f.sc = none → f.ptp = false →
    f.want ≤ f.time + ms → s.now + 600 * ns ≤ tl →
    ∃ t, exec (.launchHoldExpire lp cq) s = .next t ∧ (t.queue q).cells = rest ∧
      t.get QUE_DCNT.DEQUEUED q = (s.get QUE_DCNT.DEQUEUED q + 1) % 2 ^ 64 ∧
      t.lineQ lp.val = s.lineQ lp.val ++ [⟨f.data, { f with lp := lp.val, ord := s.fr.taken }, 0, 0, false, false, none⟩]) ∧
  (∀ (s : State) (lp : Fin 16) (x : LineItem) (l : List LineItem), s.calm = true → s.lpUp lp.val = true →
    s.lineQ lp.val = x :: l → x.car = none → s.queueAhead lp.val x = false →
    (s.stepped x.f = false → s.lineReady lp.val x = true →
      (x.f.launch.isSome = true → s.launchHit lp.val x (x.f.launch.getD s.now) = false) →
      ∃ t, exec (.lineFrameTransmit lp) s = .next t ∧ t.lineQ lp.val = l ∧
        t.get RGN_HPCNT.TX_FRAMES (lpIdx lp.val) = (s.get RGN_HPCNT.TX_FRAMES (lpIdx lp.val) + 1) % 2 ^ 64 ∧
        Emit.lineFrame lp.val (x.line ++ fcs x.line) ∈ t.out) ∧
    (s.stepped x.f = true → x.f.lp = lp.val →
      ∃ t, exec (.lineFrameTransmit lp) s = .next t ∧ t.lineQ lp.val = l ∧
        t.get TIM_LP.LAUNCH_STEP lp.val = (s.get TIM_LP.LAUNCH_STEP lp.val + 1) % 2 ^ 64)) ∧
  (∀ (s : State) (lp : Fin 16) (x : EgItem) (l m : List EgItem) (n tl : Nat), s.calm = true →
    s.eg (regionOfLp lp.val) = l ++ x :: m → (∀ y ∈ l ++ m, y.f.lp ≠ lp.val ∨ y.f.launch = none) →
    x.stat = .reissue n → x.f.lp = lp.val → x.car = none → x.late = false → x.f.launch = some tl → tl ≤ s.now + 150 * ns →
    x.f.ptp = false →
    (x.f.strict = true →
      ∃ t, exec (.launchSlotDeadline lp) s = .next t ∧ t.eg (regionOfLp lp.val) = l ++ m ∧
        t.get TIM_LP.LAUNCH_DISCARD lp.val = (s.get TIM_LP.LAUNCH_DISCARD lp.val + 1) % 2 ^ 64 ∧
          t.ic.icu.contains 0x028 = true) ∧
    (x.f.strict = false →
      ∃ t, exec (.launchSlotDeadline lp) s = .next t ∧ t.eg (regionOfLp lp.val) = l ++ { x with late := true } :: m)) ∧
  (∀ (s : State) (hp : Fin 32), s.calm = true → s.hpUp hp.val = true →
    (∀ (d : List Octet) (rest : List (List Octet)), Tab.get [] s.fr.pfcOut hp.val = d :: rest →
      ∃ t, exec (.hostPortTransmit hp) s = .next t ∧ Tab.get [] t.fr.pfcOut hp.val = rest ∧ t.fr.hostOut = s.fr.hostOut ∧
        Emit.hostFrame hp.val (d ++ fcs d) ∈ t.out) ∧
    (∀ (f : OutFrame) (rest : List OutFrame) (d : List Octet), Tab.get [] s.fr.pfcOut hp.val = [] →
      Tab.get [] s.fr.hostOut hp.val = f :: rest →
      d = (if f.corr then ptpCorrect f.data (residence f.time (hostGrid hp.val s.now)) else f.data) →
      ∃ t, exec (.hostPortTransmit hp) s = .next t ∧ Tab.get [] t.fr.hostOut hp.val = rest ∧
        Emit.hostFrame hp.val (d ++ fcs d) ∈ t.out))) ∧
  (∀ (s : State) (lp : Fin 16) (octets : List Octet) (badCode : Bool) (back chk : Nat) (d : List Octet), s.calm = true →
    s.lpUp lp.val = true → s.mode ≠ mBOOT → s.mode ≠ 0 → chk = rxCheck octets badCode 9248 →
    d = octets.take (octets.length - 4) →
    (chk = 1 →
      ∃ t, exec (.lineFrameReceive lp octets badCode back) s = .next t ∧ t.fr = s.fr ∧
        t.get RGN_LPIGR.OVERSIZE lp.val = (s.get RGN_LPIGR.OVERSIZE lp.val + 1) % 2 ^ 64) ∧
    (∀ f : Fld, (chk, f) ∈ [(2, RGN_HPCNT.RX_FCS_ERR), (3, RGN_HPCNT.RX_RUNT), (4, RGN_HPCNT.RX_CTRL)] →
      ∃ t, exec (.lineFrameReceive lp octets badCode back) s = .next t ∧ t.fr = s.fr ∧
        t.get f (lpIdx lp.val) = (s.get f (lpIdx lp.val) + 1) % 2 ^ 64) ∧
    (chk = 0 → s.fenced (regionOfLp lp.val) = true →
      ∃ t, exec (.lineFrameReceive lp octets badCode back) s = .next t ∧ t.fr = s.fr ∧
        t.get RGN_LPIGR.D_REGION lp.val = (s.get RGN_LPIGR.D_REGION lp.val + 1) % 2 ^ 64) ∧
    (chk = 0 → s.fenced (regionOfLp lp.val) = false → be16 d 12 = 0x88E5 → tagBad d = true →
      ∃ t, exec (.lineFrameReceive lp octets badCode back) s = .next t ∧ t.fr = s.fr ∧
        t.get RGN_LPIGR.BAD_TAG lp.val = (s.get RGN_LPIGR.BAD_TAG lp.val + 1) % 2 ^ 64) ∧
    (∀ i h : Nat, chk = 0 → s.fenced (regionOfLp lp.val) = false → be16 d 12 ≠ 0x88E5 → s.mode ≠ mLOCKDOWN →
      (s.ones CLS_IGR.VALID).find? (s.igrMatch lp.val false 0 (beNat (slice d 0 6)) (be16 d (etypeAt d))) = some i →
      s.get CLS_IGR.ACTION i = 2 → s.igrClearOk (be16 d (etypeAt d)) = true →
      s.igrRoom (regionOfLp lp.val) (cellsOf d) = true → h = s.get CLS_IGR.HPORT i → s.on RGN_HPORT.LINK h = true →
      s.hostCells h < s.get RGN_IGR_POOL.HP_LIMIT (regionOfLp lp.val) →
      ∃ t, exec (.lineFrameReceive lp octets badCode back) s = .next t ∧
        t.get RGN_HPCNT.RX_FRAMES (lpIdx lp.val) = (s.get RGN_HPCNT.RX_FRAMES (lpIdx lp.val) + 1) % 2 ^ 64 ∧
        t.get RGN_LPIGR.CLEARED lp.val = (s.get RGN_LPIGR.CLEARED lp.val + 1) % 2 ^ 64 ∧
        (Tab.get [] t.fr.hostOut h).map (fun f => (f.data, f.lp)) =
          (Tab.get [] s.fr.hostOut h).map (fun f => (f.data, f.lp)) ++ [(d, lp.val)]) ∧
    (∀ i c a sci : Nat, chk = 0 → s.fenced (regionOfLp lp.val) = false → be16 d 12 = 0x88E5 → tagBad d = false →
      s.sciOf lp.val d = some sci →
      (s.ones CLS_IGR.VALID).find? (s.igrMatch lp.val true sci (beNat (slice d 0 6)) 0x88E5) = some i →
      s.get CLS_IGR.ACTION i = 1 → c = s.get CLS_IGR.SC i → s.on SCT_RX.VALID c = true → s.get SCT_RX.LPORT c = lp.val →
      s.get SCT_RX.SCI c = sci → s.mode ≠ mSTANDBY → s.mode ≠ mLOCKDOWN → s.slotOfAn c (readTag d).an = some a →
      (s.effValidate c ≠ 0 ∨ (readTag d).c = true) →
      ∃ t, exec (.lineFrameReceive lp octets badCode back) s = .next t ∧
        t.get RGN_LPIGR.TO_VALIDATE lp.val = (s.get RGN_LPIGR.TO_VALIDATE lp.val + 1) % 2 ^ 64 ∧
        (t.ig (regionOfLp lp.val)).map (fun x => (x.data, x.sc, x.sa, x.stat)) =
          (s.ig (regionOfLp lp.val)).map (fun x => (x.data, x.sc, x.sa, x.stat)) ++ [(d, c, a, .pre)])) ∧
  (∀ (s : State) (r : Region) (x : InItem) (l m : List InItem) (low n : Nat), s.calm = true → s.ig r.val = l ++ x :: m →
    (∀ y ∈ l, y.stat ≠ .pre) → x.stat = .pre → low = s.rxLow x.par.window x.sa →
    n = recoverPn (decide (2 ≤ x.par.suite)) (readTag x.data).pn low →
    ((x.par.suite < 2 ∧ x.par.replay = true ∧ n < low) →
      ∃ t, exec (.replayPrecheck r) s = .next t ∧ t.ig r.val = l ++ m ∧
        t.get SCT_RX.IN_LATE x.sc = (s.get SCT_RX.IN_LATE x.sc + 1) % 2 ^ 64) ∧
    (¬(x.par.suite < 2 ∧ x.par.replay = true ∧ n < low) → s.igrRoom r.val (cellsLen (builtLen x.data)) = false →
      ∃ t, exec (.replayPrecheck r) s = .next t ∧ t.ig r.val = l ++ m ∧
        t.get SCT_RX.D_OVERRUN x.sc = (s.get SCT_RX.D_OVERRUN x.sc + 1) % 2 ^ 64) ∧
    (¬(x.par.suite < 2 ∧ x.par.replay = true ∧ n < low) → s.igrRoom r.val (cellsLen (builtLen x.data)) = true →
      ∃ t, exec (.replayPrecheck r) s = .next t ∧ t.ig r.val = l ++ { x with pn := n, stat := .wait } :: m))

/-- R267, R268, R270, R279: 800 ns before its slot a carrier is packed, with the next CSEQ and the PN of the SC's current
SA, and joins the slice group; with no frame to carry it is a shim. A slot for which step 6 gives no PN passes idle
and is counted. The slot sends the port's first carrier and counts it. A carrier not at the launch slot 150 ns before
its slot moves, with those behind it, one slot later. STOP, of a writer with no word held, ends the stream once
nothing of it is left. A stream that a link-down stopped runs again, with EV_START. R277, R278: a partial frame that
is overdue is dropped with REASM_TIMEOUT and EV_ERR; a stream that falls silent goes DOWN and drops its partial frame. -/
def Obligations.Carriers : Prop :=
  ((∀ (s : State) (lp : Fin 16) (c a : Nat), s.calm = true → s.carDue lp.val = true → c = s.get CAR_TX.SC lp.val →
    a = s.curSa c → s.elsewhere c lp.val = false →
    (s.autGate c s.now = .pass → s.on SCT_TX.VALID c = true → s.get SAT_TX.STATE a = saACTIVE →
      (s.limited c = true → s.get SAT_TX.USED a + (if s.on SCT_TX.LIMIT_UNIT c then s.get CAR_TX.CSIZE lp.val + 48 else 1) ≤
        s.get SCT_TX.LIMIT c) → s.get SAT_TX.NEXT_PN a < pnCeiling (s.get SCT_TX.SUITE c) →
      (∃ t, exec (.carrierPack lp) s = .next t ∧ (t.carTxOf lp.val).slot = (s.carTxOf lp.val).slot + 1 ∧
        t.get CAR_TX.CSEQ_NEXT lp.val = (s.get CAR_TX.CSEQ_NEXT lp.val + 1) % 2 ^ 32 ∧
        t.get SAT_TX.NEXT_PN a = s.get SAT_TX.NEXT_PN a + 1 ∧
        (t.eg (regionOfLp lp.val)).map (fun x => (x.f.lp, x.sc, x.sa, x.pn, x.car.map (·.slot))) =
          (s.eg (regionOfLp lp.val)).map (fun x => (x.f.lp, x.sc, x.sa, x.pn, x.car.map (·.slot))) ++
            [(lp.val, c, a, s.get SAT_TX.NEXT_PN a, some (s.carTxOf lp.val).slot)]) ∧
      (s.pl.queues = [] → s.pl.drr = [] → (s.carTxOf lp.val).split = none →
        ∃ t, exec (.carrierPack lp) s = .next t ∧
          (t.eg (regionOfLp lp.val)).map (·.car) = (s.eg (regionOfLp lp.val)).map (·.car) ++
            [some ⟨(s.carTxOf lp.val).slot, 0, []⟩])) ∧
    (s.autGate c s.now = .pass → s.on SCT_TX.VALID c = false →
      ∃ t, exec (.carrierPack lp) s = .next t ∧ (t.carTxOf lp.val).slot = (s.carTxOf lp.val).slot + 1 ∧
        t.eg (regionOfLp lp.val) = s.eg (regionOfLp lp.val) ∧
        t.get SCT_TX.D_INVALID c = (s.get SCT_TX.D_INVALID c + 1) % 2 ^ 64 ∧
        t.get CAR_TXCNT.SLOT_SKIPPED lp.val = (s.get CAR_TXCNT.SLOT_SKIPPED lp.val + 1) % 2 ^ 64)) ∧
  (∀ (s : State) (lp : Fin 16) (x : LineItem) (c : CarInfo), s.calm = true →
    (s.lineQ lp.val).find? (fun y => y.car.isSome) = some x → x.car = some c → s.lpUp lp.val = true →
    s.on CAR_TX.RUNNING lp.val = true → s.gridAtOrAfter lp.val (s.slotTime lp.val c.slot) ≤ s.now →
    carBlocked (s.lineQ lp.val) x = false →
    ∃ t, exec (.carrierSlot lp) s = .next t ∧ t.lineQ lp.val = (s.lineQ lp.val).erase x ∧
      t.get CAR_TXCNT.CARRIERS lp.val = (s.get CAR_TXCNT.CARRIERS lp.val + 1) % 2 ^ 64 ∧
      t.get CAR_TXCNT.SHIMS lp.val = (s.get CAR_TXCNT.SHIMS lp.val + (if c.nseg = 0 then 1 else 0)) % 2 ^ 64 ∧
      Emit.lineFrame lp.val (x.line ++ fcs x.line) ∈ t.out) ∧
  (∀ (s : State) (lp : Fin 16) (x : EgItem) (c : CarInfo), s.calm = true →
    (s.eg (regionOfLp lp.val)).find? (fun y => y.f.lp == lp.val && y.car.isSome) = some x → x.car = some c →
    s.slotTime lp.val c.slot ≤ s.now + 150 * ns →
    ∃ t, exec (.carrierSlotLate lp) s = .next t ∧
      t.eg (regionOfLp lp.val) = (s.eg (regionOfLp lp.val)).map (fun y => if y.f.lp = lp.val then
        { y with car := y.car.map (fun c => { c with slot := c.slot + 1 }) } else y) ∧
      t.get CAR_TXCNT.SLOT_LATE lp.val = (s.get CAR_TXCNT.SLOT_LATE lp.val + 1) % 2 ^ 64 ∧
        t.get CAR_TX.EV_IDLE lp.val = 1) ∧
  (∀ (s : State) (p : Port) (lp : Fin 16), s.mayWrite p.val false (reg_CAR_TX.offset lp.val 0) →
    (s.granted p.val false).heldOf (.port p.val) .CAR_TX = none → s.on CAR_TX.RUNNING lp.val = true →
    (((s.carTxOf lp.val).split = none ∧ s.carPacked lp.val = []) →
      ∃ t, exec (.carrierStop p lp) s = .next t ∧ t.get CAR_TX.RUNNING lp.val = 0 ∧
        t.get CAR_TX.EN lp.val = s.get CAR_TX.EN lp.val) ∧
    (¬((s.carTxOf lp.val).split = none ∧ s.carPacked lp.val = []) →
      ∃ t, exec (.carrierStop p lp) s = .next t ∧ t.get CAR_TX.RUNNING lp.val = 1 ∧ (t.carTxOf lp.val).stopping = true)) ∧
  (∀ (s : State) (lp : Fin 16), s.calm = true → (s.carTxOf lp.val).restart = true → s.guarded lp.val = true →
    s.lpUp lp.val = true → s.on CAR_TX.RUNNING lp.val = false → s.fenced (regionOfLp lp.val) = false →
    ∃ t, exec (.carrierRestart lp) s = .next t ∧ t.get CAR_TX.RUNNING lp.val = 1 ∧ t.get CAR_TX.EV_START lp.val = 1 ∧
      (t.carTxOf lp.val).restart = false)) ∧
  ((∀ (s : State) (lp : Fin 16) (a b : Nat) (o : List Octet) (m n : Nat), s.calm = true →
    (s.carRxOf lp.val).part = some (a, b, o, m, n) → m + s.get CAR_RX.REASM_US lp.val * us ≤ s.mono →
    ∃ t, exec (.reasmTimeout lp) s = .next t ∧ (t.carRxOf lp.val).part = none ∧
      t.get CAR_RXCNT.REASM_TIMEOUT lp.val = (s.get CAR_RXCNT.REASM_TIMEOUT lp.val + 1) % 2 ^ 64 ∧
      t.get CAR_RX.EV_ERR lp.val = 1) ∧
  (∀ (s : State) (lp : Fin 16), s.calm = true → s.on CAR_RX.UP lp.val = true →
    (s.carRxOf lp.val).last + s.get CAR_RX.LOSS_US lp.val * us ≤ s.mono →
    ∃ t, exec (.streamLoss lp) s = .next t ∧ t.get CAR_RX.UP lp.val = 0 ∧ t.get CAR_RX.EV_DOWN lp.val = 1 ∧
      t.get CAR_RXCNT.DOWN_EVENTS lp.val = (s.get CAR_RXCNT.DOWN_EVENTS lp.val + 1) % 2 ^ 64 ∧
      (t.carRxOf lp.val).part = none))

/-- R283, R285, R287: EN from 0 to 1 with room in the region's pool starts a ring at index 0 and phase 1, and without it
is refused with CAUSE 3; EN 0, the ring's other locked fields as they stand, stops it and drops its records and
descriptor, and a change of one of them is refused with CAUSE 2. PROD and CPL_ACK take the indices written where both
stay within the ring's size, an index of a disabled ring counting from 0, and are refused with CAUSE 3 where one does
not. R288, R290, R292: what is left of a ring's first packet is written into its next posted descriptor: where it fits
there, the packet leaves the ring, and else it stays begun; a descriptor out of range takes none of it. Each
descriptor is consumed. DROP_REST of a packet begun drops the rest of it, with RESULT 1; with none begun RESULT reads
2. R36, R294, R295, R296: the next posted inject descriptor is fetched and consumed; it then waits for its frame, but
a malformed one does not. A frame fetched, its ring's quota having room, is counted and waits for admission with its
ring's index: by CLEAR, where the policy permits it, to the control queue it names, and by PROTECT, of a valid
channel, to the channel's queue; a failed fetch admits nothing. The zero-length read of a completion is made. -/
def Obligations.HostRingsPuntAndInject : Prop :=
  (∀ (s : State) (p : Port) (k : Fin 128) (off : Nat → Nat),
    off = (fun w => if k.val < 64 then reg_HQ_PUNT.offset k.val w else reg_HQ_INJ.offset (k.val - 64) w) →
    (∀ (v : Word) (n : State), n = ((s.granted p.val false).writeWord reg_HQ_PUNT k.val 0 (putBits v.toNat 0 1 1)).1 →
      s.mayWrite p.val false (off 0) → s.on HQ_PUNT.EN k.val = false →
      (n.guarSum (n.get HQ_PUNT.REGION k.val) + 4096 ≤ n.poolSize (n.get HQ_PUNT.REGION k.val) →
        ∃ t, exec (.ringEnable p k v) s = .next t ∧ t.get HQ_PUNT.EN k.val = 1 ∧ t.get HQ_PUNT.CONS k.val = 0 ∧
          t.get HQ_PUNT.CPL_IDX k.val = 0 ∧ t.get HQ_PUNT.PHASE k.val = 1 ∧ t.get HQ_PUNT.STOPPED k.val = 0) ∧
      (n.poolSize (n.get HQ_PUNT.REGION k.val) < n.guarSum (n.get HQ_PUNT.REGION k.val) + 4096 →
        ∃ t, exec (.ringEnable p k v) s = .next t ∧ s.keepsBut t rejectRegs ∧ t.get GLB_CFG_REJECT_LAST.CAUSE p.val = 3)) ∧
    (∀ (v : Word) (n : State), n = ((s.granted p.val false).writeWord reg_HQ_PUNT k.val 0 (putBits v.toNat 0 1 0)).1 →
      s.mayWrite p.val false (off 0) → s.on HQ_PUNT.EN k.val = true →
      (ringLocked.all (fun f => n.get f k.val == s.get f k.val) = true →
        ∃ t, exec (.ringDisable p k v) s = .next t ∧ t.get HQ_PUNT.EN k.val = 0 ∧ (t.ring k.val).recs = [] ∧
          (t.ring k.val).waiting = (if k.val < 64 then [] else (s.ring k.val).waiting) ∧ (t.ring k.val).desc = none) ∧
      (ringLocked.all (fun f => n.get f k.val == s.get f k.val) = false →
        ∃ t, exec (.ringDisable p k v) s = .next t ∧ s.keepsBut t rejectRegs ∧ t.get GLB_CFG_REJECT_LAST.CAUSE p.val = 2)) ∧
    (∀ (x : BitVec 16) (a b : Nat), s.mayWrite p.val false (off 5) →
      a = (if s.on HQ_PUNT.EN k.val then s.get HQ_PUNT.CONS k.val else 0) →
      b = (if s.on HQ_PUNT.EN k.val then s.get HQ_PUNT.CPL_IDX k.val else 0) →
      (((x.toNat + 65536 - a) % 65536 ≤ s.ringSize k.val ∧
          (b + 65536 - s.get HQ_PUNT.CPL_ACK k.val) % 65536 ≤ s.ringSize k.val) →
        ∃ t, exec (.ringProdWrite p k x) s = .next t ∧ t.get HQ_PUNT.PROD k.val = x.toNat) ∧
      (¬((x.toNat + 65536 - a) % 65536 ≤ s.ringSize k.val ∧
          (b + 65536 - s.get HQ_PUNT.CPL_ACK k.val) % 65536 ≤ s.ringSize k.val) →
        ∃ t, exec (.ringProdWrite p k x) s = .next t ∧ s.keepsBut t rejectRegs ∧
          t.get GLB_CFG_REJECT_LAST.CAUSE p.val = 3) ∧
      (((s.get HQ_PUNT.PROD k.val + 65536 - a) % 65536 ≤ s.ringSize k.val ∧
          (b + 65536 - x.toNat) % 65536 ≤ s.ringSize k.val) →
        ∃ t, exec (.ringCplAck p k x) s = .next t ∧ t.get HQ_PUNT.CPL_ACK k.val = x.toNat) ∧
      (¬((s.get HQ_PUNT.PROD k.val + 65536 - a) % 65536 ≤ s.ringSize k.val ∧
          (b + 65536 - x.toNat) % 65536 ≤ s.ringSize k.val) →
        ∃ t, exec (.ringCplAck p k x) s = .next t ∧ s.keepsBut t rejectRegs ∧ t.get GLB_CFG_REJECT_LAST.CAUSE p.val = 3))) ∧
  ((∀ (s : State) (k : Fin 64) (q : Punt) (rest : List Punt) (d : Desc) (n : Nat), s.calm = true →
    (s.ring k.val).waiting = q :: rest → s.ringDma k.val = true → s.posted k.val ≠ 0 →
    q.written < q.data.length → n = (s.get HQ_PUNT.CONS k.val + 1) % 65536 →
    (descOk d = true → q.data.length ≤ q.written + 64 * d.len64 →
      ∃ t, exec (.puntPacketWrite k [d]) s = .next t ∧ (t.ring k.val).waiting = rest ∧ t.get HQ_PUNT.CONS k.val = n ∧
        Emit.dmaWrite (s.get HQ_PUNT.PORT k.val) d.addr (q.data.drop q.written) ∈ t.out) ∧
    (descOk d = true → q.written + 64 * d.len64 < q.data.length →
      ∃ t, exec (.puntPacketWrite k [d]) s = .next t ∧ t.get HQ_PUNT.CONS k.val = n ∧
        (t.ring k.val).waiting.map (fun x => (x.begun, x.written)) =
          (true, q.written + 64 * d.len64) :: rest.map (fun x => (x.begun, x.written)) ∧
        Emit.dmaWrite (s.get HQ_PUNT.PORT k.val) d.addr (slice q.data q.written (64 * d.len64)) ∈ t.out) ∧
    (descOk d = false →
      ∃ t, exec (.puntPacketWrite k [d]) s = .next t ∧ t.get HQ_PUNT.CONS k.val = n ∧
        (t.ring k.val).waiting.map (fun x => (x.badDesc, x.written)) =
          (true, q.written) :: rest.map (fun x => (x.badDesc, x.written)))) ∧
  (∀ (s : State) (p : Port) (k : Fin 64), s.mayWrite p.val false (reg_HQ_CTL.offset k.val 0) →
    (∀ (q : Punt) (rest : List Punt), (s.ring k.val).waiting = q :: rest → q.begun = true →
      ∃ t, exec (.puntDropRest p k) s = .next t ∧ t.get HQ_CTL.RESULT k.val = 1 ∧ (t.ring k.val).waiting = rest) ∧
    ((s.ring k.val).waiting.head?.any (·.begun) = false →
      ∃ t, exec (.puntDropRest p k) s = .next t ∧ t.get HQ_CTL.RESULT k.val = 2 ∧
        (t.ring k.val).waiting = (s.ring k.val).waiting))) ∧
  ((∀ (s : State) (k : Fin 64) (o : List Octet) (c : Nat), s.calm = true → s.ringDma (64 + k.val) = true →
    s.posted (64 + k.val) ≠ 0 → (s.ring (64 + k.val)).desc = none → c = s.get HQ_PUNT.CONS (64 + k.val) →
    ((14 ≤ injLen o ∧ injLen o ≤ 9212 ∧ injMode o ≠ 3) →
      ∃ t, exec (.injectDescriptorFetch k o) s = .next t ∧ t.get HQ_PUNT.CONS (64 + k.val) = (c + 1) % 65536 ∧
        (t.ring (64 + k.val)).desc = some ⟨c, padTo 32 o⟩) ∧
    (¬(14 ≤ injLen o ∧ injLen o ≤ 9212 ∧ injMode o ≠ 3) →
      ∃ t, exec (.injectDescriptorFetch k o) s = .next t ∧ t.get HQ_PUNT.CONS (64 + k.val) = (c + 1) % 65536 ∧
        (t.ring (64 + k.val)).desc = none ∧ t.fr = s.fr)) ∧
  (∀ (s : State) (k : Fin 64) (x : InjDesc), s.calm = true → (s.ring (64 + k.val)).desc = some x →
    s.ringDma (64 + k.val) = true →
    (s.injCells (64 + k.val) + cellsOf (List.replicate (injLen x.octets) (0 : Octet)) ≤ s.get HQ_PUNT.QUOTA (64 + k.val) →
      ∃ t, exec (.injectFrameFetch k .error) s = .next t ∧ (t.ring (64 + k.val)).desc = none ∧ t.fr = s.fr) ∧
    (∀ l d : List Octet, d = padTo (max (injLen x.octets) 60) (padTo (injLen x.octets) l) →
      s.injCells (64 + k.val) + cellsOf d ≤ s.get HQ_PUNT.QUOTA (64 + k.val) →
      (∀ lp : Nat, injMode x.octets = 2 → injTarget x.octets = lp → lp < 16 → s.egrClearOk (be16 d (etypeAt d)) = true →
        ∃ t, exec (.injectFrameFetch k (.octets l)) s = .next t ∧ (t.ring (64 + k.val)).desc = none ∧
          t.get HQ_ICNT.FETCHED k.val = (s.get HQ_ICNT.FETCHED k.val + 1) % 2 ^ 64 ∧
          ∃ a ∈ Tab.get [] t.fr.arrivals (regionOfLp lp), a.f.data = d ∧ a.f.lp = lp ∧ a.f.sc = none ∧
            a.inj = some (k.val, x.index) ∧ a.f.queue = 8192 + 4 * lp + (octetAt x.octets 10).toNat / 16 % 4) ∧
      (∀ c : Nat, injMode x.octets = 1 → injTarget x.octets = c → c < 4096 → s.on SCT_TX.VALID c = true →
        (octetAt x.octets 10).toNat / 4 % 4 < 3 →
        (injFlag x.octets 2 = true → (octetAt x.octets 10).toNat / 4 % 4 = 2) →
        ∃ t, exec (.injectFrameFetch k (.octets l)) s = .next t ∧ (t.ring (64 + k.val)).desc = none ∧
          t.get HQ_ICNT.FETCHED k.val = (s.get HQ_ICNT.FETCHED k.val + 1) % 2 ^ 64 ∧
          ∃ a ∈ Tab.get [] t.fr.arrivals (regionOfLp (s.get SCT_TX.LPORT c)), a.f.data = d ∧ a.f.sc = some c ∧
            a.inj = some (k.val, x.index) ∧
            a.f.queue = s.protQueue c ((octetAt x.octets 10).toNat / 4 % 4) ((octetAt x.octets 10).toNat / 16 % 4)))) ∧
  (∀ (s : State) (p : Port) (vec : Fin 64) (d : Delivery) (q : Nat), s.delivery p.val vec.val = some d → d.zlr = some q →
    s.masters q = true → s.cl.heldSrcs = [] →
    ∃ t, exec (.completionZeroLengthRead p vec) s = .next t ∧ Emit.zeroRead q ∈ t.out ∧
      ∃ e, t.delivery p.val vec.val = some e ∧ e.zlr = none))

/-- R313, R317, R324, R326, R335, R339: a lane is LOCKED while its lock holds and its reference is good; a change of
LOCKED raises the lane's source, and a loss is counted, zeroes the monitors and ends LINK. A loss with SIGNAL and the
reference good fences a lane of an enabled port, on a line port with its module READY; so do a low SNR and a tap at
its limit. ADAPTED follows the taps of a DFE that is not frozen. A reference outside its window unlocks every lane it
serves. R325, R327, R328, R337, R340, R360: the test of a fenced lane ends, on a line port with its module READY: a
pass clears FENCED, unless it is an automatic one that follows four within 10 s; a failure leaves it. LANE_RETEST asks
for one of a fenced lane. Each tap moves one unit towards its goal. The eye monitors of a LOCKED lane are shown.
CHK_CLR zeroes the checker's counters; it leaves the patterns as they stand, and is refused where a pattern is on in
an enabled port's lane. -/
def Obligations.LaneEventsAndTests : Prop :=
  ((∀ (s : State) (lane : Fin 96) (locked signal v : Bool), s.calm = true → s.mode ≠ 0 → v = (locked && s.refGood lane.val) →
    ∃ t, exec (.laneLockChange lane locked signal) s = .next t ∧ t.get RGN_HLANE.LOCKED lane.val = b2n v ∧
      t.get RGN_HLANE.SIGNAL lane.val = b2n signal ∧
      (s.on RGN_HLANE.LOCKED lane.val ≠ v → t.ic.icu.contains (0x80 + lane.val) = true) ∧
      (s.on RGN_HLANE.LOCKED lane.val = false → v = true → lane.val < 64 → t.get RGN_HLANE.ADAPTED lane.val = 1) ∧
      (s.on RGN_HLANE.LOCKED lane.val = true → v = false →
        t.get RGN_HLANE.LOCK_LOSSES lane.val = (s.get RGN_HLANE.LOCK_LOSSES lane.val + 1) % 2 ^ 64 ∧
        t.get RGN_HLANE.SNR lane.val = 0 ∧ t.get RGN_HLANE.EYE_UPPER lane.val = 0 ∧
          t.get RGN_HLANE.EYE_MIDDLE lane.val = 0 ∧
        t.get RGN_HLANE.EYE_LOWER lane.val = 0 ∧ t.get RGN_HLANE.EYE_WIDTH lane.val = 0 ∧
        (lane.val < 64 → t.get RGN_HLANE.ADAPTED lane.val = 0) ∧
        (s.laneOwner lane.val).all (fun q => t.get RGN_HPORT.LINK q == 0) = true) ∧
      t.on RGN_HLANE.FENCED lane.val = (s.on RGN_HLANE.FENCED lane.val ||
        (s.on RGN_HLANE.LOCKED lane.val && !v && signal && s.refGood lane.val &&
          (s.laneOwner lane.val).any (fun q => lane.val < 64 || s.modState (q - 32) == mREADY)))) ∧
  (∀ (s : State) (lane : Fin 96), s.calm = true →
    ((s.on RGN_HLANE.LOCKED lane.val = true ∧ s.get RGN_HLANE.SNR lane.val < s.get FLT_CFG.SNR_MIN 0 ∧
      s.laneFences lane.val = true) →
      ∃ t, exec (.snrLow lane) s = .next t ∧ t.get RGN_HLANE.FENCED lane.val = 1 ∧
        t.ic.icu.contains (0x80 + lane.val) = true ∧ Tab.get 0 t.ln.laneTest lane.val = s.get FLT_CFG.LANE_AUTO 0 ∧
        (s.laneOwner lane.val).all (fun q => t.get RGN_HPORT.LINK q == 0) = true) ∧
    (¬(s.on RGN_HLANE.LOCKED lane.val = true ∧ s.get RGN_HLANE.SNR lane.val < s.get FLT_CFG.SNR_MIN 0 ∧
      s.laneFences lane.val = true) →
      ∃ t, exec (.snrLow lane) s = .next t ∧ s.keepsBut t [])) ∧
  (∀ (s : State) (lane : Fin 96) (taps : List (BitVec 8)) (c : Instr) (lim : Bool), s.calm = true → lim = tapLimit taps →
    c = (if lim then .dfeTapLimit lane taps else .dfeAdapted lane taps) →
    ((64 ≤ lane.val ∧ s.on RGN_LLANE.DFE_FREEZE lane.val = false ∧ (lim = true ∨ s.on RGN_HLANE.LOCKED lane.val = true)) →
      ∃ t, exec c s = .next t ∧ t.get RGN_LLANE.DFE_TAPS lane.val = tapsNat taps % 2 ^ 96 ∧
        t.get RGN_HLANE.ADAPTED lane.val = b2n !lim ∧
        (s.get RGN_HLANE.ADAPTED lane.val ≠ b2n !lim → t.ic.icu.contains (0xA0 + lane.val) = true) ∧
        t.on RGN_HLANE.FENCED lane.val = (s.on RGN_HLANE.FENCED lane.val || (lim && s.laneFences lane.val))) ∧
    ((lane.val < 64 ∨ s.on RGN_LLANE.DFE_FREEZE lane.val = true ∨ (lim = false ∧ s.on RGN_HLANE.LOCKED lane.val = false)) →
      ∃ t, exec c s = .next t ∧ s.keepsBut t [])) ∧
  (∀ (s : State) (h l : Int) (hg lg : Bool), s.calm = true → s.mode ≠ 0 → hg = decide (-5100 ≤ h ∧ h ≤ 100) →
    lg = decide (-100 ≤ l ∧ l ≤ 100) →
    ∃ t, exec (.refclkMonitorWindow h l) s = .next t ∧ t.get GLB_REFCLK_STATUS.HREF_OK 0 = b2n hg ∧
      t.get GLB_REFCLK_STATUS.LREF_OK 0 = b2n lg ∧
      ∀ lane < 96, t.on RGN_HLANE.LOCKED lane = (s.on RGN_HLANE.LOCKED lane && (if lane < 64 then hg else lg)))) ∧
  ((∀ (s : State) (lane : Fin 96) (pass go : Bool), s.calm = true →
    go = (s.on RGN_HLANE.FENCED lane.val && Tab.get 0 s.ln.laneTest lane.val != 0 &&
      (lane.val < 64 || (s.laneOwner lane.val).all (fun q => s.modState (q - 32) == mREADY))) →
    (go = true →
      ∃ t, exec (.laneTestComplete lane pass) s = .next t ∧ Tab.get 0 t.ln.laneTest lane.val = 0 ∧
        t.on RGN_HLANE.FENCED lane.val = !(pass && (Tab.get 0 s.ln.laneTest lane.val == 2 ||
          decide ((recent s (10 * sec) (Tab.get [] s.ln.laneTrans lane.val)).length < 4)))) ∧
    (go = false → ∃ t, exec (.laneTestComplete lane pass) s = .next t ∧ s.keepsBut t [] ∧ t.ln = s.ln)) ∧
  (∀ (s : State) (p : Port) (lane : Fin 96), s.mayWrite p.val false reg_FLT_LANE_CMD.base →
    (s.on RGN_HLANE.FENCED lane.val = true →
      ∃ t, exec (.laneRetest p lane) s = .next t ∧ Tab.get 0 t.ln.laneTest lane.val = 2) ∧
    (s.on RGN_HLANE.FENCED lane.val = false →
      ∃ t, exec (.laneRetest p lane) s = .next t ∧ s.keepsBut t rejectRegs ∧ t.get GLB_CFG_REJECT_LAST.CAUSE p.val = 3)) ∧
  (∀ (s : State) (lane : Fin 96),
    ∃ t, exec (.tapStep lane) s = .next t ∧ Tab.get tapReset t.ln.laneTaps lane.val =
      List.zipWith (fun a g => if a < g then a + 1 else if g < a then a - 1 else a)
        (Tab.get tapReset s.ln.laneTaps lane.val) (s.tapGoal lane.val)) ∧
  (∀ (s : State) (p : Port) (lane : Fin 96) (off : Nat),
    off = (if lane.val < 64 then reg_RGN_HLANE.offset lane.val 6 else reg_RGN_LLANE.offset (lane.val - 64) 6) →
    s.admits p.val 0 false true off = true → s.get RGN_HLANE.PRBS_GEN lane.val < 4 → s.get RGN_HLANE.PRBS_CHK lane.val < 4 →
    ((s.laneOwner lane.val = none ∨ (s.get RGN_HLANE.PRBS_GEN lane.val = 0 ∧ s.get RGN_HLANE.PRBS_CHK lane.val = 0)) →
      ∃ t, exec (.chkClr p lane) s = .next t ∧ t.get RGN_HLANE.PRBS_ERR lane.val = 0 ∧
        t.get RGN_HLANE.PRBS_SYM lane.val = 0 ∧
        t.get RGN_HLANE.PRBS_GEN lane.val = s.get RGN_HLANE.PRBS_GEN lane.val ∧
        t.get RGN_HLANE.PRBS_CHK lane.val = s.get RGN_HLANE.PRBS_CHK lane.val) ∧
    (¬(s.laneOwner lane.val = none ∨ (s.get RGN_HLANE.PRBS_GEN lane.val = 0 ∧ s.get RGN_HLANE.PRBS_CHK lane.val = 0)) →
      ∃ t, exec (.chkClr p lane) s = .next t ∧ s.keepsBut t rejectRegs ∧ t.get GLB_CFG_REJECT_LAST.CAUSE p.val = 3)) ∧
  (∀ (s : State) (lane : Fin 96) (u m l w n : BitVec 8),
    (s.on RGN_HLANE.LOCKED lane.val = true →
      ∃ t, exec (.eyeMonitorUpdate lane u m l w n) s = .next t ∧ t.get RGN_HLANE.EYE_UPPER lane.val = u.toNat ∧
        t.get RGN_HLANE.EYE_MIDDLE lane.val = m.toNat ∧ t.get RGN_HLANE.EYE_LOWER lane.val = l.toNat ∧
        t.get RGN_HLANE.EYE_WIDTH lane.val = w.toNat % 64 ∧ t.get RGN_HLANE.SNR lane.val = n.toNat) ∧
    (s.on RGN_HLANE.LOCKED lane.val = false → ∃ t, exec (.eyeMonitorUpdate lane u m l w n) s = .next t ∧ s.keepsBut t [])))

/-- R132, R133, R317, R320, R321, R323: EN of a port rises where its lanes fit and its SPEED permits, and turns their
patterns off; it falls with LINK; SPEED or APPSEL changed while EN is 1 is refused. LINK is 1 while its conditions
hold: a change sets EV_LINK, and a fall is counted and ends the calibration. Calibration records a linked port's
latencies. An interval of an enabled port counts its FEC numbers and marks degradation. -/
def Obligations.PortCommands : Prop :=
  (∀ (s : State) (p : Port) (port : Fin 48) (v : Word) (r : Reg) (off : Nat) (taken : Nat → State) (same : Nat → Bool),
    r = (if port.val < 32 then reg_RGN_HPORT else reg_RGN_LPORT) →
    off = r.offset (if port.val < 32 then port.val else port.val - 32) 0 → s.mayWrite p.val false off →
    taken = (fun en => ((s.granted p.val false).writeWord r port.val 0 (putBits v.toNat 0 1 en)).1) →
    same = (fun en => (taken en).get RGN_HPORT.SPEED port.val == s.get RGN_HPORT.SPEED port.val) →
    (s.on RGN_HPORT.EN port.val = false → (taken 1).portFits port.val = true →
      ∃ t, exec (.portEnable p port v) s = .next t ∧ t.get RGN_HPORT.EN port.val = 1 ∧
        t.get RGN_HPORT.SPEED port.val = (taken 1).get RGN_HPORT.SPEED port.val ∧
        (t.portLanes port.val).all (fun l => t.get RGN_HLANE.PRBS_GEN l == 0 && t.get RGN_HLANE.PRBS_CHK l == 0) = true) ∧
    (s.on RGN_HPORT.EN port.val = false → (taken 1).portFits port.val = false →
      ∃ t, exec (.portEnable p port v) s = .next t ∧ s.keepsBut t rejectRegs ∧ t.get GLB_CFG_REJECT_LAST.CAUSE p.val = 3) ∧
    (s.on RGN_HPORT.EN port.val = true → same 1 = true →
      ∃ t, exec (.portEnable p port v) s = .next t ∧ t.get RGN_HPORT.EN port.val = 1) ∧
    (s.on RGN_HPORT.EN port.val = true → same 1 = false →
      ∃ t, exec (.portEnable p port v) s = .next t ∧ s.keepsBut t rejectRegs ∧ t.get GLB_CFG_REJECT_LAST.CAUSE p.val = 2) ∧
    ((s.on RGN_HPORT.EN port.val = true → same 0 = true) →
      ∃ t, exec (.portDisable p port v) s = .next t ∧ t.get RGN_HPORT.EN port.val = 0 ∧
        (s.on RGN_HPORT.EN port.val = true → t.get RGN_HPORT.LINK port.val = 0)) ∧
    (s.on RGN_HPORT.EN port.val = true → same 0 = false →
      ∃ t, exec (.portDisable p port v) s = .next t ∧ s.keepsBut t rejectRegs ∧
        t.get GLB_CFG_REJECT_LAST.CAUSE p.val = 2)) ∧
  (∀ (s : State) (port : Fin 48) (aligned lf rf : Bool) (v : Nat), s.calm = true → s.mode ≠ 0 →
    v = b2n (s.linkCan port.val && aligned && !lf && !rf) →
    ∃ t, exec (.linkChange port aligned lf rf) s = .next t ∧ t.get RGN_HPORT.LINK port.val = v ∧
      t.get RGN_HPORT.RX_LF port.val = b2n lf ∧ t.get RGN_HPORT.RX_RF port.val = b2n rf ∧
      (s.get RGN_HPORT.LINK port.val ≠ v → t.get RGN_HPORT.EV_LINK port.val = 1 ∧
        (s.on RGN_HPORT.EV_LINK port.val = false → t.ic.icu.contains (0x100 + port.val) = true)) ∧
      (s.get RGN_HPORT.LINK port.val ≠ v → v = 0 →
        t.get RGN_HPCNT.LINK_DOWNS port.val = (s.get RGN_HPCNT.LINK_DOWNS port.val + 1) % 2 ^ 64 ∧
        (port.val < 32 → t.get TIM_HP.CAL_DONE port.val = 0) ∧ (32 ≤ port.val →
          t.get TIM_LP.CAL_DONE (port.val - 32) = 0))) ∧
  (∀ (s : State) (port : Fin 48) (tx rx : Word), s.calm = true →
    (s.on RGN_HPORT.LINK port.val = true →
      ∃ t, exec (.calibrationComplete port tx rx) s = .next t ∧
        (port.val < 32 → t.get TIM_HP.TX_LAT port.val = tx.toNat ∧ t.get TIM_HP.RX_LAT port.val = rx.toNat ∧
          t.get TIM_HP.CAL_DONE port.val = 1) ∧
        (32 ≤ port.val → t.get TIM_LP.TX_LAT (port.val - 32) = tx.toNat ∧ t.get TIM_LP.RX_LAT (port.val - 32) = rx.toNat ∧
          t.get TIM_LP.CAL_DONE (port.val - 32) = 1)) ∧
    (s.on RGN_HPORT.LINK port.val = false → ∃ t, exec (.calibrationComplete port tx rx) s = .next t ∧ s.keepsBut t [])) ∧
  (∀ (s : State) (port : Fin 48) (cw corr unc sym : Nat),
    (s.on RGN_HPORT.EN port.val = true →
      ∃ t, exec (.fecDegInterval port cw corr unc sym) s = .next t ∧
        t.get RGN_HPCNT.FEC_CW port.val = (s.get RGN_HPCNT.FEC_CW port.val + cw) % 2 ^ 64 ∧
        t.get RGN_HPCNT.FEC_CORR port.val = (s.get RGN_HPCNT.FEC_CORR port.val + corr) % 2 ^ 64 ∧
        t.get RGN_HPCNT.FEC_UNCORR port.val = (s.get RGN_HPCNT.FEC_UNCORR port.val + unc) % 2 ^ 64 ∧
        t.get RGN_HPCNT.FEC_SYM port.val = (s.get RGN_HPCNT.FEC_SYM port.val + sym) % 2 ^ 64 ∧
        t.on RGN_HPORT.EV_FEC_DEG port.val = (s.on RGN_HPORT.EV_FEC_DEG port.val ||
          decide (s.get RGN_HPORT.FEC_DEG_THR port.val ≠ 0 ∧ s.get RGN_HPORT.FEC_DEG_THR port.val ≤ sym)) ∧
        (t.on RGN_HPORT.EV_FEC_DEG port.val ≠ s.on RGN_HPORT.EV_FEC_DEG port.val →
          t.ic.icu.contains (0x100 + port.val) = true)) ∧
    (s.on RGN_HPORT.EN port.val = false → ∃ t, exec (.fecDegInterval port cw corr unc sym) s = .next t ∧ s.keepsBut t []))

/-- R329 to R331: a module that appears is in RESET, one that leaves is ABSENT and its port has no LINK. From RESET it
goes to IDENTIFY when it is ready; its identity is taken, and the allow check moves it to DENIED, or with its port
enabled to INIT, or to READY where its data path is already active under the port's APPSEL; its answer for the data
path makes it READY, or FAULT where the width differs. READY_MS without the awaited answer and a third failed retry
make it FAULT; MOD_REINIT takes it back to RESET. A new state with a re-check that moves nothing keeps the registers.
R332 to R334: a write of word 8 of an allow-list entry puts PORTS and VALID in force, and the hash held or standing. A
poll of a READY module shows what it read, and a latched flag sets EV_MODFLAG. A request of module memory runs, or is
refused for an absent module or a write to an enabled port's; while BUSY it is ignored. It ends DONE, with the octets
read in the data words, or NACK. -/
def Obligations.ModuleStatesAndAccess : Prop :=
  (∀ (s : State) (k : Fin 16) (st i : Nat), s.calm = true → st = s.modState k.val → i = 32 + k.val →
    (∀ present : Bool, s.mode ≠ 0 → s.on RGN_LPORT.MOD_PRESENT i ≠ present → st ≠ (if present then mRESET else mABSENT) →
      ∃ t, exec (.modPresenceChange k present) s = .next t ∧ t.on RGN_LPORT.MOD_PRESENT i = present ∧
        t.modState k.val = (if present then mRESET else mABSENT) ∧ t.get RGN_LPORT.EV_MOD i = 1 ∧
        t.get RGN_HPORT.LINK i = 0 ∧
        (present = false → t.on RGN_LMOD.VALID k.val = false ∧ t.on RGN_LMON.BASE_VALID k.val = false)) ∧
    (∀ ready : Bool,
      (st = mRESET → ready = true → s.modReleased = true →
        ∃ t, exec (.moduleReadyPoll k ready) s = .next t ∧ t.modState k.val = mIDENTIFY) ∧
      (¬(st = mRESET ∧ ready = true ∧ s.modReleased = true) →
        ∃ t, exec (.moduleReadyPoll k ready) s = .next t ∧ s.keepsBut t [])) ∧
    (∀ (vendor part serial id : List Octet) (h : Nat) (ok : Bool), st = mIDENTIFY →
      id = padTo 16 vendor ++ padTo 16 part ++ padTo 16 serial → h = leNat ((sha384 id).take 32) →
      ok = ((s.get RGN_LPORT.ALLOW_EN i == 0 && s.get CAR_TX.EN k.val == 0) ||
        (upto 64).any (fun e => s.on OFC_MOD_ALLOW.VALID e && bit (s.get OFC_MOD_ALLOW.PORTS e) k.val &&
          s.get OFC_MOD_ALLOW.HASH e == h)) →
      ∃ t, exec (.moduleIdentify k vendor part serial) s = .next t ∧ t.get RGN_LMOD.VALID k.val = 1 ∧
        t.get RGN_LMOD.VENDOR k.val = leNat (slice id 0 16) ∧ t.get RGN_LMOD.PART k.val = leNat (slice id 16 16) ∧
        t.get RGN_LMOD.SERIAL k.val = leNat (slice id 32 16) ∧ t.get RGN_LMOD.HASH k.val = h ∧
        t.modState k.val = (if ok = false then mDENIED else if s.on RGN_HPORT.EN i then s.modEnter k.val else mIDENTIFY) ∧
        (ok = false → t.get RGN_LPORT.EV_DENIED i = 1 ∧ t.ic.icu.contains (0x130 + k.val) = true)) ∧
    (∀ out : Bool, out = (st == mREADY || (st == mIDENTIFY && s.on RGN_LMOD.VALID k.val)) →
      (s.modAllowed k.val = false → out = true →
        ∃ t, exec (.allowRecheck k) s = .next t ∧ t.modState k.val = mDENIED ∧ t.get RGN_LPORT.EV_DENIED i = 1 ∧
          t.get RGN_HPORT.LINK i = 0 ∧ t.ic.icu.contains (0x130 + k.val) = true) ∧
      (s.modAllowed k.val = true → s.on RGN_HPORT.EN i = true → (st = mDENIED ∨ (st = mIDENTIFY ∧ out = true)) →
        ∃ t, exec (.allowRecheck k) s = .next t ∧ t.modState k.val = s.modEnter k.val) ∧
      (s.modAllowed k.val = false → out = false → ∃ t, exec (.allowRecheck k) s = .next t ∧ s.keepsBut t []) ∧
      (s.modAllowed k.val = true → (s.on RGN_HPORT.EN i = false ∨ (st ≠ mDENIED ∧ (st ≠ mIDENTIFY ∨ out = false))) →
        ∃ t, exec (.allowRecheck k) s = .next t ∧ s.keepsBut t [])) ∧
    (∀ width : Nat,
      (st = mINIT →
        ∃ t, exec (.datapathActivated k width) s = .next t ∧
          t.modState k.val = if width = (s.portLanes i).length then mREADY else mFAULT) ∧
      (st ≠ mINIT → ∃ t, exec (.datapathActivated k width) s = .next t ∧ s.keepsBut t [])) ∧
    (((st = mRESET ∧ s.modReleased = true) ∨ st = mINIT) →
      Tab.get 0 s.ln.modSince k.val + s.get RGN_LPORT.READY_MS i * ms ≤ s.mono →
      ∃ t, exec (.moduleReadyTimeout k) s = .next t ∧ t.modState k.val = mFAULT) ∧
    (¬(((st = mRESET ∧ s.modReleased = true) ∨ st = mINIT) ∧
        Tab.get 0 s.ln.modSince k.val + s.get RGN_LPORT.READY_MS i * ms ≤ s.mono) →
      ∃ t, exec (.moduleReadyTimeout k) s = .next t ∧ s.keepsBut t []) ∧
    (∀ acked : Bool,
      (st ≠ mABSENT → st ≠ mFAULT →
        ∃ t, exec (.i2cRetry k acked) s = .next t ∧
          t.modState k.val = (if acked = false ∧ 2 ≤ Tab.get 0 s.ln.modI2c k.val then mFAULT else st) ∧
          Tab.get 0 t.ln.modI2c k.val =
            (if acked = false ∧ Tab.get 0 s.ln.modI2c k.val < 2 then Tab.get 0 s.ln.modI2c k.val + 1 else 0)) ∧
      (st = mABSENT ∨ st = mFAULT → ∃ t, exec (.i2cRetry k acked) s = .next t ∧ s.keepsBut t [])) ∧
    (∀ p : Port, s.mayWrite p.val false (reg_RGN_LPORT.offset k.val 0) →
      ∃ t, exec (.modReinit p k) s = .next t ∧ t.modState k.val = (if st = mABSENT then mABSENT else mRESET) ∧
        t.get RGN_HPORT.EN i = s.get RGN_HPORT.EN i)) ∧
  ((∀ (s : State) (p : Port) (i : Fin 64) (v : Word), s.mayWrite p.val true (reg_OFC_MOD_ALLOW.offset i.val 8) →
    ∃ t, exec (.allowListCommit p i v) s = .next t ∧ t.get OFC_MOD_ALLOW.PORTS i.val = v.toNat % 2 ^ 16 ∧
      t.get OFC_MOD_ALLOW.VALID i.val = v.toNat / 2 ^ 16 % 2 ∧
      ((s.granted p.val true).heldOf (.port p.val) .OFC_MOD_ALLOW = none →
        t.get OFC_MOD_ALLOW.HASH i.val = s.get OFC_MOD_ALLOW.HASH i.val)) ∧
  (∀ (s : State) (k : Fin 16) (temp vcc : BitVec 16) (flags : List Octet) (bias : List (BitVec 16)),
    (s.modState k.val = mREADY →
      ∃ t, exec (.moduleMonitorPoll k temp vcc flags bias) s = .next t ∧ t.get RGN_LMON.TEMP k.val = temp.toNat ∧
        t.get RGN_LMON.VCC k.val = vcc.toNat ∧ t.get RGN_LMON.BIAS k.val = packWords (biasWords bias) ∧
        t.get RGN_LMON.FLAGS k.val = leNat (padTo 6 flags) ∧
        (flags.any (· != 0) = true → t.get RGN_LPORT.EV_MODFLAG (32 + k.val) = 1)) ∧
    (s.modState k.val ≠ mREADY → ∃ t, exec (.moduleMonitorPoll k temp vcc flags bias) s = .next t ∧ s.keepsBut t [])) ∧
  (∀ (s : State) (p : Port) (r : Region) (v : Word) (slot : Nat) (bad : Bool),
    s.admits p.val 0 false true (reg_RGN_MODACC.offset r.val 0) = true → slot = 4 * r.val + v.toNat % 4 →
    bad = (s.modState slot == mABSENT || (bit v.toNat 2 && s.on RGN_HPORT.EN (32 + slot))) →
    (s.get RGN_MODACC_STATUS.V r.val ≠ 1 →
      ∃ t, exec (.modaccRequest p r v) s = .next t ∧ t.get RGN_MODACC_STATUS.V r.val = (if bad then 4 else 1) ∧
        Tab.get 0 t.ln.modJob r.val = (if bad then Tab.get 0 s.ln.modJob r.val else v.toNat + 1)) ∧
    (s.get RGN_MODACC_STATUS.V r.val = 1 → ∃ t, exec (.modaccRequest p r v) s = .next t ∧ s.keepsBut t [] ∧ t.ln = s.ln)) ∧
  (∀ (s : State) (r : Region) (ack : Bool) (data : List Octet) (j n : Nat), j = Tab.get 0 s.ln.modJob r.val →
    n = (j - 1) / 8 % 8 + 1 →
    (j ≠ 0 →
      ∃ t, exec (.modaccComplete r ack data) s = .next t ∧ Tab.get 0 t.ln.modJob r.val = 0 ∧
        t.get RGN_MODACC_STATUS.V r.val = (if ack then 2 else 3) ∧
        t.wordsOf RGN_MODACC_DATA.V (2 * r.val) 2 =
          if ack && !bit (j - 1) 2 then padTo n data ++ (s.wordsOf RGN_MODACC_DATA.V (2 * r.val) 2).drop n
          else s.wordsOf RGN_MODACC_DATA.V (2 * r.val) 2) ∧
    (j = 0 → ∃ t, exec (.modaccComplete r ack data) s = .next t ∧ s.keepsBut t [])))

/-- R11, R336, R337, R342, R343, R350: an uncorrectable word is counted, raises source 0x00C, starts a BIST of its row and
has its owner's outcome: a repair, a fence, an erased key or slot, a disarmed Gauge entry with no schedule left on it,
LOCKDOWN. Corrected words are counted. A row is kept where its BIST passes, unless it is its fifth transient in 10 s;
a lasting fault takes a spare row, and without one the structure pays. A crossbar transfer is repeated twice at most;
a third error is LOCKDOWN. R27, R337, R338, R341: a channel in service that triggers retrains; it returns to service
if its identity is unchanged and this is not its fifth retraining in 10 s, and is fenced otherwise, with MEM_CHANNEL
and its source. A failed MCLK fences every channel in service. R345, R346, R360: a fenced region restarts by itself
after its hold, unless AUTO_RESTART is 0 or it is AUTO_BLOCKED, or by command, which another region refuses; its host
ports' counters are cleared. A restart that ends with a spare for every row and 7 pairs a direction makes the region
ACTIVE, or REDUCED with fewer than 8, counts it and raises source 0x004 + n; else it stays fenced, with LAST_CAUSE 6
and AUTO_BLOCKED. -/
def Obligations.MemoryFaultsAndRegions : Prop :=
  (∀ (s : State) (run : Bool), s.calm = true → s.mode ≠ 0 →
    run = (s.mode != mBOOT && s.mode != mLOCKDOWN && s.md.trans.isNone) →
    (∀ (o : SramOwner) (mac row : Nat),
      ∃ t, exec (.sramUncorrectable o mac row) s = .next t ∧
        t.get FLT_CNT.SRAM_UNCORR 0 = (s.get FLT_CNT.SRAM_UNCORR 0 + 1) % 2 ^ 64 ∧ t.ic.icu.contains 0x00C = true ∧
        t.fl.rowTests = s.fl.rowTests ++ [(o, mac, row)] ∧
        t.get FLT_CNT.DUP_CORR 0 = (s.get FLT_CNT.DUP_CORR 0 + (if o = .duplicated then 1 else 0)) % 2 ^ 64 ∧
        (∀ r : Region, (o = .queueState r ∨ o = .cellPayload r ∨ o = .reorderEntry r) → t.rgn r.val = 3) ∧
        (∀ k : Fin 16384, (o = .saEntry k ∨ o = .saKey k) → Tab.get [] t.ke.saKey k.val = []) ∧
        (∀ k : Fin 256, o = .slot k → t.get KST_SLOT.STATE k.val = 0) ∧
        (∀ i : Fin 1024, o = .gaugeEntry i → t.get GAU_ENT.ENABLE i.val = 0 ∧
          (upto 256).all (fun j => s.get GAU_SCH.DERIVE_ENTRY j != i.val || !t.on GAU_SCH.VALID j) = true) ∧
        ((o = .shadowBoth ∨ o = .chip) → run = true → t.md.trans = some ⟨mLOCKDOWN, mLOCKDOWN, 9, [6]⟩)) ∧
    (∀ n : Nat, ∃ t, exec (.sramScrub n) s = .next t ∧
      t.get FLT_CNT.SRAM_CORR 0 = (s.get FLT_CNT.SRAM_CORR 0 + n) % 2 ^ 64) ∧
    (∀ (o : SramOwner) (res : RowResult) (mac row : Nat) (kept spare : Bool),
      s.fl.rowTests.find? (fun x => x.1 == o) = some (o, mac, row) →
      kept = (res == .kept && decide ((s.fl.rowTrans.filter (fun x => x.1 == mac && x.2.1 == row &&
        decide (s.mono < x.2.2 + 10 * sec))).length < 4)) →
      spare = (!kept && (res == .spared || (res == .kept && decide (Tab.get 0 s.fl.rowUsed mac < 2)))) →
      ∃ t, exec (.rowBistComplete o res) s = .next t ∧ t.fl.rowTests = s.fl.rowTests.erase (o, mac, row) ∧
        t.get FLT_CNT.ROW_SPARED 0 = (s.get FLT_CNT.ROW_SPARED 0 + b2n spare) % 2 ^ 64 ∧
        t.get FLT_CNT.ROW_NOSPARE 0 = (s.get FLT_CNT.ROW_NOSPARE 0 + b2n (!kept && !spare)) % 2 ^ 64 ∧
        ((!kept && !spare) = true → t.ic.icu.contains 0x00D = true ∧
          (∀ r : Region, (o = .queueState r ∨ o = .reorderEntry r) → t.rgn r.val = 3) ∧
          ((∀ r : Region, o ≠ .queueState r ∧ o ≠ .reorderEntry r ∧ o ≠ .cellPayload r) → run = true →
            t.md.trans = some ⟨mLOCKDOWN, mLOCKDOWN, 9, [6]⟩)) ∧
        (∀ (r : Region) (n : Nat), o = .cellPayload r → res = .noSpareCells n →
          Tab.get 0 t.fl.cellsLost r.val = min 65536 (Tab.get 0 s.fl.cellsLost r.val + n))) ∧
    (∀ (o : SramOwner) (res : RowResult), s.fl.rowTests.find? (fun x => x.1 == o) = none →
      ∃ t, exec (.rowBistComplete o res) s = .next t ∧ s.keepsBut t []) ∧
    (∀ n : Nat,
      ∃ t, exec (.crossbarBeatError n) s = .next t ∧
        t.get FLT_CNT.XBAR_REPEAT 0 = (s.get FLT_CNT.XBAR_REPEAT 0 + min n 2) % 2 ^ 64 ∧
        (2 < n → run = true → t.md.trans = some ⟨mLOCKDOWN, mLOCKDOWN, 9, [6]⟩))) ∧
  ((∀ (s : State) (c : Fin 32), s.calm = true →
    (s.get MEM_CH.STATE c.val = 2 →
      ∃ t, exec (.channelTrigger c) s = .next t ∧ t.get MEM_CH.STATE c.val = 3 ∧
        t.get MEM_CH.RETRAINS c.val = min (s.get MEM_CH.RETRAINS c.val + 1) (2 ^ 32 - 1)) ∧
    (s.get MEM_CH.STATE c.val ≠ 2 → ∃ t, exec (.channelTrigger c) s = .next t ∧ s.keepsBut t [])) ∧
  (∀ (s : State) (c : Fin 32) (id : ChanId) (ok : Bool), s.calm = true →
    ok = (id.ok && s.get MEM_CH.MR5 c.val == id.mr5.toNat && s.get MEM_CH.MR6 c.val == id.mr6.toNat &&
      s.get MEM_CH.MR8 c.val == id.mr8.toNat && decide ((recent s (10 * sec) (Tab.get [] s.fl.chanTrans c.val)).length < 4)) →
    (s.get MEM_CH.STATE c.val = 3 →
      ∃ t, exec (.channelRetrainComplete c id) s = .next t ∧ t.get MEM_CH.STATE c.val = (if ok then 2 else 4) ∧
        t.get MEM_CH.MR5 c.val = id.mr5.toNat ∧
        (ok = false → t.get GLB_DEGRADED_CAUSE.MEM_CHANNEL 0 = 1 ∧ t.ic.icu.contains (0x3A0 + c.val) = true)) ∧
    (s.get MEM_CH.STATE c.val ≠ 3 → ∃ t, exec (.channelRetrainComplete c id) s = .next t ∧ s.keepsBut t [])) ∧
  (∀ s : State, s.calm = true →
    ∃ t, exec .mclkFail s = .next t ∧
      ∀ c < 32, ((s.get MEM_CH.STATE c = 2 ∨ s.get MEM_CH.STATE c = 3) → t.get MEM_CH.STATE c = 4 ∧
          t.get GLB_DEGRADED_CAUSE.MEM_CHANNEL 0 = 1 ∧ t.ic.icu.contains (0x3A0 + c) = true) ∧
        ((s.get MEM_CH.STATE c ≠ 2 ∧ s.get MEM_CH.STATE c ≠ 3) → t.get MEM_CH.STATE c = s.get MEM_CH.STATE c))) ∧
  ((∀ (s : State) (r : Region) (auto : Bool),
    auto = (s.on FLT_CFG.AUTO_RESTART 0 && !s.on FLT_RGN_INFO.AUTO_BLOCKED r.val && decide (Tab.get 0 s.fl.restart r.val ≤ s.mono)) →
    ((s.fenced r.val && !s.restarting r.val) = true →
      (auto = true →
        ∃ t, exec (.regionAutoRestart r) s = .next t ∧ t.get FLT_RGN_INFO.RESTARTING r.val = 1 ∧
          ((hostPorts r.val).all (fun h => (reg_RGN_HPCNT.fields ++ reg_RGN_HPCLS.fields).all (fun x => t.get x.2 h == 0))) = true) ∧
      (auto = false → ∃ t, exec (.regionAutoRestart r) s = .next t ∧ s.keepsBut t []) ∧
      (∀ p : Port, s.admits p.val 0 false true reg_FLT_RGN_CMD.base = true →
        ∃ t, exec (.regionRestartCmd p r) s = .next t ∧ t.get FLT_RGN_INFO.RESTARTING r.val = 1 ∧
          ((hostPorts r.val).all (fun h => (reg_RGN_HPCNT.fields ++ reg_RGN_HPCLS.fields).all (fun x => t.get x.2 h == 0))) = true)) ∧
    ((s.fenced r.val && !s.restarting r.val) = false →
      (∃ t, exec (.regionAutoRestart r) s = .next t ∧ s.keepsBut t []) ∧
      (∀ p : Port, s.admits p.val 0 false true reg_FLT_RGN_CMD.base = true →
        ∃ t, exec (.regionRestartCmd p r) s = .next t ∧ s.keepsBut t rejectRegs ∧
          t.get GLB_CFG_REJECT_LAST.CAUSE p.val = 3))) ∧
  (∀ (s : State) (r : Region) (rows : Nat) (rowsOk : Bool) (pe pi : List Bool) (ok : Bool), s.calm = true →
    ok = (rowsOk && decide (7 ≤ passing pe) && decide (7 ≤ passing pi)) →
    (s.restarting r.val = true → ok = true →
      ∃ t, exec (.regionRestartComplete r rows rowsOk pe pi) s = .next t ∧
        t.rgn r.val = (if 8 ≤ passing pe ∧ 8 ≤ passing pi then 1 else 2) ∧ t.get FLT_RGN_INFO.RESTARTING r.val = 0 ∧
        t.get FLT_RGN_INFO.AUTO_BLOCKED r.val = 0 ∧
        t.get FLT_RGN_INFO.RESTARTS r.val = (s.get FLT_RGN_INFO.RESTARTS r.val + 1) % 65536 ∧
        t.get FLT_CNT.ROW_SPARED 0 = (s.get FLT_CNT.ROW_SPARED 0 + rows) % 2 ^ 64 ∧ t.ic.icu.contains (4 + r.val) = true) ∧
    (s.restarting r.val = true → ok = false →
      ∃ t, exec (.regionRestartComplete r rows rowsOk pe pi) s = .next t ∧ t.rgn r.val = s.rgn r.val ∧
        t.get FLT_RGN_INFO.RESTARTING r.val = 0 ∧ t.get FLT_RGN_INFO.LAST_CAUSE r.val = 6 ∧
        t.get FLT_RGN_INFO.AUTO_BLOCKED r.val = 1 ∧
        (s.on FLT_RGN_INFO.AUTO_BLOCKED r.val = false → t.ic.icu.contains (8 + r.val) = true)) ∧
    (s.restarting r.val = false → ∃ t, exec (.regionRestartComplete r rows rowsOk pe pi) s = .next t ∧ s.keepsBut t [])))

/-- R352, R355, R357, R358, R361: a good feed that diverges by more than 25 mV or whose PG falls becomes not good; a group
whose active feed it was switches to its other feed if that one is good, with the cause, the count and source 0x400 +
g, and a group with no good feed left reports cause 5. A feed that recovers is good. A command switches the group
named, or all of them, where their other feed is good; a group where it is not is refused. -/
def Obligations.FeedSwitches : Prop :=
  (∀ (s : State) (g : Fin 7) (f : Feed) (mv : Nat), s.mode ≠ 0 →
    ((25 < mv ∧ s.feedGood g.val f = true) →
      ∃ t, exec (.feedDivergence g f mv) s = .next t ∧ t.feedGood g.val f = false ∧
        t.get FLT_BRACE_STATUS.LAST_DIFF_MV g.val = min mv 255 ∧
        (s.feedGood g.val (otherFeed f) = true → s.activeFeed g.val = f → t.activeFeed g.val = otherFeed f ∧
          t.get FLT_BRACE_STATUS.LAST_CAUSE g.val = 1 ∧
          t.get FLT_BRACE_SW.V g.val = (s.get FLT_BRACE_SW.V g.val + 1) % 2 ^ 64 ∧
            t.ic.icu.contains (0x400 + g.val) = true) ∧
        (s.feedGood g.val (otherFeed f) = true → s.activeFeed g.val ≠ f → t.activeFeed g.val = s.activeFeed g.val ∧
          t.get FLT_BRACE_STATUS.LAST_CAUSE g.val = 4) ∧
        (s.feedGood g.val (otherFeed f) = false → t.activeFeed g.val = s.activeFeed g.val ∧
          t.get FLT_BRACE_STATUS.LAST_CAUSE g.val = 5 ∧ t.ic.icu.contains (0x418 + g.val) = true)) ∧
    (¬(25 < mv ∧ s.feedGood g.val f = true) → ∃ t, exec (.feedDivergence g f mv) s = .next t ∧ s.keepsBut t [])) ∧
  (∀ (s : State) (f : Feed), s.mode ≠ 0 →
    ∃ t, exec (.pgFall f) s = .next t ∧
      ∀ g < 7, t.feedGood g f = false ∧
        t.activeFeed g = (if s.activeFeed g = f ∧ s.feedGood g f = true ∧ s.feedGood g (otherFeed f) = true then otherFeed f
          else s.activeFeed g) ∧
        (s.activeFeed g = f → s.feedGood g f = true → s.feedGood g (otherFeed f) = true →
          t.get FLT_BRACE_STATUS.LAST_CAUSE g = 2 ∧ t.ic.icu.contains (0x400 + g) = true) ∧
        (s.feedGood g f = true → s.feedGood g (otherFeed f) = false → t.get FLT_BRACE_STATUS.LAST_CAUSE g = 5)) ∧
  (∀ (s : State) (g : Fin 7) (f : Feed), s.mode ≠ 0 →
    ∃ t, exec (.feedRecovered g f) s = .next t ∧ t.feedGood g.val f = true ∧ t.activeFeed g.val = s.activeFeed g.val) ∧
  (∀ (s : State) (p : Port) (g : Fin 8) (all : List Nat), s.admits p.val 0 false true reg_FLT_BRACE_CMD.base = true →
    all = (if g.val = 7 then upto 7 else [g.val]) →
    ∃ t, exec (.braceSwitchCmd p g) s = .next t ∧
      t.get FLT_BRACE_CMD_STATUS.V 0 = (if all.all (fun k => s.feedGood k (otherFeed (s.activeFeed k))) then 1 else 2) ∧
      (all.all (fun k => s.feedGood k (otherFeed (s.activeFeed k))) = false → t.get GLB_CFG_REJECT_LAST.CAUSE p.val = 3) ∧
      ∀ k < 7, t.activeFeed k = (if all.contains k ∧ s.feedGood k (otherFeed (s.activeFeed k)) = true
          then otherFeed (s.activeFeed k) else s.activeFeed k) ∧
        (all.contains k = true → s.feedGood k (otherFeed (s.activeFeed k)) = true →
          t.get FLT_BRACE_STATUS.LAST_CAUSE k = 3))

/-- R364 to R368, R372, R375, R380, R415: a trip of an armed supply is a new event of its class, unless it falls in the
window of an earlier one, which then holds both, or follows a Brace report by less than 100 ns. A disagreement is
decided when its window closes: a class 8 event. KCLK, CCLK, temperature and a routed EVIN15 are events; all but
EVIN15 wait for their recovery before the next. A counted event adds one to its class and to the count of its window;
from K1 on it crosses, and an erase follows in MODE ERASE, or in ESCALATE from K2 on. R44, R368, R371, R373, R375,
R382, R416: a class's window closes T after it opened. The coalescing window, once over, closes with its entry: with
no disagreement to decide and no erase in it, it raises source 0x429. An erase that completes shows ERASED. LOCK 1 is
taken with what is written beside it, and while LOCK is 1 only by a write that narrows. VBAT below 2.3 V empties the
key RAM once, until it rearms. The thermal threshold is a degradation cause. -/
def Obligations.ClampEventsAndWindows : Prop :=
  ((∀ (s : State) (x : Supply) (d : Detector) (comp : Bool) (wd i : Nat),
    ((d = .comparator ∧ comp = true ∧ wd = 0) ∨ (d = .delayLine wd ∧ comp = false)) → i = supplyIdx x →
    (s.tripArmed x = true → (comp = true ∨ wd ≠ 0) →
      (∀ e : TripEvent, Tab.get none s.cl.trips i = some e → s.mono < e.at_ + s.agreeSpan →
        ∃ t, exec (.clampSupplyTrip x d) s = .next t ∧ s.keepsBut t [] ∧
          Tab.get none t.cl.trips i = some ⟨e.at_, e.comparator || comp, max e.width wd⟩) ∧
      (((Tab.get none s.cl.trips i).all (fun e => decide (e.at_ + s.agreeSpan ≤ s.mono)) = true) →
        (Tab.get 0 s.cl.braceAt i = 0 ∨ Tab.get 0 s.cl.braceAt i + 100 * ns ≤ s.mono) →
        ∃ t, exec (.clampSupplyTrip x d) s = .next t ∧ Tab.get none t.cl.trips i = some ⟨s.mono, comp, wd⟩ ∧
          t.get CLM_CLASS_CNT.V (supplyClass x) = (s.get CLM_CLASS_CNT.V (supplyClass x) + 1) % 2 ^ 64) ∧
      (Tab.get none s.cl.trips i = none → Tab.get 0 s.cl.braceAt i ≠ 0 → s.mono < Tab.get 0 s.cl.braceAt i + 100 * ns →
        ∃ t, exec (.clampSupplyTrip x d) s = .next t ∧ s.keepsBut t [] ∧
          Tab.get none t.cl.trips i = some ⟨s.mono, comp, wd⟩)) ∧
    ((s.tripArmed x = false ∨ (comp = false ∧ wd = 0)) →
      ∃ t, exec (.clampSupplyTrip x d) s = .next t ∧ s.keepsBut t [] ∧ t.cl.trips = s.cl.trips)) ∧
  (∀ (s : State) (x : Supply) (e : TripEvent) (bad : Bool), Tab.get none s.cl.trips (supplyIdx x) = some e →
    bad = ((e.comparator && e.width == 0) || (!e.comparator && decide (8 ≤ e.width))) →
    (e.at_ + s.agreeSpan ≤ s.mono → s.cl.coalesce.all (fun w => decide (e.at_ + s.agreeSpan ≤ w.ends)) = true →
      ∃ t, exec (.disagreeWindowClose x) s = .next t ∧ Tab.get none t.cl.trips (supplyIdx x) = none ∧
        t.get CLM_CLASS_CNT.V 8 = (s.get CLM_CLASS_CNT.V 8 + b2n bad) % 2 ^ 64) ∧
    (e.at_ + s.agreeSpan ≤ s.mono →
      ∃ t, exec (.disagreeWindowClose x) s = .next t ∧ Tab.get none t.cl.trips (supplyIdx x) = none) ∧
    (s.mono < e.at_ + s.agreeSpan → ∃ t, exec (.disagreeWindowClose x) s = .next t ∧ s.keepsBut t [] ∧
      t.cl.trips = s.cl.trips)) ∧
  (∀ (s : State) (i : Instr) (c n : Nat),
    (i, c) ∈ [(Instr.kclkOutOfBand, 3), (.cclkRatioOutOfBand, 4), (.tempLimit, 5), (.evin15ClampAssert, 6)] →
    ((c = 3 ∨ c = 4) → s.mode ≠ 0) → n = min (s.clmCount c + 1) 255 →
    ((if c = 6 then s.on OFC_CLM_CTL.EVIN15_ROUTE 0 else !Tab.get false s.cl.armedOff c) = true →
      ∃ t, exec i s = .next t ∧ t.get CLM_CLASS_CNT.V c = (s.get CLM_CLASS_CNT.V c + 1) % 2 ^ 64 ∧
        (Tab.get none t.cl.clmWin c).map (·.count) = some n ∧
        (s.get OFC_CLM_CLASS.K1 c ≤ n → t.cl.coalesce.any (fun x => bit x.classes c) = true) ∧
        (s.get OFC_CLM_CLASS.K1 c ≤ n → (s.get OFC_CLM_CLASS.MODE c = 1 ∨
            (s.get OFC_CLM_CLASS.MODE c = 2 ∧ s.get OFC_CLM_CLASS.K2 c ≤ n)) → t.cl.eraseDue = true ∧ t.ke.kram = []) ∧
        (c = 3 → t.get CLM_STATUS.REFOSC 0 = 1) ∧ (c ≠ 6 → Tab.get false t.cl.armedOff c = true)) ∧
    ((if c = 6 then s.on OFC_CLM_CTL.EVIN15_ROUTE 0 else !Tab.get false s.cl.armedOff c) = false →
      ∃ t, exec i s = .next t ∧ s.keepsBut t [reg_CLM_STATUS] ∧ t.cl.clmWin = s.cl.clmWin ∧ (c = 3 →
        t.get CLM_STATUS.REFOSC 0 = 1))) ∧
  (∀ s : State,
    (∃ t, exec .tempRearm s = .next t ∧ Tab.get false t.cl.armedOff 5 = false) ∧
    (∃ t, exec (.clockEventRearm false) s = .next t ∧ Tab.get false t.cl.armedOff 3 = false ∧
      t.get CLM_STATUS.REFOSC 0 = 0) ∧
    (∃ t, exec (.clockEventRearm true) s = .next t ∧ Tab.get false t.cl.armedOff 4 = false) ∧
    (∃ t, exec .vbatPreeraseRearm s = .next t ∧ Tab.get false t.cl.armedOff 9 = false))) ∧
  ((∀ (s : State) (c : Fin 9), (Tab.get none s.cl.clmWin c.val).all (fun w => decide (w.ends ≤ s.mono)) = true →
    ∃ t, exec (.classWindowClose c) s = .next t ∧ Tab.get none t.cl.clmWin c.val = none) ∧
  (∀ (s : State) (c : Fin 9), (Tab.get none s.cl.clmWin c.val).any (fun w => decide (s.mono < w.ends)) = true →
    ∃ t, exec (.classWindowClose c) s = .next t ∧ s.keepsBut t [] ∧ t.cl.clmWin = s.cl.clmWin) ∧
  (∀ s : State,
    (s.cl.coalesce.all (fun x => decide (x.ends ≤ s.mono)) = true →
      ∃ t, exec .coalesceWindowClose s = .next t ∧ t.cl.coalesce = none ∧
        (s.cl.coalesce.any (fun x => !x.erase) = true → (upto 15).all (fun i => (Tab.get none s.cl.trips i).isNone) = true →
          s.cl.logOff = false → s.portsUp = true → t.ic.icu.contains 0x429 = true)) ∧
    (s.cl.coalesce.any (fun x => decide (s.mono < x.ends)) = true →
      ∃ t, exec .coalesceWindowClose s = .next t ∧ s.keepsBut t [] ∧ t.cl.coalesce = s.cl.coalesce)) ∧
  (∀ s : State,
    (s.cl.eraseDue = true →
      ∃ t, exec .clampEraseComplete s = .next t ∧ t.cl.eraseDue = false ∧ t.get CLM_STATUS.ERASED 0 = 1) ∧
    (s.cl.eraseDue = false → ∃ t, exec .clampEraseComplete s = .next t ∧ s.keepsBut t [])) ∧
  (∀ (s : State) (p : Port) (v : Word) (n : State) (ok : Bool), s.admits p.val 0 true true reg_OFC_CLM_CTL.base = true →
    n = ((s.granted p.val true).writeWord reg_OFC_CLM_CTL 0 0 (putBits v.toNat 2 1 1)).1 →
    ok = (!s.on OFC_CLM_CTL.LOCK 0 ||
      (decide (s.get OFC_CLM_CTL.EVIN15_ROUTE 0 ≤ n.get OFC_CLM_CTL.EVIN15_ROUTE 0) &&
        n.get OFC_CLM_CTL.EVIN15_LOW 0 == s.get OFC_CLM_CTL.EVIN15_LOW 0 &&
        decide (signed 8 (s.get OFC_CLM_CTL.TEMP_LO 0) ≤ signed 8 (n.get OFC_CLM_CTL.TEMP_LO 0)) &&
        decide (n.get OFC_CLM_CTL.TEMP_HI 0 ≤ s.get OFC_CLM_CTL.TEMP_HI 0))) →
    (ok = true →
      ∃ t, exec (.clampLock p v) s = .next t ∧ t.get OFC_CLM_CTL.LOCK 0 = 1 ∧
        ∀ f ∈ [OFC_CLM_CTL.EVIN15_ROUTE, OFC_CLM_CTL.EVIN15_LOW, OFC_CLM_CTL.TEMP_LO, OFC_CLM_CTL.TEMP_HI],
          t.get f 0 = n.get f 0) ∧
    (ok = false →
      ∃ t, exec (.clampLock p v) s = .next t ∧ s.keepsBut t rejectRegs ∧ t.get GLB_CFG_REJECT_LAST.CAUSE p.val = 3)) ∧
  (∀ (s : State) (mv : Nat),
    ((mv < 2300 ∧ Tab.get false s.cl.armedOff 9 = false) →
      ∃ t, exec (.vbatLow mv) s = .next t ∧ t.ke.kram = [] ∧ t.get CLM_STATUS.PREERASED 0 = 1 ∧
        (∀ k < 256, t.get KST_SLOT.PERSISTED k = 0) ∧ Tab.get false t.cl.armedOff 9 = true) ∧
    (¬(mv < 2300 ∧ Tab.get false s.cl.armedOff 9 = false) → ∃ t, exec (.vbatLow mv) s = .next t ∧ s.keepsBut t [])) ∧
  (∀ (s : State) (above : Bool), s.mode ≠ 0 →
    ∃ t, exec (.thermalThreshold above) s = .next t ∧ t.get GLB_DEGRADED_CAUSE.THERMAL 0 = b2n above ∧
      (s.on GLB_DEGRADED_CAUSE.THERMAL 0 ≠ above → t.ic.icu.contains (if above then 0x450 else 0x451) = true)))

/-- R386, R388, R399, R408, R410, R450, R463: a link that trains takes the port's configuration, from step 2 of start-up
on; one that reaches L2/L3 Ready puts the port to sleep; one that goes down otherwise is a port loss, as the command
PORT_LOSS is: the session and the open MAC end, waiting commands are dropped, the rings stop, the port's semaphores
are freed with LOST, its vectors are masked. A wake reset masks the vectors and turns bus mastering off. R408 to R411,
R413, R414: the idle and the sleep hint of a port show, and the sleep hint puts it to sleep. A port that is READY and
was asleep or lost is lost no more, and with no sleep hint it wakes, each vector with a waiting source in delivery. An
accepted change of an event input shows its level and the instant FILT cycles before, and raises the input's source
where EDGE selects it. -/
def Obligations.PortLinksHintsAndEventInputs : Prop :=
  (∀ (s : State) (p : Port), s.calm = true →
    (∀ (st : LinkState) (n : Nat) (bm me fm : Bool), ((st = .l0 ∧ n = 1) ∨ (st = .l1 ∧ n = 2)) →
      ((s.linksTrain && (n == 1 || s.get ICU_PORT.LINK p.val != 0)) = true →
        ∃ t, exec (.pcieLinkStateChange p st bm me fm) s = .next t ∧ t.get ICU_PORT.LINK p.val = n ∧
          Tab.get false t.ic.busMaster p.val = bm ∧ Tab.get false t.ic.msixEnable p.val = me ∧
          Tab.get false t.ic.funcMask p.val = fm) ∧
      ((s.linksTrain && (n == 1 || s.get ICU_PORT.LINK p.val != 0)) = false →
        ∃ t, exec (.pcieLinkStateChange p st bm me fm) s = .next t ∧ s.keepsBut t [])) ∧
    (∀ bm me fm : Bool,
      (s.linkUp p.val = true →
        ∃ t, exec (.pcieLinkStateChange p .l2l3 bm me fm) s = .next t ∧ t.get ICU_PORT.LINK p.val = 3 ∧
          t.asleep p.val = true ∧
          (s.asleep p.val = false → t.ic.deliveries.all (fun d => d.port != p.val) = true)) ∧
      (s.linkUp p.val = false →
        (∃ t, exec (.pcieLinkStateChange p .l2l3 bm me fm) s = .next t ∧ s.keepsBut t []) ∧
        (∃ t, exec (.pcieLinkStateChange p .down bm me fm) s = .next t ∧ s.keepsBut t [])) ∧
      (∀ c : Instr, (c = .portLoss p ∨ (c = .pcieLinkStateChange p .down bm me fm ∧ s.linkUp p.val = true)) →
        ∃ t, exec c s = .next t ∧ t.get ICU_PORT.LINK p.val = 0 ∧ t.get OFC_SESSION.STATE p.val = 0 ∧
          (s.session p.val = true → t.get OFC_SESSION.LAST p.val = 9) ∧ t.isLost p.val = true ∧
          (t.macOf p.val).isNone = true ∧ t.ke.kstQueue.all (fun r => r.port != p.val) = true ∧
          t.ch.chsQueue.all (fun r => r.port != p.val) = true ∧
          (upto 128).all (fun k => s.get HQ_PUNT.PORT k != p.val || !s.on HQ_PUNT.EN k || t.get HQ_PUNT.STOPPED k == 1) = true ∧
          (upto 32).all (fun n => !s.on GLB_SEM.OWNED n || s.get GLB_SEM.OWNER n != p.val ||
            (!t.on GLB_SEM.OWNED n && bit (t.get GLB_SEM_LOST.V p.val) n)) = true ∧
          (upto 64).all (fun v => t.get MSIX_ENT.MASK (64 * p.val + v) == 1) = true)) ∧
    (s.get ICU_PORT.LINK p.val = 3 →
      ∃ t, exec (.wakeReset p) s = .next t ∧ t.get ICU_PORT.LINK p.val = 0 ∧ Tab.get false t.ic.busMaster p.val = false ∧
        (upto 64).all (fun v => t.get MSIX_ENT.MASK (64 * p.val + v) == 1) = true) ∧
    (s.get ICU_PORT.LINK p.val ≠ 3 → ∃ t, exec (.wakeReset p) s = .next t ∧ s.keepsBut t [])) ∧
  ((∀ (s : State) (p : Port), s.admits p.val 0 false true (reg_ICU_PORT.offset p.val 0) = true →
    (∃ t, exec (.portIdleHint p) s = .next t ∧ t.get ICU_PORT.IDLE p.val = 1 ∧
      t.get ICU_PORT.FAILOVER_ROUTE p.val = s.get ICU_PORT.FAILOVER_ROUTE p.val) ∧
    (∃ t, exec (.portSleepHint p) s = .next t ∧ t.get ICU_PORT.SLEEP p.val = 1 ∧ t.get ICU_PORT.SLEEPING p.val = 1 ∧
      t.get ICU_PORT.FAILOVER_ROUTE p.val = s.get ICU_PORT.FAILOVER_ROUTE p.val)) ∧
  (∀ (s : State) (p : Port),
    ((s.ready p.val = true ∧ (s.asleep p.val = true ∨ s.isLost p.val = true)) →
      ∃ t, exec (.portWake p) s = .next t ∧ t.isLost p.val = false ∧
        (s.on ICU_PORT.SLEEP p.val = true → t.get ICU_PORT.SLEEPING p.val = s.get ICU_PORT.SLEEPING p.val) ∧
        (s.on ICU_PORT.SLEEP p.val = false → t.get ICU_PORT.SLEEPING p.val = 0 ∧
          (upto 64).all (fun v => t.accum p.val v == 0 || (t.delivery p.val v).isSome) = true)) ∧
    (¬(s.ready p.val = true ∧ (s.asleep p.val = true ∨ s.isLost p.val = true)) →
      ∃ t, exec (.portWake p) s = .next t ∧ s.keepsBut t [])) ∧
  (∀ (s : State) (i : Fin 16) (level a : Bool), a = (level != s.on ICU_EVIN.ACTIVE_LOW i.val) →
    ((s.mode ≠ 0 ∧ a ≠ s.on ICU_EVIN.LEVEL i.val) →
      ∃ t, exec (.evinChange i level) s = .next t ∧ t.get ICU_EVIN.LEVEL i.val = b2n a ∧
        t.get ICU_EVIN.STAMP i.val = time96 (s.now - s.get ICU_EVIN.FILT i.val * 10 * ns) % 2 ^ 96 ∧
        (bit (s.get ICU_EVIN.EDGE i.val) (if a then 0 else 1) = true → t.ic.icu.contains (0x440 + i.val) = true)) ∧
    (¬(s.mode ≠ 0 ∧ a ≠ s.on ICU_EVIN.LEVEL i.val) → ∃ t, exec (.evinChange i level) s = .next t ∧ s.keepsBut t [])))

/-- R401, R402, R406: with no source held for the ports, each 1 written to ICU_PENDw clears its source, unless it has
occurred in the same KCLK cycle, and no other. A write of ICU_SRCi takes its vectors, its route, its mask and its wake
bit, and leaves what is pending. R36, R403, R405, R407: a vector with a waiting source, not HELD, whose timer has run
TIMER_US starts a delivery of what waits, unless one is open. The message of a delivery that waits for no read, on a
port that can send, makes a read of R36 due for a source that has joined since and lies behind it; else it is held in
the PBA where the table or the Function Mask blocks it; else it leaves with the table's address and data and is
counted. Unmasking clears the vector's Mask bit, and a message held is held no more. -/
def Obligations.InterruptsAndMessages : Prop :=
  ((∀ (s : State) (p : Port) (w : Fin 36) (v : Word), s.admits p.val 0 false true (reg_ICU_PEND.offset w.val 0) = true →
    s.cl.heldSrcs = [] →
    ∃ t, exec (.icuPendClear p w v) s = .next t ∧
      ∀ i, t.ic.icu.contains i = (s.ic.icu.contains i &&
        !(i / 32 == w.val && bit v.toNat (i % 32) && !s.occurred.contains i))) ∧
  (∀ (s : State) (p : Port) (i : Fin 1152) (v : Word), s.admits p.val 0 false true (reg_ICU_SRC.offset i.val 0) = true →
    s.cl.heldSrcs = [] →
    ∃ t, exec (.icuSrcWrite p i v) s = .next t ∧ t.get ICU_SRC.VEC_MP0 i.val = v.toNat % 64 ∧
      t.get ICU_SRC.VEC_MP1 i.val = v.toNat / 2 ^ 8 % 64 ∧ t.get ICU_SRC.ROUTE i.val = v.toNat / 2 ^ 16 % 4 ∧
      t.get ICU_SRC.MASK i.val = v.toNat / 2 ^ 18 % 2 ∧ t.get ICU_SRC.WAKE i.val = v.toNat / 2 ^ 19 % 2 ∧
        t.ic.icu = s.ic.icu)) ∧
  ((∀ (s : State) (p : Port) (vec : Fin 64) (run : Bool), s.cl.heldSrcs = [] →
    run = (Tab.get 0 s.ic.vecTimer (64 * p.val + vec.val) != 0 && !s.vecHeld p.val && s.accum p.val vec.val != 0 &&
      decide (Tab.get 0 s.ic.vecTimer (64 * p.val + vec.val) - 1 +
        s.get ICU_VEC.TIMER_US (64 * p.val + vec.val) * us ≤ s.mono)) →
    (run = true → s.delivery p.val vec.val = none →
      ∃ t, exec (.vectorTimerExpire p vec) s = .next t ∧
        (t.delivery p.val vec.val).map (·.srcs) = some (s.waiting p.val vec.val)) ∧
    ((run = false ∨ s.delivery p.val vec.val ≠ none) →
      ∃ t, exec (.vectorTimerExpire p vec) s = .next t ∧ s.keepsBut t [] ∧ t.ic.deliveries = s.ic.deliveries)) ∧
  (∀ (s : State) (p : Port) (vec : Fin 64),
    (∀ d : Delivery, s.delivery p.val vec.val = some d → d.zlr = none → s.msixOpen p.val = true →
      (∀ q : Nat, ((s.waiting p.val vec.val).filter (fun i => !d.srcs.contains i)).findSome? (s.ringPort p.val) = some q →
        ∃ t, exec (.msixMessageSend p vec) s = .next t ∧ s.keepsBut t [] ∧
          (t.delivery p.val vec.val).map (·.zlr) = some (some q)) ∧
      (((s.waiting p.val vec.val).filter (fun i => !d.srcs.contains i)).findSome? (s.ringPort p.val) = none →
        (s.msixBlocked p.val vec.val = true →
          ∃ t, exec (.msixMessageSend p vec) s = .next t ∧ bit (t.get MSIX_PBA.V p.val) vec.val = true) ∧
        (s.msixBlocked p.val vec.val = false →
          ∃ t, exec (.msixMessageSend p vec) s = .next t ∧
            t.get ICU_PORT.MSGS p.val = (s.get ICU_PORT.MSGS p.val + 1) % 2 ^ 64 ∧
            Emit.msix p.val vec.val (s.get MSIX_ENT.ADDR (64 * p.val + vec.val))
              (s.get MSIX_ENT.DATA (64 * p.val + vec.val)) ∈ t.out))) ∧
    (((s.delivery p.val vec.val).all (fun d => d.zlr.isSome) = true ∨ s.msixOpen p.val = false) →
      ∃ t, exec (.msixMessageSend p vec) s = .next t ∧ s.keepsBut t [])) ∧
  (∀ (s : State) (p : Port) (vec : Fin 64), s.admits p.val 0 false true (reg_MSIX_ENT.offset vec.val 3) = true →
    ∃ t, exec (.msixUnmask p vec) s = .next t ∧ t.get MSIX_ENT.MASK (64 * p.val + vec.val) = 0 ∧
      ((s.granted p.val false).msixOpen p.val = true → Tab.get false s.ic.funcMask p.val = false →
        bit (t.get MSIX_PBA.V p.val) vec.val = false)))

/-- R393 to R396: a challenge is drawn from the DRBG; an open session refuses it, and a backoff or a DRBG that gives
nothing only sets LAST. It expires after a second. A response with a challenge outstanding, slot 2 LIVE and Chisel in
service uses it up and waits for the check; the others are decided EXPIRED, NO_KEY or ENGINE; with a session open it
is refused, and during a check ignored. The CMAC that matches opens the session, another counts a failure, and a slot
2 gone meanwhile is NO_KEY. OFC_LOCK closes an open session, and so do 600 s without an access. R397, R398: a read of
a semaphore by one port, with no write of it held, takes it if it is free, and shows the owner; of two reads of a free
one in one cycle the port that did not win the last tie takes it, MP0 the first. Its owner frees it; any other release
is refused. -/
def Obligations.SessionsAndSemaphores : Prop :=
  ((∀ (s : State) (p : Port), s.admits p.val 0 true true reg_OFC_CHAL_GO.base = true →
    (s.session p.val = true →
      ∃ t, exec (.challengeRequest p) s = .next t ∧ s.keepsBut t rejectRegs ∧ t.get GLB_CFG_REJECT_LAST.CAUSE p.val = 3) ∧
    (s.session p.val = false → (s.backoff p.val = true ∨ s.draw 32 = none) →
      ∃ t, exec (.challengeRequest p) s = .next t ∧ s.keepsBut t [reg_OFC_SESSION] ∧ t.ofc.chal = s.ofc.chal ∧
        t.get OFC_SESSION.LAST p.val = if s.backoff p.val then 5 else 6) ∧
    (∀ o : List Octet, s.session p.val = false → s.backoff p.val = false → (s.draw 32).map (·.1) = some o →
      ∃ t, exec (.challengeRequest p) s = .next t ∧ t.get OFC_SESSION.STATE p.val = 1 ∧
        Tab.get none t.ofc.chal p.val = some ⟨o, s.mono⟩)) ∧
  (∀ (s : State) (p : Port),
    ((Tab.get none s.ofc.chal p.val).any (fun c => decide (c.drawn + sec ≤ s.mono)) = true →
      ∃ t, exec (.challengeExpire p) s = .next t ∧ Tab.get none t.ofc.chal p.val = none ∧
        t.get OFC_SESSION.STATE p.val = (if s.get OFC_SESSION.STATE p.val = 1 then 0 else s.get OFC_SESSION.STATE p.val) ∧
        t.get OFC_SESSION.LAST p.val = s.get OFC_SESSION.LAST p.val) ∧
    ((Tab.get none s.ofc.chal p.val).any (fun c => decide (c.drawn + sec ≤ s.mono)) = false →
      ∃ t, exec (.challengeExpire p) s = .next t ∧ s.keepsBut t [] ∧ t.ofc.chal = s.ofc.chal)) ∧
  (∀ (s : State) (p : Port) (v : Word) (why : Nat), s.admits p.val 0 true true (reg_OFC_RESP.offset 3 0) = true →
    why = (if s.chalOver p.val = true then 4 else if s.get KST_SLOT.STATE 2 ≠ 1 then 3
      else if s.get CHS_ENGINE.STATE 0 ≠ 0 then 6 else 0) →
    (s.session p.val = true →
      ∃ t, exec (.responseSubmit p v) s = .next t ∧ s.keepsBut t rejectRegs ∧ t.get GLB_CFG_REJECT_LAST.CAUSE p.val = 3) ∧
    (s.session p.val = false → s.checking p.val = true →
      ∃ t, exec (.responseSubmit p v) s = .next t ∧ s.keepsBut t [] ∧ t.ch.checks = s.ch.checks) ∧
    (s.session p.val = false → s.checking p.val = false → why ≠ 0 →
      ∃ t, exec (.responseSubmit p v) s = .next t ∧ t.get OFC_SESSION.LAST p.val = why ∧ t.get OFC_SESSION.STATE p.val = 0 ∧
        Tab.get none t.ofc.chal p.val = none ∧ t.ch.checks = s.ch.checks) ∧
    (∀ c : Chal, s.session p.val = false → s.checking p.val = false → why = 0 → Tab.get none s.ofc.chal p.val = some c →
      ∃ t, exec (.responseSubmit p v) s = .next t ∧ Tab.get none t.ofc.chal p.val = none ∧
        t.ch.checks = s.ch.checks ++ [⟨p.val, (s.set OFC_RESP.V (4 * p.val + 3) v.toNat).wordsOf OFC_RESP.V (4 * p.val) 4,
          chalMsg p.val c.data, false⟩])) ∧
  (∀ (s : State) (p : Port),
    (∀ (c : ChkReq) (key : List Octet) (gen : Nat), s.ch.chsJob = some (.check c key gen) → c.port = p.val →
      (s.keyGone 2 gen = false → cmac key c.msg = c.resp →
        ∃ t, exec (.responseCheckComplete p) s = .next t ∧ t.session p.val = true ∧ t.get OFC_SESSION.LAST p.val = 1 ∧
          t.get OFC_SESSION.FAILS p.val = 0) ∧
      (s.keyGone 2 gen = false → cmac key c.msg ≠ c.resp →
        ∃ t, exec (.responseCheckComplete p) s = .next t ∧ t.session p.val = false ∧ t.get OFC_SESSION.LAST p.val = 2 ∧
          t.get OFC_SESSION.FAILS p.val = min (s.get OFC_SESSION.FAILS p.val + 1) 255) ∧
      (s.keyGone 2 gen = true →
        ∃ t, exec (.responseCheckComplete p) s = .next t ∧ t.session p.val = false ∧ t.get OFC_SESSION.LAST p.val = 3)) ∧
    (s.checkPort ≠ some p.val → ∃ t, exec (.responseCheckComplete p) s = .next t ∧ s.keepsBut t [])) ∧
  (∀ (s : State) (p : Port),
    (s.admits p.val 0 true true reg_OFC_LOCK.base = true →
      (s.session p.val = true →
        ∃ t, exec (.sessionLock p) s = .next t ∧ t.session p.val = false ∧ t.get OFC_SESSION.LAST p.val = 7) ∧
      (s.session p.val = false → ∃ t, exec (.sessionLock p) s = .next t ∧ s.keepsBut t [])) ∧
    ((s.session p.val = true ∧ Tab.get 0 s.ofc.sessAt p.val + 600 * sec ≤ s.mono) →
      ∃ t, exec (.sessionIdleTimeout p) s = .next t ∧ t.session p.val = false ∧ t.get OFC_SESSION.LAST p.val = 8) ∧
    (¬(s.session p.val = true ∧ Tab.get 0 s.ofc.sessAt p.val + 600 * sec ≤ s.mono) →
      ∃ t, exec (.sessionIdleTimeout p) s = .next t ∧ s.keepsBut t []))) ∧
  (∀ (s : State) (n : Fin 32),
    (∀ (p : Port) (o : Nat), s.admits p.val 0 false false (reg_GLB_SEM.offset n.val 0) = true →
      (s.granted p.val false).heldWord (.port p.val) ⟨reg_GLB_SEM, n.val, 0⟩ = none →
      o = (if s.on GLB_SEM.OWNED n.val then s.get GLB_SEM.OWNER n.val else p.val) →
      ∃ t, exec (.semaphoreRead (.one p) n) s = .next t ∧ t.on GLB_SEM.OWNED n.val = true ∧ t.get GLB_SEM.OWNER n.val = o ∧
        Emit.readData p.val 0 false (reg_GLB_SEM.offset n.val 0) (b2n (o == p.val) + 2 + 4 * o) ∈ t.out) ∧
    (∀ (off o : Nat), off = reg_GLB_SEM.offset n.val 0 → s.admits 0 0 false false off = true →
      (s.granted 0 false).admits 1 0 false false off = true →
      o = (if s.on GLB_SEM.OWNED n.val then s.get GLB_SEM.OWNER n.val else if s.ofc.semLast = 1 then 1 else 0) →
      ∃ t, exec (.semaphoreRead .both n) s = .next t ∧ t.on GLB_SEM.OWNED n.val = true ∧ t.get GLB_SEM.OWNER n.val = o ∧
        t.ofc.semLast = (if s.on GLB_SEM.OWNED n.val then s.ofc.semLast else o + 1) ∧
        Emit.readData 0 0 false off (b2n (o == 0) + 2 + 4 * o) ∈ t.out ∧
        Emit.readData 1 0 false off (b2n (o == 1) + 2 + 4 * o) ∈ t.out) ∧
    (∀ p : Port, s.admits p.val 0 false true (reg_GLB_SEM.offset n.val 0) = true →
      ((s.on GLB_SEM.OWNED n.val = true ∧ s.get GLB_SEM.OWNER n.val = p.val) →
        ∃ t, exec (.semaphoreRelease p n) s = .next t ∧ t.get GLB_SEM.OWNED n.val = 0) ∧
      (¬(s.on GLB_SEM.OWNED n.val = true ∧ s.get GLB_SEM.OWNER n.val = p.val) →
        ∃ t, exec (.semaphoreRelease p n) s = .next t ∧ s.keepsBut t rejectRegs ∧
          t.get GLB_CFG_REJECT_LAST.CAUSE p.val = 3)))

/-- R432 to R435: GO of the staging fetches the image by DMA while CODE is 1 and nothing is staged, and is refused
otherwise. What is fetched is checked; an unreadable one is rejected as DMA_ERROR. An accepted image runs and start-up
goes on from step 7; another is rejected with its reason. A pass-through command starts, or waits for a certificate
read; where the mode forbids the window or LEN exceeds 256 it is refused; beside the other port's it reads BUSY_OTHER,
and beside the port's own it is ignored. It ends DONE with the octets read in the data window. R9, R439, R440, R443:
GO begins a sweep, and during one is only counted, with source 0x461. A sweep with no counter left to capture leaves
its bank complete with source 0x460. EN of the sampler that rises starts new windows; N is taken, for a reserved 0 its
reset value. -/
def Obligations.StagingFlashAndSweeps : Prop :=
  ((∀ (s : State) (p : Port) (ok : Bool), s.admits p.val 0 false true reg_JIG_STG_CTL.base = true →
    ok = (s.get JIG_STG_STATUS.STATE 0 != 1 && s.get JIG_STG_STATUS.STATE 0 != 2 && s.get GLB_BOOT_STATUS.CODE 0 == 1 &&
      s.get JIG_STG_LEN.V 0 != 0 && decide (s.get JIG_STG_LEN.V 0 ≤ copyMax)) →
    (ok = true →
      ∃ t, exec (.stagingGo p) s = .next t ∧ t.get JIG_STG_STATUS.STATE 0 = 1 ∧ t.get JIG_STG_STATUS.PORT 0 = p.val ∧
        Emit.dmaRead p.val ((s.get JIG_STG_ADDR_LO.V 0 + s.get JIG_STG_ADDR_HI.V 0 * 2 ^ 32) / 64 * 64)
          (s.get JIG_STG_LEN.V 0) ∈ t.out) ∧
    (ok = false →
      ∃ t, exec (.stagingGo p) s = .next t ∧ s.keepsBut t rejectRegs ∧ t.get GLB_CFG_REJECT_LAST.CAUSE p.val = 3)) ∧
  (∀ (s : State) (data : FlashRead),
    (∀ o i : List Octet, s.get JIG_STG_STATUS.STATE 0 = 1 → data = .octets o → i = padTo (s.get JIG_STG_LEN.V 0) o →
      ∃ t, exec (.stagingFetchComplete data) s = .next t ∧ t.get JIG_STG_STATUS.STATE 0 = 2 ∧ t.jg.stgBuf = i ∧
        (match s.candidate (.octets i) 2 with
          | .inl c => t.jg.stgJob = some c
          | .inr _ => if s.pkeRetired then t.jg.stgJob = some 2 else t.ch.pkeJob.isSome ∨ t.ch.pkeQueue ≠ [])) ∧
    (s.get JIG_STG_STATUS.STATE 0 = 1 → data = .error →
      ∃ t, exec (.stagingFetchComplete data) s = .next t ∧ t.get JIG_STG_STATUS.STATE 0 = 4 ∧
        t.get JIG_STG_STATUS.REASON 0 = 7) ∧
    (s.get JIG_STG_STATUS.STATE 0 ≠ 1 → ∃ t, exec (.stagingFetchComplete data) s = .next t ∧ s.keepsBut t [])) ∧
  (∀ s : State,
    (∀ i : Image, s.get JIG_STG_STATUS.STATE 0 = 2 → s.jg.stgJob = some 1 → imageOf s.jg.stgBuf 2 = some i →
      ∃ t, exec .stagingCheckComplete s = .next t ∧ t.get JIG_STG_STATUS.STATE 0 = 3 ∧ t.jg.image = some i ∧
        t.get GLB_BOOT_STATUS.CODE 0 = 0 ∧ t.get GLB_BOOT_STATUS.STAGE 0 = 6 ∧ t.get GLB_BOOT_STATUS.STAGED 0 = 1 ∧
        t.get GLB_BOOT_STATUS.SELECTED 0 = 1) ∧
    (∀ c : Nat, s.get JIG_STG_STATUS.STATE 0 = 2 → s.jg.stgJob = some c → (c ≠ 1 ∨ imageOf s.jg.stgBuf 2 = none) →
      ∃ t, exec .stagingCheckComplete s = .next t ∧ t.get JIG_STG_STATUS.STATE 0 = 4 ∧
        t.get JIG_STG_STATUS.REASON 0 = (if c = 1 then 5 else c % 16) ∧ t.jg.stgBuf = []) ∧
    ((s.get JIG_STG_STATUS.STATE 0 ≠ 2 ∨ s.jg.stgJob = none) →
      ∃ t, exec .stagingCheckComplete s = .next t ∧ s.keepsBut t [])) ∧
  (∀ (s : State) (p : Port) (v : Word) (len : Nat), s.admits p.val 0 false true reg_JIG_FL_CMD.base = true →
    len = v.toNat / 2 ^ 8 % 512 →
    ((s.flashMode = false ∨ 256 < len) →
      ∃ t, exec (.flashCommand p v) s = .next t ∧ s.keepsBut t rejectRegs ∧
        t.get GLB_CFG_REJECT_LAST.CAUSE p.val = if s.flashMode then 1 else 3) ∧
    (s.flashMode = true → len ≤ 256 →
      (Tab.get 0 s.jg.flashJob p.val ≠ 0 →
        ∃ t, exec (.flashCommand p v) s = .next t ∧ s.keepsBut t [] ∧ t.jg.flashJob = s.jg.flashJob) ∧
      (Tab.get 0 s.jg.flashJob p.val = 0 → Tab.get 0 s.jg.flashJob (1 - p.val) ≠ 0 →
        ∃ t, exec (.flashCommand p v) s = .next t ∧ s.keepsBut t [reg_JIG_FL_STATUS] ∧ t.get JIG_FL_STATUS.V p.val = 3 ∧
          t.jg.flashJob = s.jg.flashJob) ∧
      (Tab.get 0 s.jg.flashJob p.val = 0 → Tab.get 0 s.jg.flashJob (1 - p.val) = 0 →
        ∃ t, exec (.flashCommand p v) s = .next t ∧ t.get JIG_FL_STATUS.V p.val = 1 ∧
          Tab.get 0 t.jg.flashJob p.val = v.toNat + 1 ∧ t.jg.flashWait = s.certReads))) ∧
  (∀ (s : State) (p : Port) (data : List Octet) (j : Nat), j = Tab.get 0 s.jg.flashJob p.val →
    ((s.jg.flashWait = false ∧ j ≠ 0) →
      ∃ t, exec (.flashCommandComplete p data) s = .next t ∧ t.get JIG_FL_STATUS.V p.val = 2 ∧
        Tab.get 0 t.jg.flashJob p.val = 0 ∧
        t.wordsOf JIG_FL_DATA.V (64 * p.val) 64 = if bit (j - 1) 17 then s.wordsOf JIG_FL_DATA.V (64 * p.val) 64
          else padTo ((j - 1) / 2 ^ 8 % 512) data ++ (s.wordsOf JIG_FL_DATA.V (64 * p.val) 64).drop ((j - 1) / 2 ^ 8 % 512)) ∧
    (¬(s.jg.flashWait = false ∧ j ≠ 0) →
      ∃ t, exec (.flashCommandComplete p data) s = .next t ∧ s.keepsBut t []))) ∧
  ((∀ (s : State) (p : Port), s.admits p.val 0 false true reg_CNT_CTL.base = true →
    (s.cn.sweep = none →
      ∃ t, exec (.snapshotGo p) s = .next t ∧ t.get CNT_STATUS.BUSY 0 = 1 ∧ t.cn.sweep.isSome = true ∧
        t.cn.sweeps = s.cn.sweeps + 1) ∧
    (s.cn.sweep ≠ none →
      ∃ t, exec (.snapshotGo p) s = .next t ∧ s.keepsBut t [reg_CNT_STATUS, reg_ICU_SRC] ∧ t.cn.sweep = s.cn.sweep ∧
        t.get CNT_STATUS.SKIPPED 0 = min (s.get CNT_STATUS.SKIPPED 0 + 1) 255 ∧ t.ic.icu.contains 0x461 = true)) ∧
  (∀ s : State,
    (∀ w : Sweep, s.cn.sweep = some w → w.todo = [] →
      ∃ t, exec .sweepComplete s = .next t ∧ t.cn.sweep = none ∧ t.get CNT_STATUS.BUSY 0 = 0 ∧
        t.get CNT_STATUS.LAST_BANK 0 = w.bank % 2 ∧ t.get CNT_STATUS.SWEEPS 0 = (s.get CNT_STATUS.SWEEPS 0 + 1) % 2 ^ 16 ∧
        (Tab.get Bank.none t.cn.banks w.bank).complete = true ∧
        (Tab.get Bank.none t.cn.banks w.bank).count = w.head.count ∧ t.ic.icu.contains 0x460 = true) ∧
    (s.cn.sweep.all (fun w => w.todo != []) = true →
      ∃ t, exec .sweepComplete s = .next t ∧ s.keepsBut t [] ∧ t.cn.sweep = s.cn.sweep)) ∧
  (∀ (s : State) (p : Port) (v : Word), s.admits p.val 0 false true reg_CNT_SMP_CTL.base = true →
    ∃ t, exec (.samplerEnable p v) s = .next t ∧ t.get CNT_SMP_CTL.EN 0 = 1 ∧
      t.get CNT_SMP_CTL.N 0 = (if v.toNat / 2 ^ 8 = 0 then 10000 else v.toNat / 2 ^ 8) ∧
      t.cn.smpPos = (if s.on CNT_SMP_CTL.EN 0 then s.cn.smpPos else []) ∧
      t.cn.smpWin = (if s.on CNT_SMP_CTL.EN 0 then s.cn.smpWin else [])))

/-- The frame of the writes and events of network time (R120 to R130), of the Gauge's entries and windows (R140, R145,
R153) and of a timestamp queue's read: beside TIM_INCR, TIM_STATUS, the entry or the queue named with each, no
register moves but those of a refused write; time, keys, frames, the deep buffer and the fuses stay. -/
def Obligations.TimeCommandsFrame : Prop :=
  ∀ (s t : State) (p : Port) (v : Word) (n : Nat) (ok : Bool) (pin : Fin 4) (lp : Fin 16) (ent : Fin 1024) (c : Instr)
      (rs : List Reg),
    s.calm = true → (c, true, rs) ∈
      [(Instr.timIncrLo p v, s.admits p.val 0 false true (reg_TIM_INCR.offset 0 0), [reg_TIM_STATUS] ++ rejectRegs),
        (.timIncrHi p v, s.admits p.val 0 false true (reg_TIM_INCR.offset 0 1), [reg_TIM_INCR,
          reg_TIM_STATUS] ++ rejectRegs),
        (.timSlew p v, s.admits p.val 0 false true reg_TIM_SLEW.base, [reg_TIM_STATUS] ++ rejectRegs),
        (.timKeep p v, s.admits p.val 0 false true reg_TIM_KEEP.base, [reg_TIM_STATUS] ++ rejectRegs),
        (.trefMeasure n, true, [reg_TIM_INCR, reg_TIM_STATUS]), (.ppsOkFall, true, [reg_TIM_STATUS]),
        (.trefOkChange ok, true, [reg_TIM_STATUS]), (.holdoverEnter, true, [reg_TIM_STATUS]),
        (.rtcAlign, true, [reg_TIM_RTC_STATUS]), (.pulseWidthEnd pin, true, []), (.launchWindowEnd lp, true, []),
        (.gauRingHeadRead p, s.admits p.val 0 false false reg_GAU_RING_HEAD.base, []),
        (.gaugeArm p ent v, s.admits p.val 0 false true (reg_GAU_ENT.offset ent.val 0), [reg_GAU_ENT] ++ rejectRegs),
        (.gaugeDisarm p ent v, s.admits p.val 0 false true (reg_GAU_ENT.offset ent.val 0), [reg_GAU_ENT] ++ rejectRegs),
        (.timTxqRead p 0 lp, s.admits p.val 0 false false (reg_TIM_TXQ.offset lp.val 0), [reg_TIM_TXQ_STAT])] →
    exec c s = .next t → s.keepsBut t rs

/-- The frame of the management side: interrupt registers, hints, event inputs, semaphores, allow-list and classifier
commits, the Officer's scheduled times and sessions, flash, staging, sweeps and the sampler. Each moves the registers
named with it only. -/
def Obligations.ManagementCommandsFrame : Prop :=
  ∀ (s t : State) (p : Port) (v : Word) (b : Bool) (w36 : Fin 36) (src : Fin 1152) (vec i64 : Fin 64) (evin : Fin 16)
      (n32 : Fin 32) (data : List Octet) (i4096 : Fin 4096) (i256 : Fin 256) (i8192 : Fin 8192) (c : Instr)
      (rs : List Reg),
    s.calm = true → (c, true, rs) ∈
      [(Instr.icuPendClear p w36 v, s.admits p.val 0 false true (reg_ICU_PEND.offset w36.val 0), []),
        (.icuSrcWrite p src v, s.admits p.val 0 false true (reg_ICU_SRC.offset src.val 0), [reg_ICU_SRC]),
        (.msixUnmask p vec, s.admits p.val 0 false true (reg_MSIX_ENT.offset vec.val 3), [reg_MSIX_ENT]),
        (.portIdleHint p, s.admits p.val 0 false true (reg_ICU_PORT.offset p.val 0), []),
        (.portSleepHint p, s.admits p.val 0 false true (reg_ICU_PORT.offset p.val 0), [reg_MSIX_PBA]),
        (.portWake p, true, [reg_MSIX_PBA]), (.evinChange evin b, true, [reg_ICU_EVIN]),
        (.semaphoreRead (.one p) n32, s.admits p.val 0 false false (reg_GLB_SEM.offset n32.val 0), [reg_GLB_SEM]),
        (.semaphoreRelease p n32, s.admits p.val 0 false true (reg_GLB_SEM.offset n32.val 0), [reg_GLB_SEM] ++ rejectRegs),
        (.allowListCommit p i64 v, s.admits p.val 0 true true (reg_OFC_MOD_ALLOW.offset i64.val 8),
          [reg_OFC_MOD_ALLOW] ++ rejectRegs),
        (.ofcTxResumeLo p v, s.admits p.val 0 true true reg_OFC_TX_RESUME_LO.base, []),
        (.ofcTxResumeHi p v, s.admits p.val 0 true true reg_OFC_TX_RESUME_HI.base, [reg_GLB_TX_RESUME]),
        (.ofcResetWarmAtArm p, s.admits p.val 0 true true reg_OFC_RESET.base, [reg_OFC_RESET] ++ rejectRegs),
        (.ofcResetWarmAtDisarm p, s.admits p.val 0 true true reg_OFC_RESET.base, [reg_OFC_RESET]),
        (.challengeRequest p, s.admits p.val 0 true true reg_OFC_CHAL_GO.base, [reg_OFC_CHAL,
          reg_OFC_SESSION] ++ rejectRegs),
        (.challengeExpire p, true, [reg_OFC_CHAL, reg_OFC_SESSION]),
        (.sessionLock p, s.admits p.val 0 true true reg_OFC_LOCK.base, [reg_OFC_CHAL, reg_OFC_SESSION]),
        (.sessionIdleTimeout p, true, [reg_OFC_CHAL, reg_OFC_SESSION]),
        (.flashCommand p v, s.admits p.val 0 false true reg_JIG_FL_CMD.base, [reg_JIG_FL_STATUS] ++ rejectRegs),
        (.flashCommandComplete p data, true, [reg_JIG_FL_STATUS, reg_JIG_FL_DATA]),
        (.stagingGo p, s.admits p.val 0 false true reg_JIG_STG_CTL.base, [reg_JIG_STG_STATUS] ++ rejectRegs),
        (.snapshotGo p, s.admits p.val 0 false true reg_CNT_CTL.base, [reg_CNT_STATUS] ++ rejectRegs),
        (.sweepComplete, true, [reg_CNT_STATUS]),
        (.samplerEnable p v, s.admits p.val 0 false true reg_CNT_SMP_CTL.base, [reg_CNT_SMP_CTL] ++ rejectRegs),
        (.samplerRecordRead p 0 i4096, s.admits p.val 0 false false (reg_SNP_SMP.offset i4096.val 0), []),
        (.eventLogRead p 0 i256, s.admits p.val 0 false false (reg_CLM_LOG.offset i256.val 0), []),
        (.clsRuleCommit p .eg i8192 v, s.admits p.val 0 false true (reg_CLS_EGR.offset i8192.val 0),
          [reg_CLS_EGR] ++ rejectRegs),
        (.clsRuleCommit p .ig i8192 v, s.admits p.val 0 false true (reg_CLS_IGR.offset i8192.val 0),
          [reg_CLS_IGR] ++ rejectRegs)] →
    exec c s = .next t → s.keepsBut t rs

/-- The frame of SC and SA commands, of queued key-store and Chisel commands, of the PKE's KAT, the random number
generator and a report's end: each moves the registers named with it only, and no key. A receive activation moves, of
the frames' state, only the armed retirement time of the channel's slot that was current. -/
def Obligations.KeyingCommandsFrame : Prop :=
  (∀ (s t : State) (p : Port) (v : Word) (n : Nat) (ok k256 replace : Bool) (sc : Fin 4096) (g j slot : Fin 256)
      (sa : Fin 8192) (sa16 : Fin 16384) (w : World) (hf : HealthFail) (dma : FlashRead) (c : Instr) (rs : List Reg),
    s.calm = true → (c, true, rs) ∈
      [
        (Instr.scValidSet p sc v, s.admits p.val 0 false true (reg_SCT_TX.offset sc.val 0), [reg_SCT_TX,
          reg_SAT_TX] ++ rejectRegs),
        (.rxScValidSet p sc v, s.admits p.val 0 false true (reg_SCT_RX.offset sc.val 0), [reg_SCT_RX,
          reg_SAT_RX] ++ rejectRegs),
        (.txsaSwitch p sc, s.admits p.val 0 false true reg_PLN_TXSA_CMD.base, [reg_SCT_TX, reg_SAT_TX] ++ rejectRegs),
        (.rxsaRetire p sc, s.admits p.val 0 false true reg_PLN_RXSA_CMD.base, [reg_SCT_RX, reg_SAT_RX] ++ rejectRegs),
        (.txsaGroupSwitch p g, s.admits p.val 0 false true reg_PLN_TXSA_CMD.base, [reg_SCT_TX, reg_SAT_TX] ++ rejectRegs),
        (.retireAtReached sa, true, [reg_SCT_RX, reg_SAT_RX]),
        (.resync p j, s.admits p.val 0 false true reg_GAU_SCHED_CMD.base, [reg_GAU_SCH] ++ rejectRegs),
        (.kstGenerate p slot k256 replace, s.admits p.val 0 true true reg_KST_CMD.base, [reg_KST_STATUS] ++ rejectRegs),
        (.kstInvalidate p slot, s.admits p.val 0 true true reg_KST_CMD.base, [reg_KST_STATUS] ++ rejectRegs),
        (.kstErase p slot, s.admits p.val 0 true true reg_KST_CMD.base, [reg_KST_STATUS] ++ rejectRegs),
        (.kstEraseSa p sa16, s.admits p.val 0 true true reg_KST_CMD.base, [reg_KST_STATUS] ++ rejectRegs),
        (.kstPersist p slot, s.admits p.val 0 true true reg_KST_CMD.base, [reg_KST_STATUS] ++ rejectRegs),
        (.kstUnpersist p slot, s.admits p.val 0 true true reg_KST_CMD.base, [reg_KST_STATUS] ++ rejectRegs),
        (.enc p w v, s.admits p.val 0 (cmdReg w).bar2 true (cmdReg w).base, [reg_CHS_STATUS, reg_CHS_DOUT] ++ rejectRegs),
        (.dec p w v, s.admits p.val 0 (cmdReg w).bar2 true (cmdReg w).base, [reg_CHS_STATUS, reg_CHS_DOUT] ++ rejectRegs),
        (.cmac p w v, s.admits p.val 0 (cmdReg w).bar2 true (cmdReg w).base, [reg_CHS_STATUS, reg_CHS_DOUT] ++ rejectRegs),
        (.wrap p w v, s.admits p.val 0 (cmdReg w).bar2 true (cmdReg w).base, [reg_CHS_STATUS, reg_CHS_DOUT] ++ rejectRegs),
        (.exportKey p w v, s.admits p.val 0 (cmdReg w).bar2 true (cmdReg w).base, [reg_CHS_STATUS,
          reg_CHS_DOUT] ++ rejectRegs),
        (.unwrapSlot p w v, s.admits p.val 0 (cmdReg w).bar2 true (cmdReg w).base, [reg_CHS_STATUS,
          reg_CHS_DOUT] ++ rejectRegs),
        (.unwrapSa p w v, s.admits p.val 0 (cmdReg w).bar2 true (cmdReg w).base, [reg_CHS_STATUS,
          reg_CHS_DOUT] ++ rejectRegs),
        (.deriveSlot p w v, s.admits p.val 0 (cmdReg w).bar2 true (cmdReg w).base, [reg_CHS_STATUS,
          reg_CHS_DOUT] ++ rejectRegs),
        (.deriveSa p w v, s.admits p.val 0 (cmdReg w).bar2 true (cmdReg w).base, [reg_CHS_STATUS,
          reg_CHS_DOUT] ++ rejectRegs),
        (.chsEraseSa p w v, s.admits p.val 0 (cmdReg w).bar2 true (cmdReg w).base, [reg_CHS_STATUS,
          reg_CHS_DOUT] ++ rejectRegs),
        (.suspend p w v, s.admits p.val 0 (cmdReg w).bar2 true (cmdReg w).base, [reg_CHS_STATUS,
          reg_CHS_DOUT] ++ rejectRegs),
        (.restore p w v, s.admits p.val 0 (cmdReg w).bar2 true (cmdReg w).base, [reg_CHS_STATUS,
          reg_CHS_DOUT] ++ rejectRegs),
        (.abort p w v, s.admits p.val 0 (cmdReg w).bar2 true (cmdReg w).base, [reg_CHS_STATUS, reg_CHS_DOUT] ++ rejectRegs),
        (.pkeKatComplete ok, true, [reg_PKE_STATUS]), (.drbgReseedTimer, true, [reg_RNG_STATUS, reg_RNG_RESEEDS]),
        (.reseed p, s.admits p.val 0 false true reg_RNG_CTL.base, [reg_RNG_STATUS, reg_RNG_RESEEDS] ++ rejectRegs),
        (.reinst p, s.admits p.val 0 false true reg_RNG_CTL.base, [reg_RNG_STATUS, reg_RNG_RESEEDS] ++ rejectRegs),
        (.rngRequest p n, s.admits p.val 0 false true reg_RNG_REQ.base, [reg_RNG_REQ_STATUS, reg_RNG_OUT] ++ rejectRegs),
        (.rngRequestServed p, true, [reg_RNG_REQ_STATUS, reg_RNG_OUT]),
        (.rngHealthFail hf, true, [reg_RNG_STATUS, reg_RNG_REQ_STATUS, reg_RNG_OUT, reg_RNG_APT_FAILS, reg_RNG_RCT_FAILS]),
        (.attReportComplete p dma, true, [reg_ATT_STATUS, reg_ATT_CERT_LEN])] →
    exec c s = .next t → s.keepsBut t rs) ∧
  (∀ (s t : State) (p : Port) (sc : Fin 4096), s.calm = true →
    s.admits p.val 0 false true reg_PLN_RXSA_CMD.base = true → exec (.rxsaActivate p sc) s = .next t →
    s.keepsBut { t with fr.retireAt := s.fr.retireAt } ([reg_SCT_RX, reg_SAT_RX] ++ rejectRegs) ∧
    ∀ a, a ≠ s.rxCur sc.val → Tab.get 0 t.fr.retireAt a = Tab.get 0 s.fr.retireAt a)

/-- The frame of lane and module monitors, calibration, module accesses, feeds, Clamp's re-arming, thermal and SRAM
events, a crossbar beat repeated at most twice, a channel's retraining, spare KATs, carrier reception and host-ring
indices: each moves the registers named with it only. -/
def Obligations.LineCommandsFrame : Prop :=
  ∀ (s t : State) (p : Port) (v v2 : Word) (n n2 n3 n4 : Nat) (b : Bool) (lp k16 : Fin 16) (data flags : List Octet)
      (lane : Fin 96) (u1 u2 u3 u4 u5 : BitVec 8) (port : Fin 48) (x16 y16 h16 : BitVec 16) (bias : List (BitVec 16))
      (r : Region) (g7 : Fin 7) (g8 : Fin 8) (c9 : Fin 9) (c32 : Fin 32) (d : Dir) (ring : Fin 128) (k64 : Fin 64)
      (c : Instr) (rs : List Reg),
    s.calm = true → (c, true, rs) ∈
      [(Instr.eyeMonitorUpdate lane u1 u2 u3 u4 u5, true, [reg_RGN_HLANE]), (.tapStep lane, true, []),
        (.fecDegInterval port n n2 n3 n4, true, [reg_RGN_HPORT, reg_RGN_HPCNT]),
        (.calibrationComplete port v v2, true, [reg_TIM_HP, reg_TIM_LP]),
        (.laneRetest p lane, s.admits p.val 0 false true reg_FLT_LANE_CMD.base, rejectRegs),
        (.moduleMonitorPoll k16 x16 y16 flags bias, true, [reg_RGN_LMON, reg_RGN_LPORT]),
        (.modaccRequest p r v, s.admits p.val 0 false true (reg_RGN_MODACC.offset r.val 0),
          [reg_RGN_MODACC_STATUS] ++ rejectRegs),
        (.modaccComplete r b data, true, [reg_RGN_MODACC_STATUS, reg_RGN_MODACC_DATA]),
        (.feedRecovered g7 .a, true, [reg_FLT_BRACE_STATUS, reg_GLB_DEGRADED_CAUSE]),
        (.feedRecovered g7 .b, true, [reg_FLT_BRACE_STATUS, reg_GLB_DEGRADED_CAUSE]),
        (.braceSwitchCmd p g8, s.admits p.val 0 false true reg_FLT_BRACE_CMD.base, [reg_FLT_BRACE_STATUS,
          reg_FLT_BRACE_SW, reg_FLT_BRACE_CMD_STATUS, reg_GLB_DEGRADED_CAUSE] ++ rejectRegs),
        (.tempRearm, true, []), (.clockEventRearm b, true, [reg_CLM_STATUS]), (.vbatPreeraseRearm, true, [reg_CLM_STATUS]),
        (.classWindowClose c9, true, []), (.thermalThreshold b, true, [reg_GLB_DEGRADED_CAUSE]),
        (.sramScrub n, true, [reg_FLT_CNT]), (.crossbarBeatError (n % 3), true, [reg_FLT_CNT]),
        (.channelTrigger c32, true, [reg_MEM_CH]), (.spareKat r d b, true, [reg_RGN_PPE_STATUS, reg_RGN_PPE_MISMATCH]),
        (.carrierRestart lp, true, [reg_CAR_TX]), (.streamLoss lp, true, [reg_CAR_RX, reg_CAR_RXCNT]),
        (.reasmTimeout lp, true, [reg_CAR_RX, reg_CAR_RXCNT]),
        (.ringProdWrite p ring h16,
          s.admits p.val 0 false true (if ring.val < 64 then reg_HQ_PUNT.offset ring.val 5 else reg_HQ_INJ.offset (ring.val - 64) 5), [reg_HQ_PUNT] ++ rejectRegs),
        (.ringCplAck p ring h16,
          s.admits p.val 0 false true (if ring.val < 64 then reg_HQ_PUNT.offset ring.val 5 else reg_HQ_INJ.offset (ring.val - 64) 5), [reg_HQ_PUNT] ++ rejectRegs),
        (.puntDropRest p k64, s.admits p.val 0 false true (reg_HQ_CTL.offset k64.val 0), [reg_HQ_CTL, reg_HQ_PUNT,
          reg_HQ_PCNT] ++ rejectRegs)] →
    exec c s = .next t → s.keepsBut t rs

/-- R7: an access that is forbidden reads as zero, ignores its write data (the state after it is the same for every value
and every byte enable) and completes. -/
def Obligations.ForbiddenAccessAnswers : Prop :=
  ∀ (s : State) (p : Port) (fn : Fin 2) (bar2 : Bool) (off : Nat), s.reachable p.val = true →
    (fn = 1 → bar2 = false) →
    ((s.mmio p.val).forbidden p.val fn.val bar2 false off ≠ 0 →
      (∃ t, exec (.wideLowRead p fn bar2 off) s = .next t ∧ Emit.readData p.val fn.val bar2 off 0 ∈ t.out) ∧
      (∃ t, exec (.rcRead p fn bar2 off) s = .next t ∧ Emit.readData p.val fn.val bar2 off 0 ∈ t.out)) ∧
    ((s.mmio p.val).forbidden p.val fn.val bar2 true off ≠ 0 →
      ∃ t, ∀ (v : Word) (be : BitVec 4), exec (.registerWrite p fn bar2 off v be) s = .next t)

/-- R65: a rule of the egress classifier matches a frame when every bit that a mask of its fields covers is equal in the
frame; a field whose mask is zero matches every frame; an untagged frame has VID and PCP 0, so that a rule with masks
for them and TAGGED_CARE 0 matches it when its own bits there are 0. -/
def Obligations.MaskedFieldsMatch : Prop :=
  (∀ (mask a b : Nat), masked mask a b = true ↔ ∀ k, bit mask k = true → bit a k = bit b k) ∧
  (∀ a b : Nat, masked 0 a b = true) ∧
  (∀ (s : State) (hp i : Nat) (h : Hdr), s.egrMatch hp h i = true ↔
    s.on CLS_EGR.VALID i = true ∧ (s.on CLS_EGR.TAGGED_CARE i = true → s.on CLS_EGR.TAGGED i = h.tagged) ∧
    ∀ x ∈ [(CLS_EGR.HPORT_MASK, CLS_EGR.HPORT, hp), (CLS_EGR.DA_MASK, CLS_EGR.DA, h.da), (CLS_EGR.SA_MASK, CLS_EGR.SA,
      h.sa),
        (CLS_EGR.ETYPE_MASK, CLS_EGR.ETYPE, h.etype), (CLS_EGR.VID_MASK, CLS_EGR.VID, h.vid),
        (CLS_EGR.PCP_MASK, CLS_EGR.PCP, h.pcp)],
      ∀ k, bit (s.get x.1 i) k = true → bit (s.get x.2.1 i) k = bit x.2.2 k) ∧
  (∀ (s : State) (hp i : Nat) (d : List Octet), (hdrOf d).tagged = false →
    (hdrOf d).vid = 0 ∧ (hdrOf d).pcp = 0 ∧
    (s.egrMatch hp (hdrOf d) i = true → s.on CLS_EGR.TAGGED_CARE i = false →
      ∀ v q, s.get CLS_EGR.VID i = 0 → s.get CLS_EGR.PCP i = 0 →
        ((s.set CLS_EGR.VID_MASK i v).set CLS_EGR.PCP_MASK i q).egrMatch hp (hdrOf d) i = true))

/-- R107: LOW of a receive SA is the larger of NEXT_PN − WINDOW, not below 0, and FLOOR. Against it the PN of an XPN frame
is recovered: LOW's high half and f where f is at or above LOW's low half, else the next high half and f; the PN of a
non-XPN frame is f. A frame at the head of the region that waits for its pre-check, unless it is one of GCM-AES below
LOW under REPLAY_PROTECT, goes on with that PN; suite, WINDOW and REPLAY_PROTECT are those that the frame holds. -/
def Obligations.LowestAcceptablePn : Prop :=
  (∀ (s : State) (w a : Nat), s.rxLow w a = max (s.get SAT_RX.NEXT_PN a - w) (s.get SAT_RX.FLOOR a)) ∧
  (∀ (s : State) (r : Region) (x : InItem) (l : List InItem) (f low pn : Nat), s.calm = true → s.ig r.val = x :: l →
    x.stat = .pre → f = (readTag x.data).pn → low = s.rxLow x.par.window x.sa →
    (x.par.suite < 2 → pn = f) →
    (2 ≤ x.par.suite → low % 2 ^ 32 ≤ f → pn = low / 2 ^ 32 * 2 ^ 32 + f) →
    (2 ≤ x.par.suite → f < low % 2 ^ 32 → pn = (low / 2 ^ 32 + 1) * 2 ^ 32 + f) →
    (x.par.suite < 2 → x.par.replay = true → low ≤ pn) → s.igrRoom r.val (cellsLen (builtLen x.data)) = true →
    ∃ t, exec (.replayPrecheck r) s = .next t ∧ t.ig r.val = { x with pn := pn, stat := .wait } :: l)
end

