-- ==== Sys2Proof/Laws/Tab.lean ====
section
/-! SUPPORT. Laws/Tab.lean: reading a sparse table after a write, and its canonical form. -/
namespace Sys2Proof.Machine

variable {α : Type}

@[simp] theorem Tab.get_nil (d : α) (k : Nat) : Tab.get d [] k = d := rfl

/-- Inserting at `k` changes what reads at `k` only. -/
theorem Tab.get_insert (d : α) (t : Tab α) (k j : Nat) (v : α) :
    Tab.get d (Tab.insert t k v) j = if j = k then v else Tab.get d t j := by
  induction t with
  | nil => simp only [Tab.insert, Tab.get]; grind
  | cons a r ih => obtain ⟨i, x⟩ := a; simp only [Tab.insert]; split <;> (try split) <;> simp only [Tab.get] <;> grind

/-- Erasing `k` makes `k` read as unlisted and changes nothing else. -/
theorem Tab.get_erase (d : α) (t : Tab α) (k j : Nat) :
    Tab.get d (Tab.erase t k) j = if j = k then d else Tab.get d t j := by
  induction t with
  | nil => simp [Tab.erase, Tab.get]
  | cons a r ih => obtain ⟨i, x⟩ := a; simp only [Tab.erase]; split <;> simp only [Tab.get] <;> grind

/-- Read after write. -/
theorem Tab.get_set [DecidableEq α] (d : α) (t : Tab α) (k j : Nat) (v : α) :
    Tab.get d (Tab.set d t k v) j = if j = k then v else Tab.get d t j := by
  unfold Tab.set
  split
  · rename_i h; simp [Tab.get_erase, h]
  · exact Tab.get_insert d t k j v

@[simp] theorem Tab.get_set_self [DecidableEq α] (d : α) (t : Tab α) (k : Nat) (v : α) :
    Tab.get d (Tab.set d t k v) k = v := by simp [Tab.get_set]

/-- The canonical form of a longer table. -/
theorem Tab.wf_cons [DecidableEq α] (d : α) (i : Nat) (v : α) (t : Tab α) :
    Tab.wf d ((i, v) :: t) = true ↔ v ≠ d ∧ (∀ x ∈ t, i < x.1) ∧ Tab.wf d t = true := by
  induction t generalizing i v with
  | nil => simp [Tab.wf]
  | cons a r ih =>
    obtain ⟨j, w⟩ := a
    have h := ih j w
    simp only [Tab.wf, Bool.and_eq_true, decide_eq_true_eq, List.mem_cons, forall_eq_or_imp] at h ⊢
    constructor
    · rintro ⟨⟨h1, h2⟩, h3⟩
      exact ⟨h1, ⟨h2, fun x hx => lt_trans h2 ((h.mp h3).2.1 x hx)⟩, h3⟩
    · rintro ⟨h1, ⟨h2, -⟩, h3⟩; exact ⟨⟨h1, h2⟩, h3⟩

theorem Tab.mem_insert {t : Tab α} {k : Nat} {v : α} {x : Nat × α} (h : x ∈ Tab.insert t k v) : x = (k, v) ∨ x ∈ t := by
  induction t with
  | nil => simpa [Tab.insert] using h
  | cons a r ih => obtain ⟨i, y⟩ := a; simp only [Tab.insert] at h; split at h <;> (try split at h) <;> grind

theorem Tab.mem_erase {t : Tab α} {k : Nat} {x : Nat × α} (h : x ∈ Tab.erase t k) : x ∈ t := by
  induction t with
  | nil => simpa [Tab.erase] using h
  | cons a r ih => obtain ⟨i, y⟩ := a; simp only [Tab.erase] at h; split at h <;> grind

theorem Tab.wf_insert [DecidableEq α] (d : α) (t : Tab α) (k : Nat) (v : α) (hv : v ≠ d) (h : Tab.wf d t = true) :
    Tab.wf d (Tab.insert t k v) = true := by
  induction t with
  | nil => simp [Tab.insert, Tab.wf, hv]
  | cons a r ih =>
    obtain ⟨i, y⟩ := a
    obtain ⟨h1, h2, h3⟩ := (Tab.wf_cons d i y r).mp h
    simp only [Tab.insert]
    split
    · rename_i hk
      refine (Tab.wf_cons d k v _).mpr ⟨hv, ?_, h⟩
      intro x hx
      rcases List.mem_cons.mp hx with rfl | hx
      · exact hk
      · exact lt_trans hk (h2 x hx)
    · split
      · rename_i hk; subst hk; exact (Tab.wf_cons d k v r).mpr ⟨hv, h2, h3⟩
      · refine (Tab.wf_cons d i y _).mpr ⟨h1, ?_, ih h3⟩
        intro x hx
        rcases Tab.mem_insert hx with rfl | hx
        · simp only; omega
        · exact h2 x hx

theorem Tab.wf_erase [DecidableEq α] (d : α) (t : Tab α) (k : Nat) (h : Tab.wf d t = true) :
    Tab.wf d (Tab.erase t k) = true := by
  induction t with
  | nil => simpa [Tab.erase] using h
  | cons a r ih =>
    obtain ⟨i, y⟩ := a
    obtain ⟨h1, h2, h3⟩ := (Tab.wf_cons d i y r).mp h
    simp only [Tab.erase]
    split
    · exact ih h3
    · exact (Tab.wf_cons d i y _).mpr ⟨h1, fun x hx => h2 x (Tab.mem_erase hx), ih h3⟩

/-- A write keeps the canonical form. -/
theorem Tab.wf_set [DecidableEq α] (d : α) (t : Tab α) (k : Nat) (v : α) (h : Tab.wf d t = true) :
    Tab.wf d (Tab.set d t k v) = true := by
  unfold Tab.set
  split
  · exact Tab.wf_erase d t k h
  · rename_i hv; exact Tab.wf_insert d t k v hv h

end Sys2Proof.Machine
end

