-- ==== Sys2Proof/Laws/State.lean ====
section
/-!
SUPPORT. Laws/State.lean: what each update of the state leaves as it was, one lemma per update and part of the state, and
reading a register field after a write.
-/
namespace Sys2Proof.Machine

/-! A field write changes the register store only. -/

@[simp] theorem State.set_pending (s : State) (f : Fld) (i v : Nat) : (s.set f i v).pending = s.pending := rfl
@[simp] theorem State.set_out (s : State) (f : Fld) (i v : Nat) : (s.set f i v).out = s.out := rfl
@[simp] theorem State.set_wraps (s : State) (f : Fld) (i v : Nat) : (s.set f i v).wraps = s.wraps := rfl
@[simp] theorem State.set_now (s : State) (f : Fld) (i v : Nat) : (s.set f i v).now = s.now := rfl
@[simp] theorem State.set_mono (s : State) (f : Fld) (i v : Nat) : (s.set f i v).mono = s.mono := rfl
@[simp] theorem State.set_tape (s : State) (f : Fld) (i v : Nat) : (s.set f i v).tape = s.tape := rfl
@[simp] theorem State.set_ac (s : State) (f : Fld) (i v : Nat) : (s.set f i v).ac = s.ac := rfl
@[simp] theorem State.set_ic (s : State) (f : Fld) (i v : Nat) : (s.set f i v).ic = s.ic := rfl
@[simp] theorem State.set_md (s : State) (f : Fld) (i v : Nat) : (s.set f i v).md = s.md := rfl
@[simp] theorem State.set_lc (s : State) (f : Fld) (i v : Nat) : (s.set f i v).lc = s.lc := rfl
@[simp] theorem State.set_tm (s : State) (f : Fld) (i v : Nat) : (s.set f i v).tm = s.tm := rfl
@[simp] theorem State.set_ga (s : State) (f : Fld) (i v : Nat) : (s.set f i v).ga = s.ga := rfl
@[simp] theorem State.set_fr (s : State) (f : Fld) (i v : Nat) : (s.set f i v).fr = s.fr := rfl
@[simp] theorem State.set_ke (s : State) (f : Fld) (i v : Nat) : (s.set f i v).ke = s.ke := rfl
@[simp] theorem State.set_att (s : State) (f : Fld) (i v : Nat) : (s.set f i v).att = s.att := rfl
@[simp] theorem State.set_ch (s : State) (f : Fld) (i v : Nat) : (s.set f i v).ch = s.ch := rfl
@[simp] theorem State.set_au (s : State) (f : Fld) (i v : Nat) : (s.set f i v).au = s.au := rfl
@[simp] theorem State.set_pl (s : State) (f : Fld) (i v : Nat) : (s.set f i v).pl = s.pl := rfl
@[simp] theorem State.set_ca (s : State) (f : Fld) (i v : Nat) : (s.set f i v).ca = s.ca := rfl
@[simp] theorem State.set_hq (s : State) (f : Fld) (i v : Nat) : (s.set f i v).hq = s.hq := rfl
@[simp] theorem State.set_vn (s : State) (f : Fld) (i v : Nat) : (s.set f i v).vn = s.vn := rfl
@[simp] theorem State.set_ln (s : State) (f : Fld) (i v : Nat) : (s.set f i v).ln = s.ln := rfl
@[simp] theorem State.set_fl (s : State) (f : Fld) (i v : Nat) : (s.set f i v).fl = s.fl := rfl
@[simp] theorem State.set_cl (s : State) (f : Fld) (i v : Nat) : (s.set f i v).cl = s.cl := rfl
@[simp] theorem State.set_ofc (s : State) (f : Fld) (i v : Nat) : (s.set f i v).ofc = s.ofc := rfl
@[simp] theorem State.set_jg (s : State) (f : Fld) (i v : Nat) : (s.set f i v).jg = s.jg := rfl
@[simp] theorem State.set_cn (s : State) (f : Fld) (i v : Nat) : (s.set f i v).cn = s.cn := rfl

/-! Putting something out changes the outbox only. -/

@[simp] theorem State.emit_regs (s : State) (e : Emit) : (s.emit e).regs = s.regs := rfl
@[simp] theorem State.emit_out (s : State) (e : Emit) : (s.emit e).out = s.out ++ [e] := rfl
@[simp] theorem State.emit_get (s : State) (e : Emit) (f : Fld) (i : Nat) : (s.emit e).get f i = s.get f i := rfl
@[simp] theorem State.emit_pending (s : State) (e : Emit) : (s.emit e).pending = s.pending := rfl
@[simp] theorem State.emit_wraps (s : State) (e : Emit) : (s.emit e).wraps = s.wraps := rfl
@[simp] theorem State.emit_now (s : State) (e : Emit) : (s.emit e).now = s.now := rfl
@[simp] theorem State.emit_mono (s : State) (e : Emit) : (s.emit e).mono = s.mono := rfl
@[simp] theorem State.emit_tape (s : State) (e : Emit) : (s.emit e).tape = s.tape := rfl
@[simp] theorem State.emit_ac (s : State) (e : Emit) : (s.emit e).ac = s.ac := rfl
@[simp] theorem State.emit_ic (s : State) (e : Emit) : (s.emit e).ic = s.ic := rfl
@[simp] theorem State.emit_md (s : State) (e : Emit) : (s.emit e).md = s.md := rfl
@[simp] theorem State.emit_lc (s : State) (e : Emit) : (s.emit e).lc = s.lc := rfl
@[simp] theorem State.emit_tm (s : State) (e : Emit) : (s.emit e).tm = s.tm := rfl
@[simp] theorem State.emit_ga (s : State) (e : Emit) : (s.emit e).ga = s.ga := rfl
@[simp] theorem State.emit_fr (s : State) (e : Emit) : (s.emit e).fr = s.fr := rfl
@[simp] theorem State.emit_ke (s : State) (e : Emit) : (s.emit e).ke = s.ke := rfl
@[simp] theorem State.emit_att (s : State) (e : Emit) : (s.emit e).att = s.att := rfl
@[simp] theorem State.emit_ch (s : State) (e : Emit) : (s.emit e).ch = s.ch := rfl
@[simp] theorem State.emit_au (s : State) (e : Emit) : (s.emit e).au = s.au := rfl
@[simp] theorem State.emit_pl (s : State) (e : Emit) : (s.emit e).pl = s.pl := rfl
@[simp] theorem State.emit_ca (s : State) (e : Emit) : (s.emit e).ca = s.ca := rfl
@[simp] theorem State.emit_hq (s : State) (e : Emit) : (s.emit e).hq = s.hq := rfl
@[simp] theorem State.emit_vn (s : State) (e : Emit) : (s.emit e).vn = s.vn := rfl
@[simp] theorem State.emit_ln (s : State) (e : Emit) : (s.emit e).ln = s.ln := rfl
@[simp] theorem State.emit_fl (s : State) (e : Emit) : (s.emit e).fl = s.fl := rfl
@[simp] theorem State.emit_cl (s : State) (e : Emit) : (s.emit e).cl = s.cl := rfl
@[simp] theorem State.emit_ofc (s : State) (e : Emit) : (s.emit e).ofc = s.ofc := rfl
@[simp] theorem State.emit_jg (s : State) (e : Emit) : (s.emit e).jg = s.jg := rfl
@[simp] theorem State.emit_cn (s : State) (e : Emit) : (s.emit e).cn = s.cn := rfl

/-! Reading a field after a write. -/

/-- A field is read from the register store only. -/
theorem State.get_congr {s t : State} (h : s.regs = t.regs) (f : Fld) (i : Nat) : s.get f i = t.get f i := by
  simp [State.get, h]

theorem State.get_set (s : State) (f g : Fld) (i j v : Nat) :
    (s.set g j v).get f i =
      if f.key i = g.key j then (v % 2 ^ g.width ^^^ g.reset ^^^ f.reset) % 2 ^ f.width else s.get f i := by
  simp only [State.get, State.set, Tab.get_set]
  split <;> rfl

/-- A field reads what was written to it, cut to its width. -/
@[simp] theorem State.get_set_self (s : State) (f : Fld) (i v : Nat) : (s.set f i v).get f i = v % 2 ^ f.width := by
  rw [State.get_set, if_pos rfl, Nat.xor_assoc, Nat.xor_self, Nat.xor_zero, Nat.mod_mod]

/-- A write of a field leaves every other field as it was. -/
theorem State.get_set_field (s : State) {f g : Fld} (h : f.id % 2048 ≠ g.id % 2048) (i j v : Nat) :
    (s.set g j v).get f i = s.get f i := by
  rw [State.get_set, if_neg]
  intro e
  simp only [Fld.key] at e
  omega

/-- A write of one element leaves every other element of the field as it was. -/
theorem State.get_set_index (s : State) (f : Fld) {i j : Nat} (h : i ≠ j) (v : Nat) :
    (s.set f j v).get f i = s.get f i := by
  rw [State.get_set, if_neg]
  intro e
  simp only [Fld.key] at e
  omega

/-- A write keeps the canonical form of the register store. -/
theorem State.wfRegs_set (s : State) (f : Fld) (i v : Nat) (h : Tab.wf 0 s.regs = true) :
    Tab.wf 0 (s.set f i v).regs = true := Tab.wf_set 0 _ _ _ h

end Sys2Proof.Machine
end

