-- ==== Sys2Proof/Laws/Ops.lean ====
section
/-!
SUPPORT. Laws/Ops.lean: what the shared operations leave as it was: a source becoming pending, the hints of an access, the
end of a command, a refused write.
-/
namespace Sys2Proof.Machine

/-! Updates in order. -/

/-- What no update of a list changes, the list of updates does not change. -/
theorem State.each_keep {α β : Type} (φ : State → β) (l : List α) (g : α → State → State)
    (h : ∀ a s, φ (g a s) = φ s) (s : State) : φ (s.each l g) = φ s := by
  induction l generalizing s with
  | nil => rfl
  | cons a l ih =>
    have e : State.each s (a :: l) g = State.each (g a s) l g := rfl
    rw [e, ih, h]

/-! Sources that become pending: only the interrupt controller, WAKE and the outbox move. -/

section
variable {β : Type} (φ : State → β) (hic : ∀ s x, φ { s with ic := x } = φ s) (hout : ∀ s x, φ { s with out := x } = φ s)
include hic

theorem State.deliver_keep (s : State) (p v : Nat) : φ (s.deliver p v) = φ s := by
  unfold State.deliver
  split
  · rfl
  · exact hic s _

theorem State.touch_keep (s : State) (p v : Nat) : φ (s.touch p v) = φ s := by
  unfold State.touch
  simp only
  split
  · exact hic s _
  · split
    · rfl
    · split <;> split <;> simp only [State.deliver_keep φ hic, hic]

include hout
variable (hw : ∀ s p v, φ (State.set s ICU_PORT.WAKE p v) = φ s)
include hw

omit hic in
theorem State.wakePin_keep (s : State) (p : Nat) : φ (s.wakePin p) = φ s := by
  unfold State.wakePin
  simp only
  split
  · rfl
  · exact (hout _ _).trans (hw _ _ _)

theorem State.touchSrc_keep (s : State) (i : Nat) : φ (s.touchSrc i) = φ s := by
  unfold State.touchSrc
  rw [State.each_keep φ _ _ (fun p s => State.wakePin_keep φ hout hw s p)]
  rw [State.touch_keep φ hic, State.touch_keep φ hic]

/-- An occurrence of a source. -/
theorem State.pend_keep (s : State) (i : Nat) : φ (s.pend i) = φ s := by
  unfold State.pend
  simp only
  split
  · exact hic s _
  · rw [State.touchSrc_keep φ hic hout hw]; exact (hic _ _).trans (hic s _)

theorem State.touchAll_keep (s : State) : φ s.touchAll = φ s := by
  unfold State.touchAll
  rw [State.each_keep φ _ _ (fun p s => State.wakePin_keep φ hout hw s p),
    State.each_keep φ _ _ (fun k s => State.touch_keep φ hic s _ _)]

variable (hs : ∀ s p v, φ (State.set s ICU_PORT.SLEEPING p v) = φ s)
include hs

theorem State.wake_keep (s : State) (p : Nat) : φ (s.wake p) = φ s := by
  unfold State.wake
  simp only
  rw [State.touchAll_keep φ hic hout hw, State.each_keep φ _ _, hs]
  intro v s
  split
  · rfl
  · exact State.deliver_keep φ hic s _ _

variable (hi : ∀ s p v, φ (State.set s ICU_PORT.IDLE p v) = φ s) (hz : ∀ s p v, φ (State.set s ICU_PORT.SLEEP p v) = φ s)
include hi hz

/-- The hints of an access (R408, R411). -/
theorem State.mmio_keep (s : State) (p : Nat) : φ (s.mmio p) = φ s := by
  unfold State.mmio
  split
  · simp only
    split
    · rw [State.wake_keep φ hic hout hw hs, hz, hi]
    · rw [hz, hi]
  · rfl

end

/-! The parts of the state that a source becoming pending, the hints of an access and the end of a command leave as they
were. -/

@[simp] theorem State.pend_pending (s : State) (i : Nat) : (s.pend i).pending = s.pending :=
  State.pend_keep (·.pending) (fun _ _ => rfl) (fun _ _ => rfl) (fun _ _ _ => rfl) s i
@[simp] theorem State.pend_wraps (s : State) (i : Nat) : (s.pend i).wraps = s.wraps :=
  State.pend_keep (·.wraps) (fun _ _ => rfl) (fun _ _ => rfl) (fun _ _ _ => rfl) s i
@[simp] theorem State.pend_now (s : State) (i : Nat) : (s.pend i).now = s.now :=
  State.pend_keep (·.now) (fun _ _ => rfl) (fun _ _ => rfl) (fun _ _ _ => rfl) s i
@[simp] theorem State.pend_mono (s : State) (i : Nat) : (s.pend i).mono = s.mono :=
  State.pend_keep (·.mono) (fun _ _ => rfl) (fun _ _ => rfl) (fun _ _ _ => rfl) s i
@[simp] theorem State.pend_tape (s : State) (i : Nat) : (s.pend i).tape = s.tape :=
  State.pend_keep (·.tape) (fun _ _ => rfl) (fun _ _ => rfl) (fun _ _ _ => rfl) s i
@[simp] theorem State.pend_ac (s : State) (i : Nat) : (s.pend i).ac = s.ac :=
  State.pend_keep (·.ac) (fun _ _ => rfl) (fun _ _ => rfl) (fun _ _ _ => rfl) s i
@[simp] theorem State.pend_md (s : State) (i : Nat) : (s.pend i).md = s.md :=
  State.pend_keep (·.md) (fun _ _ => rfl) (fun _ _ => rfl) (fun _ _ _ => rfl) s i
@[simp] theorem State.pend_lc (s : State) (i : Nat) : (s.pend i).lc = s.lc :=
  State.pend_keep (·.lc) (fun _ _ => rfl) (fun _ _ => rfl) (fun _ _ _ => rfl) s i
@[simp] theorem State.pend_tm (s : State) (i : Nat) : (s.pend i).tm = s.tm :=
  State.pend_keep (·.tm) (fun _ _ => rfl) (fun _ _ => rfl) (fun _ _ _ => rfl) s i
@[simp] theorem State.pend_ga (s : State) (i : Nat) : (s.pend i).ga = s.ga :=
  State.pend_keep (·.ga) (fun _ _ => rfl) (fun _ _ => rfl) (fun _ _ _ => rfl) s i
@[simp] theorem State.pend_fr (s : State) (i : Nat) : (s.pend i).fr = s.fr :=
  State.pend_keep (·.fr) (fun _ _ => rfl) (fun _ _ => rfl) (fun _ _ _ => rfl) s i
@[simp] theorem State.pend_ke (s : State) (i : Nat) : (s.pend i).ke = s.ke :=
  State.pend_keep (·.ke) (fun _ _ => rfl) (fun _ _ => rfl) (fun _ _ _ => rfl) s i
@[simp] theorem State.pend_att (s : State) (i : Nat) : (s.pend i).att = s.att :=
  State.pend_keep (·.att) (fun _ _ => rfl) (fun _ _ => rfl) (fun _ _ _ => rfl) s i
@[simp] theorem State.pend_ch (s : State) (i : Nat) : (s.pend i).ch = s.ch :=
  State.pend_keep (·.ch) (fun _ _ => rfl) (fun _ _ => rfl) (fun _ _ _ => rfl) s i
@[simp] theorem State.pend_au (s : State) (i : Nat) : (s.pend i).au = s.au :=
  State.pend_keep (·.au) (fun _ _ => rfl) (fun _ _ => rfl) (fun _ _ _ => rfl) s i
@[simp] theorem State.pend_pl (s : State) (i : Nat) : (s.pend i).pl = s.pl :=
  State.pend_keep (·.pl) (fun _ _ => rfl) (fun _ _ => rfl) (fun _ _ _ => rfl) s i
@[simp] theorem State.pend_ca (s : State) (i : Nat) : (s.pend i).ca = s.ca :=
  State.pend_keep (·.ca) (fun _ _ => rfl) (fun _ _ => rfl) (fun _ _ _ => rfl) s i
@[simp] theorem State.pend_hq (s : State) (i : Nat) : (s.pend i).hq = s.hq :=
  State.pend_keep (·.hq) (fun _ _ => rfl) (fun _ _ => rfl) (fun _ _ _ => rfl) s i
@[simp] theorem State.pend_vn (s : State) (i : Nat) : (s.pend i).vn = s.vn :=
  State.pend_keep (·.vn) (fun _ _ => rfl) (fun _ _ => rfl) (fun _ _ _ => rfl) s i
@[simp] theorem State.pend_ln (s : State) (i : Nat) : (s.pend i).ln = s.ln :=
  State.pend_keep (·.ln) (fun _ _ => rfl) (fun _ _ => rfl) (fun _ _ _ => rfl) s i
@[simp] theorem State.pend_fl (s : State) (i : Nat) : (s.pend i).fl = s.fl :=
  State.pend_keep (·.fl) (fun _ _ => rfl) (fun _ _ => rfl) (fun _ _ _ => rfl) s i
@[simp] theorem State.pend_cl (s : State) (i : Nat) : (s.pend i).cl = s.cl :=
  State.pend_keep (·.cl) (fun _ _ => rfl) (fun _ _ => rfl) (fun _ _ _ => rfl) s i
@[simp] theorem State.pend_ofc (s : State) (i : Nat) : (s.pend i).ofc = s.ofc :=
  State.pend_keep (·.ofc) (fun _ _ => rfl) (fun _ _ => rfl) (fun _ _ _ => rfl) s i
@[simp] theorem State.pend_jg (s : State) (i : Nat) : (s.pend i).jg = s.jg :=
  State.pend_keep (·.jg) (fun _ _ => rfl) (fun _ _ => rfl) (fun _ _ _ => rfl) s i
@[simp] theorem State.pend_cn (s : State) (i : Nat) : (s.pend i).cn = s.cn :=
  State.pend_keep (·.cn) (fun _ _ => rfl) (fun _ _ => rfl) (fun _ _ _ => rfl) s i

theorem State.pend_get (s : State) (n : Nat) {f : Fld} (h : pendMoves f = false) (i : Nat) : (s.pend n).get f i = s.get f i :=
  State.pend_keep (fun s => s.get f i) (fun _ _ => rfl) (fun _ _ => rfl)
    (fun s p v => State.get_set_field s (by simpa [pendMoves, ICU_PORT.WAKE] using h) i p v) s n

@[simp] theorem State.mmio_pending (s : State) (p : Nat) : (s.mmio p).pending = s.pending :=
  State.mmio_keep (·.pending) (fun _ _ => rfl) (fun _ _ => rfl) (fun _ _ _ => rfl) (fun _ _ _ => rfl) (fun _ _ _ => rfl) (fun _ _ _ => rfl) s p
@[simp] theorem State.mmio_wraps (s : State) (p : Nat) : (s.mmio p).wraps = s.wraps :=
  State.mmio_keep (·.wraps) (fun _ _ => rfl) (fun _ _ => rfl) (fun _ _ _ => rfl) (fun _ _ _ => rfl) (fun _ _ _ => rfl) (fun _ _ _ => rfl) s p
@[simp] theorem State.mmio_now (s : State) (p : Nat) : (s.mmio p).now = s.now :=
  State.mmio_keep (·.now) (fun _ _ => rfl) (fun _ _ => rfl) (fun _ _ _ => rfl) (fun _ _ _ => rfl) (fun _ _ _ => rfl) (fun _ _ _ => rfl) s p
@[simp] theorem State.mmio_mono (s : State) (p : Nat) : (s.mmio p).mono = s.mono :=
  State.mmio_keep (·.mono) (fun _ _ => rfl) (fun _ _ => rfl) (fun _ _ _ => rfl) (fun _ _ _ => rfl) (fun _ _ _ => rfl) (fun _ _ _ => rfl) s p
@[simp] theorem State.mmio_tape (s : State) (p : Nat) : (s.mmio p).tape = s.tape :=
  State.mmio_keep (·.tape) (fun _ _ => rfl) (fun _ _ => rfl) (fun _ _ _ => rfl) (fun _ _ _ => rfl) (fun _ _ _ => rfl) (fun _ _ _ => rfl) s p
@[simp] theorem State.mmio_ac (s : State) (p : Nat) : (s.mmio p).ac = s.ac :=
  State.mmio_keep (·.ac) (fun _ _ => rfl) (fun _ _ => rfl) (fun _ _ _ => rfl) (fun _ _ _ => rfl) (fun _ _ _ => rfl) (fun _ _ _ => rfl) s p
@[simp] theorem State.mmio_md (s : State) (p : Nat) : (s.mmio p).md = s.md :=
  State.mmio_keep (·.md) (fun _ _ => rfl) (fun _ _ => rfl) (fun _ _ _ => rfl) (fun _ _ _ => rfl) (fun _ _ _ => rfl) (fun _ _ _ => rfl) s p
@[simp] theorem State.mmio_lc (s : State) (p : Nat) : (s.mmio p).lc = s.lc :=
  State.mmio_keep (·.lc) (fun _ _ => rfl) (fun _ _ => rfl) (fun _ _ _ => rfl) (fun _ _ _ => rfl) (fun _ _ _ => rfl) (fun _ _ _ => rfl) s p
@[simp] theorem State.mmio_tm (s : State) (p : Nat) : (s.mmio p).tm = s.tm :=
  State.mmio_keep (·.tm) (fun _ _ => rfl) (fun _ _ => rfl) (fun _ _ _ => rfl) (fun _ _ _ => rfl) (fun _ _ _ => rfl) (fun _ _ _ => rfl) s p
@[simp] theorem State.mmio_ga (s : State) (p : Nat) : (s.mmio p).ga = s.ga :=
  State.mmio_keep (·.ga) (fun _ _ => rfl) (fun _ _ => rfl) (fun _ _ _ => rfl) (fun _ _ _ => rfl) (fun _ _ _ => rfl) (fun _ _ _ => rfl) s p
@[simp] theorem State.mmio_fr (s : State) (p : Nat) : (s.mmio p).fr = s.fr :=
  State.mmio_keep (·.fr) (fun _ _ => rfl) (fun _ _ => rfl) (fun _ _ _ => rfl) (fun _ _ _ => rfl) (fun _ _ _ => rfl) (fun _ _ _ => rfl) s p
@[simp] theorem State.mmio_ke (s : State) (p : Nat) : (s.mmio p).ke = s.ke :=
  State.mmio_keep (·.ke) (fun _ _ => rfl) (fun _ _ => rfl) (fun _ _ _ => rfl) (fun _ _ _ => rfl) (fun _ _ _ => rfl) (fun _ _ _ => rfl) s p
@[simp] theorem State.mmio_att (s : State) (p : Nat) : (s.mmio p).att = s.att :=
  State.mmio_keep (·.att) (fun _ _ => rfl) (fun _ _ => rfl) (fun _ _ _ => rfl) (fun _ _ _ => rfl) (fun _ _ _ => rfl) (fun _ _ _ => rfl) s p
@[simp] theorem State.mmio_ch (s : State) (p : Nat) : (s.mmio p).ch = s.ch :=
  State.mmio_keep (·.ch) (fun _ _ => rfl) (fun _ _ => rfl) (fun _ _ _ => rfl) (fun _ _ _ => rfl) (fun _ _ _ => rfl) (fun _ _ _ => rfl) s p
@[simp] theorem State.mmio_au (s : State) (p : Nat) : (s.mmio p).au = s.au :=
  State.mmio_keep (·.au) (fun _ _ => rfl) (fun _ _ => rfl) (fun _ _ _ => rfl) (fun _ _ _ => rfl) (fun _ _ _ => rfl) (fun _ _ _ => rfl) s p
@[simp] theorem State.mmio_pl (s : State) (p : Nat) : (s.mmio p).pl = s.pl :=
  State.mmio_keep (·.pl) (fun _ _ => rfl) (fun _ _ => rfl) (fun _ _ _ => rfl) (fun _ _ _ => rfl) (fun _ _ _ => rfl) (fun _ _ _ => rfl) s p
@[simp] theorem State.mmio_ca (s : State) (p : Nat) : (s.mmio p).ca = s.ca :=
  State.mmio_keep (·.ca) (fun _ _ => rfl) (fun _ _ => rfl) (fun _ _ _ => rfl) (fun _ _ _ => rfl) (fun _ _ _ => rfl) (fun _ _ _ => rfl) s p
@[simp] theorem State.mmio_hq (s : State) (p : Nat) : (s.mmio p).hq = s.hq :=
  State.mmio_keep (·.hq) (fun _ _ => rfl) (fun _ _ => rfl) (fun _ _ _ => rfl) (fun _ _ _ => rfl) (fun _ _ _ => rfl) (fun _ _ _ => rfl) s p
@[simp] theorem State.mmio_vn (s : State) (p : Nat) : (s.mmio p).vn = s.vn :=
  State.mmio_keep (·.vn) (fun _ _ => rfl) (fun _ _ => rfl) (fun _ _ _ => rfl) (fun _ _ _ => rfl) (fun _ _ _ => rfl) (fun _ _ _ => rfl) s p
@[simp] theorem State.mmio_ln (s : State) (p : Nat) : (s.mmio p).ln = s.ln :=
  State.mmio_keep (·.ln) (fun _ _ => rfl) (fun _ _ => rfl) (fun _ _ _ => rfl) (fun _ _ _ => rfl) (fun _ _ _ => rfl) (fun _ _ _ => rfl) s p
@[simp] theorem State.mmio_fl (s : State) (p : Nat) : (s.mmio p).fl = s.fl :=
  State.mmio_keep (·.fl) (fun _ _ => rfl) (fun _ _ => rfl) (fun _ _ _ => rfl) (fun _ _ _ => rfl) (fun _ _ _ => rfl) (fun _ _ _ => rfl) s p
@[simp] theorem State.mmio_cl (s : State) (p : Nat) : (s.mmio p).cl = s.cl :=
  State.mmio_keep (·.cl) (fun _ _ => rfl) (fun _ _ => rfl) (fun _ _ _ => rfl) (fun _ _ _ => rfl) (fun _ _ _ => rfl) (fun _ _ _ => rfl) s p
@[simp] theorem State.mmio_ofc (s : State) (p : Nat) : (s.mmio p).ofc = s.ofc :=
  State.mmio_keep (·.ofc) (fun _ _ => rfl) (fun _ _ => rfl) (fun _ _ _ => rfl) (fun _ _ _ => rfl) (fun _ _ _ => rfl) (fun _ _ _ => rfl) s p
@[simp] theorem State.mmio_jg (s : State) (p : Nat) : (s.mmio p).jg = s.jg :=
  State.mmio_keep (·.jg) (fun _ _ => rfl) (fun _ _ => rfl) (fun _ _ _ => rfl) (fun _ _ _ => rfl) (fun _ _ _ => rfl) (fun _ _ _ => rfl) s p
@[simp] theorem State.mmio_cn (s : State) (p : Nat) : (s.mmio p).cn = s.cn :=
  State.mmio_keep (·.cn) (fun _ _ => rfl) (fun _ _ => rfl) (fun _ _ _ => rfl) (fun _ _ _ => rfl) (fun _ _ _ => rfl) (fun _ _ _ => rfl) s p

theorem State.mmio_get (s : State) (p : Nat) {f : Fld} (h : mmioMoves f = false) (i : Nat) :
    (s.mmio p).get f i = s.get f i := by
  simp only [mmioMoves, List.contains_cons, List.contains_nil, Bool.or_false, Bool.or_eq_false_iff, beq_eq_false_iff_ne] at h
  exact State.mmio_keep (fun s => s.get f i) (fun _ _ => rfl) (fun _ _ => rfl)
    (fun s p v => State.get_set_field s h.1 i p v) (fun s p v => State.get_set_field s h.2.1 i p v)
    (fun s p v => State.get_set_field s h.2.2.1 i p v) (fun s p v => State.get_set_field s h.2.2.2 i p v) s p

/-! An Officer-world access. -/

@[simp] theorem State.officerSeen_pending (s : State) (p : Nat) (b : Bool) : (s.officerSeen p b).pending = s.pending := by
  unfold State.officerSeen; split <;> rfl
@[simp] theorem State.officerSeen_out (s : State) (p : Nat) (b : Bool) : (s.officerSeen p b).out = s.out := by
  unfold State.officerSeen; split <;> rfl
@[simp] theorem State.officerSeen_wraps (s : State) (p : Nat) (b : Bool) : (s.officerSeen p b).wraps = s.wraps := by
  unfold State.officerSeen; split <;> rfl
@[simp] theorem State.officerSeen_now (s : State) (p : Nat) (b : Bool) : (s.officerSeen p b).now = s.now := by
  unfold State.officerSeen; split <;> rfl
@[simp] theorem State.officerSeen_mono (s : State) (p : Nat) (b : Bool) : (s.officerSeen p b).mono = s.mono := by
  unfold State.officerSeen; split <;> rfl
@[simp] theorem State.officerSeen_tape (s : State) (p : Nat) (b : Bool) : (s.officerSeen p b).tape = s.tape := by
  unfold State.officerSeen; split <;> rfl
@[simp] theorem State.officerSeen_ac (s : State) (p : Nat) (b : Bool) : (s.officerSeen p b).ac = s.ac := by
  unfold State.officerSeen; split <;> rfl
@[simp] theorem State.officerSeen_ic (s : State) (p : Nat) (b : Bool) : (s.officerSeen p b).ic = s.ic := by
  unfold State.officerSeen; split <;> rfl
@[simp] theorem State.officerSeen_md (s : State) (p : Nat) (b : Bool) : (s.officerSeen p b).md = s.md := by
  unfold State.officerSeen; split <;> rfl
@[simp] theorem State.officerSeen_lc (s : State) (p : Nat) (b : Bool) : (s.officerSeen p b).lc = s.lc := by
  unfold State.officerSeen; split <;> rfl
@[simp] theorem State.officerSeen_tm (s : State) (p : Nat) (b : Bool) : (s.officerSeen p b).tm = s.tm := by
  unfold State.officerSeen; split <;> rfl
@[simp] theorem State.officerSeen_ga (s : State) (p : Nat) (b : Bool) : (s.officerSeen p b).ga = s.ga := by
  unfold State.officerSeen; split <;> rfl
@[simp] theorem State.officerSeen_fr (s : State) (p : Nat) (b : Bool) : (s.officerSeen p b).fr = s.fr := by
  unfold State.officerSeen; split <;> rfl
@[simp] theorem State.officerSeen_ke (s : State) (p : Nat) (b : Bool) : (s.officerSeen p b).ke = s.ke := by
  unfold State.officerSeen; split <;> rfl
@[simp] theorem State.officerSeen_att (s : State) (p : Nat) (b : Bool) : (s.officerSeen p b).att = s.att := by
  unfold State.officerSeen; split <;> rfl
@[simp] theorem State.officerSeen_ch (s : State) (p : Nat) (b : Bool) : (s.officerSeen p b).ch = s.ch := by
  unfold State.officerSeen; split <;> rfl
@[simp] theorem State.officerSeen_au (s : State) (p : Nat) (b : Bool) : (s.officerSeen p b).au = s.au := by
  unfold State.officerSeen; split <;> rfl
@[simp] theorem State.officerSeen_pl (s : State) (p : Nat) (b : Bool) : (s.officerSeen p b).pl = s.pl := by
  unfold State.officerSeen; split <;> rfl
@[simp] theorem State.officerSeen_ca (s : State) (p : Nat) (b : Bool) : (s.officerSeen p b).ca = s.ca := by
  unfold State.officerSeen; split <;> rfl
@[simp] theorem State.officerSeen_hq (s : State) (p : Nat) (b : Bool) : (s.officerSeen p b).hq = s.hq := by
  unfold State.officerSeen; split <;> rfl
@[simp] theorem State.officerSeen_vn (s : State) (p : Nat) (b : Bool) : (s.officerSeen p b).vn = s.vn := by
  unfold State.officerSeen; split <;> rfl
@[simp] theorem State.officerSeen_ln (s : State) (p : Nat) (b : Bool) : (s.officerSeen p b).ln = s.ln := by
  unfold State.officerSeen; split <;> rfl
@[simp] theorem State.officerSeen_fl (s : State) (p : Nat) (b : Bool) : (s.officerSeen p b).fl = s.fl := by
  unfold State.officerSeen; split <;> rfl
@[simp] theorem State.officerSeen_cl (s : State) (p : Nat) (b : Bool) : (s.officerSeen p b).cl = s.cl := by
  unfold State.officerSeen; split <;> rfl
@[simp] theorem State.officerSeen_jg (s : State) (p : Nat) (b : Bool) : (s.officerSeen p b).jg = s.jg := by
  unfold State.officerSeen; split <;> rfl
@[simp] theorem State.officerSeen_cn (s : State) (p : Nat) (b : Bool) : (s.officerSeen p b).cn = s.cn := by
  unfold State.officerSeen; split <;> rfl
@[simp] theorem State.officerSeen_regs (s : State) (p : Nat) (b : Bool) : (s.officerSeen p b).regs = s.regs := by
  unfold State.officerSeen; split <;> rfl
@[simp] theorem State.officerSeen_get (s : State) (p : Nat) (b : Bool) (f : Fld) (i : Nat) :
    (s.officerSeen p b).get f i = s.get f i := State.get_congr (by simp) f i
@[simp] theorem State.officerSeen_chal (s : State) (p : Nat) (b : Bool) : (s.officerSeen p b).ofc.chal = s.ofc.chal := by
  unfold State.officerSeen; split <;> rfl
@[simp] theorem State.officerSeen_semLast (s : State) (p : Nat) (b : Bool) :
    (s.officerSeen p b).ofc.semLast = s.ofc.semLast := by unfold State.officerSeen; split <;> rfl

/-! The end of a command. -/

theorem State.closed_keep {β : Type} (φ : State → β) (hic : ∀ s x, φ { s with ic := x } = φ s)
    (hout : ∀ s x, φ { s with out := x } = φ s) (hw : ∀ s p v, φ (State.set s ICU_PORT.WAKE p v) = φ s)
    (hh : ∀ s x, φ { s with cl.heldSrcs := x } = φ s)
    (hd : ∀ s d t q c b,
      φ { s with md := { s.md with degClear := d, trans := t, pendReq := q, cyc := c, cycBegan := b } } = φ s)
    (hm : ∀ s v, φ (State.set s GLB_MODE.IN_TRANSITION 0 v) = φ s)
    (s : State) : φ s.closed = φ s := by
  have hp : ∀ s, φ (State.portsCome s) = φ s := by
    intro s
    unfold State.portsCome
    split
    · rw [hh, State.each_keep φ _ _ (fun i s => State.pend_keep φ hic hout hw s i)]
    · rfl
  have hn : ∀ s, φ (State.degNote s) = φ s := by
    intro s
    unfold State.degNote
    split
    · exact hd s _ s.md.trans s.md.pendReq s.md.cyc s.md.cycBegan
    · split
      · exact hd s _ s.md.trans s.md.pendReq s.md.cyc s.md.cycBegan
      · rfl
  have hb : ∀ s t, φ (State.begin s t) = φ s := fun s t =>
    (hd (s.set GLB_MODE.IN_TRANSITION 0 1) s.md.degClear (some t) s.md.pendReq s.md.cyc false).trans (hm s 1)
  have hy : ∀ s, φ (State.yieldReq s) = φ s := by
    intro s
    unfold State.yieldReq
    split
    · exact (hd (s.set GLB_MODE.IN_TRANSITION 0 0) s.md.degClear none (s.md.cyc.map (·.req)) none false).trans (hm s 0)
    · rfl
  have hz : ∀ s, φ (State.settle s) = φ s := by
    intro s
    unfold State.settle
    split
    · rw [hb, hy]
    · rfl
  rw [State.closed, hz, hn, hp]

@[simp] theorem State.closed_pending (s : State) : s.closed.pending = s.pending :=
  State.closed_keep (·.pending) (fun _ _ => rfl) (fun _ _ => rfl) (fun _ _ _ => rfl) (fun _ _ => rfl)
    (fun _ _ _ _ _ _ => rfl) (fun _ _ => rfl) s
@[simp] theorem State.closed_wraps (s : State) : s.closed.wraps = s.wraps :=
  State.closed_keep (·.wraps) (fun _ _ => rfl) (fun _ _ => rfl) (fun _ _ _ => rfl) (fun _ _ => rfl)
    (fun _ _ _ _ _ _ => rfl) (fun _ _ => rfl) s
@[simp] theorem State.closed_now (s : State) : s.closed.now = s.now :=
  State.closed_keep (·.now) (fun _ _ => rfl) (fun _ _ => rfl) (fun _ _ _ => rfl) (fun _ _ => rfl)
    (fun _ _ _ _ _ _ => rfl) (fun _ _ => rfl) s
@[simp] theorem State.closed_mono (s : State) : s.closed.mono = s.mono :=
  State.closed_keep (·.mono) (fun _ _ => rfl) (fun _ _ => rfl) (fun _ _ _ => rfl) (fun _ _ => rfl)
    (fun _ _ _ _ _ _ => rfl) (fun _ _ => rfl) s
@[simp] theorem State.closed_tape (s : State) : s.closed.tape = s.tape :=
  State.closed_keep (·.tape) (fun _ _ => rfl) (fun _ _ => rfl) (fun _ _ _ => rfl) (fun _ _ => rfl)
    (fun _ _ _ _ _ _ => rfl) (fun _ _ => rfl) s
@[simp] theorem State.closed_ac (s : State) : s.closed.ac = s.ac :=
  State.closed_keep (·.ac) (fun _ _ => rfl) (fun _ _ => rfl) (fun _ _ _ => rfl) (fun _ _ => rfl)
    (fun _ _ _ _ _ _ => rfl) (fun _ _ => rfl) s
@[simp] theorem State.closed_lc (s : State) : s.closed.lc = s.lc :=
  State.closed_keep (·.lc) (fun _ _ => rfl) (fun _ _ => rfl) (fun _ _ _ => rfl) (fun _ _ => rfl)
    (fun _ _ _ _ _ _ => rfl) (fun _ _ => rfl) s
@[simp] theorem State.closed_tm (s : State) : s.closed.tm = s.tm :=
  State.closed_keep (·.tm) (fun _ _ => rfl) (fun _ _ => rfl) (fun _ _ _ => rfl) (fun _ _ => rfl)
    (fun _ _ _ _ _ _ => rfl) (fun _ _ => rfl) s
@[simp] theorem State.closed_ga (s : State) : s.closed.ga = s.ga :=
  State.closed_keep (·.ga) (fun _ _ => rfl) (fun _ _ => rfl) (fun _ _ _ => rfl) (fun _ _ => rfl)
    (fun _ _ _ _ _ _ => rfl) (fun _ _ => rfl) s
@[simp] theorem State.closed_fr (s : State) : s.closed.fr = s.fr :=
  State.closed_keep (·.fr) (fun _ _ => rfl) (fun _ _ => rfl) (fun _ _ _ => rfl) (fun _ _ => rfl)
    (fun _ _ _ _ _ _ => rfl) (fun _ _ => rfl) s
@[simp] theorem State.closed_ke (s : State) : s.closed.ke = s.ke :=
  State.closed_keep (·.ke) (fun _ _ => rfl) (fun _ _ => rfl) (fun _ _ _ => rfl) (fun _ _ => rfl)
    (fun _ _ _ _ _ _ => rfl) (fun _ _ => rfl) s
@[simp] theorem State.closed_att (s : State) : s.closed.att = s.att :=
  State.closed_keep (·.att) (fun _ _ => rfl) (fun _ _ => rfl) (fun _ _ _ => rfl) (fun _ _ => rfl)
    (fun _ _ _ _ _ _ => rfl) (fun _ _ => rfl) s
@[simp] theorem State.closed_ch (s : State) : s.closed.ch = s.ch :=
  State.closed_keep (·.ch) (fun _ _ => rfl) (fun _ _ => rfl) (fun _ _ _ => rfl) (fun _ _ => rfl)
    (fun _ _ _ _ _ _ => rfl) (fun _ _ => rfl) s
@[simp] theorem State.closed_au (s : State) : s.closed.au = s.au :=
  State.closed_keep (·.au) (fun _ _ => rfl) (fun _ _ => rfl) (fun _ _ _ => rfl) (fun _ _ => rfl)
    (fun _ _ _ _ _ _ => rfl) (fun _ _ => rfl) s
@[simp] theorem State.closed_pl (s : State) : s.closed.pl = s.pl :=
  State.closed_keep (·.pl) (fun _ _ => rfl) (fun _ _ => rfl) (fun _ _ _ => rfl) (fun _ _ => rfl)
    (fun _ _ _ _ _ _ => rfl) (fun _ _ => rfl) s
@[simp] theorem State.closed_ca (s : State) : s.closed.ca = s.ca :=
  State.closed_keep (·.ca) (fun _ _ => rfl) (fun _ _ => rfl) (fun _ _ _ => rfl) (fun _ _ => rfl)
    (fun _ _ _ _ _ _ => rfl) (fun _ _ => rfl) s
@[simp] theorem State.closed_hq (s : State) : s.closed.hq = s.hq :=
  State.closed_keep (·.hq) (fun _ _ => rfl) (fun _ _ => rfl) (fun _ _ _ => rfl) (fun _ _ => rfl)
    (fun _ _ _ _ _ _ => rfl) (fun _ _ => rfl) s
@[simp] theorem State.closed_vn (s : State) : s.closed.vn = s.vn :=
  State.closed_keep (·.vn) (fun _ _ => rfl) (fun _ _ => rfl) (fun _ _ _ => rfl) (fun _ _ => rfl)
    (fun _ _ _ _ _ _ => rfl) (fun _ _ => rfl) s
@[simp] theorem State.closed_ln (s : State) : s.closed.ln = s.ln :=
  State.closed_keep (·.ln) (fun _ _ => rfl) (fun _ _ => rfl) (fun _ _ _ => rfl) (fun _ _ => rfl)
    (fun _ _ _ _ _ _ => rfl) (fun _ _ => rfl) s
@[simp] theorem State.closed_fl (s : State) : s.closed.fl = s.fl :=
  State.closed_keep (·.fl) (fun _ _ => rfl) (fun _ _ => rfl) (fun _ _ _ => rfl) (fun _ _ => rfl)
    (fun _ _ _ _ _ _ => rfl) (fun _ _ => rfl) s
@[simp] theorem State.closed_ofc (s : State) : s.closed.ofc = s.ofc :=
  State.closed_keep (·.ofc) (fun _ _ => rfl) (fun _ _ => rfl) (fun _ _ _ => rfl) (fun _ _ => rfl)
    (fun _ _ _ _ _ _ => rfl) (fun _ _ => rfl) s
@[simp] theorem State.closed_jg (s : State) : s.closed.jg = s.jg :=
  State.closed_keep (·.jg) (fun _ _ => rfl) (fun _ _ => rfl) (fun _ _ _ => rfl) (fun _ _ => rfl)
    (fun _ _ _ _ _ _ => rfl) (fun _ _ => rfl) s
@[simp] theorem State.closed_cn (s : State) : s.closed.cn = s.cn :=
  State.closed_keep (·.cn) (fun _ _ => rfl) (fun _ _ => rfl) (fun _ _ _ => rfl) (fun _ _ => rfl)
    (fun _ _ _ _ _ _ => rfl) (fun _ _ => rfl) s
@[simp] theorem State.closed_md_pendLock (s : State) : s.closed.md.pendLock = s.md.pendLock :=
  State.closed_keep (·.md.pendLock) (fun _ _ => rfl) (fun _ _ => rfl) (fun _ _ _ => rfl) (fun _ _ => rfl)
    (fun _ _ _ _ _ _ => rfl) (fun _ _ => rfl) s
@[simp] theorem State.closed_md_pendWarm (s : State) : s.closed.md.pendWarm = s.md.pendWarm :=
  State.closed_keep (·.md.pendWarm) (fun _ _ => rfl) (fun _ _ => rfl) (fun _ _ _ => rfl) (fun _ _ => rfl)
    (fun _ _ _ _ _ _ => rfl) (fun _ _ => rfl) s
@[simp] theorem State.closed_md_heldLock (s : State) : s.closed.md.heldLock = s.md.heldLock :=
  State.closed_keep (·.md.heldLock) (fun _ _ => rfl) (fun _ _ => rfl) (fun _ _ _ => rfl) (fun _ _ => rfl)
    (fun _ _ _ _ _ _ => rfl) (fun _ _ => rfl) s
@[simp] theorem State.closed_cl_clmWin (s : State) : s.closed.cl.clmWin = s.cl.clmWin :=
  State.closed_keep (·.cl.clmWin) (fun _ _ => rfl) (fun _ _ => rfl) (fun _ _ _ => rfl) (fun _ _ => rfl)
    (fun _ _ _ _ _ _ => rfl) (fun _ _ => rfl) s
@[simp] theorem State.closed_cl_coalesce (s : State) : s.closed.cl.coalesce = s.cl.coalesce :=
  State.closed_keep (·.cl.coalesce) (fun _ _ => rfl) (fun _ _ => rfl) (fun _ _ _ => rfl) (fun _ _ => rfl)
    (fun _ _ _ _ _ _ => rfl) (fun _ _ => rfl) s
@[simp] theorem State.closed_cl_trips (s : State) : s.closed.cl.trips = s.cl.trips :=
  State.closed_keep (·.cl.trips) (fun _ _ => rfl) (fun _ _ => rfl) (fun _ _ _ => rfl) (fun _ _ => rfl)
    (fun _ _ _ _ _ _ => rfl) (fun _ _ => rfl) s
@[simp] theorem State.closed_cl_braceAt (s : State) : s.closed.cl.braceAt = s.cl.braceAt :=
  State.closed_keep (·.cl.braceAt) (fun _ _ => rfl) (fun _ _ => rfl) (fun _ _ _ => rfl) (fun _ _ => rfl)
    (fun _ _ _ _ _ _ => rfl) (fun _ _ => rfl) s
@[simp] theorem State.closed_cl_armedOff (s : State) : s.closed.cl.armedOff = s.cl.armedOff :=
  State.closed_keep (·.cl.armedOff) (fun _ _ => rfl) (fun _ _ => rfl) (fun _ _ _ => rfl) (fun _ _ => rfl)
    (fun _ _ _ _ _ _ => rfl) (fun _ _ => rfl) s
@[simp] theorem State.closed_cl_log (s : State) : s.closed.cl.log = s.cl.log :=
  State.closed_keep (·.cl.log) (fun _ _ => rfl) (fun _ _ => rfl) (fun _ _ _ => rfl) (fun _ _ => rfl)
    (fun _ _ _ _ _ _ => rfl) (fun _ _ => rfl) s
@[simp] theorem State.closed_cl_logSeq (s : State) : s.closed.cl.logSeq = s.cl.logSeq :=
  State.closed_keep (·.cl.logSeq) (fun _ _ => rfl) (fun _ _ => rfl) (fun _ _ _ => rfl) (fun _ _ => rfl)
    (fun _ _ _ _ _ _ => rfl) (fun _ _ => rfl) s
@[simp] theorem State.closed_cl_logHeld (s : State) : s.closed.cl.logHeld = s.cl.logHeld :=
  State.closed_keep (·.cl.logHeld) (fun _ _ => rfl) (fun _ _ => rfl) (fun _ _ _ => rfl) (fun _ _ => rfl)
    (fun _ _ _ _ _ _ => rfl) (fun _ _ => rfl) s
@[simp] theorem State.closed_cl_logOff (s : State) : s.closed.cl.logOff = s.cl.logOff :=
  State.closed_keep (·.cl.logOff) (fun _ _ => rfl) (fun _ _ => rfl) (fun _ _ _ => rfl) (fun _ _ => rfl)
    (fun _ _ _ _ _ _ => rfl) (fun _ _ => rfl) s
@[simp] theorem State.closed_cl_backupNew (s : State) : s.closed.cl.backupNew = s.cl.backupNew :=
  State.closed_keep (·.cl.backupNew) (fun _ _ => rfl) (fun _ _ => rfl) (fun _ _ _ => rfl) (fun _ _ => rfl)
    (fun _ _ _ _ _ _ => rfl) (fun _ _ => rfl) s
@[simp] theorem State.closed_cl_eraseDue (s : State) : s.closed.cl.eraseDue = s.cl.eraseDue :=
  State.closed_keep (·.cl.eraseDue) (fun _ _ => rfl) (fun _ _ => rfl) (fun _ _ _ => rfl) (fun _ _ => rfl)
    (fun _ _ _ _ _ _ => rfl) (fun _ _ => rfl) s
@[simp] theorem State.closed_cl_dormAlarm (s : State) : s.closed.cl.dormAlarm = s.cl.dormAlarm :=
  State.closed_keep (·.cl.dormAlarm) (fun _ _ => rfl) (fun _ _ => rfl) (fun _ _ _ => rfl) (fun _ _ => rfl)
    (fun _ _ _ _ _ _ => rfl) (fun _ _ => rfl) s
@[simp] theorem State.closed_cl_dormNow (s : State) : s.closed.cl.dormNow = s.cl.dormNow :=
  State.closed_keep (·.cl.dormNow) (fun _ _ => rfl) (fun _ _ => rfl) (fun _ _ _ => rfl) (fun _ _ => rfl)
    (fun _ _ _ _ _ _ => rfl) (fun _ _ => rfl) s
@[simp] theorem State.closed_cl_dormMono (s : State) : s.closed.cl.dormMono = s.cl.dormMono :=
  State.closed_keep (·.cl.dormMono) (fun _ _ => rfl) (fun _ _ => rfl) (fun _ _ _ => rfl) (fun _ _ => rfl)
    (fun _ _ _ _ _ _ => rfl) (fun _ _ => rfl) s
@[simp] theorem State.closed_cl_dormInvalid (s : State) : s.closed.cl.dormInvalid = s.cl.dormInvalid :=
  State.closed_keep (·.cl.dormInvalid) (fun _ _ => rfl) (fun _ _ => rfl) (fun _ _ _ => rfl) (fun _ _ => rfl)
    (fun _ _ _ _ _ _ => rfl) (fun _ _ => rfl) s

theorem State.closed_get (s : State) {f : Fld} (h : closeMoves f = false) (i : Nat) : s.closed.get f i = s.get f i := by
  simp only [closeMoves, List.contains_cons, List.contains_nil, Bool.or_false, Bool.or_eq_false_iff, beq_eq_false_iff_ne] at h
  exact State.closed_keep (fun s => s.get f i) (fun _ _ => rfl) (fun _ _ => rfl)
    (fun s p v => State.get_set_field s h.1 i p v) (fun _ _ => rfl) (fun _ _ _ _ _ _ => rfl)
    (fun s v => State.get_set_field s h.2 i 0 v) s

end Sys2Proof.Machine
end

