-- ==== Sys2Proof/Laws/Access.lean ====
section
/-! SUPPORT. Laws/Access.lean: an admitted access does its action; the end of a datapath command in a calm state. -/
namespace Sys2Proof.Machine

/-- An admitted access acts on the state after its hints and the Officer's mark (R391, R396, R408). -/
theorem State.access_of_admits (s : State) (p fn : Nat) (bar2 wr : Bool) (off : Nat) (act deny : State → State)
    (h : s.admits p fn bar2 wr off = true) :
    s.access p fn bar2 wr off act deny = act (s.granted p bar2) := by
  simp only [State.admits, Bool.and_eq_true, beq_iff_eq] at h
  simp [State.access, State.granted, h.1, h.2]

/-- An admitted write of function 0. -/
theorem State.onWrite_of_admits (s : State) (p : Nat) (bar2 : Bool) (off : Nat) (act : State → State)
    (h : s.admits p 0 bar2 true off = true) :
    s.onWrite p bar2 off act = act (s.granted p bar2) := State.access_of_admits s p 0 bar2 true off act id h

/-- Calmness rests on the frame lists, the streams and the alarms only. -/
theorem State.calm_congr {s t : State} (he : t.fr.egress = s.fr.egress) (hi : t.fr.ingress = s.fr.ingress)
    (hc : t.ca.carTx = s.ca.carTx) (ha : t.vn.alarms = s.vn.alarms) : t.calm = s.calm := by
  simp [State.calm, State.eg, State.ig, State.carTxOf, he, hi, hc, ha]

theorem State.flow_calm (s : State) (h : s.calm = true) : s.flow = s := by
  simp only [State.calm, Bool.and_eq_true, List.all_eq_true, Bool.not_eq_true'] at h
  have h := h.1
  have one : ∀ l : List Nat, (∀ r ∈ l, r ∈ upto 4) → State.each s l (fun r s => (s.relEg r).relIg r) = s := by
    intro l hl
    induction l with
    | nil => rfl
    | cons r l ih =>
      have hr := h.1 r (hl r (by simp))
      have e : State.each s (r :: l) (fun r s => (s.relEg r).relIg r) =
        State.each ((s.relEg r).relIg r) l (fun r s => (s.relEg r).relIg r) := rfl
      have h1 : s.relEg r = s := by unfold State.relEg; rw [if_neg]; simp [hr.1]
      have h2 : s.relIg r = s := by unfold State.relIg; rw [if_neg]; simp [hr.2]
      rw [e, h1, h2]
      exact ih (fun x hx => hl x (by simp [hx]))
  exact one _ (fun _ h => h)

theorem State.carEnd_calm (s : State) (h : s.calm = true) : s.each (upto 16) (fun k s => s.carEnd k) = s := by
  simp only [State.calm, Bool.and_eq_true, List.all_eq_true, Bool.not_eq_true'] at h
  have one : ∀ l : List Nat, (∀ k ∈ l, k ∈ upto 16) → State.each s l (fun k s => s.carEnd k) = s := by
    intro l hl
    induction l with
    | nil => rfl
    | cons k l ih =>
      have e : s.carEnd k = s := by unfold State.carEnd; rw [if_neg]; simp [h.1.2 k (hl k (by simp))]
      have e2 : State.each s (k :: l) (fun k s => s.carEnd k) = State.each (s.carEnd k) l (fun k s => s.carEnd k) := rfl
      rw [e2, e]
      exact ih (fun x hx => hl x (by simp [hx]))
  exact one _ (fun _ h => h)

/-- In a calm state the end of a datapath command is the end of any command. -/
theorem finish_calm (s : State) (h : s.calm = true) : finish s = .next s.closed := by
  have ha : s.vn.alarms = 0 := by
    simp only [State.calm, Bool.and_eq_true, beq_iff_eq] at h
    exact h.2
  have ht : s.takeAlarms = s := by
    have e : ({ s with vn.alarms := 0 } : State) = s := by rw [← ha]
    unfold State.takeAlarms
    rw [ha]
    exact e
  unfold finish done
  rw [State.flow_calm s h, State.carEnd_calm s h, ht]

end Sys2Proof.Machine
end

