-- ==== Sys2Proof/Laws/Deep.lean ====
section
/-! SUPPORT. What a clean read of the deep buffer answers (R306). -/

namespace Sys2Proof.Machine

/-- A line whose tag is the one its data, page and epoch give is clean. -/
theorem State.lineCheck_clean {s : State} {p l : Nat} {r : Line} {k : VnrKeys} (hk : s.pageKeys p = some k)
    (ht : r.tag = lineTag k.kt k.kh p l false (Tab.get Page.none s.vn.pages p).count k.epoch r.data) :
    s.lineCheck p l r = 1 := by simp [State.lineCheck, hk, ht]

/-- A deep grant changes no line's check. -/
theorem State.lineCheck_deepUsed (s : State) (r n p l : Nat) (x : Line) :
    (s.deepUsed r n).lineCheck p l x = s.lineCheck p l x := rfl

/-- A clean line is read in one read and changes nothing. -/
theorem State.lineRead_clean {s : State} {p l : Nat} (b : Bool)
    (h : s.lineCheck p l (Tab.get Line.none s.vn.lines (64 * p + l)) = 1) :
    s.lineRead p l [] b = (some (s.linePlain p l (Tab.get Line.none s.vn.lines (64 * p + l))), s) := by
  simp [State.lineRead, h]

/-- A unit whose four lines are clean is read back and freed. -/
theorem State.deepFetch_clean {s : State} {u : Nat}
    (h : ∀ j ∈ upto 4, s.lineCheck (u / 16) (u % 16 * 4 + j)
      (Tab.get Line.none s.vn.lines (64 * (u / 16) + (u % 16 * 4 + j))) = 1) :
    s.deepFetch [u] = (some ((upto 4).flatMap fun j => s.linePlain (u / 16) (u % 16 * 4 + j)
      (Tab.get Line.none s.vn.lines (64 * (u / 16) + (u % 16 * 4 + j)))), s.unitFree u) := by
  have key : ∀ (js : List Nat) (d : List Octet), (∀ j ∈ js, s.lineCheck (u / 16) (u % 16 * 4 + j)
      (Tab.get Line.none s.vn.lines (64 * (u / 16) + (u % 16 * 4 + j))) = 1) →
      js.foldl (fun (a : Option (List Octet) × State) j =>
        match a.1 with
        | none => a
        | some d =>
          match a.2.lineRead (u / 16) (u % 16 * 4 + j) [] false with
          | (some x, s) => (some (d ++ x), s)
          | (none, s) => (none, s)) (some d, s) =
      (some (d ++ js.flatMap fun j => s.linePlain (u / 16) (u % 16 * 4 + j)
        (Tab.get Line.none s.vn.lines (64 * (u / 16) + (u % 16 * 4 + j)))), s) := by
    intro js
    induction js with
    | nil => simp
    | cons j js ih =>
      intro d hd
      rw [List.foldl_cons]
      simp only [State.lineRead_clean false (hd j (by simp))]
      rw [ih _ (fun k hk => hd k (by simp [hk]))]
      simp
  have f : ∀ r : Option (List Octet) × State, r = _ → s.deepFetch [u] = (r.1, r.2.unitFree u) :=
    fun r hr => hr ▸ rfl
  rw [f _ (key (upto 4) [] h).symm]
  rfl

end Sys2Proof.Machine
end

