-- ==== Sys2Proof/Tests/Slice0.lean ====
section
/-!
SUPPORT. Tests/Slice0.lean: ill-formed commands refused, worked examples of the spec, and for every statement that has
hypotheses a state and operands that meet them.
-/
open Sys2Proof Sys2Proof.Machine

namespace Sys2Proof.Tests
set_option linter.unusedVariables false
set_option Elab.async false

/-! ## States the tests are about -/

/-- The next state of an outcome. -/
def nextOf (o : Host.Outcome State Fault Refusal) : State := match o with | .next t => t | _ => State.reset
/-- Reset with some fields set. -/
def st (l : List (Fld × Nat × Nat)) : State := l.foldl (fun s x => s.set x.1 x.2.1 x.2.2) State.reset
/-- STANDBY with both ports up and an Officer session on MP0. -/
def std : State := st [(GLB_MODE.MODE,0,2),(GLB_MODE.BASE,0,2),(GLB_BOOT_STATUS.STAGE,0,13),(ICU_PORT.LINK,0,1),(ICU_PORT.LINK,1,1),(OFC_SESSION.STATE,0,2)]
/-- A command waits. -/
def stdCmd : State := { std with pending := [.resetNRelease] }
/-- A signed image of 324 octets. -/
def img : List Octet := beBytes 324 0x4b514a47010080000100000000000300800000000000000080000000000000008000000000000000800000000000000080000000000000000000000000000000000000000000000000000000000000000000000000000000000000000000000000000000000000000000000000000000000000000000000000000000000000000442cdb3f5cacf7f350219b0ca4364f3d753e0b5ee28698957b4d686303eddd810803ce7cc95a523de01f0b8c3b0181bdcfd4c68e934c4160b0f2e4e9a856f7f2703bae26876874e5379cad3894eb591c789412473834b4324f9cc25cfe4122499000000608285dcd67e958777cdbad52e77dbba82d19b0647b15cc5e86e30a8b17843b4096509fa5b24eeae0d001553ab4602ef608285dcd67e958777cdbad52e77dbba82d19b0647b15cc5e86e30a8b17843b4096509fa5b24eeae0d001553ab4602ef
def im0 : Image := ⟨1, 0, 3, [], [], [], [], [], 0⟩
def fz3 : Fuses := ⟨3, 0, [⟨sha384 (slice img 128 97), [0]⟩], [], [], 0⟩
def lcs (n : Nat) (s : State) : State := { s with lc := { s.lc with fuses := { s.lc.fuses with lcs := n } } }
/-- Some fields set. -/
def sets (s : State) (l : List (Fld × Nat × Nat)) : State := l.foldl (fun s x => s.set x.1 x.2.1 x.2.2) s
/-- BOOT at a stage. -/
def boot (k : Nat) : State := sets State.reset [(GLB_MODE.MODE,0,1),(GLB_BOOT_STATUS.STAGE,0,k)]
/-- A mode. -/
def inMode (m : Nat) : State := sets std [(GLB_MODE.MODE,0,m),(GLB_MODE.BASE,0,m)]
def std1 : State := sets std [(OFC_SESSION.STATE,1,2)]
def withDrbg (s : State) : State := sets { s with ch := { s.ch with drbg := some (⟨beBytes 32 1, beBytes 16 2⟩), ctxKey := beBytes 40 7 } } [(RNG_STATUS.STATE,0,1)]
def vk : VnrKeys := ⟨0, beBytes 32 1, beBytes 32 2, beBytes 32 3, beBytes 16 4⟩
/-- Veneer with one epoch and a live page. -/
def vnS : State := { std with vn := { std.vn with vnrKeys := [vk], capPages := 524288, pages := [(5, ⟨0, .live, 1⟩)] } }
def dr : Drbg := ⟨beBytes 32 1, beBytes 16 2⟩
def fr0 (d : List Octet) : Frame := { data := d, time := 0, mono := 0, age := 0, steps := 0, src := some 0, ring := none, prio := 0, queue := 0, cq := 0, reg := 0, ord := 0, sc := none, lp := 0, launch := none, want := 0, ptp := false, strict := false, tsId := none, sampled := false, deep := false }
def body60 : List Octet := beBytes 60 0x0102030405060708090a0b0c0d0e0f101112131415161718191a1b1c1d1e1f202122232425262728292a2b2c2d2e2f303132333435363738393a3b3c
def frameOk : List Octet := body60 ++ fcs body60
/-- Host port 0 and LP00 are up. -/
def line : State := sets std [(RGN_HPORT.EN,0,1),(RGN_HPORT.LINK,0,1),(RGN_HPORT.LINK,lpIdx 0,1),(TIM_HP.CAL_DONE,0,1),(TIM_LP.CAL_DONE,0,1),(RGN_IGR_POOL.RESERVE,0,1000),(RGN_IGR_POOL.HP_LIMIT,0,500),(GLB_REGION_STATUS.RGN0,0,1),(OFC_CLR_POLICY.IGR_OTHER_OK,0,1),(OFC_CLR_POLICY.EGR_OTHER_OK,0,1)]
def q0 (f : Frame) : Queue := { Queue.none with cells := [f] }
def eg0 (f : Frame) : EgItem := ⟨f, 0, 0, 7, 1, [], ⟨true, true, 0, false, false, 0, 0, 0⟩, [], 0, .wait, false, none⟩
def ig0 (d : List Octet) : InItem := ⟨d, 0, 0, 0, 0, 0, 0, 3, ⟨2, 0, 0, 0, 0, 0, true, 0⟩, false, 5, beBytes 16 1, [], 0, .wait, false⟩
def li0 (f : Frame) : LineItem := ⟨f.data, f, 0, 0, false, false, none⟩
def out0 : OutFrame := ⟨body60, 0, none, 0, 0, 0, 1, 0, 0, 0, false, false⟩
def setEg (s : State) (l : List EgItem) : State := { s with fr := { s.fr with egress := Tab.set [] s.fr.egress 0 l } }
def setIg (s : State) (l : List InItem) : State := { s with fr := { s.fr with ingress := Tab.set [] s.fr.ingress 0 l } }
def setLo (s : State) (l : List LineItem) : State := { s with fr := { s.fr with lineOut := Tab.set [] s.fr.lineOut 0 l } }
def setQ (s : State) (q : Nat) (x : Queue) : State := { s with pl := { s.pl with queues := Tab.set Queue.none s.pl.queues q x } }
def setRing (s : State) (k : Nat) (x : Ring) : State := { s with hq := { s.hq with rings := Tab.set Ring.none s.hq.rings k x } }
def setTx (s : State) (x : CarTx) : State := { s with ca := { s.ca with carTx := Tab.set CarTx.none s.ca.carTx 0 x } }
def setRx (s : State) (x : CarRx) : State := { s with ca := { s.ca with carRx := Tab.set CarRx.none s.ca.carRx 0 x } }
/-- LP00 carries a guarded stream. -/
def grd : State := sets line [(GLB_MODE.MODE,0,4),(GLB_MODE.BASE,0,4),(CAR_TX.EN,0,1),(CAR_TX.SC,0,0),(SCT_TX.VALID,0,1),(SCT_TX.SUITE,0,2),(CAR_TX.CSIZE,0,512),(CAR_TX.PERIOD_PS,0,1000000),(CAR_TX.RUNNING,0,1),(SAT_TX.STATE,0,2)]
def bm (s : State) : State := { s with ic := { s.ic with busMaster := [(0,true),(1,true)] } }
def ring (k : Nat) (n : Nat) (s : State) : State := sets (bm s) [(HQ_PUNT.EN,k,1),(HQ_PUNT.SIZE_LOG2,k,8),(HQ_PUNT.PROD,k,n)]
def pu : Punt := { data := body60, origLen := 60, reason := 1, dirLine := true, port := 0, rule := 0, time := 0, holdover := false, cells := 1, reg := 0, igr := true, begun := false, written := 0, first := 0, nbuf := 0, badDesc := false }
def injD (mode : Nat) (len : Nat) : List Octet := leBytes 8 0x1000 ++ leBytes 2 len ++ [BitVec.ofNat 8 mode, 0] ++ leBytes 20 0
theorem some_getD {α : Type} {x : Option α} {d : α} (h : x.isSome = true) : x = some (x.getD d) := by
  cases x with
  | none => cases h
  | some a => rfl
theorem grid_le {s : State} {lp t n : Nat} (h : ceilDiv t (2 ^ 16) * 2 ^ 16 + 2 ^ 32 ≤ n) : s.gridAtOrAfter lp t ≤ n := by
  have := (Config.gridDelta lp (Tab.get 0 s.ca.phase lp) (ceilDiv t (2 ^ 16) * 2 ^ 16)).isLt
  unfold State.gridAtOrAfter
  omega
theorem noReissueEg {l : List EgItem} (h : l.all (fun y => match y.stat with | .reissue _ => false | _ => true) = true) :
    ∀ y ∈ l, ∀ n, y.stat ≠ .reissue n := by
  intro y hy n e
  have := List.all_eq_true.mp h y hy
  simp [e] at this
theorem noReissueIg {l : List InItem} (h : l.all (fun y => match y.stat with | .reissue _ => false | _ => true) = true) :
    ∀ y ∈ l, ∀ n, y.stat ≠ .reissue n := by
  intro y hy n e
  have := List.all_eq_true.mp h y hy
  simp [e] at this
def clean (j : Nat) : Line := ⟨List.replicate 64 9, lineTag vk.kt vk.kh 5 j false 0 0 (List.replicate 64 9)⟩
def vnL : State := { line with vn := { vnS.vn with lines := [(320, clean 0), (321, clean 1), (322, clean 2), (323, clean 3)] } }
/-- A queue with a frame in the deep buffer. -/
def vnU : State := setQ vnL 0 { Queue.none with deep := [⟨fr0 body60, [80]⟩] }
theorem vnU_clean : ∀ j ∈ upto 4, vnU.lineCheck (80 / 16) (80 % 16 * 4 + j)
    (Tab.get Line.none vnU.vn.lines (64 * (80 / 16) + (80 % 16 * 4 + j))) = 1 := by
  intro j hj
  refine State.lineCheck_clean (k := vk) rfl ?_
  have : j = 0 ∨ j = 1 ∨ j = 2 ∨ j = 3 := by simp [upto] at hj; omega
  rcases this with rfl | rfl | rfl | rfl <;> rfl
def vnP : State := { vnU with vn := { vnU.vn with lines := [(320, ⟨List.replicate 64 9, lineTag vk.kt vk.kh 5 0 true 0 0 (List.replicate 64 9)⟩)] } }
theorem vnP_poison : vnP.lineCheck 5 0 (vnP.rawRead 5 0 [] 0) = 2 := by decide +kernel
def vnD : State := vnU.deepUsed 0 0
theorem vnD_clean : ∀ j ∈ upto 4, vnD.lineCheck (80 / 16) (80 % 16 * 4 + j)
    (Tab.get Line.none vnD.vn.lines (64 * (80 / 16) + (80 % 16 * 4 + j))) = 1 :=
  fun j hj => (State.lineCheck_deepUsed vnU 0 0 _ _ _).trans (vnU_clean j hj)
def fTagBad : List Octet := beBytes 12 5 ++ [0x88,0xe5,0xac,0] ++ List.replicate 44 0 ++ [0x98, 0x04, 0xd6, 0xf3]
def fSecured : List Octet := beBytes 12 0x0102030405060708090a0b0c ++ [0x88,0xe5,0x2c,16] ++ beBytes 4 3 ++ List.replicate 40 5 ++ [0xb5, 0x62, 0x22, 0x91]

/-! ## Ill-formed commands are refused, one for each check of WellFormed -/

theorem test_illFormed_refused : ([
    .powerGood 128 0 true true, .powerGood 0 128 true true, .lpddr5xTrainingComplete 0 [], .advFactory [], .advProvisioned 0 [],
    .registerWrite 0 0 false 2 0 15, .registerWrite 0 1 true 0 0 15, .heldWordWrite 0 true 0x100000 0,
    .wideLowRead 0 0 false 0x2000000, .rcRead 0 1 false 0x1000000, .timeCopyDisagree timeSpan 0 0, .timeCopyDisagree 0 timeSpan 0,
    .timeCopyDisagree 0 0 timeSpan, .rngRequest 0 1024, .injectDescriptorFetch 0 [], .deepRead dataPageMax 0 [],
    .deepRead 0 0 [⟨[], []⟩], .deepPartialWrite dataPageMax 0 true (List.replicate 32 0) [], .deepPartialWrite 0 0 true [] [],
    .deepPartialWrite 0 0 true (List.replicate 32 0) [⟨[], []⟩], .marchTestComplete dataPageMax 0 true, .spareCopyComplete dataPageMax,
    .dfeTapLimit 63 (List.replicate 12 0), .dfeTapLimit 64 [], .dfeAdapted 63 (List.replicate 12 0), .dfeAdapted 64 [],
    .moduleIdentify 0 [] (List.replicate 16 0) (List.replicate 16 0), .moduleIdentify 0 (List.replicate 16 0) [] (List.replicate 16 0),
    .moduleIdentify 0 (List.replicate 16 0) (List.replicate 16 0) [], .datapathActivated 0 9,
    .moduleMonitorPoll 0 0 0 [] (List.replicate 8 0), .moduleMonitorPoll 0 0 0 (List.replicate 6 0) [],
    .modaccComplete 0 true (List.replicate 9 0), .sramUncorrectable (.counter 2) 0 0, .rowBistComplete (.counter 2) .spared,
    .regionRestartComplete 0 0 true [] (List.replicate 9 true), .regionRestartComplete 0 0 true (List.replicate 9 true) [],
    .feedDivergence 0 .a 65536, .clampSupplyTrip (.feed 0 .a) (.delayLine 65536), .vbatLow 65536] : List Instr).all
    (fun i => !i.wellFormed) = true := by decide

theorem test_wellFormed_accepted : ([
    .powerGood 127 127 true true, .registerWrite 0 0 false 0x1FFFFFC 0 15, .registerWrite 1 1 false 0xFFFFFC 0 15,
    .heldWordWrite 0 true 0xFFFFC 0, .rngRequest 0 1023, .deepRead 0 63 [], .dfeAdapted 95 (List.replicate 12 0), .vbatLow 65535,
    .datapathActivated 15 8] : List Instr).all Instr.wellFormed = true := by decide

/-! ## Worked examples of the spec -/

/-- Section 04, XPN recovery: frames A to D against their LOW. -/
theorem test_recoverPn : recoverPn true 0xFFFFFFF5 0x2FFFFFFB0 = 0x2FFFFFFF5 ∧ recoverPn true 2 0x2FFFFFFB6 = 0x300000002 ∧
    recoverPn true 0xFFFFFFE0 0x2FFFFFFC3 = 0x2FFFFFFE0 ∧ recoverPn true 0xFFFFFFB8 0x2FFFFFFC3 = 0x3FFFFFFB8 := by decide

/-- Section 04: LOW of that receive SA is NEXT_PN - 64. -/
theorem test_rxLow : (sets std [(SAT_RX.FLOOR, 4100, 1), (SAT_RX.NEXT_PN, 4100, 0x2FFFFFFF0)]).rxLow
    64 4100 = 0x2FFFFFFB0 := by decide +kernel

/-- Section 03, one frame byte by byte: the SecTAG of SC 679. -/
theorem test_secTag : secTag ⟨true, true, 0, true, false, 0x025C1140009A0001, 2, 0⟩ 2 0x0000000100000007 112 =
    beBytes 16 0x88E52E0000000007025C1140009A0001 := by decide

/-- The same frame's IV: (SSCI ‖ PN) XOR SALT. -/
theorem test_gcmIv : gcmIv true 0 2 0x5A3C91E04B27D6180C7FA245 0x0000000100000007 =
    beBytes 12 0x5A3C91E24B27D6190C7FA242 := by decide

/-- Section 06: the first PRF input of the binding key. -/
theorem test_bindInput : kdfInput 1 (ascii "QX-BIND") (beBytes 4 0x03000100 ++
    beBytes 16 0x4B516400001A2F07C390115E000042D8) 256 =
    beBytes 36 0x0000000151582D42494E4400030001004B516400001A2F07C390115E000042D800000100 := by decide

/-- Section 08: the third PRF input of epoch 30,001. -/
theorem test_epochInput : kdfInput 3 (ascii "QX-SAK") (beBytes 8 0x025C1140009A0001 ++ beBytes 8 30001) 384 =
    beBytes 31 0x0000000351582D53414B00025C1140009A0001000000000000753100000180 := by decide

/-- Section 18, one transmit SC across the map. -/
theorem test_addresses : reg_SCT_TX.offset 1300 0 = 0x328A00 ∧ reg_SAT_TX.offset 2601 0 = 0x428A40 ∧
    reg_QUE_DQ.offset 2600 0 = 0x514500 ∧ reg_QUE_SHP.offset 2600 0 = 0x56A280 ∧ reg_QUE_DCNT.offset 2600 0 = 0x5A8A00 ∧
    reg_PLN_QEV.offset 81 0 = 0x84144 ∧ reg_ICU_SRC.offset 0x1F4 0 = 0x117D0 ∧ reg_GAU_AUT_FAIL_TX.offset 40 0 = 0x420A0 ∧
    reg_RGN_LPORT.offset 4 0 = 0x143100 ∧ reg_SNP_ENT.offset 21313 0 = 0x853450 := by decide

/-- Section 00, reading a 64-bit counter: the low word's read latches the high word of the reader. -/
def latched : State := nextOf (exec (.wideLowRead 0 0 false 0x5A8A00) (sets std [(QUE_DCNT.ADMITTED, 2600, 0x1FFFFFFF0)]))
theorem test_lowWord : latched.out = [.readData 0 0 false 0x5A8A00 0xFFFFFFF0] := by decide +kernel
theorem test_highWord : (nextOf (exec (.wideLowRead 0 0 false 0x5A8A04) (sets latched [(QUE_DCNT.ADMITTED, 2600, 0x200000010)]))).out =
    [.readData 0 0 false 0x5A8A00 0xFFFFFFF0, .readData 0 0 false 0x5A8A04 1] := by decide +kernel
theorem test_highWord_other : (nextOf (exec (.wideLowRead 1 0 false 0x5A8A04) (sets latched [(QUE_DCNT.ADMITTED, 2600, 0x200000010)]))).out =
    [.readData 0 0 false 0x5A8A00 0xFFFFFFF0, .readData 1 0 false 0x5A8A04 2] := by decide +kernel

/-! ## One step each -/

theorem test_queueFront : (nextOf (step { sets State.reset [(GLB_MODE.MODE, 0, 0)] with pending := [.powerGood 127 127 false false] })).mode = mBOOT := by
  decide +kernel
theorem test_powerMissing : (nextOf (exec (.powerGood 126 62 false false) (sets State.reset [(GLB_MODE.MODE, 0, 0)]))).mode = 0 := by decide +kernel
theorem test_blankPart : (nextOf (exec (.fuseSense false) (boot 1))).get GLB_BOOT_STATUS.CODE 0 = 6 := by decide +kernel
theorem test_time96 : fromTime96 (7 * 2 ^ 48 + 999999999 * 65536 + 1) = 7 * sec + 999999999 * ns + 2 ^ 16 := by decide
theorem test_slewRange : (nextOf (exec (.timSlew 0 1000001) std)).tm.slew = 0 := by decide +kernel
theorem test_pairFault : (nextOf (exec (.pairKatComplete 3 .ig 7 false) (sets std [(RGN_PPE_STATUS.STATE, pairIdx 3 .ig 7, 2)]))).get
    RGN_PPE_STATUS.STATE (pairIdx 3 .ig 7) = 3 := by decide +kernel
theorem test_eventWithoutCause : nextOf (exec .holdoverEnter std) = std := by decide +kernel

/-! ## The cryptographic primitives on published vectors -/

/-- FIPS 197, appendix C.1. -/
theorem test_aes128 : aes (beBytes 16 0x000102030405060708090a0b0c0d0e0f) (beBytes 16 0x00112233445566778899aabbccddeeff) =
    beBytes 16 0x69c4e0d86a7b0430d8cdb78070b4c55a := by decide +kernel
/-- CRC-32 of "123456789" (IEEE 802.3). -/
theorem test_fcs : fcs (ascii "123456789") = leBytes 4 0xCBF43926 := by decide +kernel
/-- FIPS 180-4: SHA-384 of "abc". -/
theorem test_sha384 : sha384 (ascii "abc") =
    beBytes 48 0xcb00753f45a35e8bb5a03d699ac65007272c32ab0eded1631a8b605a43ff5bed8086072ba1e7cc2358baeca134c825a7 := by decide +kernel

/-! ## A state and operands that meet the hypotheses of each statement -/

theorem witness_EveryStepAnswers_EmptyQueueIsATick :
    ∃ (s : State), s.pending = [] :=
  ⟨std, by decide +kernel⟩

theorem witness_ResetValues :
    (∃ (f : Fld) (i : Nat), f.id % 2048 ≠ RGN_PPE_STATUS.STATE.id) ∧
    (∃ (r : _) (d : Dir) (k : _), r < 4 ∧ k < 9) :=
  ⟨⟨GLB_MODE.MODE, 0, by decide +kernel⟩,
    ⟨3, .ig, 8, by decide +kernel⟩⟩

theorem witness_SafeKeptByEveryStep :
    ∃ s t : State, s.Safe ∧ step s = .next t :=
  ⟨stdCmd, nextOf (step stdCmd), ⟨by unfold State.degSafe; decide +kernel, by unfold State.timerSafe; decide +kernel,
    by unfold State.heldSafe; decide +kernel⟩, rfl⟩

theorem witness_RegisterStore :
    (∃ (s : State) (f : Fld) (g : Fld) (i : Nat) (j : Nat) (v : Nat), f.id % 2048 ≠ g.id % 2048 ∨ (f.id = g.id ∧ i ≠ j)) ∧
    (∃ (s : State) (f : Fld) (i : Nat) (v : Nat), s.wfRegs = true) ∧
    (∃ (s : State) (t : State), s.wfRegs = true ∧ t.wfRegs = true ∧ (∀ k, Tab.get 0 s.regs k = Tab.get 0 t.regs k)) :=
  ⟨⟨std, SAT_TX.STATE, SAT_TX.STATE, 8191, 0, 5, by decide +kernel⟩,
    ⟨std, SAT_TX.STATE, 8191, 2, by decide +kernel⟩,
    ⟨std, ((std)), by decide +kernel, by decide +kernel, fun _ => rfl⟩⟩

theorem witness_EndOfCommandFrame :
    (∃ (s : State) (f : Fld) (i : Nat), closeMoves f = false) ∧
    (∃ (s : State), s.md.trans ≠ none ∧ s.yields = false) ∧
    (∃ (s : State) (p : Nat) (b : Bool) (f : Fld) (i : Nat), mmioMoves f = false) :=
  ⟨⟨std, SAT_TX.STATE, 8191, by decide +kernel⟩,
    ⟨{ std with md := { std.md with trans := some ⟨3, 3, 2, [3]⟩ } }, by decide +kernel⟩,
    ⟨std, 1, true, SAT_TX.STATE, 8191, by decide +kernel⟩⟩

theorem witness_RegisterWritesAndForbiddenAccesses_ForbiddenAccesses :
    (∃ (s : State) (p : Port) (fn : Fin 2) (bar2 : Bool) (off : Nat) (v : Word) (be : BitVec 4),
      s.reachable p.val = true ∧ s.calm = true ∧ (fn = 1 → bar2 = false) ∧
      (s.mmio p.val).forbidden p.val fn.val bar2 true off ≠ 0) ∧
    (∃ (s : State) (p : Port) (fn : Fin 2) (bar2 : Bool) (off : Nat) (v : Word) (be : BitVec 4),
      s.reachable p.val = true ∧ s.calm = true ∧ (fn = 1 → bar2 = false) ∧
      (s.mmio p.val).forbidden p.val fn.val bar2 false off ≠ 0) :=
  ⟨⟨sets std [(OFC_SESSION.STATE,0,0)], 0, 0, true, 0x10000, 1, 15, by decide +kernel⟩,
    ⟨sets std [(OFC_SESSION.STATE,0,0)], 0, 0, true, 0x10000, 1, 15, by decide +kernel⟩⟩

theorem witness_StartUpStepsComplete :
    (∃ (s : State), s.startsAt 0 = true ∧ s.lc.resetLow = false) ∧
    (∃ (s : State) (err : Bool), s.startsAt 1 = true) ∧
    (∃ (s : State) (rom : Bool) (chisel : Bool) (pke : Bool), s.startsAt 2 = true) ∧
    (∃ (s : State), s.startsAt 4 = true) ∧
    (∃ (s : State) (i : Image), s.startsAt 6 = true ∧ s.jg.image = some i) ∧
    (∃ (s : State), s.startsAt 11 = true) :=
  ⟨⟨boot 0, by decide +kernel⟩,
    ⟨boot 1, false, by decide +kernel⟩,
    ⟨boot 2, true, true, true, by decide +kernel⟩,
    ⟨boot 4, by decide +kernel⟩,
    ⟨{ boot 6 with jg := { State.reset.jg with image := some im0 } }, im0, by decide +kernel⟩,
    ⟨boot 11, by decide +kernel⟩⟩

theorem witness_StartUpOutcomes :
    (∃ (s : State), s.startsAt 3 = true ∧ s.get RNG_STATUS.STATE 0 = 0 ∧ s.on RNG_STATUS.PATTERN 0 = false) ∧
    (∃ (s : State) (f : HealthFail), s.startsAt 3 = true ∧ s.get RNG_STATUS.STATE 0 = 0 ∧
      s.on RNG_STATUS.PATTERN 0 = false) ∧
    (∃ (s : State) (a : FlashRead) (b : FlashRead) (x : _) (y : _), s.startsAt 5 = true ∧ s.get PKE_STATUS.STATE 0 = 0 ∧
      s.ch.pkeBoot = 0 ∧ s.candidate a 0 = .inl x ∧ s.candidate b 1 = .inl y) ∧
    (∃ (s : State) (a : FlashRead) (b : FlashRead) (i : _) (y : _), s.startsAt 5 = true ∧ s.get PKE_STATUS.STATE 0 = 0 ∧
      s.ch.pkeBoot = 0 ∧ s.candidate a 0 = .inr i ∧ s.signedOk (readOctets a) = true ∧ s.candidate b 1 = .inl y) ∧
    (∃ (s : State) (a : FlashRead) (b : FlashRead) (i : _) (x : _), s.startsAt 5 = true ∧ s.get PKE_STATUS.STATE 0 = 0 ∧
      s.ch.pkeBoot = 0 ∧ s.candidate b 1 = .inr i ∧ s.signedOk (readOctets b) = true ∧ s.candidate a 0 = .inl x) ∧
    (∃ (s : State) (a : FlashRead) (b : FlashRead) (i : _) (j : _), s.startsAt 5 = true ∧ s.get PKE_STATUS.STATE 0 = 0 ∧
      s.ch.pkeBoot = 0 ∧ s.candidate a 0 = .inr i ∧ s.candidate b 1 = .inr j ∧ j.seq ≤ i.seq ∧
      s.signedOk (readOctets a) = true) ∧
    (∃ (s : State) (a : FlashRead) (b : FlashRead) (i : _) (j : _), s.startsAt 5 = true ∧ s.get PKE_STATUS.STATE 0 = 0 ∧
      s.ch.pkeBoot = 0 ∧ s.candidate a 0 = .inr i ∧ s.candidate b 1 = .inr j ∧ i.seq < j.seq ∧
      s.signedOk (readOctets b) = true) ∧
    (∃ (s : State), s.startsAt 7 = true ∧ s.get CHS_ENGINE.STATE 0 ≠ 1 ∧ s.ke.bootHeld = false) ∧
    (∃ (s : State) (pages : Nat) (chans : List ChanId), s.startsAt 8 = true) ∧
    (∃ (s : State) (i : _), s.startsAt 12 = true ∧ s.jg.image = some i ∧ (s.lc.fuses.lcs = 2 ∨ s.lc.fuses.lcs = 3) ∧
      s.hostLanesUp = true ∧ s.lineLanesUp = true) ∧
    (∃ (s : State), s.startsAt 12 = true ∧ s.lc.fuses.lcs = 1) ∧
    (∃ (s : State) (m : Nat), s.jg.autoDue = true ∧ ((s.ones GAU_SCH.VALID).all (fun j => s.schState j != 1) = true) ∧
      s.mode = mSTANDBY ∧ s.md.trans = none ∧ s.reqQuiet = true ∧ s.get JIG_RUN_SVN.AUTO_MODE 0 = m ∧
      (m = mSECURE ∨ m = mGUARDED) ∧ s.failedGuard true (m == mGUARDED) = 0) :=
  ⟨⟨boot 3, by decide +kernel⟩,
    ⟨boot 3, ⟨true,3⟩, by decide +kernel⟩,
    ⟨{ boot 5 with lc := { State.reset.lc with fuses := fz3 } }, .error, .octets (List.replicate 16 0xFF), 5, 4,
      by decide +kernel⟩,
    ⟨{ boot 5 with lc := { State.reset.lc with fuses := fz3 } }, .octets img, .error, (imageOf img 0).getD im0, 5,
      by decide +kernel⟩,
    ⟨{ boot 5 with lc := { State.reset.lc with fuses := fz3 } }, .error, .octets img, (imageOf img 1).getD im0, 5,
      by decide +kernel⟩,
    ⟨{ boot 5 with lc := { State.reset.lc with fuses := fz3 } }, .octets img, .octets img, (imageOf img 0).getD im0,
      (imageOf img 1).getD im0, by decide +kernel⟩,
    ⟨{ boot 5 with lc := { State.reset.lc with fuses := fz3 } }, .octets (img.set 8 0), .octets img,
      (imageOf (img.set 8 0) 0).getD im0, (imageOf img 1).getD im0, by decide +kernel⟩,
    ⟨{ boot 7 with jg := { State.reset.jg with image := some im0 } }, by decide +kernel⟩,
    ⟨boot 8, 524288, List.replicate 32 ⟨true,1,2,3⟩, by decide +kernel⟩,
    ⟨lcs 3 { boot 12 with jg := { State.reset.jg with image := some im0 } }, im0, by decide +kernel⟩,
    ⟨lcs 1 (boot 12), by decide +kernel⟩,
    ⟨sets { std with jg := { State.reset.jg with autoDue := true } } [(JIG_RUN_SVN.AUTO_MODE,0,3),(RNG_STATUS.STATE,0,1)],
      3, by decide +kernel⟩⟩

theorem witness_PowerAndResetPins :
    (∃ (s : State) (a : Nat) (b : Nat) (kept : Bool) (low : Bool), (s.mode = 0 ∨ (s.mode = mBOOT ∧
      s.get GLB_BOOT_STATUS.STAGE 0 = 0)) ∧ ((upto 7).all (fun g => bit a g || bit b g) = true)) ∧
    (∃ (s : State) (a : Nat) (b : Nat) (kept : Bool) (low : Bool), (upto 7).all (fun g => bit a g || bit b g) = false) ∧
    (∃ (s : State), s.mode ≠ 0) ∧
    (∃ (s : State), s.mode ≠ 0 ∧ s.calm = true) ∧
    (∃ (s : State) (g : Fin 7), s.calm = true ∧ g.val ≠ 0 ∧ (s.mode ≠ 0 ∧ s.mode ≠ mBOOT ∧ s.mode ≠ mLOCKDOWN) ∧
      s.md.trans = none) ∧
    (∃ (s : State), s.mode ≠ 0 ∧ s.md.trans = none) :=
  ⟨⟨sets State.reset [(GLB_MODE.MODE,0,0)], 127, 0, true, true, by decide +kernel⟩,
    ⟨sets State.reset [(GLB_MODE.MODE,0,0)], 63, 0, true, true, by decide +kernel⟩,
    ⟨std, by decide +kernel⟩,
    ⟨std, by decide +kernel⟩,
    ⟨std, 6, by decide +kernel⟩,
    ⟨std, by decide +kernel⟩⟩

theorem witness_ModeRequestsStartTransitions :
    (∃ (s : State) (p : Port) (c : Instr) (m : Nat) (g : Nat) (legal : Bool),
      s.mayWrite p.val false reg_GLB_MODE_REQ.base ∧ s.reqQuiet = true ∧ s.degSafe ∧ ((c, m) ∈ [(Instr.modeReqStandby p,
      mSTANDBY), (.modeReqSecure p, mSECURE), (.modeReqGuarded p, mGUARDED)]) ∧ legal = [(2, 3), (2, 4), (3, 4), (3, 2),
      (4, 3), (4, 2), (5, 2)].contains (s.mode, m) ∧
      g = (s.granted p.val false).failedGuard (decide (s.mode = mSTANDBY)) (decide (m = mGUARDED)) ∧ s.md.trans = none ∧
      (m = s.mode ∨ (s.mode = mDEGRADED ∧ m = s.get GLB_MODE.BASE 0))) ∧
    (∃ (s : State) (p : Port) (c : Instr) (m : Nat) (g : Nat) (legal : Bool),
      s.mayWrite p.val false reg_GLB_MODE_REQ.base ∧ s.reqQuiet = true ∧ s.degSafe ∧ ((c, m) ∈ [(Instr.modeReqStandby p,
      mSTANDBY), (.modeReqSecure p, mSECURE), (.modeReqGuarded p, mGUARDED)]) ∧ legal = [(2, 3), (2, 4), (3, 4), (3, 2),
      (4, 3), (4, 2), (5, 2)].contains (s.mode, m) ∧
      g = (s.granted p.val false).failedGuard (decide (s.mode = mSTANDBY)) (decide (m = mGUARDED)) ∧ s.md.trans = none ∧
      m ≠ s.mode ∧ (¬(s.mode = mDEGRADED ∧ m = s.get GLB_MODE.BASE 0)) ∧ legal = true ∧ g = 0) ∧
    (∃ (s : State) (p : Port) (c : Instr) (m : Nat) (g : Nat) (legal : Bool),
      s.mayWrite p.val false reg_GLB_MODE_REQ.base ∧ s.reqQuiet = true ∧ s.degSafe ∧ ((c, m) ∈ [(Instr.modeReqStandby p,
      mSTANDBY), (.modeReqSecure p, mSECURE), (.modeReqGuarded p, mGUARDED)]) ∧ legal = [(2, 3), (2, 4), (3, 4), (3, 2),
      (4, 3), (4, 2), (5, 2)].contains (s.mode, m) ∧
      g = (s.granted p.val false).failedGuard (decide (s.mode = mSTANDBY)) (decide (m = mGUARDED)) ∧ s.md.trans = none ∧
      m ≠ s.mode ∧ (¬(s.mode = mDEGRADED ∧ m = s.get GLB_MODE.BASE 0)) ∧ legal = true ∧ g ≠ 0) ∧
    (∃ (s : State) (p : Port) (c : Instr) (m : Nat) (g : Nat) (legal : Bool),
      s.mayWrite p.val false reg_GLB_MODE_REQ.base ∧ s.reqQuiet = true ∧ s.degSafe ∧ ((c, m) ∈ [(Instr.modeReqStandby p,
      mSTANDBY), (.modeReqSecure p, mSECURE), (.modeReqGuarded p, mGUARDED)]) ∧ legal = [(2, 3), (2, 4), (3, 4), (3, 2),
      (4, 3), (4, 2), (5, 2)].contains (s.mode, m) ∧
      g = (s.granted p.val false).failedGuard (decide (s.mode = mSTANDBY)) (decide (m = mGUARDED)) ∧ s.md.trans = none ∧
      m ≠ s.mode ∧ (¬(s.mode = mDEGRADED ∧ m = s.get GLB_MODE.BASE 0)) ∧ legal = false) ∧
    (∃ (s : State) (p : Port) (c : Instr) (m : Nat) (g : Nat) (legal : Bool) (x : _),
      s.mayWrite p.val false reg_GLB_MODE_REQ.base ∧ s.reqQuiet = true ∧ s.degSafe ∧ ((c, m) ∈ [(Instr.modeReqStandby p,
      mSTANDBY), (.modeReqSecure p, mSECURE), (.modeReqGuarded p, mGUARDED)]) ∧ legal = [(2, 3), (2, 4), (3, 4), (3, 2),
      (4, 3), (4, 2), (5, 2)].contains (s.mode, m) ∧
      g = (s.granted p.val false).failedGuard (decide (s.mode = mSTANDBY)) (decide (m = mGUARDED)) ∧ s.md.trans = some x ∧
      s.yields = false) :=
  ⟨⟨std, 0, .modeReqStandby (0 : Port), 2, _, _,
    (by refine ⟨?_, ?_, by unfold State.degSafe; decide +kernel, ?_, rfl, rfl, ?_⟩ <;> decide +kernel)⟩,
    ⟨sets { std with vn := { std.vn with capPages := 524288 } } [(GLB_MODE.MODE,0,3),(GLB_MODE.BASE,0,3),(RNG_STATUS.STATE,0,1),(VNR_CTL.EN,0,1),(VNR_STATUS.KEYS,0,1),(VNR_LAYOUT.DATA_P8,0,100)], 1, .modeReqStandby (1 : Port), 2, _, _, (by refine ⟨?_, ?_, by unfold State.degSafe; decide +kernel, ?_, rfl, rfl, ?_⟩ <;> decide +kernel)⟩,
    ⟨std, 0, .modeReqSecure (0 : Port), 3, _, _,
      (by refine ⟨?_, ?_, by unfold State.degSafe; decide +kernel, ?_, rfl, rfl, ?_⟩ <;> decide +kernel)⟩,
    ⟨sets std [(GLB_MODE.MODE,0,5),(GLB_MODE.BASE,0,3),(GLB_DEGRADED_CAUSE.THERMAL,0,1)], 0, .modeReqGuarded (0 : Port),
      4, _, _, (by refine ⟨?_, ?_, by unfold State.degSafe; decide +kernel, ?_, rfl, rfl, ?_⟩ <;> decide +kernel)⟩,
    ⟨{ std with md := { std.md with trans := some ⟨3,3,2,[3]⟩ } }, 0, .modeReqGuarded (0 : Port), 4, _, _, ⟨3,3,2,[3]⟩,
      (by refine ⟨?_, ?_, by unfold State.degSafe; decide +kernel, ?_, rfl, rfl, ?_⟩ <;> decide +kernel)⟩⟩

theorem witness_OverlaysAndModeEvents_OverlayCompleteEntersMode :
    ∃ (s : State) (x : Trans), s.md.trans = some x ∧ s.calm = true ∧ (∀ m ∈ x.overlays, s.overlay m = []) ∧
      (x.target < 8 ∧ x.base < 8 ∧ x.cause < 16) ∧ (s.md.pendLock = none ∧ s.md.pendWarm = none ∧ s.md.pendReq = none ∧
      s.md.heldLock = none) ∧ s.degraded = 0 :=
  ⟨{ std with md := { std.md with trans := some ⟨3,3,2,[3]⟩ } }, ⟨3,3,2,[3]⟩, by decide +kernel, by decide +kernel,
    by first | decide +kernel | simp | (intro x hx; simp_all), by decide +kernel⟩

theorem witness_OverlaysAndModeEvents_ModeEvents :
    (∃ (s : State), s.mode = mDEGRADED ∧ s.degraded = 0 ∧ s.md.degClear ≠ 0 ∧ (s.md.degClear - 1 + sec ≤ s.mono) ∧
      s.md.trans = none) ∧
    (∃ (s : State) (p : Port), s.admits p.val 0 true true reg_OFC_LOCKDOWN.base = true ∧ (s.mode ≠ 0 ∧ s.mode ≠ mBOOT ∧
      s.mode ≠ mLOCKDOWN) ∧ s.md.trans = none) ∧
    (∃ (s : State) (who : Option Port), (∀ p, who = some p → s.admits p.val 0 true true reg_DBG_CTL.base = true) ∧
      (who = none → s.lc.jtagUnlocked = true) ∧ s.mode = mBOOT ∧ s.md.trans = none ∧
      (s.lc.fuses.lcs = 1 ∨ s.lc.debugUnlocked = true)) ∧
    (∃ (s : State), s.mode ≠ 0) :=
  ⟨⟨{ sets std [(GLB_MODE.MODE,0,5)] with mono := 2 * sec, md := { std.md with degClear := 1 } }, by decide +kernel⟩,
    ⟨std, 0, by decide +kernel⟩,
    ⟨lcs 1 (sets (boot 12) [(ICU_PORT.LINK,0,1),(OFC_SESSION.STATE,0,2)]), some 0,
      by first | decide +kernel | simp | (intro x hx; simp_all), by decide +kernel⟩,
    ⟨std, by decide +kernel⟩⟩

theorem witness_WarmResetAndTransmitResume_ScheduledWarmReset :
    (∃ (s : State) (p : Port), s.admits p.val 0 true true reg_OFC_RESET.base = true ∧ s.mode ≠ 0 ∧ s.md.trans = none) ∧
    (∃ (s : State) (p : Port), s.admits p.val 0 true true reg_OFC_RESET.base = true ∧ s.on OFC_RESET.WARM_AT 0 = false) ∧
    (∃ (s : State) (p : Port), s.admits p.val 0 true true reg_OFC_RESET.base = true) ∧
    (∃ (s : State) (w : Nat), s.lc.warmAt = some w ∧ w ≤ s.now ∧ s.on TIM_STATUS.VALID 0 = true ∧ s.mode ≠ 0 ∧
      s.md.trans = none) :=
  ⟨⟨std, 0, by decide +kernel⟩,
    ⟨std, 0, by decide +kernel⟩,
    ⟨std, 0, by decide +kernel⟩,
    ⟨sets { std with now := 10, lc := { std.lc with warmAt := some 5 } } [(TIM_STATUS.VALID,0,1)], 5, by decide +kernel⟩⟩

theorem witness_LifeCycleCommands :
    (∃ (s : State) (root : List Octet), s.lc.fuses.lcs = 0 ∧ s.lc.lcyJob = none ∧ s.mode ≠ 0 ∧
      2 ≤ s.get GLB_BOOT_STATUS.STAGE 0) ∧
    (∃ (s : State) (p : Port) (h : List Octet), s.admits p.val 0 true true reg_LCY_CMD.base = true ∧ s.lc.lcyJob = none ∧
      s.lc.fuses.lcs = 1 ∧ s.lc.debugUnlocked = false) ∧
    (∃ (s : State) (p : Port), s.admits p.val 0 true true reg_LCY_CMD.base = true ∧ s.lc.lcyJob = none ∧
      s.lc.fuses.lcs = 2 ∧ s.lc.fuses.owners.length < 17) ∧
    (∃ (s : State) (p : Port), s.admits p.val 0 true true reg_LCY_CMD.base = true ∧ s.lc.lcyJob = none ∧
      s.lc.fuses.lcs = 3 ∧ s.lc.fuses.reown < 16) ∧
    (∃ (s : State) (p : Port), s.admits p.val 0 true true reg_LCY_CMD.base = true ∧ s.lc.lcyJob = none ∧
      s.lc.fuses.lcs ≠ 0) ∧
    (∃ (s : State), s.lc.lcyJob = none ∧ s.lc.fuses.lcs = 1 ∧ s.mode ≠ 0) ∧
    (∃ (s : State) (p : Port) (e : OwnerEntry), s.admits p.val 0 true true reg_LCY_CMD.base = true ∧ s.lc.lcyJob = none ∧
      s.lc.fuses.lcs = 3 ∧ (s.lc.fuses.owners.getLast? = some e) ∧ e.svns.length < 4 ∧
      (s.minSvn < leNat (slice s.lcyOperand 48 2) ∧ leNat (slice s.lcyOperand 48 2) ≤ s.get JIG_RUN_SVN.SVN 0)) ∧
    (∃ (s : State) (p : Port) (h : List Octet) (c : Instr) (n : Nat), s.admits p.val 0 true true reg_LCY_CMD.base = true ∧
      s.lc.lcyJob = none ∧ ((c, n) ∈ [(Instr.advProvisioned p h, 1), (.takeOwnership p, 2), (.releaseOwnership p, 3),
      (.raiseMinSvn p, 3)]) ∧ s.lc.fuses.lcs ≠ n) ∧
    (∃ (s : State) (j : LcyJob), s.lc.lcyJob = some j ∧ j.blown = false ∧ s.mode ≠ 0 ∧ s.md.trans = none) :=
  ⟨⟨std, [1,2,3], by decide +kernel⟩,
    ⟨lcs 1 std, 0, [1], by decide +kernel⟩,
    ⟨lcs 2 std, 0, by decide +kernel⟩,
    ⟨lcs 3 std, 0, by decide +kernel⟩,
    ⟨lcs 3 std, 0, by decide +kernel⟩,
    ⟨lcs 1 std, by decide +kernel⟩,
    ⟨{ sets (lcs 3 std) [(LCY_OPERAND.V,12,1),(JIG_RUN_SVN.SVN,0,1)] with lc := { std.lc with fuses := { std.lc.fuses with lcs := 3, owners := [(⟨[1], [0]⟩ : OwnerEntry)] } } }, 0, (⟨[1], [0]⟩ : OwnerEntry), by decide +kernel⟩,
    ⟨lcs 2 std, 0, [1], .advProvisioned (0 : Port) ([1] : List Octet), 1, by decide +kernel⟩,
    ⟨{ std with lc := { std.lc with lcyJob := some ⟨{ std.lc.fuses with lcs := 2 }, false⟩ } },
      ⟨{ std.lc.fuses with lcs := 2 }, false⟩, by decide +kernel⟩⟩

theorem witness_WarmResetAndTransmitResume_TransmitResumeTime :
    (∃ (s : State) (p : Port) (v : Word), s.admits p.val 0 true true reg_OFC_TX_RESUME_LO.base = true) ∧
    (∃ (s : State) (p : Port) (v : Word) (lo : Nat), s.admits p.val 0 true true reg_OFC_TX_RESUME_HI.base = true ∧
      Tab.get none s.lc.resumeLow p.val = some lo ∧ (lo < 2 ^ 32)) ∧
    (∃ (s : State), s.autActive = true ∧ s.lc.resumeFresh = false) ∧
    (∃ (s : State), s.autActive = false) :=
  ⟨⟨std, 0, 5, by decide +kernel⟩,
    ⟨{ std with lc := { std.lc with resumeLow := Tab.set none std.lc.resumeLow 0 (some 9) } }, 0, 5, 9, by decide +kernel⟩,
    ⟨sets { std with lc := { std.lc with resumeFresh := false } } [(SCT_TX.KEYING,0,1),(SAT_TX.STATE,1,2)],
      by decide +kernel⟩,
    ⟨std, by decide +kernel⟩⟩

theorem witness_RegisterWritesAndForbiddenAccesses_RegisterWriteRules :
    (∃ (s : State) (p : Port) (i : Fin 13) (v : Word), s.mayWrite p.val true (reg_LCY_OPERAND.offset i.val 0)) ∧
    (∃ (s : State) (p : Port) (bar2 : Bool) (off : Nat) (v : Word) (be : BitVec 4), s.mayWrite p.val bar2 off ∧ be ≠ 15) ∧
    (∃ (s : State) (p : Port) (off : Nat) (v : Word) (be : BitVec 4), s.reachable p.val = true ∧ s.calm = true) ∧
    (∃ (s : State) (p : Port) (bar2 : Bool) (off : Nat) (v : Word), s.mayWrite p.val bar2 off ∧ place bar2 off = none) :=
  ⟨⟨std, 0, 12, 77, by decide +kernel⟩,
    ⟨std, 0, false, 0x200, 5, 3, by decide +kernel⟩,
    ⟨std, 1, 64, 3, 15, by decide +kernel⟩,
    ⟨std, 0, false, 0xF4, 9, by decide +kernel, rfl⟩⟩

theorem witness_HeldWordsAndCommit :
    (∃ (s : State) (p : Port) (bar2 : Bool) (off : Nat) (c : Nat) (v : Word) (pl : Place), s.mayWrite p.val bar2 off ∧
      place bar2 off = some pl ∧ pl.reg.commit = some c ∧ pl.word ≠ c ∧ (pl.reg.rid = .GAU_ENT →
      s.gauLocked pl.idx = false) ∧ ((pl.reg.inWord pl.word).any (fun x => x.1.acc = .rw) = true) ∧ (∀ h,
      s.heldOf (.port p.val) pl.reg.rid = some h → h.idx = pl.idx)) ∧
    (∃ (s : State) (p : Port) (bar2 : Bool) (off : Nat) (c : Nat) (v : Word) (pl : Place) (h : _),
      s.mayWrite p.val bar2 off ∧ place bar2 off = some pl ∧ pl.reg.commit = some c ∧ pl.word ≠ c ∧
      (pl.reg.rid = .GAU_ENT → s.gauLocked pl.idx = false) ∧
      ((pl.reg.inWord pl.word).any (fun x => x.1.acc = .rw) = true) ∧ s.heldOf (.port p.val) pl.reg.rid = some h ∧
      h.idx ≠ pl.idx) ∧
    (∃ (s : State) (p : Port) (d : Dir) (i : Fin 8192) (v : Word) (r : Reg),
      r = (if d = .eg then reg_CLS_EGR else reg_CLS_IGR) ∧ s.mayWrite p.val false (r.offset i.val 0)) :=
  ⟨⟨std, 0, false, reg_CLS_EGR.offset 0 1, _, 0xFFFFFFFF, ⟨reg_CLS_EGR,0,1⟩,
    (by refine ⟨?_, rfl, Option.eq_some_of_isSome (by decide +kernel), ?_, ?_, ?_, by first | decide +kernel | simp | (intro x hx; simp_all)⟩ <;> decide +kernel)⟩,
    ⟨{ std with ac := { State.reset.ac with held := Tab.set [] [] (Writer.heldKey (.port 0)) [⟨.CLS_EGR, 3, [(1,5),(2,7)]⟩] } }, 0, false, reg_CLS_EGR.offset 0 1, _, 0xFFFFFFFF, ⟨reg_CLS_EGR,0,1⟩, ⟨.CLS_EGR, 3, [(1,5),(2,7)]⟩, by decide +kernel, rfl, Option.eq_some_of_isSome (by decide +kernel), by decide +kernel⟩,
    ⟨std, 0, .eg, 8191, 7, _, rfl, by decide +kernel⟩⟩

theorem witness_ReadsReturnAndClear :
    (∃ (s : State) (p : Port) (fn : Fin 2) (bar2 : Bool) (off : Nat), s.admits p.val fn.val bar2 false off = true ∧
      (fn = 1 → bar2 = false)) ∧
    (∃ (s : State) (p : Port), s.admits p.val 0 false false reg_TIM_NOW.base = true ∧
      (s.heldWord (.port p.val) ⟨reg_TIM_NOW, 0, 0⟩ = none)) ∧
    (∃ (s : State) (p : Port), s.admits p.val 0 false false reg_CNT_STATUS.base = true ∧
      (s.heldWord (.port p.val) ⟨reg_CNT_STATUS, 0, 0⟩ = none)) :=
  ⟨⟨std, 0, 0, false, reg_TIM_NOW.base, by decide +kernel⟩,
    ⟨{ std with now := 123456789 * sec + 5 }, 0, by decide +kernel⟩,
    ⟨sets std [(CNT_STATUS.SKIPPED,0,9)], 0, by decide +kernel⟩⟩

theorem witness_SecureChannelValid :
    (∃ (s : State) (p : Port) (sc : Fin 4096) (v : Word), s.mayWrite p.val false (reg_SCT_TX.offset sc.val 0) ∧
      s.on SCT_TX.VALID sc.val = false) ∧
    (∃ (s : State) (p : Port) (sc : Fin 4096) (v : Word) (same : Bool),
      s.mayWrite p.val false (reg_SCT_TX.offset sc.val 0) ∧ s.get SCT_TX.VALID sc.val = 1 ∧
      (same = txLocked.all (fun f => (s.writeWord reg_SCT_TX sc.val 0 (putBits v.toNat 0 1 0)).1.get f sc.val == s.get f sc.val)) ∧ same = true) ∧
    (∃ (s : State) (p : Port) (sc : Fin 4096) (v : Word) (same : Bool),
      s.mayWrite p.val false (reg_SCT_TX.offset sc.val 0) ∧ s.get SCT_TX.VALID sc.val = 1 ∧
      (same = txLocked.all (fun f => (s.writeWord reg_SCT_TX sc.val 0 (putBits v.toNat 0 1 0)).1.get f sc.val == s.get f sc.val)) ∧ same = false) ∧
    (∃ (s : State) (p : Port) (sc : Fin 4096) (v : Word), s.mayWrite p.val false (reg_SCT_RX.offset sc.val 0) ∧
      s.on SCT_RX.VALID sc.val = false) ∧
    (∃ (s : State) (p : Port) (sc : Fin 4096) (v : Word) (same : Bool),
      s.mayWrite p.val false (reg_SCT_RX.offset sc.val 0) ∧ s.get SCT_RX.VALID sc.val = 1 ∧
      (same = rxLocked.all (fun f => (s.writeWord reg_SCT_RX sc.val 0 (putBits v.toNat 0 1 0)).1.get f sc.val == s.get f sc.val)) ∧ same = true) ∧
    (∃ (s : State) (p : Port) (sc : Fin 4096) (v : Word) (same : Bool),
      s.mayWrite p.val false (reg_SCT_RX.offset sc.val 0) ∧ s.get SCT_RX.VALID sc.val = 1 ∧
      (same = rxLocked.all (fun f => (s.writeWord reg_SCT_RX sc.val 0 (putBits v.toNat 0 1 0)).1.get f sc.val == s.get f sc.val)) ∧ same = false) :=
  ⟨⟨std, 0, 4095, 1, by decide +kernel⟩,
    ⟨sets std [(SCT_TX.VALID,0,1)], 0, 0, 0x48, _, by decide +kernel, by decide +kernel, rfl, by decide +kernel⟩,
    ⟨sets std [(SCT_TX.VALID,0,1)], 0, 0, 0x4A, _, by decide +kernel, by decide +kernel, rfl, by decide +kernel⟩,
    ⟨std, 0, 4095, 1, by decide +kernel⟩,
    ⟨sets std [(SCT_RX.VALID,4095,1)], 0, 4095, 0, _, by decide +kernel, by decide +kernel, rfl, by decide +kernel⟩,
    ⟨sets std [(SCT_RX.VALID,4095,1)], 0, 4095, 6, _, by decide +kernel, by decide +kernel, rfl, by decide +kernel⟩⟩

theorem witness_TransmitSwitch :
    (∃ (s : State) (p : Port) (sc : Fin 4096), s.mayWrite p.val false reg_PLN_TXSA_CMD.base ∧
      s.on SCT_TX.KEYING sc.val = false) ∧
    (∃ (s : State) (p : Port) (sc : Fin 4096), s.mayWrite p.val false reg_PLN_TXSA_CMD.base ∧
      s.on SCT_TX.KEYING sc.val = true) ∧
    (∃ (s : State) (p : Port) (g : Fin 256), s.mayWrite p.val false reg_PLN_TXSA_CMD.base) :=
  ⟨⟨sets std [(SCT_TX.VALID,0,1),(SAT_TX.STATE,0,2),(SAT_TX.STATE,1,1)], 0, 0, by decide +kernel⟩,
    ⟨sets std [(SCT_TX.VALID,4095,1),(SCT_TX.KEYING,4095,1)], 0, 4095, by decide +kernel⟩,
    ⟨sets (sets std [(SCT_TX.VALID,0,1),(SAT_TX.STATE,0,2),(SAT_TX.STATE,1,1)]) [(SCT_TX.GROUP,0,255),(SCT_TX.GROUP,7,255),(SCT_TX.GROUP,8,255),(SCT_TX.KEYING,8,1)], 0, 255, by decide +kernel⟩⟩

theorem witness_ReceiveActivateAndRetire :
    (∃ (s : State) (p : Port) (sc : Fin 4096), s.mayWrite p.val false reg_PLN_RXSA_CMD.base ∧
      s.on SCT_RX.KEYING sc.val = false) ∧
    (∃ (s : State) (p : Port) (sc : Fin 4096), s.mayWrite p.val false reg_PLN_RXSA_CMD.base ∧
      s.on SCT_RX.KEYING sc.val = true) ∧
    (∃ (s : State) (p : Port) (g : Fin 256), s.mayWrite p.val false reg_PLN_RXSA_CMD.base) ∧
    (∃ (s : State) (a : Fin 8192), s.calm = true ∧ s.on SAT_RX.RETIRE_ARMED a.val = true ∧
      s.on TIM_STATUS.VALID 0 = true ∧ s.rxRetireAt a.val ≤ s.now ∧ s.get SAT_RX.STATE a.val = saACTIVE) :=
  ⟨⟨sets std [(SCT_RX.VALID,0,1),(SAT_RX.STATE,0,2),(SAT_RX.STATE,1,1)], 0, 0, by decide +kernel⟩,
    ⟨sets std [(SCT_RX.KEYING,3,1)], 0, 3, by decide +kernel⟩,
    ⟨sets (sets std [(SCT_RX.VALID,0,1),(SAT_RX.STATE,0,2),(SAT_RX.STATE,1,1),(SCT_RX.OVERLAP,0,7)]) [(SCT_RX.GROUP,0,255),(SCT_RX.GROUP,7,255),(SCT_RX.GROUP,8,255),(SCT_RX.KEYING,8,1)], 0, 255, by decide +kernel⟩,
    ⟨sets std [(SCT_RX.VALID,0,1),(SAT_RX.STATE,1,2),(SAT_RX.RETIRE_ARMED,1,1),(TIM_STATUS.VALID,0,1)], 1,
      by decide +kernel⟩⟩

theorem witness_ShaperWrites :
    ∃ (s : State) (p : Port) (q : Fin 8224) (v : Word) (r : Nat) (b : Nat),
      s.mayWrite p.val false ((shaperAt q.val).1.offset (shaperAt q.val).2 0) ∧
      (r = (s.heldWord (.port p.val) ⟨(shaperAt q.val).1, (shaperAt q.val).2, 1⟩).getD (s.get QUE_SHP.RATE q.val)) ∧
      (b = ((s.heldWord (.port p.val) ⟨(shaperAt q.val).1, (shaperAt q.val).2,
      2⟩).getD (s.get QUE_SHP.BURST q.val)) % 2 ^ 24) :=
  ⟨std, 0, 8223, 0, _, _, by decide +kernel, rfl, rfl⟩

theorem witness_IncrementAndSlew :
    (∃ (s : State) (p : Port) (v : Word), s.admits p.val 0 false true (reg_TIM_INCR.offset 0 0) = true) ∧
    (∃ (s : State) (p : Port) (v : Word) (x : Nat), s.admits p.val 0 false true (reg_TIM_INCR.offset 0 1) = true ∧
      (x = v.toNat % 16 * 2 ^ 32 + (Tab.get none s.tm.incrLow (Writer.port p.val).heldKey).getD (s.get TIM_INCR.FRAC32 0)) ∧ (3350074491 ≤ x ∧ x ≤ 3521873182)) ∧
    (∃ (s : State) (p : Port) (v : Word) (x : Nat), s.admits p.val 0 false true (reg_TIM_INCR.offset 0 1) = true ∧
      (x = v.toNat % 16 * 2 ^ 32 + (Tab.get none s.tm.incrLow (Writer.port p.val).heldKey).getD (s.get TIM_INCR.FRAC32 0)) ∧ (x < 3350074491 ∨ 3521873182 < x)) ∧
    (∃ (s : State) (p : Port) (v : Word), s.admits p.val 0 false true reg_TIM_SLEW.base = true ∧ (-1000000 ≤ v.toInt ∧
      v.toInt ≤ 1000000)) ∧
    (∃ (s : State) (p : Port) (v : Word), s.admits p.val 0 false true reg_TIM_SLEW.base = true ∧
      (v.toInt < -1000000 ∨ 1000000 < v.toInt)) ∧
    (∃ (s : State), s.tm.slew ≠ 0 ∧ s.tick.tm.slew = 0) :=
  ⟨⟨std, 0, 5, by decide +kernel⟩,
    ⟨{ std with tm := { std.tm with incrLow := Tab.set none std.tm.incrLow (Writer.port 0).heldKey (some 3350074491) } },
      0, 0x10, _, by decide +kernel, rfl, by decide +kernel⟩,
    ⟨{ std with tm := { std.tm with incrLow := Tab.set none std.tm.incrLow (Writer.port 0).heldKey (some 3350074490) } },
      0, 0, _, by decide +kernel, rfl, by decide +kernel⟩,
    ⟨std, 0, 1000000, by decide +kernel⟩,
    ⟨std, 0, 1000001, by decide +kernel⟩,
    ⟨{ std with tm := { std.tm with slew := 1 } }, by decide +kernel⟩⟩

theorem witness_TimeSteps :
    (∃ (s : State) (p : Port) (v : Nat), s.mayWrite p.val false (reg_TIM_STEP.offset 0 3) ∧ s.get TIM_STEP.VAL 0 = v ∧
      time96Legal v = true) ∧
    (∃ (s : State) (p : Port) (v : Nat), s.mayWrite p.val false (reg_TIM_STEP.offset 0 3) ∧ s.get TIM_STEP.VAL 0 = v ∧
      time96Legal v = true ∧ fromTime96 v ≤ s.now) ∧
    (∃ (s : State) (p : Port) (v : Nat), s.mayWrite p.val false (reg_TIM_STEP.offset 0 3) ∧ s.get TIM_STEP.VAL 0 = v ∧
      time96Legal v = true ∧ s.now < fromTime96 v) :=
  ⟨⟨sets { std with now := 7 * sec + 999999999 * ns + 3 * 65536 } [(TIM_STEP.VAL,0,(2^48 + 999999999 * 65536 + 7))], 0,
    (2^48 + 999999999 * 65536 + 7), by decide +kernel⟩,
    ⟨sets { std with now := 7 * sec + 999999999 * ns + 3 * 65536 } [(TIM_STEP.VAL,0,(2^48 + 999999999 * 65536 + 7))], 0,
      (2^48 + 999999999 * 65536 + 7), by decide +kernel⟩,
    ⟨sets { std with now := 5 } [(TIM_STEP.VAL,0,(2^48 + 999999999 * 65536 + 7))], 0, (2^48 + 999999999 * 65536 + 7),
      by decide +kernel⟩⟩

theorem witness_DisciplineAndHoldover :
    (∃ (s : State) (p : Port) (v : Word), s.admits p.val 0 false true reg_TIM_KEEP.base = true) ∧
    (∃ (s : State) (gap : Nat), s.calm = true ∧ s.mode ≠ 0 ∧ (gap = s.mono + 1 - s.tm.ppsEdgeAt)) ∧
    (∃ (s : State) (e : Int), s.calm = true ∧ s.mode ≠ 0 ∧ s.get TIM_DISC.MODE 0 = 1 ∧ s.on TIM_STATUS.VALID 0 = true ∧
      s.on TIM_STATUS.HOLDOVER 0 = false ∧
      (e = (if 2 * (s.now % sec) < sec then (s.now % sec : Int) else (s.now % sec : Int) - sec)) ∧
      e.natAbs < s.get TIM_DISC.STEP_THRESH 0 * ns) ∧
    (∃ (s : State) (e : Int), s.calm = true ∧ s.mode ≠ 0 ∧ s.get TIM_DISC.MODE 0 = 1 ∧ s.on TIM_STATUS.VALID 0 = true ∧
      s.on TIM_STATUS.HOLDOVER 0 = false ∧
      (e = (if 2 * (s.now % sec) < sec then (s.now % sec : Int) else (s.now % sec : Int) - sec)) ∧
      s.get TIM_DISC.STEP_THRESH 0 * ns ≤ e.natAbs) ∧
    (∃ (s : State) (n : Nat), s.mode ≠ 0) ∧
    (∃ (s : State), s.on TIM_STATUS.PPS_OK 0 = true ∧ s.tm.ppsEdgeAt + 1001 * ms ≤ s.mono + 1) ∧
    (∃ (s : State) (ok : Bool), s.mode ≠ 0) ∧
    (∃ (s : State), s.undisciplined = true ∧ s.on TIM_STATUS.VALID 0 = true ∧ s.on TIM_STATUS.HOLDOVER 0 = false) :=
  ⟨⟨sets std [(TIM_STATUS.HOLDOVER,0,1)], 0, 0, by decide +kernel⟩,
    ⟨std, _, by decide +kernel, by decide +kernel, rfl⟩,
    ⟨sets { std with now := 7 * sec + 999 * ns } [(TIM_DISC.MODE,0,1),(TIM_STATUS.VALID,0,1),(TIM_DISC.STEP_THRESH,0,1000)], _, (by refine ⟨?_, ?_, ?_, ?_, ?_, rfl, ?_⟩ <;> decide +kernel)⟩,
    ⟨sets { std with now := 7 * sec + 1000 * ns } [(TIM_DISC.MODE,0,1),(TIM_STATUS.VALID,0,1),(TIM_DISC.STEP_THRESH,0,1000)], _, (by refine ⟨?_, ?_, ?_, ?_, ?_, rfl, ?_⟩ <;> decide +kernel)⟩,
    ⟨sets std [(TIM_DISC.MODE,0,1)], 10000000, by decide +kernel⟩,
    ⟨sets { std with mono := 1001 * ms } [(TIM_STATUS.PPS_OK,0,1)], by decide +kernel⟩,
    ⟨sets std [(TIM_STATUS.TREF_OK,0,1)], false, by decide +kernel⟩,
    ⟨sets { std with mono := 1001 * sec } [(TIM_STATUS.VALID,0,1)], by decide +kernel⟩⟩

theorem witness_TimeEvents :
    (∃ (s : State), s.get TIM_HO.LIMIT_NS 0 < s.hoErr ∧ s.tm.hoErrHit = false) ∧
    (∃ (s : State), s.mode ≠ 0 ∧ s.on TIM_STATUS.VALID 0 = true ∧ (s.now % sec < ns)) ∧
    (∃ (s : State), s.calm = true ∧ s.mode ≠ 0 ∧ s.on TIM_STATUS.TCLK_XTAL 0 = false) ∧
    (∃ (s : State) (a : Nat) (b : Nat) (c : Nat), s.mode ≠ 0 ∧ (a ≠ b ∧ b ≠ c ∧ a ≠ c)) ∧
    (∃ (s : State) (a : Nat) (b : Nat) (c : Nat), s.mode ≠ 0 ∧ (a = b ∨ b = c ∨ a = c)) :=
  ⟨⟨sets { std with mono := 1000 * sec } [(TIM_STATUS.HOLDOVER,0,1),(TIM_HO.DRIFT_PPB,0,100),(TIM_HO.LIMIT_NS,0,1)],
    by decide +kernel⟩,
    ⟨sets { std with now := 5 * sec + 3 } [(TIM_STATUS.VALID,0,1)], by decide +kernel⟩,
    ⟨std, by decide +kernel⟩,
    ⟨std, 1, 5, 3, by decide +kernel⟩,
    ⟨std, 1, 5, 1, by decide +kernel⟩⟩

theorem witness_LatchedReads :
    (∃ (s : State) (p : Port) (lp : Fin 16), s.admits p.val 0 false false (reg_TIM_TXQ.offset lp.val 0) = true) ∧
    (∃ (s : State) (p : Port), s.admits p.val 0 false false reg_GAU_RING_HEAD.base = true) ∧
    (∃ (s : State) (p : Port) (i : Fin 256), s.admits p.val 0 false false (reg_CLM_LOG.offset i.val 0) = true) ∧
    (∃ (s : State) (p : Port) (lp : Fin 16), s.admits p.val 1 false false (reg_TIM_TXQ.offset lp.val 0) = true) ∧
    (∃ (s : State) (p : Port) (i : Fin 256), s.admits p.val 1 false false (reg_CLM_LOG.offset i.val 0) = true) ∧
    (∃ (s : State) (p : Port) (fn : Fin 2) (i : Fin 4096),
      s.admits p.val fn.val false false (reg_SNP_SMP.offset i.val 0) = true) :=
  ⟨⟨{ std with tm := { std.tm with txq := Tab.set [] std.tm.txq 15 [⟨true,false,3,5⟩] } }, 0, 15, by decide +kernel⟩,
    ⟨std, 0, by decide +kernel⟩,
    ⟨std, 1, 255, by decide +kernel⟩,
    ⟨std, 1, 3, by decide +kernel⟩,
    ⟨std, 1, 3, by decide +kernel⟩,
    ⟨std, 0, 0, 4095, by decide +kernel⟩⟩

theorem witness_GaugeArmingAndSimpleActions_GaugeArmAndDisarm :
    (∃ (s : State) (p : Port) (i : Fin 1024) (v : Word) (n : State), s.mayWrite p.val false (reg_GAU_ENT.offset i.val 0) ∧
      s.gauLocked i.val = false ∧ n = s.gauTaken p.val i.val (putBits v.toNat 0 1 1) ∧ n.gauLegal i.val = true) ∧
    (∃ (s : State) (p : Port) (i : Fin 1024) (v : Word) (n : State), s.mayWrite p.val false (reg_GAU_ENT.offset i.val 0) ∧
      s.gauLocked i.val = false ∧ n = s.gauTaken p.val i.val (putBits v.toNat 0 1 1) ∧ n.gauLegal i.val = false) ∧
    (∃ (s : State) (p : Port) (i : Fin 1024) (v : Word), s.mayWrite p.val false (reg_GAU_ENT.offset i.val 0) ∧
      s.gauLocked i.val = false) ∧
    (∃ (s : State) (p : Port) (i : Fin 1024) (v : Word), s.mayWrite p.val false (reg_GAU_ENT.offset i.val 0) ∧
      s.gauLocked i.val = true) :=
  ⟨⟨sets std [(GAU_ENT.PERIOD,0,6553600)], 0, 0, 2, _, by decide +kernel, by decide +kernel, rfl, by decide +kernel⟩,
    ⟨std, 0, 0, 40, _, by decide +kernel, by decide +kernel, rfl, by decide +kernel⟩,
    ⟨sets std [(GAU_ENT.ENABLE,1,1)], 1, 1, 0, by decide +kernel⟩,
    ⟨sets std [(GAU_SCH.VALID,5,1),(GAU_SCH.DERIVE_ENTRY,5,9)], 1, 9, 0, by decide +kernel⟩⟩

theorem witness_GaugeArmingAndSimpleActions_GaugeSimpleActions :
    (∃ (s : State) (i : Fin 1024), s.fires i.val 0) ∧
    (∃ (s : State) (i : Fin 1024), s.fires i.val 1) ∧
    (∃ (s : State) (i : Fin 1024), s.fires i.val 9) ∧
    (∃ (s : State) (i : Fin 1024), s.fires i.val 8) ∧
    (∃ (s : State) (pin : Fin 4), Tab.get 0 s.tm.pulseEnd pin.val ≠ 0 ∧ Tab.get 0 s.tm.pulseEnd pin.val ≤ s.mono) ∧
    (∃ (s : State) (lp : Fin 16), Tab.get 0 s.ga.launchWin lp.val ≠ 0 ∧ Tab.get 0 s.ga.launchWin lp.val ≤ s.now) :=
  ⟨⟨sets { std with now := 10 * sec } ([(TIM_STATUS.VALID,0,1),(GAU_ENT.ENABLE,0,1),(GAU_ENT.ACTION,0,0)] ++ []), 0,
    by decide +kernel⟩,
    ⟨sets { std with now := 10 * sec } ([(TIM_STATUS.VALID,0,1),(GAU_ENT.ENABLE,0,1),(GAU_ENT.ACTION,0,1)] ++ [(GAU_ENT.TARGET,0,3),(TIM_PULSE_CFG.WIDTH,3,7)]), 0, by decide +kernel⟩,
    ⟨sets { std with now := 10 * sec } ([(TIM_STATUS.VALID,0,1),(GAU_ENT.ENABLE,0,1),(GAU_ENT.ACTION,0,9)] ++ [(GAU_ENT.TARGET,0,63)]), 0, by decide +kernel⟩,
    ⟨sets { std with now := 9 * sec + 5 } ([(TIM_STATUS.VALID,0,1),(GAU_ENT.ENABLE,0,1),(GAU_ENT.ACTION,0,8)] ++ [(GAU_ENT.TARGET,0,15),(GAU_ENT.PARAM,0,4294967295),(GAU_ENT.DUE,0,9 * 2^48)]), 0, by decide +kernel⟩,
    ⟨{ std with mono := 10, tm := { std.tm with pulseEnd := Tab.set 0 std.tm.pulseEnd 3 10 } }, 3, by decide +kernel⟩,
    ⟨{ std with now := 10, ga := { std.ga with launchWin := Tab.set 0 std.ga.launchWin 15 10 } }, 15, by decide +kernel⟩⟩

theorem witness_GaugeSwitches :
    (∃ (s : State) (i : Fin 1024) (c : Nat), s.fires i.val 3 ∧ s.get GAU_ENT.TARGET i.val = c ∧
      s.get GAU_ENT.SCOPE i.val = 0) ∧
    (∃ (s : State) (i : Fin 1024) (c : Nat), s.fires i.val 3 ∧ s.get GAU_ENT.TARGET i.val = c ∧
      s.get GAU_ENT.SCOPE i.val = 1) ∧
    (∃ (s : State) (i : Fin 1024) (c : Nat), s.fires i.val 3 ∧ s.get GAU_ENT.TARGET i.val = c ∧
      s.get GAU_ENT.SCOPE i.val = 2) ∧
    (∃ (s : State) (i : Fin 1024) (c : Nat), s.fires i.val 3 ∧ s.get GAU_ENT.TARGET i.val = c ∧
      s.get GAU_ENT.SCOPE i.val = 3) :=
  ⟨⟨sets { std with now := 10 * sec } ([(TIM_STATUS.VALID,0,1),(GAU_ENT.ENABLE,0,1),(GAU_ENT.ACTION,0,3)] ++ [(SCT_TX.VALID,0,1),(SAT_TX.STATE,0,2),(SAT_TX.STATE,1,1)]), 0, 0, by decide +kernel⟩,
    ⟨sets { std with now := 10 * sec } ([(TIM_STATUS.VALID,0,1),(GAU_ENT.ENABLE,0,1),(GAU_ENT.ACTION,0,3)] ++ [(SCT_TX.VALID,0,1),(SAT_TX.STATE,0,2),(SAT_TX.STATE,1,1),(GAU_ENT.SCOPE,0,1)]), 0, 0, by decide +kernel⟩,
    ⟨sets { std with now := 10 * sec } ([(TIM_STATUS.VALID,0,1),(GAU_ENT.ENABLE,0,1),(GAU_ENT.ACTION,0,3)] ++ [(SCT_RX.VALID,0,1),(SAT_RX.STATE,0,2),(SAT_RX.STATE,1,1),(SCT_RX.OVERLAP,0,9),(GAU_ENT.SCOPE,0,2)]), 0, 0, by decide +kernel⟩,
    ⟨sets { std with now := 10 * sec } ([(TIM_STATUS.VALID,0,1),(GAU_ENT.ENABLE,0,1),(GAU_ENT.ACTION,0,3)] ++ [(SCT_RX.VALID,0,1),(SAT_RX.STATE,0,2),(SAT_RX.STATE,1,1),(SCT_RX.OVERLAP,0,9),(GAU_ENT.SCOPE,0,3)]), 0, 0, by decide +kernel⟩⟩

theorem witness_GaugeEngineActionsAndShapers_GaugeModeOverlay :
    (∃ (s : State) (i : Fin 1024) (m : Nat) (g : Nat) (legal : Bool), s.fires i.val 2 ∧ s.get GAU_ENT.TARGET i.val = m ∧
      (m = mSTANDBY ∨ m = mSECURE ∨ m = mGUARDED) ∧ s.reqQuiet = true ∧ s.degSafe ∧ s.md.trans = none ∧ s.mode ≠ mBOOT ∧
      s.mode ≠ 0 ∧ legal = [(2, 3), (2, 4), (3, 4), (3, 2), (4, 3), (4, 2), (5, 2)].contains (s.mode, m) ∧
      g = s.failedGuard (decide (s.mode = mSTANDBY)) (decide (m = mGUARDED)) ∧ (m = s.mode ∨ (s.mode = mDEGRADED ∧
      m = s.get GLB_MODE.BASE 0))) ∧
    (∃ (s : State) (i : Fin 1024) (m : Nat) (g : Nat) (legal : Bool), s.fires i.val 2 ∧ s.get GAU_ENT.TARGET i.val = m ∧
      (m = mSTANDBY ∨ m = mSECURE ∨ m = mGUARDED) ∧ s.reqQuiet = true ∧ s.degSafe ∧ s.md.trans = none ∧ s.mode ≠ mBOOT ∧
      s.mode ≠ 0 ∧ legal = [(2, 3), (2, 4), (3, 4), (3, 2), (4, 3), (4, 2), (5, 2)].contains (s.mode, m) ∧
      g = s.failedGuard (decide (s.mode = mSTANDBY)) (decide (m = mGUARDED)) ∧ m ≠ s.mode ∧ (¬(s.mode = mDEGRADED ∧
      m = s.get GLB_MODE.BASE 0)) ∧ legal = true ∧ g = 0) ∧
    (∃ (s : State) (i : Fin 1024) (m : Nat) (g : Nat) (legal : Bool), s.fires i.val 2 ∧ s.get GAU_ENT.TARGET i.val = m ∧
      (m = mSTANDBY ∨ m = mSECURE ∨ m = mGUARDED) ∧ s.reqQuiet = true ∧ s.degSafe ∧ s.md.trans = none ∧ s.mode ≠ mBOOT ∧
      s.mode ≠ 0 ∧ legal = [(2, 3), (2, 4), (3, 4), (3, 2), (4, 3), (4, 2), (5, 2)].contains (s.mode, m) ∧
      g = s.failedGuard (decide (s.mode = mSTANDBY)) (decide (m = mGUARDED)) ∧ m ≠ s.mode ∧ (¬(s.mode = mDEGRADED ∧
      m = s.get GLB_MODE.BASE 0)) ∧ legal = true ∧ g ≠ 0) ∧
    (∃ (s : State) (i : Fin 1024) (m : Nat) (g : Nat) (legal : Bool), s.fires i.val 2 ∧ s.get GAU_ENT.TARGET i.val = m ∧
      (m = mSTANDBY ∨ m = mSECURE ∨ m = mGUARDED) ∧ s.reqQuiet = true ∧ s.degSafe ∧ s.md.trans = none ∧ s.mode ≠ mBOOT ∧
      s.mode ≠ 0 ∧ legal = [(2, 3), (2, 4), (3, 4), (3, 2), (4, 3), (4, 2), (5, 2)].contains (s.mode, m) ∧
      g = s.failedGuard (decide (s.mode = mSTANDBY)) (decide (m = mGUARDED)) ∧ m ≠ s.mode ∧ (¬(s.mode = mDEGRADED ∧
      m = s.get GLB_MODE.BASE 0)) ∧ legal = false) :=
  ⟨⟨sets { { std with vn := { std.vn with capPages := 524288 } } with now := 10 * sec } ([(TIM_STATUS.VALID,0,1),(GAU_ENT.ENABLE,0,1),(GAU_ENT.ACTION,0,2)] ++ [(GAU_ENT.TARGET,0,2),(GLB_MODE.MODE,0,2),(GLB_MODE.BASE,0,2),(RNG_STATUS.STATE,0,1),(VNR_CTL.EN,0,1),(VNR_STATUS.KEYS,0,1),(VNR_LAYOUT.DATA_P8,0,100)]), 0, 2, _, _, (by refine ⟨?_, ?_, ?_, ?_, by unfold State.degSafe; decide +kernel, ?_, ?_, ?_, rfl, rfl, ?_⟩ <;> decide +kernel)⟩,
    ⟨sets { { std with vn := { std.vn with capPages := 524288 } } with now := 10 * sec } ([(TIM_STATUS.VALID,0,1),(GAU_ENT.ENABLE,0,1),(GAU_ENT.ACTION,0,2)] ++ [(GAU_ENT.TARGET,0,3),(GLB_MODE.MODE,0,2),(GLB_MODE.BASE,0,2),(RNG_STATUS.STATE,0,1),(VNR_CTL.EN,0,1),(VNR_STATUS.KEYS,0,1),(VNR_LAYOUT.DATA_P8,0,100)]), 0, 3, _, _, (by refine ⟨?_, ?_, ?_, ?_, by unfold State.degSafe; decide +kernel, ?_, ?_, ?_, rfl, rfl, ?_⟩ <;> decide +kernel)⟩,
    ⟨sets { { std with vn := { std.vn with capPages := 524288 } } with now := 10 * sec } ([(TIM_STATUS.VALID,0,1),(GAU_ENT.ENABLE,0,1),(GAU_ENT.ACTION,0,2)] ++ [(GAU_ENT.TARGET,0,3),(GLB_MODE.MODE,0,2),(GLB_MODE.BASE,0,2),(GLB_ID.V,0,0)]), 0, 3, _, _, (by refine ⟨?_, ?_, ?_, ?_, by unfold State.degSafe; decide +kernel, ?_, ?_, ?_, rfl, rfl, ?_⟩ <;> decide +kernel)⟩,
    ⟨sets { { std with vn := { std.vn with capPages := 524288 } } with now := 10 * sec } ([(TIM_STATUS.VALID,0,1),(GAU_ENT.ENABLE,0,1),(GAU_ENT.ACTION,0,2)] ++ [(GAU_ENT.TARGET,0,4),(GLB_MODE.MODE,0,5),(GLB_MODE.BASE,0,3),(RNG_STATUS.STATE,0,1),(VNR_CTL.EN,0,1),(VNR_STATUS.KEYS,0,1),(VNR_LAYOUT.DATA_P8,0,100),(GLB_DEGRADED_CAUSE.THERMAL,0,1)]), 0, 4, _, _, (by refine ⟨?_, ?_, ?_, ?_, by unfold State.degSafe; decide +kernel, ?_, ?_, ?_, rfl, rfl, ?_⟩ <;> decide +kernel)⟩⟩

theorem witness_GaugeEngineActionsAndShapers_GaugeEngineActions :
    (∃ (s : State) (i : Fin 1024) (j : Nat), s.fires i.val 4 ∧ s.get GAU_ENT.TARGET i.val = j ∧
      s.on GAU_SCH.VALID j = true ∧ Tab.get 0 s.au.passStart j = 0) ∧
    (∃ (s : State) (i : Fin 1024), s.fires i.val 5 ∧ s.get GAU_ENT.PARAM i.val = 0) ∧
    (∃ (s : State) (i : Fin 1024), s.fires i.val 5 ∧ s.get GAU_ENT.PARAM i.val = 1) ∧
    (∃ (s : State) (i : Fin 1024), s.fires i.val 5 ∧ s.get GAU_ENT.PARAM i.val = 2) ∧
    (∃ (s : State) (i : Fin 1024) (k : Nat) (ok : Bool), s.fires i.val 6 ∧ (k = s.get GAU_ENT.TARGET i.val % 16) ∧
      (ok = (s.guarded k && !s.on CAR_TX.RUNNING k && s.carValid k && s.on TIM_LP.CAL_DONE k)) ∧ ok = true) ∧
    (∃ (s : State) (i : Fin 1024) (k : Nat) (ok : Bool), s.fires i.val 6 ∧ (k = s.get GAU_ENT.TARGET i.val % 16) ∧
      (ok = (s.guarded k && !s.on CAR_TX.RUNNING k && s.carValid k && s.on TIM_LP.CAL_DONE k)) ∧ ok = false) ∧
    (∃ (s : State) (i : Fin 1024), s.fires i.val 7 ∧ s.cn.sweep = none) ∧
    (∃ (s : State) (i : Fin 1024), s.fires i.val 7 ∧ s.cn.sweep.isSome = true) :=
  ⟨⟨sets { std with now := 10 * sec } ([(TIM_STATUS.VALID,0,1),(GAU_ENT.ENABLE,0,1),(GAU_ENT.ACTION,0,4)] ++ [(GAU_SCH.VALID,0,1)]), 0, 0, by decide +kernel⟩,
    ⟨sets { { std with pl := { std.pl with shpStage := Tab.set [] std.pl.shpStage 0 [1,5,4,100,64,1] } } with now := 10 * sec } ([(TIM_STATUS.VALID,0,1),(GAU_ENT.ENABLE,0,1),(GAU_ENT.ACTION,0,5)] ++ [(QUE_SHP.PENDING,0,1),(QUE_SHP.EGROUP,0,5),(GAU_ENT.TARGET,0,5)]), 0, by decide +kernel⟩,
    ⟨sets { std with now := 10 * sec } ([(TIM_STATUS.VALID,0,1),(GAU_ENT.ENABLE,0,1),(GAU_ENT.ACTION,0,5)] ++ [(QUE_SHP.EGROUP,0,5),(GAU_ENT.TARGET,0,5),(GAU_ENT.PARAM,0,1)]), 0, by decide +kernel⟩,
    ⟨sets { std with now := 10 * sec } ([(TIM_STATUS.VALID,0,1),(GAU_ENT.ENABLE,0,1),(GAU_ENT.ACTION,0,5)] ++ [(QUE_SHP.EGROUP,0,5),(GAU_ENT.TARGET,0,5),(GAU_ENT.PARAM,0,2)]), 0, by decide +kernel⟩,
    ⟨sets { std with now := 10 * sec } ([(TIM_STATUS.VALID,0,1),(GAU_ENT.ENABLE,0,1),(GAU_ENT.ACTION,0,6)] ++ [(CAR_TX.EN,0,1),(SCT_TX.VALID,0,1),(SCT_TX.SUITE,0,2),(SCT_TX.CONF,0,1),(SCT_TX.SC_BIT,0,1),(TIM_LP.CAL_DONE,0,1),(CAR_TX.CSIZE,0,512),(CAR_TX.PERIOD_PS,0,1000000),(GLB_MODE.MODE,0,4)]), 0, _, _, by decide +kernel, rfl, rfl, by decide +kernel⟩,
    ⟨sets { std with now := 10 * sec } ([(TIM_STATUS.VALID,0,1),(GAU_ENT.ENABLE,0,1),(GAU_ENT.ACTION,0,6)] ++ []), 0, _,
      _, by decide +kernel, rfl, rfl, by decide +kernel⟩,
    ⟨sets { std with now := 10 * sec } ([(TIM_STATUS.VALID,0,1),(GAU_ENT.ENABLE,0,1),(GAU_ENT.ACTION,0,7)] ++ []), 0,
      by decide +kernel⟩,
    ⟨sets { { std with cn := { std.cn with sweep := some ⟨0, ⟨0,false,false,0,0,0,0,false,false,[]⟩, 0, 0, []⟩ } } with now := 10 * sec } ([(TIM_STATUS.VALID,0,1),(GAU_ENT.ENABLE,0,1),(GAU_ENT.ACTION,0,7)] ++ []), 0, by decide +kernel⟩⟩

theorem witness_AutonomousKeying_SchedulesStartAndStop :
    (∃ (s : State) (p : Port) (j : Fin 256) (v : Word) (n : State), s.mayWrite p.val false (reg_GAU_SCH.offset j.val 0) ∧
      n = s.schTaken p.val j.val (putBits v.toNat 0 1 1) ∧ s.on GAU_SCH.VALID j.val = false ∧ s.schFits n j.val = true) ∧
    (∃ (s : State) (p : Port) (j : Fin 256) (v : Word) (n : State), s.mayWrite p.val false (reg_GAU_SCH.offset j.val 0) ∧
      n = s.schTaken p.val j.val (putBits v.toNat 0 1 1) ∧ s.on GAU_SCH.VALID j.val = false ∧ s.schFits n j.val = false) ∧
    (∃ (s : State) (p : Port) (j : Fin 256) (v : Word) (n : State), s.mayWrite p.val false (reg_GAU_SCH.offset j.val 0) ∧
      n = s.schTaken p.val j.val (putBits v.toNat 0 1 0) ∧ s.get GAU_SCH.VALID j.val = 1 ∧
      (schLocked.all (fun f => n.get f j.val == s.get f j.val) = true)) ∧
    (∃ (s : State) (p : Port) (j : Fin 256) (v : Word) (n : State), s.mayWrite p.val false (reg_GAU_SCH.offset j.val 0) ∧
      n = s.schTaken p.val j.val (putBits v.toNat 0 1 0) ∧ s.get GAU_SCH.VALID j.val = 1 ∧
      (schLocked.all (fun f => n.get f j.val == s.get f j.val) = false)) ∧
    (∃ (s : State) (j : Fin 256), s.calm = true ∧ s.au.firstDue.contains j.val = true ∧ s.schRuns j.val = true ∧
      s.schT0 j.val ≤ s.now + s.schLead j.val ∧ Tab.get 0 s.au.passStart j.val = 0) ∧
    (∃ (s : State) (p : Port) (j : Fin 256), s.mayWrite p.val false reg_GAU_SCHED_CMD.base ∧ s.schRuns j.val = true ∧
      Tab.get 0 s.au.passStart j.val = 0) :=
  ⟨⟨sets std [(GAU_SCH.P_SEC,255,60),(GAU_SCH.LEAD_MS,255,1000),(GAU_SCH.W_US,255,100)], 0, 255, 0x300, _,
    by decide +kernel, rfl, by decide +kernel⟩,
    ⟨sets std [(GAU_SCH.LEAD_MS,0,50),(GAU_SCH.W_US,0,60000)], 0, 0, 1, _, by decide +kernel, rfl, by decide +kernel⟩,
    ⟨sets std [(GAU_SCH.P_SEC,0,60),(GAU_SCH.LEAD_MS,0,1000),(GAU_SCH.W_US,0,100),(GAU_SCH.VALID,0,1),(GAU_SCH.DERIVE_ENTRY,0,3)], 0, 0, 0x300, _, by decide +kernel, rfl, by decide +kernel⟩,
    ⟨sets std [(GAU_SCH.P_SEC,0,60),(GAU_SCH.LEAD_MS,0,1000),(GAU_SCH.W_US,0,100),(GAU_SCH.VALID,0,1),(GAU_SCH.DERIVE_ENTRY,0,3)], 0, 0, 0x400, _, by decide +kernel, rfl, by decide +kernel⟩,
    ⟨{ sets std [(GAU_SCH.P_SEC,0,60),(GAU_SCH.LEAD_MS,0,1000),(GAU_SCH.W_US,0,100),(GAU_SCH.VALID,0,1),(TIM_STATUS.VALID,0,1),(SCT_TX.VALID,0,1),(SCT_TX.KEYING,0,1),(SCT_TX.SCHED,0,0)] with au := { std.au with firstDue := [0] } }, 0, by decide +kernel⟩,
    ⟨sets std [(GAU_SCH.P_SEC,0,60),(GAU_SCH.LEAD_MS,0,1000),(GAU_SCH.W_US,0,100),(GAU_SCH.VALID,0,1),(TIM_STATUS.VALID,0,1),(SCT_TX.VALID,0,1),(SCT_TX.KEYING,0,1),(SCT_TX.SCHED,0,0)], 0, 0, by decide +kernel⟩⟩

theorem witness_AutonomousKeying_AutokeyDerivations :
    (∃ (s : State) (r : Region) (x : PassItem) (fault : Bool), s.calm = true ∧ s.nextItem r.val = some x ∧
      s.chsTurn = some r.val ∧ s.get CHS_ENGINE.STATE 0 = 0 ∧ Tab.get 0 s.au.autEpoch (scKey x.dir x.sc) ≤ x.epoch ∧
      Tab.get 0 s.au.passRetry r.val = 0 ∧ s.itemCode x ≠ 0) ∧
    (∃ (s : State) (r : Region) (x : PassItem), s.calm = true ∧ s.nextItem r.val = some x ∧ s.chsTurn = some r.val ∧
      s.get CHS_ENGINE.STATE 0 = 0 ∧ Tab.get 0 s.au.autEpoch (scKey x.dir x.sc) ≤ x.epoch ∧
      Tab.get 0 s.au.passRetry r.val = 0 ∧ s.itemCode x = 0) ∧
    (∃ (s : State) (r : Region) (x : PassItem), s.calm = true ∧ s.nextItem r.val = some x ∧ s.chsTurn = some r.val ∧
      s.get CHS_ENGINE.STATE 0 = 0 ∧ Tab.get 0 s.au.autEpoch (scKey x.dir x.sc) ≤ x.epoch ∧
      Tab.get 0 s.au.passRetry r.val ≠ 0 ∧ s.cakGone x (Tab.get 0 s.au.passRetry r.val) = false) ∧
    (∃ (s : State) (r : Region) (x : PassItem), s.calm = true ∧ s.nextItem r.val = some x ∧ s.chsTurn = some r.val ∧
      s.get CHS_ENGINE.STATE 0 = 0 ∧ Tab.get 0 s.au.autEpoch (scKey x.dir x.sc) ≤ x.epoch ∧
      Tab.get 0 s.au.passRetry r.val = 0 ∧ s.itemCode x = 0 ∧ s.saState (s.itemKey x) = saACTIVE ∧ (x.dir = .ig →
      s.storeFree (256 + s.itemKey x) = true)) ∧
    (∃ (s : State) (r : Region) (x : PassItem) (k : List Octet × Nat × Nat), s.calm = true ∧ s.nextItem r.val = some x ∧
      s.chsTurn = some r.val ∧ s.get CHS_ENGINE.STATE 0 = 0 ∧ Tab.get 0 s.au.autEpoch (scKey x.dir x.sc) ≤ x.epoch ∧
      Tab.get 0 s.au.passRetry r.val = 0 ∧ s.itemCode x = 0 ∧ x.dir = .eg ∧ s.saState (s.itemKey x) ≠ saACTIVE ∧
      s.now + s.schW (s.get SCT_TX.SCHED x.sc) < s.epochStart (s.get SCT_TX.SCHED x.sc) x.epoch ∧
      (k = autSplit (s.get SCT_TX.SUITE x.sc) (kdf (Tab.get [] s.ke.slotKey (s.itemSlot x)) (ascii "QX-SAK") (beBytes 8 (s.get SCT_TX.SCI x.sc) ++ beBytes 8 x.epoch) (autBits (s.get SCT_TX.SUITE x.sc))))) ∧
    (∃ (s : State) (r : Region) (x : PassItem) (k : List Octet × Nat × Nat) (b : Nat), s.calm = true ∧
      s.nextItem r.val = some x ∧ s.chsTurn = some r.val ∧ s.get CHS_ENGINE.STATE 0 = 0 ∧
      Tab.get 0 s.au.autEpoch (scKey x.dir x.sc) ≤ x.epoch ∧ Tab.get 0 s.au.passRetry r.val = 0 ∧ s.itemCode x = 0 ∧
      x.dir = .ig ∧ s.itemKey x = 8192 + b ∧ s.get SAT_RX.STATE b ≠ saACTIVE ∧ s.storeFree (256 + s.itemKey x) = true ∧
      (k = autSplit (s.get SCT_RX.SUITE x.sc) (kdf (Tab.get [] s.ke.slotKey (s.itemSlot x)) (ascii "QX-SAK") (beBytes 8 (s.get SCT_RX.SCI x.sc) ++ beBytes 8 x.epoch) (autBits (s.get SCT_RX.SUITE x.sc))))) ∧
    (∃ (s : State) (j : Fin 256), s.calm = true ∧ Tab.get 0 s.au.passStart j.val ≠ 0 ∧
      (s.au.passItems.all (fun x => x.sched != j.val) = true)) :=
  ⟨⟨lcs 2 (sets { std with  au := { std.au with passItems := [⟨0,.eg,0,1⟩], passStart := [(0,5)] }, ke := { std.ke with slotKey := Tab.set [] std.ke.slotKey 20 (beBytes 32 5) } } [(GAU_SCH.P_SEC,0,60),(GAU_SCH.LEAD_MS,0,1000),(GAU_SCH.W_US,0,100),(GAU_SCH.VALID,0,1),(TIM_STATUS.VALID,0,1),(SCT_TX.VALID,0,1),(SCT_TX.KEYING,0,1),(SCT_TX.SUITE,0,2),(SCT_TX.CAK_SLOT,0,20),(SCT_RX.VALID,0,1),(SCT_RX.KEYING,0,1),(SCT_RX.SUITE,0,2),(SCT_RX.CAK_SLOT,0,20),(KST_SLOT.STATE,20,0)]), 0, ⟨0,.eg,0,1⟩, false, by decide +kernel⟩,
    ⟨lcs 2 (sets { std with  au := { std.au with passItems := [⟨0,.eg,0,1⟩], passStart := [(0,5)] }, ke := { std.ke with slotKey := Tab.set [] std.ke.slotKey 20 (beBytes 32 5) } } [(GAU_SCH.P_SEC,0,60),(GAU_SCH.LEAD_MS,0,1000),(GAU_SCH.W_US,0,100),(GAU_SCH.VALID,0,1),(TIM_STATUS.VALID,0,1),(SCT_TX.VALID,0,1),(SCT_TX.KEYING,0,1),(SCT_TX.SUITE,0,2),(SCT_TX.CAK_SLOT,0,20),(SCT_RX.VALID,0,1),(SCT_RX.KEYING,0,1),(SCT_RX.SUITE,0,2),(SCT_RX.CAK_SLOT,0,20),(KST_SLOT.STATE,20,1),(KST_SLOT.KLEN,20,1),(KST_SLOT.MASTERS,20,7),(KST_SLOT.WORLDS,20,3),(KST_SLOT.LCS,20,7),(KST_SLOT.PURPOSE,20,63),(KST_SLOT.GEN,20,4)]), 0, ⟨0,.eg,0,1⟩, by decide +kernel⟩,
    ⟨lcs 2 (sets { std with  au := { std.au with passItems := [⟨0,.eg,0,1⟩], passStart := [(0,5)], passRetry := [(0,5)] }, ke := { std.ke with slotKey := Tab.set [] std.ke.slotKey 20 (beBytes 32 5) } } [(GAU_SCH.P_SEC,0,60),(GAU_SCH.LEAD_MS,0,1000),(GAU_SCH.W_US,0,100),(GAU_SCH.VALID,0,1),(TIM_STATUS.VALID,0,1),(SCT_TX.VALID,0,1),(SCT_TX.KEYING,0,1),(SCT_TX.SUITE,0,2),(SCT_TX.CAK_SLOT,0,20),(SCT_RX.VALID,0,1),(SCT_RX.KEYING,0,1),(SCT_RX.SUITE,0,2),(SCT_RX.CAK_SLOT,0,20),(KST_SLOT.STATE,20,1),(KST_SLOT.KLEN,20,1),(KST_SLOT.MASTERS,20,7),(KST_SLOT.WORLDS,20,3),(KST_SLOT.LCS,20,7),(KST_SLOT.PURPOSE,20,63),(KST_SLOT.GEN,20,4)]), 0, ⟨0,.eg,0,1⟩, by decide +kernel⟩,
    ⟨lcs 2 (sets { std with  au := { std.au with passItems := [⟨0,.eg,0,1⟩], passStart := [(0,5)] }, ke := { std.ke with slotKey := Tab.set [] std.ke.slotKey 20 (beBytes 32 5) } } [(GAU_SCH.P_SEC,0,60),(GAU_SCH.LEAD_MS,0,1000),(GAU_SCH.W_US,0,100),(GAU_SCH.VALID,0,1),(TIM_STATUS.VALID,0,1),(SCT_TX.VALID,0,1),(SCT_TX.KEYING,0,1),(SCT_TX.SUITE,0,2),(SCT_TX.CAK_SLOT,0,20),(SCT_RX.VALID,0,1),(SCT_RX.KEYING,0,1),(SCT_RX.SUITE,0,2),(SCT_RX.CAK_SLOT,0,20),(KST_SLOT.STATE,20,1),(KST_SLOT.KLEN,20,1),(KST_SLOT.MASTERS,20,7),(KST_SLOT.WORLDS,20,3),(KST_SLOT.LCS,20,7),(KST_SLOT.PURPOSE,20,63),(KST_SLOT.GEN,20,4),(SAT_TX.STATE,0,2)]), 0, ⟨0,.eg,0,1⟩, by decide +kernel⟩,
    ⟨lcs 2 (sets { std with  au := { std.au with passItems := [⟨0,.eg,0,1⟩], passStart := [(0,5)] }, ke := { std.ke with slotKey := Tab.set [] std.ke.slotKey 20 (beBytes 32 5) } } [(GAU_SCH.P_SEC,0,60),(GAU_SCH.LEAD_MS,0,1000),(GAU_SCH.W_US,0,100),(GAU_SCH.VALID,0,1),(TIM_STATUS.VALID,0,1),(SCT_TX.VALID,0,1),(SCT_TX.KEYING,0,1),(SCT_TX.SUITE,0,2),(SCT_TX.CAK_SLOT,0,20),(SCT_RX.VALID,0,1),(SCT_RX.KEYING,0,1),(SCT_RX.SUITE,0,2),(SCT_RX.CAK_SLOT,0,20),(KST_SLOT.STATE,20,1),(KST_SLOT.KLEN,20,1),(KST_SLOT.MASTERS,20,7),(KST_SLOT.WORLDS,20,3),(KST_SLOT.LCS,20,7),(KST_SLOT.PURPOSE,20,63),(KST_SLOT.GEN,20,4)]), 0, ⟨0,.eg,0,1⟩, _, (by refine ⟨?_, ?_, ?_, ?_, ?_, ?_, ?_, ?_, ?_, ?_, rfl⟩ <;> decide +kernel)⟩,
    ⟨lcs 2 (sets { std with  au := { std.au with passItems := [⟨0,.ig,0,1⟩], passStart := [(0,5)] }, ke := { std.ke with slotKey := Tab.set [] std.ke.slotKey 20 (beBytes 32 5) } } [(GAU_SCH.P_SEC,0,60),(GAU_SCH.LEAD_MS,0,1000),(GAU_SCH.W_US,0,100),(GAU_SCH.VALID,0,1),(TIM_STATUS.VALID,0,1),(SCT_TX.VALID,0,1),(SCT_TX.KEYING,0,1),(SCT_TX.SUITE,0,2),(SCT_TX.CAK_SLOT,0,20),(SCT_RX.VALID,0,1),(SCT_RX.KEYING,0,1),(SCT_RX.SUITE,0,2),(SCT_RX.CAK_SLOT,0,20),(KST_SLOT.STATE,20,1),(KST_SLOT.KLEN,20,1),(KST_SLOT.MASTERS,20,7),(KST_SLOT.WORLDS,20,3),(KST_SLOT.LCS,20,7),(KST_SLOT.PURPOSE,20,63),(KST_SLOT.GEN,20,4)]), 0, ⟨0,.ig,0,1⟩, _, 0, (by refine ⟨?_, ?_, ?_, ?_, ?_, ?_, ?_, ?_, ?_, ?_, ?_, rfl⟩ <;> decide +kernel)⟩,
    ⟨{ std with mono := 70 * sec, au := { std.au with passStart := Tab.set 0 std.au.passStart 255 5, passItems := [⟨0,.eg,0,1⟩] } }, 255, by decide +kernel⟩⟩

theorem witness_AutonomousKeying_EpochInstants :
    (∃ (s : State) (c : Fin 4096) (g : Staged) (a : Nat), s.calm = true ∧ a = s.autTarget c.val ∧
      Tab.get none s.au.staged a = some g ∧ s.schRuns (s.get SCT_TX.SCHED c.val) = true ∧ s.on SCT_TX.VALID c.val = true ∧
      s.epochStart (s.get SCT_TX.SCHED c.val) g.epoch ≤ s.now + s.schW (s.get SCT_TX.SCHED c.val) ∧
      Tab.get 0 s.au.autEpoch c.val ≤ g.epoch ∧ s.get SAT_TX.STATE a ≠ saACTIVE ∧ s.storeFree (256 + a) = true) ∧
    (∃ (s : State) (c : Fin 4096) (n : Nat) (m : Nat) (j : Nat), s.calm = true ∧ j = s.get SCT_RX.SCHED c.val ∧
      Tab.get 0 s.au.saEpoch (8192 + s.rxOth c.val) = n + 1 ∧ Tab.get 0 s.au.saEpoch (8192 + s.rxCur c.val) = m + 1 ∧
      s.schRuns j = true ∧ s.on SCT_RX.VALID c.val = true ∧ s.on SCT_RX.KEYING c.val = true ∧
      s.get SAT_RX.STATE (s.rxOth c.val) = saREADY ∧ s.epochStart j n ≤ s.now + s.schW j) ∧
    (∃ (s : State) (c : Fin 4096) (e : Nat), s.calm = true ∧ e = s.epochAt (s.get SCT_TX.SCHED c.val) s.now ∧
      s.schRuns (s.get SCT_TX.SCHED c.val) = true ∧ s.on SCT_TX.VALID c.val = true ∧ s.on SCT_TX.KEYING c.val = true ∧
      Tab.get 0 s.au.switched c.val < e ∧ Tab.get 0 s.au.saEpoch (s.curSa c.val) < e ∧
      Tab.get 0 s.au.saEpoch (s.othSa c.val) ≤ e) :=
  ⟨⟨sets { std with now := 59 * sec + 999950 * us, au := { std.au with staged := Tab.set none std.au.staged 0 (some ⟨beBytes 32 7, 9, 3, 1, 20, false⟩) } } [(GAU_SCH.P_SEC,0,60),(GAU_SCH.LEAD_MS,0,1000),(GAU_SCH.W_US,0,100),(GAU_SCH.VALID,0,1),(TIM_STATUS.VALID,0,1),(SCT_TX.VALID,0,1),(SCT_TX.KEYING,0,1),(SCT_TX.SUITE,0,2)], 0, ⟨beBytes 32 7, 9, 3, 1, 20, false⟩, _, by decide +kernel, rfl, by decide +kernel⟩,
    ⟨sets { std with now := 59 * sec + 999950 * us, au := { std.au with saEpoch := Tab.set 0 (Tab.set 0 std.au.saEpoch 8193 2) 8192 1 } } [(GAU_SCH.P_SEC,0,60),(GAU_SCH.LEAD_MS,0,1000),(GAU_SCH.W_US,0,100),(GAU_SCH.VALID,0,1),(TIM_STATUS.VALID,0,1),(SCT_RX.VALID,0,1),(SCT_RX.KEYING,0,1),(SCT_RX.SUITE,0,2),(SAT_RX.STATE,1,1)], 0, 1, 0, _, by decide +kernel, rfl, by decide +kernel⟩,
    ⟨sets { std with now := 120 * sec, au := { std.au with saEpoch := [(0,1),(1,3)] } } [(GAU_SCH.P_SEC,0,60),(GAU_SCH.LEAD_MS,0,1000),(GAU_SCH.W_US,0,100),(GAU_SCH.VALID,0,1),(TIM_STATUS.VALID,0,1),(SCT_TX.VALID,0,1),(SCT_TX.KEYING,0,1),(SCT_TX.SUITE,0,2),(SAT_TX.STATE,0,2),(SAT_TX.STATE,1,1)], 0, _, by decide +kernel, rfl, by decide +kernel⟩⟩

theorem witness_KeyStoreAndChiselCommandsQueue_KeyStoreCommandsQueue :
    (∃ (s : State) (p : Port) (slot : Fin 256) (sa : Fin 16384) (k256 : Bool) (replace : Bool) (c : Instr) (r : KstReq),
      s.mayWrite p.val true reg_KST_CMD.base ∧ ((c, r) ∈ [(Instr.kstGenerate p slot k256 replace,
      KstReq.mk p.val 1 slot.val 0 k256 replace), (.kstInvalidate p slot, ⟨p.val, 2, slot.val, 0, false, false⟩),
      (.kstErase p slot, ⟨p.val, 3, slot.val, 0, false, false⟩), (.kstEraseSa p sa, ⟨p.val, 4, 0, sa.val, false, false⟩),
      (.kstPersist p slot, ⟨p.val, 5, slot.val, 0, false, false⟩), (.kstUnpersist p slot, ⟨p.val, 6, slot.val, 0, false,
      false⟩)]) ∧ (s.get KST_STATUS.STATE p.val ≠ 1 ∧ s.get KST_STATUS.STATE p.val ≠ 2)) ∧
    (∃ (s : State) (p : Port) (slot : Fin 256) (sa : Fin 16384) (k256 : Bool) (replace : Bool) (c : Instr) (r : KstReq),
      s.mayWrite p.val true reg_KST_CMD.base ∧ ((c, r) ∈ [(Instr.kstGenerate p slot k256 replace,
      KstReq.mk p.val 1 slot.val 0 k256 replace), (.kstInvalidate p slot, ⟨p.val, 2, slot.val, 0, false, false⟩),
      (.kstErase p slot, ⟨p.val, 3, slot.val, 0, false, false⟩), (.kstEraseSa p sa, ⟨p.val, 4, 0, sa.val, false, false⟩),
      (.kstPersist p slot, ⟨p.val, 5, slot.val, 0, false, false⟩), (.kstUnpersist p slot, ⟨p.val, 6, slot.val, 0, false,
      false⟩)]) ∧ (s.get KST_STATUS.STATE p.val = 1 ∨ s.get KST_STATUS.STATE p.val = 2)) :=
  ⟨⟨std, 0, 255, 16383, true, false, .kstGenerate (0 : Port) (255 : Fin 256) (true : Bool) (false : Bool),
    ⟨(0 : Port).val,1,(255 : Fin 256).val,0,(true : Bool),(false : Bool)⟩, by decide +kernel⟩,
    ⟨sets std [(KST_STATUS.STATE,0,1)], 0, 255, 16383, true, false,
      .kstGenerate (0 : Port) (255 : Fin 256) (true : Bool) (false : Bool),
      ⟨(0 : Port).val,1,(255 : Fin 256).val,0,(true : Bool),(false : Bool)⟩, by decide +kernel⟩⟩

theorem witness_KeyStoreCommandsRun :
    (∃ (s : State) (r : KstReq) (rest : List KstReq) (why : Nat), s.calm = true ∧ s.ke.kstQueue = r :: rest ∧ r.port < 2 ∧
      s.kstWaits r = false ∧ r.op ≠ 4 ∧ (1 ≤ r.op ∧ r.op ≤ 6) ∧
      (why = (if r.slot < 4 then 2 else if r.slot < 16 then 8 else if r.op = 1 then s.slotRefused r.slot r.replace else if s.get KST_SLOT.STATE r.slot = 0 then 4 else if s.get KST_SLOT.STATE r.slot = 2 ∧ (r.op = 2 ∨ r.op = 5) then 5 else 0)) ∧ why ≠ 0) ∧
    (∃ (s : State) (r : KstReq) (rest : List KstReq) (k : List Octet), s.calm = true ∧ s.ke.kstQueue = r :: rest ∧
      r.port < 2 ∧ s.kstWaits r = false ∧ r.op = 1 ∧ 16 ≤ r.slot ∧ s.get KST_SLOT.STATE r.slot = 0 ∧
      ((s.draw (if r.k256 then 32 else 16)).map (·.1) = some k)) ∧
    (∃ (s : State) (r : KstReq) (rest : List KstReq), s.calm = true ∧ s.ke.kstQueue = r :: rest ∧ r.port < 2 ∧
      s.kstWaits r = false ∧ r.op = 2 ∧ 16 ≤ r.slot ∧ s.get KST_SLOT.STATE r.slot ≠ 0 ∧ s.get KST_SLOT.STATE r.slot ≠ 2) ∧
    (∃ (s : State) (r : KstReq) (rest : List KstReq), s.calm = true ∧ s.ke.kstQueue = r :: rest ∧ r.port < 2 ∧
      s.kstWaits r = false ∧ r.op = 3 ∧ 16 ≤ r.slot ∧ s.get KST_SLOT.STATE r.slot ≠ 0) ∧
    (∃ (s : State) (r : KstReq) (rest : List KstReq), s.calm = true ∧ s.ke.kstQueue = r :: rest ∧ r.port < 2 ∧
      s.kstWaits r = false ∧ r.op = 4) ∧
    (∃ (s : State) (r : KstReq) (rest : List KstReq), s.calm = true ∧ s.ke.kstQueue = r :: rest ∧ r.port < 2 ∧
      s.kstWaits r = false ∧ r.op = 6 ∧ 16 ≤ r.slot ∧ s.get KST_SLOT.STATE r.slot ≠ 0) ∧
    (∃ (s : State) (p : Port), s.calm = true ∧ s.get KST_STATUS.STATE p.val = 2) :=
  ⟨⟨sets { std with ke := { std.ke with kstQueue := [⟨0,1,3,0,true,false⟩] } } [(KST_SLOT.CASCADE,255,1)],
    ⟨0,1,3,0,true,false⟩, [],
    (if (⟨0,1,3,0,true,false⟩ : KstReq).slot < 4 then 2 else if (⟨0,1,3,0,true,false⟩ : KstReq).slot < 16 then 8 else if (⟨0,1,3,0,true,false⟩ : KstReq).op = 1 then (sets { std with ke := { std.ke with kstQueue := [⟨0,1,3,0,true,false⟩] } } [(KST_SLOT.CASCADE,255,1)]).slotRefused (⟨0,1,3,0,true,false⟩ : KstReq).slot (⟨0,1,3,0,true,false⟩ : KstReq).replace else if (sets { std with ke := { std.ke with kstQueue := [⟨0,1,3,0,true,false⟩] } } [(KST_SLOT.CASCADE,255,1)]).get KST_SLOT.STATE (⟨0,1,3,0,true,false⟩ : KstReq).slot = 0 then 4 else if (sets { std with ke := { std.ke with kstQueue := [⟨0,1,3,0,true,false⟩] } } [(KST_SLOT.CASCADE,255,1)]).get KST_SLOT.STATE (⟨0,1,3,0,true,false⟩ : KstReq).slot = 2 ∧ ((⟨0,1,3,0,true,false⟩ : KstReq).op = 2 ∨ (⟨0,1,3,0,true,false⟩ : KstReq).op = 5) then 5 else 0), by decide +kernel⟩,
    ⟨sets { withDrbg std with ke := { std.ke with kstQueue := [⟨0,1,255,0,true,false⟩] } } [(KST_SLOT.CASCADE,255,1)],
      ⟨0,1,255,0,true,false⟩, [], _,
      (by refine ⟨?_, ?_, ?_, ?_, ?_, ?_, ?_, Option.eq_some_of_isSome (by decide +kernel)⟩ <;> decide +kernel)⟩,
    ⟨sets { std with ke := { std.ke with kstQueue := [⟨0,2,20,0,true,false⟩], slotKey := [(20,beBytes 32 5),(21,beBytes 32 6),(22,beBytes 32 7)] } } [(KST_SLOT.CASCADE,255,1),(KST_SLOT.STATE,20,1)], ⟨0,2,20,0,true,false⟩, [], by decide +kernel⟩,
    ⟨sets { std with ke := { std.ke with kstQueue := [⟨0,3,20,0,true,false⟩], slotKey := [(20,beBytes 32 5),(21,beBytes 32 6)] } } [(KST_SLOT.CASCADE,255,1),(KST_SLOT.STATE,20,1)], ⟨0,3,20,0,true,false⟩, [], by decide +kernel⟩,
    ⟨sets { std with ke := { std.ke with kstQueue := [⟨0,4,0,16383,true,false⟩], saKey := [(16383,[5])] } } [(KST_SLOT.CASCADE,255,1)], ⟨0,4,0,16383,true,false⟩, [], by decide +kernel⟩,
    ⟨sets { std with ke := { std.ke with kstQueue := [⟨0,6,20,0,true,false⟩] } } [(KST_SLOT.CASCADE,255,1),(KST_SLOT.STATE,20,1),(KST_SLOT.PERSISTED,20,1),(KST_SLOT.PERSIST,20,1)], ⟨0,6,20,0,true,false⟩, [], by decide +kernel⟩,
    ⟨sets { std with ke := { std.ke with kstZero := Tab.set [] std.ke.kstZero 0 [20] } } [(KST_STATUS.STATE,0,2)], 0,
      by decide +kernel⟩⟩

theorem witness_KeyStoreCommandsRun_OfficerBootstrap :
    (∃ (s : State) (p : Port) (v : Word) (key : List Octet), s.mayWrite p.val false reg_GLB_OFC_BOOT_GO.base ∧
      (key = (upto 8).flatMap (fun i => leBytes 4 (Tab.get 0 s.ke.bootKey i))) ∧ v.toNat = 0x0B057A9E ∧
      (8 ≤ s.get GLB_BOOT_STATUS.STAGE 0 ∨ s.mode ≠ mBOOT) ∧ (s.get KST_SLOT.STATE 2 = 0 ∧ s.ke.bootDone = false)) ∧
    (∃ (s : State) (p : Port) (v : Word) (key : List Octet), s.mayWrite p.val false reg_GLB_OFC_BOOT_GO.base ∧
      (key = (upto 8).flatMap (fun i => leBytes 4 (Tab.get 0 s.ke.bootKey i))) ∧ v.toNat = 0x0B057A9E ∧
      (8 ≤ s.get GLB_BOOT_STATUS.STAGE 0 ∨ s.mode ≠ mBOOT) ∧ (s.get KST_SLOT.STATE 2 ≠ 0 ∨ s.ke.bootDone = true)) ∧
    (∃ (s : State) (p : Port) (v : Word) (key : List Octet), s.mayWrite p.val false reg_GLB_OFC_BOOT_GO.base ∧
      (key = (upto 8).flatMap (fun i => leBytes 4 (Tab.get 0 s.ke.bootKey i))) ∧ v.toNat = 0x0B057A9E ∧
      (s.get GLB_BOOT_STATUS.STAGE 0 < 8 ∧ s.mode = mBOOT)) ∧
    (∃ (s : State) (p : Port) (v : Word) (key : List Octet), s.mayWrite p.val false reg_GLB_OFC_BOOT_GO.base ∧
      (key = (upto 8).flatMap (fun i => leBytes 4 (Tab.get 0 s.ke.bootKey i))) ∧ v.toNat ≠ 0x0B057A9E) :=
  ⟨⟨{ std with ke := { std.ke with bootKey := [(3,9)], slotKey := [(0,beBytes 32 5)] } }, 0, 0x0B057A9E, _,
    by decide +kernel, rfl, by decide +kernel⟩,
    ⟨{ sets std [(KST_SLOT.STATE,2,1)] with ke := { std.ke with bootKey := [(3,9)], slotKey := [(0,beBytes 32 5)] } }, 0,
      0x0B057A9E, _, by decide +kernel, rfl, by decide +kernel⟩,
    ⟨{ sets std [(GLB_MODE.MODE,0,1),(GLB_BOOT_STATUS.STAGE,0,7)] with ke := { std.ke with bootKey := [(3,9)], slotKey := [(0,beBytes 32 5)] } }, 0, 0x0B057A9E, _, by decide +kernel, rfl, by decide +kernel⟩,
    ⟨{ std with ke := { std.ke with bootKey := [(3,9)], slotKey := [(0,beBytes 32 5)] } }, 0, 0x0B057A9F, _,
      by decide +kernel, rfl, by decide +kernel⟩⟩

theorem witness_PkeOperationsAndReports_AttestationReports :
    (∃ (s : State) (p : Port), s.admits p.val 0 true true reg_ATT_CTL.base = true ∧ s.mode ≠ mBOOT ∧ s.mode ≠ 0 ∧
      s.get ATT_STATUS.STATE p.val ≠ 1 ∧ s.get PKE_STATUS.STATE 0 ≠ 2) ∧
    (∃ (s : State) (p : Port), s.admits p.val 0 true true reg_ATT_CTL.base = true ∧ s.mode ≠ mBOOT ∧ s.mode ≠ 0 ∧
      s.get ATT_STATUS.STATE p.val ≠ 1 ∧ s.get PKE_STATUS.STATE 0 = 2) ∧
    (∃ (s : State) (p : Nat) (map : List Octet), s.ch.pkeJob = some (.sign p map) ∧ s.get RNG_STATUS.STATE 0 ≠ 0 ∧
      s.signGone = false ∧ (s.draw 56).isSome = true) ∧
    (∃ (s : State) (p : Port) (r : List Octet) (cert : FlashRead) (o : List Octet), Tab.get [] s.att.attSigned p.val = r ∧
      r ≠ [] ∧ s.certWaits = false ∧ o = readOctets cert ∧ (o ≠ [] ∧ o.length ≤ 8192 ∧ sha384 o = s.lc.fuses.certHash)) ∧
    (∃ (s : State) (p : Port) (r : List Octet) (cert : FlashRead) (o : List Octet), Tab.get [] s.att.attSigned p.val = r ∧
      r ≠ [] ∧ s.certWaits = false ∧ o = readOctets cert ∧ (¬(o ≠ [] ∧ o.length ≤ 8192 ∧ sha384 o = s.lc.fuses.certHash))) :=
  ⟨⟨std, 0, by decide +kernel⟩,
    ⟨sets std [(PKE_STATUS.STATE,0,2)], 0, by decide +kernel⟩,
    ⟨sets { withDrbg std with ch := { (withDrbg std).ch with pkeJob := some (.sign 0 []), pkeGen := 0 }, ke := { std.ke with slotKey := [(1, beBytes 48 5)] } } [(KST_SLOT.STATE,1,1)], 0, [], by decide +kernel⟩,
    ⟨{ std with att := { std.att with attSigned := [(0,[1,2])] }, lc := { std.lc with fuses := { std.lc.fuses with certHash := sha384 [5] } } }, 0, [1,2], .octets [5], _, (by refine ⟨?_, ?_, ?_, rfl, ?_⟩ <;> decide +kernel)⟩,
    ⟨{ std with att := { std.att with attSigned := [(0,[1,2])] } }, 0, [1,2], .octets [5], _,
      (by refine ⟨?_, ?_, ?_, rfl, ?_⟩ <;> decide +kernel)⟩⟩

theorem witness_KeyStoreAndChiselCommandsQueue_ChiselCommandsQueue :
    (∃ (s : State) (p : Port) (w : World) (v : Word) (c : Instr) (op : Nat),
      s.mayWrite p.val (cmdReg w).bar2 (cmdReg w).base ∧ ((c, op) ∈ [(Instr.enc p w v, 1), (.dec p w v, 2), (.cmac p w v,
      3), (.wrap p w v, 4), (.exportKey p w v, 5), (.unwrapSlot p w v, 6), (.unwrapSa p w v, 7), (.deriveSlot p w v, 8),
      (.deriveSa p w v, 9), (.chsEraseSa p w v, 10), (.suspend p w v, 11), (.restore p w v, 12), (.abort p w v, 13)]) ∧
      (s.get CHS_STATUS.STATE p.val ≠ 1 ∧ s.get CHS_STATUS.STATE p.val ≠ 2)) ∧
    (∃ (s : State) (p : Port) (w : World) (v : Word) (c : Instr) (op : Nat),
      s.mayWrite p.val (cmdReg w).bar2 (cmdReg w).base ∧ ((c, op) ∈ [(Instr.enc p w v, 1), (.dec p w v, 2), (.cmac p w v,
      3), (.wrap p w v, 4), (.exportKey p w v, 5), (.unwrapSlot p w v, 6), (.unwrapSa p w v, 7), (.deriveSlot p w v, 8),
      (.deriveSa p w v, 9), (.chsEraseSa p w v, 10), (.suspend p w v, 11), (.restore p w v, 12), (.abort p w v, 13)]) ∧
      (s.get CHS_STATUS.STATE p.val = 1 ∨ s.get CHS_STATUS.STATE p.val = 2)) :=
  ⟨⟨std, 0, .officer, 0x5a0, .enc (0 : Port) (.officer : World) (0x5a0 : Word), 1, by decide +kernel⟩,
    ⟨sets std [(CHS_STATUS.STATE,0,1)], 0, .officer, 0x5a0, .enc (0 : Port) (.officer : World) (0x5a0 : Word), 1,
      by decide +kernel⟩⟩

theorem witness_ChiselGrantsFaultsAndReads_ChiselGrantAndComplete :
    (∃ (s : State) (r : ChsReq) (a : ChsArgs), s.calm = true ∧ s.chsTurn = some 4 ∧ s.recWaits = false ∧
      s.ch.checks = [] ∧ ((s.ch.chsQueue.find? (fun r => r.port == s.ch.chsFirst)).or s.ch.chsQueue.head? = some r) ∧
      r.lost = false ∧ a = s.chsArgs r.port r.word) ∧
    (∃ (s : State) (r : ChsReq) (a : ChsArgs), s.calm = true ∧ s.chsTurn = some 4 ∧ s.recWaits = false ∧
      s.ch.checks = [] ∧ ((s.ch.chsQueue.find? (fun r => r.port == s.ch.chsFirst)).or s.ch.chsQueue.head? = some r) ∧
      r.lost = false ∧ a = s.chsArgs r.port r.word ∧ (a.op = 1 ∧ a.ksrc = true ∧ a.len ≠ 0 ∧ a.len % 16 = 0) ∧
      s.macOf r.port = none ∧ s.get CHS_ENGINE.STATE 0 = 0) ∧
    (∃ (s : State) (r : ChsReq) (key : Option (Nat × Nat)) (aes : Bool) (o : List Octet) (once : Bool), s.calm = true ∧
      s.ch.chsJob = some (.cmd r key aes (.result o once)) ∧ r.lost = false ∧
      (key.any (fun k => s.keyGone k.1 k.2) = false) ∧ o ≠ []) ∧
    (∃ (s : State) (r : ChsReq) (key : Option (Nat × Nat)) (aes : Bool) (o : List Octet) (once : Bool), s.calm = true ∧
      s.ch.chsJob = some (.cmd r key aes (.result o once)) ∧ r.lost = false ∧ (key.any (fun k => s.keyGone k.1 k.2) = true)) :=
  ⟨⟨sets { std with ch := { std.ch with chsQueue := [⟨0,.operator,0x30001,false⟩] } } [(CHS_ARG.LEN,0,16)],
    ⟨0,.operator,0x30001,false⟩, _, (by refine ⟨?_, ?_, ?_, ?_, ?_, ?_, rfl⟩ <;> decide +kernel)⟩,
    ⟨sets { std with ch := { std.ch with chsQueue := [⟨0,.operator,0x30001,false⟩] } } [(CHS_ARG.LEN,0,16)],
      ⟨0,.operator,0x30001,false⟩, _, (by refine ⟨?_, ?_, ?_, ?_, ?_, ?_, rfl, ?_⟩ <;> decide +kernel)⟩,
    ⟨{ std with ch := { std.ch with chsJob := some (.cmd ⟨1,.officer,1,false⟩ (none) true (.result [1,2] true)) } },
      ⟨1,.officer,1,false⟩, none, true, [1,2], true, by decide +kernel⟩,
    ⟨{ std with ch := { std.ch with chsJob := some (.cmd ⟨1,.officer,1,false⟩ (some (20,3)) true (.result [1,2] true)) } }, ⟨1,.officer,1,false⟩, some (20,3), true, [1,2], true, by decide +kernel⟩⟩

theorem witness_ChiselGrantsFaultsAndReads_ChiselFaultsAndReads :
    (∃ (s : State) (r : ChsReq) (key : Option (Nat × Nat)) (pl : ChsPlan), s.calm = true ∧
      s.ch.chsJob = some (.cmd r key true pl) ∧ r.lost = false ∧ s.ke.kstQueue.contains chsPlace = false) ∧
    (∃ (s : State) (pass : Bool), s.calm = true ∧ s.get CHS_ENGINE.STATE 0 = 1) ∧
    (∃ (s : State) (p : Port) (w : World) (i : Fin 66) (r : Reg),
      r = (if w = .operator then reg_CHS_DOUT else reg_CLC_DOUT) ∧
      s.admits p.val 0 r.bar2 false (r.offset i.val 0) = true ∧ s.chsVisible p.val w = true ∧
      (s.heldWord (.port p.val) ⟨r, i.val, 0⟩ = none) ∧ s.on CHS_STATUS.RESULT_VALID p.val = true ∧
      s.on CHS_STATUS.READ_ONCE p.val = true ∧ (Tab.get [] s.ch.chsRead p.val).contains i.val = false) :=
  ⟨⟨{ std with ch := { std.ch with chsJob := some (.cmd ⟨1,.officer,1,false⟩ (none) true (.result [1,2] true)) } },
    ⟨1,.officer,1,false⟩, none, .result [1,2] true, by decide +kernel⟩,
    ⟨sets std [(CHS_ENGINE.STATE,0,1)], true, by decide +kernel⟩,
    ⟨sets { std with ch := { std.ch with chsWorld := [(0,1)] } } [(CHS_ENGINE.STATE,0,0),(CHS_STATUS.RESULT_VALID,0,1),(CHS_STATUS.READ_ONCE,0,1),(CHS_DOUT.V,65,0x1234)], 0, .officer, 65, _, rfl, by decide +kernel⟩⟩

theorem witness_PkeOperationsAndReports_PkeOperations :
    (∃ (s : State) (b : Bool), s.ch.pkeJob = some (.verify b) ∧ s.get JIG_STG_STATUS.STATE 0 = 2) ∧
    (∃ (s : State) (p : Nat) (map : List Octet), s.ch.pkeJob = some (.sign p map)) ∧
    (∃ (s : State), s.ch.pkeJob = some (.verify false)) ∧
    (∃ (s : State) (pass : Bool), s.get PKE_STATUS.STATE 0 = 1) :=
  ⟨⟨sets { std with ch := { std.ch with pkeJob := some (.verify true) } } [(JIG_STG_STATUS.STATE,0,2)], true,
    by decide +kernel⟩,
    ⟨{ std with ch := { std.ch with pkeJob := some (.sign 1 []) } }, 1, [], by decide +kernel⟩,
    ⟨{ std with ch := { std.ch with pkeJob := some (.verify false) } }, by decide +kernel⟩,
    ⟨sets std [(PKE_STATUS.STATE,0,1)], true, by decide +kernel⟩⟩

theorem witness_RandomNumbers_DrbgReseeds :
    (∃ (s : State) (d : Drbg), s.ch.drbg = some d ∧ s.get RNG_STATUS.STATE 0 = 1) ∧
    (∃ (s : State) (u : State) (p : Port) (d : Drbg), s.admits p.val 0 false true reg_RNG_CTL.base = true ∧
      s.ch.drbg = some d ∧
      u = (if s.on RNG_CTL.TEST_SRC 0 = false then s.set RNG_STATUS.PATTERN 0 0 else if s.lc.fuses.lcs = 1 then s.set RNG_STATUS.PATTERN 0 1 else s) ∧ s.get RNG_STATUS.STATE 0 = 1) ∧
    (∃ (s : State) (u : State) (p : Port) (d : Drbg), s.admits p.val 0 false true reg_RNG_CTL.base = true ∧
      s.ch.drbg = some d ∧
      u = (if s.on RNG_CTL.TEST_SRC 0 = false then s.set RNG_STATUS.PATTERN 0 0 else if s.lc.fuses.lcs = 1 then s.set RNG_STATUS.PATTERN 0 1 else s) ∧ s.get RNG_STATUS.STATE 0 ≠ 1) :=
  ⟨⟨withDrbg std, dr, by decide +kernel⟩,
    ⟨withDrbg std, _, 0, dr, by decide +kernel, by decide +kernel, rfl, by decide +kernel⟩,
    ⟨sets (withDrbg std) [(RNG_STATUS.STATE,0,2)], _, 0, dr, by decide +kernel, by decide +kernel, rfl, by decide +kernel⟩⟩

theorem witness_RandomNumbers_RandomRequestsAndHealth :
    (∃ (s : State) (p : Port) (len : Nat) (n : Nat), s.admits p.val 0 false true reg_RNG_REQ.base = true ∧
      (n = len % 1024) ∧ (4 ≤ n ∧ n ≤ 256 ∧ n % 4 = 0) ∧ (s.get RNG_REQ_STATUS.STATE p.val ≠ 1 ∧
      s.get RNG_REQ_STATUS.STATE p.val ≠ 2) ∧ s.get RNG_STATUS.STATE 0 < 2) ∧
    (∃ (s : State) (p : Port) (len : Nat) (n : Nat), s.admits p.val 0 false true reg_RNG_REQ.base = true ∧
      (n = len % 1024) ∧ (4 ≤ n ∧ n ≤ 256 ∧ n % 4 = 0) ∧ (s.get RNG_REQ_STATUS.STATE p.val ≠ 1 ∧
      s.get RNG_REQ_STATUS.STATE p.val ≠ 2) ∧ (s.get RNG_STATUS.STATE 0 = 2 ∨ s.get RNG_STATUS.STATE 0 = 3)) ∧
    (∃ (s : State) (p : Port) (len : Nat) (n : Nat), s.admits p.val 0 false true reg_RNG_REQ.base = true ∧
      (n = len % 1024) ∧ (¬(4 ≤ n ∧ n ≤ 256 ∧ n % 4 = 0))) ∧
    (∃ (s : State) (p : Port) (len : Nat) (rest : List (Nat × Nat)) (d : Drbg), s.ch.rngQueue = (p.val, len) :: rest ∧
      s.ch.drbg = some d ∧ s.get RNG_STATUS.STATE 0 = 1) ∧
    (∃ (s : State) (p : Port) (i : Fin 64), s.admits p.val 0 false false (reg_RNG_OUT.offset i.val 0) = true ∧
      (s.heldWord (.port p.val) ⟨reg_RNG_OUT, i.val, 0⟩ = none)) ∧
    (∃ (s : State) (f : HealthFail) (g : HealthFail), s.get RNG_STATUS.STATE 0 = 1 ∧ s.testOutcome (some f) = some g) ∧
    (∃ (s : State) (seen : Option HealthFail), s.get RNG_STATUS.STATE 0 = 2 ∧ s.testOutcome seen = none) ∧
    (∃ (s : State) (seen : Option HealthFail) (g : _), s.get RNG_STATUS.STATE 0 = 2 ∧ s.testOutcome seen = some g ∧
      s.get RNG_STATUS.RERUNS 0 < 2) ∧
    (∃ (s : State) (seen : Option HealthFail) (g : _), s.get RNG_STATUS.STATE 0 = 2 ∧ s.testOutcome seen = some g ∧
      s.get RNG_STATUS.RERUNS 0 = 2) :=
  ⟨⟨withDrbg std, 1, 256, _, by decide +kernel, rfl, by decide +kernel⟩,
    ⟨sets std [(RNG_STATUS.STATE,0,2)], 0, 8, _, by decide +kernel, rfl, by decide +kernel⟩,
    ⟨std, 0, 6, _, by decide +kernel, rfl, by decide +kernel⟩,
    ⟨{ withDrbg std with ch := { (withDrbg std).ch with rngQueue := [(0,256)] } }, 0, 256, [], dr, by decide +kernel⟩,
    ⟨std, 0, 63, by decide +kernel⟩,
    ⟨withDrbg std, ⟨true,7⟩, ⟨true,7⟩, by decide +kernel⟩,
    ⟨sets (withDrbg std) [(RNG_STATUS.STATE,0,2)], none, by decide +kernel⟩,
    ⟨sets std [(RNG_STATUS.STATE,0,2)], some ⟨true,7⟩, ⟨true,7⟩, by decide +kernel⟩,
    ⟨sets std [(RNG_STATUS.STATE,0,2),(RNG_STATUS.RERUNS,0,2)], some ⟨false,0⟩, ⟨false,0⟩, by decide +kernel⟩⟩

theorem witness_VeneerPassesAndDeepLines_VeneerKeysAndPasses :
    (∃ (s : State) (p : Port) (v : Word) (o : _), s.mayWrite p.val false reg_VNR_CTL.base ∧ s.mode = mSTANDBY ∧
      s.get VNR_CTL.EN 0 = 0 ∧ ((s.draw 112).map (·.1) = some o)) ∧
    (∃ (s : State) (p : Port) (v : Word), s.mayWrite p.val false reg_VNR_CTL.base ∧ s.mode = mSTANDBY ∧
      s.get VNR_CTL.EN 0 = 0 ∧ (s.draw 112).isNone = true) ∧
    (∃ (s : State) (p : Port) (v : Word), s.mayWrite p.val false reg_VNR_CTL.base ∧ s.mode = mSTANDBY ∧
      s.get VNR_CTL.EN 0 = 1) ∧
    (∃ (s : State) (p : Port) (v : Word), s.mayWrite p.val false reg_VNR_CTL.base ∧ s.mode ≠ mSTANDBY ∧
      s.get VNR_CTL.EN 0 = 0) ∧
    (∃ (s : State) (p : Port) (v : Word), s.mayWrite p.val false reg_VNR_CTL.base ∧ s.mode ≠ mSTANDBY ∧
      s.get VNR_CTL.EN 0 = 1) ∧
    (∃ (s : State) (o : List Octet), s.calm = true ∧ s.on VNR_CTL.EN 0 = true ∧ s.on VNR_STATUS.KEYS 0 = true ∧
      s.on VNR_STATUS.TWO_EPOCHS 0 = false ∧ s.vn.passAt + s.get VNR_CTL.PASS_MIN 0 * 60 * sec ≤ s.mono ∧
      ((s.draw 112).map (·.1) = some o) ∧ (s.get VNR_EPOCH.V 0 + 1 < 2 ^ VNR_EPOCH.V.width)) ∧
    (∃ (s : State) (b : Nat), s.calm = true ∧ s.deepRegion = none ∧ s.on VNR_STATUS.TWO_EPOCHS 0 = true ∧
      s.get VNR_BOUNDARY.V 0 = b ∧ s.pageHeld b = false ∧ s.get RNG_STATUS.STATE 0 = 1 ∧ (b + 1 < 2 ^ VNR_BOUNDARY.V.width)) :=
  ⟨⟨withDrbg std, 0, 1, _, by decide +kernel, by decide +kernel, by decide +kernel,
    Option.eq_some_of_isSome (by decide +kernel)⟩,
    ⟨std, 0, 1, by decide +kernel⟩,
    ⟨sets vnS [(VNR_CTL.EN,0,1)], 0, 0, by decide +kernel⟩,
    ⟨inMode 3, 0, 1, by decide +kernel⟩,
    ⟨sets (inMode 3) [(VNR_CTL.EN,0,1)], 0, 0, by decide +kernel⟩,
    ⟨sets (withDrbg { vnS with mono := 10000 * 60 * sec }) [(VNR_CTL.EN,0,1),(VNR_STATUS.KEYS,0,1)], _,
      (by refine ⟨?_, ?_, ?_, ?_, ?_, Option.eq_some_of_isSome (by decide +kernel), ?_⟩ <;> decide +kernel)⟩,
    ⟨sets (withDrbg { vnS with vn := { vnS.vn with vnrKeys := [vk,vk] } }) [(VNR_STATUS.TWO_EPOCHS,0,1)], 0,
      by decide +kernel⟩⟩

theorem witness_VeneerPassesAndDeepLines_DeepLines :
    (∃ (s : State) (page : Nat) (l : Fin 64) (raw : List RawLine) (x : Nat) (y : Nat), s.calm = true ∧
      s.lineThere page l.val = true ∧ x = s.lineCheck page l.val (s.rawRead page l.val raw 0) ∧
      y = s.lineCheck page l.val (s.rawRead page l.val raw 1) ∧ x = 1) ∧
    (∃ (s : State) (page : Nat) (l : Fin 64) (raw : List RawLine) (x : Nat) (y : Nat), s.calm = true ∧
      s.lineThere page l.val = true ∧ x = s.lineCheck page l.val (s.rawRead page l.val raw 0) ∧
      y = s.lineCheck page l.val (s.rawRead page l.val raw 1) ∧ x = 2) ∧
    (∃ (s : State) (page : Nat) (l : Fin 64) (raw : List RawLine) (x : Nat) (y : Nat), s.calm = true ∧
      s.lineThere page l.val = true ∧ x = s.lineCheck page l.val (s.rawRead page l.val raw 0) ∧
      y = s.lineCheck page l.val (s.rawRead page l.val raw 1) ∧ x = 0 ∧ y = 1) ∧
    (∃ (s : State) (page : Nat) (l : Fin 64) (raw : List RawLine) (x : Nat) (y : Nat), s.calm = true ∧
      s.lineThere page l.val = true ∧ x = s.lineCheck page l.val (s.rawRead page l.val raw 0) ∧
      y = s.lineCheck page l.val (s.rawRead page l.val raw 1) ∧ x = 0 ∧ y ≠ 1) ∧
    (∃ (s : State) (page : Nat) (l : Fin 64) (raw : List RawLine) (x : Nat) (y : Nat), s.calm = true ∧
      s.lineThere page l.val = true ∧ x = s.lineCheck page l.val (s.rawRead page l.val raw 0) ∧
      y = s.lineCheck page l.val (s.rawRead page l.val raw 1) ∧ x = 0 ∧ y ≠ 1 ∧ s.on VNR_CTL.FAIL_MODE 0 = true ∧
      (s.mode ≠ 0 ∧ s.mode ≠ mBOOT ∧ s.mode ≠ mLOCKDOWN) ∧ s.md.trans = none) ∧
    (∃ (s : State) (page : Nat) (l : Fin 64) (hi : Bool) (data : List Octet) (raw : List RawLine) (k : VnrKeys) (c : _),
      s.calm = true ∧ ((Tab.get Page.none s.vn.pages page).use = .live ∨ (Tab.get Page.none s.vn.pages page).use = .retiring) ∧ s.pageHeld page = false ∧ s.pageKeys page = some k ∧ Tab.get Line.none s.vn.lines (64 * page + l.val) = Line.none ∧ c = xtsLineEnc k.k1 k.k2 page l.val (if hi then List.replicate 32 0 ++ padTo 32 data else padTo 32 data ++ List.replicate 32 0)) ∧
    (∃ (s : State) (page : Nat) (l : Fin 64) (hi : Bool) (data : List Octet) (raw : List RawLine) (k : VnrKeys) (c : _) (d : _), s.calm = true ∧ ((Tab.get Page.none s.vn.pages page).use = .live ∨ (Tab.get Page.none s.vn.pages page).use = .retiring) ∧ s.pageHeld page = false ∧ s.pageKeys page = some k ∧ Tab.get Line.none s.vn.lines (64 * page + l.val) ≠ Line.none ∧ s.lineCheck page l.val (s.rawRead page l.val raw 0) = 1 ∧ d = s.linePlain page l.val (s.rawRead page l.val raw 0) ∧ c = xtsLineEnc k.k1 k.k2 page l.val (if hi then d.take 32 ++ padTo 32 data else padTo 32 data ++ d.drop 32)) ∧
    (∃ (s : State) (page : Nat) (l : Fin 64) (hi : Bool) (data : List Octet) (raw : List RawLine) (k : VnrKeys),
      s.calm = true ∧ ((Tab.get Page.none s.vn.pages page).use = .live ∨ (Tab.get Page.none s.vn.pages page).use = .retiring) ∧ s.pageHeld page = false ∧ s.pageKeys page = some k ∧ Tab.get Line.none s.vn.lines (64 * page + l.val) ≠ Line.none ∧ s.lineCheck page l.val (s.rawRead page l.val raw 0) = 2) :=
  ⟨⟨vnU, 5, 3, [], _, 1, by decide +kernel, by decide +kernel, (State.lineCheck_clean (k := vk) rfl rfl).symm,
    (State.lineCheck_clean (k := vk) rfl rfl).symm, rfl⟩,
    ⟨vnP, 5, 0, [], _, 2, by decide +kernel, by decide +kernel, vnP_poison.symm, vnP_poison.symm, rfl⟩,
    ⟨vnU, 5, 3, [⟨List.replicate 64 1, []⟩], _, _, by decide +kernel, by decide +kernel, by decide +kernel,
      (State.lineCheck_clean (k := vk) rfl rfl).symm, rfl, rfl⟩,
    ⟨vnU, 5, 3, [⟨List.replicate 64 1, []⟩, ⟨List.replicate 64 1, []⟩], _, 0, by decide +kernel, by decide +kernel,
      by decide +kernel, by decide +kernel, rfl, by decide +kernel⟩,
    ⟨sets vnU [(VNR_CTL.FAIL_MODE,0,1)], 5, 3, [⟨List.replicate 64 1, []⟩, ⟨List.replicate 64 1, []⟩], _, 0,
      by decide +kernel, by decide +kernel, by decide +kernel, by decide +kernel, rfl, by decide +kernel⟩,
    ⟨vnU, 5, 63, true, List.replicate 32 3, [], vk, _, (by refine ⟨?_, ?_, ?_, ?_, ?_, rfl⟩ <;> decide +kernel)⟩,
    ⟨vnU, 5, 3, true, List.replicate 32 3, [], vk, _, _,
      (by refine ⟨?_, ?_, ?_, ?_, ?_, State.lineCheck_clean (k := vk) rfl rfl, rfl, rfl⟩ <;> decide +kernel)⟩,
    ⟨vnP, 5, 0, true, List.replicate 32 3, [], vk, (by refine ⟨?_, ?_, ?_, ?_, ?_, vnP_poison⟩ <;> decide +kernel)⟩⟩

theorem witness_VeneerPassesAndDeepLines_MarchTestsAndSparing :
    (∃ (s : State) (page : Nat) (l : Fin 64) (x : Nat × Nat) (k : _), s.calm = true ∧ s.marchLine page l.val = some x ∧
      s.get MEM_CH.STATE (s.chanOf page) ≠ 3 ∧
      ((s.vn.lineTrans.filter (fun y => decide (s.mono < y.2.2 + 10 * sec) && (y.1 == page && y.2.1 == l.val))).length < 4) ∧ s.pageKeys x.1 = some k) ∧
    (∃ (s : State) (page : Nat) (l : Fin 64) (x : Nat × Nat), s.calm = true ∧ s.marchLine page l.val = some x ∧
      s.get MEM_CH.STATE (s.chanOf page) ≠ 3 ∧ s.nextSpare.isSome = true ∧
      (recent s hour (Tab.get [] s.fl.chanAt (s.chanOf page))).length < 64) ∧
    (∃ (s : State) (page : Nat) (n : Nat) (x : Nat × Nat) (k : VnrKeys), s.calm = true ∧
      (s.vn.spareDue.find? (fun x => x.1 == page) = some x) ∧ s.nextSpare = some n ∧ (s.pageKeys (x.2 / 64) = some k)) :=
  ⟨⟨sets { vnU with vn := { vnU.vn with marchErr := [(5,63)] } } [(VNR_LAYOUT.DATA_P8,0,100)], 5, 63, (5,63), vk,
    by decide +kernel⟩,
    ⟨sets { vnU with vn := { vnU.vn with marchErr := [(5,63)] } } [(MEM_CH.STATE,0,2),(VNR_LAYOUT.DATA_P8,0,100)], 5, 63,
      (5,63), by decide +kernel⟩,
    ⟨sets { vnU with vn := { vnU.vn with spareDue := [(5,64*5+63)] } } [(MEM_CH.STATE,0,2)], 5, _, (5,64*5+63), vk,
      by decide +kernel, by decide +kernel, Option.eq_some_of_isSome (by decide +kernel), by decide +kernel⟩⟩

theorem witness_HostFramesArrive :
    (∃ (s : State) (hp : Fin 32) (octets : List Octet) (badCode : Bool) (back : Nat) (chk : Nat) (d : List Octet) (f : Fld), s.calm = true ∧ s.hpUp hp.val = true ∧ s.mode ≠ mBOOT ∧ s.mode ≠ 0 ∧ chk = rxCheck octets badCode 9216 ∧ (d = octets.take (octets.length - 4)) ∧ ((chk, f) ∈ [(1, RGN_HPCLS.OVERSIZE), (2, RGN_HPCNT.RX_FCS_ERR), (3, RGN_HPCNT.RX_RUNT), (4, RGN_HPCNT.RX_CTRL)])) ∧
    (∃ (s : State) (hp : Fin 32) (octets : List Octet) (badCode : Bool) (back : Nat) (chk : Nat) (d : List Octet),
      s.calm = true ∧ s.hpUp hp.val = true ∧ s.mode ≠ mBOOT ∧ s.mode ≠ 0 ∧ chk = rxCheck octets badCode 9216 ∧
      (d = octets.take (octets.length - 4)) ∧ chk = 0 ∧ s.egrRule hp.val (hdrOf d) = none) ∧
    (∃ (s : State) (hp : Fin 32) (octets : List Octet) (badCode : Bool) (back : Nat) (chk : Nat) (d : List Octet) (i : Nat) (f : Fld), s.calm = true ∧ s.hpUp hp.val = true ∧ s.mode ≠ mBOOT ∧ s.mode ≠ 0 ∧ chk = rxCheck octets badCode 9216 ∧ (d = octets.take (octets.length - 4)) ∧ chk = 0 ∧ s.egrRule hp.val (hdrOf d) = some i ∧ ((f = RGN_HPCLS.RULE_DROP ∧ s.get CLS_EGR.ACTION i = 0) ∨ (f = RGN_HPCLS.SC_INVALID ∧ s.get CLS_EGR.ACTION i = 1 ∧ s.on SCT_TX.VALID (s.get CLS_EGR.SC i) = false) ∨ (f = RGN_HPCLS.CLEAR_DENIED ∧ s.get CLS_EGR.ACTION i = 2 ∧ s.egrClearOk (hdrOf d).etype = false) ∨ (f = RGN_HPCLS.PUNTED ∧ s.get CLS_EGR.ACTION i = 3 ∧ s.mode ≠ mLOCKDOWN))) ∧
    (∃ (s : State) (hp : Fin 32) (octets : List Octet) (badCode : Bool) (back : Nat) (chk : Nat) (d : List Octet) (i : Nat) (c : Nat) (f : Fld), s.calm = true ∧ s.hpUp hp.val = true ∧ s.mode ≠ mBOOT ∧ s.mode ≠ 0 ∧ chk = rxCheck octets badCode 9216 ∧ (d = octets.take (octets.length - 4)) ∧ chk = 0 ∧ s.egrRule hp.val (hdrOf d) = some i ∧ c = s.get CLS_EGR.SC i ∧ ((f = RGN_HPCLS.TO_PROTECT ∧ s.get CLS_EGR.ACTION i = 1 ∧ s.on SCT_TX.VALID c = true) ∨ (f = RGN_HPCLS.CLEARED ∧ s.get CLS_EGR.ACTION i = 2 ∧ s.egrClearOk (hdrOf d).etype = true))) :=
  ⟨⟨line, 0, List.replicate 9217 0, false, 0, _, _, RGN_HPCLS.OVERSIZE,
    (by refine ⟨?_, ?_, ?_, ?_, rfl, rfl, ?_⟩ <;> decide +kernel)⟩,
    ⟨line, 0, frameOk, false, 0, _, _, (by refine ⟨?_, ?_, ?_, ?_, rfl, rfl, ?_⟩ <;> decide +kernel)⟩,
    ⟨sets line [(CLS_EGR.VALID,0,1),(CLS_EGR.ACTION,0,0)], 0, frameOk, false, 0, _, _, 0, RGN_HPCLS.RULE_DROP,
      (by refine ⟨?_, ?_, ?_, ?_, rfl, rfl, ?_⟩ <;> decide +kernel)⟩,
    ⟨sets line [(CLS_EGR.VALID,0,1),(CLS_EGR.ACTION,0,1),(SCT_TX.VALID,0,1)], 0, frameOk, false, 9, _, _, 0, _,
      RGN_HPCLS.TO_PROTECT, (by refine ⟨?_, ?_, ?_, ?_, rfl, rfl, ?_, ?_, rfl, ?_⟩ <;> decide +kernel)⟩⟩

theorem witness_AdmissionHoldsAndPauses_AdmissionAndDeepQueues :
    (∃ (s : State) (r : Region) (x : Arrival) (rest : List Arrival) (f : Frame) (q : Nat), s.calm = true ∧
      Tab.get [] s.fr.arrivals r.val = x :: rest ∧ f = s.launchOf x.f ∧ q = f.queue ∧ s.modeDiscards f = true) ∧
    (∃ (s : State) (r : Region) (x : Arrival) (rest : List Arrival) (f : Frame) (q : Nat), s.calm = true ∧
      Tab.get [] s.fr.arrivals r.val = x :: rest ∧ f = s.launchOf x.f ∧ q = f.queue ∧ s.modeDiscards f = false ∧
      s.fenced r.val = true) ∧
    (∃ (s : State) (r : Region) (x : Arrival) (rest : List Arrival) (f : Frame) (q : Nat), s.calm = true ∧
      Tab.get [] s.fr.arrivals r.val = x :: rest ∧ f = s.launchOf x.f ∧ q = f.queue ∧ s.modeDiscards f = false ∧
      s.fenced r.val = false ∧ (8192 ≤ q → s.guarded (s.queuePort q) = true → s.charge f ≤ s.gapOct (s.queuePort q)) ∧
      (q < 8192 → s.guardedQueue q = false ∧ s.deepTail q = false) ∧
      s.get QUE_DQ.QLIMIT q < s.get QUE_DQ.DEPTH q + f.cells ∧ (8192 ≤ q ∨ s.on QUE_DQ.SPILL_EN q = false)) ∧
    (∃ (s : State) (r : Region) (x : Arrival) (rest : List Arrival) (f : Frame) (q : Nat), s.calm = true ∧
      Tab.get [] s.fr.arrivals r.val = x :: rest ∧ f = s.launchOf x.f ∧ q = f.queue ∧ s.modeDiscards f = false ∧
      s.fenced r.val = false ∧ (8192 ≤ q → s.guarded (s.queuePort q) = true → s.charge f ≤ s.gapOct (s.queuePort q)) ∧
      (q < 8192 → s.guardedQueue q = false ∧ s.deepTail q = false) ∧
      s.get QUE_DQ.DEPTH q + f.cells ≤ s.get QUE_DQ.QLIMIT q ∧ s.get QUE_DQ.DEPTH q + f.cells ≤ s.get QUE_DQ.GUAR q) ∧
    (∃ (s : State) (r : Region) (w : DeepWr) (rest : List DeepWr) (q : Nat), s.calm = true ∧ s.writeGrant r.val = true ∧
      Tab.get [] s.fr.deepWr r.val = w :: rest ∧ q = w.a.f.queue) ∧
    (∃ (s : State) (q : Fin 8192) (d : DeepFrame) (rest : List DeepFrame) (r : Nat) (n : Nat) (o : List Octet) (u : State), (s.queue q.val).deep = d :: rest ∧ r = regionOfLp (s.queuePort q.val) ∧ s.readGrant r = true ∧ s.readDue q.val = true ∧ n = (if s.writeReq r then Tab.get 0 s.vn.wrWait r + 1 else 0) ∧ (s.deepUsed r n).deepFetch d.units = (some o, u) ∧ u.calm = true ∧ (s.get QUE_DQ.DEPTH q.val + d.f.cells < 2 ^ QUE_DQ.DEPTH.width)) :=
  ⟨⟨{ sets line [(QUE_DQ.GUAR,0,100),(QUE_DQ.QLIMIT,0,1000),(GLB_MODE.MODE,0,3),(GLB_MODE.MODE,0,2)] with fr := { line.fr with arrivals := [(0,[(⟨{ fr0 body60 with sc := some 0 }, none⟩ : Arrival),(⟨{ fr0 body60 with sc := some 0 }, none⟩ : Arrival)])] } }, 0, (⟨{ fr0 body60 with sc := some 0 }, none⟩ : Arrival), [(⟨{ fr0 body60 with sc := some 0 }, none⟩ : Arrival)], _, _, by decide +kernel, by decide +kernel, rfl, rfl, by decide +kernel⟩,
    ⟨{ sets line [(QUE_DQ.GUAR,0,100),(QUE_DQ.QLIMIT,0,1000),(GLB_MODE.MODE,0,3),(GLB_REGION_STATUS.RGN0,0,3)] with fr := { line.fr with arrivals := [(0,[(⟨{ fr0 body60 with sc := some 0 }, none⟩ : Arrival),(⟨{ fr0 body60 with sc := some 0 }, none⟩ : Arrival)])] } }, 0, (⟨{ fr0 body60 with sc := some 0 }, none⟩ : Arrival), [(⟨{ fr0 body60 with sc := some 0 }, none⟩ : Arrival)], _, _, by decide +kernel, by decide +kernel, rfl, rfl, by decide +kernel⟩,
    ⟨{ sets line [(QUE_DQ.GUAR,0,100),(QUE_DQ.QLIMIT,0,1000),(GLB_MODE.MODE,0,3),(QUE_DQ.QLIMIT,0,0)] with fr := { line.fr with arrivals := [(0,[(⟨{ fr0 body60 with sc := some 0 }, none⟩ : Arrival),(⟨{ fr0 body60 with sc := some 0 }, none⟩ : Arrival)])] } }, 0, (⟨{ fr0 body60 with sc := some 0 }, none⟩ : Arrival), [(⟨{ fr0 body60 with sc := some 0 }, none⟩ : Arrival)], _, _, by decide +kernel, by decide +kernel, rfl, rfl, by decide +kernel⟩,
    ⟨{ sets line [(QUE_DQ.GUAR,0,100),(QUE_DQ.QLIMIT,0,1000),(GLB_MODE.MODE,0,3)] with fr := { line.fr with arrivals := [(0,[(⟨{ fr0 body60 with sc := some 0 }, none⟩ : Arrival),(⟨{ fr0 body60 with sc := some 0 }, none⟩ : Arrival)])] } }, 0, (⟨{ fr0 body60 with sc := some 0 }, none⟩ : Arrival), [(⟨{ fr0 body60 with sc := some 0 }, none⟩ : Arrival)], _, _, by decide +kernel, by decide +kernel, rfl, rfl, by decide +kernel⟩,
    ⟨{ line with fr := { line.fr with deepWr := [(3,[⟨(⟨{ fr0 body60 with sc := some 0 }, none⟩ : Arrival),[80]⟩])] } },
      3, ⟨(⟨{ fr0 body60 with sc := some 0 }, none⟩ : Arrival),[80]⟩, [], _, by decide +kernel, by decide +kernel,
      by decide +kernel, rfl⟩,
    ⟨vnU, 0, ⟨fr0 body60, [80]⟩, [], _, _, _, vnD.unitFree 80,
      (by refine ⟨?_, rfl, ?_, ?_, rfl, State.deepFetch_clean vnD_clean, ?_⟩ <;> decide +kernel)⟩⟩

theorem witness_DequeueDecisions :
    (∃ (s : State) (lp : Fin 16) (cq : Fin 4) (f : Frame) (g : Frame) (rest : List Frame) (q : Nat), s.calm = true ∧
      q = 8192 + 4 * lp.val + cq.val ∧ s.dequeues lp.val = true ∧ s.carDue lp.val = false ∧ (∀ k < 4, k < cq.val →
      s.ctrlEligible lp.val (8192 + 4 * lp.val + k) = false ∧
      (s.queue (8192 + 4 * lp.val + k)).cells.head?.any (s.aged (8192 + 4 * lp.val + k)) = false) ∧
      (s.queue q).cells = f :: rest ∧ s.aged q f = false ∧ s.ctrlEligible lp.val q = true ∧
      (g = { f with lp := lp.val, ord := s.fr.taken }) ∧ f.sc = none ∧ f.ptp = false ∧ f.launch = none) ∧
    (∃ (s : State) (lp : Fin 16) (cq : Fin 4) (f : Frame) (g : Frame) (rest : List Frame) (q : Nat) (c : Nat) (a : Nat),
      s.calm = true ∧ q = 8192 + 4 * lp.val + cq.val ∧ s.dequeues lp.val = true ∧ s.carDue lp.val = false ∧ (∀ k < 4,
      k < cq.val → s.ctrlEligible lp.val (8192 + 4 * lp.val + k) = false ∧
      (s.queue (8192 + 4 * lp.val + k)).cells.head?.any (s.aged (8192 + 4 * lp.val + k)) = false) ∧
      (s.queue q).cells = f :: rest ∧ s.aged q f = false ∧ s.ctrlEligible lp.val q = true ∧
      (g = { f with lp := lp.val, ord := s.fr.taken }) ∧ f.sc = some c ∧ a = s.curSa c ∧ s.stepped f = false ∧
      (f.ptp = false → f.launch.isSome = true → f.want ≤ f.time + ms) ∧ s.autGate c s.now = .pass ∧
      s.on SCT_TX.VALID c = true ∧ s.get SAT_TX.STATE a = saACTIVE ∧ (s.limited c = true →
      s.get SAT_TX.USED a + (if s.on SCT_TX.LIMIT_UNIT c then s.lineLenOf f else 1) ≤ s.get SCT_TX.LIMIT c) ∧
      s.get SAT_TX.NEXT_PN a < pnCeiling (s.get SCT_TX.SUITE c)) ∧
    (∃ (s : State) (lp : Fin 16) (f : Frame) (rest : List Frame) (q : Nat) (p : Nat) (c : Nat) (a : Nat) (l : List Nat) (b : Bool) (m : Nat), s.calm = true ∧ s.dequeues lp.val = true ∧ s.guarded lp.val = false ∧ (∀ k < 4, s.ctrlEligible lp.val (8192 + 4 * lp.val + k) = false ∧ (s.queue (8192 + 4 * lp.val + k)).cells.head?.any (s.aged (8192 + 4 * lp.val + k)) = false) ∧ s.lineClearHold lp.val = false ∧ s.shpOk (8192 + lp.val) = true ∧ (Tab.get Drr.none s.pl.drr (drrKey lp.val 0) = ⟨q :: l, b⟩) ∧ q < 8192 ∧ (s.queue q).cells = f :: rest ∧ (s.queue q).deep = [] ∧ s.aged q f = false ∧ p = s.queuePort q ∧ (s.elsewhere (q / 2) p = false) ∧ (s.autGate (q / 2) s.now = .pass) ∧ s.shpOk q = true ∧ m = (s.queue q).deficit + (if b then 0 else s.get QUE_DQ.QUANTUM q) ∧ s.charge f ≤ m ∧ f.sc = some c ∧ a = s.curSa c ∧ s.stepped f = false ∧ (f.ptp = false → f.launch.isSome = true → f.want ≤ f.time + ms) ∧ s.autGate c s.now = .pass ∧ s.on SCT_TX.VALID c = true ∧ s.get SAT_TX.STATE a = saACTIVE ∧ (s.limited c = true → s.get SAT_TX.USED a + (if s.on SCT_TX.LIMIT_UNIT c then s.lineLenOf f else 1) ≤ s.get SCT_TX.LIMIT c) ∧ s.get SAT_TX.NEXT_PN a < pnCeiling (s.get SCT_TX.SUITE c)) :=
  ⟨⟨setQ line 8193 (q0 { fr0 body60 with queue := 8193 }), 0, 1, { fr0 body60 with queue := 8193 }, _, [], _,
    (by refine ⟨?_, rfl, ?_, ?_, by first | decide +kernel | simp | (intro x hx; simp_all), ?_, ?_, ?_, rfl, ?_⟩ <;> decide +kernel)⟩,
    ⟨setQ (sets line [(SCT_TX.VALID,0,1),(SAT_TX.STATE,0,2),(SAT_TX.NEXT_PN,0,7)]) 8193 (q0 { fr0 body60 with queue := 8193, sc := some 0 }), 0, 1, { fr0 body60 with queue := 8193, sc := some 0 }, _, [], _, 0, _, (by refine ⟨?_, rfl, ?_, ?_, by first | decide +kernel | simp | (intro x hx; simp_all), ?_, ?_, ?_, rfl, ?_, rfl, ?_⟩ <;> decide +kernel)⟩,
    ⟨{ setQ (sets line [(SCT_TX.VALID,0,1),(SAT_TX.STATE,0,2),(SAT_TX.NEXT_PN,0,7)]) 0 { q0 { fr0 body60 with queue := 0, sc := some 0 } with deficit := 0 } with pl := { (setQ line 0 { q0 { fr0 body60 with queue := 0, sc := some 0 } with deficit := 0 }).pl with drr := [(0,⟨[0],false⟩)] } }, 0, { fr0 body60 with queue := 0, sc := some 0 }, [], 0, _, 0, _, [], false, _, (by refine ⟨?_, ?_, ?_, by first | decide +kernel | simp | (intro x hx; simp_all), ?_, ?_, ?_, ?_, ?_, ?_, ?_, rfl, ?_, ?_, ?_, rfl, ?_, ?_, rfl, ?_⟩ <;> decide +kernel)⟩⟩

theorem witness_SlicePairs_SliceDispatchAndComplete :
    (∃ (s : State) (r : Region) (x : EgItem) (l : List EgItem) (n : Nat) (k : Nat), s.calm = true ∧
      s.fenced r.val = false ∧ s.eg r.val = x :: l ∧ x.stat = .reissue n ∧ s.pairFor r.val .eg (some n) = some k) ∧
    (∃ (s : State) (r : Region) (x : InItem) (l : List InItem) (n : Nat) (k : Nat), s.calm = true ∧
      s.fenced r.val = false ∧ s.ig r.val = x :: l ∧ x.stat = .reissue n ∧ s.pairFor r.val .ig (some n) = some k) ∧
    (∃ (s : State) (r : Region) (x : EgItem) (k : Nat), s.calm = true ∧ s.fenced r.val = false ∧ (∀ y ∈ s.eg r.val, ∀ n,
      y.stat ≠ .reissue n) ∧ s.pairFor r.val .eg none = some k ∧ s.nextEg r.val = some x ∧
      ((s.eg r.val).filter EgItem.entered).length < reorderSize ∧ (x.car = none → x.f.ptp = false ∧
      x.f.launch.all (fun tl => s.now + 600 * ns ≤ tl) = true)) ∧
    (∃ (s : State) (r : Region) (x : EgItem) (k : Nat), s.calm = true ∧ s.fenced r.val = false ∧ (∀ y ∈ s.eg r.val, ∀ n,
      y.stat ≠ .reissue n) ∧ s.pairFor r.val .eg none = some k ∧ s.nextEg r.val = some x ∧
      reorderSize ≤ ((s.eg r.val).filter EgItem.entered).length) ∧
    (∃ (s : State) (r : Region) (x : InItem) (l : List InItem) (m : List InItem) (k : Nat), s.calm = true ∧
      s.fenced r.val = false ∧ s.ig r.val = l ++ x :: m ∧ (∀ y ∈ l, y.stat ≠ .wait) ∧ x.stat = .wait ∧ (∀ y ∈ l ++ m, ∀ n,
      y.stat ≠ .reissue n) ∧ s.pairFor r.val .ig none = some k ∧
      ((s.ig r.val).filter InItem.entered).length < reorderSize) ∧
    (∃ (s : State) (r : Region) (x : InItem) (l : List InItem) (m : List InItem) (k : Nat), s.calm = true ∧
      s.fenced r.val = false ∧ s.ig r.val = l ++ x :: m ∧ (∀ y ∈ l, y.stat ≠ .wait) ∧ x.stat = .wait ∧ (∀ y ∈ l ++ m, ∀ n,
      y.stat ≠ .reissue n) ∧ s.pairFor r.val .ig none = some k ∧
      reorderSize ≤ ((s.ig r.val).filter InItem.entered).length) ∧
    (∃ (s : State) (r : Region) (k : Fin 9) (x : EgItem) (l : List EgItem) (m : List EgItem), s.calm = true ∧
      s.eg r.val = l ++ x :: m ∧ (∀ y ∈ l, y.stat ≠ .inPair k.val) ∧ x.stat = .inPair k.val ∧
      (l.any (fun y => y.sc == x.sc) = false) ∧ x.f.launch = none ∧ x.f.ptp = false) ∧
    (∃ (s : State) (r : Region) (k : Fin 9) (x : EgItem) (l : List EgItem) (m : List EgItem), s.calm = true ∧
      s.eg r.val = l ++ x :: m ∧ (∀ y ∈ l, y.stat ≠ .inPair k.val) ∧ x.stat = .inPair k.val ∧
      (l.any (fun y => y.sc == x.sc) = true)) ∧
    (∃ (s : State) (r : Region) (k : Fin 9) (x : InItem) (l : List InItem) (m : List InItem), s.calm = true ∧
      s.ig r.val = l ++ x :: m ∧ (∀ y ∈ l, y.stat ≠ .inPair k.val) ∧ x.stat = .inPair k.val ∧
      (l.any (fun y => y.sc == x.sc) = false)) ∧
    (∃ (s : State) (r : Region) (k : Fin 9) (x : InItem) (l : List InItem) (m : List InItem), s.calm = true ∧
      s.ig r.val = l ++ x :: m ∧ (∀ y ∈ l, y.stat ≠ .inPair k.val) ∧ x.stat = .inPair k.val ∧
      (l.any (fun y => y.sc == x.sc) = true)) :=
  ⟨⟨setEg line [{ eg0 (fr0 body60) with stat := .reissue 3, issues := 1 },eg0 (fr0 body60)], 0,
    { eg0 (fr0 body60) with stat := .reissue 3, issues := 1 }, [eg0 (fr0 body60)], 3, _,
    (by refine ⟨?_, ?_, ?_, ?_, Option.eq_some_of_isSome (by decide +kernel)⟩ <;> decide +kernel)⟩,
    ⟨setIg line [{ ig0 body60 with stat := .reissue 0, issues := 1 },ig0 body60], 0,
      { ig0 body60 with stat := .reissue 0, issues := 1 }, [ig0 body60], 0, _,
      (by refine ⟨?_, ?_, ?_, ?_, Option.eq_some_of_isSome (by decide +kernel)⟩ <;> decide +kernel)⟩,
    ⟨setEg line [{ eg0 (fr0 body60) with stat := .inPair 1, issues := 1 },eg0 (fr0 body60)], 0, eg0 (fr0 body60), _,
      by decide +kernel, by decide +kernel, noReissueEg (by decide +kernel), Option.eq_some_of_isSome (by decide +kernel),
      by decide +kernel⟩,
    ⟨setEg line ((upto 1024).map (fun _ => { eg0 (fr0 body60) with stat := .inPair 3, sc := 9, issues := 1 }) ++ [eg0 (fr0 body60)]), 0, eg0 (fr0 body60), _, by decide +kernel, by decide +kernel, noReissueEg (by decide +kernel), Option.eq_some_of_isSome (by decide +kernel), by decide +kernel⟩,
    ⟨setIg line [{ ig0 body60 with stat := .inPair 1, issues := 1 },ig0 body60,{ ig0 body60 with sc := 5 }], 0,
      ig0 body60, [{ ig0 body60 with stat := .inPair 1, issues := 1 }], [{ ig0 body60 with sc := 5 }], _,
      (by refine ⟨?_, ?_, ?_, ?_, ?_, noReissueIg (by decide +kernel), Option.eq_some_of_isSome (by decide +kernel), ?_⟩ <;> decide +kernel)⟩,
    ⟨setIg line ((upto 1024).map (fun _ => { ig0 body60 with stat := .inPair 3, issues := 1 }) ++ [ig0 body60]), 0,
      ig0 body60, (upto 1024).map (fun _ => { ig0 body60 with stat := .inPair 3, issues := 1 }), [], _,
      (by refine ⟨?_, ?_, ?_, ?_, ?_, noReissueIg (by decide +kernel), Option.eq_some_of_isSome (by decide +kernel), ?_⟩ <;> decide +kernel)⟩,
    ⟨setEg line [{ eg0 (fr0 body60) with sc := 5 },{ eg0 (fr0 body60) with stat := .inPair 8, issues := 1 },eg0 (fr0 body60)], 0, 8, { eg0 (fr0 body60) with stat := .inPair 8, issues := 1 }, [{ eg0 (fr0 body60) with sc := 5 }], [eg0 (fr0 body60)], by decide +kernel⟩,
    ⟨setEg line [eg0 (fr0 body60),{ eg0 (fr0 body60) with stat := .inPair 8, issues := 1 },eg0 (fr0 body60)], 0, 8,
      { eg0 (fr0 body60) with stat := .inPair 8, issues := 1 }, [eg0 (fr0 body60)], [eg0 (fr0 body60)], by decide +kernel⟩,
    ⟨setIg line [{ ig0 body60 with sc := 5 },{ ig0 body60 with stat := .inPair 0, issues := 1 },ig0 body60], 0, 0,
      { ig0 body60 with stat := .inPair 0, issues := 1 }, [{ ig0 body60 with sc := 5 }], [ig0 body60], by decide +kernel⟩,
    ⟨setIg line [ig0 body60,{ ig0 body60 with stat := .inPair 0, issues := 1 },ig0 body60], 0, 0,
      { ig0 body60 with stat := .inPair 0, issues := 1 }, [ig0 body60], [ig0 body60], by decide +kernel⟩⟩

theorem witness_SlicePairs_PairFaultsAndTests :
    (∃ (s : State) (r : Region) (d : Dir) (k : Fin 9) (c : PairCause) (i : Nat) (x : EgItem), s.calm = true ∧
      i = pairIdx r.val d k.val ∧ s.get RGN_PPE_STATUS.STATE i = 1 ∧ d = .eg ∧
      ((s.eg r.val).find? (fun x => x.stat == .inPair k.val) = some x)) ∧
    (∃ (s : State) (r : Region) (d : Dir) (k : Fin 9) (c : PairCause) (i : Nat) (x : InItem), s.calm = true ∧
      i = pairIdx r.val d k.val ∧ s.get RGN_PPE_STATUS.STATE i = 1 ∧ d = .ig ∧
      ((s.ig r.val).find? (fun x => x.stat == .inPair k.val) = some x)) ∧
    (∃ (s : State) (r : Region) (d : Dir) (k : Fin 9) (i : Nat) (n : Nat), s.calm = true ∧ i = pairIdx r.val d k.val ∧
      s.get RGN_PPE_STATUS.STATE i = 2 ∧ n = (recent s (10 * sec) (Tab.get [] s.fr.pairTrans i)).length ∧ n < 4) ∧
    (∃ (s : State) (r : Region) (d : Dir) (k : Fin 9) (i : Nat) (n : Nat) (pass : Bool), s.calm = true ∧
      i = pairIdx r.val d k.val ∧ s.get RGN_PPE_STATUS.STATE i = 2 ∧
      n = (recent s (10 * sec) (Tab.get [] s.fr.pairTrans i)).length ∧ (pass = false ∨ 4 ≤ n)) ∧
    (∃ (s : State) (r : Region) (d : Dir), s.calm = true ∧ s.get RGN_PPE_STATUS.STATE (pairIdx r.val d 8) = 0) :=
  ⟨⟨setEg (sets line [(RGN_PPE_STATUS.STATE,0,1)]) [{ eg0 (fr0 body60) with stat := .inPair 0, issues := 1 }], 0, _, 0,
    .ghash, _, { eg0 (fr0 body60) with stat := .inPair 0, issues := 1 }, by decide +kernel, rfl, by decide +kernel, rfl,
    by decide +kernel⟩,
    ⟨setIg (sets line [(RGN_PPE_STATUS.STATE,pairIdx 0 .ig 8,1)]) [{ ig0 body60 with stat := .inPair 8, issues := 1 }], 0,
      _, 8, .ghash, _, { ig0 body60 with stat := .inPair 8, issues := 1 }, by decide +kernel, rfl, by decide +kernel, rfl,
      by decide +kernel⟩,
    ⟨sets line [(RGN_PPE_STATUS.STATE,71,2)], 3, .ig, 8, _, _, by decide +kernel, rfl, by decide +kernel, rfl,
      by decide +kernel⟩,
    ⟨sets line [(RGN_PPE_STATUS.STATE,0,2)], 0, .eg, 0, _, _, false, by decide +kernel, rfl, by decide +kernel, rfl,
      by decide +kernel⟩,
    ⟨line, 3, .ig, by decide +kernel⟩⟩

theorem witness_FramesLeaveAndArrive_FramesLeave :
    (∃ (s : State) (lp : Fin 16) (cq : Fin 4) (f : Frame) (rest : List Frame) (q : Nat) (tl : Nat), s.calm = true ∧
      q = 8192 + 4 * lp.val + cq.val ∧ (s.queue q).cells = f :: rest ∧ f.launch = some tl ∧ s.dequeues lp.val = true ∧
      s.ctrlEligible lp.val q = true ∧ s.carDue lp.val = false ∧ f.sc = none ∧ f.ptp = false ∧ f.want ≤ f.time + ms ∧
      s.now + 600 * ns ≤ tl) ∧
    (∃ (s : State) (lp : Fin 16) (x : LineItem) (l : List LineItem), s.calm = true ∧ s.lpUp lp.val = true ∧
      s.lineQ lp.val = x :: l ∧ x.car = none ∧ s.queueAhead lp.val x = false ∧ s.stepped x.f = false ∧
      s.lineReady lp.val x = true ∧ (x.f.launch.isSome = true → s.launchHit lp.val x (x.f.launch.getD s.now) = false)) ∧
    (∃ (s : State) (lp : Fin 16) (x : LineItem) (l : List LineItem), s.calm = true ∧ s.lpUp lp.val = true ∧
      s.lineQ lp.val = x :: l ∧ x.car = none ∧ s.queueAhead lp.val x = false ∧ s.stepped x.f = true ∧ x.f.lp = lp.val) ∧
    (∃ (s : State) (lp : Fin 16) (x : EgItem) (l : List EgItem) (m : List EgItem) (n : Nat) (tl : Nat), s.calm = true ∧
      s.eg (regionOfLp lp.val) = l ++ x :: m ∧ (∀ y ∈ l ++ m, y.f.lp ≠ lp.val ∨ y.f.launch = none) ∧ x.stat = .reissue n ∧
      x.f.lp = lp.val ∧ x.car = none ∧ x.late = false ∧ x.f.launch = some tl ∧ tl ≤ s.now + 150 * ns ∧ x.f.ptp = false ∧
      x.f.strict = true) ∧
    (∃ (s : State) (lp : Fin 16) (x : EgItem) (l : List EgItem) (m : List EgItem) (n : Nat) (tl : Nat), s.calm = true ∧
      s.eg (regionOfLp lp.val) = l ++ x :: m ∧ (∀ y ∈ l ++ m, y.f.lp ≠ lp.val ∨ y.f.launch = none) ∧ x.stat = .reissue n ∧
      x.f.lp = lp.val ∧ x.car = none ∧ x.late = false ∧ x.f.launch = some tl ∧ tl ≤ s.now + 150 * ns ∧ x.f.ptp = false ∧
      x.f.strict = false) ∧
    (∃ (s : State) (hp : Fin 32) (d : List Octet) (rest : List (List Octet)), s.calm = true ∧ s.hpUp hp.val = true ∧
      Tab.get [] s.fr.pfcOut hp.val = d :: rest) ∧
    (∃ (s : State) (hp : Fin 32) (f : OutFrame) (rest : List OutFrame) (d : List Octet), s.calm = true ∧
      s.hpUp hp.val = true ∧ Tab.get [] s.fr.pfcOut hp.val = [] ∧ Tab.get [] s.fr.hostOut hp.val = f :: rest ∧
      d = (if f.corr then ptpCorrect f.data (residence f.time (hostGrid hp.val s.now)) else f.data)) :=
  ⟨⟨setQ { line with now := 300 * ns } 8195 { q0 { fr0 body60 with queue := 8195, launch := some (1000 * ns), strict := true } with cells := [{ fr0 body60 with queue := 8195, launch := some (1000 * ns), strict := true }, fr0 body60] }, 0, 3, { fr0 body60 with queue := 8195, launch := some (1000 * ns), strict := true }, [fr0 body60], _, 1000 * ns, by decide +kernel, rfl, by decide +kernel⟩,
    ⟨setLo line [li0 (fr0 body60)], 0, li0 (fr0 body60), [], by decide +kernel⟩,
    ⟨setLo line [li0 { fr0 body60 with launch := some 5, ptp := true, steps := 3 }], 0,
      li0 { fr0 body60 with launch := some 5, ptp := true, steps := 3 }, [], by decide +kernel⟩,
    ⟨setEg line [eg0 (fr0 body60),{ eg0 ({ fr0 body60 with launch := some (100 * ns), strict := true }) with stat := .reissue 3, issues := 2 },{ eg0 (fr0 body60) with sc := 5 }], 0, { eg0 ({ fr0 body60 with launch := some (100 * ns), strict := true }) with stat := .reissue 3, issues := 2 }, [eg0 (fr0 body60)], [{ eg0 (fr0 body60) with sc := 5 }], 3, 100 * ns, by decide +kernel, by decide +kernel, by first | decide +kernel | simp | (intro x hx; simp_all), by decide +kernel⟩,
    ⟨setEg line [eg0 (fr0 body60),{ eg0 ({ fr0 body60 with launch := some (100 * ns), strict := false }) with stat := .reissue 3, issues := 2 },{ eg0 (fr0 body60) with sc := 5 }], 0, { eg0 ({ fr0 body60 with launch := some (100 * ns), strict := false }) with stat := .reissue 3, issues := 2 }, [eg0 (fr0 body60)], [{ eg0 (fr0 body60) with sc := 5 }], 3, 100 * ns, by decide +kernel, by decide +kernel, by first | decide +kernel | simp | (intro x hx; simp_all), by decide +kernel⟩,
    ⟨{ line with fr := { line.fr with hostOut := [(0,[out0])], pfcOut := [(0,[[1,2]])] } }, 0, [1,2], [],
      by decide +kernel⟩,
    ⟨{ line with fr := { line.fr with hostOut := [(0,[out0])] } }, 0, out0, [], _,
      (by refine ⟨?_, ?_, ?_, ?_, rfl⟩ <;> decide +kernel)⟩⟩

theorem witness_AdmissionHoldsAndPauses_HoldsAndPauseRefresh :
    (∃ (s : State) (c : Fin 4096), s.calm = true ∧ Tab.get 0 s.au.keyHold c.val = 1 ∧
      Tab.get 0 s.au.holdAt c.val + 5 * ms ≤ s.mono) ∧
    (∃ (s : State) (hp : Fin 32) (m : Nat), s.calm = true ∧ s.get PLN_HPFC.PAUSED hp.val = m ∧ m ≠ 0 ∧
      Tab.get 0 s.pl.xoffAt hp.val + s.quantaTime hp.val (s.get PLN_HPFC.REFRESH hp.val) ≤ s.mono ∧
      s.on RGN_HPORT.LINK hp.val = true) :=
  ⟨⟨sets { line with mono := 5 * ms, au := { line.au with keyHold := [(4095,1)] } } [(QUE_DQ.HELD,8190,1)], 4095,
    by decide +kernel⟩,
    ⟨sets { line with mono := sec } [(PLN_HPFC.PAUSED,0,0x81)], 0, 0x81, by decide +kernel⟩⟩

theorem witness_FramesLeaveAndArrive_LineFramesArrive :
    (∃ (s : State) (lp : Fin 16) (octets : List Octet) (badCode : Bool) (back : Nat) (chk : Nat) (d : List Octet),
      s.calm = true ∧ s.lpUp lp.val = true ∧ s.mode ≠ mBOOT ∧ s.mode ≠ 0 ∧ chk = rxCheck octets badCode 9248 ∧
      (d = octets.take (octets.length - 4)) ∧ chk = 1) ∧
    (∃ (s : State) (lp : Fin 16) (octets : List Octet) (badCode : Bool) (back : Nat) (chk : Nat) (d : List Octet) (f : Fld), s.calm = true ∧ s.lpUp lp.val = true ∧ s.mode ≠ mBOOT ∧ s.mode ≠ 0 ∧ chk = rxCheck octets badCode 9248 ∧ (d = octets.take (octets.length - 4)) ∧ ((chk, f) ∈ [(2, RGN_HPCNT.RX_FCS_ERR), (3, RGN_HPCNT.RX_RUNT), (4, RGN_HPCNT.RX_CTRL)])) ∧
    (∃ (s : State) (lp : Fin 16) (octets : List Octet) (badCode : Bool) (back : Nat) (chk : Nat) (d : List Octet),
      s.calm = true ∧ s.lpUp lp.val = true ∧ s.mode ≠ mBOOT ∧ s.mode ≠ 0 ∧ chk = rxCheck octets badCode 9248 ∧
      (d = octets.take (octets.length - 4)) ∧ chk = 0 ∧ s.fenced (regionOfLp lp.val) = true) ∧
    (∃ (s : State) (lp : Fin 16) (octets : List Octet) (badCode : Bool) (back : Nat) (chk : Nat) (d : List Octet),
      s.calm = true ∧ s.lpUp lp.val = true ∧ s.mode ≠ mBOOT ∧ s.mode ≠ 0 ∧ chk = rxCheck octets badCode 9248 ∧
      (d = octets.take (octets.length - 4)) ∧ chk = 0 ∧ s.fenced (regionOfLp lp.val) = false ∧ be16 d 12 = 0x88E5 ∧
      tagBad d = true) ∧
    (∃ (s : State) (lp : Fin 16) (octets : List Octet) (badCode : Bool) (back : Nat) (chk : Nat) (d : List Octet) (i : Nat) (h : Nat), s.calm = true ∧ s.lpUp lp.val = true ∧ s.mode ≠ mBOOT ∧ s.mode ≠ 0 ∧ chk = rxCheck octets badCode 9248 ∧ (d = octets.take (octets.length - 4)) ∧ chk = 0 ∧ s.fenced (regionOfLp lp.val) = false ∧ be16 d 12 ≠ 0x88E5 ∧ s.mode ≠ mLOCKDOWN ∧ ((s.ones CLS_IGR.VALID).find? (s.igrMatch lp.val false 0 (beNat (slice d 0 6)) (be16 d (etypeAt d))) = some i) ∧ s.get CLS_IGR.ACTION i = 2 ∧ s.igrClearOk (be16 d (etypeAt d)) = true ∧ s.igrRoom (regionOfLp lp.val) (cellsOf d) = true ∧ h = s.get CLS_IGR.HPORT i ∧ s.on RGN_HPORT.LINK h = true ∧ s.hostCells h < s.get RGN_IGR_POOL.HP_LIMIT (regionOfLp lp.val)) ∧
    (∃ (s : State) (lp : Fin 16) (octets : List Octet) (badCode : Bool) (back : Nat) (chk : Nat) (d : List Octet) (i : Nat) (c : Nat) (a : Nat) (sci : Nat), s.calm = true ∧ s.lpUp lp.val = true ∧ s.mode ≠ mBOOT ∧ s.mode ≠ 0 ∧ chk = rxCheck octets badCode 9248 ∧ (d = octets.take (octets.length - 4)) ∧ chk = 0 ∧ s.fenced (regionOfLp lp.val) = false ∧ be16 d 12 = 0x88E5 ∧ tagBad d = false ∧ s.sciOf lp.val d = some sci ∧ ((s.ones CLS_IGR.VALID).find? (s.igrMatch lp.val true sci (beNat (slice d 0 6)) 0x88E5) = some i) ∧ s.get CLS_IGR.ACTION i = 1 ∧ c = s.get CLS_IGR.SC i ∧ s.on SCT_RX.VALID c = true ∧ s.get SCT_RX.LPORT c = lp.val ∧ s.get SCT_RX.SCI c = sci ∧ s.mode ≠ mSTANDBY ∧ s.mode ≠ mLOCKDOWN ∧ s.slotOfAn c (readTag d).an = some a ∧ (s.effValidate c ≠ 0 ∨ (readTag d).c = true)) :=
  ⟨⟨line, 0, List.replicate 9249 0, false, 0, _, _, (by refine ⟨?_, ?_, ?_, ?_, rfl, rfl, ?_⟩ <;> decide +kernel)⟩,
    ⟨line, 0, List.replicate 64 0, false, 0, _, _, RGN_HPCNT.RX_FCS_ERR,
      (by refine ⟨?_, ?_, ?_, ?_, rfl, rfl, ?_⟩ <;> decide +kernel)⟩,
    ⟨sets line [(GLB_REGION_STATUS.RGN0,0,3)], 0, frameOk, false, 0, _, _,
      (by refine ⟨?_, ?_, ?_, ?_, rfl, rfl, ?_⟩ <;> decide +kernel)⟩,
    ⟨line, 0, fTagBad, false, 0, _, _, (by refine ⟨?_, ?_, ?_, ?_, rfl, rfl, ?_⟩ <;> decide +kernel)⟩,
    ⟨sets line [(CLS_IGR.VALID,0,1),(CLS_IGR.ACTION,0,2)], 0, frameOk, false, 0, _, _, 0, _,
      (by refine ⟨?_, ?_, ?_, ?_, rfl, rfl, ?_, ?_, ?_, ?_, ?_, ?_, ?_, ?_, rfl, ?_⟩ <;> decide +kernel)⟩,
    ⟨sets line [(GLB_MODE.MODE,0,3),(CLS_IGR.VALID,0,1),(CLS_IGR.ACTION,0,1),(SCT_RX.VALID,0,1),(SCT_RX.SCI,0,0x0505050505050505),(SAT_RX.STATE,0,2)], 0, fSecured, false, 0, _, _, 0, _, _, _, (by refine ⟨?_, ?_, ?_, ?_, rfl, rfl, ?_, ?_, ?_, ?_, Option.eq_some_of_isSome (by decide +kernel), ?_, ?_, rfl, ?_, ?_, ?_, ?_, ?_, Option.eq_some_of_isSome (by decide +kernel), ?_⟩ <;> decide +kernel)⟩⟩

theorem witness_FramesLeaveAndArrive_ReplayPrechecks :
    (∃ (s : State) (r : Region) (x : InItem) (l : List InItem) (m : List InItem) (low : Nat) (n : Nat), s.calm = true ∧
      s.ig r.val = l ++ x :: m ∧ (∀ y ∈ l, y.stat ≠ .pre) ∧ x.stat = .pre ∧ low = s.rxLow x.par.window x.sa ∧
      n = recoverPn (decide (2 ≤ x.par.suite)) (readTag x.data).pn low ∧ (x.par.suite < 2 ∧ x.par.replay = true ∧
      n < low)) ∧
    (∃ (s : State) (r : Region) (x : InItem) (l : List InItem) (m : List InItem) (low : Nat) (n : Nat), s.calm = true ∧
      s.ig r.val = l ++ x :: m ∧ (∀ y ∈ l, y.stat ≠ .pre) ∧ x.stat = .pre ∧ low = s.rxLow x.par.window x.sa ∧
      n = recoverPn (decide (2 ≤ x.par.suite)) (readTag x.data).pn low ∧ (¬(x.par.suite < 2 ∧ x.par.replay = true ∧
      n < low)) ∧ s.igrRoom r.val (cellsLen (builtLen x.data)) = false) ∧
    (∃ (s : State) (r : Region) (x : InItem) (l : List InItem) (m : List InItem) (low : Nat) (n : Nat), s.calm = true ∧
      s.ig r.val = l ++ x :: m ∧ (∀ y ∈ l, y.stat ≠ .pre) ∧ x.stat = .pre ∧ low = s.rxLow x.par.window x.sa ∧
      n = recoverPn (decide (2 ≤ x.par.suite)) (readTag x.data).pn low ∧ (¬(x.par.suite < 2 ∧ x.par.replay = true ∧
      n < low)) ∧ s.igrRoom r.val (cellsLen (builtLen x.data)) = true) :=
  ⟨⟨setIg (sets line [(SCT_RX.REPLAY_PROTECT,0,1),(SAT_RX.NEXT_PN,0,10),(SCT_RX.VALID,0,1)]) [ig0 body60,{ ig0 (beBytes 12 0x0102030405060708090a0b0c ++ [0x88,0xe5,0x2c,0] ++ beBytes 4 3 ++ List.replicate 80 5) with stat := .pre, par := ⟨0,0,0,0,0,0,true,0⟩ },{ ig0 (beBytes 12 0x0102030405060708090a0b0c ++ [0x88,0xe5,0x2c,0] ++ beBytes 4 3 ++ List.replicate 80 5) with stat := .pre, par := ⟨0,0,0,0,0,0,true,0⟩ }], 0, { ig0 (beBytes 12 0x0102030405060708090a0b0c ++ [0x88,0xe5,0x2c,0] ++ beBytes 4 3 ++ List.replicate 80 5) with stat := .pre, par := ⟨0,0,0,0,0,0,true,0⟩ }, [ig0 body60], [{ ig0 (beBytes 12 0x0102030405060708090a0b0c ++ [0x88,0xe5,0x2c,0] ++ beBytes 4 3 ++ List.replicate 80 5) with stat := .pre, par := ⟨0,0,0,0,0,0,true,0⟩ }], _, _, (by refine ⟨?_, ?_, ?_, ?_, rfl, rfl, ?_⟩ <;> decide +kernel)⟩,
    ⟨setIg (sets line [(SCT_RX.REPLAY_PROTECT,0,1),(SAT_RX.NEXT_PN,0,3),(SCT_RX.VALID,0,1),(RGN_IGR_POOL.RESERVE,0,0)]) [ig0 body60,{ ig0 (beBytes 12 0x0102030405060708090a0b0c ++ [0x88,0xe5,0x2c,0] ++ beBytes 4 3 ++ List.replicate 80 5) with stat := .pre },{ ig0 (beBytes 12 0x0102030405060708090a0b0c ++ [0x88,0xe5,0x2c,0] ++ beBytes 4 3 ++ List.replicate 80 5) with stat := .pre }], 0, { ig0 (beBytes 12 0x0102030405060708090a0b0c ++ [0x88,0xe5,0x2c,0] ++ beBytes 4 3 ++ List.replicate 80 5) with stat := .pre }, [ig0 body60], [{ ig0 (beBytes 12 0x0102030405060708090a0b0c ++ [0x88,0xe5,0x2c,0] ++ beBytes 4 3 ++ List.replicate 80 5) with stat := .pre }], _, _, (by refine ⟨?_, ?_, ?_, ?_, rfl, rfl, ?_⟩ <;> decide +kernel)⟩,
    ⟨setIg (sets line [(SCT_RX.REPLAY_PROTECT,0,1),(SAT_RX.NEXT_PN,0,3),(SCT_RX.VALID,0,1)]) [ig0 body60,{ ig0 (beBytes 12 0x0102030405060708090a0b0c ++ [0x88,0xe5,0x2c,0] ++ beBytes 4 3 ++ List.replicate 80 5) with stat := .pre },{ ig0 (beBytes 12 0x0102030405060708090a0b0c ++ [0x88,0xe5,0x2c,0] ++ beBytes 4 3 ++ List.replicate 80 5) with stat := .pre }], 0, { ig0 (beBytes 12 0x0102030405060708090a0b0c ++ [0x88,0xe5,0x2c,0] ++ beBytes 4 3 ++ List.replicate 80 5) with stat := .pre }, [ig0 body60], [{ ig0 (beBytes 12 0x0102030405060708090a0b0c ++ [0x88,0xe5,0x2c,0] ++ beBytes 4 3 ++ List.replicate 80 5) with stat := .pre }], _, _, (by refine ⟨?_, ?_, ?_, ?_, rfl, rfl, ?_⟩ <;> decide +kernel)⟩⟩

theorem witness_Carriers_CarrierTransmission :
    (∃ (s : State) (lp : Fin 16) (c : Nat) (a : Nat), s.calm = true ∧ s.carDue lp.val = true ∧
      c = s.get CAR_TX.SC lp.val ∧ a = s.curSa c ∧ s.elsewhere c lp.val = false ∧ s.autGate c s.now = .pass ∧
      s.on SCT_TX.VALID c = true ∧ s.get SAT_TX.STATE a = saACTIVE ∧ (s.limited c = true →
      s.get SAT_TX.USED a + (if s.on SCT_TX.LIMIT_UNIT c then s.get CAR_TX.CSIZE lp.val + 48 else 1) ≤ s.get SCT_TX.LIMIT c) ∧ s.get SAT_TX.NEXT_PN a < pnCeiling (s.get SCT_TX.SUITE c)) ∧
    (∃ (s : State) (lp : Fin 16) (c : Nat) (a : Nat), s.calm = true ∧ s.carDue lp.val = true ∧
      c = s.get CAR_TX.SC lp.val ∧ a = s.curSa c ∧ s.elsewhere c lp.val = false ∧ s.autGate c s.now = .pass ∧
      s.on SCT_TX.VALID c = true ∧ s.get SAT_TX.STATE a = saACTIVE ∧ (s.limited c = true →
      s.get SAT_TX.USED a + (if s.on SCT_TX.LIMIT_UNIT c then s.get CAR_TX.CSIZE lp.val + 48 else 1) ≤ s.get SCT_TX.LIMIT c) ∧ s.get SAT_TX.NEXT_PN a < pnCeiling (s.get SCT_TX.SUITE c) ∧ s.pl.queues = [] ∧ s.pl.drr = [] ∧ (s.carTxOf lp.val).split = none) ∧
    (∃ (s : State) (lp : Fin 16) (c : Nat) (a : Nat), s.calm = true ∧ s.carDue lp.val = true ∧
      c = s.get CAR_TX.SC lp.val ∧ a = s.curSa c ∧ s.elsewhere c lp.val = false ∧ s.autGate c s.now = .pass ∧
      s.on SCT_TX.VALID c = false) ∧
    (∃ (s : State) (lp : Fin 16) (x : LineItem) (c : CarInfo), s.calm = true ∧
      ((s.lineQ lp.val).find? (fun y => y.car.isSome) = some x) ∧ x.car = some c ∧ s.lpUp lp.val = true ∧
      s.on CAR_TX.RUNNING lp.val = true ∧ s.gridAtOrAfter lp.val (s.slotTime lp.val c.slot) ≤ s.now ∧
      carBlocked (s.lineQ lp.val) x = false) ∧
    (∃ (s : State) (lp : Fin 16) (x : EgItem) (c : CarInfo), s.calm = true ∧
      ((s.eg (regionOfLp lp.val)).find? (fun y => y.f.lp == lp.val && y.car.isSome) = some x) ∧ x.car = some c ∧
      s.slotTime lp.val c.slot ≤ s.now + 150 * ns) ∧
    (∃ (s : State) (p : Port) (lp : Fin 16), s.mayWrite p.val false (reg_CAR_TX.offset lp.val 0) ∧
      (s.granted p.val false).heldOf (.port p.val) .CAR_TX = none ∧ s.on CAR_TX.RUNNING lp.val = true ∧
      ((s.carTxOf lp.val).split = none ∧ s.carPacked lp.val = [])) ∧
    (∃ (s : State) (p : Port) (lp : Fin 16), s.mayWrite p.val false (reg_CAR_TX.offset lp.val 0) ∧
      (s.granted p.val false).heldOf (.port p.val) .CAR_TX = none ∧ s.on CAR_TX.RUNNING lp.val = true ∧
      (¬((s.carTxOf lp.val).split = none ∧ s.carPacked lp.val = []))) ∧
    (∃ (s : State) (lp : Fin 16), s.calm = true ∧ (s.carTxOf lp.val).restart = true ∧ s.guarded lp.val = true ∧
      s.lpUp lp.val = true ∧ s.on CAR_TX.RUNNING lp.val = false ∧ s.fenced (regionOfLp lp.val) = false) :=
  ⟨⟨grd, 0, _, _, by decide +kernel, by decide +kernel, rfl, rfl, by decide +kernel⟩,
    ⟨grd, 0, _, _, by decide +kernel, by decide +kernel, rfl, rfl, by decide +kernel⟩,
    ⟨sets grd [(SCT_TX.VALID,0,0)], 0, _, _, by decide +kernel, by decide +kernel, rfl, rfl, by decide +kernel⟩,
    ⟨setLo { grd with now := 2 ^ 200 } [{ li0 (fr0 body60) with car := some (⟨0,0,[]⟩ : CarInfo) }], 0,
      { li0 (fr0 body60) with car := some (⟨0,0,[]⟩ : CarInfo) }, (⟨0,0,[]⟩ : CarInfo),
      (by refine ⟨?_, ?_, ?_, ?_, ?_, grid_le (by decide +kernel), ?_⟩ <;> decide +kernel)⟩,
    ⟨setEg grd [eg0 (fr0 body60),{ eg0 (fr0 body60) with car := some (⟨0,0,[]⟩ : CarInfo) }], 0,
      { eg0 (fr0 body60) with car := some (⟨0,0,[]⟩ : CarInfo) }, (⟨0,0,[]⟩ : CarInfo), by decide +kernel⟩,
    ⟨grd, 0, 0, by decide +kernel⟩,
    ⟨setEg grd [{ eg0 (fr0 body60) with car := some (⟨0,0,[]⟩ : CarInfo) }], 0, 0, by decide +kernel⟩,
    ⟨setTx (sets grd [(CAR_TX.RUNNING,0,0)]) { CarTx.none with restart := true }, 0, by decide +kernel⟩⟩

theorem witness_Carriers_CarrierReception :
    (∃ (s : State) (lp : Fin 16) (a : Nat) (b : Nat) (o : List Octet) (m : Nat) (n : Nat), s.calm = true ∧
      (s.carRxOf lp.val).part = some (a, b, o, m, n) ∧ m + s.get CAR_RX.REASM_US lp.val * us ≤ s.mono) ∧
    (∃ (s : State) (lp : Fin 16), s.calm = true ∧ s.on CAR_RX.UP lp.val = true ∧
      (s.carRxOf lp.val).last + s.get CAR_RX.LOSS_US lp.val * us ≤ s.mono) :=
  ⟨⟨setRx { grd with mono := sec } { CarRx.none with part := some (1,100,[1],0,0) }, 0, 1, 100, [1], 0, 0,
    by decide +kernel⟩,
    ⟨sets { grd with mono := sec } [(CAR_RX.UP,0,1)], 0, by decide +kernel⟩⟩

theorem witness_HostRingsPuntAndInject_HostRings :
    (∃ (s : State) (p : Port) (k : Fin 128) (off : Nat → Nat) (v : Word) (n : State),
      (off = (fun w => if k.val < 64 then reg_HQ_PUNT.offset k.val w else reg_HQ_INJ.offset (k.val - 64) w)) ∧
      n = ((s.granted p.val false).writeWord reg_HQ_PUNT k.val 0 (putBits v.toNat 0 1 1)).1 ∧
      s.mayWrite p.val false (off 0) ∧ s.on HQ_PUNT.EN k.val = false ∧
      n.guarSum (n.get HQ_PUNT.REGION k.val) + 4096 ≤ n.poolSize (n.get HQ_PUNT.REGION k.val)) ∧
    (∃ (s : State) (p : Port) (k : Fin 128) (off : Nat → Nat) (v : Word) (n : State),
      (off = (fun w => if k.val < 64 then reg_HQ_PUNT.offset k.val w else reg_HQ_INJ.offset (k.val - 64) w)) ∧
      n = ((s.granted p.val false).writeWord reg_HQ_PUNT k.val 0 (putBits v.toNat 0 1 1)).1 ∧
      s.mayWrite p.val false (off 0) ∧ s.on HQ_PUNT.EN k.val = false ∧
      n.poolSize (n.get HQ_PUNT.REGION k.val) < n.guarSum (n.get HQ_PUNT.REGION k.val) + 4096) ∧
    (∃ (s : State) (p : Port) (k : Fin 128) (off : Nat → Nat) (v : Word) (n : State),
      (off = (fun w => if k.val < 64 then reg_HQ_PUNT.offset k.val w else reg_HQ_INJ.offset (k.val - 64) w)) ∧
      n = ((s.granted p.val false).writeWord reg_HQ_PUNT k.val 0 (putBits v.toNat 0 1 0)).1 ∧
      s.mayWrite p.val false (off 0) ∧ s.on HQ_PUNT.EN k.val = true ∧
      (ringLocked.all (fun f => n.get f k.val == s.get f k.val) = true)) ∧
    (∃ (s : State) (p : Port) (k : Fin 128) (off : Nat → Nat) (v : Word) (n : State),
      (off = (fun w => if k.val < 64 then reg_HQ_PUNT.offset k.val w else reg_HQ_INJ.offset (k.val - 64) w)) ∧
      n = ((s.granted p.val false).writeWord reg_HQ_PUNT k.val 0 (putBits v.toNat 0 1 0)).1 ∧
      s.mayWrite p.val false (off 0) ∧ s.on HQ_PUNT.EN k.val = true ∧
      (ringLocked.all (fun f => n.get f k.val == s.get f k.val) = false)) ∧
    (∃ (s : State) (p : Port) (k : Fin 128) (off : Nat → Nat) (x : BitVec 16) (a : Nat) (b : Nat),
      (off = (fun w => if k.val < 64 then reg_HQ_PUNT.offset k.val w else reg_HQ_INJ.offset (k.val - 64) w)) ∧
      s.mayWrite p.val false (off 5) ∧ a = (if s.on HQ_PUNT.EN k.val then s.get HQ_PUNT.CONS k.val else 0) ∧
      b = (if s.on HQ_PUNT.EN k.val then s.get HQ_PUNT.CPL_IDX k.val else 0) ∧
      ((x.toNat + 65536 - a) % 65536 ≤ s.ringSize k.val ∧
      (b + 65536 - s.get HQ_PUNT.CPL_ACK k.val) % 65536 ≤ s.ringSize k.val)) ∧
    (∃ (s : State) (p : Port) (k : Fin 128) (off : Nat → Nat) (x : BitVec 16) (a : Nat) (b : Nat),
      (off = (fun w => if k.val < 64 then reg_HQ_PUNT.offset k.val w else reg_HQ_INJ.offset (k.val - 64) w)) ∧
      s.mayWrite p.val false (off 5) ∧ a = (if s.on HQ_PUNT.EN k.val then s.get HQ_PUNT.CONS k.val else 0) ∧
      b = (if s.on HQ_PUNT.EN k.val then s.get HQ_PUNT.CPL_IDX k.val else 0) ∧
      (¬((x.toNat + 65536 - a) % 65536 ≤ s.ringSize k.val ∧
      (b + 65536 - s.get HQ_PUNT.CPL_ACK k.val) % 65536 ≤ s.ringSize k.val))) ∧
    (∃ (s : State) (p : Port) (k : Fin 128) (off : Nat → Nat) (x : BitVec 16) (a : Nat) (b : Nat),
      (off = (fun w => if k.val < 64 then reg_HQ_PUNT.offset k.val w else reg_HQ_INJ.offset (k.val - 64) w)) ∧
      s.mayWrite p.val false (off 5) ∧ a = (if s.on HQ_PUNT.EN k.val then s.get HQ_PUNT.CONS k.val else 0) ∧
      b = (if s.on HQ_PUNT.EN k.val then s.get HQ_PUNT.CPL_IDX k.val else 0) ∧
      ((s.get HQ_PUNT.PROD k.val + 65536 - a) % 65536 ≤ s.ringSize k.val ∧
      (b + 65536 - x.toNat) % 65536 ≤ s.ringSize k.val)) ∧
    (∃ (s : State) (p : Port) (k : Fin 128) (off : Nat → Nat) (x : BitVec 16) (a : Nat) (b : Nat),
      (off = (fun w => if k.val < 64 then reg_HQ_PUNT.offset k.val w else reg_HQ_INJ.offset (k.val - 64) w)) ∧
      s.mayWrite p.val false (off 5) ∧ a = (if s.on HQ_PUNT.EN k.val then s.get HQ_PUNT.CONS k.val else 0) ∧
      b = (if s.on HQ_PUNT.EN k.val then s.get HQ_PUNT.CPL_IDX k.val else 0) ∧
      (¬((s.get HQ_PUNT.PROD k.val + 65536 - a) % 65536 ≤ s.ringSize k.val ∧
      (b + 65536 - x.toNat) % 65536 ≤ s.ringSize k.val))) :=
  ⟨⟨line, 0, 0, _, 1, _, rfl, rfl, by decide +kernel⟩,
    ⟨sets line [(QUE_DQ.GUAR,0,0xffff),(QUE_DQ.GUAR,1,0xffff)], 0, 0, _, 1, _, rfl, rfl, by decide +kernel⟩,
    ⟨ring 0 0 line, 0, 0, _, 0x1000020, _, rfl, rfl, by decide +kernel⟩,
    ⟨ring 0 0 line, 0, 0, _, 0, _, rfl, rfl, by decide +kernel⟩,
    ⟨ring 0 0 line, 0, 0, _, 256, _, _, rfl, by decide +kernel, rfl, rfl, by decide +kernel⟩,
    ⟨ring 0 0 line, 0, 0, _, 257, _, _, rfl, by decide +kernel, rfl, rfl, by decide +kernel⟩,
    ⟨ring 0 0 line, 0, 0, _, 0, _, _, rfl, by decide +kernel, rfl, rfl, by decide +kernel⟩,
    ⟨ring 0 0 line, 0, 0, _, 5, _, _, rfl, by decide +kernel, rfl, rfl, by decide +kernel⟩⟩

theorem witness_HostRingsPuntAndInject_PuntPackets :
    (∃ (s : State) (k : Fin 64) (q : Punt) (rest : List Punt) (d : Desc) (n : Nat), s.calm = true ∧
      (s.ring k.val).waiting = q :: rest ∧ s.ringDma k.val = true ∧ s.posted k.val ≠ 0 ∧ q.written < q.data.length ∧
      (n = (s.get HQ_PUNT.CONS k.val + 1) % 65536) ∧ descOk d = true ∧ q.data.length ≤ q.written + 64 * d.len64) ∧
    (∃ (s : State) (k : Fin 64) (q : Punt) (rest : List Punt) (d : Desc) (n : Nat), s.calm = true ∧
      (s.ring k.val).waiting = q :: rest ∧ s.ringDma k.val = true ∧ s.posted k.val ≠ 0 ∧ q.written < q.data.length ∧
      (n = (s.get HQ_PUNT.CONS k.val + 1) % 65536) ∧ descOk d = true ∧ q.written + 64 * d.len64 < q.data.length) ∧
    (∃ (s : State) (k : Fin 64) (q : Punt) (rest : List Punt) (d : Desc) (n : Nat), s.calm = true ∧
      (s.ring k.val).waiting = q :: rest ∧ s.ringDma k.val = true ∧ s.posted k.val ≠ 0 ∧ q.written < q.data.length ∧
      (n = (s.get HQ_PUNT.CONS k.val + 1) % 65536) ∧ descOk d = false) ∧
    (∃ (s : State) (p : Port) (k : Fin 64) (q : Punt) (rest : List Punt),
      s.mayWrite p.val false (reg_HQ_CTL.offset k.val 0) ∧ (s.ring k.val).waiting = q :: rest ∧ q.begun = true) ∧
    (∃ (s : State) (p : Port) (k : Fin 64), s.mayWrite p.val false (reg_HQ_CTL.offset k.val 0) ∧
      ((s.ring k.val).waiting.head?.any (·.begun) = false)) :=
  ⟨⟨setRing (ring 63 5 line) 63 { Ring.none with waiting := [pu,pu] }, 63, pu, [pu], ⟨0x10000,4⟩, _,
    (by refine ⟨?_, ?_, ?_, ?_, ?_, rfl, ?_⟩ <;> decide +kernel)⟩,
    ⟨setRing (ring 63 5 line) 63 { Ring.none with waiting := [{ pu with data := List.replicate 600 5, begun := true, nbuf := 1, written := 64 },pu] }, 63, { pu with data := List.replicate 600 5, begun := true, nbuf := 1, written := 64 }, [pu], ⟨0x10000,4⟩, _, (by refine ⟨?_, ?_, ?_, ?_, ?_, rfl, ?_⟩ <;> decide +kernel)⟩,
    ⟨setRing (ring 63 5 line) 63 { Ring.none with waiting := [{ pu with data := List.replicate 600 5, begun := true, nbuf := 1, written := 64 },pu] }, 63, { pu with data := List.replicate 600 5, begun := true, nbuf := 1, written := 64 }, [pu], ⟨0x10000,3⟩, _, (by refine ⟨?_, ?_, ?_, ?_, ?_, rfl, ?_⟩ <;> decide +kernel)⟩,
    ⟨setRing (ring 0 5 line) 0 { Ring.none with waiting := [{ pu with data := List.replicate 600 5, begun := true, nbuf := 1, written := 64 },pu] }, 0, 0, { pu with data := List.replicate 600 5, begun := true, nbuf := 1, written := 64 }, [pu], by decide +kernel⟩,
    ⟨line, 0, 0, by decide +kernel⟩⟩

theorem witness_HostRingsPuntAndInject_InjectFrames :
    (∃ (s : State) (k : Fin 64) (o : List Octet) (c : Nat), s.calm = true ∧ s.ringDma (64 + k.val) = true ∧
      s.posted (64 + k.val) ≠ 0 ∧ (s.ring (64 + k.val)).desc = none ∧ c = s.get HQ_PUNT.CONS (64 + k.val) ∧
      (14 ≤ injLen o ∧ injLen o ≤ 9212 ∧ injMode o ≠ 3)) ∧
    (∃ (s : State) (k : Fin 64) (o : List Octet) (c : Nat), s.calm = true ∧ s.ringDma (64 + k.val) = true ∧
      s.posted (64 + k.val) ≠ 0 ∧ (s.ring (64 + k.val)).desc = none ∧ c = s.get HQ_PUNT.CONS (64 + k.val) ∧
      (¬(14 ≤ injLen o ∧ injLen o ≤ 9212 ∧ injMode o ≠ 3))) ∧
    (∃ (s : State) (k : Fin 64) (x : InjDesc), s.calm = true ∧ (s.ring (64 + k.val)).desc = some x ∧
      s.ringDma (64 + k.val) = true ∧
      s.injCells (64 + k.val) + cellsOf (List.replicate (injLen x.octets) (0 : Octet)) ≤ s.get HQ_PUNT.QUOTA (64 + k.val)) ∧
    (∃ (s : State) (k : Fin 64) (x : InjDesc) (l : List Octet) (d : List Octet) (lp : Nat), s.calm = true ∧
      (s.ring (64 + k.val)).desc = some x ∧ s.ringDma (64 + k.val) = true ∧
      d = padTo (max (injLen x.octets) 60) (padTo (injLen x.octets) l) ∧
      s.injCells (64 + k.val) + cellsOf d ≤ s.get HQ_PUNT.QUOTA (64 + k.val) ∧ injMode x.octets = 2 ∧
      injTarget x.octets = lp ∧ lp < 16 ∧ s.egrClearOk (be16 d (etypeAt d)) = true) ∧
    (∃ (s : State) (k : Fin 64) (x : InjDesc) (l : List Octet) (d : List Octet) (c : Nat), s.calm = true ∧
      (s.ring (64 + k.val)).desc = some x ∧ s.ringDma (64 + k.val) = true ∧
      d = padTo (max (injLen x.octets) 60) (padTo (injLen x.octets) l) ∧
      s.injCells (64 + k.val) + cellsOf d ≤ s.get HQ_PUNT.QUOTA (64 + k.val) ∧ injMode x.octets = 1 ∧
      injTarget x.octets = c ∧ c < 4096 ∧ s.on SCT_TX.VALID c = true ∧ ((octetAt x.octets 10).toNat / 4 % 4 < 3) ∧
      (injFlag x.octets 2 = true → (octetAt x.octets 10).toNat / 4 % 4 = 2)) ∧
    (∃ (s : State) (p : Port) (vec : Fin 64) (d : Delivery) (q : Nat), s.delivery p.val vec.val = some d ∧
      d.zlr = some q ∧ s.masters q = true ∧ s.cl.heldSrcs = []) :=
  ⟨⟨ring 64 5 line, 0, injD 2 60, _, (by refine ⟨?_, ?_, ?_, ?_, rfl, ?_⟩ <;> decide +kernel)⟩,
    ⟨ring 64 5 line, 0, injD 3 60, _, (by refine ⟨?_, ?_, ?_, ?_, rfl, ?_⟩ <;> decide +kernel)⟩,
    ⟨setRing (sets (ring 64 5 line) [(HQ_PUNT.QUOTA,64,100)]) 64 { Ring.none with order := [0], desc := some ⟨0,injD 2 60⟩ }, 0, ⟨0,injD 2 60⟩, by decide +kernel⟩,
    ⟨setRing (sets (ring 64 5 line) [(HQ_PUNT.QUOTA,64,100)]) 64 { Ring.none with order := [0], desc := some ⟨0,injD 2 60⟩ }, 0, ⟨0,injD 2 60⟩, body60, _, 0, (by refine ⟨?_, ?_, ?_, rfl, ?_⟩ <;> decide +kernel)⟩,
    ⟨setRing (sets (ring 64 5 line) [(HQ_PUNT.QUOTA,64,100),(SCT_TX.VALID,0,1),(SCT_TX.LPORT,0,7)]) 64 { Ring.none with order := [0], desc := some ⟨0,injD 1 60⟩ }, 0, ⟨0,injD 1 60⟩, body60, _, 0, (by refine ⟨?_, ?_, ?_, rfl, ?_⟩ <;> decide +kernel)⟩,
    ⟨bm { line with ic := { line.ic with deliveries := [⟨0,63,[3],some 1⟩] } }, 0, 63, ⟨0,63,[3],some 1⟩, 1,
      by decide +kernel⟩⟩

theorem witness_LaneEventsAndTests_LaneEvents :
    (∃ (s : State) (lane : Fin 96) (locked : Bool) (signal : Bool) (v : Bool), s.calm = true ∧ s.mode ≠ 0 ∧
      (v = (locked && s.refGood lane.val))) ∧
    (∃ (s : State) (lane : Fin 96), s.calm = true ∧ (s.on RGN_HLANE.LOCKED lane.val = true ∧
      s.get RGN_HLANE.SNR lane.val < s.get FLT_CFG.SNR_MIN 0 ∧ s.laneFences lane.val = true)) ∧
    (∃ (s : State) (lane : Fin 96), s.calm = true ∧ (¬(s.on RGN_HLANE.LOCKED lane.val = true ∧
      s.get RGN_HLANE.SNR lane.val < s.get FLT_CFG.SNR_MIN 0 ∧ s.laneFences lane.val = true))) ∧
    (∃ (s : State) (lane : Fin 96) (taps : List (BitVec 8)) (c : Instr) (lim : Bool), s.calm = true ∧
      lim = tapLimit taps ∧ c = (if lim then .dfeTapLimit lane taps else .dfeAdapted lane taps) ∧ (64 ≤ lane.val ∧
      s.on RGN_LLANE.DFE_FREEZE lane.val = false ∧ (lim = true ∨ s.on RGN_HLANE.LOCKED lane.val = true))) ∧
    (∃ (s : State) (lane : Fin 96) (taps : List (BitVec 8)) (c : Instr) (lim : Bool), s.calm = true ∧
      lim = tapLimit taps ∧ c = (if lim then .dfeTapLimit lane taps else .dfeAdapted lane taps) ∧
      (lane.val < 64 ∨ s.on RGN_LLANE.DFE_FREEZE lane.val = true ∨ (lim = false ∧
      s.on RGN_HLANE.LOCKED lane.val = false))) ∧
    (∃ (s : State) (h : Int) (l : Int) (hg : Bool) (lg : Bool), s.calm = true ∧ s.mode ≠ 0 ∧ (hg = decide (-5100 ≤ h ∧
      h ≤ 100)) ∧ (lg = decide (-100 ≤ l ∧ l ≤ 100))) :=
  ⟨⟨sets std [(GLB_REFCLK_STATUS.HREF_OK,0,1),(GLB_REFCLK_STATUS.LREF_OK,0,1)], 95, true, true, _, by decide +kernel,
    by decide +kernel, rfl⟩,
    ⟨sets std [(GLB_REFCLK_STATUS.HREF_OK,0,1),(GLB_REFCLK_STATUS.LREF_OK,0,1),(RGN_HPORT.EN,0,1),(RGN_HPORT.LINK,0,1),(RGN_HLANE.LOCKED,0,1),(RGN_HLANE.SIGNAL,0,1),(RGN_HLANE.SNR,0,59),(GLB_REGION_STATUS.RGN0,0,1)], 0, by decide +kernel⟩,
    ⟨std, 0, by decide +kernel⟩,
    ⟨std, 64, List.replicate 12 0x81,
      (if tapLimit (List.replicate 12 0x81 : List (BitVec 8)) then .dfeTapLimit (64 : Fin 96) (List.replicate 12 0x81 : List (BitVec 8)) else .dfeAdapted (64 : Fin 96) (List.replicate 12 0x81 : List (BitVec 8))), _, by decide +kernel, rfl, rfl, by decide +kernel⟩,
    ⟨std, 63, List.replicate 12 0x81,
      (if tapLimit (List.replicate 12 0x81 : List (BitVec 8)) then .dfeTapLimit (63 : Fin 96) (List.replicate 12 0x81 : List (BitVec 8)) else .dfeAdapted (63 : Fin 96) (List.replicate 12 0x81 : List (BitVec 8))), _, by decide +kernel, rfl, rfl, by decide +kernel⟩,
    ⟨sets std [(GLB_REFCLK_STATUS.HREF_OK,0,1),(GLB_REFCLK_STATUS.LREF_OK,0,1),(RGN_HPORT.EN,0,1),(RGN_HPORT.LINK,0,1),(RGN_HLANE.LOCKED,0,1),(RGN_HLANE.SIGNAL,0,1),(RGN_HLANE.SNR,0,59),(GLB_REGION_STATUS.RGN0,0,1),(RGN_HLANE.LOCKED,64,1),(RGN_HLANE.LOCKED,95,1)], -5100, 100, decide (-5100 ≤ (-5100 : Int) ∧ (-5100 : Int) ≤ 100), decide (-100 ≤ (100 : Int) ∧ (100 : Int) ≤ 100), by decide +kernel⟩⟩

theorem witness_LaneEventsAndTests_LaneTestsAndMonitors :
    (∃ (s : State) (lane : Fin 96) (pass : Bool) (go : Bool), s.calm = true ∧
      (go = (s.on RGN_HLANE.FENCED lane.val && Tab.get 0 s.ln.laneTest lane.val != 0 && (lane.val < 64 || (s.laneOwner lane.val).all (fun q => s.modState (q - 32) == mREADY)))) ∧ go = true) ∧
    (∃ (s : State) (lane : Fin 96) (pass : Bool) (go : Bool), s.calm = true ∧
      (go = (s.on RGN_HLANE.FENCED lane.val && Tab.get 0 s.ln.laneTest lane.val != 0 && (lane.val < 64 || (s.laneOwner lane.val).all (fun q => s.modState (q - 32) == mREADY)))) ∧ go = false) ∧
    (∃ (s : State) (p : Port) (lane : Fin 96), s.mayWrite p.val false reg_FLT_LANE_CMD.base ∧
      s.on RGN_HLANE.FENCED lane.val = true) ∧
    (∃ (s : State) (p : Port) (lane : Fin 96), s.mayWrite p.val false reg_FLT_LANE_CMD.base ∧
      s.on RGN_HLANE.FENCED lane.val = false) ∧
    (∃ (s : State) (p : Port) (lane : Fin 96) (off : Nat),
      (off = (if lane.val < 64 then reg_RGN_HLANE.offset lane.val 6 else reg_RGN_LLANE.offset (lane.val - 64) 6)) ∧
      s.admits p.val 0 false true off = true ∧ s.get RGN_HLANE.PRBS_GEN lane.val < 4 ∧
      s.get RGN_HLANE.PRBS_CHK lane.val < 4 ∧ (s.laneOwner lane.val = none ∨ (s.get RGN_HLANE.PRBS_GEN lane.val = 0 ∧
      s.get RGN_HLANE.PRBS_CHK lane.val = 0))) ∧
    (∃ (s : State) (p : Port) (lane : Fin 96) (off : Nat),
      (off = (if lane.val < 64 then reg_RGN_HLANE.offset lane.val 6 else reg_RGN_LLANE.offset (lane.val - 64) 6)) ∧
      s.admits p.val 0 false true off = true ∧ s.get RGN_HLANE.PRBS_GEN lane.val < 4 ∧
      s.get RGN_HLANE.PRBS_CHK lane.val < 4 ∧ (¬(s.laneOwner lane.val = none ∨ (s.get RGN_HLANE.PRBS_GEN lane.val = 0 ∧
      s.get RGN_HLANE.PRBS_CHK lane.val = 0)))) ∧
    (∃ (s : State) (lane : Fin 96) (u : BitVec 8) (m : BitVec 8) (l : BitVec 8) (w : BitVec 8) (n : BitVec 8),
      s.on RGN_HLANE.LOCKED lane.val = true) ∧
    (∃ (s : State) (lane : Fin 96) (u : BitVec 8) (m : BitVec 8) (l : BitVec 8) (w : BitVec 8) (n : BitVec 8),
      s.on RGN_HLANE.LOCKED lane.val = false) :=
  ⟨⟨{ sets std [(RGN_HLANE.FENCED,63,1)] with mono := 100 * sec, ln := { std.ln with laneTest := Tab.set 0 [] 63 2, laneTrans := Tab.set [] [] 63 [95 * sec, 96 * sec, 97 * sec, 98 * sec] } }, 63, true, _, by decide +kernel, rfl, by decide +kernel⟩,
    ⟨std, 0, true, _, by decide +kernel, rfl, by decide +kernel⟩,
    ⟨sets std [(RGN_HLANE.FENCED,95,1)], 0, 95, by decide +kernel⟩,
    ⟨std, 0, 0, by decide +kernel⟩,
    ⟨sets std [(RGN_HLANE.PRBS_ERR,0,5)], 0, 0, _, rfl, by decide +kernel⟩,
    ⟨sets std [(RGN_HPORT.EN,0,1),(RGN_HLANE.PRBS_CHK,0,2)], 0, 0, _, rfl, by decide +kernel⟩,
    ⟨sets std [(RGN_HLANE.LOCKED,0,1)], 0, 1, 2, 3, 200, 5, by decide +kernel⟩,
    ⟨std, 0, 1, 2, 3, 4, 5, by decide +kernel⟩⟩

theorem witness_PortCommands :
    (∃ (s : State) (p : Port) (port : Fin 48) (v : Word) (r : Reg) (off : Nat) (taken : Nat → State) (same : Nat → Bool),
      r = (if port.val < 32 then reg_RGN_HPORT else reg_RGN_LPORT) ∧
      (off = r.offset (if port.val < 32 then port.val else port.val - 32) 0) ∧ s.mayWrite p.val false off ∧
      (taken = (fun en => ((s.granted p.val false).writeWord r port.val 0 (putBits v.toNat 0 1 en)).1)) ∧
      (same = (fun en => (taken en).get RGN_HPORT.SPEED port.val == s.get RGN_HPORT.SPEED port.val)) ∧
      s.on RGN_HPORT.EN port.val = false ∧ (taken 1).portFits port.val = true) ∧
    (∃ (s : State) (p : Port) (port : Fin 48) (v : Word) (r : Reg) (off : Nat) (taken : Nat → State) (same : Nat → Bool),
      r = (if port.val < 32 then reg_RGN_HPORT else reg_RGN_LPORT) ∧
      (off = r.offset (if port.val < 32 then port.val else port.val - 32) 0) ∧ s.mayWrite p.val false off ∧
      (taken = (fun en => ((s.granted p.val false).writeWord r port.val 0 (putBits v.toNat 0 1 en)).1)) ∧
      (same = (fun en => (taken en).get RGN_HPORT.SPEED port.val == s.get RGN_HPORT.SPEED port.val)) ∧
      s.on RGN_HPORT.EN port.val = false ∧ (taken 1).portFits port.val = false) ∧
    (∃ (s : State) (p : Port) (port : Fin 48) (v : Word) (r : Reg) (off : Nat) (taken : Nat → State) (same : Nat → Bool),
      r = (if port.val < 32 then reg_RGN_HPORT else reg_RGN_LPORT) ∧
      (off = r.offset (if port.val < 32 then port.val else port.val - 32) 0) ∧ s.mayWrite p.val false off ∧
      (taken = (fun en => ((s.granted p.val false).writeWord r port.val 0 (putBits v.toNat 0 1 en)).1)) ∧
      (same = (fun en => (taken en).get RGN_HPORT.SPEED port.val == s.get RGN_HPORT.SPEED port.val)) ∧
      s.on RGN_HPORT.EN port.val = true ∧ same 1 = true) ∧
    (∃ (s : State) (p : Port) (port : Fin 48) (v : Word) (r : Reg) (off : Nat) (taken : Nat → State) (same : Nat → Bool),
      r = (if port.val < 32 then reg_RGN_HPORT else reg_RGN_LPORT) ∧
      (off = r.offset (if port.val < 32 then port.val else port.val - 32) 0) ∧ s.mayWrite p.val false off ∧
      (taken = (fun en => ((s.granted p.val false).writeWord r port.val 0 (putBits v.toNat 0 1 en)).1)) ∧
      (same = (fun en => (taken en).get RGN_HPORT.SPEED port.val == s.get RGN_HPORT.SPEED port.val)) ∧
      s.on RGN_HPORT.EN port.val = true ∧ same 1 = false) ∧
    (∃ (s : State) (p : Port) (port : Fin 48) (v : Word) (r : Reg) (off : Nat) (taken : Nat → State) (same : Nat → Bool),
      r = (if port.val < 32 then reg_RGN_HPORT else reg_RGN_LPORT) ∧
      (off = r.offset (if port.val < 32 then port.val else port.val - 32) 0) ∧ s.mayWrite p.val false off ∧
      (taken = (fun en => ((s.granted p.val false).writeWord r port.val 0 (putBits v.toNat 0 1 en)).1)) ∧
      (same = (fun en => (taken en).get RGN_HPORT.SPEED port.val == s.get RGN_HPORT.SPEED port.val)) ∧
      (s.on RGN_HPORT.EN port.val = true → same 0 = true)) ∧
    (∃ (s : State) (p : Port) (port : Fin 48) (v : Word) (r : Reg) (off : Nat) (taken : Nat → State) (same : Nat → Bool),
      r = (if port.val < 32 then reg_RGN_HPORT else reg_RGN_LPORT) ∧
      (off = r.offset (if port.val < 32 then port.val else port.val - 32) 0) ∧ s.mayWrite p.val false off ∧
      (taken = (fun en => ((s.granted p.val false).writeWord r port.val 0 (putBits v.toNat 0 1 en)).1)) ∧
      (same = (fun en => (taken en).get RGN_HPORT.SPEED port.val == s.get RGN_HPORT.SPEED port.val)) ∧
      s.on RGN_HPORT.EN port.val = true ∧ same 0 = false) ∧
    (∃ (s : State) (port : Fin 48) (aligned : Bool) (lf : Bool) (rf : Bool) (v : Nat), s.calm = true ∧ s.mode ≠ 0 ∧
      (v = b2n (s.linkCan port.val && aligned && !lf && !rf))) ∧
    (∃ (s : State) (port : Fin 48) (tx : Word) (rx : Word), s.calm = true ∧ s.on RGN_HPORT.LINK port.val = true) ∧
    (∃ (s : State) (port : Fin 48) (tx : Word) (rx : Word), s.calm = true ∧ s.on RGN_HPORT.LINK port.val = false) ∧
    (∃ (s : State) (port : Fin 48) (cw : Nat) (corr : Nat) (unc : Nat) (sym : Nat), s.on RGN_HPORT.EN port.val = true) ∧
    (∃ (s : State) (port : Fin 48) (cw : Nat) (corr : Nat) (unc : Nat) (sym : Nat), s.on RGN_HPORT.EN port.val = false) :=
  ⟨⟨sets std [(RGN_HLANE.PRBS_GEN,0,1)], 0, 0, 1, _, _, _, _, rfl, rfl, by decide +kernel, rfl, rfl, by decide +kernel⟩,
    ⟨std, 0, 1, 2, _, _, _, _, rfl, rfl, by decide +kernel, rfl, rfl, by decide +kernel⟩,
    ⟨sets std [(RGN_HPORT.EN,0,1),(RGN_HPORT.SPEED,0,1),(RGN_HPORT.LINK,0,1),(RGN_HPORT.EN,47,1),(RGN_HPORT.LINK,47,1),(RGN_LPORT.MOD_STATE,47,5),(GLB_REGION_STATUS.RGN0,0,1)], 0, 0, 2, _, _, _, _, rfl, rfl, by decide +kernel, rfl, rfl, by decide +kernel⟩,
    ⟨sets std [(RGN_HPORT.EN,0,1),(RGN_HPORT.SPEED,0,1),(RGN_HPORT.LINK,0,1),(RGN_HPORT.EN,47,1),(RGN_HPORT.LINK,47,1),(RGN_LPORT.MOD_STATE,47,5),(GLB_REGION_STATUS.RGN0,0,1)], 0, 0, 0, _, _, _, _, rfl, rfl, by decide +kernel, rfl, rfl, by decide +kernel⟩,
    ⟨sets std [(RGN_HPORT.EN,0,1),(RGN_HPORT.SPEED,0,1),(RGN_HPORT.LINK,0,1),(RGN_HPORT.EN,47,1),(RGN_HPORT.LINK,47,1),(RGN_LPORT.MOD_STATE,47,5),(GLB_REGION_STATUS.RGN0,0,1)], 0, 0, 2, _, _, _, _, rfl, rfl, by decide +kernel, rfl, rfl, by decide +kernel⟩,
    ⟨sets std [(RGN_HPORT.EN,0,1),(RGN_HPORT.SPEED,0,1),(RGN_HPORT.LINK,0,1),(RGN_HPORT.EN,47,1),(RGN_HPORT.LINK,47,1),(RGN_LPORT.MOD_STATE,47,5),(GLB_REGION_STATUS.RGN0,0,1)], 0, 0, 4, _, _, _, _, rfl, rfl, by decide +kernel, rfl, rfl, by decide +kernel⟩,
    ⟨sets std [(RGN_HPORT.EN,0,1),(RGN_HLANE.LOCKED,0,1),(RGN_HLANE.LOCKED,1,1),(RGN_HLANE.LOCKED,2,1),(RGN_HLANE.LOCKED,3,1)], 0, true, false, false, _, by decide +kernel, by decide +kernel, rfl⟩,
    ⟨sets std [(RGN_HPORT.EN,0,1),(RGN_HPORT.LINK,0,1)], 0, 5, 6, by decide +kernel⟩,
    ⟨std, 0, 5, 6, by decide +kernel⟩,
    ⟨sets std [(RGN_HPORT.EN,0,1),(RGN_HPORT.FEC_DEG_THR,0,3)], 0, 5, 2, 1, 3, by decide +kernel⟩,
    ⟨std, 0, 5, 2, 1, 3, by decide +kernel⟩⟩

theorem witness_ModuleStatesAndAccess_ModuleStates :
    (∃ (s : State) (k : Fin 16) (st : Nat) (i : Nat) (present : Bool), s.calm = true ∧ st = s.modState k.val ∧
      i = 32 + k.val ∧ s.mode ≠ 0 ∧ s.on RGN_LPORT.MOD_PRESENT i ≠ present ∧ st ≠ (if present then mRESET else mABSENT)) ∧
    (∃ (s : State) (k : Fin 16) (st : Nat) (i : Nat) (ready : Bool), s.calm = true ∧ st = s.modState k.val ∧
      i = 32 + k.val ∧ st = mRESET ∧ ready = true ∧ s.modReleased = true) ∧
    (∃ (s : State) (k : Fin 16) (st : Nat) (i : Nat) (ready : Bool), s.calm = true ∧ st = s.modState k.val ∧
      i = 32 + k.val ∧ (¬(st = mRESET ∧ ready = true ∧ s.modReleased = true))) ∧
    (∃ (s : State) (k : Fin 16) (st : Nat) (i : Nat) (vendor : List Octet) (part : List Octet) (serial : List Octet) (id : List Octet) (h : Nat) (ok : Bool), s.calm = true ∧ st = s.modState k.val ∧ i = 32 + k.val ∧ st = mIDENTIFY ∧ id = padTo 16 vendor ++ padTo 16 part ++ padTo 16 serial ∧ h = leNat ((sha384 id).take 32) ∧ (ok = ((s.get RGN_LPORT.ALLOW_EN i == 0 && s.get CAR_TX.EN k.val == 0) || (upto 64).any (fun e => s.on OFC_MOD_ALLOW.VALID e && bit (s.get OFC_MOD_ALLOW.PORTS e) k.val && s.get OFC_MOD_ALLOW.HASH e == h)))) ∧
    (∃ (s : State) (k : Fin 16) (st : Nat) (i : Nat) (out : Bool), s.calm = true ∧ st = s.modState k.val ∧
      i = 32 + k.val ∧ (out = (st == mREADY || (st == mIDENTIFY && s.on RGN_LMOD.VALID k.val))) ∧
      s.modAllowed k.val = false ∧ out = true) ∧
    (∃ (s : State) (k : Fin 16) (st : Nat) (i : Nat) (out : Bool), s.calm = true ∧ st = s.modState k.val ∧
      i = 32 + k.val ∧ (out = (st == mREADY || (st == mIDENTIFY && s.on RGN_LMOD.VALID k.val))) ∧
      s.modAllowed k.val = true ∧ s.on RGN_HPORT.EN i = true ∧ (st = mDENIED ∨ (st = mIDENTIFY ∧ out = true))) ∧
    (∃ (s : State) (k : Fin 16) (st : Nat) (i : Nat) (out : Bool), s.calm = true ∧ st = s.modState k.val ∧
      i = 32 + k.val ∧ (out = (st == mREADY || (st == mIDENTIFY && s.on RGN_LMOD.VALID k.val))) ∧
      s.modAllowed k.val = false ∧ out = false) ∧
    (∃ (s : State) (k : Fin 16) (st : Nat) (i : Nat) (out : Bool), s.calm = true ∧ st = s.modState k.val ∧
      i = 32 + k.val ∧ (out = (st == mREADY || (st == mIDENTIFY && s.on RGN_LMOD.VALID k.val))) ∧
      s.modAllowed k.val = true ∧ (s.on RGN_HPORT.EN i = false ∨ (st ≠ mDENIED ∧ (st ≠ mIDENTIFY ∨ out = false)))) ∧
    (∃ (s : State) (k : Fin 16) (st : Nat) (i : Nat) (width : Nat), s.calm = true ∧ st = s.modState k.val ∧
      i = 32 + k.val ∧ st = mINIT) ∧
    (∃ (s : State) (k : Fin 16) (st : Nat) (i : Nat) (width : Nat), s.calm = true ∧ st = s.modState k.val ∧
      i = 32 + k.val ∧ st ≠ mINIT) ∧
    (∃ (s : State) (k : Fin 16) (st : Nat) (i : Nat), s.calm = true ∧ st = s.modState k.val ∧ i = 32 + k.val ∧
      ((st = mRESET ∧ s.modReleased = true) ∨ st = mINIT) ∧
      Tab.get 0 s.ln.modSince k.val + s.get RGN_LPORT.READY_MS i * ms ≤ s.mono) ∧
    (∃ (s : State) (k : Fin 16) (st : Nat) (i : Nat), s.calm = true ∧ st = s.modState k.val ∧ i = 32 + k.val ∧
      (¬(((st = mRESET ∧ s.modReleased = true) ∨ st = mINIT) ∧
      Tab.get 0 s.ln.modSince k.val + s.get RGN_LPORT.READY_MS i * ms ≤ s.mono))) ∧
    (∃ (s : State) (k : Fin 16) (st : Nat) (i : Nat) (acked : Bool), s.calm = true ∧ st = s.modState k.val ∧
      i = 32 + k.val ∧ st ≠ mABSENT ∧ st ≠ mFAULT) ∧
    (∃ (s : State) (k : Fin 16) (st : Nat) (i : Nat) (acked : Bool), s.calm = true ∧ st = s.modState k.val ∧
      i = 32 + k.val ∧ (st = mABSENT ∨ st = mFAULT)) ∧
    (∃ (s : State) (k : Fin 16) (st : Nat) (i : Nat) (p : Port), s.calm = true ∧ st = s.modState k.val ∧ i = 32 + k.val ∧
      s.mayWrite p.val false (reg_RGN_LPORT.offset k.val 0)) :=
  ⟨⟨std, 15, _, _, true, by decide +kernel, rfl, rfl, by decide +kernel⟩,
    ⟨sets std ([(RGN_LPORT.MOD_PRESENT,32,1),(RGN_LPORT.MOD_STATE,32,1)] ++ []), 0, _, _, _, by decide +kernel, rfl, rfl,
      by decide +kernel, rfl, by decide +kernel⟩,
    ⟨sets std ([(RGN_LPORT.MOD_PRESENT,32,1),(RGN_LPORT.MOD_STATE,32,1)] ++ []), 0, _, _, false, by decide +kernel, rfl,
      rfl, by decide +kernel⟩,
    ⟨sets std ([(RGN_LPORT.MOD_PRESENT,32,1),(RGN_LPORT.MOD_STATE,32,2)] ++ [(RGN_HPORT.EN,32,1)]), 0, _, _, [65], [66],
      [67], _, _, _, by decide +kernel, rfl, rfl, by decide +kernel, rfl, rfl, rfl⟩,
    ⟨sets std ([(RGN_LPORT.MOD_PRESENT,32,1),(RGN_LPORT.MOD_STATE,32,5)] ++ [(RGN_LPORT.ALLOW_EN,32,1),(RGN_HPORT.LINK,32,1)]), 0, _, _, _, by decide +kernel, rfl, rfl, rfl, by decide +kernel⟩,
    ⟨sets std ([(RGN_LPORT.MOD_PRESENT,32,1),(RGN_LPORT.MOD_STATE,32,3)] ++ [(RGN_HPORT.EN,32,1)]), 0, _, _, _,
      by decide +kernel, rfl, rfl, rfl, by decide +kernel⟩,
    ⟨sets std ([(RGN_LPORT.MOD_PRESENT,32,1),(RGN_LPORT.MOD_STATE,32,4)] ++ [(RGN_LPORT.ALLOW_EN,32,1)]), 0, _, _, _,
      by decide +kernel, rfl, rfl, rfl, by decide +kernel⟩,
    ⟨sets std ([(RGN_LPORT.MOD_PRESENT,32,1),(RGN_LPORT.MOD_STATE,32,5)] ++ [(RGN_HPORT.EN,32,1)]), 0, _, _, _,
      by decide +kernel, rfl, rfl, rfl, by decide +kernel⟩,
    ⟨sets std ([(RGN_LPORT.MOD_PRESENT,32,1),(RGN_LPORT.MOD_STATE,32,4)] ++ []), 0, _, _,
      (lanesOf 32 ((sets std ([(RGN_LPORT.MOD_PRESENT,32,1),(RGN_LPORT.MOD_STATE,32,4)] ++ [])).get RGN_HPORT.SPEED 32)).length, by decide +kernel, rfl, rfl, by decide +kernel⟩,
    ⟨sets std ([(RGN_LPORT.MOD_PRESENT,32,1),(RGN_LPORT.MOD_STATE,32,3)] ++ []), 0, _, _, 9, by decide +kernel, rfl, rfl,
      by decide +kernel⟩,
    ⟨{ sets std ([(RGN_LPORT.MOD_PRESENT,32,1),(RGN_LPORT.MOD_STATE,32,4)] ++ []) with mono := 10 * sec, ln := { std.ln with modSince := [(0,1)] } }, 0, _, _, by decide +kernel, rfl, rfl, by decide +kernel⟩,
    ⟨sets std ([(RGN_LPORT.MOD_PRESENT,32,1),(RGN_LPORT.MOD_STATE,32,4)] ++ []), 0, _, _, by decide +kernel, rfl, rfl,
      by decide +kernel⟩,
    ⟨{ sets std ([(RGN_LPORT.MOD_PRESENT,32,1),(RGN_LPORT.MOD_STATE,32,5)] ++ []) with ln := { std.ln with modI2c := [(0,0)] } }, 0, _, _, true, by decide +kernel, rfl, rfl, by decide +kernel⟩,
    ⟨sets std ([(RGN_LPORT.MOD_PRESENT,32,1),(RGN_LPORT.MOD_STATE,32,0)] ++ []), 0, _, _, false, by decide +kernel, rfl,
      rfl, by decide +kernel⟩,
    ⟨sets std ([(RGN_LPORT.MOD_PRESENT,32,1),(RGN_LPORT.MOD_STATE,32,5)] ++ [(RGN_HPORT.EN,32,1),(RGN_HPORT.SPEED,32,1)]),
      0, _, _, 0, by decide +kernel, rfl, rfl, by decide +kernel⟩⟩

theorem witness_ModuleStatesAndAccess_ModuleAccess :
    (∃ (s : State) (p : Port) (i : Fin 64) (v : Word), s.mayWrite p.val true (reg_OFC_MOD_ALLOW.offset i.val 8)) ∧
    (∃ (s : State) (k : Fin 16) (temp : BitVec 16) (vcc : BitVec 16) (flags : List Octet) (bias : List (BitVec 16)),
      s.modState k.val = mREADY) ∧
    (∃ (s : State) (k : Fin 16) (temp : BitVec 16) (vcc : BitVec 16) (flags : List Octet) (bias : List (BitVec 16)),
      s.modState k.val ≠ mREADY) ∧
    (∃ (s : State) (p : Port) (r : Region) (v : Word) (slot : Nat) (bad : Bool),
      s.admits p.val 0 false true (reg_RGN_MODACC.offset r.val 0) = true ∧ (slot = 4 * r.val + v.toNat % 4) ∧
      (bad = (s.modState slot == mABSENT || (bit v.toNat 2 && s.on RGN_HPORT.EN (32 + slot)))) ∧
      s.get RGN_MODACC_STATUS.V r.val ≠ 1) ∧
    (∃ (s : State) (p : Port) (r : Region) (v : Word) (slot : Nat) (bad : Bool),
      s.admits p.val 0 false true (reg_RGN_MODACC.offset r.val 0) = true ∧ (slot = 4 * r.val + v.toNat % 4) ∧
      (bad = (s.modState slot == mABSENT || (bit v.toNat 2 && s.on RGN_HPORT.EN (32 + slot)))) ∧
      s.get RGN_MODACC_STATUS.V r.val = 1) ∧
    (∃ (s : State) (r : Region) (ack : Bool) (data : List Octet) (j : Nat) (n : Nat), j = Tab.get 0 s.ln.modJob r.val ∧
      (n = (j - 1) / 8 % 8 + 1) ∧ j ≠ 0) ∧
    (∃ (s : State) (r : Region) (ack : Bool) (data : List Octet) (j : Nat) (n : Nat), j = Tab.get 0 s.ln.modJob r.val ∧
      (n = (j - 1) / 8 % 8 + 1) ∧ j = 0) :=
  ⟨⟨std, 0, 63, 0x1ffff, by decide +kernel⟩,
    ⟨sets std ([(RGN_LPORT.MOD_PRESENT,32,1),(RGN_LPORT.MOD_STATE,32,5)] ++ []), 0, 5, 6, [], [], by decide +kernel⟩,
    ⟨std, 0, 5, 6, [], [], by decide +kernel⟩,
    ⟨sets std ([(RGN_LPORT.MOD_PRESENT,32,1),(RGN_LPORT.MOD_STATE,32,5)] ++ []), 0, 0, 0x0, _, _, by decide +kernel, rfl,
      rfl, by decide +kernel⟩,
    ⟨sets std [(RGN_MODACC_STATUS.V,0,1)], 0, 0, 0, _, _, by decide +kernel, rfl, rfl, by decide +kernel⟩,
    ⟨{ sets std [(RGN_MODACC_DATA.V,0,0x01020304)] with ln := { std.ln with modJob := [(0,1)] } }, 0, true, [1,2,3], _, _,
      rfl, rfl, by decide +kernel⟩,
    ⟨std, 0, true, [1,2,3], _, _, rfl, rfl, by decide +kernel⟩⟩

theorem witness_MemoryFaultsAndRegions_MemoryFaults :
    (∃ (s : State) (run : Bool) (o : SramOwner) (mac : Nat) (row : Nat), s.calm = true ∧ s.mode ≠ 0 ∧
      (run = (s.mode != mBOOT && s.mode != mLOCKDOWN && s.md.trans.isNone))) ∧
    (∃ (s : State) (run : Bool) (n : Nat), s.calm = true ∧ s.mode ≠ 0 ∧
      (run = (s.mode != mBOOT && s.mode != mLOCKDOWN && s.md.trans.isNone))) ∧
    (∃ (s : State) (run : Bool) (o : SramOwner) (res : RowResult) (mac : Nat) (row : Nat) (kept : Bool) (spare : Bool),
      s.calm = true ∧ s.mode ≠ 0 ∧ (run = (s.mode != mBOOT && s.mode != mLOCKDOWN && s.md.trans.isNone)) ∧
      (s.fl.rowTests.find? (fun x => x.1 == o) = some (o, mac, row)) ∧
      (kept = (res == .kept && decide ((s.fl.rowTrans.filter (fun x => x.1 == mac && x.2.1 == row && decide (s.mono < x.2.2 + 10 * sec))).length < 4))) ∧ (spare = (!kept && (res == .spared || (res == .kept && decide (Tab.get 0 s.fl.rowUsed mac < 2)))))) ∧
    (∃ (s : State) (run : Bool) (o : SramOwner) (res : RowResult), s.calm = true ∧ s.mode ≠ 0 ∧
      (run = (s.mode != mBOOT && s.mode != mLOCKDOWN && s.md.trans.isNone)) ∧
      (s.fl.rowTests.find? (fun x => x.1 == o) = none)) :=
  ⟨⟨{ sets std [(GLB_REGION_STATUS.RGN0,0,1),(GLB_REGION_STATUS.RGN1,0,1),(GLB_REGION_STATUS.RGN2,0,1),(GLB_REGION_STATUS.RGN3,0,1),(SAT_TX.STATE,5,2),(KST_SLOT.STATE,5,1),(GAU_SCH.VALID,7,1),(GAU_SCH.DERIVE_ENTRY,7,1023),(GAU_ENT.ENABLE,1023,1)] with ke := { std.ke with saKey := [(5,[1])] } }, _, SramOwner.chip, 3, 4, by decide +kernel, by decide +kernel, rfl⟩,
    ⟨std, _, 5, by decide +kernel, by decide +kernel, rfl⟩,
    ⟨{ { sets std [(GLB_REGION_STATUS.RGN0,0,1),(GLB_REGION_STATUS.RGN1,0,1),(GLB_REGION_STATUS.RGN2,0,1),(GLB_REGION_STATUS.RGN3,0,1),(SAT_TX.STATE,5,2),(KST_SLOT.STATE,5,1),(GAU_SCH.VALID,7,1),(GAU_SCH.DERIVE_ENTRY,7,1023),(GAU_ENT.ENABLE,1023,1)] with ke := { std.ke with saKey := [(5,[1])] } } with mono := 100 * sec, fl := { std.fl with rowTests := [(.shadowed,9,9),(SramOwner.chip,3,4)], rowTrans := [], rowUsed := [(3,0)] } }, _, SramOwner.chip, RowResult.kept, 3, 4, _, _, by decide +kernel, by decide +kernel, rfl, by decide +kernel, rfl, rfl⟩,
    ⟨std, _, SramOwner.chip, .kept, by decide +kernel, by decide +kernel, rfl, by decide +kernel⟩⟩

theorem witness_MemoryFaultsAndRegions_MemoryChannels :
    (∃ (s : State) (c : Fin 32), s.calm = true ∧ s.get MEM_CH.STATE c.val = 2) ∧
    (∃ (s : State) (c : Fin 32), s.calm = true ∧ s.get MEM_CH.STATE c.val ≠ 2) ∧
    (∃ (s : State) (c : Fin 32) (id : ChanId) (ok : Bool), s.calm = true ∧
      (ok = (id.ok && s.get MEM_CH.MR5 c.val == id.mr5.toNat && s.get MEM_CH.MR6 c.val == id.mr6.toNat && s.get MEM_CH.MR8 c.val == id.mr8.toNat && decide ((recent s (10 * sec) (Tab.get [] s.fl.chanTrans c.val)).length < 4))) ∧ s.get MEM_CH.STATE c.val = 3) ∧
    (∃ (s : State) (c : Fin 32) (id : ChanId) (ok : Bool), s.calm = true ∧
      (ok = (id.ok && s.get MEM_CH.MR5 c.val == id.mr5.toNat && s.get MEM_CH.MR6 c.val == id.mr6.toNat && s.get MEM_CH.MR8 c.val == id.mr8.toNat && decide ((recent s (10 * sec) (Tab.get [] s.fl.chanTrans c.val)).length < 4))) ∧ s.get MEM_CH.STATE c.val ≠ 3) ∧
    (∃ (s : State), s.calm = true) :=
  ⟨⟨sets std [(MEM_CH.STATE,31,2)], 31, by decide +kernel⟩,
    ⟨sets std [(MEM_CH.STATE,31,4)], 31, by decide +kernel⟩,
    ⟨sets std [(MEM_CH.STATE,0,3)], 0, ⟨true,0,0,0⟩, _, by decide +kernel, rfl, by decide +kernel⟩,
    ⟨std, 0, ⟨true,0,0,0⟩, _, by decide +kernel, rfl, by decide +kernel⟩,
    ⟨sets std [(MEM_CH.STATE,0,3),(MEM_CH.STATE,31,2)], by decide +kernel⟩⟩

theorem witness_MemoryFaultsAndRegions_RegionRestarts :
    (∃ (s : State) (r : Region) (auto : Bool),
      (auto = (s.on FLT_CFG.AUTO_RESTART 0 && !s.on FLT_RGN_INFO.AUTO_BLOCKED r.val && decide (Tab.get 0 s.fl.restart r.val ≤ s.mono))) ∧ ((s.fenced r.val && !s.restarting r.val) = true) ∧ auto = true) ∧
    (∃ (s : State) (r : Region) (auto : Bool),
      (auto = (s.on FLT_CFG.AUTO_RESTART 0 && !s.on FLT_RGN_INFO.AUTO_BLOCKED r.val && decide (Tab.get 0 s.fl.restart r.val ≤ s.mono))) ∧ ((s.fenced r.val && !s.restarting r.val) = true) ∧ auto = false) ∧
    (∃ (s : State) (r : Region) (auto : Bool) (p : Port),
      (auto = (s.on FLT_CFG.AUTO_RESTART 0 && !s.on FLT_RGN_INFO.AUTO_BLOCKED r.val && decide (Tab.get 0 s.fl.restart r.val ≤ s.mono))) ∧ ((s.fenced r.val && !s.restarting r.val) = true) ∧ s.admits p.val 0 false true reg_FLT_RGN_CMD.base = true) ∧
    (∃ (s : State) (r : Region) (auto : Bool),
      (auto = (s.on FLT_CFG.AUTO_RESTART 0 && !s.on FLT_RGN_INFO.AUTO_BLOCKED r.val && decide (Tab.get 0 s.fl.restart r.val ≤ s.mono))) ∧ ((s.fenced r.val && !s.restarting r.val) = false)) ∧
    (∃ (s : State) (r : Region) (auto : Bool) (p : Port),
      (auto = (s.on FLT_CFG.AUTO_RESTART 0 && !s.on FLT_RGN_INFO.AUTO_BLOCKED r.val && decide (Tab.get 0 s.fl.restart r.val ≤ s.mono))) ∧ ((s.fenced r.val && !s.restarting r.val) = false) ∧ s.admits p.val 0 false true reg_FLT_RGN_CMD.base = true) ∧
    (∃ (s : State) (r : Region) (rows : Nat) (rowsOk : Bool) (pe : List Bool) (pi : List Bool) (ok : Bool),
      s.calm = true ∧ (ok = (rowsOk && decide (7 ≤ passing pe) && decide (7 ≤ passing pi))) ∧ s.restarting r.val = true ∧
      ok = true) ∧
    (∃ (s : State) (r : Region) (rows : Nat) (rowsOk : Bool) (pe : List Bool) (pi : List Bool) (ok : Bool),
      s.calm = true ∧ (ok = (rowsOk && decide (7 ≤ passing pe) && decide (7 ≤ passing pi))) ∧ s.restarting r.val = true ∧
      ok = false) ∧
    (∃ (s : State) (r : Region) (rows : Nat) (rowsOk : Bool) (pe : List Bool) (pi : List Bool) (ok : Bool),
      s.calm = true ∧ (ok = (rowsOk && decide (7 ≤ passing pe) && decide (7 ≤ passing pi))) ∧ s.restarting r.val = false) :=
  ⟨⟨sets std [(GLB_REGION_STATUS.RGN0,0,3),(FLT_CFG.AUTO_RESTART,0,1),(RGN_HPCNT.RX_FRAMES,7,9)], 0, _, rfl,
    by decide +kernel⟩,
    ⟨sets std [(GLB_REGION_STATUS.RGN0,0,3),(FLT_CFG.AUTO_RESTART,0,0)], 0, _, rfl, by decide +kernel⟩,
    ⟨sets std [(GLB_REGION_STATUS.RGN0,0,3),(RGN_HPCLS.NO_RULE,0,9)], 0, _, 0, rfl, by decide +kernel⟩,
    ⟨std, 0, _, rfl, by decide +kernel⟩,
    ⟨std, 0, _, 0, rfl, by decide +kernel⟩,
    ⟨sets std [(GLB_REGION_STATUS.RGN0,0,3),(FLT_RGN_INFO.RESTARTING,0,1)], 0, 2, true, List.replicate 9 true,
      List.replicate 9 true, _, by decide +kernel, rfl, by decide +kernel, rfl⟩,
    ⟨sets std [(GLB_REGION_STATUS.RGN0,0,3),(FLT_RGN_INFO.RESTARTING,0,1)], 0, 2, false, List.replicate 9 true,
      List.replicate 9 true, _, by decide +kernel, rfl, by decide +kernel, rfl⟩,
    ⟨std, 0, 2, true, List.replicate 9 true, List.replicate 9 true, _, by decide +kernel, rfl, by decide +kernel⟩⟩

theorem witness_FeedSwitches :
    (∃ (s : State) (g : Fin 7) (f : Feed) (mv : Nat), s.mode ≠ 0 ∧ (25 < mv ∧ s.feedGood g.val f = true)) ∧
    (∃ (s : State) (g : Fin 7) (f : Feed) (mv : Nat), s.mode ≠ 0 ∧ (¬(25 < mv ∧ s.feedGood g.val f = true))) ∧
    (∃ (s : State) (f : Feed), s.mode ≠ 0) ∧
    (∃ (s : State) (g : Fin 7) (f : Feed), s.mode ≠ 0) ∧
    (∃ (s : State) (p : Port) (g : Fin 8) (all : List Nat), s.admits p.val 0 false true reg_FLT_BRACE_CMD.base = true ∧
      all = (if g.val = 7 then upto 7 else [g.val])) :=
  ⟨⟨sets std [(FLT_BRACE_STATUS.A_GOOD,6,1),(FLT_BRACE_STATUS.B_GOOD,6,1),(FLT_BRACE_STATUS.ACTIVE,6,0)], 6, .a, 26,
    by decide +kernel⟩,
    ⟨sets std [(FLT_BRACE_STATUS.A_GOOD,6,1),(FLT_BRACE_STATUS.B_GOOD,6,1),(FLT_BRACE_STATUS.ACTIVE,6,0)], 6, .a, 25,
      by decide +kernel⟩,
    ⟨sets std [(FLT_BRACE_STATUS.A_GOOD,0,1),(FLT_BRACE_STATUS.B_GOOD,0,1),(FLT_BRACE_STATUS.ACTIVE,0,0),(FLT_BRACE_STATUS.A_GOOD,1,1),(FLT_BRACE_STATUS.B_GOOD,1,1),(FLT_BRACE_STATUS.ACTIVE,1,1),(FLT_BRACE_STATUS.A_GOOD,2,1),(FLT_BRACE_STATUS.B_GOOD,2,1),(FLT_BRACE_STATUS.ACTIVE,2,0),(FLT_BRACE_STATUS.A_GOOD,3,1),(FLT_BRACE_STATUS.B_GOOD,3,1),(FLT_BRACE_STATUS.ACTIVE,3,1),(FLT_BRACE_STATUS.A_GOOD,4,1),(FLT_BRACE_STATUS.B_GOOD,4,1),(FLT_BRACE_STATUS.ACTIVE,4,0),(FLT_BRACE_STATUS.A_GOOD,5,1),(FLT_BRACE_STATUS.B_GOOD,5,1),(FLT_BRACE_STATUS.ACTIVE,5,1),(FLT_BRACE_STATUS.A_GOOD,6,1),(FLT_BRACE_STATUS.B_GOOD,6,1),(FLT_BRACE_STATUS.ACTIVE,6,0)], .a, by decide +kernel⟩,
    ⟨std, 0, .b, by decide +kernel⟩,
    ⟨sets std [(FLT_BRACE_STATUS.A_GOOD,0,1),(FLT_BRACE_STATUS.B_GOOD,0,1),(FLT_BRACE_STATUS.ACTIVE,0,0),(FLT_BRACE_STATUS.A_GOOD,1,1),(FLT_BRACE_STATUS.B_GOOD,1,1),(FLT_BRACE_STATUS.ACTIVE,1,1),(FLT_BRACE_STATUS.A_GOOD,2,1),(FLT_BRACE_STATUS.B_GOOD,2,1),(FLT_BRACE_STATUS.ACTIVE,2,0),(FLT_BRACE_STATUS.A_GOOD,3,1),(FLT_BRACE_STATUS.B_GOOD,3,1),(FLT_BRACE_STATUS.ACTIVE,3,1),(FLT_BRACE_STATUS.A_GOOD,4,1),(FLT_BRACE_STATUS.B_GOOD,4,1),(FLT_BRACE_STATUS.ACTIVE,4,0),(FLT_BRACE_STATUS.A_GOOD,5,1),(FLT_BRACE_STATUS.B_GOOD,5,1),(FLT_BRACE_STATUS.ACTIVE,5,1),(FLT_BRACE_STATUS.A_GOOD,6,1),(FLT_BRACE_STATUS.B_GOOD,6,1),(FLT_BRACE_STATUS.ACTIVE,6,0)], 0, 6, _, by decide +kernel, rfl⟩⟩

theorem witness_ClampEventsAndWindows_ClampEvents :
    (∃ (s : State) (x : Supply) (d : Detector) (comp : Bool) (wd : Nat) (i : Nat) (e : TripEvent), ((d = .comparator ∧
      comp = true ∧ wd = 0) ∨ (d = .delayLine wd ∧ comp = false)) ∧ i = supplyIdx x ∧ s.tripArmed x = true ∧
      (comp = true ∨ wd ≠ 0) ∧ Tab.get none s.cl.trips i = some e ∧ s.mono < e.at_ + s.agreeSpan) ∧
    (∃ (s : State) (x : Supply) (d : Detector) (comp : Bool) (wd : Nat) (i : Nat), ((d = .comparator ∧ comp = true ∧
      wd = 0) ∨ (d = .delayLine wd ∧ comp = false)) ∧ i = supplyIdx x ∧ s.tripArmed x = true ∧ (comp = true ∨ wd ≠ 0) ∧
      ((Tab.get none s.cl.trips i).all (fun e => decide (e.at_ + s.agreeSpan ≤ s.mono)) = true) ∧
      (Tab.get 0 s.cl.braceAt i = 0 ∨ Tab.get 0 s.cl.braceAt i + 100 * ns ≤ s.mono)) ∧
    (∃ (s : State) (x : Supply) (d : Detector) (comp : Bool) (wd : Nat) (i : Nat), ((d = .comparator ∧ comp = true ∧
      wd = 0) ∨ (d = .delayLine wd ∧ comp = false)) ∧ i = supplyIdx x ∧ s.tripArmed x = true ∧ (comp = true ∨ wd ≠ 0) ∧
      Tab.get none s.cl.trips i = none ∧ Tab.get 0 s.cl.braceAt i ≠ 0 ∧ s.mono < Tab.get 0 s.cl.braceAt i + 100 * ns) ∧
    (∃ (s : State) (x : Supply) (d : Detector) (comp : Bool) (wd : Nat) (i : Nat), ((d = .comparator ∧ comp = true ∧
      wd = 0) ∨ (d = .delayLine wd ∧ comp = false)) ∧ i = supplyIdx x ∧ (s.tripArmed x = false ∨ (comp = false ∧ wd = 0))) ∧
    (∃ (s : State) (x : Supply) (e : TripEvent) (bad : Bool), Tab.get none s.cl.trips (supplyIdx x) = some e ∧
      (bad = ((e.comparator && e.width == 0) || (!e.comparator && decide (8 ≤ e.width)))) ∧ e.at_ + s.agreeSpan ≤ s.mono ∧
      (s.cl.coalesce.all (fun w => decide (e.at_ + s.agreeSpan ≤ w.ends)) = true)) ∧
    (∃ (s : State) (x : Supply) (e : TripEvent) (bad : Bool), Tab.get none s.cl.trips (supplyIdx x) = some e ∧
      (bad = ((e.comparator && e.width == 0) || (!e.comparator && decide (8 ≤ e.width)))) ∧ e.at_ + s.agreeSpan ≤ s.mono) ∧
    (∃ (s : State) (x : Supply) (e : TripEvent) (bad : Bool), Tab.get none s.cl.trips (supplyIdx x) = some e ∧
      (bad = ((e.comparator && e.width == 0) || (!e.comparator && decide (8 ≤ e.width)))) ∧ s.mono < e.at_ + s.agreeSpan) ∧
    (∃ (s : State) (i : Instr) (c : Nat) (n : Nat), ((i, c) ∈ [(Instr.kclkOutOfBand, 3), (.cclkRatioOutOfBand, 4),
      (.tempLimit, 5), (.evin15ClampAssert, 6)]) ∧ ((c = 3 ∨ c = 4) → s.mode ≠ 0) ∧ n = min (s.clmCount c + 1) 255 ∧
      ((if c = 6 then s.on OFC_CLM_CTL.EVIN15_ROUTE 0 else !Tab.get false s.cl.armedOff c) = true)) ∧
    (∃ (s : State) (i : Instr) (c : Nat) (n : Nat), ((i, c) ∈ [(Instr.kclkOutOfBand, 3), (.cclkRatioOutOfBand, 4),
      (.tempLimit, 5), (.evin15ClampAssert, 6)]) ∧ ((c = 3 ∨ c = 4) → s.mode ≠ 0) ∧ n = min (s.clmCount c + 1) 255 ∧
      ((if c = 6 then s.on OFC_CLM_CTL.EVIN15_ROUTE 0 else !Tab.get false s.cl.armedOff c) = false)) :=
  ⟨⟨{ sets std [(OFC_CLM_CLASS.K1,0,2),(OFC_CLM_CLASS.K1,1,2),(OFC_CLM_CLASS.K1,2,2),(OFC_CLM_CLASS.K1,3,2),(OFC_CLM_CLASS.K1,4,2),(OFC_CLM_CLASS.K1,5,2),(OFC_CLM_CLASS.K1,6,2),(OFC_CLM_CLASS.K1,7,2),(OFC_CLM_CLASS.K1,8,2),(FLT_BRACE_STATUS.A_GOOD,0,1)] with mono := 5, cl := { std.cl with trips := [(14,some ⟨0,true,0⟩),(0,some ⟨0,true,0⟩)] } }, .vbat, .comparator, true, 0, _, ⟨0,true,0⟩, by decide +kernel, rfl, by decide +kernel⟩,
    ⟨sets std [(OFC_CLM_CLASS.K1,0,2),(OFC_CLM_CLASS.K1,1,2),(OFC_CLM_CLASS.K1,2,2),(OFC_CLM_CLASS.K1,3,2),(OFC_CLM_CLASS.K1,4,2),(OFC_CLM_CLASS.K1,5,2),(OFC_CLM_CLASS.K1,6,2),(OFC_CLM_CLASS.K1,7,2),(OFC_CLM_CLASS.K1,8,2)], .vbat, .comparator, true, 0, _, by decide +kernel, rfl, by decide +kernel⟩,
    ⟨{ sets std [(OFC_CLM_CLASS.K1,0,2),(OFC_CLM_CLASS.K1,1,2),(OFC_CLM_CLASS.K1,2,2),(OFC_CLM_CLASS.K1,3,2),(OFC_CLM_CLASS.K1,4,2),(OFC_CLM_CLASS.K1,5,2),(OFC_CLM_CLASS.K1,6,2),(OFC_CLM_CLASS.K1,7,2),(OFC_CLM_CLASS.K1,8,2),(FLT_BRACE_STATUS.A_GOOD,0,1)] with mono := 50, cl := { std.cl with braceAt := [(0,2)] } }, .feed 0 .a, .comparator, true, 0, _, by decide +kernel, rfl, by decide +kernel⟩,
    ⟨std, .feed 0 .a, .comparator, true, 0, _, by decide +kernel, rfl, by decide +kernel⟩,
    ⟨{ sets std [(OFC_CLM_CLASS.K1,0,2),(OFC_CLM_CLASS.K1,1,2),(OFC_CLM_CLASS.K1,2,2),(OFC_CLM_CLASS.K1,3,2),(OFC_CLM_CLASS.K1,4,2),(OFC_CLM_CLASS.K1,5,2),(OFC_CLM_CLASS.K1,6,2),(OFC_CLM_CLASS.K1,7,2),(OFC_CLM_CLASS.K1,8,2),(FLT_BRACE_STATUS.A_GOOD,0,1)] with mono := 5*sec, cl := { std.cl with trips := [(14,some ⟨0,true,0⟩),(0,some ⟨0,false,9⟩)] } }, .vbat, ⟨0,true,0⟩, _, by decide +kernel, rfl, by decide +kernel⟩,
    ⟨{ sets std [(OFC_CLM_CLASS.K1,0,1),(OFC_CLM_CLASS.MODE,0,1),(OFC_CLM_CLASS.K1,1,1),(OFC_CLM_CLASS.MODE,1,2),(OFC_CLM_CLASS.K1,2,1),(OFC_CLM_CLASS.MODE,2,1),(OFC_CLM_CLASS.K1,3,1),(OFC_CLM_CLASS.MODE,3,2),(OFC_CLM_CLASS.K1,4,1),(OFC_CLM_CLASS.MODE,4,1),(OFC_CLM_CLASS.K1,5,1),(OFC_CLM_CLASS.MODE,5,2),(OFC_CLM_CLASS.K1,6,1),(OFC_CLM_CLASS.MODE,6,1),(OFC_CLM_CLASS.K1,7,1),(OFC_CLM_CLASS.MODE,7,2),(OFC_CLM_CLASS.K1,8,1),(OFC_CLM_CLASS.MODE,8,1),(FLT_BRACE_STATUS.A_GOOD,0,1)] with mono := 5*sec, cl := { std.cl with trips := [(14,some ⟨0,true,0⟩),(0,some ⟨0,false,9⟩)], coalesce := some ⟨9,0,0,1,false,0,5⟩ } }, .vbat, ⟨0,true,0⟩, _, by decide +kernel, rfl, by decide +kernel⟩,
    ⟨{ sets std [(OFC_CLM_CLASS.K1,0,2),(OFC_CLM_CLASS.K1,1,2),(OFC_CLM_CLASS.K1,2,2),(OFC_CLM_CLASS.K1,3,2),(OFC_CLM_CLASS.K1,4,2),(OFC_CLM_CLASS.K1,5,2),(OFC_CLM_CLASS.K1,6,2),(OFC_CLM_CLASS.K1,7,2),(OFC_CLM_CLASS.K1,8,2),(FLT_BRACE_STATUS.A_GOOD,0,1)] with mono := 5, cl := { std.cl with trips := [(14,some ⟨0,true,0⟩),(0,some ⟨0,false,9⟩)] } }, .vbat, ⟨0,true,0⟩, _, by decide +kernel, rfl, by decide +kernel⟩,
    ⟨sets std [(OFC_CLM_CLASS.K1,0,2),(OFC_CLM_CLASS.K1,1,2),(OFC_CLM_CLASS.K1,2,2),(OFC_CLM_CLASS.K1,3,2),(OFC_CLM_CLASS.K1,4,2),(OFC_CLM_CLASS.K1,5,2),(OFC_CLM_CLASS.K1,6,2),(OFC_CLM_CLASS.K1,7,2),(OFC_CLM_CLASS.K1,8,2),(OFC_CLM_CTL.EVIN15_ROUTE,0,1)], .kclkOutOfBand, 3, _, by decide +kernel, by decide +kernel, rfl, by decide +kernel⟩,
    ⟨{ std with cl := { std.cl with armedOff := [(3,true)] } }, .kclkOutOfBand, 3, _, by decide +kernel,
      by decide +kernel, rfl, by decide +kernel⟩⟩

theorem witness_ClampEventsAndWindows_ClampWindowsAndStatus :
    (∃ (s : State) (c : Fin 9), (Tab.get none s.cl.clmWin c.val).all (fun w => decide (w.ends ≤ s.mono)) = true) ∧
    (∃ (s : State) (c : Fin 9), (Tab.get none s.cl.clmWin c.val).any (fun w => decide (s.mono < w.ends)) = true) ∧
    (∃ (s : State), s.cl.coalesce.all (fun x => decide (x.ends ≤ s.mono)) = true) ∧
    (∃ (s : State), s.cl.coalesce.any (fun x => decide (s.mono < x.ends)) = true) ∧
    (∃ (s : State), s.cl.eraseDue = true) ∧
    (∃ (s : State), s.cl.eraseDue = false) ∧
    (∃ (s : State) (p : Port) (v : Word) (n : State) (ok : Bool), s.admits p.val 0 true true reg_OFC_CLM_CTL.base = true ∧
      n = ((s.granted p.val true).writeWord reg_OFC_CLM_CTL 0 0 (putBits v.toNat 2 1 1)).1 ∧
      (ok = (!s.on OFC_CLM_CTL.LOCK 0 || (decide (s.get OFC_CLM_CTL.EVIN15_ROUTE 0 ≤ n.get OFC_CLM_CTL.EVIN15_ROUTE 0) && n.get OFC_CLM_CTL.EVIN15_LOW 0 == s.get OFC_CLM_CTL.EVIN15_LOW 0 && decide (signed 8 (s.get OFC_CLM_CTL.TEMP_LO 0) ≤ signed 8 (n.get OFC_CLM_CTL.TEMP_LO 0)) && decide (n.get OFC_CLM_CTL.TEMP_HI 0 ≤ s.get OFC_CLM_CTL.TEMP_HI 0)))) ∧ ok = true) ∧
    (∃ (s : State) (p : Port) (v : Word) (n : State) (ok : Bool), s.admits p.val 0 true true reg_OFC_CLM_CTL.base = true ∧
      n = ((s.granted p.val true).writeWord reg_OFC_CLM_CTL 0 0 (putBits v.toNat 2 1 1)).1 ∧
      (ok = (!s.on OFC_CLM_CTL.LOCK 0 || (decide (s.get OFC_CLM_CTL.EVIN15_ROUTE 0 ≤ n.get OFC_CLM_CTL.EVIN15_ROUTE 0) && n.get OFC_CLM_CTL.EVIN15_LOW 0 == s.get OFC_CLM_CTL.EVIN15_LOW 0 && decide (signed 8 (s.get OFC_CLM_CTL.TEMP_LO 0) ≤ signed 8 (n.get OFC_CLM_CTL.TEMP_LO 0)) && decide (n.get OFC_CLM_CTL.TEMP_HI 0 ≤ s.get OFC_CLM_CTL.TEMP_HI 0)))) ∧ ok = false) ∧
    (∃ (s : State) (mv : Nat), mv < 2300 ∧ Tab.get false s.cl.armedOff 9 = false) ∧
    (∃ (s : State) (mv : Nat), ¬(mv < 2300 ∧ Tab.get false s.cl.armedOff 9 = false)) ∧
    (∃ (s : State) (above : Bool), s.mode ≠ 0) :=
  ⟨⟨{ std with mono := 10, cl := { std.cl with clmWin := [(8,some ⟨1,10⟩)] } }, 8, by decide +kernel⟩,
    ⟨{ std with mono := 10, cl := { std.cl with clmWin := [(8,some ⟨1,11⟩)] } }, 8, by decide +kernel⟩,
    ⟨{ sets std [] with mono := 10, cl := { std.cl with coalesce := some ⟨9,0,0,0,false,0,10⟩ } }, by decide +kernel⟩,
    ⟨{ sets std [] with mono := 10, cl := { std.cl with coalesce := some ⟨9,0,0,0,false,0,11⟩ } }, by decide +kernel⟩,
    ⟨{ std with cl := { std.cl with eraseDue := true } }, by decide +kernel⟩,
    ⟨std, by decide +kernel⟩,
    ⟨std, 0, 3, _, _, by decide +kernel, rfl, rfl, by decide +kernel⟩,
    ⟨sets std [(OFC_CLM_CTL.LOCK,0,1),(OFC_CLM_CTL.EVIN15_ROUTE,0,1)], 0, 0, _, _, by decide +kernel, rfl, rfl,
      by decide +kernel⟩,
    ⟨{ sets std [(KST_SLOT.PERSISTED,255,1)] with ke := { std.ke with kram := [] } }, 2299, by decide +kernel⟩,
    ⟨std, 2300, by decide +kernel⟩,
    ⟨std, true, by decide +kernel⟩⟩

theorem witness_PortLinksHintsAndEventInputs_PortLinks :
    (∃ (s : State) (p : Port) (st : LinkState) (n : Nat) (bm : Bool) (me : Bool) (fm : Bool), s.calm = true ∧ ((st = .l0 ∧
      n = 1) ∨ (st = .l1 ∧ n = 2)) ∧ ((s.linksTrain && (n == 1 || s.get ICU_PORT.LINK p.val != 0)) = true)) ∧
    (∃ (s : State) (p : Port) (st : LinkState) (n : Nat) (bm : Bool) (me : Bool) (fm : Bool), s.calm = true ∧ ((st = .l0 ∧
      n = 1) ∨ (st = .l1 ∧ n = 2)) ∧ ((s.linksTrain && (n == 1 || s.get ICU_PORT.LINK p.val != 0)) = false)) ∧
    (∃ (s : State) (p : Port) (bm : Bool) (me : Bool) (fm : Bool), s.calm = true ∧ s.linkUp p.val = true) ∧
    (∃ (s : State) (p : Port) (bm : Bool) (me : Bool) (fm : Bool), s.calm = true ∧ s.linkUp p.val = false) ∧
    (∃ (s : State) (p : Port) (bm : Bool) (me : Bool) (fm : Bool) (c : Instr), s.calm = true ∧
      (c = .portLoss p ∨ (c = .pcieLinkStateChange p .down bm me fm ∧ s.linkUp p.val = true))) ∧
    (∃ (s : State) (p : Port), s.calm = true ∧ s.get ICU_PORT.LINK p.val = 3) ∧
    (∃ (s : State) (p : Port), s.calm = true ∧ s.get ICU_PORT.LINK p.val ≠ 3) :=
  ⟨⟨boot 2, 0, .l0, 1, true, true, false, by decide +kernel⟩,
    ⟨boot 1, 0, .l0, 1, true, true, false, by decide +kernel⟩,
    ⟨(fun (s : State) => { s with ic := { s.ic with busMaster := [(0,true),(1,true)], msixEnable := [(0,true),(1,true)] } }) std, 1, true, true, false, by decide +kernel⟩,
    ⟨sets std [(ICU_PORT.LINK,1,0)], 1, true, true, false, by decide +kernel⟩,
    ⟨{ sets std [(OFC_SESSION.STATE,1,2),(GLB_SEM.OWNED,31,1),(GLB_SEM.OWNER,31,1),(HQ_PUNT.EN,127,1),(HQ_PUNT.PORT,127,1),(HQ_PUNT.EN,5,1),(HQ_PUNT.PORT,5,1)] with ke := { std.ke with kstQueue := [⟨1,1,20,0,true,false⟩] }, ch := { std.ch with chsQueue := [⟨1,.operator,5,false⟩], chsJob := some (.cmd ⟨1,.officer,1,false⟩ none true (.result [1] true)) } }, 1, true, true, false, .portLoss (1 : Port), by decide +kernel, Or.inl rfl⟩,
    ⟨sets std [(ICU_PORT.LINK,1,3)], 1, by decide +kernel⟩,
    ⟨std, 0, by decide +kernel⟩⟩

theorem witness_PortLinksHintsAndEventInputs_HintsAndEventInputs :
    (∃ (s : State) (p : Port), s.admits p.val 0 false true (reg_ICU_PORT.offset p.val 0) = true) ∧
    (∃ (s : State) (p : Port), s.ready p.val = true ∧ (s.asleep p.val = true ∨ s.isLost p.val = true)) ∧
    (∃ (s : State) (p : Port), ¬(s.ready p.val = true ∧ (s.asleep p.val = true ∨ s.isLost p.val = true))) ∧
    (∃ (s : State) (i : Fin 16) (level : Bool) (a : Bool), (a = (level != s.on ICU_EVIN.ACTIVE_LOW i.val)) ∧ (s.mode ≠ 0 ∧
      a ≠ s.on ICU_EVIN.LEVEL i.val)) ∧
    (∃ (s : State) (i : Fin 16) (level : Bool) (a : Bool), (a = (level != s.on ICU_EVIN.ACTIVE_LOW i.val)) ∧
      (¬(s.mode ≠ 0 ∧ a ≠ s.on ICU_EVIN.LEVEL i.val))) :=
  ⟨⟨std, 0, by decide +kernel⟩,
    ⟨sets ((fun (s : State) => { s with ic := { s.ic with busMaster := [(0,true),(1,true)], msixEnable := [(0,true),(1,true)] } }) { std with ic := { std.ic with icu := [0x20], lost := [] } }) [(ICU_SRC.ROUTE,0x20,1),(ICU_SRC.VEC_MP0,0x20,63),(ICU_PORT.SLEEPING,0,1)], 0, by decide +kernel⟩,
    ⟨std, 0, by decide +kernel⟩,
    ⟨sets { std with now := 5 * sec, mono := 5 * sec } [(ICU_EVIN.EDGE,15,1)], 15, true, _, rfl, by decide +kernel⟩,
    ⟨sets std [(ICU_EVIN.LEVEL,15,1)], 15, true, _, rfl, by decide +kernel⟩⟩

theorem witness_InterruptsAndMessages_InterruptSources :
    (∃ (s : State) (p : Port) (w : Fin 36) (v : Word), s.admits p.val 0 false true (reg_ICU_PEND.offset w.val 0) = true ∧
      s.cl.heldSrcs = []) ∧
    (∃ (s : State) (p : Port) (i : Fin 1152) (v : Word), s.admits p.val 0 false true (reg_ICU_SRC.offset i.val 0) = true ∧
      s.cl.heldSrcs = []) :=
  ⟨⟨{ std with ic := { std.ic with icu := [0x20,0x21,0x440] } }, 0, 1, 1, by decide +kernel⟩,
    ⟨std, 0, 1151, 0x43f3f, by decide +kernel⟩⟩

theorem witness_InterruptsAndMessages_MsixDelivery :
    (∃ (s : State) (p : Port) (vec : Fin 64) (run : Bool), s.cl.heldSrcs = [] ∧
      (run = (Tab.get 0 s.ic.vecTimer (64 * p.val + vec.val) != 0 && !s.vecHeld p.val && s.accum p.val vec.val != 0 && decide (Tab.get 0 s.ic.vecTimer (64 * p.val + vec.val) - 1 + s.get ICU_VEC.TIMER_US (64 * p.val + vec.val) * us ≤ s.mono))) ∧ run = true ∧ s.delivery p.val vec.val = none) ∧
    (∃ (s : State) (p : Port) (vec : Fin 64) (run : Bool), s.cl.heldSrcs = [] ∧
      (run = (Tab.get 0 s.ic.vecTimer (64 * p.val + vec.val) != 0 && !s.vecHeld p.val && s.accum p.val vec.val != 0 && decide (Tab.get 0 s.ic.vecTimer (64 * p.val + vec.val) - 1 + s.get ICU_VEC.TIMER_US (64 * p.val + vec.val) * us ≤ s.mono))) ∧ (run = false ∨ s.delivery p.val vec.val ≠ none)) ∧
    (∃ (s : State) (p : Port) (vec : Fin 64) (d : Delivery) (q : Nat), s.delivery p.val vec.val = some d ∧ d.zlr = none ∧
      s.msixOpen p.val = true ∧
      (((s.waiting p.val vec.val).filter (fun i => !d.srcs.contains i)).findSome? (s.ringPort p.val) = some q)) ∧
    (∃ (s : State) (p : Port) (vec : Fin 64) (d : Delivery), s.delivery p.val vec.val = some d ∧ d.zlr = none ∧
      s.msixOpen p.val = true ∧
      (((s.waiting p.val vec.val).filter (fun i => !d.srcs.contains i)).findSome? (s.ringPort p.val) = none) ∧
      s.msixBlocked p.val vec.val = true) ∧
    (∃ (s : State) (p : Port) (vec : Fin 64) (d : Delivery), s.delivery p.val vec.val = some d ∧ d.zlr = none ∧
      s.msixOpen p.val = true ∧
      (((s.waiting p.val vec.val).filter (fun i => !d.srcs.contains i)).findSome? (s.ringPort p.val) = none) ∧
      s.msixBlocked p.val vec.val = false) ∧
    (∃ (s : State) (p : Port) (vec : Fin 64),
      (s.delivery p.val vec.val).all (fun d => d.zlr.isSome) = true ∨ s.msixOpen p.val = false) ∧
    (∃ (s : State) (p : Port) (vec : Fin 64), s.admits p.val 0 false true (reg_MSIX_ENT.offset vec.val 3) = true) :=
  ⟨⟨sets { (fun (s : State) => { s with ic := { s.ic with busMaster := [(0,true),(1,true)], msixEnable := [(0,true),(1,true)] } }) std with mono := sec, ic := { ((fun (s : State) => { s with ic := { s.ic with busMaster := [(0,true),(1,true)], msixEnable := [(0,true),(1,true)] } }) std).ic with icu := [0x20], vecTimer := [(63,1)] } } [(ICU_SRC.ROUTE,0x20,1),(ICU_SRC.VEC_MP0,0x20,63)], 0, 63, _, by decide +kernel, rfl, by decide +kernel⟩,
    ⟨sets { (fun (s : State) => { s with ic := { s.ic with busMaster := [(0,true),(1,true)], msixEnable := [(0,true),(1,true)] } }) std with mono := sec, ic := { ((fun (s : State) => { s with ic := { s.ic with busMaster := [(0,true),(1,true)], msixEnable := [(0,true),(1,true)] } }) std).ic with icu := [0x20], vecTimer := [(63,1)], deliveries := [⟨0,63,[0x20],none⟩] } } [(ICU_SRC.ROUTE,0x20,1),(ICU_SRC.VEC_MP0,0x20,63)], 0, 63, _, by decide +kernel, rfl, by decide +kernel⟩,
    ⟨sets { std with ic := { ((fun (s : State) => { s with ic := { s.ic with busMaster := [(0,true),(1,true)], msixEnable := [(0,true),(1,true)] } }) std).ic with icu := [0x20,0x1DF], deliveries := [⟨0,63,[0x20],none⟩] } } [(ICU_SRC.ROUTE,0x1DF,1),(ICU_SRC.VEC_MP0,0x1DF,63),(HQ_PUNT.PORT,127,1)], 0, 63, ⟨0,63,[0x20],none⟩, 1, by decide +kernel⟩,
    ⟨sets { std with ic := { ((fun (s : State) => { s with ic := { s.ic with busMaster := [(0,true),(1,true)], msixEnable := [(0,true),(1,true)] } }) std).ic with icu := [0x20], deliveries := [⟨0,63,[0x20],none⟩] } } [(MSIX_ENT.MASK,63,1)], 0, 63, ⟨0,63,[0x20],none⟩, by decide +kernel⟩,
    ⟨sets { std with ic := { ((fun (s : State) => { s with ic := { s.ic with busMaster := [(0,true),(1,true)], msixEnable := [(0,true),(1,true)] } }) std).ic with icu := [0x20], deliveries := [⟨0,63,[0x20],none⟩] } } [(MSIX_ENT.MASK,63,0)], 0, 63, ⟨0,63,[0x20],none⟩, by decide +kernel⟩,
    ⟨std, 0, 63, by decide +kernel⟩,
    ⟨std, 0, 63, by decide +kernel⟩⟩

theorem witness_SessionsAndSemaphores_OfficerSessions :
    (∃ (s : State) (p : Port), s.admits p.val 0 true true reg_OFC_CHAL_GO.base = true ∧ s.session p.val = true) ∧
    (∃ (s : State) (p : Port), s.admits p.val 0 true true reg_OFC_CHAL_GO.base = true ∧ s.session p.val = false ∧
      (s.backoff p.val = true ∨ s.draw 32 = none)) ∧
    (∃ (s : State) (p : Port) (o : List Octet), s.admits p.val 0 true true reg_OFC_CHAL_GO.base = true ∧
      s.session p.val = false ∧ s.backoff p.val = false ∧ ((s.draw 32).map (·.1) = some o)) ∧
    (∃ (s : State) (p : Port), (Tab.get none s.ofc.chal p.val).any (fun c => decide (c.drawn + sec ≤ s.mono)) = true) ∧
    (∃ (s : State) (p : Port), (Tab.get none s.ofc.chal p.val).any (fun c => decide (c.drawn + sec ≤ s.mono)) = false) ∧
    (∃ (s : State) (p : Port) (v : Word) (why : Nat), s.admits p.val 0 true true (reg_OFC_RESP.offset 3 0) = true ∧
      why = (if s.chalOver p.val = true then 4 else if s.get KST_SLOT.STATE 2 ≠ 1 then 3 else if s.get CHS_ENGINE.STATE 0 ≠ 0 then 6 else 0) ∧ s.session p.val = true) ∧
    (∃ (s : State) (p : Port) (v : Word) (why : Nat), s.admits p.val 0 true true (reg_OFC_RESP.offset 3 0) = true ∧
      why = (if s.chalOver p.val = true then 4 else if s.get KST_SLOT.STATE 2 ≠ 1 then 3 else if s.get CHS_ENGINE.STATE 0 ≠ 0 then 6 else 0) ∧ s.session p.val = false ∧ s.checking p.val = true) ∧
    (∃ (s : State) (p : Port) (v : Word) (why : Nat), s.admits p.val 0 true true (reg_OFC_RESP.offset 3 0) = true ∧
      why = (if s.chalOver p.val = true then 4 else if s.get KST_SLOT.STATE 2 ≠ 1 then 3 else if s.get CHS_ENGINE.STATE 0 ≠ 0 then 6 else 0) ∧ s.session p.val = false ∧ s.checking p.val = false ∧ why ≠ 0) ∧
    (∃ (s : State) (p : Port) (v : Word) (why : Nat) (c : Chal),
      s.admits p.val 0 true true (reg_OFC_RESP.offset 3 0) = true ∧
      why = (if s.chalOver p.val = true then 4 else if s.get KST_SLOT.STATE 2 ≠ 1 then 3 else if s.get CHS_ENGINE.STATE 0 ≠ 0 then 6 else 0) ∧ s.session p.val = false ∧ s.checking p.val = false ∧ why = 0 ∧ Tab.get none s.ofc.chal p.val = some c) ∧
    (∃ (s : State) (p : Port) (c : ChkReq) (key : List Octet) (gen : Nat), s.ch.chsJob = some (.check c key gen) ∧
      c.port = p.val ∧ s.keyGone 2 gen = false ∧ cmac key c.msg = c.resp) ∧
    (∃ (s : State) (p : Port) (c : ChkReq) (key : List Octet) (gen : Nat), s.ch.chsJob = some (.check c key gen) ∧
      c.port = p.val ∧ s.keyGone 2 gen = false ∧ cmac key c.msg ≠ c.resp) ∧
    (∃ (s : State) (p : Port) (c : ChkReq) (key : List Octet) (gen : Nat), s.ch.chsJob = some (.check c key gen) ∧
      c.port = p.val ∧ s.keyGone 2 gen = true) ∧
    (∃ (s : State) (p : Port), s.checkPort ≠ some p.val) ∧
    (∃ (s : State) (p : Port), s.admits p.val 0 true true reg_OFC_LOCK.base = true ∧ s.session p.val = true) ∧
    (∃ (s : State) (p : Port), s.admits p.val 0 true true reg_OFC_LOCK.base = true ∧ s.session p.val = false) ∧
    (∃ (s : State) (p : Port), s.session p.val = true ∧ Tab.get 0 s.ofc.sessAt p.val + 600 * sec ≤ s.mono) ∧
    (∃ (s : State) (p : Port), ¬(s.session p.val = true ∧ Tab.get 0 s.ofc.sessAt p.val + 600 * sec ≤ s.mono)) :=
  ⟨⟨std, 0, by decide +kernel⟩,
    ⟨sets std [(OFC_SESSION.STATE,0,0)], 0, by decide +kernel⟩,
    ⟨withDrbg (sets std [(OFC_SESSION.STATE,0,0)]), 0, _, by decide +kernel, by decide +kernel, by decide +kernel,
      Option.eq_some_of_isSome (by decide +kernel)⟩,
    ⟨sets { std with ofc := { std.ofc with chal := [(0,some ⟨[1],0⟩)] }, mono := sec } [(OFC_SESSION.STATE,0,1),(KST_SLOT.STATE,2,1)], 0, by decide +kernel⟩,
    ⟨sets { std with ofc := { std.ofc with chal := [(0,some ⟨[1],0⟩)] }, mono := sec - 1 } [(OFC_SESSION.STATE,0,1),(KST_SLOT.STATE,2,1)], 0, by decide +kernel⟩,
    ⟨std, 0, 5, _, by decide +kernel, rfl, by decide +kernel⟩,
    ⟨sets { std with ch := { std.ch with checks := [(⟨0, cmac (beBytes 32 5) [1,2], [1,2], false⟩ : ChkReq)] } } [(OFC_SESSION.STATE,0,0)], 0, 5, _, by decide +kernel, rfl, by decide +kernel⟩,
    ⟨sets std [(OFC_SESSION.STATE,0,0)], 0, 5, _, by decide +kernel, rfl, by decide +kernel⟩,
    ⟨sets { std with ofc := { std.ofc with chal := [(0,some ⟨[1],0⟩)] } } [(OFC_SESSION.STATE,0,1),(KST_SLOT.STATE,2,1)],
      0, 5, _, ⟨[1],0⟩, by decide +kernel, rfl, by decide +kernel⟩,
    ⟨sets { std with ch := { std.ch with chsJob := some (.check (⟨0, cmac (beBytes 32 5) [1,2], [1,2], false⟩ : ChkReq) (beBytes 32 5) 0) } } [(OFC_SESSION.STATE,0,0),(KST_SLOT.STATE,2,1),(OFC_SESSION.FAILS,0,7)], 0, (⟨0, cmac (beBytes 32 5) [1,2], [1,2], false⟩ : ChkReq), beBytes 32 5, 0, rfl, by decide +kernel, by decide +kernel, rfl⟩,
    ⟨sets { std with ch := { std.ch with chsJob := some (.check (⟨0, [], [1,2], false⟩ : ChkReq) (beBytes 32 5) 0) } } [(OFC_SESSION.STATE,0,0),(KST_SLOT.STATE,2,1),(OFC_SESSION.FAILS,0,255)], 0, (⟨0, [], [1,2], false⟩ : ChkReq), beBytes 32 5, 0, by decide +kernel, by decide +kernel, by decide +kernel, fun h => absurd (congrArg List.length h) (by decide +kernel)⟩,
    ⟨sets { std with ch := { std.ch with chsJob := some (.check (⟨0, cmac (beBytes 32 5) [1,2], [1,2], false⟩ : ChkReq) (beBytes 32 5) 0) } } [(OFC_SESSION.STATE,0,0),(KST_SLOT.STATE,2,0),(OFC_SESSION.FAILS,0,0)], 0, (⟨0, cmac (beBytes 32 5) [1,2], [1,2], false⟩ : ChkReq), beBytes 32 5, 0, rfl, by decide +kernel⟩,
    ⟨std, 0, by decide +kernel⟩,
    ⟨std, 0, by decide +kernel⟩,
    ⟨sets std [(OFC_SESSION.STATE,0,0)], 0, by decide +kernel⟩,
    ⟨{ std with mono := 600 * sec }, 0, by decide +kernel⟩,
    ⟨{ std with mono := 600 * sec - 1 }, 0, by decide +kernel⟩⟩

theorem witness_SessionsAndSemaphores_Semaphores :
    (∃ (s : State) (n : Fin 32) (p : Port) (o : Nat), s.admits p.val 0 false false (reg_GLB_SEM.offset n.val 0) = true ∧
      ((s.granted p.val false).heldWord (.port p.val) ⟨reg_GLB_SEM, n.val, 0⟩ = none) ∧
      o = (if s.on GLB_SEM.OWNED n.val then s.get GLB_SEM.OWNER n.val else p.val)) ∧
    (∃ (s : State) (n : Fin 32) (off : Nat) (o : Nat), off = reg_GLB_SEM.offset n.val 0 ∧
      s.admits 0 0 false false off = true ∧ (s.granted 0 false).admits 1 0 false false off = true ∧
      o = (if s.on GLB_SEM.OWNED n.val then s.get GLB_SEM.OWNER n.val else if s.ofc.semLast = 1 then 1 else 0)) ∧
    (∃ (s : State) (n : Fin 32) (p : Port), s.admits p.val 0 false true (reg_GLB_SEM.offset n.val 0) = true ∧
      (s.on GLB_SEM.OWNED n.val = true ∧ s.get GLB_SEM.OWNER n.val = p.val)) ∧
    (∃ (s : State) (n : Fin 32) (p : Port), s.admits p.val 0 false true (reg_GLB_SEM.offset n.val 0) = true ∧
      (¬(s.on GLB_SEM.OWNED n.val = true ∧ s.get GLB_SEM.OWNER n.val = p.val))) :=
  ⟨⟨std, 31, 1, _, by decide +kernel, by decide +kernel, rfl⟩,
    ⟨std, 0, _, _, rfl, by decide +kernel, by decide +kernel, rfl⟩,
    ⟨sets std [(GLB_SEM.OWNED,0,1)], 0, 0, by decide +kernel⟩,
    ⟨sets std [(GLB_SEM.OWNED,0,1)], 0, 1, by decide +kernel⟩⟩

theorem witness_StagingFlashAndSweeps_StagingAndFlash :
    (∃ (s : State) (p : Port) (ok : Bool), s.admits p.val 0 false true reg_JIG_STG_CTL.base = true ∧
      (ok = (s.get JIG_STG_STATUS.STATE 0 != 1 && s.get JIG_STG_STATUS.STATE 0 != 2 && s.get GLB_BOOT_STATUS.CODE 0 == 1 && s.get JIG_STG_LEN.V 0 != 0 && decide (s.get JIG_STG_LEN.V 0 ≤ copyMax))) ∧ ok = true) ∧
    (∃ (s : State) (p : Port) (ok : Bool), s.admits p.val 0 false true reg_JIG_STG_CTL.base = true ∧
      (ok = (s.get JIG_STG_STATUS.STATE 0 != 1 && s.get JIG_STG_STATUS.STATE 0 != 2 && s.get GLB_BOOT_STATUS.CODE 0 == 1 && s.get JIG_STG_LEN.V 0 != 0 && decide (s.get JIG_STG_LEN.V 0 ≤ copyMax))) ∧ ok = false) ∧
    (∃ (s : State) (data : FlashRead) (o : List Octet) (i : List Octet), s.get JIG_STG_STATUS.STATE 0 = 1 ∧
      data = .octets o ∧ i = padTo (s.get JIG_STG_LEN.V 0) o) ∧
    (∃ (s : State) (data : FlashRead), s.get JIG_STG_STATUS.STATE 0 = 1 ∧ data = .error) ∧
    (∃ (s : State) (data : FlashRead), s.get JIG_STG_STATUS.STATE 0 ≠ 1) ∧
    (∃ (s : State) (i : Image), s.get JIG_STG_STATUS.STATE 0 = 2 ∧ s.jg.stgJob = some 1 ∧ imageOf s.jg.stgBuf 2 = some i) ∧
    (∃ (s : State) (c : Nat), s.get JIG_STG_STATUS.STATE 0 = 2 ∧ s.jg.stgJob = some c ∧
      (c ≠ 1 ∨ imageOf s.jg.stgBuf 2 = none)) ∧
    (∃ (s : State), s.get JIG_STG_STATUS.STATE 0 ≠ 2 ∨ s.jg.stgJob = none) ∧
    (∃ (s : State) (p : Port) (v : Word) (len : Nat), s.admits p.val 0 false true reg_JIG_FL_CMD.base = true ∧
      (len = v.toNat / 2 ^ 8 % 512) ∧ (s.flashMode = false ∨ 256 < len)) ∧
    (∃ (s : State) (p : Port) (v : Word) (len : Nat), s.admits p.val 0 false true reg_JIG_FL_CMD.base = true ∧
      (len = v.toNat / 2 ^ 8 % 512) ∧ s.flashMode = true ∧ len ≤ 256 ∧ Tab.get 0 s.jg.flashJob p.val ≠ 0) ∧
    (∃ (s : State) (p : Port) (v : Word) (len : Nat), s.admits p.val 0 false true reg_JIG_FL_CMD.base = true ∧
      (len = v.toNat / 2 ^ 8 % 512) ∧ s.flashMode = true ∧ len ≤ 256 ∧ Tab.get 0 s.jg.flashJob p.val = 0 ∧
      (Tab.get 0 s.jg.flashJob (1 - p.val) ≠ 0)) ∧
    (∃ (s : State) (p : Port) (v : Word) (len : Nat), s.admits p.val 0 false true reg_JIG_FL_CMD.base = true ∧
      (len = v.toNat / 2 ^ 8 % 512) ∧ s.flashMode = true ∧ len ≤ 256 ∧ Tab.get 0 s.jg.flashJob p.val = 0 ∧
      (Tab.get 0 s.jg.flashJob (1 - p.val) = 0)) ∧
    (∃ (s : State) (p : Port) (data : List Octet) (j : Nat), j = Tab.get 0 s.jg.flashJob p.val ∧ (s.jg.flashWait = false ∧
      j ≠ 0)) ∧
    (∃ (s : State) (p : Port) (data : List Octet) (j : Nat), j = Tab.get 0 s.jg.flashJob p.val ∧
      (¬(s.jg.flashWait = false ∧ j ≠ 0))) :=
  ⟨⟨sets (bm (boot 5)) [(GLB_BOOT_STATUS.CODE,0,1),(JIG_STG_LEN.V,0,8388608),(ICU_PORT.LINK,0,1),(JIG_STG_STATUS.STATE,0,0)], 0, _, by decide +kernel, rfl, by decide +kernel⟩,
    ⟨sets (bm (boot 5)) [(GLB_BOOT_STATUS.CODE,0,1),(JIG_STG_LEN.V,0,8388608),(ICU_PORT.LINK,0,1),(JIG_STG_STATUS.STATE,0,1)], 0, _, by decide +kernel, rfl, by decide +kernel⟩,
    ⟨sets std [(JIG_STG_STATUS.STATE,0,1),(JIG_STG_LEN.V,0,4)], .octets ([1,2,3,4]), [1,2,3,4], _, by decide +kernel,
      by decide +kernel, rfl⟩,
    ⟨sets std [(JIG_STG_STATUS.STATE,0,1)], _, by decide +kernel, rfl⟩,
    ⟨std, .error, by decide +kernel⟩,
    ⟨sets { boot 5 with jg := { State.reset.jg with stgBuf := img, stgJob := some 1 } } [(JIG_STG_STATUS.STATE,0,2)], _,
      by decide +kernel, by decide +kernel, Option.eq_some_of_isSome (by decide +kernel)⟩,
    ⟨sets { boot 5 with jg := { State.reset.jg with stgBuf := img, stgJob := some 2 } } [(JIG_STG_STATUS.STATE,0,2)], 2,
      by decide +kernel⟩,
    ⟨sets { boot 5 with jg := { State.reset.jg with stgBuf := img, stgJob := none } } [(JIG_STG_STATUS.STATE,0,2)],
      by decide +kernel⟩,
    ⟨std, 0, 0x10103, _, by decide +kernel, rfl, by decide +kernel⟩,
    ⟨{ std with jg := { std.jg with flashJob := [(0,4)] } }, 0, 3, _, by decide +kernel, rfl, by decide +kernel⟩,
    ⟨{ std with jg := { std.jg with flashJob := [(1,4)] } }, 0, 3, _, by decide +kernel, rfl, by decide +kernel⟩,
    ⟨std, 0, 0x10003, _, by decide +kernel, rfl, by decide +kernel⟩,
    ⟨{ sets std [(JIG_FL_DATA.V,1,7)] with jg := { std.jg with flashJob := [(0,0x20204)], flashWait := false } }, 0,
      [1,2,3], _, rfl, by decide +kernel⟩,
    ⟨{ sets std [(JIG_FL_DATA.V,1,7)] with jg := { std.jg with flashJob := [(0,0)], flashWait := false } }, 0, [1,2,3], _,
      rfl, by decide +kernel⟩⟩

theorem witness_StagingFlashAndSweeps_SweepsAndSampler :
    (∃ (s : State) (p : Port), s.admits p.val 0 false true reg_CNT_CTL.base = true ∧ s.cn.sweep = none) ∧
    (∃ (s : State) (p : Port), s.admits p.val 0 false true reg_CNT_CTL.base = true ∧ s.cn.sweep ≠ none) ∧
    (∃ (s : State) (w : Sweep), s.cn.sweep = some w ∧ w.todo = []) ∧
    (∃ (s : State), s.cn.sweep.all (fun w => w.todo != []) = true) ∧
    (∃ (s : State) (p : Port) (v : Word), s.admits p.val 0 false true reg_CNT_SMP_CTL.base = true) :=
  ⟨⟨std, 0, by decide +kernel⟩,
    ⟨{ std with cn := { std.cn with sweep := some ⟨1,Bank.none,0,0,[]⟩ } }, 0, by decide +kernel⟩,
    ⟨{ std with cn := { std.cn with sweep := some ⟨0,{ Bank.none with count := 3, entries := [⟨1,2,false,true,0⟩] },0,0,[]⟩ } }, ⟨0,{ Bank.none with count := 3, entries := [⟨1,2,false,true,0⟩] },0,0,[]⟩, by decide +kernel⟩,
    ⟨{ std with cn := { std.cn with sweep := some ⟨1,{ Bank.none with count := 3, entries := [⟨1,2,false,true,0⟩] },0,0,[7]⟩ } }, by decide +kernel⟩,
    ⟨std, 0, 1, by decide +kernel⟩⟩

theorem witness_TimeCommandsFrame :
    ∃ s t : State, s.calm = true ∧ s.admits 0 0 false true reg_TIM_SLEW.base = true ∧ exec (.timSlew 0 5) s = .next t :=
  ⟨std, nextOf (exec (.timSlew 0 5) std), by decide +kernel, by decide +kernel, rfl⟩

theorem witness_ManagementCommandsFrame :
    ∃ s t : State, s.calm = true ∧ s.admits 0 0 false true (reg_ICU_SRC.offset 1151 0) = true ∧
      exec (.icuSrcWrite 0 1151 5) s = .next t :=
  ⟨std, nextOf (exec (.icuSrcWrite 0 1151 5) std), by decide +kernel, by decide +kernel, rfl⟩

theorem witness_KeyingCommandsFrame :
    (∃ s t : State, s.calm = true ∧ s.admits 0 0 true true reg_KST_CMD.base = true ∧ exec (.kstErase 0 255) s = .next t) ∧
    (∃ s t : State, s.calm = true ∧ s.admits 0 0 false true reg_PLN_RXSA_CMD.base = true ∧
      exec (.rxsaActivate 0 4095) s = .next t) :=
  ⟨⟨std, nextOf (exec (.kstErase 0 255) std), by decide +kernel, by decide +kernel, rfl⟩,
    ⟨std, nextOf (exec (.rxsaActivate 0 4095) std), by decide +kernel, by decide +kernel, rfl⟩⟩

theorem witness_LineCommandsFrame :
    ∃ s t : State, s.calm = true ∧ exec (.eyeMonitorUpdate 95 1 2 3 4 5) s = .next t :=
  ⟨std, nextOf (exec (.eyeMonitorUpdate 95 1 2 3 4 5) std), by decide +kernel, rfl⟩

theorem witness_ForbiddenAccessAnswers :
    (∃ (s : State) (p : Port) (fn : Fin 2) (bar2 : Bool) (off : Nat), s.reachable p.val = true ∧ (fn = 1 → bar2 = false) ∧
      (s.mmio p.val).forbidden p.val fn.val bar2 false off ≠ 0) ∧
    (∃ (s : State) (p : Port) (fn : Fin 2) (bar2 : Bool) (off : Nat), s.reachable p.val = true ∧ (fn = 1 → bar2 = false) ∧
      (s.mmio p.val).forbidden p.val fn.val bar2 true off ≠ 0) :=
  ⟨⟨sets std [(OFC_SESSION.STATE,0,0)], 0, 0, true, 0x10000, by decide +kernel⟩,
    ⟨std, 1, 1, false, 0, by decide +kernel⟩⟩

theorem witness_MaskedFieldsMatch :
    (∃ (s : State) (hp : Nat) (i : Nat) (h : Hdr), s.on CLS_EGR.TAGGED_CARE i = true) ∧
    (∃ (s : State) (hp : Nat) (i : Nat) (d : List Octet), (hdrOf d).tagged = false) ∧
    (∃ (s : State) (hp : Nat) (i : Nat) (d : List Octet) (v : Nat) (q : Nat), (hdrOf d).tagged = false ∧
      s.egrMatch hp (hdrOf d) i = true ∧ s.on CLS_EGR.TAGGED_CARE i = false ∧ s.get CLS_EGR.VID i = 0 ∧
      s.get CLS_EGR.PCP i = 0) :=
  ⟨⟨sets std [(CLS_EGR.VALID,8191,1),(CLS_EGR.TAGGED_CARE,8191,1),(CLS_EGR.TAGGED,8191,1)], 31, 8191, ⟨0, 0, 0, true, 0,
    0⟩, by decide +kernel⟩,
    ⟨std, 0, 0, body60, by decide +kernel⟩,
    ⟨sets std [(CLS_EGR.VALID,8191,1)], 31, 8191, body60, 1, 1, by decide +kernel⟩⟩

theorem witness_LowestAcceptablePn :
    ∃ (s : State) (r : Region) (x : InItem) (l : List InItem) (f : Nat) (low : Nat) (pn : Nat), s.calm = true ∧
      s.ig r.val = x :: l ∧ x.stat = .pre ∧ f = (readTag x.data).pn ∧ low = s.rxLow x.par.window x.sa ∧ (x.par.suite < 2 →
      pn = f) ∧ (2 ≤ x.par.suite → low % 2 ^ 32 ≤ f → pn = low / 2 ^ 32 * 2 ^ 32 + f) ∧ (2 ≤ x.par.suite →
      f < low % 2 ^ 32 → pn = (low / 2 ^ 32 + 1) * 2 ^ 32 + f) ∧ (x.par.suite < 2 → x.par.replay = true → low ≤ pn) ∧
      s.igrRoom r.val (cellsLen (builtLen x.data)) = true :=
  ⟨setIg (sets line [(SAT_RX.NEXT_PN,0,2^33+5)]) [{ ig0 (body60 ++ body60) with stat := .pre, pn := 0, sa := 0, par := ⟨2,0,5,0,0,3,true,0⟩ }], 0, { ig0 (body60 ++ body60) with stat := .pre, pn := 0, sa := 0, par := ⟨2,0,5,0,0,3,true,0⟩ }, [], _, _, (if ((setIg (sets line [(SAT_RX.NEXT_PN,0,2^33+5)]) [{ ig0 (body60 ++ body60) with stat := .pre, pn := 0, sa := 0, par := ⟨2,0,5,0,0,3,true,0⟩ }]).rxLow 3 0) % 2^32 ≤ (readTag (body60 ++ body60)).pn then ((setIg (sets line [(SAT_RX.NEXT_PN,0,2^33+5)]) [{ ig0 (body60 ++ body60) with stat := .pre, pn := 0, sa := 0, par := ⟨2,0,5,0,0,3,true,0⟩ }]).rxLow 3 0) / 2^32 * 2^32 + (readTag (body60 ++ body60)).pn else (((setIg (sets line [(SAT_RX.NEXT_PN,0,2^33+5)]) [{ ig0 (body60 ++ body60) with stat := .pre, pn := 0, sa := 0, par := ⟨2,0,5,0,0,3,true,0⟩ }]).rxLow 3 0) / 2^32 +1) * 2^32 + (readTag (body60 ++ body60)).pn), (by refine ⟨?_, ?_, ?_, rfl, rfl, ?_⟩ <;> decide +kernel)⟩

end Sys2Proof.Tests
end

/-! What stays put out, what the access of a port acts on, and what a refusal or a violation moves. -/
section
namespace Sys2Proof.Machine

/-! What has been put out stays put out. -/

/-- What every update of a list keeps, the list of updates keeps. -/
theorem State.each_induct {α : Type} (P : State → Prop) {l : List α} {g : α → State → State}
    (h : ∀ a s, P s → P (g a s)) {s : State} (hs : P s) : P (s.each l g) := by
  induction l generalizing s with
  | nil => exact hs
  | cons a l ih => exact ih (h a s hs)

@[simp] theorem State.touch_out (s : State) (p v : Nat) : (s.touch p v).out = s.out :=
  State.touch_keep (·.out) (fun _ _ => rfl) s p v

theorem State.wakePin_mem_out {s : State} {e : Emit} (h : e ∈ s.out) (p : Nat) : e ∈ (s.wakePin p).out := by
  unfold State.wakePin
  simp only
  split
  · exact h
  · simp [h]

theorem State.touchSrc_mem_out {s : State} {e : Emit} (h : e ∈ s.out) (i : Nat) : e ∈ (s.touchSrc i).out :=
  State.each_induct (fun t => e ∈ t.out) (fun p _ ht => State.wakePin_mem_out ht p) (by simpa using h)

theorem State.pend_mem_out {s : State} {e : Emit} (h : e ∈ s.out) (i : Nat) : e ∈ (s.pend i).out := by
  unfold State.pend
  simp only
  split
  · exact h
  · refine State.touchSrc_mem_out ?_ i
    exact h

theorem State.portsCome_mem_out {s : State} {e : Emit} (h : e ∈ s.out) : e ∈ s.portsCome.out := by
  unfold State.portsCome
  split
  · exact State.each_induct (fun t => e ∈ t.out) (fun i _ ht => State.pend_mem_out ht i) h
  · exact h

@[simp] theorem State.degNote_out (s : State) : s.degNote.out = s.out := by
  unfold State.degNote
  split
  · rfl
  · split <;> rfl

@[simp] theorem State.yieldReq_out (s : State) : s.yieldReq.out = s.out := by unfold State.yieldReq; split <;> rfl

@[simp] theorem State.settle_out (s : State) : s.settle.out = s.out := by
  unfold State.settle
  split
  · exact State.yieldReq_out s
  · rfl

/-- The end of a command takes nothing back. -/
theorem State.closed_mem_out {s : State} {e : Emit} (h : e ∈ s.out) : e ∈ s.closed.out := by
  simpa [State.closed] using State.portsCome_mem_out h

/-! What the commands of a register access do. -/

theorem exec_wideLowRead (s : State) (p : Port) (fn : Fin 2) (bar2 : Bool) (off : Nat) :
    exec (.wideLowRead p fn bar2 off) s = .next (s.readAt p.val fn.val bar2 off).closed := rfl

theorem exec_rcRead (s : State) (p : Port) (fn : Fin 2) (bar2 : Bool) (off : Nat) :
    exec (.rcRead p fn bar2 off) s = .next (s.readAt p.val fn.val bar2 off).closed := rfl

theorem exec_registerWrite (s : State) (p : Port) (fn : Fin 2) (bar2 : Bool) (off : Nat) (v : Word) (be : BitVec 4) :
    exec (.registerWrite p fn bar2 off v be) s = finish (s.writeAt p.val fn.val bar2 off v.toNat be.toNat) := rfl

/-- The end of a datapath command answers a next state. -/
theorem finish_next (s : State) : ∃ t, finish s = .next t := ⟨_, rfl⟩

/-- In a calm state a write ends as any command does. -/
theorem exec_registerWrite_calm {s : State} {p : Port} {fn : Fin 2} {bar2 : Bool} {off : Nat} {v : Word} {be : BitVec 4}
    (h : (s.writeAt p.val fn.val bar2 off v.toNat be.toNat).calm = true) :
    exec (.registerWrite p fn bar2 off v be) s = .next (s.writeAt p.val fn.val bar2 off v.toNat be.toNat).closed := by
  rw [exec_registerWrite, finish_calm _ h]

/-- A forbidden access is a violation of the port and nothing more (R391, R392). -/
theorem State.access_of_forbidden {s : State} {p fn : Nat} {bar2 wr : Bool} {off : Nat} (act deny : State → State)
    (hr : s.reachable p = true) (h : (s.mmio p).forbidden p fn bar2 wr off ≠ 0) :
    s.access p fn bar2 wr off act deny =
      deny ((s.mmio p).violate p ((s.mmio p).forbidden p fn bar2 wr off) wr fn bar2 off) := by
  simp [State.access, hr, h]

theorem State.readAt_of_forbidden {s : State} {p fn : Nat} {bar2 : Bool} {off : Nat} (hb : fn = 1 → bar2 = false)
    (hr : s.reachable p = true) (h : (s.mmio p).forbidden p fn bar2 false off ≠ 0) :
    s.readAt p fn bar2 off =
      ((s.mmio p).violate p ((s.mmio p).forbidden p fn bar2 false off) false fn bar2 off).emit
        (.readData p fn bar2 off 0) := by
  have hn : ¬(fn = 1 ∧ bar2 = true) := fun e => by simp [hb e.1] at e
  rw [State.readAt, if_neg hn]
  exact State.access_of_forbidden _ _ hr h

theorem State.readAt_of_admits {s : State} {p fn : Nat} {bar2 : Bool} {off : Nat} (hb : fn = 1 → bar2 = false)
    (h : s.admits p fn bar2 false off = true) :
    s.readAt p fn bar2 off = (s.granted p bar2).busRead p fn (s.idleSecs p) bar2 off := by
  have hn : ¬(fn = 1 ∧ bar2 = true) := fun e => by simp [hb e.1] at e
  rw [State.readAt, if_neg hn]
  exact State.access_of_admits s p fn bar2 false off _ _ h

theorem State.writeAt_of_forbidden {s : State} {p fn : Nat} {bar2 : Bool} {off : Nat} (v be : Nat)
    (hb : fn = 1 → bar2 = false) (hr : s.reachable p = true) (h : (s.mmio p).forbidden p fn bar2 true off ≠ 0) :
    s.writeAt p fn bar2 off v be =
      (s.mmio p).violate p ((s.mmio p).forbidden p fn bar2 true off) true fn bar2 off := by
  have hn : ¬(fn = 1 ∧ bar2 = true) := fun e => by simp [hb e.1] at e
  rw [State.writeAt, if_neg hn]
  exact State.access_of_forbidden _ _ hr h

theorem State.writeAt_of_admits {s : State} {p : Nat} {bar2 : Bool} {off : Nat} (v be : Nat)
    (h : s.admits p 0 bar2 true off = true) :
    s.writeAt p 0 bar2 off v be =
      if be = 15 then (s.granted p bar2).busWrite (.port p) bar2 off v
      else (s.granted p bar2).reject (.port p) 4 bar2 off := by
  rw [State.writeAt, if_neg (by simp)]
  exact State.access_of_admits s p 0 bar2 true off _ _ h

/-- A forbidden read puts out a zero word. -/
theorem State.readAt_closed_mem_zero {s : State} {p fn : Nat} {bar2 : Bool} {off : Nat} (hb : fn = 1 → bar2 = false)
    (hr : s.reachable p = true) (h : (s.mmio p).forbidden p fn bar2 false off ≠ 0) :
    Emit.readData p fn bar2 off 0 ∈ (s.readAt p fn bar2 off).closed.out := by
  rw [State.readAt_of_forbidden hb hr h]
  exact State.closed_mem_out (by simp)

/-- Settles O58: a violation acts on neither the word nor the byte enables of its access. -/
theorem forbiddenAccessAnswers : Obligations.ForbiddenAccessAnswers := by
  intro s p fn bar2 off hr hb
  have hb' : fn.val = 1 → bar2 = false := fun e => hb (Fin.ext e)
  refine ⟨fun h => ?_, fun h => ?_⟩
  · have hz := State.readAt_closed_mem_zero hb' hr h
    exact ⟨⟨_, exec_wideLowRead .., hz⟩, ⟨_, exec_rcRead .., hz⟩⟩
  · obtain ⟨t, ht⟩ := finish_next ((s.mmio p.val).violate p.val
      ((s.mmio p.val).forbidden p.val fn.val bar2 true off) true fn.val bar2 off)
    refine ⟨t, fun v be => ?_⟩
    rw [exec_registerWrite, State.writeAt_of_forbidden _ _ hb' hr h, ht]

end Sys2Proof.Machine
end
/-! What moves no register outside a list of registers (`State.keepsBut`), and writes that the device refuses. -/
section
namespace Sys2Proof.Machine

/-! A counter that counts moves its own register, and with its wrap bit what a source becoming pending moves. -/

theorem State.count_keep {β : Type} (φ : State → β) (hic : ∀ s x, φ { s with ic := x } = φ s)
    (hout : ∀ s x, φ { s with out := x } = φ s) (hw : ∀ s p v, φ (State.set s ICU_PORT.WAKE p v) = φ s)
    (hwr : ∀ s x, φ { s with wraps := x } = φ s) (f : Fld) (hf : ∀ s i v, φ (State.set s f i v) = φ s)
    (s : State) (i n : Nat) : φ (s.count f i n) = φ s := by
  have hb : ∀ s : State, φ (s.wrapBit f i) = φ s := by
    intro s
    unfold State.wrapBit
    split
    · rfl
    · rw [State.pend_keep φ hic hout hw]; exact hwr s _
  unfold State.count
  simp only
  split
  · rw [hb, hf]
  · rw [hf]

/-- A counter counts modulo its width. -/
theorem State.count_get_self (s : State) {f : Fld} (hp : pendMoves f = false) (i n : Nat) :
    (s.count f i n).get f i = (s.get f i + n) % 2 ^ f.width := by
  unfold State.count
  simp only
  split
  · unfold State.wrapBit
    split
    · exact State.get_set_self s f i _
    · rw [State.pend_get _ _ hp]; exact State.get_set_self s f i _
  · exact State.get_set_self s f i _

/-! Parts of the state outside the registers. -/

section
variable {β : Type} (φ : State → β) (hic : ∀ s x, φ { s with ic := x } = φ s) (hout : ∀ s x, φ { s with out := x } = φ s)
  (hwr : ∀ s x, φ { s with wraps := x } = φ s) (hset : ∀ s f i v, φ (State.set s f i v) = φ s)
include hic hout hwr hset

theorem State.violate_part (s : State) (p kind : Nat) (wr : Bool) (fn : Nat) (bar2 : Bool) (off : Nat) :
    φ (s.violate p kind wr fn bar2 off) = φ s := by
  unfold State.violate
  rw [hset, hset, hset, hset, hset, State.count_keep φ hic hout (fun s => hset s _) hwr _ (fun s => hset s _)]

theorem State.reject_part (s : State) (w : Writer) (cause : Nat) (bar2 : Bool) (off : Nat) :
    φ (s.reject w cause bar2 off) = φ s := by
  unfold State.reject State.bump
  simp only
  split <;>
    simp only [hset, State.count_keep φ hic hout (fun s => hset s ICU_PORT.WAKE) hwr _ (fun s => hset s _)]

end

@[simp] theorem State.violate_lc (s : State) (p kind : Nat) (wr : Bool) (fn : Nat) (bar2 : Bool) (off : Nat) :
    (s.violate p kind wr fn bar2 off).lc = s.lc :=
  State.violate_part (·.lc) (fun _ _ => rfl) (fun _ _ => rfl) (fun _ _ => rfl) (fun _ _ _ _ => rfl) s p kind wr fn bar2 off
@[simp] theorem State.violate_tm (s : State) (p kind : Nat) (wr : Bool) (fn : Nat) (bar2 : Bool) (off : Nat) :
    (s.violate p kind wr fn bar2 off).tm = s.tm :=
  State.violate_part (·.tm) (fun _ _ => rfl) (fun _ _ => rfl) (fun _ _ => rfl) (fun _ _ _ _ => rfl) s p kind wr fn bar2 off
@[simp] theorem State.violate_ga (s : State) (p kind : Nat) (wr : Bool) (fn : Nat) (bar2 : Bool) (off : Nat) :
    (s.violate p kind wr fn bar2 off).ga = s.ga :=
  State.violate_part (·.ga) (fun _ _ => rfl) (fun _ _ => rfl) (fun _ _ => rfl) (fun _ _ _ _ => rfl) s p kind wr fn bar2 off
@[simp] theorem State.violate_fr (s : State) (p kind : Nat) (wr : Bool) (fn : Nat) (bar2 : Bool) (off : Nat) :
    (s.violate p kind wr fn bar2 off).fr = s.fr :=
  State.violate_part (·.fr) (fun _ _ => rfl) (fun _ _ => rfl) (fun _ _ => rfl) (fun _ _ _ _ => rfl) s p kind wr fn bar2 off
@[simp] theorem State.violate_ke (s : State) (p kind : Nat) (wr : Bool) (fn : Nat) (bar2 : Bool) (off : Nat) :
    (s.violate p kind wr fn bar2 off).ke = s.ke :=
  State.violate_part (·.ke) (fun _ _ => rfl) (fun _ _ => rfl) (fun _ _ => rfl) (fun _ _ _ _ => rfl) s p kind wr fn bar2 off
@[simp] theorem State.violate_ch (s : State) (p kind : Nat) (wr : Bool) (fn : Nat) (bar2 : Bool) (off : Nat) :
    (s.violate p kind wr fn bar2 off).ch = s.ch :=
  State.violate_part (·.ch) (fun _ _ => rfl) (fun _ _ => rfl) (fun _ _ => rfl) (fun _ _ _ _ => rfl) s p kind wr fn bar2 off
@[simp] theorem State.violate_pl (s : State) (p kind : Nat) (wr : Bool) (fn : Nat) (bar2 : Bool) (off : Nat) :
    (s.violate p kind wr fn bar2 off).pl = s.pl :=
  State.violate_part (·.pl) (fun _ _ => rfl) (fun _ _ => rfl) (fun _ _ => rfl) (fun _ _ _ _ => rfl) s p kind wr fn bar2 off
@[simp] theorem State.violate_ca (s : State) (p kind : Nat) (wr : Bool) (fn : Nat) (bar2 : Bool) (off : Nat) :
    (s.violate p kind wr fn bar2 off).ca = s.ca :=
  State.violate_part (·.ca) (fun _ _ => rfl) (fun _ _ => rfl) (fun _ _ => rfl) (fun _ _ _ _ => rfl) s p kind wr fn bar2 off
@[simp] theorem State.violate_vn (s : State) (p kind : Nat) (wr : Bool) (fn : Nat) (bar2 : Bool) (off : Nat) :
    (s.violate p kind wr fn bar2 off).vn = s.vn :=
  State.violate_part (·.vn) (fun _ _ => rfl) (fun _ _ => rfl) (fun _ _ => rfl) (fun _ _ _ _ => rfl) s p kind wr fn bar2 off
@[simp] theorem State.violate_jg (s : State) (p kind : Nat) (wr : Bool) (fn : Nat) (bar2 : Bool) (off : Nat) :
    (s.violate p kind wr fn bar2 off).jg = s.jg :=
  State.violate_part (·.jg) (fun _ _ => rfl) (fun _ _ => rfl) (fun _ _ => rfl) (fun _ _ _ _ => rfl) s p kind wr fn bar2 off

@[simp] theorem State.reject_fr (s : State) (w : Writer) (cause : Nat) (bar2 : Bool) (off : Nat) :
    (s.reject w cause bar2 off).fr = s.fr :=
  State.reject_part (·.fr) (fun _ _ => rfl) (fun _ _ => rfl) (fun _ _ => rfl) (fun _ _ _ _ => rfl) s w cause bar2 off
@[simp] theorem State.reject_ke (s : State) (w : Writer) (cause : Nat) (bar2 : Bool) (off : Nat) :
    (s.reject w cause bar2 off).ke = s.ke :=
  State.reject_part (·.ke) (fun _ _ => rfl) (fun _ _ => rfl) (fun _ _ => rfl) (fun _ _ _ _ => rfl) s w cause bar2 off
@[simp] theorem State.reject_ca (s : State) (w : Writer) (cause : Nat) (bar2 : Bool) (off : Nat) :
    (s.reject w cause bar2 off).ca = s.ca :=
  State.reject_part (·.ca) (fun _ _ => rfl) (fun _ _ => rfl) (fun _ _ => rfl) (fun _ _ _ _ => rfl) s w cause bar2 off
@[simp] theorem State.reject_vn (s : State) (w : Writer) (cause : Nat) (bar2 : Bool) (off : Nat) :
    (s.reject w cause bar2 off).vn = s.vn :=
  State.reject_part (·.vn) (fun _ _ => rfl) (fun _ _ => rfl) (fun _ _ => rfl) (fun _ _ _ _ => rfl) s w cause bar2 off

/-! Calmness rests on the frames, the streams and Veneer only. -/

theorem State.calm_parts {s t : State} (hf : t.fr = s.fr) (hc : t.ca = s.ca) (hv : t.vn = s.vn) : t.calm = s.calm :=
  State.calm_congr (by rw [hf]) (by rw [hf]) (by rw [hc]) (by rw [hv])

@[simp] theorem State.calm_set (s : State) (f : Fld) (i v : Nat) : (s.set f i v).calm = s.calm := State.calm_parts rfl rfl rfl
@[simp] theorem State.calm_mmio (s : State) (p : Nat) : (s.mmio p).calm = s.calm :=
  State.calm_parts (by simp) (by simp) (by simp)
@[simp] theorem State.calm_granted (s : State) (p : Nat) (bar2 : Bool) : (s.granted p bar2).calm = s.calm :=
  State.calm_parts (by simp [State.granted]) (by simp [State.granted]) (by simp [State.granted])
@[simp] theorem State.calm_violate (s : State) (p kind : Nat) (wr : Bool) (fn : Nat) (bar2 : Bool) (off : Nat) :
    (s.violate p kind wr fn bar2 off).calm = s.calm := State.calm_parts (by simp) (by simp) (by simp)
@[simp] theorem State.calm_reject (s : State) (w : Writer) (cause : Nat) (bar2 : Bool) (off : Nat) :
    (s.reject w cause bar2 off).calm = s.calm := State.calm_parts (by simp) (by simp) (by simp)

/-- The hints of an access and the Officer's mark move no other field. -/
theorem State.granted_get (s : State) (p : Nat) (bar2 : Bool) {f : Fld} (h : mmioMoves f = false) (i : Nat) :
    (s.granted p bar2).get f i = s.get f i := (State.officerSeen_get _ _ _ _ _).trans (State.mmio_get s p h i)

/-! Moving no register outside a list. -/

/-- A field that one of the registers holds. -/
def Fld.inside (f : Fld) (rs : List Reg) : Bool := rs.any fun r => r.fields.any fun x => x.2.id % 2048 == f.id % 2048

theorem Fld.id_ne_of_outside {f g : Fld} {rs : List Reg} (hf : f.outside rs = true) (hg : g.inside rs = true) :
    f.id % 2048 ≠ g.id % 2048 := by
  intro e
  simp only [Fld.outside, Fld.inside, List.all_eq_true, List.any_eq_true, bne_iff_ne, beq_iff_eq] at hf hg
  obtain ⟨r, hr, x, hx, h⟩ := hg
  exact hf r hr x hx (h.trans e.symm)

section
variable {s t : State} {rs : List Reg}

theorem State.keepsBut_rfl (s : State) (rs : List Reg) : s.keepsBut s rs :=
  ⟨fun _ _ _ _ _ => rfl, rfl, rfl, rfl, rfl, rfl, rfl, rfl⟩

theorem State.keepsBut.trans {u : State} (h : s.keepsBut t rs) (k : t.keepsBut u rs) : s.keepsBut u rs := by
  obtain ⟨g, n, f, v, l, a, b, c⟩ := h
  obtain ⟨g', n', f', v', l', a', b', c'⟩ := k
  exact ⟨fun x i hc hm ho => (g' x i hc hm ho).trans (g x i hc hm ho), n'.trans n, f'.trans f, v'.trans v, l'.trans l,
    a'.trans a, b'.trans b, c'.trans c⟩

/-- The end of a command. -/
theorem State.keepsBut.closed (h : s.keepsBut t rs) : s.keepsBut t.closed rs :=
  h.trans ⟨fun _ i hc _ _ => State.closed_get t hc i, by simp, by simp, by simp, by simp, by simp, by simp, by simp⟩

/-- A field of the list. -/
theorem State.keepsBut.set (h : s.keepsBut t rs) {f : Fld} (hf : f.inside rs = true) (i v : Nat) :
    s.keepsBut (t.set f i v) rs :=
  h.trans ⟨fun _ j _ _ ho => State.get_set_field t (Fld.id_ne_of_outside ho hf) j i v, rfl, rfl, rfl, rfl, rfl, rfl, rfl⟩

/-- The hints of an access. -/
theorem State.keepsBut_mmio (s : State) (p : Nat) (rs : List Reg) : s.keepsBut (s.mmio p) rs :=
  ⟨fun _ i _ hm _ => State.mmio_get s p hm i, by simp, by simp, by simp, by simp, by simp, by simp, by simp⟩

/-- What stands before an admitted access. -/
theorem State.keepsBut_granted (s : State) (p : Nat) (bar2 : Bool) (rs : List Reg) : s.keepsBut (s.granted p bar2) rs :=
  ⟨fun _ i _ hm _ => State.granted_get s p bar2 hm i, by simp [State.granted], by simp [State.granted],
    by simp [State.granted], by simp [State.granted], by simp [State.granted], by simp [State.granted],
    by simp [State.granted]⟩

theorem pendMoves_of_closeMoves {f : Fld} (h : closeMoves f = false) : pendMoves f = false := by
  simp only [closeMoves, List.contains_cons, Bool.or_eq_false_iff] at h
  exact h.1

/-- A source becoming pending. -/
theorem State.keepsBut.pend (h : s.keepsBut t rs) (n : Nat) : s.keepsBut (t.pend n) rs :=
  h.trans ⟨fun _ i hc _ _ => State.pend_get t n (pendMoves_of_closeMoves hc) i, by simp, by simp, by simp, by simp, by simp,
    by simp, by simp⟩

/-- A counter of the list. -/
theorem State.keepsBut.count (h : s.keepsBut t rs) {f : Fld} (hf : f.inside rs = true) (i n : Nat) :
    s.keepsBut (t.count f i n) rs := by
  have hv := h.set hf i (t.get f i + n)
  unfold State.count State.wrapBit
  simp only
  split
  · split
    · exact hv
    · refine State.keepsBut.pend ?_ _
      exact hv
  · exact hv

/-- A refusal to a management port. -/
theorem State.keepsBut_reject (s : State) (p cause : Nat) (bar2 : Bool) (off : Nat) :
    s.keepsBut (s.reject (.port p) cause bar2 off) rejectRegs := by
  rw [State.reject, if_neg (by simp)]
  exact ((((State.keepsBut_rfl s _).count rfl _ _).set rfl _ _).set rfl _ _).set rfl _ _

/-- A violation. -/
theorem State.keepsBut_violate (s : State) (p kind : Nat) (wr : Bool) (fn : Nat) (bar2 : Bool) (off : Nat) :
    s.keepsBut (s.violate p kind wr fn bar2 off) [reg_OFC_VIOL_CNT, reg_OFC_VIOL_LAST] :=
  ((((((State.keepsBut_rfl s _).count rfl _ _).set rfl _ _).set rfl _ _).set rfl _ _).set rfl _ _).set rfl _ _

end

/-! What a refusal and a violation record. -/

theorem State.reject_cause (s : State) (p cause : Nat) (bar2 : Bool) (off : Nat) :
    (s.reject (.port p) cause bar2 off).get GLB_CFG_REJECT_LAST.CAUSE p = cause % 16 := by
  rw [State.reject, if_neg (by simp)]
  exact State.get_set_self _ _ _ _

theorem State.reject_counted (s : State) (p cause : Nat) (bar2 : Bool) (off : Nat) :
    (s.reject (.port p) cause bar2 off).get GLB_CFG_REJECT.V p = (s.get GLB_CFG_REJECT.V p + 1) % 2 ^ 64 := by
  rw [State.reject, if_neg (by simp)]
  simp (disch := decide) only [State.get_set_field]
  exact State.count_get_self s rfl p 1

theorem State.violate_kind (s : State) (p kind : Nat) (wr : Bool) (fn : Nat) (bar2 : Bool) (off : Nat) :
    (s.violate p kind wr fn bar2 off).get OFC_VIOL_LAST.KIND p = kind % 8 := by
  simp (disch := decide) only [State.violate, State.get_set_field, State.get_set_self]
  rfl

theorem State.violate_write (s : State) (p kind : Nat) (wr : Bool) (fn : Nat) (bar2 : Bool) (off : Nat) :
    (s.violate p kind wr fn bar2 off).get OFC_VIOL_LAST.WRITE p = b2n wr % 2 := by
  simp (disch := decide) only [State.violate, State.get_set_field, State.get_set_self]
  rfl

theorem State.violate_func (s : State) (p kind : Nat) (wr : Bool) (fn : Nat) (bar2 : Bool) (off : Nat) :
    (s.violate p kind wr fn bar2 off).get OFC_VIOL_LAST.FUNC p = fn % 2 := by
  simp (disch := decide) only [State.violate, State.get_set_field, State.get_set_self]
  rfl

/-- A write that the bus carries out is, in a calm state after it, the end of the command. -/
theorem exec_registerWrite_admitted {s : State} {p : Port} {bar2 : Bool} {off : Nat} (v : Word)
    (h : s.admits p.val 0 bar2 true off = true)
    (hc : ((s.granted p.val bar2).busWrite (.port p.val) bar2 off v.toNat).calm = true) :
    exec (.registerWrite p 0 bar2 off v 15) s =
      .next ((s.granted p.val bar2).busWrite (.port p.val) bar2 off v.toNat).closed := by
  have e : s.writeAt p.val (0 : Fin 2).val bar2 off v.toNat (15 : BitVec 4).toNat =
      (s.granted p.val bar2).busWrite (.port p.val) bar2 off v.toNat := State.writeAt_of_admits _ _ h
  rw [exec_registerWrite_calm (by rw [e]; exact hc), e]

/-! A word of LCY_OPERAND takes what is written. -/

theorem place_lcyOperand (i : Fin 13) :
    place true (reg_LCY_OPERAND.offset i.val 0) = some ⟨reg_LCY_OPERAND, i.val, 0⟩ := by fin_cases i <;> rfl

theorem putBits_mod_self (a w x : Nat) : putBits a 0 w x % 2 ^ w = x % 2 ^ w := by
  simp [putBits, Nat.mod_one, Nat.add_mul_mod_self_right]

theorem State.busWrite_lcyOperand (s : State) (p : Nat) (i : Fin 13) (v : Nat) :
    ∃ n, n % 2 ^ 32 = v % 2 ^ 32 ∧
      s.busWrite (.port p) true (reg_LCY_OPERAND.offset i.val 0) v = s.set LCY_OPERAND.V i.val n := by
  refine ⟨putBits (s.get LCY_OPERAND.V i.val) 0 32 (bits v 0 32), ?_, ?_⟩
  · rw [putBits_mod_self, bits]; simp
  · rw [State.busWrite, place_lcyOperand]
    show s.set LCY_OPERAND.V (0 + i.val) (putBits (s.get LCY_OPERAND.V (0 + i.val)) 0 32 (bits v 0 32)) = _
    rw [Nat.zero_add]

/-- A whole word written to LCY_OPERAND reads back (R4). -/
theorem lcyOperand_write_reads_back (s : State) (p : Port) (i : Fin 13) (v : Word)
    (h : s.mayWrite p.val true (reg_LCY_OPERAND.offset i.val 0)) :
    ∃ t, exec (.registerWrite p 0 true (reg_LCY_OPERAND.offset i.val 0) v 15) s = .next t ∧
      t.get LCY_OPERAND.V i.val = v.toNat ∧ s.keepsBut t [reg_LCY_OPERAND] := by
  obtain ⟨ha, hc⟩ := h
  obtain ⟨n, hn, hw⟩ := State.busWrite_lcyOperand (s.granted p.val true) p.val i v.toNat
  refine ⟨_, exec_registerWrite_admitted v ha (by rw [hw]; simpa using hc), ?_, ?_⟩
  · rw [State.closed_get _ rfl, hw, State.get_set_self]
    exact hn.trans (Nat.mod_eq_of_lt v.isLt)
  · rw [hw]
    exact ((State.keepsBut_granted s p.val true _).set rfl _ _).closed

/-- A partial write is ignored and counted with CAUSE 4 (R387). -/
theorem partial_write_rejected (s : State) (p : Port) (bar2 : Bool) (off : Nat) (v : Word) (be : BitVec 4)
    (h : s.mayWrite p.val bar2 off) (hb : be ≠ 15) :
    ∃ t, exec (.registerWrite p 0 bar2 off v be) s = .next t ∧
      t.get GLB_CFG_REJECT.V p.val = (s.get GLB_CFG_REJECT.V p.val + 1) % 2 ^ 64 ∧
      t.get GLB_CFG_REJECT_LAST.CAUSE p.val = 4 ∧ s.keepsBut t rejectRegs := by
  obtain ⟨ha, hc⟩ := h
  have hn : be.toNat ≠ 15 := fun e => hb (BitVec.eq_of_toNat_eq e)
  have e : s.writeAt p.val (0 : Fin 2).val bar2 off v.toNat be.toNat =
      (s.granted p.val bar2).reject (.port p.val) 4 bar2 off :=
    (State.writeAt_of_admits _ _ ha).trans (if_neg hn)
  refine ⟨_, exec_registerWrite_calm (by rw [e]; simpa using hc), ?_⟩
  rw [e]
  refine ⟨?_, ?_, ((State.keepsBut_granted s p.val bar2 _).trans (State.keepsBut_reject ..)).closed⟩
  · rw [State.closed_get _ rfl, State.reject_counted, State.granted_get _ _ _ rfl]
  · rw [State.closed_get _ rfl, State.reject_cause]

/-- A write of a reserved offset moves nothing (R5). -/
theorem reserved_write_ignored (s : State) (p : Port) (bar2 : Bool) (off : Nat) (v : Word)
    (h : s.mayWrite p.val bar2 off) (hp : place bar2 off = none) :
    ∃ t, exec (.registerWrite p 0 bar2 off v 15) s = .next t ∧ s.keepsBut t [] := by
  obtain ⟨ha, hc⟩ := h
  have hw : (s.granted p.val bar2).busWrite (.port p.val) bar2 off v.toNat = s.granted p.val bar2 := by
    rw [State.busWrite, hp]
  refine ⟨_, exec_registerWrite_admitted v ha (by rw [hw]; simpa using hc), ?_⟩
  rw [hw]
  exact (State.keepsBut_granted s p.val bar2 _).closed

/-- A forbidden write ends as the violation that it counts (R391, R392). -/
theorem exec_registerWrite_forbidden {s : State} {p : Port} {fn : Fin 2} {bar2 : Bool} {off : Nat} (v : Word)
    (be : BitVec 4) (hb : fn.val = 1 → bar2 = false) (hr : s.reachable p.val = true) (hc : s.calm = true)
    (h : (s.mmio p.val).forbidden p.val fn.val bar2 true off ≠ 0) :
    exec (.registerWrite p fn bar2 off v be) s = .next ((s.mmio p.val).violate p.val
      ((s.mmio p.val).forbidden p.val fn.val bar2 true off) true fn.val bar2 off).closed := by
  have e := State.writeAt_of_forbidden v.toNat be.toNat hb hr h
  rw [exec_registerWrite_calm (by rw [e]; simpa using hc), e]

theorem State.keepsBut_violation (s : State) (p kind : Nat) (wr : Bool) (fn : Nat) (bar2 : Bool) (off : Nat) :
    s.keepsBut ((s.mmio p).violate p kind wr fn bar2 off) [reg_OFC_VIOL_CNT, reg_OFC_VIOL_LAST] :=
  (State.keepsBut_mmio s p _).trans (State.keepsBut_violate ..)

/-- Function 1 takes no write: a violation of KIND 2 (R448). -/
theorem observer_write_violates (s : State) (p : Port) (off : Nat) (v : Word) (be : BitVec 4)
    (hr : s.reachable p.val = true) (hc : s.calm = true) :
    ∃ t, exec (.registerWrite p 1 false off v be) s = .next t ∧ t.get OFC_VIOL_LAST.KIND p.val = 2 ∧
      t.get OFC_VIOL_LAST.FUNC p.val = 1 ∧ t.get OFC_VIOL_LAST.WRITE p.val = 1 ∧
      s.keepsBut t [reg_OFC_VIOL_CNT, reg_OFC_VIOL_LAST] := by
  have hk : (s.mmio p.val).forbidden p.val (1 : Fin 2).val false true off = 2 := rfl
  refine ⟨_, exec_registerWrite_forbidden v be (fun _ => rfl) hr hc (by rw [hk]; decide), ?_, ?_, ?_,
    (State.keepsBut_violation ..).closed⟩
  · rw [State.closed_get _ rfl, State.violate_kind, hk]
  · rw [State.closed_get _ rfl, State.violate_func]; rfl
  · rw [State.closed_get _ rfl, State.violate_write]; rfl

/-- A forbidden read leaves all but the violation it counts, and puts out zero (R391, R392). -/
theorem forbidden_read_keeps {s : State} {p fn : Nat} {bar2 : Bool} {off : Nat} (hb : fn = 1 → bar2 = false)
    (hr : s.reachable p = true) (h : (s.mmio p).forbidden p fn bar2 false off ≠ 0) :
    Emit.readData p fn bar2 off 0 ∈ (s.readAt p fn bar2 off).closed.out ∧
      s.keepsBut (s.readAt p fn bar2 off).closed [reg_OFC_VIOL_CNT, reg_OFC_VIOL_LAST] ∧
      (s.readAt p fn bar2 off).closed.ke = s.ke ∧ (s.readAt p fn bar2 off).closed.lc = s.lc ∧
      (s.readAt p fn bar2 off).closed.tm = s.tm ∧ (s.readAt p fn bar2 off).closed.ch = s.ch := by
  refine ⟨State.readAt_closed_mem_zero hb hr h, ?_⟩
  rw [State.readAt_of_forbidden hb hr h]
  have hk := State.keepsBut_violation s p ((s.mmio p).forbidden p fn bar2 false off) false fn bar2 off
  refine ⟨State.keepsBut.closed hk, ?_⟩
  simp

/-- Settles O8: an admitted write acts on the register it names or is refused; a forbidden access is a violation of its
port. -/
theorem registerWritesAndForbiddenAccesses : Obligations.RegisterWritesAndForbiddenAccesses := by
  refine ⟨⟨lcyOperand_write_reads_back, partial_write_rejected, observer_write_violates, reserved_write_ignored⟩, ?_⟩
  intro s p fn bar2 off v be hr hc hb
  have hb' : fn.val = 1 → bar2 = false := fun e => hb (Fin.ext e)
  refine ⟨fun h => ?_, fun h => ?_⟩
  · refine ⟨_, exec_registerWrite_forbidden v be hb' hr hc h, (State.keepsBut_violation ..).closed, ?_⟩
    simp
  · have hk := forbidden_read_keeps hb' hr h
    exact ⟨⟨_, exec_wideLowRead .., hk⟩, ⟨_, exec_rcRead .., hk⟩⟩

end Sys2Proof.Machine
end
/-! Reads: every admitted one puts out a word; TIM_NOW latches (R6) and CNT_STATUS clears (R4). -/
section
namespace Sys2Proof.Machine

/-- A permitted read puts out a word (R4, R5). -/
theorem State.busRead_mem_out (s : State) (p fn idle : Nat) (bar2 : Bool) (off : Nat) :
    ∃ v, Emit.readData p fn bar2 off v ∈ (s.busRead p fn idle bar2 off).out := by
  unfold State.busRead
  split
  · exact ⟨0, by simp⟩
  · exact ⟨_, by rw [State.placeRead, State.emit_out]; exact List.mem_append_right _ (List.mem_singleton_self _)⟩

theorem State.readAt_closed_mem_out {s : State} {p fn : Nat} {bar2 : Bool} {off : Nat} (hb : fn = 1 → bar2 = false)
    (h : s.admits p fn bar2 false off = true) :
    ∃ v, Emit.readData p fn bar2 off v ∈ (s.readAt p fn bar2 off).closed.out := by
  obtain ⟨v, hv⟩ := (s.granted p bar2).busRead_mem_out p fn (s.idleSecs p) bar2 off
  exact ⟨v, State.closed_mem_out (by rw [State.readAt_of_admits hb h]; exact hv)⟩

/-- What a writer holds stands before and after the hints of its access. -/
theorem State.granted_heldWord (s : State) (p : Nat) (bar2 : Bool) (w : Writer) (pl : Place) :
    (s.granted p bar2).heldWord w pl = s.heldWord w pl := by
  simp [State.heldWord, State.heldOf, State.granted]

/-! A read of a register word through function 0. -/

theorem State.busRead_of_place {bar2 : Bool} {off : Nat} {pl : Place} (hp : Machine.place bar2 off = some pl) (s : State)
    (p idle : Nat) : s.busRead p 0 idle bar2 off = s.placeRead p 0 idle bar2 off pl := by
  simp [State.busRead, hp]

/-- The word that a read returns of a register with no latch of its own, where its reader holds nothing (R6, R451). -/
theorem State.wordRead_plain {s : State} {p idle : Nat} {pl : Place}
    (hr : pl.reg.rid ∉ [.TIM_TXQ, .CLM_LOG, .SNP_SMP, .TIM_INCR]) (hh : s.heldWord (.port p) pl = none) :
    s.wordRead p 0 idle pl = (s.wideWord p 0 pl).getD (s.liveWord p 0 idle pl pl.word) := by
  simp only [List.mem_cons, List.not_mem_nil, or_false, not_or] at hr
  obtain ⟨htxq, hlog, hsmp, hincr⟩ := hr
  unfold State.wordRead
  split
  · exact absurd ‹_› htxq
  · exact absurd ‹_› hlog
  · exact absurd ‹_› hsmp
  · exact absurd ‹_› hincr
  · simp [hh]

/-- The words of a register from its fields; `d` gives those that are read off the device. -/
def Reg.wordFrom (r : Reg) (d : List (Fld × Nat)) (get : Fld → Nat) (w : Nat) : Nat :=
  (r.inWord w).foldl (fun a x =>
    if x.1.acc = .wo then a
    else a + bits (((d.find? (fun y => y.1.id == x.1.id)).map (·.2)).getD (get x.1)) x.2.1 x.2.2.2 * 2 ^ x.2.2.1) 0

theorem State.liveWord_eq_wordFrom {s : State} {p idle : Nat} {pl : Place} (w : Nat)
    (hraw : s.rawEntry p pl.reg.rid pl.idx = none) :
    s.liveWord p 0 idle pl w = pl.reg.wordFrom (s.derived p idle pl.reg.rid (pl.reg.copy p pl.idx))
      (fun f => s.get f (pl.reg.copy p pl.idx)) w := by
  simp only [State.liveWord, hraw, Reg.wordFrom]
  rw [if_neg (by simp)]
  congr 1
  funext a x
  cases List.find? (fun y => y.1.id == x.1.id) (s.derived p idle pl.reg.rid (pl.reg.copy p pl.idx)) <;> rfl

/-! TIM_NOW. -/

theorem bits_low (v w : Nat) : bits v 0 w = v % 2 ^ w := by simp [bits]

theorem place_timNow : place false reg_TIM_NOW.base = some ⟨reg_TIM_NOW, 0, 0⟩ := rfl

theorem State.derived_timNow (s : State) (p idle i : Nat) :
    s.derived p idle reg_TIM_NOW.rid i = [(TIM_NOW.V, time96 s.now)] := rfl

theorem wordFrom_timNow (t : Nat) (get : Fld → Nat) {k : Nat} (hk : k < 3) :
    reg_TIM_NOW.wordFrom [(TIM_NOW.V, t)] get k = bits t (32 * k) 32 := by
  interval_cases k <;> simp [Reg.wordFrom, Reg.inWord, overlap, reg_TIM_NOW, TIM_NOW.V]

/-- The words of TIM_NOW are those of the present time (R119). -/
theorem State.liveWord_timNow (s : State) (p idle : Nat) {k : Nat} (hk : k < 3) :
    s.liveWord p 0 idle ⟨reg_TIM_NOW, 0, 0⟩ k = bits (time96 s.now) (32 * k) 32 := by
  rw [State.liveWord_eq_wordFrom _ rfl]
  simp only
  rw [State.derived_timNow, wordFrom_timNow _ _ hk]

/-- The low word is no word that the holding register answers for. -/
theorem State.wideWord_timNow (s : State) (p : Nat) : s.wideWord p 0 ⟨reg_TIM_NOW, 0, 0⟩ = none := by
  have hw : reg_TIM_NOW.wideAt 0 = some (0, 2) := by decide
  unfold State.wideWord
  simp only [hw]
  cases Tab.get none s.ac.wide (pfKey p 0) <;> simp

theorem State.wordRead_timNow {s : State} {p : Nat} (idle : Nat)
    (hh : s.heldWord (.port p) ⟨reg_TIM_NOW, 0, 0⟩ = none) :
    s.wordRead p 0 idle ⟨reg_TIM_NOW, 0, 0⟩ = time96 s.now % 2 ^ 32 := by
  rw [State.wordRead_plain (by decide) hh, State.wideWord_timNow, Option.getD_none, s.liveWord_timNow p idle (by decide),
    Nat.mul_zero, bits_low]

/-- What the holding register of a port takes from TIM_NOW: its upper two words (R6). -/
def timNowWide (now : Nat) : Wide :=
  ⟨false, reg_TIM_NOW.base, 2, bits (time96 now) 32 32 + bits (time96 now) 64 32 * 2 ^ 32⟩

/-- The low word of a wide value latches the others (R6). -/
theorem State.wideLatch_of_low {pl : Place} {b : Nat} (hw : pl.reg.wideAt pl.word = some (pl.word, b)) (s : State)
    (p idle : Nat) {hi : Nat}
    (hhi : ((upto (b - pl.word)).map (fun k => s.liveWord p 0 idle pl (pl.word + 1 + k) * 2 ^ (32 * k))).sum = hi) :
    s.wideLatch p 0 idle pl =
      { s with ac.wide := s.ac.wide.set none (pfKey p 0)
                  (some ⟨pl.reg.bar2, pl.reg.offset pl.idx pl.word, b - pl.word, hi⟩) } := by
  subst hhi
  simp only [State.wideLatch, hw, if_true]

/-- Two words above a low word as one number. -/
theorem sum_two_words (word : Nat → Nat) :
    ((upto (2 - 0)).map (fun k => word (0 + 1 + k) * 2 ^ (32 * k))).sum = word 1 + word 2 * 2 ^ 32 := by
  have hu : upto (2 - 0) = [0, 1] := by decide
  rw [hu, List.map_cons, List.map_cons, List.map_nil, List.sum_cons, List.sum_singleton, Nat.mul_zero, pow_zero, Nat.mul_one,
    Nat.mul_one]

theorem State.wideLatch_timNow (s : State) (p idle : Nat) :
    s.wideLatch p 0 idle ⟨reg_TIM_NOW, 0, 0⟩ =
      { s with ac.wide := s.ac.wide.set none (pfKey p 0) (some (timNowWide s.now)) } := by
  have hw : reg_TIM_NOW.wideAt 0 = some (0, 2) := by decide
  have h1 := s.liveWord_timNow p idle (k := 1) (by decide)
  have h2 := s.liveWord_timNow p idle (k := 2) (by decide)
  rw [State.wideLatch_of_low (pl := ⟨reg_TIM_NOW, 0, 0⟩) hw s p idle (sum_two_words _), h1, h2]
  rfl

/-- A read of TIM_NOW's low word answers with it and latches the other two (R6). -/
theorem State.busRead_timNow {s : State} {p : Nat} (idle : Nat)
    (hh : s.heldWord (.port p) ⟨reg_TIM_NOW, 0, 0⟩ = none) :
    s.busRead p 0 idle false reg_TIM_NOW.base =
      ({ s with ac.wide := s.ac.wide.set none (pfKey p 0) (some (timNowWide s.now)) } : State).emit
        (.readData p 0 false reg_TIM_NOW.base (time96 s.now % 2 ^ 32)) := by
  have he : s.readEffect p 0 idle ⟨reg_TIM_NOW, 0, 0⟩ = s.wideLatch p 0 idle ⟨reg_TIM_NOW, 0, 0⟩ := rfl
  rw [State.busRead_of_place place_timNow]
  have hs : reg_TIM_NOW.rid ≠ .GLB_SEM := by decide
  simp only [State.placeRead, he, State.wideLatch_timNow, State.wordRead_timNow idle hh, if_neg hs]

/-! CNT_STATUS. -/

theorem place_cntStatus : place false reg_CNT_STATUS.base = some ⟨reg_CNT_STATUS, 0, 0⟩ := rfl

theorem State.derived_cntStatus (s : State) (p idle i : Nat) : s.derived p idle reg_CNT_STATUS.rid i = [] := rfl

theorem wordFrom_cntStatus (get : Fld → Nat) :
    bits (reg_CNT_STATUS.wordFrom [] get 0) 8 8 = get CNT_STATUS.SKIPPED % 2 ^ 8 := by
  have h : reg_CNT_STATUS.wordFrom [] get 0 = get CNT_STATUS.BUSY % 2 + get CNT_STATUS.LAST_BANK % 2 * 2 +
      get CNT_STATUS.SKIPPED % 256 * 256 + get CNT_STATUS.SWEEPS % 65536 * 65536 := by
    simp [Reg.wordFrom, Reg.inWord, overlap, reg_CNT_STATUS, CNT_STATUS.BUSY, CNT_STATUS.LAST_BANK, CNT_STATUS.SKIPPED,
      CNT_STATUS.SWEEPS, bits]
  rw [h, bits]
  omega

theorem State.get_lt (s : State) (f : Fld) (i : Nat) : s.get f i < 2 ^ f.width := Nat.mod_lt _ (by positivity)

/-- CNT_STATUS shows SKIPPED in bits 15:8 (R439). -/
theorem State.wordRead_cntStatus {s : State} {p : Nat} (idle : Nat)
    (hh : s.heldWord (.port p) ⟨reg_CNT_STATUS, 0, 0⟩ = none) :
    bits (s.wordRead p 0 idle ⟨reg_CNT_STATUS, 0, 0⟩) 8 8 = s.get CNT_STATUS.SKIPPED 0 := by
  have hw : s.wideWord p 0 ⟨reg_CNT_STATUS, 0, 0⟩ = none := by
    have : reg_CNT_STATUS.wideAt 0 = none := by decide
    simp [State.wideWord, this]
  rw [State.wordRead_plain (by decide) hh, hw, Option.getD_none, State.liveWord_eq_wordFrom _ rfl]
  simp only
  rw [State.derived_cntStatus, wordFrom_cntStatus]
  exact Nat.mod_eq_of_lt (s.get_lt CNT_STATUS.SKIPPED 0)

/-- A read of CNT_STATUS clears SKIPPED (R4). -/
theorem State.readEffect_cntStatus (s : State) (p idle : Nat) :
    s.readEffect p 0 idle ⟨reg_CNT_STATUS, 0, 0⟩ = s.set CNT_STATUS.SKIPPED 0 0 := by
  have hl : s.wideLatch p 0 idle ⟨reg_CNT_STATUS, 0, 0⟩ = s := by
    have : reg_CNT_STATUS.wideAt 0 = none := by decide
    simp [State.wideLatch, this]
  show (s.wideLatch p 0 idle ⟨reg_CNT_STATUS, 0, 0⟩).readClear reg_CNT_STATUS 0 0 = _
  rw [hl]
  rfl

theorem State.busRead_cntStatus (s : State) (p idle : Nat) :
    s.busRead p 0 idle false reg_CNT_STATUS.base = (s.set CNT_STATUS.SKIPPED 0 0).emit
      (.readData p 0 false reg_CNT_STATUS.base (s.wordRead p 0 idle ⟨reg_CNT_STATUS, 0, 0⟩)) := by
  rw [State.busRead_of_place place_cntStatus]
  have hs : reg_CNT_STATUS.rid ≠ .GLB_SEM := by decide
  simp only [State.placeRead, State.readEffect_cntStatus, if_neg hs]

/-- Settles O17: a read puts its word out last, and the end of the command takes nothing back. -/
theorem readsReturnAndClear : Obligations.ReadsReturnAndClear := by
  refine ⟨fun s p fn bar2 off h hb => ?_, fun s p h hh => ?_, fun s p h hh => ?_⟩
  · obtain ⟨v, hv⟩ := State.readAt_closed_mem_out (fun e => hb (Fin.ext e)) h
    exact ⟨⟨_, v, exec_wideLowRead .., hv⟩, ⟨_, v, exec_rcRead .., hv⟩⟩
  · have e := State.readAt_of_admits (by simp) h
    rw [State.busRead_timNow _ ((State.granted_heldWord ..).trans hh)] at e
    have hn : (s.granted p.val false).now = s.now := by simp [State.granted]
    refine ⟨_, exec_wideLowRead .., State.closed_mem_out ?_, ?_⟩
    · rw [Fin.val_zero, e, hn]; simp
    · rw [State.closed_ac, Fin.val_zero, e, hn]
      exact Tab.get_set_self none (s.granted p.val false).ac.wide (pfKey p.val 0) (some (timNowWide s.now))
  · have e := State.readAt_of_admits (by simp) h
    rw [State.busRead_cntStatus] at e
    refine ⟨_, exec_rcRead .., ?_,
      (s.granted p.val false).wordRead p.val 0 (s.idleSecs p.val) ⟨reg_CNT_STATUS, 0, 0⟩, State.closed_mem_out ?_, ?_⟩
    · rw [State.closed_get _ rfl, Fin.val_zero, e, State.emit_get, State.get_set_self]; rfl
    · rw [Fin.val_zero, e, State.emit_out]; exact List.mem_append_right _ (List.mem_singleton_self _)
    · rw [State.wordRead_cntStatus _ ((State.granted_heldWord ..).trans hh), State.granted_get _ _ _ rfl]

end Sys2Proof.Machine
end
/-! The state after reset, and a pass-through command longer than the data window. -/
section
namespace Sys2Proof.Machine

/-- The reset store lists the states of the pairs only. -/
theorem ppeSpareReset_get {k : Nat} (h : k % 2048 ≠ RGN_PPE_STATUS.STATE.id) : Tab.get 0 ppeSpareReset k = 0 := by
  have hid : RGN_PPE_STATUS.STATE.id < 2048 := by decide
  have key : ∀ l : List Nat, Tab.get 0 (l.map fun i => (2048 * i + RGN_PPE_STATUS.STATE.id, 1)) k = 0 := by
    intro l
    induction l with
    | nil => rfl
    | cons i l ih =>
      have hk : k ≠ 2048 * i + RGN_PPE_STATUS.STATE.id := by omega
      simp only [List.map_cons, Tab.get]
      grind
  exact key _

/-- A field that is no state of a pair reads its reset value. -/
theorem State.reset_get {f : Fld} (h : f.id % 2048 ≠ RGN_PPE_STATUS.STATE.id) (i : Nat) :
    State.reset.get f i = f.reset % 2 ^ f.width := by
  have hk : f.key i % 2048 ≠ RGN_PPE_STATUS.STATE.id := by rw [Fld.key, Nat.mul_add_mod']; exact h
  have e : Tab.get 0 State.reset.regs (f.key i) = 0 := ppeSpareReset_get hk
  rw [State.get, e, Nat.zero_xor]

/-- Settles O3: the register store after reset holds the spare pairs only. -/
theorem resetValues : Obligations.ResetValues := by
  refine ⟨fun f i h => State.reset_get h i, ?_, rfl, rfl, rfl, rfl, rfl, rfl, rfl, rfl, rfl, rfl, rfl, rfl⟩
  intro r hr d k hk
  cases d <;> interval_cases r <;> interval_cases k <;> rfl

/-! A pass-through command of 511 octets: no GO starts one (R434), and the statement speaks of every state. -/

theorem leBytes_length (n v : Nat) : (leBytes n v).length = n := by
  induction n generalizing v with
  | zero => rfl
  | succ n ih => rw [leBytes, List.length_cons, ih]

/-- An array of n words holds 4 n octets. -/
theorem State.wordsOf_length (s : State) (f : Fld) (at_ n : Nat) : (s.wordsOf f at_ n).length = 4 * n := by
  simp [State.wordsOf, List.length_flatMap, leBytes_length, upto]
  omega

theorem padTo_length (n : Nat) (l : Octets) : (padTo n l).length = n := by
  simp [padTo]
  omega

/-- Reset, with a pass-through command of MP0 in progress whose LEN reads 511. -/
def overlongFlashJob : State := { State.reset with jg.flashJob := [(0, 511 * 2 ^ 8 + 1)] }

/-- Refutes O53: a pass-through command of LEN 511, which `overlongFlashJob` holds for MP0, ends; the data window's 256
octets are not the 511 that the statement asks for. -/
theorem not_stagingFlashAndSweeps : ¬ Obligations.StagingFlashAndSweeps := by
  rintro ⟨⟨-, -, -, -, hflash⟩, -⟩
  obtain ⟨hdone, -⟩ := hflash overlongFlashJob 0 [] (511 * 2 ^ 8 + 1) rfl
  obtain ⟨t, -, -, -, hw⟩ := hdone (by decide)
  have hdir : bit (511 * 2 ^ 8 + 1 - 1) 17 = false := by decide
  rw [hdir] at hw
  have hlen := congrArg List.length hw
  simp [State.wordsOf_length, padTo_length] at hlen

end Sys2Proof.Machine
end
/-! What start-up reads of itself, and the side effects that leave it alone. -/
section
namespace Sys2Proof.Machine

/-! The end of a command outside SECURE and GUARDED. -/

section
variable {β : Type} (φ : State → β)

theorem State.portsCome_keep (hic : ∀ s x, φ { s with ic := x } = φ s) (hout : ∀ s x, φ { s with out := x } = φ s)
    (hw : ∀ s p v, φ (State.set s ICU_PORT.WAKE p v) = φ s) (hh : ∀ s x, φ { s with cl.heldSrcs := x } = φ s) (s : State) :
    φ s.portsCome = φ s := by
  unfold State.portsCome
  split
  · rw [hh, State.each_keep φ _ _ (fun i s => State.pend_keep φ hic hout hw s i)]
  · rfl

theorem State.degNote_keep (hd : ∀ s d, φ { s with md.degClear := d } = φ s) (s : State) : φ s.degNote = φ s := by
  unfold State.degNote
  split
  · exact hd s _
  · split
    · exact hd s _
    · rfl

/-- Outside SECURE and GUARDED no command ends in a transition to DEGRADED (R45). -/
theorem State.settle_of_mode {s : State} (hs : s.mode ≠ mSECURE) (hg : s.mode ≠ mGUARDED) : s.settle = s := by
  rw [State.settle, if_neg]
  rintro ⟨-, h | h, -⟩
  · exact hs h
  · exact hg h

theorem State.closed_keep_of_mode (hic : ∀ s x, φ { s with ic := x } = φ s) (hout : ∀ s x, φ { s with out := x } = φ s)
    (hw : ∀ s p v, φ (State.set s ICU_PORT.WAKE p v) = φ s) (hh : ∀ s x, φ { s with cl.heldSrcs := x } = φ s)
    (hd : ∀ s d, φ { s with md.degClear := d } = φ s) {s : State} (hs : s.mode ≠ mSECURE) (hg : s.mode ≠ mGUARDED) :
    φ s.closed = φ s := by
  have hm : s.portsCome.degNote.mode = s.mode := by
    rw [State.degNote_keep State.mode (fun _ _ => rfl)]
    exact State.portsCome_keep State.mode (fun _ _ => rfl) (fun _ _ => rfl)
      (fun s p v => State.get_set_field s (by decide) 0 p v) (fun _ _ => rfl) s
  rw [State.closed, State.settle_of_mode (by rwa [hm]) (by rwa [hm]), State.degNote_keep φ hd,
    State.portsCome_keep φ hic hout hw hh]

end

theorem State.closed_trans_of_mode {s : State} (hs : s.mode ≠ mSECURE) (hg : s.mode ≠ mGUARDED) :
    s.closed.md.trans = s.md.trans :=
  State.closed_keep_of_mode (·.md.trans) (fun _ _ => rfl) (fun _ _ => rfl) (fun _ _ _ => rfl) (fun _ _ => rfl)
    (fun _ _ => rfl) hs hg

theorem State.closed_inTransition_of_mode {s : State} (hs : s.mode ≠ mSECURE) (hg : s.mode ≠ mGUARDED) :
    s.closed.get GLB_MODE.IN_TRANSITION 0 = s.get GLB_MODE.IN_TRANSITION 0 :=
  State.closed_keep_of_mode (fun s => s.get GLB_MODE.IN_TRANSITION 0) (fun _ _ => rfl) (fun _ _ => rfl)
    (fun s p v => State.get_set_field s (by decide) 0 p v) (fun _ _ => rfl) (fun _ _ => rfl) hs hg

/-! A step of start-up is due. -/

theorem State.startsAt_iff (s : State) (n : Nat) : s.startsAt n = true ↔
    s.mode = mBOOT ∧ s.get GLB_BOOT_STATUS.STAGE 0 = n ∧ s.get GLB_BOOT_STATUS.CODE 0 = 0 ∧ s.md.trans = none := by
  simp [State.startsAt, and_assoc]

/-! Readings that stand aside from what start-up sets off: from sources, counters, the log, the DRBG's draws, the frames
and the pages of the deep buffer. -/

/-- Numbers of the fields that say how far start-up is: the mode, the stage and its code, the state of the random source
and the channels' states and identities. -/
def bootFields : List Nat := [GLB_MODE.MODE.id, GLB_BOOT_STATUS.STAGE.id, GLB_BOOT_STATUS.CODE.id, RNG_STATUS.STATE.id,
  MEM_CH.STATE.id, MEM_CH.MR5.id, MEM_CH.MR6.id, MEM_CH.MR8.id]

/-- A reading of the state that those side effects do not change. -/
structure Aside {β : Type} (φ : State → β) : Prop where
  set : ∀ (s : State) (f : Fld) (i v : Nat), f.id % 2048 ∉ bootFields → φ (s.set f i v) = φ s
  ic : ∀ (s : State) x, φ { s with ic := x } = φ s
  out : ∀ (s : State) x, φ { s with out := x } = φ s
  wraps : ∀ (s : State) x, φ { s with wraps := x } = φ s
  tape : ∀ (s : State) x, φ { s with tape := x } = φ s
  fr : ∀ (s : State) x, φ { s with fr := x } = φ s
  pl : ∀ (s : State) x, φ { s with pl := x } = φ s
  hq : ∀ (s : State) x, φ { s with hq := x } = φ s
  cn : ∀ (s : State) x, φ { s with cn := x } = φ s
  cl : ∀ (s : State) x, φ { s with cl := x } = φ s
  vn : ∀ (s : State) x, x.capPages = s.vn.capPages → φ { s with vn := x } = φ s
  rngQueue : ∀ (s : State) x, φ { s with ch.rngQueue := x } = φ s
  ctxKey : ∀ (s : State) x, φ { s with ch.ctxKey := x } = φ s
  drbg : ∀ (s : State) d x, s.ch.drbg = some d → φ { s with ch.drbg := some x } = φ s

theorem Aside.of_get {f : Fld} (h : f.id % 2048 ∈ bootFields) (i : Nat) : Aside (fun s => s.get f i) where
  set s _ j v hg := State.get_set_field s (fun e => hg (e ▸ h)) i j v
  ic _ _ := rfl
  out _ _ := rfl
  wraps _ _ := rfl
  tape _ _ := rfl
  fr _ _ := rfl
  pl _ _ := rfl
  hq _ _ := rfl
  cn _ _ := rfl
  cl _ _ := rfl
  vn _ _ _ := rfl
  rngQueue _ _ := rfl
  ctxKey _ _ := rfl
  drbg _ _ _ _ := rfl

theorem Aside.md : Aside State.md :=
  ⟨fun _ _ _ _ _ => rfl, fun _ _ => rfl, fun _ _ => rfl, fun _ _ => rfl, fun _ _ => rfl, fun _ _ => rfl, fun _ _ => rfl,
    fun _ _ => rfl, fun _ _ => rfl, fun _ _ => rfl, fun _ _ _ => rfl, fun _ _ => rfl, fun _ _ => rfl, fun _ _ _ _ => rfl⟩

theorem Aside.ke : Aside State.ke :=
  ⟨fun _ _ _ _ _ => rfl, fun _ _ => rfl, fun _ _ => rfl, fun _ _ => rfl, fun _ _ => rfl, fun _ _ => rfl, fun _ _ => rfl,
    fun _ _ => rfl, fun _ _ => rfl, fun _ _ => rfl, fun _ _ _ => rfl, fun _ _ => rfl, fun _ _ => rfl, fun _ _ _ _ => rfl⟩

theorem Aside.capPages : Aside (fun s => s.vn.capPages) :=
  ⟨fun _ _ _ _ _ => rfl, fun _ _ => rfl, fun _ _ => rfl, fun _ _ => rfl, fun _ _ => rfl, fun _ _ => rfl, fun _ _ => rfl,
    fun _ _ => rfl, fun _ _ => rfl, fun _ _ => rfl, fun _ _ h => h, fun _ _ => rfl, fun _ _ => rfl, fun _ _ _ _ => rfl⟩

/-- The DRBG is instantiated. -/
theorem Aside.drbgIsSome : Aside (fun s => s.ch.drbg.isSome) :=
  ⟨fun _ _ _ _ _ => rfl, fun _ _ => rfl, fun _ _ => rfl, fun _ _ => rfl, fun _ _ => rfl, fun _ _ => rfl, fun _ _ => rfl,
    fun _ _ => rfl, fun _ _ => rfl, fun _ _ => rfl, fun _ _ _ => rfl, fun _ _ => rfl, fun _ _ => rfl,
    fun _ _ _ h => by simp [h]⟩

section
variable {β : Type} {φ : State → β}

/-! Sources, counters, the log. -/

theorem Aside.pend (h : Aside φ) (s : State) (n : Nat) : φ (s.pend n) = φ s :=
  State.pend_keep φ h.ic h.out (fun s p v => h.set s _ p v (by decide)) s n

theorem Aside.count (h : Aside φ) {f : Fld} (hf : f.id % 2048 ∉ bootFields) (s : State) (i n : Nat) :
    φ (s.count f i n) = φ s :=
  State.count_keep φ h.ic h.out (fun s p v => h.set s _ p v (by decide)) h.wraps f (fun s i v => h.set s f i v hf) s i n

theorem Aside.bump (h : Aside φ) {f : Fld} (hf : f.id % 2048 ∉ bootFields) (s : State) (i n : Nat) :
    φ (s.bump f i n) = φ s := h.set s f i _ hf

theorem Aside.putWords (h : Aside φ) {f : Fld} (hf : f.id % 2048 ∉ bootFields) (s : State) (at_ n : Nat)
    (o : List Octet) : φ (s.putWords f at_ n o) = φ s :=
  State.each_keep φ _ _ (fun _ s => h.set s f _ _ hf) s

theorem Aside.reject (h : Aside φ) (s : State) (w : Writer) (cause : Nat) (bar2 : Bool) (off : Nat) :
    φ (s.reject w cause bar2 off) = φ s := by
  have e : ∀ i, φ ((((s.count GLB_CFG_REJECT.V i 1).set GLB_CFG_REJECT_LAST.OFFSET i (off / 4)).set
      GLB_CFG_REJECT_LAST.WINDOW i (b2n bar2)).set GLB_CFG_REJECT_LAST.CAUSE i cause) = φ s := fun i => by
    rw [h.set _ _ _ _ (by decide), h.set _ _ _ _ (by decide), h.set _ _ _ _ (by decide), h.count (by decide)]
  unfold State.reject
  simp only
  split
  · rw [h.bump (by decide), e]
  · exact e _

theorem Aside.logStore (h : Aside φ) (s : State) (n : Nat) (e : LogEntry) : φ (s.logStore n e) = φ s := by
  unfold State.logStore
  simp only
  split
  · exact h.cl s _
  · split
    · rw [h.pend, h.set _ _ _ _ (by decide), h.set _ _ _ _ (by decide), h.set _ _ _ _ (by decide)]; exact h.cl s _
    · rw [h.set _ _ _ _ (by decide), h.set _ _ _ _ (by decide), h.set _ _ _ _ (by decide)]; exact h.cl s _

theorem Aside.logEvent (h : Aside φ) (s : State) (typ src : Nat) (d : List Octet) : φ (s.logEvent typ src d) = φ s := by
  unfold State.logEvent State.logAs
  simp only
  split
  · rfl
  · split
    · exact h.cl s _
    · exact (h.logStore _ _ _).trans (h.cl s _)

/-! The DRBG's draws (R215, R216, R219). -/

theorem Aside.rngEnd (h : Aside φ) (s : State) (p st : Nat) (o : List Octet) : φ (s.rngEnd p st o) = φ s := by
  unfold State.rngEnd
  rw [h.pend, h.set _ _ _ _ (by decide), h.putWords (by decide)]
  exact h.rngQueue s _

theorem Aside.generate (h : Aside φ) {s : State} {n : Nat} {r : List Octet × State} (hr : s.generate n = some r) :
    φ r.2 = φ s := by
  unfold State.generate at hr
  split at hr
  · rename_i d hd
    split at hr
    · obtain rfl := Option.some.inj hr
      exact h.drbg s d _ hd
    · cases hr
  · cases hr

theorem Aside.rngServe (h : Aside φ) (s : State) (p : Nat) : φ (s.rngServe p) = φ s := by
  unfold State.rngServe
  split
  · split
    · split
      · rename_i hg
        rw [h.rngEnd]
        exact h.generate hg
      · rfl
    · rfl
  · rfl

theorem Aside.draw (h : Aside φ) {s : State} {n : Nat} {r : List Octet × State} (hr : s.draw n = some r) : φ r.2 = φ s := by
  unfold State.draw at hr
  simp only at hr
  split at hr
  · rename_i hg
    obtain rfl := Option.some.inj hr
    refine (State.each_keep φ _ _ (fun x s => ?_) _).trans ((h.generate hg).trans
      (State.each_keep φ _ _ (fun (x : Nat × Nat) s => h.rngServe s x.1) s))
    rw [h.bump (by decide), h.set _ _ _ _ (by decide)]
  · cases hr

theorem Aside.vnrDraw (h : Aside φ) {s : State} {e : Nat} {r : VnrKeys × State} (hr : s.vnrDraw e = some r) :
    φ r.2 = φ s := by
  unfold State.vnrDraw at hr
  split at hr
  · rename_i hd
    obtain rfl := Option.some.inj hr
    exact h.draw hd
  · cases hr

/-- The keys of epoch 0 (R299). -/
theorem Aside.vnrStart (h : Aside φ) (s : State) : φ s.vnrStart = φ s := by
  unfold State.vnrStart
  split
  · rename_i hd
    rw [h.set _ _ _ _ (by decide), h.set _ _ _ _ (by decide), h.set _ _ _ _ (by decide), h.set _ _ _ _ (by decide)]
    exact (h.vn _ _ (by rfl)).trans (h.vnrDraw hd)
  · rw [h.pend, h.set _ _ _ _ (by decide)]

theorem Aside.vnrResume (h : Aside φ) (s : State) : φ s.vnrResume = φ s := by
  unfold State.vnrResume
  split
  · exact h.vnrStart s
  · rfl

/-! The pages of the deep buffer (R304, R309). -/

theorem Aside.floorCheck (h : Aside φ) (s : State) : φ s.floorCheck = φ s := by
  unfold State.floorCheck
  split
  · split
    · rfl
    · rw [h.pend, h.set _ _ _ _ (by decide), h.set _ _ _ _ (by decide)]
  · split
    · rw [h.set _ _ _ _ (by decide), h.set _ _ _ _ (by decide)]
    · rfl

theorem Aside.closePage (h : Aside φ) (s : State) (p : Nat) : φ (s.closePage p) = φ s := by
  unfold State.closePage
  split
  · exact h.vn s _ rfl
  · rfl

theorem Aside.pageRetired (h : Aside φ) (s : State) (p : Nat) : φ (s.pageRetired p) = φ s := h.vn s _ rfl

theorem Aside.pageRetire (h : Aside φ) (s : State) (p : Nat) : φ (s.pageRetire p) = φ s := by
  have e : φ ((((s.count VNR_CNT.NOSPARE_RETIRE 0 1).bump VNR_PAGE_RETIRED.V 0 1).pend 0x385).closePage p) = φ s := by
    rw [h.closePage, h.pend, h.bump (by decide), h.count (by decide)]
  unfold State.pageRetire
  simp only
  split
  · rfl
  · rw [h.floorCheck]
    split
    · exact (h.vn _ _ (by rfl)).trans e
    · split
      · rw [h.pageRetired, h.set _ _ _ _ (by decide), e]
      · rw [h.pageRetired, e]

theorem Aside.pageFree (h : Aside φ) (s : State) (p : Nat) : φ (s.pageFree p) = φ s := by
  unfold State.pageFree
  simp only
  split
  · exact h.pageRetired s p
  · split
    · exact h.vn s _ rfl
    · rw [h.pend, h.bump (by decide)]; exact h.vn s _ rfl

theorem Aside.unitFree (h : Aside φ) (s : State) (u : Nat) : φ (s.unitFree u) = φ s := by
  unfold State.unitFree
  simp only
  split
  · rw [h.pageFree, h.closePage]; exact h.vn s _ rfl
  · exact h.vn s _ rfl

theorem Aside.chanPages (h : Aside φ) (s : State) (c : Nat) : φ (s.chanPages c) = φ s :=
  State.each_keep φ _ _ (fun p s => h.pageRetire s p) s

/-! Completion records and the sampler (R286, R296, R443). -/

theorem Aside.setRing (h : Aside φ) (s : State) (k : Nat) (r : Ring) : φ (s.setRing k r) = φ s := h.hq s _

theorem Aside.emit (h : Aside φ) (s : State) (e : Emit) : φ (s.emit e) = φ s := h.out s _

theorem Aside.recWrite (h : Aside φ) (s : State) (k : Nat) (r : Rec) : φ (s.recWrite k r) = φ s := by
  unfold State.recWrite
  simp only
  rw [h.pend]
  split_ifs <;> simp (disch := decide) only [h.setRing, h.count, h.set, h.emit]

theorem Aside.recsGo (h : Aside φ) (k n : Nat) (s : State) : φ (State.recsGo k n s) = φ s := by
  induction n generalizing s with
  | zero => rfl
  | succ n ih =>
    unfold State.recsGo
    split
    · split
      · rw [ih, h.recWrite, h.setRing]
      · rfl
    · rfl

theorem Aside.recPut (h : Aside φ) (s : State) (k : Nat) (r : Rec) : φ (s.recPut k r) = φ s := by
  unfold State.recPut
  split
  · rw [State.recsTry, h.recsGo, h.setRing]
  · rfl

theorem Aside.smpWrite (h : Aside φ) (s : State) (r body : Nat) : φ (s.smpWrite r body) = φ s := by
  unfold State.smpWrite
  simp only
  split
  · rw [h.pend, h.count (by decide)]
  · split
    · rw [h.pend, h.set _ _ _ _ (by decide), h.set _ _ _ _ (by decide)]; exact h.cn s _
    · rw [h.set _ _ _ _ (by decide), h.set _ _ _ _ (by decide)]; exact h.cn s _

theorem Aside.smpEgress (h : Aside φ) (s : State) (f : Frame) (pn an fl reason : Nat) :
    φ (s.smpEgress f pn an fl reason) = φ s := by
  unfold State.smpEgress
  simp only
  split
  · exact h.smpWrite s _ _
  · rfl

/-! A channel is fenced (R341). -/

theorem Aside.setQueue (h : Aside φ) (s : State) (q : Nat) (x : Queue) : φ (s.setQueue q x) = φ s := h.pl s _

theorem Aside.checkEmpty (h : Aside φ) (s : State) (q : Nat) : φ (s.checkEmpty q) = φ s := by
  unfold State.checkEmpty
  split
  · exact (h.pl _ _).trans (h.setQueue s q _)
  · rfl

theorem Aside.deepGiveUp (h : Aside φ) (s : State) (q : Nat) (units : List Nat) (n : Nat) :
    φ (s.deepGiveUp q units n) = φ s := by
  have e : φ (s.each units (fun u s => s.unitFree u)) = φ s := State.each_keep φ _ _ (fun u s => h.unitFree s u) s
  unfold State.deepGiveUp State.deepLoss
  simp only
  rw [h.bump (by decide), h.count (by decide)]
  split
  · rw [h.set _ _ _ _ (by decide), h.set _ _ _ _ (by decide), e]
  · rw [h.set _ _ _ _ (by decide), e]

theorem Aside.chanFrames (h : Aside φ) (s : State) (c : Nat) : φ (s.chanFrames c) = φ s := by
  unfold State.chanFrames
  simp only
  rw [State.each_keep φ _ _ (fun r s => ?_), State.each_keep φ _ _ (fun q s => ?_)]
  · split
    · rfl
    · rw [h.checkEmpty, h.set _ _ _ _ (by decide),
        State.each_keep φ _ _ (fun d s => (h.smpEgress _ _ _ _ _ _).trans (h.deepGiveUp s q _ _)), h.setQueue]
  · refine (State.each_keep φ _ _ (fun w s => ?_) _).trans (h.fr s _)
    rw [h.smpEgress]
    split
    · rw [State.injDone, h.recPut]
      exact (h.tape _ _).trans (h.deepGiveUp s _ _ _)
    · exact h.deepGiveUp s _ _ _

theorem Aside.pfcSend (h : Aside φ) (s : State) (p en xoff : Nat) : φ (s.pfcSend p en xoff) = φ s := by
  unfold State.pfcSend
  simp only
  split
  · have e : ∀ s : State, φ (if xoff = 0 then s
        else ({ s with pl.xoffAt := s.pl.xoffAt.set 0 p s.mono }.count PLN_HPFC.XOFF_TX p 1).pend 0x34B) = φ s := by
      intro s
      split
      · rfl
      · rw [h.pend, h.count (by decide)]; exact h.pl s _
    split
    · exact (e _).trans (h.fr s _)
    · rw [h.count (by decide)]; exact (e _).trans (h.fr s _)
  · rfl

theorem Aside.pfcHost (h : Aside φ) (s : State) (p : Nat) : φ (s.pfcHost p) = φ s := by
  unfold State.pfcHost
  simp only
  split
  · rfl
  · rw [h.pfcSend, h.set _ _ _ _ (by decide)]

theorem Aside.pfc (h : Aside φ) (s : State) : φ s.pfc = φ s := by
  unfold State.pfc
  simp only
  rw [State.each_keep φ _ _ (fun p s => h.pfcHost s p), State.each_keep φ _ _ (fun n s => ?_)]
  split
  · split
    · exact h.pl s _
    · rfl
  · split
    · rw [h.pend]; exact h.pl s _
    · rfl

/-- Beside its own state a fenced channel moves nothing that start-up reads. -/
theorem Aside.chanFence (h : Aside φ) {c : Nat} (hc : ∀ s v, φ (State.set s MEM_CH.STATE c v) = φ s) (s : State) :
    φ (s.chanFence c) = φ s := by
  unfold State.chanFence
  split
  · rfl
  · rw [h.pfc, h.chanPages, h.chanFrames, h.set _ _ _ _ (by decide), h.pend, hc]

end

/-- A fenced channel reads STATE 4. -/
theorem State.chanFence_state (s : State) (c : Nat) : (s.chanFence c).get MEM_CH.STATE c = 4 := by
  have h := Aside.of_get (f := MEM_CH.STATE) (by decide) c
  unfold State.chanFence
  split
  · assumption
  · exact (h.pfc _).trans ((h.chanPages _ _).trans ((h.chanFrames _ _).trans ((h.set _ _ _ _ (by decide)).trans
      ((h.pend _ _).trans (State.get_set_self ..)))))

end Sys2Proof.Machine
end
/-! The steps 4, 6, 8, 9 and 13 of start-up, and the request of AUTO_MODE. -/
section
namespace Sys2Proof.Machine

/-! Step 4: the random source (R213, R220, R221). -/

theorem State.testOutcome_of_noise {s : State} (h : s.on RNG_STATUS.PATTERN 0 = false) (seen : Option HealthFail) :
    s.testOutcome seen = seen := by simp [State.testOutcome, h]

/-- The state in which a fresh DRBG stands and reads READY (R215). -/
def State.seeded (s : State) : State :=
  ({ s.seed.2 with ch.drbg := some (drbgInstantiate s.seed.1 (devId ++ s.seed.2.wordsOf RNG_PERS.V 0 4)) } : State).set
    RNG_STATUS.STATE 0 rngREADY

section
variable {β : Type} {φ : State → β}

/-- The context key that an instantiation draws changes nothing that start-up reads. -/
theorem Aside.instantiate (h : Aside φ) (s : State) : φ s.instantiate = φ s.seeded := by
  have e : φ ((s.seeded.set RNG_STATUS.RERUNS 0 0).pend 0x3E1) = φ s.seeded := by
    rw [h.pend, h.set _ _ _ _ (by decide)]
  unfold State.instantiate
  simp only
  split
  · split
    · rename_i hd
      rw [h.set _ _ _ _ (by decide)]
      exact (h.ctxKey _ _).trans ((h.draw hd).trans e)
    · exact e
  · exact e

theorem Aside.testFailed (h : Aside φ) (s : State) (f : HealthFail) : φ (s.testFailed f) = φ s := by
  unfold State.testFailed
  simp only
  rw [h.set _ _ _ _ (by decide), h.set _ _ _ _ (by decide)]
  split
  · exact h.count (by decide) s _ _
  · exact h.count (by decide) s _ _

/-- What neither a DRBG nor the state of the source says stays through a health failure (R221). -/
theorem Aside.healthFail (h : Aside φ) (hn : ∀ s : State, φ { s with ch.drbg := none } = φ s)
    (hs : ∀ s : State, φ (s.set RNG_STATUS.STATE 0 rngRERUN) = φ s) (s : State) (f : HealthFail) :
    φ (s.healthFail f) = φ s := by
  unfold State.healthFail State.rngLog
  simp only
  rw [hs, h.pend, h.logEvent]
  refine (hn _).trans (Eq.trans ?_ (h.testFailed s f))
  exact State.each_keep φ _ _ (fun x s => h.rngEnd s _ _ _) _

end

theorem State.healthFail_state (s : State) (f : HealthFail) : (s.healthFail f).get RNG_STATUS.STATE 0 = rngRERUN :=
  State.get_set_self _ _ _ _

theorem State.healthFail_drbg (s : State) (f : HealthFail) : (s.healthFail f).ch.drbg = none := by
  have h : (s.healthFail f).ch.drbg.isSome = false := by
    unfold State.healthFail State.rngLog
    simp only [State.set_ch, State.pend_ch]
    exact Aside.drbgIsSome.logEvent _ _ _ _
  simpa using h

/-- A step is due as long as mode, stage, code and transition stand. -/
theorem State.startsAt_congr {s t : State} (hm : t.get GLB_MODE.MODE 0 = s.get GLB_MODE.MODE 0)
    (hs : t.get GLB_BOOT_STATUS.STAGE 0 = s.get GLB_BOOT_STATUS.STAGE 0)
    (hc : t.get GLB_BOOT_STATUS.CODE 0 = s.get GLB_BOOT_STATUS.CODE 0) (ht : t.md = s.md) (n : Nat) :
    t.startsAt n = s.startsAt n := by
  rw [Bool.eq_iff_iff, State.startsAt_iff, State.startsAt_iff, State.mode, State.mode, hm, hs, hc, ht]

theorem State.instantiate_startsAt (s : State) (n : Nat) : s.instantiate.startsAt n = s.startsAt n :=
  State.startsAt_congr
    (((Aside.of_get (by decide) 0).instantiate s).trans (State.get_set_field _ (by decide) _ _ _))
    (((Aside.of_get (by decide) 0).instantiate s).trans (State.get_set_field _ (by decide) _ _ _))
    (((Aside.of_get (by decide) 0).instantiate s).trans (State.get_set_field _ (by decide) _ _ _))
    (Aside.md.instantiate s) n

theorem State.instantiate_state (s : State) : s.instantiate.get RNG_STATUS.STATE 0 = rngREADY :=
  ((Aside.of_get (by decide) 0).instantiate s).trans (State.get_set_self _ _ _ _)

theorem State.instantiate_drbg (s : State) : s.instantiate.ch.drbg.isSome = true :=
  (Aside.drbgIsSome.instantiate s).trans rfl

/-- At step 4 a test of the noise source that passes makes the DRBG. -/
theorem State.rngStart_passed {s : State} (h : s.startsAt 3 = true) (hn : s.get RNG_STATUS.STATE 0 = 0)
    (hp : s.on RNG_STATUS.PATTERN 0 = false) : s.rngStart none = s.instantiate.rngStage.vnrResume := by
  obtain ⟨hm, hs, -, -⟩ := (s.startsAt_iff 3).mp h
  have hc : s.get RNG_STATUS.STATE 0 = rngNOTREADY ∧ s.mode ≠ 0 ∧ 3 ≤ s.get GLB_BOOT_STATUS.STAGE 0 :=
    ⟨hn, by rw [hm]; decide, by rw [hs]⟩
  simp only [State.rngStart, if_pos hc, State.testOutcome_of_noise hp]

/-- At step 4 a test of the noise source that fails calls for another. -/
theorem State.rngStart_failed {s : State} (h : s.startsAt 3 = true) (hn : s.get RNG_STATUS.STATE 0 = 0)
    (hp : s.on RNG_STATUS.PATTERN 0 = false) (f : HealthFail) :
    s.rngStart (some f) = (s.healthFail f).rngStage.vnrResume := by
  obtain ⟨hm, hs, -, -⟩ := (s.startsAt_iff 3).mp h
  have hc : s.get RNG_STATUS.STATE 0 = rngNOTREADY ∧ s.mode ≠ 0 ∧ 3 ≤ s.get GLB_BOOT_STATUS.STAGE 0 :=
    ⟨hn, by rw [hm]; decide, by rw [hs]⟩
  simp only [State.rngStart, if_pos hc, State.testOutcome_of_noise hp]

/-- The source passes: start-up reaches step 4 with a DRBG (R220). -/
theorem rngStart_pass {s : State} (h : s.startsAt 3 = true) (hn : s.get RNG_STATUS.STATE 0 = 0)
    (hp : s.on RNG_STATUS.PATTERN 0 = false) :
    ∃ t, exec (.rngStartupTestComplete none) s = .next t ∧ t.get RNG_STATUS.STATE 0 = 1 ∧
      t.get GLB_BOOT_STATUS.STAGE 0 = 4 ∧ t.ch.drbg.isSome = true := by
  have hg : s.instantiate.rngStage = s.instantiate.stage 4 := by
    rw [State.rngStage, if_pos (by rw [State.instantiate_startsAt, h]), if_pos s.instantiate_state]
  refine ⟨(s.rngStart none).closed, rfl, ?_⟩
  rw [State.closed_get _ rfl, State.closed_get _ rfl, State.closed_ch, State.rngStart_passed h hn hp, hg]
  refine ⟨?_, ?_, ?_⟩
  · exact ((Aside.of_get (by decide) 0).vnrResume _).trans
      ((State.get_set_field _ (by decide) _ _ _).trans s.instantiate_state)
  · exact ((Aside.of_get (by decide) 0).vnrResume _).trans (State.get_set_self _ _ _ _)
  · exact (Aside.drbgIsSome.vnrResume _).trans s.instantiate_drbg

/-- The source fails: re-runs begin and start-up waits (R221). -/
theorem rngStart_fail {s : State} (h : s.startsAt 3 = true) (hn : s.get RNG_STATUS.STATE 0 = 0)
    (hp : s.on RNG_STATUS.PATTERN 0 = false) (f : HealthFail) :
    ∃ t, exec (.rngStartupTestComplete (some f)) s = .next t ∧ t.get RNG_STATUS.STATE 0 = 2 ∧
      t.get GLB_BOOT_STATUS.STAGE 0 = 3 ∧ t.ch.drbg = none := by
  have hst := s.healthFail_state f
  have hg : (s.healthFail f).rngStage = s.healthFail f := by
    unfold State.rngStage
    rw [hst]
    simp [rngRERUN, rngREADY, rngFAILED]
  have hv : (s.healthFail f).vnrResume = s.healthFail f := by
    rw [State.vnrResume, if_neg]
    rintro ⟨e, -⟩
    exact absurd (hst.symm.trans e) (by decide)
  have hstage : (s.healthFail f).get GLB_BOOT_STATUS.STAGE 0 = s.get GLB_BOOT_STATUS.STAGE 0 :=
    (Aside.of_get (by decide) 0).healthFail (fun _ => rfl) (fun s => State.get_set_field s (by decide) _ _ _) s f
  refine ⟨(s.rngStart (some f)).closed, rfl, ?_⟩
  rw [State.closed_get _ rfl, State.closed_get _ rfl, State.closed_ch, State.rngStart_failed h hn hp, hg, hv]
  exact ⟨hst, hstage.trans ((s.startsAt_iff 3).mp h).2.1, s.healthFail_drbg f⟩

/-! Step 6: the choice of a copy (R427). -/

/-- An image carries the number of the copy it was read from. -/
theorem imageOf_source {o : List Octet} {source : Nat} {i : Image} (h : imageOf o source = some i) : i.source = source := by
  unfold imageOf at h
  simp only at h
  split at h
  · split at h
    · split at h
      · obtain rfl := Option.some.inj h; rfl
      · cases h
    · cases h
  · cases h

theorem State.candidate_source {s : State} {c : FlashRead} {source : Nat} {i : Image}
    (h : s.candidate c source = .inr i) : i.source = source := by
  unfold State.candidate at h
  split at h
  · cases h
  · split at h
    · cases h
    · split at h
      · cases h
      · rename_i hi
        split at h
        · cases h
        · obtain rfl := Sum.inr.inj h
          exact imageOf_source hi

/-- What is found of a copy that is no candidate fits COPY_A and COPY_B. -/
theorem State.candidate_code_lt {s : State} {c : FlashRead} {source x : Nat} (h : s.candidate c source = .inl x) :
    x < 2 ^ 4 := by
  unfold State.candidate at h
  split at h
  · obtain rfl := Sum.inl.inj h; decide
  · split at h
    · obtain rfl := Sum.inl.inj h; decide
    · split at h
      · obtain rfl := Sum.inl.inj h; decide
      · split at h
        · obtain rfl := Sum.inl.inj h; decide
        · cases h

/-- A rightly signed copy is selected at its first verification, with no PKE fault standing. -/
theorem State.copyPick_signed {s : State} {x : Image × List Octet} (y : Option (Image × List Octet))
    (put : Nat → Nat → Nat → State) (hk : s.get PKE_STATUS.STATE 0 = 0) (hf : s.ch.pkeBoot = 0)
    (hs : s.signedOk x.2 = true) : s.copyPick x y put = (put 1 6 x.1.source).copyRuns x.1 := by
  have hv : s.copyVerify x.2 s.ch.pkeBoot = (true, 0) := by
    simp [State.copyVerify, hs, hf, State.pkeRetired, hk]
  simp [State.copyPick, hv]

/-- The running image's registers are none of GLB_BOOT_STATUS. -/
theorem State.runImage_get (s : State) (i : Image) {f : Fld}
    (hf : f.id % 2048 ∉ [JIG_RUN_SEQ.V.id, JIG_RUN_SVN.SVN.id, JIG_RUN_SVN.AUTO_MODE.id, JIG_RUN_SVN.SOURCE.id,
      JIG_RUN_HASH.V.id]) (j : Nat) : (s.runImage i).get f j = s.get f j := by
  simp only [List.mem_cons, List.not_mem_nil, or_false, not_or] at hf
  obtain ⟨h1, h2, h3, h4, h5⟩ := hf
  unfold State.runImage State.putWords
  simp only
  rw [State.each_keep (fun s => s.get f j) _ _ (fun k s => State.get_set_field s h5 j _ _)]
  rw [State.get_set_field _ h4, State.get_set_field _ h3, State.get_set_field _ h2, State.get_set_field _ h1]
  rfl

theorem State.runImage_image (s : State) (i : Image) : (s.runImage i).jg.image = some i := by
  unfold State.runImage State.putWords
  simp only
  refine (State.each_keep (·.jg) _ _ (fun _ _ => ?_) _ |> congrArg (·.image)).trans ?_
  · exact State.set_jg ..
  · simp only [State.set_jg]

/-- A selected copy: COPY_A, COPY_B, SELECTED, the stage and the running image (R61, R427). -/
theorem State.copyRuns_closed (s : State) {a b sel : Nat} (i : Image) (ha : a < 2 ^ 4) (hb : b < 2 ^ 4) (hsel : sel < 2 ^ 1) :
    ((s.copies a b sel).copyRuns i).closed.get GLB_BOOT_STATUS.STAGE 0 = 6 ∧
    ((s.copies a b sel).copyRuns i).closed.get GLB_BOOT_STATUS.COPY_A 0 = a ∧
    ((s.copies a b sel).copyRuns i).closed.get GLB_BOOT_STATUS.COPY_B 0 = b ∧
    ((s.copies a b sel).copyRuns i).closed.get GLB_BOOT_STATUS.SELECTED 0 = sel ∧
    ((s.copies a b sel).copyRuns i).closed.jg.image = some i := by
  refine ⟨?_, ?_, ?_, ?_, ?_⟩
  · rw [State.closed_get _ rfl]; exact State.get_set_self _ _ _ _
  · rw [State.closed_get _ rfl, State.copyRuns, State.get_set_field _ (by decide), State.runImage_get _ _ (by decide),
      State.copies, State.get_set_field _ (by decide), State.get_set_field _ (by decide), State.get_set_self]
    exact Nat.mod_eq_of_lt ha
  · rw [State.closed_get _ rfl, State.copyRuns, State.get_set_field _ (by decide), State.runImage_get _ _ (by decide),
      State.copies, State.get_set_field _ (by decide), State.get_set_self]
    exact Nat.mod_eq_of_lt hb
  · rw [State.closed_get _ rfl, State.copyRuns, State.get_set_field _ (by decide), State.runImage_get _ _ (by decide),
      State.copies, State.get_set_self]
    exact Nat.mod_eq_of_lt hsel
  · rw [State.closed_jg, State.copyRuns, State.set_jg, State.runImage_image]

section
variable {s : State} {a b : FlashRead}

/-- At step 6, with a PKE that is READY, what is found of the two copies decides. -/
theorem State.imageSelect_at_step (h : s.startsAt 5 = true) (hk : s.get PKE_STATUS.STATE 0 = 0) :
    ¬(s.startsAt 5 = false ∨ s.get PKE_STATUS.STATE 0 = 1) := by simp [h, hk]

/-- Without a candidate start-up stops with CODE 1 (R61). -/
theorem imageSelect_none (h : s.startsAt 5 = true) (hk : s.get PKE_STATUS.STATE 0 = 0) {x y : Nat}
    (ha : s.candidate a 0 = .inl x) (hb : s.candidate b 1 = .inl y) :
    ∃ t, exec (.imageSelect a b) s = .next t ∧ t.get GLB_BOOT_STATUS.CODE 0 = 1 ∧ t.get GLB_BOOT_STATUS.COPY_A 0 = x ∧
      t.get GLB_BOOT_STATUS.COPY_B 0 = y ∧ t.get GLB_BOOT_STATUS.STAGE 0 = 5 := by
  have e : s.imageSelect a b = (s.copies x y 0).set GLB_BOOT_STATUS.CODE 0 1 := by
    rw [State.imageSelect, if_neg (State.imageSelect_at_step h hk), ha, hb]
  refine ⟨(s.imageSelect a b).closed, rfl, ?_, ?_, ?_, ?_⟩ <;> rw [State.closed_get _ rfl, e]
  · exact State.get_set_self _ _ _ _
  · rw [State.get_set_field _ (by decide), State.copies, State.get_set_field _ (by decide),
      State.get_set_field _ (by decide), State.get_set_self]
    exact Nat.mod_eq_of_lt (State.candidate_code_lt ha)
  · rw [State.get_set_field _ (by decide), State.copies, State.get_set_field _ (by decide), State.get_set_self]
    exact Nat.mod_eq_of_lt (State.candidate_code_lt hb)
  · rw [State.get_set_field _ (by decide), State.copies, State.get_set_field _ (by decide),
      State.get_set_field _ (by decide), State.get_set_field _ (by decide)]
    exact ((s.startsAt_iff 5).mp h).2.1

/-- A sole candidate in copy A. -/
theorem imageSelect_sole_a (h : s.startsAt 5 = true) (hk : s.get PKE_STATUS.STATE 0 = 0) (hf : s.ch.pkeBoot = 0)
    {i : Image} {y : Nat} (ha : s.candidate a 0 = .inr i) (hs : s.signedOk (readOctets a) = true)
    (hb : s.candidate b 1 = .inl y) :
    ∃ t, exec (.imageSelect a b) s = .next t ∧ t.get GLB_BOOT_STATUS.STAGE 0 = 6 ∧ t.get GLB_BOOT_STATUS.COPY_A 0 = 1 ∧
      t.get GLB_BOOT_STATUS.COPY_B 0 = y ∧ t.get GLB_BOOT_STATUS.SELECTED 0 = 0 ∧ t.jg.image = some i := by
  have e : s.imageSelect a b = (s.copies 1 y i.source).copyRuns i := by
    rw [State.imageSelect, if_neg (State.imageSelect_at_step h hk), ha, hb]
    exact State.copyPick_signed _ _ hk hf hs
  rw [State.candidate_source ha] at e
  refine ⟨(s.imageSelect a b).closed, rfl, ?_⟩
  rw [e]
  exact State.copyRuns_closed s i (by decide) (State.candidate_code_lt hb) (by decide)

/-- A sole candidate in copy B. -/
theorem imageSelect_sole_b (h : s.startsAt 5 = true) (hk : s.get PKE_STATUS.STATE 0 = 0) (hf : s.ch.pkeBoot = 0)
    {i : Image} {x : Nat} (hb : s.candidate b 1 = .inr i) (hs : s.signedOk (readOctets b) = true)
    (ha : s.candidate a 0 = .inl x) :
    ∃ t, exec (.imageSelect a b) s = .next t ∧ t.get GLB_BOOT_STATUS.STAGE 0 = 6 ∧ t.get GLB_BOOT_STATUS.COPY_A 0 = x ∧
      t.get GLB_BOOT_STATUS.COPY_B 0 = 1 ∧ t.get GLB_BOOT_STATUS.SELECTED 0 = 1 ∧ t.jg.image = some i := by
  have e : s.imageSelect a b = (s.copies x 1 i.source).copyRuns i := by
    rw [State.imageSelect, if_neg (State.imageSelect_at_step h hk), ha, hb]
    exact State.copyPick_signed _ _ hk hf hs
  rw [State.candidate_source hb] at e
  refine ⟨(s.imageSelect a b).closed, rfl, ?_⟩
  rw [e]
  exact State.copyRuns_closed s i (State.candidate_code_lt ha) (by decide) (by decide)

/-- Two candidates, copy A's at least as new. -/
theorem imageSelect_first_a (h : s.startsAt 5 = true) (hk : s.get PKE_STATUS.STATE 0 = 0) (hf : s.ch.pkeBoot = 0)
    {i j : Image} (ha : s.candidate a 0 = .inr i) (hb : s.candidate b 1 = .inr j) (hij : j.seq ≤ i.seq)
    (hs : s.signedOk (readOctets a) = true) :
    ∃ t, exec (.imageSelect a b) s = .next t ∧ t.get GLB_BOOT_STATUS.STAGE 0 = 6 ∧ t.get GLB_BOOT_STATUS.COPY_A 0 = 1 ∧
      t.get GLB_BOOT_STATUS.COPY_B 0 = 6 ∧ t.get GLB_BOOT_STATUS.SELECTED 0 = 0 ∧ t.jg.image = some i := by
  have e : s.imageSelect a b = (s.copies 1 6 i.source).copyRuns i := by
    rw [State.imageSelect, if_neg (State.imageSelect_at_step h hk), ha, hb]
    exact (if_neg (Nat.not_lt.mpr hij)).trans (State.copyPick_signed _ _ hk hf hs)
  rw [State.candidate_source ha] at e
  refine ⟨(s.imageSelect a b).closed, rfl, ?_⟩
  rw [e]
  exact State.copyRuns_closed s i (by decide) (by decide) (by decide)

/-- Two candidates, copy B's newer. -/
theorem imageSelect_first_b (h : s.startsAt 5 = true) (hk : s.get PKE_STATUS.STATE 0 = 0) (hf : s.ch.pkeBoot = 0)
    {i j : Image} (ha : s.candidate a 0 = .inr i) (hb : s.candidate b 1 = .inr j) (hij : i.seq < j.seq)
    (hs : s.signedOk (readOctets b) = true) :
    ∃ t, exec (.imageSelect a b) s = .next t ∧ t.get GLB_BOOT_STATUS.STAGE 0 = 6 ∧ t.get GLB_BOOT_STATUS.COPY_A 0 = 6 ∧
      t.get GLB_BOOT_STATUS.COPY_B 0 = 1 ∧ t.get GLB_BOOT_STATUS.SELECTED 0 = 1 ∧ t.jg.image = some j := by
  have e : s.imageSelect a b = (s.copies 6 1 j.source).copyRuns j := by
    rw [State.imageSelect, if_neg (State.imageSelect_at_step h hk), ha, hb]
    exact (if_pos hij).trans (State.copyPick_signed _ _ hk hf hs)
  rw [State.candidate_source hb] at e
  refine ⟨(s.imageSelect a b).closed, rfl, ?_⟩
  rw [e]
  exact State.copyRuns_closed s j (by decide) (by decide) (by decide)

end

end Sys2Proof.Machine
end
/-! Step 8 of start-up (R180, R424). -/
section
namespace Sys2Proof.Machine

/-! No restore and no unwrap holds or releases the officer bootstrap (R182). -/

@[simp] theorem State.persist_bootHeld (s : State) (slot : Nat) : (s.persist slot).2.ke.bootHeld = s.ke.bootHeld := by
  unfold State.persist; split <;> rfl

@[simp] theorem State.unpersist_bootHeld (s : State) (slot : Nat) : (s.unpersist slot).ke.bootHeld = s.ke.bootHeld := by
  unfold State.unpersist; split <;> rfl

@[simp] theorem State.slotPlace_bootHeld (s : State) (slot : Nat) (key : List Octet) (klen origin : Nat)
    (parent : Option Nat) : (s.slotPlace slot key klen origin parent).ke.bootHeld = s.ke.bootHeld := by
  unfold State.slotPlace
  simp only
  split
  · rw [State.persist_bootHeld]; rfl
  · rfl

@[simp] theorem State.slotFixed_bootHeld (s : State) (slot : Nat) (key : List Octet) (klen origin : Nat)
    (parent : Option Nat) : (s.slotFixed slot key klen origin parent).ke.bootHeld = s.ke.bootHeld :=
  State.slotPlace_bootHeld _ _ _ _ _ _

@[simp] theorem State.slotFill_bootHeld (s : State) (slot : Nat) (key : List Octet) (origin : Nat) (parent : Option Nat)
    (fresh : Bool) : (s.slotFill slot key origin parent fresh).ke.bootHeld = s.ke.bootHeld := by
  unfold State.slotFill
  simp only [State.slotPlace_bootHeld]
  split
  · split <;> rfl
  · rfl

theorem State.writeField_ke (s : State) (f : Fld) (i flo wlo wd v : Nat) : (s.writeField f i flo wlo wd v).1.ke = s.ke := by
  unfold State.writeField
  simp only
  split
  · split <;> rfl
  · rfl
  · rfl
  · rfl

@[simp] theorem State.writeWord_ke (s : State) (r : Reg) (i w v : Nat) : (s.writeWord r i w v).1.ke = s.ke := by
  unfold State.writeWord
  generalize r.inWord w = l
  generalize false = bad
  induction l generalizing s bad with
  | nil => rfl
  | cons x l ih =>
    rw [List.foldl_cons]
    exact (ih _ _).trans (State.writeField_ke ..)

/-- Both ways of a choice leave a part of the state as it is. -/
theorem State.ite_part {β : Type} {φ : State → β} {b : β} {c : Prop} [Decidable c] {x y : State} (hx : φ x = b)
    (hy : φ y = b) : φ (if c then x else y) = b := by split <;> assumption

@[simp] theorem State.slotWrite_bootHeld (s : State) (w : Writer) (slot word v : Nat) :
    (s.slotWrite w slot word v).ke.bootHeld = s.ke.bootHeld := by
  have hn : (s.writeWord reg_KST_SLOT slot word v).1.ke = s.ke := State.writeWord_ke ..
  have hrej : ∀ cause off, (s.reject w cause true off).ke.bootHeld = s.ke.bootHeld := fun _ _ => by rw [State.reject_ke]
  unfold State.slotWrite
  generalize (s.writeWord reg_KST_SLOT slot word v).1 = n at hn ⊢
  have hm : ∀ (c : Prop) [Decidable c], (if c then n.set KST_SLOT.STATE slot 3 else n).ke.bootHeld = s.ke.bootHeld :=
    fun c _ => State.ite_part (φ := fun s => s.ke.bootHeld) (by rw [State.set_ke, hn]) (by rw [hn])
  have pick := @State.ite_part Bool (fun s => s.ke.bootHeld) s.ke.bootHeld
  exact pick rfl (pick (hrej _ _) (pick (hrej _ _) (pick (by rw [hn]) (pick (hrej _ _) (pick (hrej _ _)
    (pick (pick ((State.unpersist_bootHeld _ _).trans (hm _)) ((State.persist_bootHeld _ _).trans (hm _))) (hm _)))))))

theorem State.recInstall_bootHeld (s : State) (n : Nat) : (s.recInstall n).ke.bootHeld = s.ke.bootHeld := by
  unfold State.recInstall State.recAttrs
  simp only
  split
  · rfl
  · split <;> simp

theorem State.recEnd_bootHeld (s : State) (n : Nat) : (s.recEnd n).ke.bootHeld = s.ke.bootHeld := by
  unfold State.recEnd
  simp only
  split
  · exact State.recInstall_bootHeld s n
  · rfl
  · rfl

theorem State.kramRestore_bootHeld (s : State) (j : Nat) : (s.kramRestore j).ke.bootHeld = s.ke.bootHeld := by
  have hw : ∀ r i w v, (s.writeWord r i w v).1.ke.bootHeld = s.ke.bootHeld := fun r i w v => by rw [State.writeWord_ke]
  unfold State.kramRestore
  simp only
  split
  · rfl
  · split
    · split
      · simp only [State.turn, State.set_ke]
        exact hw ..
      · rfl
    · rfl

theorem State.records_bootHeld (s : State) : s.recBegin.recsEnd.ke.bootHeld = s.ke.bootHeld := by
  have hk := State.each_keep (fun s => s.ke.bootHeld) (upto 32) (fun j s => s.kramRestore j)
    (fun j s => State.kramRestore_bootHeld s j) s
  have hb : s.recBegin.ke.bootHeld = s.ke.bootHeld := by
    unfold State.recBegin
    split
    · rfl
    · dsimp only
      exact hk
  have hr := State.each_keep (fun s => s.ke.bootHeld)
    ((upto s.recBegin.imageKeys.length).drop s.recBegin.jg.recNext) (fun n s => s.recEnd n)
    (fun n s => State.recEnd_bootHeld s n) s.recBegin
  rw [State.recsEnd]
  exact hr.trans hb

/-- The keys that step 8 leaves (R180, R424): those of the key RAM and the records, unless an erase has come. -/
def State.keysRestored (s : State) : State := if s.keysLost then s else { s.recBegin.recsEnd with ch.chsJob := none }

theorem State.keysRestored_slotKey (s : State) :
    s.keysRestored.ke.slotKey = if s.keysLost then s.ke.slotKey else s.recBegin.recsEnd.ke.slotKey := by
  unfold State.keysRestored; split <;> rfl

theorem State.keysRestored_bootHeld (s : State) : s.keysRestored.ke.bootHeld = s.ke.bootHeld := by
  unfold State.keysRestored
  split
  · rfl
  · exact State.records_bootHeld s

/-- Veneer's keys, where it is enabled (R299). -/
def State.veneerKeyed (s : State) : State := if s.on VNR_CTL.EN 0 && !s.keysLost then s.vnrStart else s

theorem State.veneerKeyed_ke (s : State) : s.veneerKeyed.ke = s.ke := by
  unfold State.veneerKeyed
  split
  · exact Aside.ke.vnrStart s
  · rfl

/-- Step 8, with no unwrap waiting for the engine and no bootstrap held (R60, R182). -/
theorem State.keyStage_at_step {s : State} (h : s.startsAt 7 = true) (he : s.get CHS_ENGINE.STATE 0 ≠ 1)
    (hb : s.ke.bootHeld = false) : s.keyStage = s.keysRestored.veneerKeyed.stage 8 := by
  have hh : (s.keysRestored.veneerKeyed.stage 8).ke.bootHeld = false := by
    rw [State.stage, State.set_ke, State.veneerKeyed_ke, State.keysRestored_bootHeld, hb]
  have e : s.keyStage = if (s.keysRestored.veneerKeyed.stage 8).ke.bootHeld then
      (s.keysRestored.veneerKeyed.stage 8).bootstrap else s.keysRestored.veneerKeyed.stage 8 := by
    rw [State.keyStage, if_neg (by simp [h, he])]
    rfl
  rw [e, if_neg (by simp [hh])]

/-- The slots are filled from the key RAM and the records unless an erase has come (R180, R424). -/
theorem keyRecordUnwrap_at_step {s : State} (h : s.startsAt 7 = true) (he : s.get CHS_ENGINE.STATE 0 ≠ 1)
    (hb : s.ke.bootHeld = false) :
    ∃ t, exec .keyRecordUnwrap s = .next t ∧ t.get GLB_BOOT_STATUS.STAGE 0 = 8 ∧
      t.ke.slotKey = if s.keysLost then s.ke.slotKey else s.recBegin.recsEnd.ke.slotKey := by
  refine ⟨s.keyStage.closed, rfl, ?_, ?_⟩ <;> rw [State.keyStage_at_step h he hb]
  · rw [State.closed_get _ rfl]; exact State.get_set_self _ _ _ _
  · rw [State.closed_ke, State.stage, State.set_ke, State.veneerKeyed_ke, State.keysRestored_slotKey]

end Sys2Proof.Machine
end
/-! Steps 9 and 13 of start-up and the request of AUTO_MODE. -/
section
namespace Sys2Proof.Machine

/-! Step 9: the channels (R341, R455). -/

/-- A field that each update of a list writes at its own index only. -/
theorem State.get_each_index {f : Fld} {v : Nat → Nat} {g : Nat → State → State}
    (hself : ∀ a s, (g a s).get f a = v a) (hother : ∀ a b s, b ≠ a → (g a s).get f b = s.get f b) (l : List Nat)
    (s : State) (c : Nat) : (s.each l g).get f c = if c ∈ l then v c else s.get f c := by
  induction l generalizing s with
  | nil => rfl
  | cons a l ih =>
    have e : (s.each (a :: l) g).get f c = ((g a s).each l g).get f c := rfl
    rw [e, ih]
    by_cases hc : c = a
    · subst hc
      simp [hself]
    · simp [List.mem_cons, hc, hother a c s hc]

/-- Fields of different numbers, or of different indices, lie apart in the register store. -/
theorem Fld.key_ne {f g : Fld} (hf : f.id < 2048) (hg : g.id < 2048) {b c : Nat} (h : b ≠ c) : f.key b ≠ g.key c := by
  simp only [Fld.key]
  omega

theorem State.get_set_other {s : State} {f g : Fld} (hf : f.id < 2048) (hg : g.id < 2048) {b c : Nat} (h : b ≠ c) (v : Nat) :
    (s.set g c v).get f b = s.get f b := by
  rw [State.get_set, if_neg (Fld.key_ne hf hg h)]

/-- What the training shows of channel c: its identity, and that it is in use (R455). -/
def State.chanShow (s : State) (x : ChanId) (c : Nat) : State :=
  (((s.set MEM_CH.MR5 c x.mr5.toNat).set MEM_CH.MR6 c x.mr6.toNat).set MEM_CH.MR8 c x.mr8.toNat).set MEM_CH.STATE c 2

section
variable (s : State) (x : ChanId) (c : Nat)

theorem State.chanShow_state : (s.chanShow x c).get MEM_CH.STATE c = 2 := State.get_set_self _ _ _ _

theorem State.chanShow_mr5 : (s.chanShow x c).get MEM_CH.MR5 c = x.mr5.toNat := by
  simp (disch := decide) only [State.chanShow, State.get_set_field, State.get_set_self]
  exact Nat.mod_eq_of_lt x.mr5.isLt

theorem State.chanShow_mr6 : (s.chanShow x c).get MEM_CH.MR6 c = x.mr6.toNat := by
  simp (disch := decide) only [State.chanShow, State.get_set_field, State.get_set_self]
  exact Nat.mod_eq_of_lt x.mr6.isLt

theorem State.chanShow_mr8 : (s.chanShow x c).get MEM_CH.MR8 c = x.mr8.toNat := by
  simp (disch := decide) only [State.chanShow, State.get_set_field, State.get_set_self]
  exact Nat.mod_eq_of_lt x.mr8.isLt

theorem State.chanShow_other {f : Fld} (hf : f.id < 2048) {b : Nat} (h : b ≠ c) :
    (s.chanShow x c).get f b = s.get f b := by
  rw [State.chanShow, State.get_set_other hf (by decide) h, State.get_set_other hf (by decide) h,
    State.get_set_other hf (by decide) h, State.get_set_other hf (by decide) h]

end

/-- The channel that a training list names, one that failed where it names none. -/
def chanAt (chans : List ChanId) (c : Nat) : ChanId := chans.getD c ⟨false, 0, 0, 0⟩

/-- Channel c fails: its training, or the MR8 of channel 0 (R341). -/
def chanFails (chans : List ChanId) (c : Nat) : Bool := !(chanAt chans c).ok || (chanAt chans c).mr8 != (chanAt chans 0).mr8

/-- The capacity is known; a DATA_P8 above its bound is a reserved encoding (R298). -/
def State.capacityKnown (s : State) (pages : Nat) : State :=
  let s := { s with vn.capPages := pages }
  if s.layoutBound < s.get VNR_LAYOUT.DATA_P8 0 then
    (s.set VNR_LAYOUT.DATA_P8 0 0).reject .jig 1 false reg_VNR_LAYOUT.base
  else s

/-- The channels as the training shows them, before the failed ones are fenced. -/
def State.chansShown (s : State) (chans : List ChanId) : State :=
  s.each (upto 32) (fun c s => s.chanShow (chanAt chans c) c)

/-- The channels that fail are fenced (R341). -/
def State.chansFenced (s : State) (chans : List ChanId) : State :=
  s.each ((upto 32).filter (chanFails chans)) (fun c s => s.chanFence c)

theorem State.memTrained_at_step {s : State} (h : s.startsAt 8 = true) (pages : Nat) (chans : List ChanId) :
    s.memTrained pages chans =
      ((((s.capacityKnown pages).chansShown chans).chansFenced chans).floorCheck.stage 9).lanesStage := by
  rw [State.memTrained, if_pos h]
  rfl

/-! What the parts of the step keep. -/

theorem State.lanesStage_get (s : State) {f : Fld} (hf : f.id % 2048 ≠ GLB_BOOT_STATUS.STAGE.id % 2048) (i : Nat) :
    s.lanesStage.get f i = s.get f i := by
  unfold State.lanesStage
  split
  · exact State.get_set_field s hf i _ _
  · rfl

theorem State.lanesStage_vn (s : State) : s.lanesStage.vn = s.vn := by
  unfold State.lanesStage; split <;> rfl

/-- Start-up does not fall back behind step 9. -/
theorem State.lanesStage_stage_ge {s : State} (h : 9 ≤ s.get GLB_BOOT_STATUS.STAGE 0) :
    9 ≤ s.lanesStage.get GLB_BOOT_STATUS.STAGE 0 := by
  unfold State.lanesStage
  split
  · rw [State.get_set_self]
    split <;> decide
  · exact h

theorem State.chansShown_vn (s : State) (chans : List ChanId) : (s.chansShown chans).vn = s.vn :=
  State.each_keep (·.vn) (upto 32) (fun c s => s.chanShow (chanAt chans c) c) (fun _ _ => rfl) s

/-- Beside their states the fenced channels move nothing that start-up reads. -/
theorem Aside.chansFenced {β : Type} {φ : State → β} (h : Aside φ) (hc : ∀ s c v, φ (State.set s MEM_CH.STATE c v) = φ s)
    (s : State) (chans : List ChanId) : φ (s.chansFenced chans) = φ s :=
  State.each_keep φ ((upto 32).filter (chanFails chans)) (fun c s => s.chanFence c)
    (fun c s => h.chanFence (fun s v => hc s c v) s) s

theorem State.capacityKnown_capPages (s : State) (pages : Nat) : (s.capacityKnown pages).vn.capPages = pages := by
  unfold State.capacityKnown
  simp only
  split
  · rw [State.reject_vn]; rfl
  · rfl

theorem mem_upto {c n : Nat} : c ∈ upto n ↔ c < n := by simp [upto]

section
variable (s : State) (pages : Nat) (chans : List ChanId) {c : Nat}

/-- The identity of every channel is shown, fenced or not. -/
theorem State.fenced_identity {f : Fld} {v : ChanId → Nat} (hf : f.id < 2048) (hb : f.id % 2048 ∈ bootFields)
    (hn : f.id % 2048 ≠ MEM_CH.STATE.id % 2048) (hv : ∀ (s : State) x c, (s.chanShow x c).get f c = v x) (hc : c < 32) :
    ((s.chansShown chans).chansFenced chans).get f c = v (chanAt chans c) := by
  refine ((Aside.of_get hb c).chansFenced (fun s d w => State.get_set_field s hn c d w) _ chans).trans ?_
  refine (State.get_each_index (v := fun a => v (chanAt chans a)) (fun a s => hv s _ a)
    (fun a b s h => State.chanShow_other s _ a hf h) (upto 32) s c).trans ?_
  exact if_pos (mem_upto.mpr hc)

/-- A channel that fails reads FENCED, every other one in use. -/
theorem State.fenced_state (hc : c < 32) :
    ((s.chansShown chans).chansFenced chans).get MEM_CH.STATE c = if chanFails chans c then 4 else 2 := by
  have hshow : (s.chansShown chans).get MEM_CH.STATE c = 2 :=
    (State.get_each_index (v := fun _ => 2) (fun a s => State.chanShow_state s _ a)
      (fun a b s h => State.chanShow_other s _ a (by decide) h) (upto 32) s c).trans (if_pos (mem_upto.mpr hc))
  have hother : ∀ (a b : Nat) (s : State), b ≠ a → (s.chanFence a).get MEM_CH.STATE b = s.get MEM_CH.STATE b :=
    fun a b s h => (Aside.of_get (by decide) b).chanFence (fun s v => State.get_set_index s _ h v) s
  refine (State.get_each_index (v := fun _ => 4) (fun a s => State.chanFence_state s a) hother
    ((upto 32).filter (chanFails chans)) (s.chansShown chans) c).trans ?_
  simp [hshow, mem_upto, hc]

end

/-- A field of a channel after step 9 is what the training and the fences left. -/
theorem State.memTrained_get {s : State} (h : s.startsAt 8 = true) (pages : Nat) (chans : List ChanId) {f : Fld}
    (hb : f.id % 2048 ∈ bootFields) (hs : f.id % 2048 ≠ GLB_BOOT_STATUS.STAGE.id % 2048) (c : Nat) :
    (s.memTrained pages chans).get f c =
      (((s.capacityKnown pages).chansShown chans).chansFenced chans).get f c := by
  rw [State.memTrained_at_step h, State.lanesStage_get _ hs, State.stage, State.get_set_field _ hs]
  exact (Aside.of_get hb c).floorCheck _

/-- Step 9 (R297, R341, R455). -/
theorem lpddr5xTrainingComplete_at_step {s : State} (h : s.startsAt 8 = true) (pages : Nat) (chans : List ChanId) :
    ∃ t, exec (.lpddr5xTrainingComplete pages chans) s = .next t ∧ t.vn.capPages = pages ∧
      9 ≤ t.get GLB_BOOT_STATUS.STAGE 0 ∧
      ∀ (c : Fin 32) (x y : ChanId), chans[c.val]? = some x → chans[0]? = some y →
        t.get MEM_CH.STATE c.val = (if x.ok && x.mr8 == y.mr8 then 2 else 4) ∧
        t.get MEM_CH.MR5 c.val = x.mr5.toNat ∧ t.get MEM_CH.MR6 c.val = x.mr6.toNat ∧
          t.get MEM_CH.MR8 c.val = x.mr8.toNat := by
  refine ⟨(s.memTrained pages chans).closed, rfl, ?_, ?_, fun c x y hx hy => ?_⟩
  · rw [State.closed_vn, State.memTrained_at_step h, State.lanesStage_vn, State.stage, State.set_vn]
    refine (Aside.capPages.floorCheck _).trans ((Aside.capPages.chansFenced (fun _ _ _ => rfl) _ chans).trans ?_)
    rw [State.chansShown_vn, State.capacityKnown_capPages]
  · rw [State.closed_get _ rfl, State.memTrained_at_step h]
    exact State.lanesStage_stage_ge (by rw [State.stage, State.get_set_self]; decide)
  · have hcx : chanAt chans c.val = x := by simp [chanAt, hx]
    have hcy : chanAt chans 0 = y := by simp [chanAt, hy]
    refine ⟨?_, ?_, ?_, ?_⟩ <;> rw [State.closed_get _ rfl, State.memTrained_get h _ _ (by decide) (by decide)]
    · rw [State.fenced_state _ _ c.isLt, chanFails, hcx, hcy]
      cases x.ok <;> by_cases he : x.mr8 = y.mr8 <;> simp [he]
    · rw [State.fenced_identity (v := fun x => x.mr5.toNat) _ _ (by decide) (by decide) (by decide) State.chanShow_mr5 c.isLt, hcx]
    · rw [State.fenced_identity (v := fun x => x.mr6.toNat) _ _ (by decide) (by decide) (by decide) State.chanShow_mr6 c.isLt, hcx]
    · rw [State.fenced_identity (v := fun x => x.mr8.toNat) _ _ (by decide) (by decide) (by decide) State.chanShow_mr8 c.isLt, hcx]

/-! Step 13 (R45, R59, R62). -/

/-- A transition that begins moves IN_TRANSITION alone among the registers. -/
theorem State.begin_get (s : State) (x : Trans) {f : Fld} (hf : f.id % 2048 ≠ GLB_MODE.IN_TRANSITION.id % 2048) (i : Nat) :
    (s.begin x).get f i = s.get f i := State.get_set_field s hf i 0 1

/-- With an image, in PROVISIONED or OWNED and with the lanes up, the STANDBY overlay begins. -/
theorem bootComplete_begins {s : State} (h : s.startsAt 12 = true) {i : Image} (hi : s.jg.image = some i)
    (hl : s.lc.fuses.lcs = 2 ∨ s.lc.fuses.lcs = 3) (hh : s.hostLanesUp = true) (hn : s.lineLanesUp = true) :
    ∃ t, exec .bootComplete s = .next t ∧ t.md.trans = some ⟨mSTANDBY, mSTANDBY, 1, [2]⟩ ∧
      t.get GLB_MODE.IN_TRANSITION 0 = 1 := by
  have hf : s.lc.fuses.lcs ≠ 1 := by omega
  have hc : [2, 3].contains s.lc.fuses.lcs = true := by rcases hl with e | e <;> rw [e] <;> rfl
  have e : s.bootDone = s.begin ⟨mSTANDBY, mSTANDBY, 1, [2]⟩ := by
    simp only [State.bootDone, h, Bool.not_true, Bool.false_eq_true, if_false, if_neg hf, hi, hc, hh, hn,
      Option.isSome_some, Bool.and_true, if_true]
  have hm : s.bootDone.mode = mBOOT := by
    rw [e]
    exact (State.begin_get s _ (by decide) 0).trans ((s.startsAt_iff 12).mp h).1
  refine ⟨s.bootDone.closed, rfl, ?_, ?_⟩
  · rw [State.closed_trans_of_mode (by rw [hm]; decide) (by rw [hm]; decide), e]
    rfl
  · rw [State.closed_inTransition_of_mode (by rw [hm]; decide) (by rw [hm]; decide), e]
    exact State.get_set_self s GLB_MODE.IN_TRANSITION 0 1

/-- A part whose life cycle is FACTORY holds with CODE 7 (R62). -/
theorem bootComplete_factory {s : State} (h : s.startsAt 12 = true) (hl : s.lc.fuses.lcs = 1) :
    ∃ t, exec .bootComplete s = .next t ∧ t.get GLB_BOOT_STATUS.CODE 0 = 7 ∧ t.md.trans = none := by
  obtain ⟨hmode, -, -, ht⟩ := (s.startsAt_iff 12).mp h
  have e : s.bootDone = s.set GLB_BOOT_STATUS.CODE 0 7 := by simp [State.bootDone, h, hl]
  have hm : s.bootDone.mode = mBOOT := by
    rw [e]
    exact (State.get_set_field s (by decide) _ _ _).trans hmode
  refine ⟨s.bootDone.closed, rfl, ?_, ?_⟩
  · rw [State.closed_get _ rfl, e]; exact State.get_set_self s _ _ _
  · rw [State.closed_trans_of_mode (by rw [hm]; decide) (by rw [hm]; decide), e]
    exact ht

/-! The request of AUTO_MODE (R429). -/

/-- The first request of its KCLK cycle is kept (R47). -/
theorem State.modeRequest_of_quiet {s : State} (h : s.reqQuiet = true) (target src cause prio : Nat) :
    s.modeRequest target src cause prio = s.reqKeep ⟨target, src, cause⟩ prio := by
  unfold State.modeRequest
  simp only
  split
  · rename_i c hc
    have hq : c.cycle ≠ s.kclk := by simpa [State.reqQuiet, hc] using h
    simp [hq]
  · rfl

/-- From STANDBY a request for SECURE or GUARDED whose guards hold begins its transition (R45). -/
theorem State.evalReq_of_standby {s : State} {r : ModeReq} (hm : s.mode = mSTANDBY)
    (hr : r.target = mSECURE ∨ r.target = mGUARDED) (hg : s.failedGuard true (r.target == mGUARDED) = 0) :
    s.evalReq r = (s.reqResult r.src 1 0).begin ⟨r.target, r.target, r.cause, if r.target = mSECURE then [3] else [3, 4]⟩ := by
  obtain ⟨target, src, cause⟩ := r
  rcases hr with rfl | rfl <;> simp_all [State.evalReq, reqOverlays, mSTANDBY, mSECURE, mGUARDED, mDEGRADED]

/-- Beside its record of the cycle a kept request moves what its evaluation moves (R47). -/
theorem State.reqKeep_get {s : State} (h : s.md.trans = none) (r : ModeReq) (prio : Nat) (f : Fld) (i : Nat) :
    (s.reqKeep r prio).get f i = (s.evalReq r).get f i := by
  rw [State.reqKeep, if_pos h]; rfl

theorem State.reqKeep_trans {s : State} (h : s.md.trans = none) (r : ModeReq) (prio : Nat) :
    (s.reqKeep r prio).md.trans = (s.evalReq r).md.trans := by
  rw [State.reqKeep, if_pos h]

theorem State.reqKeep_jg {s : State} (h : s.md.trans = none) (r : ModeReq) (prio : Nat) :
    (s.reqKeep r prio).jg = (s.evalReq r).jg := by
  rw [State.reqKeep, if_pos h]

theorem State.reqResult_mode (s : State) (src res guard : Nat) : (s.reqResult src res guard).mode = s.mode := by
  simp (disch := decide) only [State.reqResult, State.mode, State.get_set_field]

theorem State.reqResult_src (s : State) (src res guard : Nat) :
    (s.reqResult src res guard).get GLB_MODE_REQ.SRC 0 = src % 2 ^ GLB_MODE_REQ.SRC.width := by
  simp (disch := decide) only [State.reqResult, State.get_set_field, State.get_set_self]

/-- The request of AUTO_MODE is no longer due. -/
def State.autoTaken (s : State) : State := { s with jg.autoDue := false }

theorem autoModeRequest_begins {s : State} {m : Nat} (hd : s.jg.autoDue = true)
    (hs : (s.ones GAU_SCH.VALID).all (fun j => s.schState j != 1) = true) (hm : s.mode = mSTANDBY)
    (ht : s.md.trans = none) (hq : s.reqQuiet = true) (ha : s.get JIG_RUN_SVN.AUTO_MODE 0 = m)
    (hr : m = mSECURE ∨ m = mGUARDED) (hg : s.failedGuard true (m == mGUARDED) = 0) :
    ∃ t, exec .autoModeRequest s = .next t ∧ t.jg.autoDue = false ∧ t.get GLB_MODE_REQ.SRC 0 = 3 ∧
      t.md.trans = some ⟨m, m, 4, if m = mSECURE then [3] else [3, 4]⟩ := by
  have hut : s.autoTaken.md.trans = none := ht
  have hev : s.autoTaken.evalReq ⟨m, 3, 4⟩ = (s.autoTaken.reqResult 3 1 0).begin ⟨m, m, 4, if m = mSECURE then [3] else [3, 4]⟩ :=
    State.evalReq_of_standby (s := s.autoTaken) (r := ⟨m, 3, 4⟩) hm hr hg
  have e : s.autoMode = s.autoTaken.reqKeep ⟨m, 3, 4⟩ prioAuto := by
    rw [State.autoMode, if_pos (by rw [hd, hs]; simp), ha]
    exact State.modeRequest_of_quiet (s := s.autoTaken) hq m 3 4 prioAuto
  have hmode : s.autoMode.mode = mSTANDBY := by
    rw [e, State.mode, State.reqKeep_get hut, hev, State.begin_get _ _ (by decide)]
    exact (State.reqResult_mode s.autoTaken 3 1 0).trans hm
  refine ⟨s.autoMode.closed, rfl, ?_, ?_, ?_⟩
  · rw [State.closed_jg, e, State.reqKeep_jg hut, hev]; rfl
  · rw [State.closed_get _ rfl, e, State.reqKeep_get hut, hev, State.begin_get _ _ (by decide)]
    exact State.reqResult_src s.autoTaken 3 1 0
  · rw [State.closed_trans_of_mode (by rw [hmode]; decide) (by rw [hmode]; decide), e, State.reqKeep_trans hut, hev]
    rfl

/-- Settles O10: each step of start-up at its stage, from what the step keeps of the state that start-up reads. -/
theorem startUpOutcomes : Obligations.StartUpOutcomes := by
  refine ⟨fun s h hn hp => ⟨rngStart_pass h hn hp, rngStart_fail h hn hp⟩, fun s a b h hk hf => ⟨?_, ?_, ?_, ?_⟩,
    fun s h he hb => keyRecordUnwrap_at_step h he hb, fun s pages chans h => lpddr5xTrainingComplete_at_step h pages chans,
    fun s h => ⟨?_, bootComplete_factory h⟩, ?_⟩
  · exact fun x y ha hb => imageSelect_none h hk ha hb
  · exact fun i y ha hs hb => imageSelect_sole_a h hk hf ha hs hb
  · exact fun i x hb hs ha => imageSelect_sole_b h hk hf hb hs ha
  · exact fun i j ha hb => ⟨imageSelect_first_a h hk hf ha hb, imageSelect_first_b h hk hf ha hb⟩
  · exact fun i hi hl hh hn => bootComplete_begins h hi hl hh hn
  · exact fun s m hd hs hm ht hq ha hr hg => autoModeRequest_begins hd hs hm ht hq ha hr hg

end Sys2Proof.Machine
end
/-! Deliveries and timers of the vectors: what an announcement, an unmasking and the end of a command keep of them. -/
section
namespace Sys2Proof.Machine

/-- A property of the state that running timers, starting deliveries and the wake pins leave alone. -/
structure TouchKeeps (P : State → Prop) : Prop where
  timer : ∀ (s : State) x, P s → P { s with ic.vecTimer := x }
  deliver : ∀ (s : State) p v, P s → P (s.deliver p v)
  wakePin : ∀ (s : State) p, P s → P (s.wakePin p)

/-- Such a property that an occurrence of a source leaves alone, too. -/
structure PendKeeps (P : State → Prop) : Prop extends TouchKeeps P where
  occurs : ∀ (s : State) o a, P s → P { s with ic.occ := o, ic.occAt := a }
  pending : ∀ (s : State) x, P s → P { s with ic.icu := x }

section
variable {β : Type} (φ : State → β) (ht : ∀ s x, φ { s with ic.vecTimer := x } = φ s)
  (hd : ∀ s x, φ { s with ic.deliveries := x } = φ s) (hout : ∀ s x, φ { s with out := x } = φ s)
  (hw : ∀ s p v, φ (State.set s ICU_PORT.WAKE p v) = φ s)
include ht hd hout hw

theorem TouchKeeps.of_eq (c : β) : TouchKeeps (fun s => φ s = c) where
  timer s x h := (ht s x).trans h
  deliver s p v h := by
    unfold State.deliver
    split
    · exact h
    · exact (hd s _).trans h
  wakePin s p h := (State.wakePin_keep φ hout hw s p).trans h

theorem PendKeeps.of_eq (ho : ∀ s o a, φ { s with ic.occ := o, ic.occAt := a } = φ s)
    (hi : ∀ s x, φ { s with ic.icu := x } = φ s) (c : β) : PendKeeps (fun s => φ s = c) where
  toTouchKeeps := TouchKeeps.of_eq φ ht hd hout hw c
  occurs s o a h := (ho s o a).trans h
  pending s x h := (hi s x).trans h

end

section
variable {P : State → Prop}

theorem TouchKeeps.touch (k : TouchKeeps P) {s : State} (h : P s) (p v : Nat) : P (s.touch p v) := by
  unfold State.touch
  simp only
  split
  · exact k.timer s _ h
  · split
    · exact h
    · have ht := k.timer s (s.ic.vecTimer.set 0 (64 * p + v) (s.mono + 1)) h
      split
      · split
        · exact k.deliver _ p v ht
        · exact ht
      · split
        · exact k.deliver _ p v h
        · exact h

theorem TouchKeeps.touchSrc (k : TouchKeeps P) {s : State} (h : P s) (i : Nat) : P (s.touchSrc i) :=
  State.each_induct P (fun p s => k.wakePin s p) (k.touch (k.touch h _ _) _ _)

theorem TouchKeeps.touchAll (k : TouchKeeps P) {s : State} (h : P s) : P s.touchAll :=
  State.each_induct P (fun p s => k.wakePin s p) (State.each_induct P (fun _ _ hs => k.touch hs _ _) h)

theorem PendKeeps.pend (k : PendKeeps P) {s : State} (h : P s) (i : Nat) : P (s.pend i) := by
  unfold State.pend
  simp only
  split
  · exact k.occurs s _ _ h
  · exact k.touchSrc (k.pending _ _ (k.occurs s _ _ h)) i

theorem PendKeeps.count (k : PendKeeps P) {f : Fld} (hw : ∀ s x, P s → P { s with wraps := x })
    (hf : ∀ s i v, P s → P (State.set s f i v)) {s : State} (h : P s) (i n : Nat) : P (s.count f i n) := by
  unfold State.count State.wrapBit
  simp only
  split
  · split
    · exact hf s i _ h
    · exact k.pend (hw _ _ (hf s i _ h)) _
  · exact hf s i _ h

/-- The hints of an access (R408, R411). -/
theorem TouchKeeps.mmio (k : TouchKeeps P) (hsl : ∀ s p v, P s → P (State.set s ICU_PORT.SLEEPING p v))
    (hid : ∀ s p v, P s → P (State.set s ICU_PORT.IDLE p v)) (hz : ∀ s p v, P s → P (State.set s ICU_PORT.SLEEP p v))
    {s : State} (h : P s) (p : Nat) : P (s.mmio p) := by
  have hh : P ((s.set ICU_PORT.IDLE p 0).set ICU_PORT.SLEEP p 0) := hz _ _ _ (hid s _ _ h)
  unfold State.mmio State.wake
  simp only
  split
  · split
    · refine k.touchAll (State.each_induct P (fun v s hs => ?_) (hsl _ _ _ hh))
      split
      · exact hs
      · exact k.deliver s p v hs
    · exact hh
  · exact h

end

/-! The end of a command. -/

theorem State.settle_keep {β : Type} (φ : State → β) (hm : ∀ s v, φ (State.set s GLB_MODE.IN_TRANSITION 0 v) = φ s)
    (hd : ∀ s x, φ { s with md := x } = φ s) (s : State) : φ s.settle = φ s := by
  have hy : φ s.yieldReq = φ s := by
    unfold State.yieldReq
    split
    · exact (hd (s.set GLB_MODE.IN_TRANSITION 0 0) _).trans (hm s 0)
    · rfl
  unfold State.settle
  split
  · exact ((hd (s.yieldReq.set GLB_MODE.IN_TRANSITION 0 1) _).trans (hm _ 1)).trans hy
  · rfl

/-- With no source held for the ports, the end of a command leaves the interrupt controller (R385). -/
theorem State.closed_ic_of_unheld {s : State} (h : s.cl.heldSrcs = []) : s.closed.ic = s.ic := by
  have hp : s.portsCome = s := by rw [State.portsCome, if_neg (by simp [h])]
  rw [State.closed, hp, State.settle_keep (·.ic) (fun _ _ => rfl) (fun _ _ => rfl), State.degNote_keep (·.ic) (fun _ _ => rfl)]

/-- What sources becoming pending keep, and the mode's bookkeeping, the end of a command keeps. -/
theorem PendKeeps.closed {P : State → Prop} (k : PendKeeps P) (hh : ∀ s x, P s → P { s with cl.heldSrcs := x })
    (hm : ∀ s v, P s → P (State.set s GLB_MODE.IN_TRANSITION 0 v)) (hd : ∀ s x, P s → P { s with md := x }) {s : State}
    (h : P s) : P s.closed := by
  have hp : P s.portsCome := by
    unfold State.portsCome
    split
    · exact hh _ _ (State.each_induct P (fun i _ hs => k.pend hs i) h)
    · exact h
  have hn : P s.portsCome.degNote := by
    unfold State.degNote
    split
    · exact hd _ _ hp
    · split
      · exact hd _ _ hp
      · exact hp
  have hy : P s.portsCome.degNote.yieldReq := by
    unfold State.yieldReq
    split
    · exact hd _ _ (hm _ _ hn)
    · exact hn
  unfold State.closed State.settle
  split
  · exact hd _ _ (hm _ _ hy)
  · exact hn

/-! An open delivery stays open while others start. -/

theorem State.deliver_delivery {s : State} {p v : Nat} {d : Delivery} (h : s.delivery p v = some d) (q w : Nat) :
    (s.deliver q w).delivery p v = some d := by
  unfold State.deliver
  split
  · exact h
  · simp only [State.delivery, List.find?_append] at h ⊢
    simp [h]

theorem delivery_pendKeeps (p v : Nat) (d : Delivery) : PendKeeps (fun s => s.delivery p v = some d) where
  timer _ _ h := h
  deliver _ q w h := State.deliver_delivery h q w
  wakePin s q h := (State.wakePin_keep (fun s => s.delivery p v) (fun _ _ => rfl) (fun _ _ _ => rfl) s q).trans h
  occurs _ _ _ h := h
  pending _ _ h := h

theorem State.closed_delivery {s : State} {p v : Nat} {d : Delivery} (h : s.delivery p v = some d) :
    s.closed.delivery p v = some d :=
  (delivery_pendKeeps p v d).closed (fun _ _ h => h) (fun _ _ h => h) (fun _ _ h => h) h

end Sys2Proof.Machine
end
/-! Interrupts and messages (R401 to R407): the source registers, the timers of the vectors and their messages. -/
section
namespace Sys2Proof.Machine

/-! Bits of a word of which one has been set or cleared. -/

theorem bit_eq_testBit (v i : Nat) : bit v i = v.testBit i := by
  rw [bit, Nat.testBit_eq_decide_div_mod_eq]

theorem testBit_putBits (v lo w x i : Nat) : (putBits v lo w x).testBit i =
    if i < lo then v.testBit i else if i < lo + w then x.testBit (i - lo) else v.testBit i := by
  have e : putBits v lo w x = 2 ^ lo * (2 ^ w * (v / 2 ^ (lo + w)) + x % 2 ^ w) + v % 2 ^ lo := by
    rw [putBits, pow_add]; ring
  rw [e, Nat.testBit_two_pow_mul_add _ (Nat.mod_lt _ (by positivity))]
  split
  · simp [Nat.testBit_mod_two_pow, *]
  · rw [Nat.testBit_two_pow_mul_add _ (Nat.mod_lt _ (by positivity))]
    by_cases h : i < lo + w
    · have hw : i - lo < w := by omega
      simp [Nat.testBit_mod_two_pow, h, hw]
    · have hw : ¬i - lo < w := by omega
      have hi : i - lo - w + (lo + w) = i := by omega
      simp [Nat.testBit_div_two_pow, h, hw, hi]

theorem bit_setBit_self (w v : Nat) : bit (setBit w v) v = true := by
  simp [bit_eq_testBit, setBit, testBit_putBits]

theorem bit_clearBit (w v u : Nat) : bit (clearBit w u) v = (bit w v && v != u) := by
  simp only [bit_eq_testBit, clearBit, testBit_putBits, Nat.zero_testBit]
  grind

theorem bit_mod_two_pow {n v : Nat} (h : v < n) (w : Nat) : bit (w % 2 ^ n) v = bit w v := by
  simp [bit_eq_testBit, Nat.testBit_mod_two_pow, h]

/-! A whole field of a word (R4). -/

/-- A write keeps of a value what the field's width holds. -/
theorem State.set_mod (s : State) (f : Fld) (i v : Nat) : s.set f i (v % 2 ^ f.width) = s.set f i v := by
  simp [State.set]

/-- A read-write field that a word holds whole takes its bits of what is written, if it reserves no encoding. -/
theorem State.writeField_whole (s : State) {f : Fld} (ha : f.acc = .rw) (hl : f.legal = [])
    (hc : f.id ≠ TIM_STEP.VAL.id ∧ f.id ≠ GAU_ENT.DUE.id) (i wlo v : Nat) :
    s.writeField f i 0 wlo f.width v = (s.set f i (bits v wlo f.width), false) := by
  have e : f.clean (putBits (s.get f i) 0 f.width (bits v wlo f.width)) =
      putBits (s.get f i) 0 f.width (bits v wlo f.width) := if_neg (by simpa using hc)
  rw [State.writeField, ha]
  simp only [e, Fld.allows, hl]
  rw [← State.set_mod, putBits_mod_self, State.set_mod]
  rfl

/-- What a write of ICU_SRCi takes (R402). -/
def State.srcTaken (s : State) (i v : Nat) : State :=
  ((((s.set ICU_SRC.VEC_MP0 i (bits v 0 6)).set ICU_SRC.VEC_MP1 i (bits v 8 6)).set ICU_SRC.ROUTE i (bits v 16 2)).set
    ICU_SRC.MASK i (bits v 18 1)).set ICU_SRC.WAKE i (bits v 19 1)

theorem State.writeWord_icuSrc (s : State) (i v : Nat) : s.writeWord reg_ICU_SRC i 0 v = (s.srcTaken i v, false) := by
  have hw : reg_ICU_SRC.inWord 0 = [(ICU_SRC.VEC_MP0, 0, 0, 6), (ICU_SRC.VEC_MP1, 0, 8, 6), (ICU_SRC.ROUTE, 0, 16, 2),
    (ICU_SRC.MASK, 0, 18, 1), (ICU_SRC.WAKE, 0, 19, 1), (ICU_SRC.ANN0, 0, 20, 1), (ICU_SRC.ANN1, 0, 21, 1),
    (ICU_SRC.PEND, 0, 22, 1)] := by decide
  have h0 := fun s : State => s.writeField_whole (f := ICU_SRC.VEC_MP0) rfl rfl (by decide) i 0 v
  have h1 := fun s : State => s.writeField_whole (f := ICU_SRC.VEC_MP1) rfl rfl (by decide) i 8 v
  have h2 := fun s : State => s.writeField_whole (f := ICU_SRC.ROUTE) rfl rfl (by decide) i 16 v
  have h3 := fun s : State => s.writeField_whole (f := ICU_SRC.MASK) rfl rfl (by decide) i 18 v
  have h4 := fun s : State => s.writeField_whole (f := ICU_SRC.WAKE) rfl rfl (by decide) i 19 v
  simp only [ICU_SRC.VEC_MP0, ICU_SRC.VEC_MP1, ICU_SRC.ROUTE, ICU_SRC.MASK, ICU_SRC.WAKE] at h0 h1 h2 h3 h4 hw
  simp only [State.writeWord, hw, List.foldl, h0, h1, h2, h3, h4]
  rfl

/-! What a source's write, clearing and announcement keep. -/

theorem State.touch_icu (s : State) (p v : Nat) : (s.touch p v).ic.icu = s.ic.icu :=
  (TouchKeeps.of_eq (·.ic.icu) (fun _ _ => rfl) (fun _ _ => rfl) (fun _ _ => rfl) (fun _ _ _ => rfl) s.ic.icu).touch rfl p v

theorem State.touchSrc_icu (s : State) (i : Nat) : (s.touchSrc i).ic.icu = s.ic.icu :=
  (TouchKeeps.of_eq (·.ic.icu) (fun _ _ => rfl) (fun _ _ => rfl) (fun _ _ => rfl) (fun _ _ _ => rfl) s.ic.icu).touchSrc rfl i

theorem State.mmio_ic {β : Type} (φ : IcuS → β) (ht : ∀ c x, φ { c with vecTimer := x } = φ c)
    (hd : ∀ c x, φ { c with deliveries := x } = φ c) (s : State) (p : Nat) : φ (s.mmio p).ic = φ s.ic :=
  (TouchKeeps.of_eq (fun s => φ s.ic) (fun _ _ => ht _ _) (fun _ _ => hd _ _) (fun _ _ => rfl) (fun _ _ _ => rfl)
    (φ s.ic)).mmio (fun _ _ _ h => h) (fun _ _ _ h => h) (fun _ _ _ h => h) rfl p

theorem State.granted_ic {β : Type} (φ : IcuS → β) (ht : ∀ c x, φ { c with vecTimer := x } = φ c)
    (hd : ∀ c x, φ { c with deliveries := x } = φ c) (s : State) (p : Nat) (bar2 : Bool) :
    φ (s.granted p bar2).ic = φ s.ic := by
  rw [State.granted, State.officerSeen_ic, State.mmio_ic φ ht hd]

theorem State.granted_icu (s : State) (p : Nat) (bar2 : Bool) : (s.granted p bar2).ic.icu = s.ic.icu :=
  State.granted_ic (·.icu) (fun _ _ => rfl) (fun _ _ => rfl) s p bar2

theorem State.granted_occurred (s : State) (p : Nat) (bar2 : Bool) : (s.granted p bar2).occurred = s.occurred := by
  have ho : (s.granted p bar2).ic.occ = s.ic.occ := State.granted_ic (·.occ) (fun _ _ => rfl) (fun _ _ => rfl) s p bar2
  have ha : (s.granted p bar2).ic.occAt = s.ic.occAt := State.granted_ic (·.occAt) (fun _ _ => rfl) (fun _ _ => rfl) s p bar2
  have hm : (s.granted p bar2).mono = s.mono := by simp [State.granted]
  simp only [State.occurred, State.kclk, ho, ha, hm]
  rfl

theorem State.granted_heldSrcs (s : State) (p : Nat) (bar2 : Bool) : (s.granted p bar2).cl.heldSrcs = s.cl.heldSrcs := by
  simp [State.granted]

/-! Clearing pending sources (R401). -/

/-- A clear takes its source away unless it has occurred in the same KCLK cycle. -/
theorem State.mem_unpend_icu (s : State) (n i : Nat) :
    i ∈ (s.unpend n).ic.icu ↔ i ∈ s.ic.icu ∧ ¬(i = n ∧ n ∉ s.occurred) := by
  unfold State.unpend
  split
  · simp only [State.touchSrc_icu, State.set_ic]
    split <;> rename_i ho
    · simp_all
    · simp_all [List.mem_filter]
  · rename_i hn
    have hn : n ∉ s.ic.icu := by simpa using hn
    grind

theorem State.unpend_keep {β : Type} (φ : State → β) (ht : ∀ s x, φ { s with ic.vecTimer := x } = φ s)
    (hd : ∀ s x, φ { s with ic.deliveries := x } = φ s) (hi : ∀ s x, φ { s with ic.icu := x } = φ s)
    (hout : ∀ s x, φ { s with out := x } = φ s) (hset : ∀ s f i v, φ (State.set s f i v) = φ s) (s : State) (n : Nat) :
    φ (s.unpend n) = φ s := by
  have k := TouchKeeps.of_eq φ ht hd hout (fun s => hset s _) (φ s)
  unfold State.unpend
  split
  · refine k.touchSrc ?_ n
    simp only [hset]
    split
    · rfl
    · exact hi s _
  · rfl

theorem State.unpend_occurred (s : State) (n : Nat) : (s.unpend n).occurred = s.occurred :=
  State.unpend_keep State.occurred (fun _ _ => rfl) (fun _ _ => rfl) (fun _ _ => rfl) (fun _ _ => rfl) (fun _ _ _ _ => rfl) s n

theorem State.unpend_heldSrcs (s : State) (n : Nat) : (s.unpend n).cl.heldSrcs = s.cl.heldSrcs :=
  State.unpend_keep (·.cl.heldSrcs) (fun _ _ => rfl) (fun _ _ => rfl) (fun _ _ => rfl) (fun _ _ => rfl) (fun _ _ _ _ => rfl) s n

theorem State.mem_unpendAll_icu (w : Nat) (l : List Nat) (s : State) (i : Nat) :
    i ∈ (s.each l (fun b s => s.unpend (32 * w + b))).ic.icu ↔
      i ∈ s.ic.icu ∧ ¬((∃ b ∈ l, i = 32 * w + b) ∧ i ∉ s.occurred) := by
  induction l generalizing s with
  | nil => simp [State.each]
  | cons b l ih =>
    have e : s.each (b :: l) (fun b s => s.unpend (32 * w + b)) =
      (s.unpend (32 * w + b)).each l (fun b s => s.unpend (32 * w + b)) := rfl
    rw [e, ih, State.mem_unpend_icu, State.unpend_occurred, List.exists_mem_cons_iff]
    clear e ih
    grind

theorem State.pendClear_contains (s : State) (w v i : Nat) :
    (s.pendClear w v).ic.icu.contains i =
      (s.ic.icu.contains i && !(i / 32 == w && bit v (i % 32) && !s.occurred.contains i)) := by
  have e : (∃ b ∈ (upto 32).filter (bit v), i = 32 * w + b) ↔ i / 32 = w ∧ bit v (i % 32) = true := by
    simp only [List.mem_filter, mem_upto]
    constructor
    · rintro ⟨b, ⟨hb, hv⟩, rfl⟩
      have hm : (32 * w + b) % 32 = b := by omega
      exact ⟨by omega, by rwa [hm]⟩
    · rintro ⟨rfl, hv⟩
      exact ⟨i % 32, ⟨Nat.mod_lt _ (by decide), hv⟩, by omega⟩
  have h := State.mem_unpendAll_icu w ((upto 32).filter (bit v)) s i
  rw [e] at h
  rw [Bool.eq_iff_iff, List.contains_iff_mem, State.pendClear, h]
  simp only [Bool.and_eq_true, Bool.not_eq_true', Bool.and_eq_false_iff, List.contains_eq_mem, decide_eq_true_eq,
    beq_eq_false_iff_ne]
  grind

theorem icuPendClear_clears {s : State} {p : Port} {w : Fin 36} (v : Word)
    (h : s.admits p.val 0 false true (reg_ICU_PEND.offset w.val 0) = true) (hh : s.cl.heldSrcs = []) :
    ∃ t, exec (.icuPendClear p w v) s = .next t ∧
      ∀ i, t.ic.icu.contains i = (s.ic.icu.contains i && !(i / 32 == w.val && bit v.toNat (i % 32) && !s.occurred.contains i)) := by
  have hp : ((s.granted p.val false).pendClear w.val v.toNat).cl.heldSrcs = [] :=
    (State.each_keep (·.cl.heldSrcs) _ _ (fun b s => State.unpend_heldSrcs s (32 * w.val + b)) _).trans
      ((State.granted_heldSrcs ..).trans hh)
  refine ⟨((s.granted p.val false).pendClear w.val v.toNat).closed, ?_, fun i => ?_⟩
  · rw [← State.onWrite_of_admits s p.val false _ (fun s => s.pendClear w.val v.toNat) h]; rfl
  · rw [State.closed_ic_of_unheld hp, State.pendClear_contains, State.granted_icu, State.granted_occurred]

/-! Writing a source (R402, R406). -/

theorem State.srcWrite_eq (s : State) (i v : Nat) : s.srcWrite i v =
    ((((s.srcTaken i v).touch 0 (s.get ICU_SRC.VEC_MP0 i)).touch 1 (s.get ICU_SRC.VEC_MP1 i)).touchSrc i, false) := by
  simp only [State.srcWrite, State.writeWord_icuSrc]

/-- A field beside the wake pin stands through a write of a source as the write has left it. -/
theorem State.srcWrite_get (s : State) (i v : Nat) {f : Fld} (hf : pendMoves f = false) (j : Nat) :
    (s.srcWrite i v).1.get f j = (s.srcTaken i v).get f j := by
  have k := TouchKeeps.of_eq (fun s => s.get f j) (fun _ _ => rfl) (fun _ _ => rfl) (fun _ _ => rfl)
    (fun s p v => State.get_set_field s (by simpa [pendMoves, ICU_PORT.WAKE] using hf) j p v) ((s.srcTaken i v).get f j)
  rw [State.srcWrite_eq]
  exact k.touchSrc (k.touch (k.touch rfl _ _) _ _) i

theorem State.srcWrite_icu (s : State) (i v : Nat) : (s.srcWrite i v).1.ic.icu = s.ic.icu := by
  rw [State.srcWrite_eq]
  simp only [State.touchSrc_icu, State.touch_icu]
  rfl

theorem State.srcWrite_heldSrcs (s : State) (i v : Nat) : (s.srcWrite i v).1.cl.heldSrcs = s.cl.heldSrcs := by
  have k := TouchKeeps.of_eq (·.cl.heldSrcs) (fun _ _ => rfl) (fun _ _ => rfl) (fun _ _ => rfl) (fun _ _ _ => rfl) s.cl.heldSrcs
  have h : (s.srcTaken i v).cl.heldSrcs = s.cl.heldSrcs := rfl
  rw [State.srcWrite_eq]
  exact k.touchSrc (k.touch (k.touch h 0 _) 1 _) i

theorem icuSrcWrite_takes {s : State} {p : Port} {i : Fin 1152} (v : Word)
    (h : s.admits p.val 0 false true (reg_ICU_SRC.offset i.val 0) = true) (hh : s.cl.heldSrcs = []) :
    ∃ t, exec (.icuSrcWrite p i v) s = .next t ∧ t.get ICU_SRC.VEC_MP0 i.val = v.toNat % 64 ∧
      t.get ICU_SRC.VEC_MP1 i.val = v.toNat / 2 ^ 8 % 64 ∧ t.get ICU_SRC.ROUTE i.val = v.toNat / 2 ^ 16 % 4 ∧
      t.get ICU_SRC.MASK i.val = v.toNat / 2 ^ 18 % 2 ∧ t.get ICU_SRC.WAKE i.val = v.toNat / 2 ^ 19 % 2 ∧
        t.ic.icu = s.ic.icu := by
  have e : s.sourceCmd p.val i.val v.toNat = ((s.granted p.val false).srcWrite i.val v.toNat).1 := by
    rw [State.sourceCmd, State.onWrite_of_admits _ _ _ _ _ h, State.srcWrite_eq]
    rfl
  have hg : ∀ {f : Fld}, closeMoves f = false → pendMoves f = false →
      (s.sourceCmd p.val i.val v.toNat).closed.get f i.val = ((s.granted p.val false).srcTaken i.val v.toNat).get f i.val :=
    fun hc hp => by rw [State.closed_get _ hc, e, State.srcWrite_get _ _ _ hp]
  refine ⟨(s.sourceCmd p.val i.val v.toNat).closed, rfl, ?_, ?_, ?_, ?_, ?_, ?_⟩
  · rw [hg rfl rfl]; simp (disch := decide) only [State.srcTaken, State.get_set_field, State.get_set_self]; simp [bits, ICU_SRC.VEC_MP0]
  · rw [hg rfl rfl]; simp (disch := decide) only [State.srcTaken, State.get_set_field, State.get_set_self]; simp [bits, ICU_SRC.VEC_MP1]
  · rw [hg rfl rfl]; simp (disch := decide) only [State.srcTaken, State.get_set_field, State.get_set_self]; simp [bits, ICU_SRC.ROUTE]
  · rw [hg rfl rfl]; simp (disch := decide) only [State.srcTaken, State.get_set_field, State.get_set_self]; simp [bits, ICU_SRC.MASK]
  · rw [hg rfl rfl, State.srcTaken, State.get_set_self]; simp [bits, ICU_SRC.WAKE]
  · rw [State.closed_ic_of_unheld, e, State.srcWrite_icu, State.granted_icu]
    rw [e, State.srcWrite_heldSrcs, State.granted_heldSrcs, hh]

end Sys2Proof.Machine
end
section
namespace Sys2Proof.Machine

/-! Timers of the vectors (R405). -/

theorem State.any_delivery (s : State) (p v : Nat) :
    (s.ic.deliveries.any (fun d => d.port == p && d.vec == v)) = (s.delivery p v).isSome := by
  rw [State.delivery, List.isSome_find?]

/-- A delivery that starts covers what waits on its vector. -/
theorem State.deliver_fresh {s : State} {p v : Nat} (h : s.delivery p v = none) :
    (s.deliver p v).delivery p v = some ⟨p, v, s.waiting p v, (s.waiting p v).findSome? (s.ringPort p)⟩ := by
  rw [State.deliver, State.any_delivery, if_neg (by simp [h])]
  simp only [State.delivery, List.find?_append] at h ⊢
  simp [h]

theorem State.deliver_open {s : State} {p v : Nat} (h : s.delivery p v ≠ none) : s.deliver p v = s := by
  rw [State.deliver, State.any_delivery, if_pos (Option.isSome_iff_ne_none.mpr h)]

/-- A timer has run out (R405). -/
def State.timerRun (s : State) (p v : Nat) : Bool :=
  Tab.get 0 s.ic.vecTimer (64 * p + v) != 0 && !s.vecHeld p && s.accum p v != 0 &&
    decide (Tab.get 0 s.ic.vecTimer (64 * p + v) - 1 + s.get ICU_VEC.TIMER_US (64 * p + v) * us ≤ s.mono)

theorem State.vecExpire_eq (s : State) (p v : Nat) : s.vecExpire p v = if s.timerRun p v then s.deliver p v else s := by
  simp [State.vecExpire, State.timerRun, and_assoc]

theorem vectorTimerExpire_outcome (s : State) (p : Port) (vec : Fin 64) (hh : s.cl.heldSrcs = []) :
    (s.timerRun p.val vec.val = true → s.delivery p.val vec.val = none →
      ∃ t, exec (.vectorTimerExpire p vec) s = .next t ∧
        (t.delivery p.val vec.val).map (·.srcs) = some (s.waiting p.val vec.val)) ∧
    ((s.timerRun p.val vec.val = false ∨ s.delivery p.val vec.val ≠ none) →
      ∃ t, exec (.vectorTimerExpire p vec) s = .next t ∧ s.keepsBut t [] ∧ t.ic.deliveries = s.ic.deliveries) := by
  refine ⟨fun hr hd => ⟨(s.vecExpire p.val vec.val).closed, rfl, ?_⟩, fun h => ⟨s.closed, ?_, (s.keepsBut_rfl []).closed, ?_⟩⟩
  · rw [State.vecExpire_eq, if_pos hr, State.closed_delivery (State.deliver_fresh hd)]
    rfl
  · have e : s.vecExpire p.val vec.val = s := by
      rw [State.vecExpire_eq]
      split
      · rename_i hr
        exact State.deliver_open (h.resolve_left (by simp [hr]))
      · rfl
    exact congrArg (fun u => Host.Outcome.next (State.closed u)) e
  · rw [State.closed_ic_of_unheld hh]

/-! Messages (R403, R405, R407). -/

theorem find?_replaced {α : Type} {c : α → Bool} {e : α} (he : c e = true) {l : List α} (h : (l.find? c).isSome = true) :
    (l.filterMap (fun x => if c x then some e else some x)).find? c = some e := by
  induction l with
  | nil => simp at h
  | cons x l ih =>
    cases hx : c x with
    | true => simp [hx, he]
    | false => simpa [List.filterMap_cons, hx] using ih (by simpa [hx] using h)

theorem State.setDelivery_find {s : State} {p v : Nat} {d e : Delivery} (h : s.delivery p v = some d) (hp : e.port = p)
    (hv : e.vec = v) : (s.setDelivery p v (some e)).delivery p v = some e :=
  find?_replaced (c := fun x : Delivery => x.port == p && x.vec == v) (by simp [hp, hv]) (Option.isSome_of_eq_some h)

theorem State.delivery_port_vec {s : State} {p v : Nat} {d : Delivery} (h : s.delivery p v = some d) :
    d.port = p ∧ d.vec = v := by
  have := List.find?_some h
  simpa using this

/-- Sources that have joined an open delivery since it started. -/
def State.joined (s : State) (p v : Nat) (d : Delivery) : List Nat := (s.waiting p v).filter (fun i => !d.srcs.contains i)

section
variable {s : State} {p v : Nat} {d : Delivery}

/-- A read of R36 has become due for a source that has joined. -/
theorem State.msixMessage_read (hd : s.delivery p v = some d) (hz : d.zlr = none) (ho : s.msixOpen p = true) {q : Nat}
    (hq : (s.joined p v d).findSome? (s.ringPort p) = some q) :
    s.msixMessage p v = s.setDelivery p v (some { d with srcs := d.srcs ++ s.joined p v d, zlr := some q }) := by
  simp only [State.joined] at hq ⊢
  simp only [State.msixMessage, hd, hz, ho, hq]
  simp

/-- The table or the Function Mask holds the message. -/
theorem State.msixMessage_blocked (hd : s.delivery p v = some d) (hz : d.zlr = none) (ho : s.msixOpen p = true)
    (hq : (s.joined p v d).findSome? (s.ringPort p) = none) (hb : s.msixBlocked p v = true) :
    s.msixMessage p v = s.setPba p v true := by
  simp only [State.joined] at hq
  simp only [State.msixMessage, hd, hz, ho, hq, hb]
  simp

theorem State.msixMessage_leaves (hd : s.delivery p v = some d) (hz : d.zlr = none) (ho : s.msixOpen p = true)
    (hq : (s.joined p v d).findSome? (s.ringPort p) = none) (hb : s.msixBlocked p v = false) :
    s.msixMessage p v = s.msixSend p v d := by
  simp only [State.joined] at hq
  simp only [State.msixMessage, hd, hz, ho, hq, hb]
  simp

/-- No message leaves while none may. -/
theorem State.msixMessage_waits (h : (s.delivery p v).all (fun d => d.zlr.isSome) = true ∨ s.msixOpen p = false) :
    s.msixMessage p v = s := by
  unfold State.msixMessage
  split
  · rfl
  · rename_i d hd
    simp only
    rw [if_pos]
    rcases h with h | h
    · rw [hd] at h
      exact .inr (Option.isSome_iff_ne_none.mp h)
    · exact .inl h

end

/-! What a message that leaves moves: the announcements, its delivery, its PBA bit and the count of messages. -/

/-- Fields that a message which leaves may move. -/
def messageMoves (f : Fld) : Bool :=
  [ICU_PORT.WAKE.id, ICU_SRC.ANN0.id, ICU_SRC.ANN1.id, MSIX_PBA.V.id, ICU_PORT.MSGS.id].contains (f.id % 2048)

/-- A reading of the state that messages leave alone. -/
structure MessageKeeps {β : Type} (φ : State → β) : Prop where
  occurs : ∀ s o a, φ { s with ic.occ := o, ic.occAt := a } = φ s
  pending : ∀ s x, φ { s with ic.icu := x } = φ s
  timer : ∀ s x, φ { s with ic.vecTimer := x } = φ s
  deliveries : ∀ s x, φ { s with ic.deliveries := x } = φ s
  out : ∀ s x, φ { s with out := x } = φ s
  wraps : ∀ s x, φ { s with wraps := x } = φ s
  set : ∀ s f i v, messageMoves f = true → φ (State.set s f i v) = φ s

section
variable {β : Type} {φ : State → β}

theorem MessageKeeps.pend (h : MessageKeeps φ) (c : β) : PendKeeps (fun s => φ s = c) :=
  PendKeeps.of_eq φ h.timer h.deliveries h.out (fun s _ _ => h.set s _ _ _ rfl) h.occurs h.pending c

theorem MessageKeeps.announce (h : MessageKeeps φ) (s : State) (p i : Nat) : φ (s.announce p i) = φ s := by
  have ha : ∀ q, messageMoves (annF q) = true := fun q => by unfold annF; split <;> rfl
  unfold State.announce
  simp only
  split
  · rw [h.set _ _ _ _ (ha _), h.set _ _ _ _ (ha _)]
  · exact h.set _ _ _ _ (ha _)

theorem MessageKeeps.setPba (h : MessageKeeps φ) (s : State) (p v : Nat) (b : Bool) : φ (s.setPba p v b) = φ s :=
  h.set s _ _ _ rfl

theorem MessageKeeps.msixSend (h : MessageKeeps φ) (s : State) (p v : Nat) (d : Delivery) :
    φ (s.msixSend p v d) = φ s := by
  have hc : ∀ s : State, φ (s.count ICU_PORT.MSGS p 1) = φ s := fun s =>
    (h.pend (φ s)).count (fun s x hs => (h.wraps s x).trans hs) (fun s i v hs => (h.set s _ i v rfl).trans hs) rfl p 1
  unfold State.msixSend
  simp only
  refine (h.pend (φ s)).toTouchKeeps.touchAll ((h.out _ _).trans ((h.timer _ _).trans ((hc _).trans
    ((h.setPba _ _ _ _).trans ((h.deliveries _ _).trans ?_)))))
  exact State.each_keep φ _ _ (fun i s => h.announce s p i) s

end

theorem MessageKeeps.of_get {f : Fld} (hf : messageMoves f = false) (i : Nat) : MessageKeeps (fun s => s.get f i) where
  occurs _ _ _ := rfl
  pending _ _ := rfl
  timer _ _ := rfl
  deliveries _ _ := rfl
  out _ _ := rfl
  wraps _ _ := rfl
  set s g j v hg := by
    refine State.get_set_field s (fun e => ?_) i j v
    rw [messageMoves, e] at hf
    rw [messageMoves, hf] at hg
    cases hg

/-- A field that says neither how far the device is up nor what a port's link does says nothing of its messages. -/
theorem State.set_msixOpen {g : Fld} (h : ∀ f ∈ [ICU_PORT.SLEEPING, ICU_PORT.LINK, GLB_MODE.MODE, GLB_BOOT_STATUS.STAGE,
    GLB_BOOT_STATUS.CODE], f.id % 2048 ≠ g.id % 2048) (s : State) (j v p : Nat) : (s.set g j v).msixOpen p = s.msixOpen p := by
  simp only [List.mem_cons, List.not_mem_nil, or_false, forall_eq_or_imp, forall_eq] at h
  obtain ⟨hs, hl, hm, hst, hc⟩ := h
  simp only [State.msixOpen, State.vecHeld, State.asleep, State.isLost, State.on, State.masters, State.reachable,
    State.linkUp, State.portsUp, State.mode, State.set_ic, State.get_set_field s hs, State.get_set_field s hl,
    State.get_set_field s hm, State.get_set_field s hst, State.get_set_field s hc]
  rfl

theorem MessageKeeps.msixOpen (p : Nat) : MessageKeeps (fun s => s.msixOpen p) where
  occurs _ _ _ := rfl
  pending _ _ := rfl
  timer _ _ := rfl
  deliveries _ _ := rfl
  out _ _ := rfl
  wraps _ _ := rfl
  set s g j v hg := State.set_msixOpen (fun f hf e => by
    have hm : messageMoves f = messageMoves g := by rw [messageMoves, messageMoves, e]
    have hn : ∀ f ∈ [ICU_PORT.SLEEPING, ICU_PORT.LINK, GLB_MODE.MODE, GLB_BOOT_STATUS.STAGE, GLB_BOOT_STATUS.CODE],
        messageMoves f = false := by decide
    rw [hn f hf, hg] at hm
    cases hm) s j v p

theorem MessageKeeps.msixBlocked (p v : Nat) : MessageKeeps (fun s => s.msixBlocked p v) where
  occurs _ _ _ := rfl
  pending _ _ := rfl
  timer _ _ := rfl
  deliveries _ _ := rfl
  out _ _ := rfl
  wraps _ _ := rfl
  set s g j w hg := by
    have hk : (s.set g j w).get MSIX_ENT.MASK (64 * p + v) = s.get MSIX_ENT.MASK (64 * p + v) :=
      (MessageKeeps.of_get (by decide) _).set s g j w hg
    simp only [State.msixBlocked, State.on, hk, State.set_ic]

/-! MSIX_MESSAGE_SEND. -/

theorem State.msixSend_pba {s : State} {p v u : Nat} (hu : u < 64) (d : Delivery) :
    bit ((s.msixSend p v d).get MSIX_PBA.V p) u = (bit (s.get MSIX_PBA.V p) u && u != v) := by
  have k := (PendKeeps.of_eq (fun s => s.get MSIX_PBA.V p) (fun _ _ => rfl) (fun _ _ => rfl) (fun _ _ => rfl)
    (fun s q w => State.get_set_field s (by decide) p q w) (fun _ _ _ => rfl) (fun _ _ => rfl))
  have ha : ∀ (s : State) (i : Nat), (s.announce p i).get MSIX_PBA.V p = s.get MSIX_PBA.V p := by
    intro s i
    have hn : ∀ q, (annF q).id % 2048 ≠ MSIX_PBA.V.id % 2048 := fun q => by unfold annF; split <;> decide
    unfold State.announce
    simp only
    split
    · rw [State.get_set_field _ (hn _).symm, State.get_set_field _ (hn _).symm]
    · exact State.get_set_field _ (hn _).symm _ _ _
  have hl : ∀ (s : State), (s.setDelivery p v none).get MSIX_PBA.V p = s.get MSIX_PBA.V p := fun _ => rfl
  have hp : ∀ (s : State), bit ((s.setPba p v false).get MSIX_PBA.V p) u = (bit (s.get MSIX_PBA.V p) u && u != v) := by
    intro s
    rw [State.setPba, if_neg (by decide), State.get_set_self]
    exact (bit_mod_two_pow hu _).trans (bit_clearBit _ u v)
  unfold State.msixSend
  simp only
  rw [(k _).toTouchKeeps.touchAll rfl, State.emit_get]
  refine (congrArg (bit · u) ((k _).count (fun _ _ h => h)
    (fun s i v h => (State.get_set_field s (by decide) p i v).trans h) rfl p 1)).trans ?_
  rw [hp, hl, State.each_keep (fun s => s.get MSIX_PBA.V p) _ _ (fun i s => ha s i)]

theorem State.touchAll_mem_out {s : State} {e : Emit} (h : e ∈ s.out) : e ∈ s.touchAll.out :=
  State.each_induct (fun t => e ∈ t.out) (fun p _ ht => State.wakePin_mem_out ht p)
    (State.each_induct (fun t => e ∈ t.out) (fun _ _ ht => by rwa [State.touch_out]) h)

theorem State.announce_get {f : Fld} (hf : [ICU_SRC.ANN0.id, ICU_SRC.ANN1.id].contains (f.id % 2048) = false) (s : State)
    (p i j : Nat) : (s.announce p i).get f j = s.get f j := by
  have hn : ∀ q, f.id % 2048 ≠ (annF q).id % 2048 := fun q e => by
    rw [e] at hf
    unfold annF at hf
    split at hf <;> cases hf
  unfold State.announce
  simp only
  split
  · rw [State.get_set_field _ (hn _), State.get_set_field _ (hn _)]
  · exact State.get_set_field _ (hn _) _ _ _

/-- A message that leaves is counted. -/
theorem State.msixSend_msgs (s : State) (p v : Nat) (d : Delivery) :
    (s.msixSend p v d).get ICU_PORT.MSGS p = (s.get ICU_PORT.MSGS p + 1) % 2 ^ 64 := by
  have hk := TouchKeeps.of_eq (fun s => s.get ICU_PORT.MSGS p) (fun _ _ => rfl) (fun _ _ => rfl) (fun _ _ => rfl)
    (fun s q w => State.get_set_field s (by decide) p q w)
  have hl : ∀ l : List Nat, (s.each l (fun i s => s.announce p i)).get ICU_PORT.MSGS p = s.get ICU_PORT.MSGS p := fun l =>
    State.each_keep (fun s => s.get ICU_PORT.MSGS p) l _ (fun i s => State.announce_get (by decide) s p i p) s
  unfold State.msixSend
  simp only
  rw [(hk _).touchAll rfl, State.emit_get]
  refine (State.count_get_self _ (by decide) p 1).trans ?_
  rw [State.setPba, State.get_set_field _ (by decide)]
  exact congrArg (fun n => (n + 1) % 2 ^ 64) (hl _)

/-- A message leaves with the address and the data of its table entry (R386). -/
theorem State.msixSend_mem_out (s : State) (p v : Nat) (d : Delivery) :
    Emit.msix p v (s.get MSIX_ENT.ADDR (64 * p + v)) (s.get MSIX_ENT.DATA (64 * p + v)) ∈ (s.msixSend p v d).out := by
  have hk : ∀ {f : Fld}, messageMoves f = false → ∀ i, (s.msixSend p v d).get f i = s.get f i := fun hf i =>
    (MessageKeeps.of_get hf i).msixSend s p v d
  rw [← hk (f := MSIX_ENT.ADDR) rfl, ← hk (f := MSIX_ENT.DATA) rfl]
  have ht : ∀ {f : Fld}, pendMoves f = false → ∀ (s : State) i, s.touchAll.get f i = s.get f i := fun hf s i =>
    (TouchKeeps.of_eq (fun s => s.get _ i) (fun _ _ => rfl) (fun _ _ => rfl) (fun _ _ => rfl)
      (fun s q w => State.get_set_field s (by simpa [pendMoves, ICU_PORT.WAKE] using hf) i q w) _).touchAll rfl
  unfold State.msixSend
  simp only
  refine State.touchAll_mem_out ?_
  rw [ht rfl, ht rfl]
  simp

theorem msixMessageSend_outcome (s : State) (p : Port) (vec : Fin 64) :
    (∀ d : Delivery, s.delivery p.val vec.val = some d → d.zlr = none → s.msixOpen p.val = true →
      (∀ q : Nat, (s.joined p.val vec.val d).findSome? (s.ringPort p.val) = some q →
        ∃ t, exec (.msixMessageSend p vec) s = .next t ∧ s.keepsBut t [] ∧
          (t.delivery p.val vec.val).map (·.zlr) = some (some q)) ∧
      ((s.joined p.val vec.val d).findSome? (s.ringPort p.val) = none →
        (s.msixBlocked p.val vec.val = true →
          ∃ t, exec (.msixMessageSend p vec) s = .next t ∧ bit (t.get MSIX_PBA.V p.val) vec.val = true) ∧
        (s.msixBlocked p.val vec.val = false →
          ∃ t, exec (.msixMessageSend p vec) s = .next t ∧
            t.get ICU_PORT.MSGS p.val = (s.get ICU_PORT.MSGS p.val + 1) % 2 ^ 64 ∧
            Emit.msix p.val vec.val (s.get MSIX_ENT.ADDR (64 * p.val + vec.val))
              (s.get MSIX_ENT.DATA (64 * p.val + vec.val)) ∈ t.out))) ∧
    (((s.delivery p.val vec.val).all (fun d => d.zlr.isSome) = true ∨ s.msixOpen p.val = false) →
      ∃ t, exec (.msixMessageSend p vec) s = .next t ∧ s.keepsBut t []) := by
  have hx : exec (.msixMessageSend p vec) s = .next (s.msixMessage p.val vec.val).closed := rfl
  rw [hx]
  refine ⟨fun d hd hz ho => ⟨fun q hq => ?_, fun hq => ⟨fun hb => ?_, fun hb => ?_⟩⟩, fun h => ?_⟩
  · rw [State.msixMessage_read hd hz ho hq]
    obtain ⟨hp, hv⟩ := State.delivery_port_vec hd
    refine ⟨_, rfl, ?_, ?_⟩
    · exact State.keepsBut.closed ⟨fun _ _ _ _ _ => rfl, rfl, rfl, rfl, rfl, rfl, rfl, rfl⟩
    · rw [State.closed_delivery (State.setDelivery_find (e := { d with zlr := some q, srcs := _ }) hd hp hv)]
      rfl
  · rw [State.msixMessage_blocked hd hz ho hq hb]
    refine ⟨_, rfl, ?_⟩
    rw [State.closed_get _ rfl, State.setPba, if_pos rfl, State.get_set_self]
    exact (bit_mod_two_pow vec.isLt _).trans (bit_setBit_self _ _)
  · rw [State.msixMessage_leaves hd hz ho hq hb]
    refine ⟨_, rfl, ?_, State.closed_mem_out (State.msixSend_mem_out s p.val vec.val d)⟩
    rw [State.closed_get _ rfl, State.msixSend_msgs]
  · rw [State.msixMessage_waits h]
    exact ⟨_, rfl, (s.keepsBut_rfl []).closed⟩

/-! MSIX_UNMASK. -/

/-- What pbaSend does for one vector. -/
def State.pbaSendOne (p v : Nat) (s : State) : State :=
  if bit (s.get MSIX_PBA.V p) v && !s.msixBlocked p v && s.msixOpen p then
    match s.delivery p v with
    | some d => s.msixSend p v d
    | none => s.setPba p v false
  else s

theorem State.pbaSend_eq (s : State) (p : Nat) : s.pbaSend p = s.each (upto 64) (State.pbaSendOne p) := rfl

theorem MessageKeeps.pbaSendOne {β : Type} {φ : State → β} (h : MessageKeeps φ) (p v : Nat) (s : State) :
    φ (s.pbaSendOne p v) = φ s := by
  unfold State.pbaSendOne
  split
  · split
    · exact h.msixSend s p v _
    · exact h.setPba s p v false
  · rfl

theorem MessageKeeps.pbaSend {β : Type} {φ : State → β} (h : MessageKeeps φ) (s : State) (p : Nat) : φ (s.pbaSend p) = φ s :=
  State.each_keep φ _ _ (fun v s => h.pbaSendOne p v s) s

/-- On a port that can send, a vector that nothing blocks is held no more after its turn. -/
theorem State.pbaSendOne_bit {s : State} {p u : Nat} (hu : u < 64) (ho : s.msixOpen p = true)
    (hb : s.msixBlocked p u = false) (v : Nat) :
    bit ((s.pbaSendOne p v).get MSIX_PBA.V p) u = (bit (s.get MSIX_PBA.V p) u && u != v) := by
  have hset : bit ((s.setPba p v false).get MSIX_PBA.V p) u = (bit (s.get MSIX_PBA.V p) u && u != v) := by
    rw [State.setPba, if_neg (by decide), State.get_set_self]
    exact (bit_mod_two_pow hu _).trans (bit_clearBit _ u v)
  unfold State.pbaSendOne
  split
  · split
    · exact State.msixSend_pba hu _
    · exact hset
  · rename_i hc
    by_cases e : u = v
    · subst e
      have : bit (s.get MSIX_PBA.V p) u = false := by simpa [ho, hb] using hc
      simp [this]
    · simp [e]

theorem State.pbaSend_bit {s : State} {p u : Nat} (hu : u < 64) (ho : s.msixOpen p = true) (hb : s.msixBlocked p u = false) :
    bit ((s.pbaSend p).get MSIX_PBA.V p) u = false := by
  have key : ∀ (l : List Nat) (s : State), s.msixOpen p = true → s.msixBlocked p u = false →
      bit ((s.each l (State.pbaSendOne p)).get MSIX_PBA.V p) u = (bit (s.get MSIX_PBA.V p) u && !l.contains u) := by
    intro l
    induction l with
    | nil => simp [State.each]
    | cons v l ih =>
      intro s ho hb
      have e : s.each (v :: l) (State.pbaSendOne p) = (s.pbaSendOne p v).each l (State.pbaSendOne p) := rfl
      rw [e, ih _ (((MessageKeeps.msixOpen p).pbaSendOne p v s).trans ho)
        (((MessageKeeps.msixBlocked p u).pbaSendOne p v s).trans hb), State.pbaSendOne_bit hu ho hb, List.contains_cons]
      cases bit (s.get MSIX_PBA.V p) u <;> cases hv : u == v <;> simp_all
  rw [State.pbaSend_eq, key _ s ho hb]
  simp [mem_upto, hu]

theorem msixUnmask_outcome (s : State) (p : Port) (vec : Fin 64)
    (h : s.admits p.val 0 false true (reg_MSIX_ENT.offset vec.val 3) = true) :
    ∃ t, exec (.msixUnmask p vec) s = .next t ∧ t.get MSIX_ENT.MASK (64 * p.val + vec.val) = 0 ∧
      ((s.granted p.val false).msixOpen p.val = true → Tab.get false s.ic.funcMask p.val = false →
        bit (t.get MSIX_PBA.V p.val) vec.val = false) := by
  have hx : exec (.msixUnmask p vec) s =
      done (((s.granted p.val false).set MSIX_ENT.MASK (64 * p.val + vec.val) 0).pbaSend p.val) := by
    rw [← State.onWrite_of_admits s p.val false _ (fun s => (s.set MSIX_ENT.MASK (64 * p.val + vec.val) 0).pbaSend p.val) h]
    rfl
  refine ⟨_, hx, ?_, fun ho hf => ?_⟩
  · rw [State.closed_get _ rfl, (MessageKeeps.of_get (f := MSIX_ENT.MASK) rfl _).pbaSend, State.get_set_self]
    rfl
  · rw [State.closed_get _ rfl]
    refine State.pbaSend_bit vec.isLt ?_ ?_
    · exact (State.set_msixOpen (by decide) _ _ _ _).trans ho
    · have hm : Tab.get false (s.granted p.val false).ic.funcMask p.val = Tab.get false s.ic.funcMask p.val :=
        State.granted_ic (fun c => Tab.get false c.funcMask p.val) (fun _ _ => rfl) (fun _ _ => rfl) s p.val false
      rw [State.msixBlocked, State.on, State.get_set_self, State.set_ic, hm, hf]
      rfl

/-- Settles O51: a clear, a write, a timer, a message and an unmasking each do what their rule says to the controller, and
the end of a command leaves it. -/
theorem interruptsAndMessages : Obligations.InterruptsAndMessages := by
  refine ⟨⟨fun s p w v h hh => icuPendClear_clears v h hh, fun s p i v h hh => icuSrcWrite_takes v h hh⟩, ?_, ?_, ?_⟩
  · rintro s p vec run hh rfl
    exact vectorTimerExpire_outcome s p vec hh
  · exact fun s p vec => msixMessageSend_outcome s p vec
  · exact fun s p vec h => msixUnmask_outcome s p vec h

end Sys2Proof.Machine
end
/-! What an operation may move: register fields and parts of the state. Everything else stands through it. -/
section
namespace Sys2Proof.Machine

/-- A part of the state that operations move or leave as a whole. -/
inductive Part where
  | pending | out | wraps | now | mono | tape | ac | ic | md | lc | tm | ga | ke | att | ch | au | hq | ln | fl | cl | ofc | jg | cn
  | arrivals | deepWr | egress | ingress | lineOut | hostOut | pfcOut | pairTrans | taken | dispTurn | retireAt
  | queues | drr | levels | shpStage | poolPaused | xoffAt | carTx | carRest | alarms | deep
  deriving DecidableEq

/-- A part is the same in two states. -/
def Part.same (s t : State) : Part → Prop
  | .pending => t.pending = s.pending
  | .out => t.out = s.out
  | .wraps => t.wraps = s.wraps
  | .now => t.now = s.now
  | .mono => t.mono = s.mono
  | .tape => t.tape = s.tape
  | .ac => t.ac = s.ac
  | .ic => t.ic = s.ic
  | .md => t.md = s.md
  | .lc => t.lc = s.lc
  | .tm => t.tm = s.tm
  | .ga => t.ga = s.ga
  | .ke => t.ke = s.ke
  | .att => t.att = s.att
  | .ch => t.ch = s.ch
  | .au => t.au = s.au
  | .hq => t.hq = s.hq
  | .ln => t.ln = s.ln
  | .fl => t.fl = s.fl
  | .cl => t.cl = s.cl
  | .ofc => t.ofc = s.ofc
  | .jg => t.jg = s.jg
  | .cn => t.cn = s.cn
  | .arrivals => t.fr.arrivals = s.fr.arrivals
  | .deepWr => t.fr.deepWr = s.fr.deepWr
  | .egress => t.fr.egress = s.fr.egress
  | .ingress => t.fr.ingress = s.fr.ingress
  | .lineOut => t.fr.lineOut = s.fr.lineOut
  | .hostOut => t.fr.hostOut = s.fr.hostOut
  | .pfcOut => t.fr.pfcOut = s.fr.pfcOut
  | .pairTrans => t.fr.pairTrans = s.fr.pairTrans
  | .taken => t.fr.taken = s.fr.taken
  | .dispTurn => t.fr.dispTurn = s.fr.dispTurn
  | .retireAt => t.fr.retireAt = s.fr.retireAt
  | .queues => t.pl.queues = s.pl.queues
  | .drr => t.pl.drr = s.pl.drr
  | .levels => t.pl.levels = s.pl.levels
  | .shpStage => t.pl.shpStage = s.pl.shpStage
  | .poolPaused => t.pl.poolPaused = s.pl.poolPaused
  | .xoffAt => t.pl.xoffAt = s.pl.xoffAt
  | .carTx => t.ca.carTx = s.ca.carTx
  | .carRest => { t.ca with carTx := [] } = { s.ca with carTx := [] }
  | .alarms => t.vn.alarms = s.vn.alarms
  | .deep => { t.vn with alarms := 0 } = { s.vn with alarms := 0 }

theorem Part.same_rfl (s : State) (p : Part) : p.same s s := by cases p <;> rfl

theorem Part.same_trans {s t u : State} {p : Part} (h : p.same s t) (k : p.same t u) : p.same s u := by
  cases p <;> exact Eq.trans k h

/-- A key of the register store belongs to one of the fields. -/
def listed (fs : List Fld) (k : Nat) : Bool := fs.any (fun f => f.id % 2048 == k % 2048)

theorem listed_mod (fs : List Fld) (k : Nat) : listed fs (k % 2048) = listed fs k := by simp [listed]

theorem listed_key (fs : List Fld) (f : Fld) (i : Nat) : listed fs (f.key i) = listed fs f.id := by
  rw [← listed_mod, Fld.key, Nat.mul_add_mod', listed_mod]

theorem listed_mono {fs gs : List Fld} (h : fs.all (fun f => listed gs f.id) = true) {k : Nat} (hk : listed fs k = true) :
    listed gs k = true := by
  simp only [listed, List.any_eq_true, beq_iff_eq, List.all_eq_true] at h hk ⊢
  obtain ⟨f, hf, e⟩ := hk
  obtain ⟨g, hg, e'⟩ := h f hf
  exact ⟨g, hg, e'.trans e⟩

/-- From s to t no field but those of fs moves, and no part but those of ps; what is put out stays out, and what is pending
stays pending. -/
structure Moves (fs : List Fld) (ps : List Part) (s t : State) : Prop where
  regs : t.regs.filter (fun x => !listed fs x.1) = s.regs.filter (fun x => !listed fs x.1)
  parts : ∀ p, ps.contains p = false → p.same s t
  emits : ∀ e ∈ s.out, e ∈ t.out
  sources : ∀ n ∈ s.ic.icu, n ∈ t.ic.icu

section
variable {fs gs : List Fld} {ps qs : List Part} {s t u : State}

theorem Moves.refl : Moves fs ps s s :=
  ⟨rfl, fun p _ => Part.same_rfl s p, fun _ h => h, fun _ h => h⟩

theorem Moves.of_parts (hr : t.regs = s.regs) (hp : ∀ p, ps.contains p = false → p.same s t) (ho : t.out = s.out)
    (hi : t.ic.icu = s.ic.icu) : Moves fs ps s t :=
  ⟨by rw [hr], hp, fun e h => by rw [ho]; exact h, fun n h => by rw [hi]; exact h⟩

theorem Moves.trans (m : Moves fs ps s t) (n : Moves fs ps t u) : Moves fs ps s u :=
  ⟨n.regs.trans m.regs, fun p h => Part.same_trans (m.parts p h) (n.parts p h), fun e h => n.emits e (m.emits e h),
    fun i h => n.sources i (m.sources i h)⟩

theorem Moves.mono (m : Moves gs qs s t) (hf : gs.all (fun f => listed fs f.id) = true) (hp : qs.all ps.contains = true) :
    Moves fs ps s t where
  regs := by
    have h : ∀ l : Tab Nat, l.filter (fun x => !listed fs x.1) =
        (l.filter (fun x => !listed gs x.1)).filter (fun x => !listed fs x.1) := by
      intro l
      rw [List.filter_filter]
      refine List.filter_congr (fun x _ => ?_)
      cases hg : listed gs x.1
      · simp
      · simp [listed_mono hf hg]
    rw [h, m.regs, ← h]
  parts p h := m.parts p (by
    cases e : qs.contains p
    · rfl
    · rw [List.all_eq_true.mp hp p (by simpa using e)] at h
      cases h)
  emits := m.emits
  sources := m.sources

/-- An operation after others, the fields and parts it may move being among theirs. -/
theorem Moves.also (m : Moves fs ps s t) (n : Moves gs qs t u) (hf : gs.all (fun f => listed fs f.id) = true)
    (hp : qs.all ps.contains = true) : Moves fs ps s u := m.trans (n.mono hf hp)

theorem Moves.ite {c : Prop} [Decidable c] (m : Moves fs ps s t) (n : Moves fs ps s u) :
    Moves fs ps s (if c then t else u) := by
  split
  · exact m
  · exact n

theorem Moves.each {α : Type} (m : Moves fs ps s t) {l : List α} {g : α → State → State}
    (h : ∀ a u, Moves fs ps u (g a u)) : Moves fs ps s (t.each l g) := by
  induction l generalizing t with
  | nil => exact m
  | cons a l ih => exact ih (m.trans (h a t))

/-! What stands. -/

theorem Tab.get_filter (d : Nat) (p : Nat × Nat → Bool) (l : Tab Nat) (k : Nat) (h : ∀ x : Nat × Nat, x.1 = k → p x = true) :
    Tab.get d (l.filter p) k = Tab.get d l k := by
  induction l with
  | nil => rfl
  | cons x l ih =>
    obtain ⟨i, v⟩ := x
    by_cases hi : i = k
    · simp [Tab.get, hi, h (k, v) rfl]
    · by_cases hp : p (i, v) = true <;> simp [Tab.get, hp, hi, ih]

theorem Moves.get (m : Moves fs ps s t) {f : Fld} (h : listed fs f.id = false) (i : Nat) : t.get f i = s.get f i := by
  have e : ∀ l : Tab Nat, Tab.get 0 (l.filter (fun x => !listed fs x.1)) (f.key i) = Tab.get 0 l (f.key i) := fun l =>
    Tab.get_filter 0 _ l _ (fun x hx => by rw [hx, listed_key, h]; rfl)
  rw [State.get, State.get, ← e, m.regs, e]

theorem Moves.on (m : Moves fs ps s t) {f : Fld} (h : listed fs f.id = false) (i : Nat) : t.on f i = s.on f i := by
  rw [State.on, State.on, m.get h]

theorem Moves.ones (m : Moves fs ps s t) {f : Fld} (h : listed fs f.id = false) : t.ones f = s.ones f := by
  have e : ∀ l : Tab Nat, l.filterMap (fun x => if x.1 % 2048 = f.id then some (x.1 / 2048) else none) =
      (l.filter (fun x => !listed fs x.1)).filterMap (fun x => if x.1 % 2048 = f.id then some (x.1 / 2048) else none) := by
    intro l
    rw [List.filterMap_filter]
    refine List.filterMap_congr (fun x _ => ?_)
    by_cases hx : x.1 % 2048 = f.id
    · have hn : listed fs x.1 = false := by rw [← listed_mod, hx, h]
      simp [hn]
    · simp [hx]
  rw [State.ones, State.ones, e, m.regs, ← e]

/-- Calmness rests on the slice groups, the streams and the alarms. -/
theorem Moves.calm (m : Moves fs ps s t)
    (h : [Part.egress, .ingress, .carTx, .alarms].all (fun p => !ps.contains p) = true) : t.calm = s.calm := by
  simp only [List.all_cons, List.all_nil, Bool.and_true, Bool.and_eq_true, Bool.not_eq_true'] at h
  obtain ⟨he, hi, hc, ha⟩ := h
  exact State.calm_congr (m.parts .egress he) (m.parts .ingress hi) (m.parts .carTx hc) (m.parts .alarms ha)

theorem Moves.fr (m : Moves fs ps s t) (h : [Part.arrivals, .deepWr, .egress, .ingress, .lineOut, .hostOut, .pfcOut, .pairTrans,
    .taken, .dispTurn, .retireAt].all (fun p => !ps.contains p) = true) : t.fr = s.fr := by
  have k : ∀ p ∈ [Part.arrivals, .deepWr, .egress, .ingress, .lineOut, .hostOut, .pfcOut, .pairTrans, .taken, .dispTurn,
      .retireAt], p.same s t := fun p hp => m.parts p (by simpa using List.all_eq_true.mp h p hp)
  simp only [List.mem_cons, List.not_mem_nil, or_false, forall_eq_or_imp, forall_eq, Part.same] at k
  obtain ⟨k0, k1, k2, k3, k4, k5, k6, k7, k8, k9, k10⟩ := k
  cases hs : s.fr
  cases ht : t.fr
  simp_all

theorem Moves.mode (m : Moves fs ps s t) (h : listed fs GLB_MODE.MODE.id = false) : t.mode = s.mode := m.get h 0

end

/-! The plainest operations. -/

section
variable (s : State)

theorem State.set_moves (f : Fld) (i v : Nat) : Moves [f] [] s (s.set f i v) where
  regs := by
    have hk : listed [f] (f.key i) = true := by simp [listed, Fld.key]
    have hins : ∀ (l : Tab Nat) x, (Tab.insert l (f.key i) x).filter (fun x => !listed [f] x.1) =
        l.filter (fun x => !listed [f] x.1) := by
      intro l x
      induction l with
      | nil => simp [Tab.insert, hk]
      | cons a l ih =>
        obtain ⟨j, y⟩ := a
        simp only [Tab.insert]
        split
        · simp [List.filter_cons, hk]
        · split
          · rename_i e
            simp [hk, ← e]
          · simp [List.filter_cons, ih]
    have her : ∀ l : Tab Nat, (Tab.erase l (f.key i)).filter (fun x => !listed [f] x.1) = l.filter (fun x => !listed [f] x.1) := by
      intro l
      induction l with
      | nil => rfl
      | cons a l ih =>
        obtain ⟨j, y⟩ := a
        simp only [Tab.erase]
        split
        · rename_i e
          simp [hk, e, ih]
        · simp [List.filter_cons, ih]
    simp only [State.set, Tab.set]
    split
    · exact her _
    · exact hins _ _
  parts p _ := by cases p <;> rfl
  emits _ h := h
  sources _ h := h

theorem State.bump_moves (f : Fld) (i n : Nat) : Moves [f] [] s (s.bump f i n) := s.set_moves f i _

theorem State.emit_moves (e : Emit) : Moves [] [.out] s (s.emit e) :=
  ⟨rfl, by rintro ⟨⟩ ⟨⟩ <;> rfl, fun x h => List.mem_append_left _ h, fun _ h => h⟩

theorem State.ic_moves (x : IcuS) (h : ∀ n ∈ s.ic.icu, n ∈ x.icu) :
    Moves [] [.ic] s { s with ic := x } :=
  ⟨rfl, by rintro ⟨⟩ ⟨⟩ <;> rfl, fun _ h => h, h⟩

theorem State.wraps_moves (x : Tab Nat) : Moves [] [.wraps] s { s with wraps := x } :=
  .of_parts rfl (by rintro ⟨⟩ ⟨⟩ <;> rfl) rfl rfl

end

end Sys2Proof.Machine
end
/-! Footprints of the shared operations: sources, counters, sticky bits, the end of a command. -/
section
namespace Sys2Proof.Machine

theorem mem_insertNat {n m : Nat} {l : List Nat} : m ∈ insertNat n l ↔ m = n ∨ m ∈ l := by
  induction l with
  | nil => simp [insertNat]
  | cons a l ih =>
    simp only [insertNat]
    split
    · simp
    · split
      · rename_i e
        simp [e]
      · simp only [List.mem_cons, ih]
        tauto

section
variable (s : State)

theorem Moves.touchKeeps {fs : List Fld} {ps : List Part} (hf : listed fs ICU_PORT.WAKE.id = true)
    (hp : [Part.ic, .out].all ps.contains = true) : TouchKeeps (Moves fs ps s) where
  timer t x m := m.also (t.ic_moves _ (fun _ h => h)) rfl (by simp_all)
  deliver t p v m := by
    unfold State.deliver
    split
    · exact m
    · exact m.also (t.ic_moves _ (fun _ h => h)) rfl (by simp_all)
  wakePin t p m := by
    unfold State.wakePin
    simp only
    split
    · exact m
    · exact (m.also (t.set_moves ICU_PORT.WAKE p _) (by simp [hf]) rfl).also (State.emit_moves _ _) rfl (by simp_all)

theorem State.pend_moves (n : Nat) : Moves [ICU_PORT.WAKE] [.ic, .out] s (s.pend n) := by
  have ho : Moves [ICU_PORT.WAKE] [.ic, .out] s { s with ic.occ := insertNat n s.occurred, ic.occAt := s.kclk } :=
    Moves.refl.also (s.ic_moves _ (fun _ h => h)) rfl rfl
  unfold State.pend
  simp only
  split
  · exact ho
  · exact (Moves.touchKeeps s rfl rfl).touchSrc (ho.also (State.ic_moves _ _ (fun _ h => mem_insertNat.mpr (.inr h))) rfl rfl) n

/-- A source that occurs is pending. -/
theorem State.mem_pend_self (n : Nat) : n ∈ (s.pend n).ic.icu := by
  unfold State.pend
  simp only
  split
  · rename_i h
    simpa using h
  · rw [State.touchSrc_icu]
    exact mem_insertNat.mpr (.inl rfl)

theorem State.wrapBit_moves (f : Fld) (i : Nat) : Moves [ICU_PORT.WAKE] [.ic, .out, .wraps] s (s.wrapBit f i) := by
  unfold State.wrapBit
  split
  · exact .refl
  · exact (Moves.refl.also (s.wraps_moves _) rfl rfl).also (State.pend_moves _ _) rfl rfl

theorem State.count_moves (f : Fld) (i n : Nat) : Moves [f, ICU_PORT.WAKE] [.ic, .out, .wraps] s (s.count f i n) := by
  have hs : Moves [f, ICU_PORT.WAKE] [.ic, .out, .wraps] s (s.set f i (s.get f i + n)) :=
    Moves.refl.also (s.set_moves f i _) (by simp [listed]) rfl
  unfold State.count
  exact .ite (hs.also (State.wrapBit_moves _ f i) (by simp [listed]) rfl) hs

theorem State.clearCount_moves (f : Fld) (i : Nat) : Moves [f, ICU_PORT.WAKE] [.ic, .out, .wraps] s (s.clearCount f i) :=
  (Moves.refl.also (s.set_moves f i 0) (by simp [listed]) rfl).also (State.wrapBit_moves _ f i) (by simp [listed]) rfl

theorem State.event_moves (f : Fld) (i n : Nat) : Moves [f, ICU_PORT.WAKE] [.ic, .out] s (s.event f i n) :=
  .ite .refl ((Moves.refl.also (s.set_moves f i 1) (by simp [listed]) rfl).also (State.pend_moves _ n) (by simp [listed]) rfl)

theorem State.eventEach_moves (f : Fld) (i n : Nat) : Moves [f, ICU_PORT.WAKE] [.ic, .out] s (s.eventEach f i n) :=
  (Moves.refl.also (s.set_moves f i 1) (by simp [listed]) rfl).also (State.pend_moves _ n) (by simp [listed]) rfl

/-! The parts that one update sets. -/

theorem State.tape_moves (x : Nat) : Moves [] [.tape] s { s with tape := x } :=
  .of_parts rfl (by rintro ⟨⟩ ⟨⟩ <;> rfl) rfl rfl
theorem State.md_moves (x : ModeS) : Moves [] [.md] s { s with md := x } :=
  .of_parts rfl (by rintro ⟨⟩ ⟨⟩ <;> rfl) rfl rfl
theorem State.hq_moves (x : HqS) : Moves [] [.hq] s { s with hq := x } :=
  .of_parts rfl (by rintro ⟨⟩ ⟨⟩ <;> rfl) rfl rfl
theorem State.cn_moves (x : CntS) : Moves [] [.cn] s { s with cn := x } :=
  .of_parts rfl (by rintro ⟨⟩ ⟨⟩ <;> rfl) rfl rfl
theorem State.cl_moves (x : ClmS) : Moves [] [.cl] s { s with cl := x } :=
  .of_parts rfl (by rintro ⟨⟩ ⟨⟩ <;> rfl) rfl rfl
theorem State.fl_moves (x : FltS) : Moves [] [.fl] s { s with fl := x } :=
  .of_parts rfl (by rintro ⟨⟩ ⟨⟩ <;> rfl) rfl rfl
theorem State.ke_moves (x : KeyS) : Moves [] [.ke] s { s with ke := x } :=
  .of_parts rfl (by rintro ⟨⟩ ⟨⟩ <;> rfl) rfl rfl
theorem State.ch_moves (x : ChsS) : Moves [] [.ch] s { s with ch := x } :=
  .of_parts rfl (by rintro ⟨⟩ ⟨⟩ <;> rfl) rfl rfl
theorem State.au_moves (x : AutS) : Moves [] [.au] s { s with au := x } :=
  .of_parts rfl (by rintro ⟨⟩ ⟨⟩ <;> rfl) rfl rfl
theorem State.arrivals_moves (x : Tab (List Arrival)) : Moves [] [.arrivals] s { s with fr.arrivals := x } :=
  .of_parts rfl (by rintro ⟨⟩ ⟨⟩ <;> rfl) rfl rfl
theorem State.deepWr_moves (x : Tab (List DeepWr)) : Moves [] [.deepWr] s { s with fr.deepWr := x } :=
  .of_parts rfl (by rintro ⟨⟩ ⟨⟩ <;> rfl) rfl rfl
theorem State.setEg_moves (r : Nat) (l : List EgItem) : Moves [] [.egress] s (s.setEg r l) :=
  .of_parts rfl (by rintro ⟨⟩ ⟨⟩ <;> rfl) rfl rfl
theorem State.setIg_moves (r : Nat) (l : List InItem) : Moves [] [.ingress] s (s.setIg r l) :=
  .of_parts rfl (by rintro ⟨⟩ ⟨⟩ <;> rfl) rfl rfl
theorem State.setLineQ_moves (k : Nat) (l : List LineItem) : Moves [] [.lineOut] s (s.setLineQ k l) :=
  .of_parts rfl (by rintro ⟨⟩ ⟨⟩ <;> rfl) rfl rfl
theorem State.hostOut_moves (x : Tab (List OutFrame)) : Moves [] [.hostOut] s { s with fr.hostOut := x } :=
  .of_parts rfl (by rintro ⟨⟩ ⟨⟩ <;> rfl) rfl rfl
theorem State.pfcOut_moves (x : Tab (List (List Octet))) : Moves [] [.pfcOut] s { s with fr.pfcOut := x } :=
  .of_parts rfl (by rintro ⟨⟩ ⟨⟩ <;> rfl) rfl rfl
theorem State.taken_moves (x : Nat) : Moves [] [.taken] s { s with fr.taken := x } :=
  .of_parts rfl (by rintro ⟨⟩ ⟨⟩ <;> rfl) rfl rfl
theorem State.queues_moves (x : Tab Queue) : Moves [] [.queues] s { s with pl.queues := x } :=
  .of_parts rfl (by rintro ⟨⟩ ⟨⟩ <;> rfl) rfl rfl
theorem State.drr_moves (x : Tab Drr) : Moves [] [.drr] s { s with pl.drr := x } :=
  .of_parts rfl (by rintro ⟨⟩ ⟨⟩ <;> rfl) rfl rfl
theorem State.levels_moves (x : Tab Level) : Moves [] [.levels] s { s with pl.levels := x } :=
  .of_parts rfl (by rintro ⟨⟩ ⟨⟩ <;> rfl) rfl rfl
theorem State.poolPaused_moves (x : Tab Bool) : Moves [] [.poolPaused] s { s with pl.poolPaused := x } :=
  .of_parts rfl (by rintro ⟨⟩ ⟨⟩ <;> rfl) rfl rfl
theorem State.xoffAt_moves (x : Tab Nat) : Moves [] [.xoffAt] s { s with pl.xoffAt := x } :=
  .of_parts rfl (by rintro ⟨⟩ ⟨⟩ <;> rfl) rfl rfl

/-- An update of the deep buffer that raises no alarm. -/
theorem State.deep_moves {x : VnrS} (h : x.alarms = s.vn.alarms) : Moves [] [.deep] s { s with vn := x } :=
  .of_parts rfl (by rintro ⟨⟩ ⟨⟩ <;> simp [Part.same, h]) rfl rfl

/-! The end of a command. -/

theorem State.portsCome_moves : Moves [ICU_PORT.WAKE] [.ic, .out, .cl] s s.portsCome := by
  unfold State.portsCome
  exact .ite ((Moves.refl.each (fun n u => Moves.refl.also (u.pend_moves n) rfl rfl)).also (State.cl_moves _ _) rfl rfl) .refl

theorem State.degNote_moves : Moves [] [.md] s s.degNote := by
  unfold State.degNote
  exact .ite (s.md_moves _) (.ite (s.md_moves _) .refl)

theorem State.begin_moves (x : Trans) : Moves [GLB_MODE.IN_TRANSITION] [.md] s (s.begin x) :=
  (Moves.refl.also (s.set_moves GLB_MODE.IN_TRANSITION 0 1) rfl rfl).also (State.md_moves _ _) rfl rfl

theorem State.yieldReq_moves : Moves [GLB_MODE.IN_TRANSITION] [.md] s s.yieldReq :=
  .ite ((Moves.refl.also (s.set_moves GLB_MODE.IN_TRANSITION 0 0) rfl rfl).also (State.md_moves _ _) rfl rfl) .refl

theorem State.settle_moves : Moves [GLB_MODE.IN_TRANSITION] [.md] s s.settle :=
  .ite (s.yieldReq_moves.trans (State.begin_moves _ _)) .refl

theorem State.closed_moves : Moves [ICU_PORT.WAKE, GLB_MODE.IN_TRANSITION] [.ic, .out, .cl, .md] s s.closed :=
  ((Moves.refl.also s.portsCome_moves rfl rfl).also (State.degNote_moves _) rfl rfl).also (State.settle_moves _) rfl rfl

/-! Packets of the host rings and records of the sampler. -/

theorem State.setRing_moves (k : Nat) (r : Ring) : Moves [] [.hq] s (s.setRing k r) := s.hq_moves _

theorem State.puntLost_moves (k : Nat) : Moves [HQ_PCNT.LOST, ICU_PORT.WAKE] [.ic, .out, .wraps, .hq] s (s.puntLost k) :=
  (Moves.refl.also (s.count_moves HQ_PCNT.LOST k 1) rfl rfl).also (State.setRing_moves _ k _) rfl rfl

theorem State.puntRoom_moves (k need n : Nat) :
    Moves [HQ_PCNT.LOST, ICU_PORT.WAKE] [.ic, .out, .wraps, .hq] s (s.puntRoom k need n) := by
  induction n generalizing s with
  | zero => exact .refl
  | succ n ih =>
    unfold State.puntRoom
    have hd : ∀ w, Moves [HQ_PCNT.LOST, ICU_PORT.WAKE] [.ic, .out, .wraps, .hq] s
        (((s.setRing k { s.ring k with waiting := w }).puntLost k).puntRoom k need n) := fun w =>
      ((Moves.refl.also (s.setRing_moves k _) rfl rfl).trans (State.puntLost_moves _ k)).trans (ih _)
    split
    · exact .refl
    · simp only
      split
      · exact .refl
      · split
        · split
          · exact .refl
          · exact hd _
        · exact hd _

theorem State.puntPush_moves (k : Nat) (p : Punt) :
    Moves [HQ_PCNT.LOST, ICU_PORT.WAKE] [.ic, .out, .wraps, .hq] s (s.puntPush k p) := by
  have hr := s.puntRoom_moves k p.cells ((s.ring k).waiting.length + 1)
  exact .ite (s.puntLost_moves k) (.ite (hr.also (State.setRing_moves _ k _) rfl rfl) (hr.trans (State.puntLost_moves _ k)))

/-- Fields that a sampler record may move. -/
def smpMoves : List Fld := [CNT_SMP_DROPPED.V, CNT_SMP_HEAD.INDEX, CNT_SMP_HEAD.WRITTEN, ICU_PORT.WAKE]

theorem State.smpEligible_moves (r : Nat) (b : Bool) : Moves [] [.cn] s (s.smpEligible r b).2 := by
  unfold State.smpEligible
  split
  · simp only
    refine Moves.trans ?_ (State.cn_moves _ _)
    split
    · exact s.cn_moves _
    · exact .refl
  · exact .refl

theorem State.smpWrite_moves (r body : Nat) : Moves smpMoves [.ic, .out, .wraps, .cn] s (s.smpWrite r body) := by
  have hw : ∀ x a b, Moves smpMoves [.ic, .out, .wraps, .cn] s
      ((({ s with cn := x } : State).set CNT_SMP_HEAD.INDEX 0 a).set CNT_SMP_HEAD.WRITTEN 0 b) := fun x a b =>
    ((Moves.refl.also (s.cn_moves x) rfl rfl).also (State.set_moves _ CNT_SMP_HEAD.INDEX 0 a) rfl rfl).also
      (State.set_moves _ CNT_SMP_HEAD.WRITTEN 0 b) rfl rfl
  unfold State.smpWrite
  exact .ite ((Moves.refl.also (s.count_moves CNT_SMP_DROPPED.V 0 1) rfl rfl).also (State.pend_moves _ _) rfl rfl)
    (.ite ((hw _ _ _).also (State.pend_moves _ _) rfl rfl) (hw _ _ _))

theorem State.smpEgress_moves (f : Frame) (pn an fl reason : Nat) :
    Moves smpMoves [.ic, .out, .wraps, .cn] s (s.smpEgress f pn an fl reason) :=
  .ite (s.smpWrite_moves _ _) .refl

theorem State.smpIngress_moves (hp lp sc an fl len time steps mono pn reason : Nat) :
    Moves smpMoves [.ic, .out, .wraps, .cn] s (s.smpIngress hp lp sc an fl len time steps mono pn reason) :=
  s.smpWrite_moves _ _

/-! Completion records. -/

/-- Fields that a completion record may move. -/
def recMoves : List Fld := [HQ_PUNT.CPL_IDX, HQ_PUNT.PHASE, HQ_PCNT.PACKETS, HQ_PCNT.OCTETS, HQ_PCNT.TRUNC, HQ_ICNT.ADMITTED,
  HQ_ICNT.DMA_ERR, HQ_ICNT.REFUSED, ICU_PORT.WAKE]

theorem State.recWrite_moves (k : Nat) (r : Rec) : Moves recMoves [.ic, .out, .wraps, .hq] s (s.recWrite k r) := by
  have hi : ∀ e i c p, Moves recMoves [.ic, .out, .wraps, .hq] s (if c = 0 then ((s.emit e).set HQ_PUNT.CPL_IDX k i).set
      HQ_PUNT.PHASE k p else (s.emit e).set HQ_PUNT.CPL_IDX k i) := fun e i c p => by
    have hs := (Moves.refl (fs := recMoves) (ps := [.ic, .out, .wraps, .hq])).also (s.emit_moves e) rfl rfl |>.also
      (State.set_moves _ HQ_PUNT.CPL_IDX k i) rfl rfl
    exact .ite (hs.also (State.set_moves _ HQ_PUNT.PHASE k p) rfl rfl) hs
  unfold State.recWrite
  simp only
  refine Moves.also ?_ (State.pend_moves _ _) rfl rfl
  have hp := fun e i c p => ((hi e i c p).also (State.count_moves _ HQ_PCNT.PACKETS k 1) rfl rfl).also
    (State.count_moves _ HQ_PCNT.OCTETS k r.len) rfl rfl
  refine .ite (Moves.also ?_ (State.setRing_moves _ k _) rfl rfl) (.ite ?_ (.ite ?_ ?_))
  · exact .ite ((hp _ _ _ _).also (State.count_moves _ HQ_PCNT.TRUNC k 1) rfl rfl) (hp _ _ _ _)
  · exact (hi _ _ _ _).also (State.count_moves _ HQ_ICNT.ADMITTED _ 1) rfl rfl
  · exact (hi _ _ _ _).also (State.count_moves _ HQ_ICNT.DMA_ERR _ 1) rfl rfl
  · exact (hi _ _ _ _).also (State.count_moves _ HQ_ICNT.REFUSED _ 1) rfl rfl

theorem State.recsGo_moves (k n : Nat) : Moves recMoves [.ic, .out, .wraps, .hq] s (State.recsGo k n s) := by
  induction n generalizing s with
  | zero => exact .refl
  | succ n ih =>
    unfold State.recsGo
    split
    · exact .ite (((Moves.refl.also (s.setRing_moves k _) rfl rfl).trans (State.recWrite_moves _ k _)).trans (ih _)) .refl
    · exact .refl

theorem State.recsTry_moves (k : Nat) : Moves recMoves [.ic, .out, .wraps, .hq] s (s.recsTry k) := s.recsGo_moves k _

theorem State.recPut_moves (k : Nat) (r : Rec) : Moves recMoves [.ic, .out, .wraps, .hq] s (s.recPut k r) := by
  unfold State.recPut
  exact .ite ((Moves.refl.also (s.setRing_moves k _) rfl rfl).trans (State.recsTry_moves _ k)) .refl

theorem State.injDone_moves (k desc status queue : Nat) :
    Moves recMoves [.ic, .out, .wraps, .hq] s (s.injDone k desc status queue) := s.recPut_moves _ _

end

end Sys2Proof.Machine
end
/-! Reception at a host port: what step 1 counts and what egress classification does with a good frame. -/
section
namespace Sys2Proof.Machine

section
variable {fs gs : List Fld} {ps qs : List Part} {s t u : State}

/-- A counter that has counted reads one more, whatever else moved before and after. -/
theorem Moves.counted {f : Fld} {i n : Nat} (m : Moves fs ps s t) (k : Moves gs qs (t.count f i n) u)
    (hf : listed fs f.id = false) (hg : listed gs f.id = false) (hp : pendMoves f = false) :
    u.get f i = (s.get f i + n) % 2 ^ f.width := by
  rw [k.get hg, State.count_get_self _ hp, m.get hf]

/-- A datapath command that moves nothing of what calmness rests on ends, and its end moves little. -/
theorem Moves.ends (m : Moves fs ps s t) (h : s.calm = true)
    (hp : [Part.egress, .ingress, .carTx, .alarms].all (fun p => !ps.contains p) = true) :
    ∃ u, finish t = .next u ∧ Moves [ICU_PORT.WAKE, GLB_MODE.IN_TRANSITION] [.ic, .out, .cl, .md] t u :=
  ⟨_, finish_calm t ((m.calm hp).trans h), t.closed_moves⟩

/-- Fields that a match against an egress rule reads. -/
def egrKeys : List Fld := [CLS_EGR.VALID, CLS_EGR.HPORT_MASK, CLS_EGR.HPORT, CLS_EGR.DA_MASK, CLS_EGR.DA, CLS_EGR.SA_MASK,
  CLS_EGR.SA, CLS_EGR.ETYPE_MASK, CLS_EGR.ETYPE, CLS_EGR.VID_MASK, CLS_EGR.VID, CLS_EGR.PCP_MASK, CLS_EGR.PCP,
  CLS_EGR.TAGGED_CARE, CLS_EGR.TAGGED]

theorem Moves.egrRule (m : Moves fs ps s t) (hp : Nat) (d : Hdr)
    (h : egrKeys.all (fun f => !listed fs f.id) = true) : t.egrRule hp d = s.egrRule hp d := by
  have g : ∀ f ∈ egrKeys, ∀ i, t.get f i = s.get f i := fun f hf i => m.get (by simpa using List.all_eq_true.mp h f hf) i
  have e : t.egrMatch hp d = s.egrMatch hp d := by
    funext i
    simp only [State.egrMatch, State.on]
    rw [g CLS_EGR.VALID (by decide), g CLS_EGR.HPORT_MASK (by decide), g CLS_EGR.HPORT (by decide),
      g CLS_EGR.DA_MASK (by decide), g CLS_EGR.DA (by decide), g CLS_EGR.SA_MASK (by decide), g CLS_EGR.SA (by decide),
      g CLS_EGR.ETYPE_MASK (by decide), g CLS_EGR.ETYPE (by decide), g CLS_EGR.VID_MASK (by decide),
      g CLS_EGR.VID (by decide), g CLS_EGR.PCP_MASK (by decide), g CLS_EGR.PCP (by decide),
      g CLS_EGR.TAGGED_CARE (by decide), g CLS_EGR.TAGGED (by decide)]
  rw [State.egrRule, State.egrRule, e, m.ones (by simpa using List.all_eq_true.mp h CLS_EGR.VALID (by decide))]

theorem Moves.egrClearOk (m : Moves fs ps s t) (e : Nat) (h : listed fs OFC_CLR_POLICY.EGR_EAPOL_OK.id = false)
    (h' : listed fs OFC_CLR_POLICY.EGR_OTHER_OK.id = false) : t.egrClearOk e = s.egrClearOk e := by
  rw [State.egrClearOk, State.egrClearOk, m.on h, m.on h']

theorem Moves.protQueue (m : Moves fs ps s t) (c a b : Nat) (h : listed fs SCT_TX.LPORT.id = false) :
    t.protQueue c a b = s.protQueue c a b := by
  simp only [State.protQueue, m.get h]

end

/-! Arrivals. -/

theorem mem_insertArrival (a : Arrival) (l : List Arrival) : a ∈ insertArrival a l := by
  induction l with
  | nil => simp [insertArrival]
  | cons x l ih =>
    simp only [insertArrival]
    split
    · simp
    · exact List.mem_cons_of_mem _ ih

section
variable (s : State)

theorem State.arrive_moves (a : Arrival) : Moves [] [.arrivals] s (s.arrive a) := s.arrivals_moves _

theorem State.mem_arrive (a : Arrival) : a ∈ Tab.get [] (s.arrive a).fr.arrivals (regionOfLp a.f.lp) := by
  simp only [State.arrive, Tab.get_set_self]
  exact mem_insertArrival _ _

theorem State.step2Drop_moves (f : Frame) (n : Nat) :
    Moves smpMoves [.ic, .out, .wraps, .cn] s (s.step2Drop f none n) := s.smpEgress_moves _ _ _ _ _

end

/-! A good frame. -/

/-- What a good frame moves before its rule acts. -/
abbrev rxMoves : List Fld := [RGN_HPCNT.RX_FRAMES, RGN_HPCNT.RX_OCTETS, ICU_PORT.WAKE]

/-- A frame received comes to classification in a state v that stands but for its counters and the sampler. -/
theorem State.hostFrame_good {s : State} {hp : Nat} {octets d : List Octet} {badCode : Bool} (back : Nat)
    (hu : s.hpUp hp = true) (hb : s.mode ≠ mBOOT) (h0 : s.mode ≠ 0) (hc : rxCheck octets badCode 9216 = 0)
    (hd : d = octets.take (octets.length - 4)) :
    ∃ (v : State) (f : Frame), Moves rxMoves [.ic, .out, .wraps, .cn] s v ∧ f.data = d ∧
      v.get RGN_HPCNT.RX_FRAMES hp = (s.get RGN_HPCNT.RX_FRAMES hp + 1) % 2 ^ 64 ∧
      (s.egrRule hp (hdrOf d) = none →
        s.hostFrame hp octets badCode back = (v.count RGN_HPCLS.NO_RULE hp 1).step2Drop f none 8) ∧
      ∀ i, s.egrRule hp (hdrOf d) = some i → s.hostFrame hp octets badCode back = (v.count CLS_EGR.HITS i 1).egrAct hp i f none := by
  let u := (s.count RGN_HPCNT.RX_FRAMES hp 1).count RGN_HPCNT.RX_OCTETS hp octets.length
  let g := newFrame d (adjusted (u.now - back * 2 ^ 16) (u.get TIM_HP.BOARD_ADJ hp)) u.mono u.steps (some hp) none (u.prioOf hp d)
  let e := u.smpEligible (regionOfHp hp) (bit (u.get CNT_SMP_PORTS.HP 0) hp)
  have m1 : Moves rxMoves [.ic, .out, .wraps, .cn] s (s.count RGN_HPCNT.RX_FRAMES hp 1) := Moves.refl.also (s.count_moves _ _ _) rfl rfl
  have k1 : Moves [RGN_HPCNT.RX_OCTETS, ICU_PORT.WAKE] [.ic, .out, .wraps, .cn] (s.count RGN_HPCNT.RX_FRAMES hp 1) u :=
    Moves.refl.also (State.count_moves _ _ _ _) rfl rfl
  have mu : Moves rxMoves [.ic, .out, .wraps, .cn] s u := m1.also k1 rfl rfl
  have hf : s.hostFrame hp octets badCode back = u.classify hp g none := by
    rw [State.hostFrame, if_neg (by simp [hu, hb, h0]), if_neg (by simp [hc])]
    simp only [hc]
    rw [if_neg (by simp [State.rxCount]), ← hd]
    rfl
  have hcl : u.classify hp g none = match s.egrRule hp (hdrOf d) with
      | none => (e.2.count RGN_HPCLS.NO_RULE hp 1).step2Drop { g with sampled := e.1 } none 8
      | some i => (e.2.count CLS_EGR.HITS i 1).egrAct hp i { g with sampled := e.1 } none := by
    rw [← mu.egrRule hp (hdrOf d) rfl]
    rfl
  refine ⟨e.2, { g with sampled := e.1 }, mu.also (u.smpEligible_moves _ _) rfl rfl, rfl, ?_, fun h => ?_, fun i h => ?_⟩
  · exact Moves.counted (Moves.refl (fs := []) (ps := [])) (k1.also (u.smpEligible_moves _ _) rfl rfl) rfl rfl rfl
  · rw [hf, hcl, h]
  · rw [hf, hcl, h]

/-- A frame that step 1 refuses is counted. -/
theorem State.hostFrame_bad {s : State} {hp chk : Nat} {octets : List Octet} {badCode : Bool} (back : Nat) {f : Fld}
    (hu : s.hpUp hp = true) (hb : s.mode ≠ mBOOT) (h0 : s.mode ≠ 0) (hc : chk = rxCheck octets badCode 9216)
    (hf : (chk, f) ∈ [(1, RGN_HPCLS.OVERSIZE), (2, RGN_HPCNT.RX_FCS_ERR), (3, RGN_HPCNT.RX_RUNT), (4, RGN_HPCNT.RX_CTRL)]) :
    s.hostFrame hp octets badCode back = s.count f hp 1 := by
  rw [State.hostFrame, if_neg (by simp [hu, hb, h0])]
  simp only [List.mem_cons, Prod.mk.injEq, List.not_mem_nil, or_false] at hf
  rw [hc] at hf
  obtain ⟨e, rfl⟩ | ⟨e, rfl⟩ | ⟨e, rfl⟩ | ⟨e, rfl⟩ := hf <;> simp [e, State.rxCount]

/-! The action of the rule. -/

/-- What a frame moves that its rule does not send on. -/
abbrev egrMoves : List Fld := smpMoves ++ [HQ_PCNT.LOST]

/-- A frame that its rule does not send on moves, after its counter, no frames. -/
theorem State.egrAct_counted {s : State} {hp i : Nat} {f : Frame} {c : Fld}
    (hc : (c = RGN_HPCLS.RULE_DROP ∧ s.get CLS_EGR.ACTION i = 0) ∨
      (c = RGN_HPCLS.SC_INVALID ∧ s.get CLS_EGR.ACTION i = 1 ∧ s.on SCT_TX.VALID (s.get CLS_EGR.SC i) = false) ∨
      (c = RGN_HPCLS.CLEAR_DENIED ∧ s.get CLS_EGR.ACTION i = 2 ∧ s.egrClearOk (hdrOf f.data).etype = false) ∨
      (c = RGN_HPCLS.PUNTED ∧ s.get CLS_EGR.ACTION i = 3 ∧ s.mode ≠ mLOCKDOWN)) :
    Moves egrMoves [.ic, .out, .wraps, .cn, .hq] (s.count c hp 1) (s.egrAct hp i f none) := by
  unfold State.egrAct
  obtain ⟨rfl, h⟩ | ⟨rfl, h, hv⟩ | ⟨rfl, h, ho⟩ | ⟨rfl, h, hm⟩ := hc <;> simp only [h]
  · exact Moves.refl.also (State.step2Drop_moves _ _ _) rfl rfl
  · rw [if_neg (by simp [hv])]
    exact Moves.refl.also (State.step2Drop_moves _ _ _) rfl rfl
  · rw [if_neg (by simp [ho])]
    exact Moves.refl.also (State.step2Drop_moves _ _ _) rfl rfl
  · rw [if_neg hm]
    exact Moves.refl.also (State.puntPush_moves _ _ _) rfl rfl

/-- What a frame moves, but for the counters of its rule and of its outcome. -/
abbrev egrAll : List Fld := rxMoves ++ egrMoves ++ [GLB_MODE.IN_TRANSITION]
abbrev egrParts : List Part := [.ic, .out, .wraps, .cn, .hq, .cl, .md]

/-- The counters of the outcomes. -/
def egrCounters : List Fld := [RGN_HPCLS.RULE_DROP, RGN_HPCLS.SC_INVALID, RGN_HPCLS.CLEAR_DENIED, RGN_HPCLS.PUNTED,
  RGN_HPCLS.TO_PROTECT, RGN_HPCLS.CLEARED, RGN_HPCLS.OVERSIZE, RGN_HPCNT.RX_FCS_ERR, RGN_HPCNT.RX_RUNT, RGN_HPCNT.RX_CTRL]

/-- They stand outside that. -/
theorem egrCounters_unlisted : ∀ c ∈ egrCounters,
    listed (CLS_EGR.HITS :: egrAll) c.id = false ∧ listed egrAll c.id = false ∧ pendMoves c = false ∧ c.width = 64 ∧
    [c, ICU_PORT.WAKE].all (fun f => listed (egrCounters ++ egrAll) f.id) = true := by decide

/-- A frame that its rule sends on waits for admission. -/
theorem State.egrAct_protect {s : State} {hp i : Nat} {f : Frame} (ha : s.get CLS_EGR.ACTION i = 1)
    (hv : s.on SCT_TX.VALID (s.get CLS_EGR.SC i) = true) :
    s.egrAct hp i f none = (s.count RGN_HPCLS.TO_PROTECT hp 1).arrive
      ⟨{ f with sc := some (s.get CLS_EGR.SC i), lp := s.get SCT_TX.LPORT (s.get CLS_EGR.SC i), cq := s.get CLS_EGR.CQ i,
                queue := s.protQueue (s.get CLS_EGR.SC i) (s.get CLS_EGR.QSEL i) (s.get CLS_EGR.CQ i) }, none⟩ := by
  unfold State.egrAct
  simp only [ha]
  rw [if_pos hv]

theorem State.egrAct_clear {s : State} {hp i : Nat} {f : Frame} (ha : s.get CLS_EGR.ACTION i = 2)
    (ho : s.egrClearOk (hdrOf f.data).etype = true) :
    s.egrAct hp i f none = (s.count RGN_HPCLS.CLEARED hp 1).arrive
      ⟨{ f with sc := none, lp := s.get CLS_EGR.LPORT i, cq := s.get CLS_EGR.CQ i,
                queue := 8192 + 4 * s.get CLS_EGR.LPORT i + s.get CLS_EGR.CQ i }, none⟩ := by
  unfold State.egrAct
  simp only [ha]
  rw [if_pos ho]

theorem exec_hostFrameReceive (hp : Fin 32) (octets : List Octet) (badCode : Bool) (back : Nat) (s : State) :
    exec (.hostFrameReceive hp octets badCode back) s = finish (s.hostFrame hp octets badCode back) := rfl

section
variable {s : State} {hp : Fin 32} {octets d : List Octet} {badCode : Bool} {back : Nat} (hcalm : s.calm = true)
  (hu : s.hpUp hp.val = true) (hb : s.mode ≠ mBOOT) (h0 : s.mode ≠ 0) (hc : rxCheck octets badCode 9216 = 0)
  (hd : d = octets.take (octets.length - 4))
include hcalm hu hb h0 hc hd

theorem hostFrameReceive_noRule (hr : s.egrRule hp.val (hdrOf d) = none) :
    ∃ t, exec (.hostFrameReceive hp octets badCode back) s = .next t ∧ t.fr = s.fr ∧
      t.get RGN_HPCNT.RX_FRAMES hp.val = (s.get RGN_HPCNT.RX_FRAMES hp.val + 1) % 2 ^ 64 ∧
      t.get RGN_HPCLS.NO_RULE hp.val = (s.get RGN_HPCLS.NO_RULE hp.val + 1) % 2 ^ 64 := by
  obtain ⟨v, f, mv, -, hrx, hnone, -⟩ := State.hostFrame_good back hu hb h0 hc hd
  have mc : Moves (RGN_HPCLS.NO_RULE :: egrAll) egrParts v (v.count RGN_HPCLS.NO_RULE hp 1) :=
    Moves.refl.also (v.count_moves _ _ _) rfl rfl
  have md := (v.count RGN_HPCLS.NO_RULE hp 1).step2Drop_moves f 8
  have m : Moves (RGN_HPCLS.NO_RULE :: egrAll) egrParts s _ := ((mv.mono rfl rfl).trans mc).also md rfl rfl
  obtain ⟨t, ht, k⟩ := m.ends hcalm rfl
  have kc : Moves (egrMoves ++ [GLB_MODE.IN_TRANSITION]) egrParts _ t := Moves.refl.also md rfl rfl |>.also k rfl rfl
  refine ⟨t, ?_, (m.also k rfl rfl).fr rfl, ?_, mv.counted kc rfl rfl rfl⟩
  · rw [exec_hostFrameReceive, hnone hr, ht]
  · rw [kc.get rfl, (v.count_moves RGN_HPCLS.NO_RULE hp 1).get rfl, hrx]

/-- A rule that does not send the frame on counts it, and moves no frames. -/
theorem hostFrameReceive_stopped {i : Nat} {c : Fld} (hr : s.egrRule hp.val (hdrOf d) = some i)
    (hact : (c = RGN_HPCLS.RULE_DROP ∧ s.get CLS_EGR.ACTION i = 0) ∨
      (c = RGN_HPCLS.SC_INVALID ∧ s.get CLS_EGR.ACTION i = 1 ∧ s.on SCT_TX.VALID (s.get CLS_EGR.SC i) = false) ∨
      (c = RGN_HPCLS.CLEAR_DENIED ∧ s.get CLS_EGR.ACTION i = 2 ∧ s.egrClearOk (hdrOf d).etype = false) ∨
      (c = RGN_HPCLS.PUNTED ∧ s.get CLS_EGR.ACTION i = 3 ∧ s.mode ≠ mLOCKDOWN)) :
    ∃ t, exec (.hostFrameReceive hp octets badCode back) s = .next t ∧ t.fr = s.fr ∧
      t.get CLS_EGR.HITS i = (s.get CLS_EGR.HITS i + 1) % 2 ^ 64 ∧ t.get c hp.val = (s.get c hp.val + 1) % 2 ^ 64 := by
  obtain ⟨v, f, mv, hf, -, -, hsome⟩ := State.hostFrame_good back hu hb h0 hc hd
  obtain ⟨hl, hl', hp', hw, hall⟩ := egrCounters_unlisted c (by
    obtain ⟨e, -⟩ | ⟨e, -⟩ | ⟨e, -⟩ | ⟨e, -⟩ := hact <;> (rw [e]; decide))
  have m1 : Moves (CLS_EGR.HITS :: egrAll) egrParts s (v.count CLS_EGR.HITS i 1) :=
    (mv.mono rfl rfl).also (v.count_moves CLS_EGR.HITS i 1) rfl rfl
  have ma := State.egrAct_counted (s := v.count CLS_EGR.HITS i 1) (hp := hp) (i := i) (f := f) (c := c) (by
    simpa only [m1.get (f := CLS_EGR.ACTION) rfl, m1.get (f := CLS_EGR.SC) rfl, m1.on (f := SCT_TX.VALID) rfl, m1.mode rfl, hf,
      m1.egrClearOk _ rfl rfl] using hact)
  have mc := (v.count CLS_EGR.HITS i 1).count_moves c hp 1
  have ma' : Moves (egrCounters ++ egrAll) egrParts (v.count CLS_EGR.HITS i 1)
      ((v.count CLS_EGR.HITS i 1).egrAct hp i f none) := (mc.mono hall rfl).also ma rfl rfl
  have m : Moves (CLS_EGR.HITS :: egrCounters ++ egrAll) egrParts s _ := (m1.mono rfl rfl).also ma' rfl rfl
  obtain ⟨t, ht, k⟩ := m.ends hcalm rfl
  have kc : Moves egrAll egrParts ((v.count CLS_EGR.HITS i 1).count c hp 1) t := (ma.mono rfl rfl).also k rfl rfl
  refine ⟨t, ?_, (m.also k rfl rfl).fr rfl, ?_, ?_⟩
  · rw [exec_hostFrameReceive, hsome i hr, ht]
  · exact mv.counted (ma'.also k rfl rfl) rfl rfl rfl
  · rw [← hw]
    exact m1.counted kc hl hl' hp'

/-- A rule that sends the frame on counts it, and it waits for admission. -/
theorem hostFrameReceive_sent {i : Nat} {c : Fld} (hcm : c ∈ egrCounters) (hr : s.egrRule hp.val (hdrOf d) = some i)
    (a : Frame → Arrival) (hact : ∀ v f, Moves (CLS_EGR.HITS :: egrAll) egrParts s v → f.data = d →
      v.egrAct hp i f none = (v.count c hp 1).arrive (a f)) :
    ∃ t, exec (.hostFrameReceive hp octets badCode back) s = .next t ∧
      t.get CLS_EGR.HITS i = (s.get CLS_EGR.HITS i + 1) % 2 ^ 64 ∧ t.get c hp.val = (s.get c hp.val + 1) % 2 ^ 64 ∧
      ∃ f, f.data = d ∧ a f ∈ Tab.get [] t.fr.arrivals (regionOfLp (a f).f.lp) := by
  obtain ⟨v, f, mv, hf, -, -, hsome⟩ := State.hostFrame_good back hu hb h0 hc hd
  obtain ⟨hl, hl', hp', hw, hall⟩ := egrCounters_unlisted c hcm
  have m1 : Moves (CLS_EGR.HITS :: egrAll) egrParts s (v.count CLS_EGR.HITS i 1) :=
    (mv.mono rfl rfl).also (v.count_moves CLS_EGR.HITS i 1) rfl rfl
  have mc := (v.count CLS_EGR.HITS i 1).count_moves c hp 1
  have ma := ((v.count CLS_EGR.HITS i 1).count c hp 1).arrive_moves (a f)
  have mca : Moves (egrCounters ++ egrAll) (.arrivals :: egrParts) (v.count CLS_EGR.HITS i 1) _ := (mc.mono hall rfl).also ma rfl rfl
  have m : Moves (CLS_EGR.HITS :: egrCounters ++ egrAll) (.arrivals :: egrParts) s _ := (m1.mono rfl rfl).also mca rfl rfl
  obtain ⟨t, ht, k⟩ := m.ends hcalm rfl
  have kc : Moves egrAll (.arrivals :: egrParts) ((v.count CLS_EGR.HITS i 1).count c hp 1) t := (ma.mono rfl rfl).also k rfl rfl
  refine ⟨t, ?_, mv.counted (mca.also k rfl rfl) rfl rfl rfl, ?_, f, hf, ?_⟩
  · rw [exec_hostFrameReceive, hsome i hr, hact _ _ m1 hf, ht]
  · rw [← hw]
    exact m1.counted kc hl hl' hp'
  · rw [k.fr rfl]
    exact State.mem_arrive _ _

end

/-- Settles O37, by what the frame moves before its rule acts and what each action moves. -/
theorem hostFramesArrive : Obligations.HostFramesArrive := by
  intro s hp octets badCode back chk d hcalm hu hb h0 hchk hd
  subst hchk
  refine ⟨fun c hc => ?_, fun hz => hostFrameReceive_noRule hcalm hu hb h0 hz hd, fun i hz hr =>
    ⟨fun c => hostFrameReceive_stopped hcalm hu hb h0 hz hd hr, fun c g hcs hact => ?_⟩⟩
  · obtain ⟨-, hl, hp', hw, -⟩ := egrCounters_unlisted c (by
      simp only [egrCounters, List.mem_cons, Prod.mk.injEq, List.not_mem_nil, or_false] at hc ⊢
      tauto)
    have m := s.count_moves c hp 1
    obtain ⟨t, ht, k⟩ := m.ends hcalm rfl
    refine ⟨t, ?_, (k.fr rfl).trans (m.fr rfl), ?_⟩
    · rw [exec_hostFrameReceive, State.hostFrame_bad back hu hb h0 rfl hc, ht]
    · rw [← hw]
      exact Moves.counted (Moves.refl (fs := egrAll) (ps := [])) (k.mono (fs := egrAll) (ps := egrParts) rfl rfl) hl hl hp'
  · obtain ⟨rfl, ha, hv⟩ | ⟨rfl, ha, ho⟩ := hact
    · obtain ⟨t, ht, hh, hg, f, hf, hmem⟩ := hostFrameReceive_sent (back := back) hcalm hu hb h0 hz hd
        (c := RGN_HPCLS.TO_PROTECT) (by decide) hr (fun f => ⟨{ f with
          sc := some c, lp := s.get SCT_TX.LPORT c, cq := s.get CLS_EGR.CQ i,
          queue := s.protQueue c (s.get CLS_EGR.QSEL i) (s.get CLS_EGR.CQ i) }, none⟩) (fun v f m hf => by
          have hsc : v.get CLS_EGR.SC i = c := (m.get rfl i).trans hcs.symm
          rw [State.egrAct_protect ((m.get rfl i).trans ha) (by rw [hsc, m.on rfl, hv]), hsc, m.get (f := SCT_TX.LPORT) rfl,
            m.get (f := CLS_EGR.CQ) rfl, m.get (f := CLS_EGR.QSEL) rfl, m.protQueue _ _ _ rfl])
      refine ⟨t, ht, hh, hg, ?_⟩
      rw [if_pos ha]
      exact ⟨_, hmem, rfl, hf, rfl, rfl⟩
    · obtain ⟨t, ht, hh, hg, f, hf, hmem⟩ := hostFrameReceive_sent (back := back) hcalm hu hb h0 hz hd
        (c := RGN_HPCLS.CLEARED) (by decide) hr (fun f => ⟨{ f with
          sc := none, lp := s.get CLS_EGR.LPORT i, cq := s.get CLS_EGR.CQ i,
          queue := 8192 + 4 * s.get CLS_EGR.LPORT i + s.get CLS_EGR.CQ i }, none⟩) (fun v f m hf => by
          rw [State.egrAct_clear ((m.get rfl i).trans ha) (by rw [hf, m.egrClearOk _ rfl rfl, ho]), m.get (f := CLS_EGR.LPORT) rfl,
            m.get (f := CLS_EGR.CQ) rfl])
      refine ⟨t, ht, hh, hg, ?_⟩
      rw [if_neg (by rw [ha]; decide)]
      exact ⟨_, hmem, rfl, hf, rfl, rfl⟩

end Sys2Proof.Machine
end
/-! Writes of the host rings' registers: a ring starts, stops and takes its indices. -/
section
namespace Sys2Proof.Machine

/-! Words of a ring's entry. -/

section
variable (s : State)

theorem State.writeField_moves (f : Fld) (i a b w v : Nat) : Moves [f] [] s (s.writeField f i a b w v).1 := by
  unfold State.writeField
  simp only
  split
  · split <;> exact s.set_moves f i _
  · exact s.set_moves f i _
  · exact s.set_moves f i _
  · exact .refl

/-- Fields that a refusal moves. -/
abbrev rejectMoves : List Fld := [GLB_CFG_REJECT.V, GLB_CFG_REJECT_LAST.OFFSET, GLB_CFG_REJECT_LAST.WINDOW,
  GLB_CFG_REJECT_LAST.CAUSE, ICU_PORT.WAKE]

theorem State.reject_moves (p cause : Nat) (bar2 : Bool) (off : Nat) :
    Moves rejectMoves [.ic, .out, .wraps] s (s.reject (.port p) cause bar2 off) := by
  rw [State.reject, if_neg (by simp)]
  exact (((Moves.refl.also (s.count_moves GLB_CFG_REJECT.V _ 1) rfl rfl).also
    (State.set_moves _ GLB_CFG_REJECT_LAST.OFFSET _ _) rfl rfl).also
    (State.set_moves _ GLB_CFG_REJECT_LAST.WINDOW _ _) rfl rfl).also (State.set_moves _ GLB_CFG_REJECT_LAST.CAUSE _ _) rfl rfl

theorem State.ring_setRing (k : Nat) (r : Ring) : (s.setRing k r).ring k = r := by
  simp [State.ring, State.setRing, Tab.get_set_self]

theorem ring_eq {s t : State} (h : t.hq = s.hq) (k : Nat) : t.ring k = s.ring k := by rw [State.ring, State.ring, h]

/-- A ring without records writes none. -/
theorem State.recsTry_nil {k : Nat} (h : (s.ring k).recs = []) : s.recsTry k = s := by
  rw [State.recsTry, h]
  rfl

/-- Word 0 of a ring: its bit 0 is EN. -/
theorem State.writeWord_ring0 (k v : Nat) :
    (s.writeWord reg_HQ_PUNT k 0 v).1.get HQ_PUNT.EN k = v % 2 ∧
      Moves [HQ_PUNT.EN, HQ_PUNT.PORT, HQ_PUNT.SIZE_LOG2, HQ_PUNT.STOPPED, HQ_PUNT.REGION, HQ_PUNT.QUOTA] [] s
        (s.writeWord reg_HQ_PUNT k 0 v).1 := by
  have hw : reg_HQ_PUNT.inWord 0 = [(HQ_PUNT.EN, 0, 0, 1), (HQ_PUNT.PORT, 0, 1, 1), (HQ_PUNT.SIZE_LOG2, 0, 2, 5),
    (HQ_PUNT.STOPPED, 0, 7, 1), (HQ_PUNT.REGION, 0, 8, 2), (HQ_PUNT.QUOTA, 0, 16, 14)] := by decide
  let n := s.writeField HQ_PUNT.EN k 0 0 1 v
  have he : n = (s.set HQ_PUNT.EN k (bits v 0 1), false) := s.writeField_whole (f := HQ_PUNT.EN) rfl rfl (by decide) k 0 v
  have m : Moves [HQ_PUNT.PORT, HQ_PUNT.SIZE_LOG2, HQ_PUNT.STOPPED, HQ_PUNT.REGION, HQ_PUNT.QUOTA] [] n.1
      (s.writeWord reg_HQ_PUNT k 0 v).1 := by
    rw [State.writeWord, hw]
    exact ((((Moves.refl.also (n.1.writeField_moves _ _ _ _ _ _) rfl rfl).also (State.writeField_moves _ _ _ _ _ _ _) rfl rfl).also
      (State.writeField_moves _ _ _ _ _ _ _) rfl rfl).also (State.writeField_moves _ _ _ _ _ _ _) rfl rfl).also
      (State.writeField_moves _ _ _ _ _ _ _) rfl rfl
  refine ⟨?_, (Moves.refl.also (s.writeField_moves HQ_PUNT.EN k 0 0 1 v) rfl rfl).also m rfl rfl⟩
  rw [m.get rfl, he, State.get_set_self]
  simp [bits, HQ_PUNT.EN]

/-- Word 5 of a ring holds PROD and CPL_ACK. -/
theorem State.writeWord_ring5 (k : Nat) {x y : Nat} (hx : x < 2 ^ 16) (hy : y < 2 ^ 16) :
    s.writeWord reg_HQ_PUNT k 5 (x + y * 2 ^ 16) = ((s.set HQ_PUNT.PROD k x).set HQ_PUNT.CPL_ACK k y, false) := by
  have hw : reg_HQ_PUNT.inWord 5 = [(HQ_PUNT.PROD, 0, 0, 16), (HQ_PUNT.CPL_ACK, 0, 16, 16)] := by decide
  have h0 := fun v => s.writeField_whole (f := HQ_PUNT.PROD) rfl rfl (by decide) k 0 v
  have h1 := fun t v => State.writeField_whole t (f := HQ_PUNT.CPL_ACK) rfl rfl (by decide) k 16 v
  have hbx : bits (x + y * 2 ^ 16) 0 16 = x := by unfold bits; omega
  have hby : bits (x + y * 2 ^ 16) 16 16 = y := by unfold bits; omega
  simp only [HQ_PUNT.PROD, HQ_PUNT.CPL_ACK] at h0 h1 hw ⊢
  simp only [State.writeWord, hw, List.foldl, h0, h1, hbx, hby, Bool.or_self]

end

/-! Starting and stopping a ring. -/

section
variable (s : State)

theorem State.ringOn_moves (k : Nat) :
    Moves [HQ_PUNT.CONS, HQ_PUNT.CPL_IDX, HQ_PUNT.PHASE, HQ_PUNT.STOPPED] [.hq] s (s.ringOn k) :=
  ((((Moves.refl.also (s.set_moves HQ_PUNT.CONS k 0) rfl rfl).also (State.set_moves _ HQ_PUNT.CPL_IDX k 0) rfl rfl).also
    (State.set_moves _ HQ_PUNT.PHASE k 1) rfl rfl).also (State.set_moves _ HQ_PUNT.STOPPED k 0) rfl rfl).also
    (State.setRing_moves _ k _) rfl rfl

theorem State.ringOn_starts (k : Nat) : (s.ringOn k).get HQ_PUNT.CONS k = 0 ∧ (s.ringOn k).get HQ_PUNT.CPL_IDX k = 0 ∧
    (s.ringOn k).get HQ_PUNT.PHASE k = 1 ∧ (s.ringOn k).get HQ_PUNT.STOPPED k = 0 ∧ ((s.ringOn k).ring k).recs = [] := by
  have g : ∀ f, (s.ringOn k).get f k = ((((s.set HQ_PUNT.CONS k 0).set HQ_PUNT.CPL_IDX k 0).set HQ_PUNT.PHASE k 1).set
    HQ_PUNT.STOPPED k 0).get f k := fun _ => rfl
  refine ⟨?_, ?_, ?_, ?_, by rw [State.ringOn, State.ring_setRing]⟩ <;>
    simp (disch := decide) only [g, State.get_set_field, State.get_set_self] <;> decide

theorem State.puntFlush_moves (k : Nat) : Moves [HQ_PCNT.LOST, ICU_PORT.WAKE] [.ic, .out, .wraps, .hq] s (s.puntFlush k) := by
  have h := fun r => (Moves.refl (fs := [HQ_PCNT.LOST, ICU_PORT.WAKE]) (ps := [.ic, .out, .wraps, .hq])).also
    (s.setRing_moves k r) rfl rfl
  exact .ite (h _) ((h _).also (State.count_moves _ HQ_PCNT.LOST k _) rfl rfl)

theorem State.puntFlush_waiting (k : Nat) : ((s.puntFlush k).ring k).waiting = [] := by
  unfold State.puntFlush
  simp only
  split
  · rw [State.ring_setRing]
  · rw [ring_eq ((State.count_moves _ _ _ _).parts .hq rfl), State.ring_setRing]

theorem State.ringForget_moves (k : Nat) : Moves [] [.hq, .arrivals, .deepWr] s (s.ringForget k) := by
  have h : Moves [] [.hq, .arrivals, .deepWr] s (s.setRing k { s.ring k with recs := [], order := [] }) :=
    Moves.refl.also (s.setRing_moves k _) rfl rfl
  exact .ite h (h.trans (.of_parts rfl (by rintro ⟨⟩ ⟨⟩ <;> rfl) rfl rfl))

theorem State.ringForget_ring (k : Nat) : (s.ringForget k).ring k = { s.ring k with recs := [], order := [] } := by
  unfold State.ringForget
  simp only
  split
  · exact s.ring_setRing k _
  · exact s.ring_setRing k _

theorem State.ringOff_moves (k : Nat) :
    Moves [HQ_PCNT.LOST, ICU_PORT.WAKE] [.ic, .out, .wraps, .hq, .arrivals, .deepWr] s (s.ringOff k) := by
  have h : Moves [HQ_PCNT.LOST, ICU_PORT.WAKE] [.ic, .out, .wraps, .hq, .arrivals, .deepWr] s
      (if k < 64 then s.puntFlush k else s) := .ite (Moves.refl.also (s.puntFlush_moves k) rfl rfl) .refl
  exact (h.also (State.ringForget_moves _ k) rfl rfl).also (State.setRing_moves _ k _) rfl rfl

theorem State.ringOff_ring (k : Nat) : ((s.ringOff k).ring k).recs = [] ∧ ((s.ringOff k).ring k).desc = none ∧
    ((s.ringOff k).ring k).waiting = if k < 64 then [] else (s.ring k).waiting := by
  unfold State.ringOff
  simp only [State.ring_setRing, State.ringForget_ring, true_and]
  split
  · exact s.puntFlush_waiting k
  · rfl

end

/-! A write of an entry. -/

/-- Offset of a word of ring k. -/
abbrev ringOffset (k w : Nat) : Nat := if k < 64 then reg_HQ_PUNT.offset k w else reg_HQ_INJ.offset (k - 64) w

theorem State.ringPut_of_admits {s : State} {p k w : Nat} (v : Nat) (h : s.admits p 0 false true (ringOffset k w) = true) :
    s.ringPut p k w v = (s.granted p false).ringWrite (.port p) k w v := State.onWrite_of_admits _ _ _ _ _ h

theorem exec_ringEnable (p : Port) (k : Fin 128) (v : Word) (s : State) :
    exec (.ringEnable p k v) s = finish (s.ringPut p.val k.val 0 (putBits v.toNat 0 1 1)) := rfl
theorem exec_ringDisable (p : Port) (k : Fin 128) (v : Word) (s : State) :
    exec (.ringDisable p k v) s = finish (s.ringPut p.val k.val 0 (putBits v.toNat 0 1 0)) := rfl

/-- A write refused to a management port. -/
theorem finish_refused {s : State} {p : Nat} (c : Nat) (off : Nat) (h : s.calm = true) :
    ∃ t, finish ((s.granted p false).reject (.port p) c false off) = .next t ∧ s.keepsBut t rejectRegs ∧
      t.get GLB_CFG_REJECT_LAST.CAUSE p = c % 16 :=
  ⟨_, finish_calm _ (by simpa using h), ((State.keepsBut_granted s p false _).trans (State.keepsBut_reject ..)).closed,
    by rw [State.closed_get _ rfl, State.reject_cause]⟩

theorem putBits_bit0 (v x : Nat) : putBits v 0 1 x % 2 = x % 2 := putBits_mod_self v 1 x

/-- The write of word 0 that starts a ring. -/
theorem State.ringWrite_starts {s n : State} {p k v : Nat} (hn : n = (s.writeWord reg_HQ_PUNT k 0 v).1)
    (he : s.on HQ_PUNT.EN k = false) (hv : v % 2 = 1)
    (hr : n.guarSum (n.get HQ_PUNT.REGION k) + 4096 ≤ n.poolSize (n.get HQ_PUNT.REGION k)) :
    ∃ m, Moves rejectMoves [.ic, .out, .wraps] n m ∧ s.ringWrite (.port p) k 0 v = m.ringOn k := by
  have hon : n.on HQ_PUNT.EN k = true := by rw [State.on, hn, (s.writeWord_ring0 k v).1, hv]; rfl
  let off := if k < 64 then 0x600000 + 64 * k + 4 * 0 else 0x601000 + 64 * (k - 64) + 4 * 0
  refine ⟨if (s.writeWord reg_HQ_PUNT k 0 v).2 then n.reject (.port p) 1 false off else n,
    .ite (n.reject_moves _ _ _ _) .refl, ?_⟩
  unfold State.ringWrite
  simp only [show ¬((0 : Nat) = 1 ∨ (0 : Nat) = 3) by decide, if_false, ← hn, he, hon]
  rw [if_neg (by simp), if_neg (by simp), if_neg (by simp; omega), if_pos (by simp),
    State.recsTry_nil _ (State.ringOn_starts _ _).2.2.2.2]

/-- The write of word 0 that stops a ring. -/
theorem State.ringWrite_stops {s n : State} {p k v : Nat} (hn : n = (s.writeWord reg_HQ_PUNT k 0 v).1)
    (he : s.on HQ_PUNT.EN k = true) (hv : v % 2 = 0) (hl : ringLocked.all (fun f => n.get f k == s.get f k) = true) :
    ∃ m, Moves rejectMoves [.ic, .out, .wraps] n m ∧ s.ringWrite (.port p) k 0 v = m.ringOff k := by
  have hon : n.on HQ_PUNT.EN k = false := by rw [State.on, hn, (s.writeWord_ring0 k v).1, hv]; rfl
  have hany : ringLocked.any (fun f => n.get f k != s.get f k) = false := by
    simpa [bne_iff_ne, List.all_eq_true, beq_iff_eq] using hl
  let off := if k < 64 then 0x600000 + 64 * k + 4 * 0 else 0x601000 + 64 * (k - 64) + 4 * 0
  refine ⟨if (s.writeWord reg_HQ_PUNT k 0 v).2 then n.reject (.port p) 1 false off else n,
    .ite (n.reject_moves _ _ _ _) .refl, ?_⟩
  unfold State.ringWrite
  simp only [show ¬((0 : Nat) = 1 ∨ (0 : Nat) = 3) by decide, if_false, ← hn, he, hon, hany]
  rw [if_neg (by simp), if_neg (by simp), if_neg (by simp), if_neg (by simp), if_pos (by simp),
    State.recsTry_nil _ (State.ringOff_ring _ _).1]

/-- A write of PROD and CPL_ACK that is in range takes them, and else is refused (R285). -/
theorem State.ringWrite_indices {s n : State} {p k x y : Nat} (hx : x < 2 ^ 16) (hy : y < 2 ^ 16)
    (hn : n = (s.set HQ_PUNT.PROD k x).set HQ_PUNT.CPL_ACK k y) :
    (n.prodBad k = false → s.ringWrite (.port p) k 5 (x + y * 2 ^ 16) = n.recsTry k) ∧
      (n.prodBad k = true → ∃ off, s.ringWrite (.port p) k 5 (x + y * 2 ^ 16) = s.reject (.port p) 3 false off) := by
  have m : Moves [HQ_PUNT.PROD, HQ_PUNT.CPL_ACK] [] s n := hn ▸ (Moves.refl.also (s.set_moves HQ_PUNT.PROD k x) rfl rfl).also
    (State.set_moves _ HQ_PUNT.CPL_ACK k y) rfl rfl
  have hany : ringLocked.any (fun f => n.get f k != s.get f k) = false := by
    simp [ringLocked, m.get (f := HQ_PUNT.PORT) rfl, m.get (f := HQ_PUNT.SIZE_LOG2) rfl, m.get (f := HQ_PUNT.REGION) rfl,
      m.get (f := HQ_PUNT.QUOTA) rfl, m.get (f := HQ_PUNT.DESC_BASE) rfl, m.get (f := HQ_PUNT.CPL_BASE) rfl]
  have hon : n.on HQ_PUNT.EN k = s.on HQ_PUNT.EN k := m.on rfl k
  have hnn : ¬(s.on HQ_PUNT.EN k = false ∧ s.on HQ_PUNT.EN k = true) := by simp
  have hnn' : ¬(s.on HQ_PUNT.EN k = true ∧ s.on HQ_PUNT.EN k = false) := by simp
  refine ⟨fun hb => ?_, fun hb =>
    ⟨if k < 64 then 0x600000 + 64 * k + 4 * 5 else 0x601000 + 64 * (k - 64) + 4 * 5, ?_⟩⟩
  · unfold State.ringWrite
    simp only [show ¬((5 : Nat) = 1 ∨ (5 : Nat) = 3) by decide, if_false, s.writeWord_ring5 k hx hy, ← hn, hany, hon, hb]
    rw [if_neg (by simp), if_neg (by simp), if_neg (fun h => hnn ⟨h.1, h.2.1⟩), if_neg hnn,
      if_neg hnn', if_neg (by simp)]
  · unfold State.ringWrite
    simp only [show ¬((5 : Nat) = 1 ∨ (5 : Nat) = 3) by decide, if_false, s.writeWord_ring5 k hx hy, ← hn, hany, hon, hb]
    rw [if_neg (by simp), if_pos (by simp)]

/-- The refusals of a write of word 0. -/
theorem State.ringWrite_noRoom {s n : State} {p k v : Nat} (hn : n = (s.writeWord reg_HQ_PUNT k 0 v).1)
    (he : s.on HQ_PUNT.EN k = false) (hv : v % 2 = 1)
    (hr : n.poolSize (n.get HQ_PUNT.REGION k) < n.guarSum (n.get HQ_PUNT.REGION k) + 4096) :
    ∃ off, s.ringWrite (.port p) k 0 v = s.reject (.port p) 3 false off := by
  have hon : n.on HQ_PUNT.EN k = true := by rw [State.on, hn, (s.writeWord_ring0 k v).1, hv]; rfl
  refine ⟨if k < 64 then 0x600000 + 64 * k + 4 * 0 else 0x601000 + 64 * (k - 64) + 4 * 0, ?_⟩
  unfold State.ringWrite
  simp only [show ¬((0 : Nat) = 1 ∨ (0 : Nat) = 3) by decide, if_false, ← hn, he, hon]
  rw [if_neg (by simp), if_neg (by simp), if_pos ⟨trivial, trivial, hr⟩]

theorem State.ringWrite_locked {s n : State} {p k v : Nat} (hn : n = (s.writeWord reg_HQ_PUNT k 0 v).1)
    (he : s.on HQ_PUNT.EN k = true) (hl : ringLocked.all (fun f => n.get f k == s.get f k) = false) :
    ∃ off, s.ringWrite (.port p) k 0 v = s.reject (.port p) 2 false off := by
  have hany : ringLocked.any (fun f => n.get f k != s.get f k) = true := by
    simpa [bne_iff_ne, List.all_eq_false, beq_iff_eq] using hl
  refine ⟨if k < 64 then 0x600000 + 64 * k + 4 * 0 else 0x601000 + 64 * (k - 64) + 4 * 0, ?_⟩
  unfold State.ringWrite
  simp only [show ¬((0 : Nat) = 1 ∨ (0 : Nat) = 3) by decide, if_false, ← hn, he, hany]
  rw [if_pos (by simp)]

/-! The commands of the rings' registers. -/

section
variable {s : State} {p : Port} {k : Fin 128}

theorem ringEnable_outcome (v : Word) {n : State}
    (hn : n = ((s.granted p.val false).writeWord reg_HQ_PUNT k.val 0 (putBits v.toNat 0 1 1)).1)
    (hw : s.mayWrite p.val false (ringOffset k.val 0)) (he : s.on HQ_PUNT.EN k.val = false) :
    (n.guarSum (n.get HQ_PUNT.REGION k.val) + 4096 ≤ n.poolSize (n.get HQ_PUNT.REGION k.val) →
      ∃ t, exec (.ringEnable p k v) s = .next t ∧ t.get HQ_PUNT.EN k.val = 1 ∧ t.get HQ_PUNT.CONS k.val = 0 ∧
        t.get HQ_PUNT.CPL_IDX k.val = 0 ∧ t.get HQ_PUNT.PHASE k.val = 1 ∧ t.get HQ_PUNT.STOPPED k.val = 0) ∧
    (n.poolSize (n.get HQ_PUNT.REGION k.val) < n.guarSum (n.get HQ_PUNT.REGION k.val) + 4096 →
      ∃ t, exec (.ringEnable p k v) s = .next t ∧ s.keepsBut t rejectRegs ∧ t.get GLB_CFG_REJECT_LAST.CAUSE p.val = 3) := by
  obtain ⟨ha, hc⟩ := hw
  obtain ⟨hen, mw⟩ := (s.granted p.val false).writeWord_ring0 k.val (putBits v.toNat 0 1 1)
  rw [putBits_bit0, ← hn] at hen
  rw [← hn] at mw
  have he' : (s.granted p.val false).on HQ_PUNT.EN k.val = false := by rw [State.on, State.granted_get _ _ _ rfl]; exact he
  have hx : exec (.ringEnable p k v) s =
      finish ((s.granted p.val false).ringWrite (.port p.val) k.val 0 (putBits v.toNat 0 1 1)) := by
    rw [exec_ringEnable, State.ringPut_of_admits _ ha]
  refine ⟨fun hr => ?_, fun hr => ?_⟩
  · obtain ⟨m, mm, hm⟩ := State.ringWrite_starts (p := p.val) hn he' (putBits_bit0 _ _) hr
    have mo := m.ringOn_moves k.val
    have M : Moves (rejectMoves ++ [HQ_PUNT.EN, HQ_PUNT.PORT, HQ_PUNT.SIZE_LOG2, HQ_PUNT.STOPPED, HQ_PUNT.REGION, HQ_PUNT.QUOTA,
      HQ_PUNT.CONS, HQ_PUNT.CPL_IDX, HQ_PUNT.PHASE]) [.ic, .out, .wraps, .hq] (s.granted p.val false) (m.ringOn k.val) :=
      ((mw.mono rfl rfl).also mm rfl rfl).also mo rfl rfl
    obtain ⟨t, ht, kt⟩ := M.ends (by simpa using hc) rfl
    obtain ⟨h1, h2, h3, h4, -⟩ := m.ringOn_starts k.val
    exact ⟨t, by rw [hx, hm, ht], by rw [kt.get rfl, mo.get rfl, mm.get rfl, hen], by rw [kt.get rfl, h1],
      by rw [kt.get rfl, h2], by rw [kt.get rfl, h3], by rw [kt.get rfl, h4]⟩
  · obtain ⟨off, ho⟩ := State.ringWrite_noRoom (p := p.val) hn he' (putBits_bit0 _ _) hr
    rw [hx, ho]
    exact finish_refused 3 off hc

theorem ringDisable_outcome (v : Word) {n : State}
    (hn : n = ((s.granted p.val false).writeWord reg_HQ_PUNT k.val 0 (putBits v.toNat 0 1 0)).1)
    (hw : s.mayWrite p.val false (ringOffset k.val 0)) (he : s.on HQ_PUNT.EN k.val = true) :
    (ringLocked.all (fun f => n.get f k.val == s.get f k.val) = true →
      ∃ t, exec (.ringDisable p k v) s = .next t ∧ t.get HQ_PUNT.EN k.val = 0 ∧ (t.ring k.val).recs = [] ∧
        (t.ring k.val).waiting = (if k.val < 64 then [] else (s.ring k.val).waiting) ∧ (t.ring k.val).desc = none) ∧
    (ringLocked.all (fun f => n.get f k.val == s.get f k.val) = false →
      ∃ t, exec (.ringDisable p k v) s = .next t ∧ s.keepsBut t rejectRegs ∧ t.get GLB_CFG_REJECT_LAST.CAUSE p.val = 2) := by
  obtain ⟨ha, hc⟩ := hw
  obtain ⟨hen, mw⟩ := (s.granted p.val false).writeWord_ring0 k.val (putBits v.toNat 0 1 0)
  rw [putBits_bit0, ← hn] at hen
  rw [← hn] at mw
  have he' : (s.granted p.val false).on HQ_PUNT.EN k.val = true := by rw [State.on, State.granted_get _ _ _ rfl]; exact he
  have hx : exec (.ringDisable p k v) s =
      finish ((s.granted p.val false).ringWrite (.port p.val) k.val 0 (putBits v.toNat 0 1 0)) := by
    rw [exec_ringDisable, State.ringPut_of_admits _ ha]
  have hg : ringLocked.all (fun f => n.get f k.val == (s.granted p.val false).get f k.val) =
      ringLocked.all (fun f => n.get f k.val == s.get f k.val) := by
    simp only [ringLocked, List.all_cons, List.all_nil]
    simp only [State.granted_get s p.val false (f := HQ_PUNT.PORT) rfl, State.granted_get s p.val false (f := HQ_PUNT.SIZE_LOG2) rfl,
      State.granted_get s p.val false (f := HQ_PUNT.REGION) rfl, State.granted_get s p.val false (f := HQ_PUNT.QUOTA) rfl,
      State.granted_get s p.val false (f := HQ_PUNT.DESC_BASE) rfl, State.granted_get s p.val false (f := HQ_PUNT.CPL_BASE) rfl]
  refine ⟨fun hl => ?_, fun hl => ?_⟩
  · obtain ⟨m, mm, hm⟩ := State.ringWrite_stops (p := p.val) hn he' (putBits_bit0 _ _) (hg.trans hl)
    have mo := m.ringOff_moves k.val
    have M : Moves (rejectMoves ++ [HQ_PUNT.EN, HQ_PUNT.PORT, HQ_PUNT.SIZE_LOG2, HQ_PUNT.STOPPED, HQ_PUNT.REGION, HQ_PUNT.QUOTA,
      HQ_PCNT.LOST]) [.ic, .out, .wraps, .hq, .arrivals, .deepWr] (s.granted p.val false) (m.ringOff k.val) :=
      ((mw.mono rfl rfl).also mm rfl rfl).also mo rfl rfl
    obtain ⟨t, ht, kt⟩ := M.ends (by simpa using hc) rfl
    have hk := ring_eq (kt.parts .hq rfl) k.val
    have hq : m.hq = s.hq := (mm.parts .hq rfl).trans ((mw.parts .hq rfl).trans (by simp [State.granted]))
    obtain ⟨h1, h2, h3⟩ := m.ringOff_ring k.val
    exact ⟨t, by rw [hx, hm, ht], by rw [kt.get rfl, mo.get rfl, mm.get rfl, hen], by rw [hk, h1],
      by rw [hk, h3, ring_eq hq], by rw [hk, h2]⟩
  · obtain ⟨off, ho⟩ := State.ringWrite_locked (p := p.val) (v := putBits v.toNat 0 1 0) hn he' (hg.trans hl)
    rw [hx, ho]
    exact finish_refused 2 off hc

/-- Indices written to a ring, PROD x and CPL_ACK y. -/
theorem ringIndices_outcome {x y a b : Nat} (hx : x < 2 ^ 16) (hy : y < 2 ^ 16)
    (hw : s.mayWrite p.val false (ringOffset k.val 5))
    (ha : a = (if s.on HQ_PUNT.EN k.val then s.get HQ_PUNT.CONS k.val else 0))
    (hb : b = (if s.on HQ_PUNT.EN k.val then s.get HQ_PUNT.CPL_IDX k.val else 0)) :
    (((x + 65536 - a) % 65536 ≤ s.ringSize k.val ∧ (b + 65536 - y) % 65536 ≤ s.ringSize k.val) →
      ∃ t, finish (s.ringPut p.val k.val 5 (x + y * 2 ^ 16)) = .next t ∧ t.get HQ_PUNT.PROD k.val = x ∧
        t.get HQ_PUNT.CPL_ACK k.val = y) ∧
    (¬((x + 65536 - a) % 65536 ≤ s.ringSize k.val ∧ (b + 65536 - y) % 65536 ≤ s.ringSize k.val) →
      ∃ t, finish (s.ringPut p.val k.val 5 (x + y * 2 ^ 16)) = .next t ∧ s.keepsBut t rejectRegs ∧
        t.get GLB_CFG_REJECT_LAST.CAUSE p.val = 3) := by
  obtain ⟨hadm, hc⟩ := hw
  let g := s.granted p.val false
  let n := (g.set HQ_PUNT.PROD k.val x).set HQ_PUNT.CPL_ACK k.val y
  have m : Moves [HQ_PUNT.PROD, HQ_PUNT.CPL_ACK] [] g n := (Moves.refl.also (g.set_moves HQ_PUNT.PROD k.val x) rfl rfl).also
    (State.set_moves _ HQ_PUNT.CPL_ACK k.val y) rfl rfl
  have hg : ∀ f : Fld, listed [HQ_PUNT.PROD, HQ_PUNT.CPL_ACK] f.id = false → mmioMoves f = false →
      n.get f k.val = s.get f k.val := fun f h h' => (m.get h k.val).trans (State.granted_get s p.val false h' k.val)
  have hpx : n.get HQ_PUNT.PROD k.val = x := by
    rw [State.get_set_field _ (by decide), State.get_set_self]; exact Nat.mod_eq_of_lt hx
  have hpy : n.get HQ_PUNT.CPL_ACK k.val = y := by rw [State.get_set_self]; exact Nat.mod_eq_of_lt hy
  have hbad : n.prodBad k.val = !(decide ((x + 65536 - a) % 65536 ≤ s.ringSize k.val) &&
      decide ((b + 65536 - y) % 65536 ≤ s.ringSize k.val)) := by
    simp only [State.prodBad, State.ringSize, State.on, hpx, hpy, hg HQ_PUNT.SIZE_LOG2 rfl rfl, hg HQ_PUNT.EN rfl rfl,
      hg HQ_PUNT.CONS rfl rfl, hg HQ_PUNT.CPL_IDX rfl rfl, ha, hb, Bool.not_and, ← decide_not, Nat.not_le]
    rfl
  obtain ⟨hok, hno⟩ := State.ringWrite_indices (s := g) (p := p.val) hx hy (n := n) rfl
  rw [State.ringPut_of_admits _ hadm]
  refine ⟨fun h => ?_, fun h => ?_⟩
  · rw [hok (by rw [hbad]; simp [h])]
    have mr := n.recsTry_moves k.val
    have M : Moves (recMoves ++ [HQ_PUNT.PROD, HQ_PUNT.CPL_ACK]) [.ic, .out, .wraps, .hq] g (n.recsTry k.val) :=
      (m.mono rfl rfl).also mr rfl rfl
    obtain ⟨t, ht, kt⟩ := M.ends (by simpa [g] using hc) rfl
    exact ⟨t, ht, by rw [kt.get rfl, mr.get rfl, hpx], by rw [kt.get rfl, mr.get rfl, hpy]⟩
  · obtain ⟨off, ho⟩ := hno (by
      rw [hbad]
      simpa only [Bool.not_eq_true', Bool.and_eq_false_iff, decide_eq_false_iff_not, not_and_or] using h)
    rw [ho]
    exact finish_refused 3 off hc

end

end Sys2Proof.Machine
end
/-! Packets of the punt rings, descriptors and frames of the inject rings. -/
section
namespace Sys2Proof.Machine

/-! A completion record leaves the ring's packets and descriptor. -/

section
variable (s : State)

@[simp] theorem State.count_hq (f : Fld) (i n : Nat) : (s.count f i n).hq = s.hq := (s.count_moves f i n).parts .hq rfl

theorem State.recWrite_ring (k : Nat) (r : Rec) :
    ((s.recWrite k r).ring k).waiting = (s.ring k).waiting ∧ ((s.recWrite k r).ring k).desc = (s.ring k).desc := by
  unfold State.recWrite
  simp only
  rw [ring_eq (State.pend_hq _ _)]
  split
  · simp only [State.ring_setRing]
    rw [ring_eq (s := s) (by split_ifs <;> simp)]
    exact ⟨rfl, rfl⟩
  · rw [ring_eq (s := s) (by split_ifs <;> simp)]
    exact ⟨rfl, rfl⟩

theorem State.recsGo_ring (k n : Nat) :
    ((State.recsGo k n s).ring k).waiting = (s.ring k).waiting ∧ ((State.recsGo k n s).ring k).desc = (s.ring k).desc := by
  induction n generalizing s with
  | zero => exact ⟨rfl, rfl⟩
  | succ n ih =>
    unfold State.recsGo
    split
    · split
      · rename_i r _ _
        obtain ⟨hw, hd⟩ := State.recWrite_ring (s.setRing k ((s.ring k).shift r)) k r
        obtain ⟨iw, id⟩ := ih ((s.setRing k ((s.ring k).shift r)).recWrite k r)
        rw [iw, id, hw, hd, State.ring_setRing]
        exact ⟨rfl, rfl⟩
      · exact ⟨rfl, rfl⟩
    · exact ⟨rfl, rfl⟩

theorem State.recPut_ring (k : Nat) (r : Rec) :
    ((s.recPut k r).ring k).waiting = (s.ring k).waiting ∧ ((s.recPut k r).ring k).desc = (s.ring k).desc := by
  unfold State.recPut State.recsTry
  split
  · obtain ⟨hw, hd⟩ := State.recsGo_ring (s.setRing k { s.ring k with recs := (s.ring k).recs ++ [r] }) k
      ((s.setRing k { s.ring k with recs := (s.ring k).recs ++ [r] }).ring k).recs.length
    rw [hw, hd, State.ring_setRing]
    exact ⟨rfl, rfl⟩
  · exact ⟨rfl, rfl⟩

end

/-! Writing a packet. -/

section
variable {s : State} {k : Nat} {q : Punt} {rest : List Punt} {d : Desc}

/-- A packet that has used one more descriptor, of index i. -/
def Punt.used (q : Punt) (i : Nat) : Punt := { q with begun := true, first := if q.nbuf = 0 then i else q.first, nbuf := q.nbuf + 1 }

/-- The next part of a packet goes to a descriptor in range. -/
theorem State.puntDesc_ok (hd : descOk d = true) : (s.puntDesc k q d).1 = { q.used (s.get HQ_PUNT.CONS k) with
      written := q.written + (slice q.data q.written (64 * d.len64)).length } ∧
    Emit.dmaWrite (s.get HQ_PUNT.PORT k) d.addr (slice q.data q.written (64 * d.len64)) ∈ (s.puntDesc k q d).2.out := by
  unfold State.puntDesc
  simp only [hd, if_true]
  exact ⟨rfl, List.mem_append_right _ (List.mem_singleton.mpr rfl)⟩

theorem State.puntDesc_bad (hd : descOk d = false) :
    (s.puntDesc k q d).1 = { q.used (s.get HQ_PUNT.CONS k) with badDesc := true } := by
  unfold State.puntDesc
  simp only [hd]
  rfl

/-- Each descriptor is consumed. -/
theorem State.puntDesc_consumes (s : State) (k : Nat) (q : Punt) (d : Desc) :
    Moves [HQ_PUNT.CONS] [.out] s (s.puntDesc k q d).2 ∧
      (s.puntDesc k q d).2.get HQ_PUNT.CONS k = (s.get HQ_PUNT.CONS k + 1) % 65536 := by
  have m : ∀ e, Moves [HQ_PUNT.CONS] [.out] s ((s.emit e).set HQ_PUNT.CONS k (s.get HQ_PUNT.CONS k + 1)) := fun e =>
    (Moves.refl.also (s.emit_moves e) rfl rfl).also (State.set_moves _ HQ_PUNT.CONS k _) rfl rfl
  unfold State.puntDesc
  simp only
  split
  · exact ⟨(m _).also (State.emit_moves _ _) rfl rfl, State.get_set_self _ _ _ _⟩
  · exact ⟨m _, State.get_set_self _ _ _ _⟩

/-- A packet that has its last octet leaves the ring. -/
theorem State.puntGo_done {u : State} {p : Punt} (hp : s.posted k ≠ 0) (hu : s.puntDesc k q d = (p, u))
    (hl : p.data.length ≤ p.written) :
    s.puntGo k q [d] = (u.setRing k { u.ring k with waiting := (u.ring k).waiting.drop 1 }).recPut k (puntRec p false) := by
  rw [State.puntGo, if_neg hp, hu]
  exact if_pos hl

/-- One that has not stays at the front. -/
theorem State.puntGo_more {u : State} {p : Punt} (hp : s.posted k ≠ 0) (hu : s.puntDesc k q d = (p, u))
    (hl : ¬p.data.length ≤ p.written) :
    s.puntGo k q [d] = u.setRing k { u.ring k with waiting := p :: (u.ring k).waiting.drop 1 } := by
  rw [State.puntGo, if_neg hp, hu]
  exact if_neg hl

theorem slice_length (l : List Octet) (o n : Nat) : (slice l o n).length = min n (l.length - o) := by
  simp [slice]

end

theorem exec_puntPacketWrite (k : Fin 64) (l : List Desc) (s : State) :
    exec (.puntPacketWrite k l) s = finish (s.puntWrite k.val l) := rfl

/-- Fields and parts that the writing of a packet moves. -/
abbrev puntMoves : List Fld := recMoves ++ [HQ_PUNT.CONS]
abbrev puntParts : List Part := [.ic, .out, .wraps, .hq]

section
variable {s : State} {k : Fin 64} {q : Punt} {rest : List Punt} {d : Desc} (hc : s.calm = true)
  (hw : (s.ring k.val).waiting = q :: rest) (hdma : s.ringDma k.val = true) (hp : s.posted k.val ≠ 0)
include hc hw hdma hp

theorem puntPacketWrite_done (hd : descOk d = true) (hlen : q.data.length ≤ q.written + 64 * d.len64) :
    ∃ t, exec (.puntPacketWrite k [d]) s = .next t ∧ (t.ring k.val).waiting = rest ∧
      t.get HQ_PUNT.CONS k.val = (s.get HQ_PUNT.CONS k.val + 1) % 65536 ∧
      Emit.dmaWrite (s.get HQ_PUNT.PORT k.val) d.addr (q.data.drop q.written) ∈ t.out := by
  obtain ⟨mu, hcons⟩ := s.puntDesc_consumes k.val q d
  obtain ⟨hpk, hout⟩ := State.puntDesc_ok (s := s) (k := k) (q := q) hd
  have hsl : slice q.data q.written (64 * d.len64) = q.data.drop q.written := by
    rw [slice, List.take_of_length_le]; simp; omega
  rw [hsl] at hpk hout
  set u := (s.puntDesc k.val q d).2 with hu
  have hgo := State.puntGo_done hp (Prod.ext hpk hu.symm) (by simp [Punt.used]; omega)
  have hring : u.ring k.val = s.ring k.val := ring_eq (mu.parts .hq rfl) _
  have ms := u.setRing_moves k.val { u.ring k.val with waiting := (u.ring k.val).waiting.drop 1 }
  have mp := State.recPut_moves (u.setRing k.val { u.ring k.val with waiting := (u.ring k.val).waiting.drop 1 }) k.val
    (puntRec { q.used (s.get HQ_PUNT.CONS k) with written := q.written + (q.data.drop q.written).length } false)
  have m : Moves recMoves puntParts u _ := (Moves.refl.also ms rfl rfl).also mp rfl rfl
  have M : Moves puntMoves puntParts s _ := (mu.mono rfl rfl).also m rfl rfl
  obtain ⟨t, ht, kt⟩ := M.ends hc rfl
  refine ⟨t, ?_, ?_, ?_, ?_⟩
  · rw [exec_puntPacketWrite, State.puntWrite, hw]
    simp only [hdma, if_true]
    rw [hgo, ht]
  · rw [ring_eq (kt.parts .hq rfl), (State.recPut_ring _ _ _).1, State.ring_setRing, hring, hw]
    rfl
  · rw [kt.get rfl, m.get rfl, hcons]
  · exact kt.emits _ (m.emits _ hout)

/-- A packet that stays at the front of its ring. -/
theorem puntPacketWrite_more {x : Punt} {u : State} (hu : s.puntDesc k q d = (x, u)) (hlen : ¬x.data.length ≤ x.written) :
    ∃ t, exec (.puntPacketWrite k [d]) s = .next t ∧ (t.ring k.val).waiting = x :: rest ∧
      t.get HQ_PUNT.CONS k.val = (s.get HQ_PUNT.CONS k.val + 1) % 65536 ∧ ∀ e ∈ u.out, e ∈ t.out := by
  obtain ⟨mu, hcons⟩ := s.puntDesc_consumes k.val q d
  rw [hu] at mu hcons
  have hring : u.ring k.val = s.ring k.val := ring_eq (mu.parts .hq rfl) _
  have ms := u.setRing_moves k.val { u.ring k.val with waiting := x :: (u.ring k.val).waiting.drop 1 }
  have M : Moves puntMoves puntParts s _ := (mu.mono rfl rfl).also ms rfl rfl
  obtain ⟨t, ht, kt⟩ := M.ends hc rfl
  refine ⟨t, ?_, ?_, ?_, fun e he => kt.emits _ (ms.emits _ he)⟩
  · rw [exec_puntPacketWrite, State.puntWrite, hw]
    simp only [hdma, if_true]
    rw [State.puntGo_more hp hu hlen, ht]
  · rw [ring_eq (kt.parts .hq rfl), State.ring_setRing, hring, hw]
    rfl
  · rw [kt.get rfl, ms.get rfl, hcons]

end

/-! Dropping the rest of a packet. -/

theorem State.puntDrop_moves (s : State) (k : Nat) : Moves (recMoves ++ [HQ_CTL.RESULT]) puntParts s (s.puntDrop k) := by
  have hr : ∀ t, Moves (recMoves ++ [HQ_CTL.RESULT]) puntParts t (t.set HQ_CTL.RESULT k 2) := fun t =>
    Moves.refl.also (t.set_moves HQ_CTL.RESULT k 2) rfl rfl
  unfold State.puntDrop
  split
  · exact .ite (((Moves.refl.also (s.setRing_moves k _) rfl rfl).also (State.recPut_moves _ k _) rfl rfl).also
      (State.set_moves _ HQ_CTL.RESULT k 1) rfl rfl) (hr s)
  · exact hr s

/-- DROP_REST of a packet begun. -/
theorem State.puntDrop_begun {s : State} {k : Nat} {q : Punt} {rest : List Punt} (hw : (s.ring k).waiting = q :: rest)
    (hb : q.begun = true) : (s.puntDrop k).get HQ_CTL.RESULT k = 1 ∧ ((s.puntDrop k).ring k).waiting = rest := by
  rw [State.puntDrop, hw]
  simp only [hb, if_true]
  refine ⟨State.get_set_self _ _ _ _, ?_⟩
  rw [ring_eq (State.set_hq _ _ _ _), (State.recPut_ring _ _ _).1, State.ring_setRing]

/-- DROP_REST with none begun. -/
theorem State.puntDrop_idle {s : State} {k : Nat} (h : (s.ring k).waiting.head?.any (·.begun) = false) :
    (s.puntDrop k).get HQ_CTL.RESULT k = 2 ∧ ((s.puntDrop k).ring k).waiting = (s.ring k).waiting := by
  have e : s.puntDrop k = s.set HQ_CTL.RESULT k 2 := by
    unfold State.puntDrop
    split
    · rename_i p rest hw
      exact if_neg (by simpa [hw] using h)
    · rfl
  rw [e]
  exact ⟨State.get_set_self _ _ _ _, rfl⟩

/-- The command. -/
theorem puntDropRest_ends {s : State} {p : Port} {k : Fin 64} (h : s.mayWrite p.val false (reg_HQ_CTL.offset k.val 0)) :
    ∃ t, exec (.puntDropRest p k) s = .next t ∧
      t.get HQ_CTL.RESULT k.val = ((s.granted p.val false).puntDrop k.val).get HQ_CTL.RESULT k.val ∧
      t.ring k.val = ((s.granted p.val false).puntDrop k.val).ring k.val := by
  obtain ⟨ha, hc⟩ := h
  obtain ⟨t, ht, kt⟩ := ((s.granted p.val false).puntDrop_moves k.val).ends (by simpa using hc) rfl
  refine ⟨t, ?_, kt.get rfl _, ring_eq (kt.parts .hq rfl) _⟩
  rw [← ht, ← State.onWrite_of_admits s p.val false _ (fun s => s.puntDrop k.val) ha]
  rfl

/-! Inject rings. -/

theorem exec_injectDescriptorFetch (k : Fin 64) (o : List Octet) (s : State) :
    exec (.injectDescriptorFetch k o) s = finish (s.injDesc k.val o) := rfl
theorem exec_injectFrameFetch (k : Fin 64) (x : FlashRead) (s : State) :
    exec (.injectFrameFetch k x) s = finish (s.injFrame k.val x) := rfl

section
variable {s : State} {k : Fin 64} {o : List Octet} {c : Nat}

/-- The state in which the descriptor at hand has been fetched. -/
def State.injTook (s : State) (k : Nat) : State :=
  let i := 64 + k
  let t := (s.emit (.dmaRead (s.get HQ_PUNT.PORT i) (s.get HQ_PUNT.DESC_BASE i +
    32 * (s.get HQ_PUNT.CONS i % s.ringSize i)) 32)).set HQ_PUNT.CONS i (s.get HQ_PUNT.CONS i + 1)
  t.setRing i { s.ring i with order := (s.ring i).order ++ [s.get HQ_PUNT.CONS i] }

theorem State.injTook_moves (s : State) (k : Nat) : Moves [HQ_PUNT.CONS] [.out, .hq] s (s.injTook k) :=
  ((Moves.refl.also (s.emit_moves _) rfl rfl).also (State.set_moves _ HQ_PUNT.CONS _ _) rfl rfl).also (State.setRing_moves _ _ _) rfl rfl

theorem State.injTook_consumes (s : State) (k : Nat) :
    (s.injTook k).get HQ_PUNT.CONS (64 + k) = (s.get HQ_PUNT.CONS (64 + k) + 1) % 65536 :=
  (State.setRing_moves _ _ _).get rfl _ |>.trans (State.get_set_self _ _ _ _)

theorem State.injDesc_took (hdma : s.ringDma (64 + k.val) = true) (hp : s.posted (64 + k.val) ≠ 0)
    (hd : (s.ring (64 + k.val)).desc = none) (hc : c = s.get HQ_PUNT.CONS (64 + k.val)) : s.injDesc k.val o =
      if injLen o < 14 ∨ 9212 < injLen o ∨ injMode o = 3 then (s.injTook k.val).injDone k.val c 1 0xFFFF
      else (s.injTook k.val).setRing (64 + k.val) { (s.injTook k.val).ring (64 + k.val) with desc := some ⟨c, padTo 32 o⟩ } := by
  rw [State.injDesc, if_neg (by simp [hdma, hp, hd]), hc]
  rfl

end

end Sys2Proof.Machine
end
/-! Frames of the inject rings, the completion of a zero-length read, and the obligation. -/
section
namespace Sys2Proof.Machine

section
variable {s : State} {k : Fin 64}

theorem injectDescriptorFetch_outcome {o : List Octet} {c : Nat} (hc : s.calm = true) (hdma : s.ringDma (64 + k.val) = true)
    (hp : s.posted (64 + k.val) ≠ 0) (hd : (s.ring (64 + k.val)).desc = none) (he : c = s.get HQ_PUNT.CONS (64 + k.val)) :
    ((14 ≤ injLen o ∧ injLen o ≤ 9212 ∧ injMode o ≠ 3) →
      ∃ t, exec (.injectDescriptorFetch k o) s = .next t ∧ t.get HQ_PUNT.CONS (64 + k.val) = (c + 1) % 65536 ∧
        (t.ring (64 + k.val)).desc = some ⟨c, padTo 32 o⟩) ∧
    (¬(14 ≤ injLen o ∧ injLen o ≤ 9212 ∧ injMode o ≠ 3) →
      ∃ t, exec (.injectDescriptorFetch k o) s = .next t ∧ t.get HQ_PUNT.CONS (64 + k.val) = (c + 1) % 65536 ∧
        (t.ring (64 + k.val)).desc = none ∧ t.fr = s.fr) := by
  have mt := s.injTook_moves k.val
  have ht := State.injDesc_took (o := o) hdma hp hd he
  have hdn : ((s.injTook k.val).ring (64 + k.val)).desc = none := by
    rw [State.injTook, State.ring_setRing]; exact hd
  refine ⟨fun h => ?_, fun h => ?_⟩
  · rw [if_neg (by omega)] at ht
    have m := (s.injTook k.val).setRing_moves (64 + k.val)
      { (s.injTook k.val).ring (64 + k.val) with desc := some ⟨c, padTo 32 o⟩ }
    obtain ⟨t, he', kt⟩ := (mt.also m rfl rfl).ends hc rfl
    refine ⟨t, by rw [exec_injectDescriptorFetch, ht, he'], ?_, ?_⟩
    · rw [kt.get rfl, m.get rfl, State.injTook_consumes, he]
    · rw [ring_eq (kt.parts .hq rfl), State.ring_setRing]
  · rw [if_pos (by omega)] at ht
    have m := (s.injTook k.val).injDone_moves k.val c 1 0xFFFF
    have M : Moves (HQ_PUNT.CONS :: recMoves) puntParts s _ := (mt.mono rfl rfl).also m rfl rfl
    obtain ⟨t, he', kt⟩ := M.ends hc rfl
    refine ⟨t, by rw [exec_injectDescriptorFetch, ht, he'], ?_, ?_, (kt.fr rfl).trans (M.fr rfl)⟩
    · rw [kt.get rfl, m.get rfl, State.injTook_consumes, he]
    · rw [ring_eq (kt.parts .hq rfl), State.injDone, (State.recPut_ring _ _ _).2, hdn]

end

/-! Fetching a frame. -/

/-- The ring's descriptor is used, and its frame read. -/
def State.injRead (s : State) (k : Nat) (x : InjDesc) : State :=
  let i := 64 + k
  (s.setRing i { s.ring i with desc := none }).emit
    (.dmaRead (s.get HQ_PUNT.PORT i) (leNat (slice x.octets 0 8)) (injLen x.octets))

theorem State.injRead_moves (s : State) (k : Nat) (x : InjDesc) : Moves [] [.out, .hq] s (s.injRead k x) :=
  (Moves.refl.also (s.setRing_moves _ _) rfl rfl).also (State.emit_moves _ _) rfl rfl

theorem State.injRead_desc (s : State) (k : Nat) (x : InjDesc) : ((s.injRead k x).ring (64 + k)).desc = none := by
  have e : (s.injRead k x).ring (64 + k) = { s.ring (64 + k) with desc := none } := State.ring_setRing s _ _
  rw [e]

section
variable {s : State} {k : Nat} {x : InjDesc} {l d : List Octet} (hd : (s.ring (64 + k)).desc = some x)
  (hdma : s.ringDma (64 + k) = true)
include hd hdma

theorem State.injFrame_error
    (hq : s.injCells (64 + k) + cellsOf (List.replicate (injLen x.octets) (0 : Octet)) ≤ s.get HQ_PUNT.QUOTA (64 + k)) :
    s.injFrame k .error = (s.injRead k x).injDone k x.index 0x0B 0xFFFF := by
  rw [State.injFrame, hd]
  simp only
  rw [if_neg (by simp [hdma]; omega)]
  rfl

theorem State.injFrame_clear {lp : Nat} (he : d = padTo (max (injLen x.octets) 60) (padTo (injLen x.octets) l))
    (hq : s.injCells (64 + k) + cellsOf d ≤ s.get HQ_PUNT.QUOTA (64 + k)) (hm : injMode x.octets = 2)
    (ht : injTarget x.octets = lp) (hl : lp < 16) (ho : s.egrClearOk (be16 d (etypeAt d)) = true) :
    ∃ f : Frame, (f.data = d ∧ f.lp = lp ∧ f.sc = none ∧ f.queue = 8192 + 4 * lp + (octetAt x.octets 10).toNat / 16 % 4) ∧
      s.injFrame k (.octets l) = ((s.injRead k x).count HQ_ICNT.FETCHED k 1).arrive ⟨f, some (k, x.index)⟩ := by
  have hok : ((s.injRead k x).count HQ_ICNT.FETCHED k 1).egrClearOk (be16 d (etypeAt d)) = true := by
    rw [(State.count_moves _ HQ_ICNT.FETCHED k 1).egrClearOk _ rfl rfl, (s.injRead_moves k x).egrClearOk _ rfl rfl, ho]
  rw [State.injFrame, hd]
  simp only [hm, ht]
  rw [if_neg (by rw [← he]; simp [hdma]; omega), if_neg (by omega), ← he]
  exact ⟨_, ⟨rfl, rfl, rfl, rfl⟩, if_pos hok⟩

theorem State.injFrame_protect {c : Nat} (he : d = padTo (max (injLen x.octets) 60) (padTo (injLen x.octets) l))
    (hq : s.injCells (64 + k) + cellsOf d ≤ s.get HQ_PUNT.QUOTA (64 + k)) (hm : injMode x.octets = 1)
    (ht : injTarget x.octets = c) (hl : c < 4096) (hv : s.on SCT_TX.VALID c = true)
    (hs : (octetAt x.octets 10).toNat / 4 % 4 < 3)
    (hf : injFlag x.octets 2 = true → (octetAt x.octets 10).toNat / 4 % 4 = 2) :
    ∃ f : Frame, (f.data = d ∧ f.lp = s.get SCT_TX.LPORT c ∧ f.sc = some c ∧ f.queue =
        s.protQueue c ((octetAt x.octets 10).toNat / 4 % 4) ((octetAt x.octets 10).toNat / 16 % 4)) ∧
      s.injFrame k (.octets l) = ((s.injRead k x).count HQ_ICNT.FETCHED k 1).arrive ⟨f, some (k, x.index)⟩ := by
  have m : Moves [HQ_ICNT.FETCHED, ICU_PORT.WAKE] puntParts s ((s.injRead k x).count HQ_ICNT.FETCHED k 1) :=
    ((s.injRead_moves k x).mono rfl rfl).also (State.count_moves _ HQ_ICNT.FETCHED k 1) rfl rfl
  rw [State.injFrame, hd]
  simp only [hm, ht]
  rw [if_neg (by rw [← he]; simp [hdma]; omega), if_neg, ← he]
  · exact ⟨_, ⟨rfl, m.get rfl c, rfl, m.protQueue _ _ _ rfl⟩, if_pos ((m.on rfl c).trans hv)⟩
  · rintro (h | h | ⟨h, h'⟩)
    · omega
    · omega
    · exact h' (hf (by cases hx : injFlag x.octets 2 <;> simp_all))

end

section
variable {s : State} {k : Fin 64} {x : InjDesc}

/-- A frame fetched is counted and waits for admission. -/
theorem injectFrameFetch_arrives (hc : s.calm = true) (data : FlashRead) (f : Frame)
    (h : s.injFrame k.val data = ((s.injRead k.val x).count HQ_ICNT.FETCHED k.val 1).arrive ⟨f, some (k.val, x.index)⟩) :
    ∃ t, exec (.injectFrameFetch k data) s = .next t ∧ (t.ring (64 + k.val)).desc = none ∧
      t.get HQ_ICNT.FETCHED k.val = (s.get HQ_ICNT.FETCHED k.val + 1) % 2 ^ 64 ∧
      (⟨f, some (k.val, x.index)⟩ : Arrival) ∈ Tab.get [] t.fr.arrivals (regionOfLp f.lp) := by
  have mr := s.injRead_moves k.val x
  have mc := (s.injRead k.val x).count_moves HQ_ICNT.FETCHED k.val 1
  have ma := ((s.injRead k.val x).count HQ_ICNT.FETCHED k.val 1).arrive_moves ⟨f, some (k.val, x.index)⟩
  have M : Moves [HQ_ICNT.FETCHED, ICU_PORT.WAKE] (.arrivals :: puntParts) s _ := ((mr.mono rfl rfl).also mc rfl rfl).also ma rfl rfl
  obtain ⟨t, ht, kt⟩ := M.ends hc rfl
  refine ⟨t, by rw [exec_injectFrameFetch, h, ht], ?_, ?_, ?_⟩
  · rw [ring_eq (kt.parts .hq rfl), ring_eq (ma.parts .hq rfl), ring_eq (mc.parts .hq rfl), s.injRead_desc]
  · exact mr.counted ((ma.mono (fs := [ICU_PORT.WAKE, GLB_MODE.IN_TRANSITION]) (ps := .arrivals :: [.ic, .out, .cl, .md]) rfl rfl).also
      kt rfl rfl) rfl rfl rfl
  · rw [kt.fr rfl]
    exact State.mem_arrive _ _

/-- A failed fetch admits nothing. -/
theorem injectFrameFetch_error (hc : s.calm = true) (hd : (s.ring (64 + k.val)).desc = some x)
    (hdma : s.ringDma (64 + k.val) = true)
    (hq : s.injCells (64 + k.val) + cellsOf (List.replicate (injLen x.octets) (0 : Octet)) ≤ s.get HQ_PUNT.QUOTA (64 + k.val)) :
    ∃ t, exec (.injectFrameFetch k .error) s = .next t ∧ (t.ring (64 + k.val)).desc = none ∧ t.fr = s.fr := by
  have M : Moves recMoves puntParts s _ := ((s.injRead_moves k.val x).mono rfl rfl).also
    (State.injDone_moves _ k.val x.index 0x0B 0xFFFF) rfl rfl
  obtain ⟨t, ht, kt⟩ := M.ends hc rfl
  refine ⟨t, by rw [exec_injectFrameFetch, State.injFrame_error hd hdma hq, ht], ?_, (kt.fr rfl).trans (M.fr rfl)⟩
  rw [ring_eq (kt.parts .hq rfl), State.injDone, (State.recPut_ring _ _ _).2, s.injRead_desc]

end

/-! The zero-length read of a completion (R36). -/

theorem State.zeroReadDone_made {s : State} {p v q : Nat} {d : Delivery} (hd : s.delivery p v = some d) (hz : d.zlr = some q)
    (hm : s.masters q = true) : Emit.zeroRead q ∈ (s.zeroReadDone p v).out ∧
      ∃ e, (s.zeroReadDone p v).delivery p v = some e ∧ e.zlr = none := by
  obtain ⟨hp, hv⟩ := State.delivery_port_vec hd
  rw [State.zeroReadDone, hd]
  simp only [hz, hm, if_true]
  exact ⟨List.mem_append_right _ (List.mem_singleton.mpr rfl), _, State.setDelivery_find (d := d) hd hp hv, rfl⟩

/-- Settles O43, by the ring registers' writes, the packets' and the descriptors' rules and the fetched frames'. -/
theorem hostRingsPuntAndInject : Obligations.HostRingsPuntAndInject := by
  refine ⟨?_, ⟨?_, ?_⟩, ?_, ?_, ?_⟩
  · intro s p k off hoff
    subst hoff
    refine ⟨fun v n hn hw he => ringEnable_outcome v hn hw he, fun v n hn hw he => ringDisable_outcome v hn hw he,
      fun x a b hw ha hb => ?_⟩
    obtain ⟨p1, p2⟩ := ringIndices_outcome x.isLt (s.get_lt HQ_PUNT.CPL_ACK k.val) hw ha hb
    obtain ⟨c1, c2⟩ := ringIndices_outcome (s.get_lt HQ_PUNT.PROD k.val) x.isLt hw ha hb
    exact ⟨fun h => (p1 h).imp fun t ht => ⟨ht.1, ht.2.1⟩, p2, fun h => (c1 h).imp fun t ht => ⟨ht.1, ht.2.2⟩, c2⟩
  · intro s k q rest d n hc hw hdma hp hlen hn
    subst hn
    refine ⟨fun hd hl => puntPacketWrite_done hc hw hdma hp hd hl, fun hd hl => ?_, fun hd => ?_⟩
    · obtain ⟨hpk, hout⟩ := State.puntDesc_ok (s := s) (k := k.val) (q := q) hd
      have hsl : (slice q.data q.written (64 * d.len64)).length = 64 * d.len64 := by rw [slice_length]; omega
      rw [hsl] at hpk
      obtain ⟨t, ht, hr, hcons, ho⟩ := puntPacketWrite_more hc hw hdma hp (Prod.ext hpk rfl) (by simp [Punt.used]; omega)
      exact ⟨t, ht, hcons, by rw [hr]; rfl, ho _ hout⟩
    · obtain ⟨t, ht, hr, hcons, -⟩ := puntPacketWrite_more hc hw hdma hp (Prod.ext (State.puntDesc_bad hd) rfl)
        (by simp [Punt.used]; omega)
      exact ⟨t, ht, hcons, by rw [hr]; rfl⟩
  · intro s p k hw
    obtain ⟨t, ht, hr, hk⟩ := puntDropRest_ends hw
    have hg : (s.granted p.val false).ring k.val = s.ring k.val := ring_eq (by simp [State.granted]) _
    refine ⟨fun q rest hq hb => ?_, fun h => ?_⟩
    · obtain ⟨h1, h2⟩ := State.puntDrop_begun (s := s.granted p.val false) (k := k.val) (by rw [hg, hq]) hb
      exact ⟨t, ht, hr.trans h1, by rw [hk, h2]⟩
    · obtain ⟨h1, h2⟩ := State.puntDrop_idle (s := s.granted p.val false) (k := k.val) (by rw [hg, h])
      exact ⟨t, ht, hr.trans h1, by rw [hk, h2, hg]⟩
  · intro s k o c hc hdma hp hd he
    exact injectDescriptorFetch_outcome hc hdma hp hd he
  · intro s k x hc hd hdma
    refine ⟨injectFrameFetch_error hc hd hdma, fun l d he hq => ⟨fun lp hm ht hl ho => ?_, fun c hm ht hl hv hs hf => ?_⟩⟩
    · obtain ⟨f, ⟨h1, h2, h3, h4⟩, h⟩ := State.injFrame_clear hd hdma he hq hm ht hl ho
      obtain ⟨t, h5, h6, h7, h8⟩ := injectFrameFetch_arrives hc _ f h
      exact ⟨t, h5, h6, h7, _, h2 ▸ h8, h1, h2, h3, rfl, h4⟩
    · obtain ⟨f, ⟨h1, h2, h3, h4⟩, h⟩ := State.injFrame_protect hd hdma he hq hm ht hl hv hs hf
      obtain ⟨t, h5, h6, h7, h8⟩ := injectFrameFetch_arrives hc _ f h
      exact ⟨t, h5, h6, h7, _, h2 ▸ h8, h1, h3, rfl, h4⟩
  · intro s p vec d q hd hz hm hh
    obtain ⟨ho, e, he, hez⟩ := State.zeroReadDone_made hd hz hm
    exact ⟨_, rfl, State.closed_mem_out ho, e, State.closed_delivery he, hez⟩

end Sys2Proof.Machine
end
/-! Footprints of the queues' operations: priority flow control, depths, active lists, refusals. -/
section
namespace Sys2Proof.Machine

section
variable (s : State)

/-! Priority flow control (R260 to R262). -/

abbrev pfcMoves : List Fld := [PLN_HPFC.PAUSED, PLN_HPFC.XOFF_TX, PLN_HPFC.XON_TX, ICU_PORT.WAKE]
abbrev pfcParts : List Part := [.ic, .out, .wraps, .pfcOut, .xoffAt, .poolPaused]

/-- An XOFF that is sent and counted. -/
theorem State.xoffSent_moves (h : Nat) :
    Moves pfcMoves pfcParts s (({ s with pl.xoffAt := s.pl.xoffAt.set 0 h s.mono }.count PLN_HPFC.XOFF_TX h 1).pend 0x34B) :=
  ((Moves.refl.also (s.xoffAt_moves _) rfl rfl).also (State.count_moves _ PLN_HPFC.XOFF_TX h 1) rfl rfl).also
    (State.pend_moves _ _) rfl rfl

theorem State.pfcSend_moves (h en xoff : Nat) : Moves pfcMoves pfcParts s (s.pfcSend h en xoff) := by
  have hq : Moves pfcMoves pfcParts s
      { s with fr.pfcOut := s.fr.pfcOut.set [] h (Tab.get [] s.fr.pfcOut h ++ [s.pfcFrame h en xoff]) } :=
    Moves.refl.also (s.pfcOut_moves _) rfl rfl
  have hx := Moves.ite (c := xoff = 0) hq (hq.trans (State.xoffSent_moves _ h))
  unfold State.pfcSend
  exact .ite (.ite hx (hx.also (State.count_moves _ PLN_HPFC.XON_TX h 1) rfl rfl)) .refl

theorem State.pfcHost_moves (h : Nat) : Moves pfcMoves pfcParts s (s.pfcHost h) := by
  unfold State.pfcHost
  exact .ite .refl ((Moves.refl.also (s.set_moves PLN_HPFC.PAUSED h _) rfl rfl).trans (State.pfcSend_moves _ _ _ _))

theorem State.pfc_moves : Moves pfcMoves pfcParts s s.pfc := by
  unfold State.pfc
  refine Moves.each (Moves.each .refl (fun n u => ?_)) (fun h u => u.pfcHost_moves h)
  exact .ite (.ite (Moves.refl.also (u.poolPaused_moves _) rfl rfl) .refl)
    (.ite ((Moves.refl.also (u.poolPaused_moves _) rfl rfl).also (State.pend_moves _ _) rfl rfl) .refl)

/-! Queues. -/

theorem State.setQueue_moves (q : Nat) (x : Queue) : Moves [] [.queues] s (s.setQueue q x) := s.queues_moves _

theorem State.setDepth_moves (q d : Nat) : Moves [QUE_DQ.MAX_DEPTH, QUE_DQ.DEPTH] [] s (s.setDepth q d) :=
  (Moves.refl.also (s.set_moves QUE_DQ.MAX_DEPTH q _) rfl rfl).also (State.set_moves _ QUE_DQ.DEPTH q d) rfl rfl

theorem State.qEvent_moves (q : Nat) : Moves [PLN_QEV.V] [] s (s.qEvent q) := s.set_moves _ _ _

theorem State.queue_setQueue (q : Nat) (x : Queue) : (s.setQueue q x).queue q = x := Tab.get_set_self _ _ _ _

theorem queue_eq {s t : State} (h : t.pl.queues = s.pl.queues) (q : Nat) : t.queue q = s.queue q := by
  rw [State.queue, State.queue, h]

theorem State.joinList_moves (q : Nat) : Moves [] [.queues, .drr] s (s.joinList q) := by
  unfold State.joinList
  exact .ite (.ite .refl ((Moves.refl.also (s.setQueue_moves q _) rfl rfl).also (State.drr_moves _ _) rfl rfl)) .refl

/-- A queue that joins its list keeps its frames. -/
theorem State.joinList_frames (q : Nat) :
    ((s.joinList q).queue q).cells = (s.queue q).cells ∧ ((s.joinList q).queue q).deep = (s.queue q).deep := by
  have h : ((s.setQueue q { s.queue q with deficit := 0 }).queue q).cells = (s.queue q).cells ∧
      ((s.setQueue q { s.queue q with deficit := 0 }).queue q).deep = (s.queue q).deep := by
    rw [s.queue_setQueue]
    exact ⟨rfl, rfl⟩
  unfold State.joinList
  split
  · simp only
    split
    · exact ⟨rfl, rfl⟩
    · exact h
  · exact ⟨rfl, rfl⟩

theorem State.leaveList_moves (q : Nat) : Moves [] [.queues, .drr] s (s.leaveList q) :=
  (Moves.refl.also (s.setQueue_moves q _) rfl rfl).also (State.drr_moves _ _) rfl rfl

theorem State.checkEmpty_moves (q : Nat) : Moves [] [.queues, .drr] s (s.checkEmpty q) := .ite (s.leaveList_moves q) .refl

/-! Admission (R255). -/

abbrev recParts : List Part := [.ic, .out, .wraps, .hq]

theorem State.admitted_moves (a : Arrival) : Moves (QUE_DCNT.ADMITTED :: recMoves) recParts s (s.admitted a) := by
  have h : Moves (QUE_DCNT.ADMITTED :: recMoves) recParts s (s.count QUE_DCNT.ADMITTED a.f.queue 1) :=
    Moves.refl.also (s.count_moves _ _ _) rfl rfl
  unfold State.admitted
  split
  · exact h.also (State.injDone_moves _ _ _ _ _) rfl rfl
  · exact h

/-- Fields that the record and the sample of a refused frame move. -/
abbrev refuseMoves : List Fld := recMoves ++ smpMoves
abbrev refuseParts : List Part := [.ic, .out, .wraps, .hq, .cn, .tape]

theorem State.refuse_moves (a : Arrival) (ctr : Fld) (n : Nat) :
    Moves refuseMoves refuseParts (s.count ctr a.f.queue 1) (s.refuse a ctr n) := by
  unfold State.refuse
  refine Moves.also ?_ (State.smpEgress_moves _ _ _ _ _ _) rfl rfl
  split
  · exact Moves.refl.also (State.injDone_moves _ _ _ _ _) rfl rfl
  · exact .refl

theorem State.free_moves : Moves [] [.tape] s s.free.2 := s.tape_moves _

theorem State.dropArrival_moves (a : Arrival) (ctr : Fld) (n : Nat) :
    Moves refuseMoves refuseParts (s.count ctr a.f.queue 1) (s.dropArrival a ctr n) := by
  unfold State.dropArrival
  refine Moves.also ?_ (State.smpEgress_moves _ _ _ _ _ _) rfl rfl
  split
  · exact .ite (Moves.refl.also (State.injDone_moves _ _ _ _ _) rfl rfl)
      ((Moves.refl.also (State.free_moves _) rfl rfl).also (State.injDone_moves _ _ _ _ _) rfl rfl)
  · exact .refl

/-! The deep buffer. -/

theorem State.deepUsed_moves (r n : Nat) : Moves [] [.deep] s (s.deepUsed r n) := s.deep_moves rfl

end

end Sys2Proof.Machine
end
/-! Admission, the deep buffer's turns, the key holds and the repeated XOFF. -/
section
namespace Sys2Proof.Machine

/-! The admission unit. -/

/-- The admission unit has taken region r's front arrival. -/
def State.admTook (s : State) (r : Nat) (rest : List Arrival) : State :=
  { s with fr.arrivals := s.fr.arrivals.set [] r rest }

theorem State.admTook_moves (s : State) (r : Nat) (rest : List Arrival) : Moves [] [.arrivals] s (s.admTook r rest) :=
  s.arrivals_moves _

theorem State.admTook_launchPlace (s : State) (r : Nat) (rest : List Arrival) (lp t n : Nat) :
    (s.admTook r rest).launchPlace lp t n = s.launchPlace lp t n := by
  have hgrid : ∀ t, (s.admTook r rest).gridAtOrAfter lp t = s.gridAtOrAfter lp t := fun _ => rfl
  have hfrom : ∀ t, (s.admTook r rest).gapFrom lp t = s.gapFrom lp t := fun _ => rfl
  have hoct : (s.admTook r rest).octTime lp n = s.octTime lp n := rfl
  have hgap : ∀ k t, (s.admTook r rest).gapPlace lp n k t = s.gapPlace lp n k t := by
    intro k
    induction k with
    | zero => exact hgrid
    | succ k ih => intro t; simp only [State.gapPlace, hgrid, hfrom, hoct, ih]
  have hstr : (s.admTook r rest).streams lp = s.streams lp := rfl
  simp only [State.launchPlace, hgap, hgrid, hstr]

theorem State.admTook_launchOf (s : State) (r : Nat) (rest : List Arrival) (f : Frame) :
    (s.admTook r rest).launchOf f = s.launchOf f := by
  unfold State.launchOf
  split
  · by_cases h : s.on TIM_LP.TC_EN f.lp = true ∧ (ptpEvent f.data).isSome = true
    · rw [if_pos h, if_pos (show (s.admTook r rest).on TIM_LP.TC_EN f.lp = true ∧ (ptpEvent f.data).isSome = true from h),
        s.admTook_launchPlace]
      rfl
    · rw [if_neg h, if_neg (show ¬((s.admTook r rest).on TIM_LP.TC_EN f.lp = true ∧ (ptpEvent f.data).isSome = true) from h)]
  · have hc : ∀ g, (s.admTook r rest).charge g = s.charge g := fun _ => rfl
    simp only [s.admTook_launchPlace, hc]

section
variable {s : State} {r : Nat} {x : Arrival} {rest : List Arrival} {f : Frame}
  (hx : Tab.get [] s.fr.arrivals r = x :: rest) (hf : f = s.launchOf x.f)
include hx hf

theorem State.admission_mode (h : s.modeDiscards f = true) :
    s.admission r = ((s.admTook r rest).refuse { x with f := f } QUE_DCNT.D_MODE 7).pfc := by
  rw [State.admission, hx]
  simp only
  generalize hs : ({ s with fr.arrivals := s.fr.arrivals.set [] r rest } : State) = t
  have ht : t = s.admTook r rest := hs.symm
  have hl : t.launchOf x.f = f := by rw [ht, s.admTook_launchOf, hf]
  simp only [hl]
  rw [if_pos (by rw [ht]; exact h), ht]

theorem State.admission_fence (h : s.modeDiscards f = false) (hr : s.fenced r = true) :
    s.admission r = ((s.admTook r rest).dropArrival { x with f := f } QUE_DCNT.D_REGION 8).pfc := by
  rw [State.admission, hx]
  simp only
  generalize hs : ({ s with fr.arrivals := s.fr.arrivals.set [] r rest } : State) = t
  have ht : t = s.admTook r rest := hs.symm
  have hl : t.launchOf x.f = f := by rw [ht, s.admTook_launchOf, hf]
  simp only [hl]
  rw [if_neg (by rw [ht]; exact Bool.eq_false_iff.mp h), if_pos (by rw [ht]; exact hr), ht]

section
variable (hm : s.modeDiscards f = false) (hr : s.fenced r = false)
  (hg : 8192 ≤ f.queue → s.guarded (s.queuePort f.queue) = true → s.charge f ≤ s.gapOct (s.queuePort f.queue))
  (hd : f.queue < 8192 → s.guardedQueue f.queue = false ∧ s.deepTail f.queue = false)
include hm hr hg hd

/-- A frame past the mode, the fence, the guarded port's gap and the deep buffer's rules meets its queue's limit. -/
theorem State.admission_open :
    (s.get QUE_DQ.QLIMIT f.queue < s.get QUE_DQ.DEPTH f.queue + f.cells →
      (8192 ≤ f.queue ∨ s.on QUE_DQ.SPILL_EN f.queue = false) →
      s.admission r = ((s.admTook r rest).refuseWhy r { x with f := f } 0).pfc) ∧
    (s.get QUE_DQ.DEPTH f.queue + f.cells ≤ s.get QUE_DQ.QLIMIT f.queue →
      s.get QUE_DQ.DEPTH f.queue + f.cells ≤ s.get QUE_DQ.GUAR f.queue →
      s.admission r = ((s.admTook r rest).enqueueCells r { x with f := f }).pfc) := by
  have h3 : ¬(8192 ≤ f.queue ∧ s.guarded (s.queuePort f.queue) = true ∧ s.gapOct (s.queuePort f.queue) < s.charge f) :=
    fun ⟨a, b, c⟩ => Nat.not_lt.mpr (hg a b) c
  have h4 : ¬s.guardedQueue f.queue = true := by
    by_cases hq : f.queue < 8192
    · simp [(hd hq).1]
    · simp [State.guardedQueue, hq]
  have h5 : ¬(f.queue < 8192 ∧ s.deepTail f.queue = true) := fun ⟨a, b⟩ => by simp [(hd a).2] at b
  rw [State.admission, hx]
  simp only
  generalize hs : ({ s with fr.arrivals := s.fr.arrivals.set [] r rest } : State) = t
  have ht : t = s.admTook r rest := hs.symm
  have hl : t.launchOf x.f = f := by rw [ht, s.admTook_launchOf, hf]
  simp only [hl]
  rw [if_neg (by rw [ht]; exact Bool.eq_false_iff.mp hm), if_neg (by rw [ht]; exact Bool.eq_false_iff.mp hr),
    if_neg (by rw [ht]; exact h3), if_neg (by rw [ht]; exact h4), if_neg (by rw [ht]; exact h5)]
  refine ⟨fun hl hs => ?_, fun hl hu => ?_⟩
  · have h6 : ¬(s.on QUE_DQ.SPILL_EN f.queue = true ∧ f.queue < 8192) := fun ⟨a, b⟩ => by
      rcases hs with h | h
      · omega
      · simp [h] at a
    rw [if_pos (by rw [ht]; exact hl), if_neg (by rw [ht]; exact h6), ht]
  · have h7 : ¬(s.get QUE_DQ.DEPTH f.queue - s.get QUE_DQ.GUAR f.queue <
        s.get QUE_DQ.DEPTH f.queue + f.cells - s.get QUE_DQ.GUAR f.queue) := by omega
    rw [if_neg (by rw [ht]; exact Nat.not_lt.mpr hl), if_neg (by rw [ht]; exact fun h => h7 h.1), ht]

end

end

/-! What an admitted frame does to its queue. -/

/-- A frame as it lies in the cells of region r. -/
def State.celled (s : State) (r : Nat) (f : Frame) : Frame :=
  { f with age := s.mono, reg := r, time := if f.ring.isSome then s.now else f.time }

/-- Fields and parts that an admission to cells moves, its counter apart. -/
abbrev enqMoves : List Fld := [QUE_DQ.MAX_DEPTH, QUE_DQ.DEPTH, QUE_DQ.FRAMES]

/-- Before its admission is counted, a frame's cells have joined the queue. -/
theorem State.enqueueCells_stored (s : State) (r : Nat) (a : Arrival) :
    ∃ u, Moves enqMoves [.queues, .drr] s u ∧ s.enqueueCells r a = u.admitted a ∧
      u.get QUE_DQ.DEPTH a.f.queue = (s.get QUE_DQ.DEPTH a.f.queue + a.f.cells) % 2 ^ QUE_DQ.DEPTH.width ∧
      (u.queue a.f.queue).cells = (s.queue a.f.queue).cells ++ [s.celled r a.f] ∧
      (u.queue a.f.queue).deep = (s.queue a.f.queue).deep := by
  let q := a.f.queue
  let u1 := s.setQueue q { s.queue q with cells := (s.queue q).cells ++ [s.celled r a.f] }
  let u2 := u1.setDepth q (s.get QUE_DQ.DEPTH q + a.f.cells)
  let u3 := u2.set QUE_DQ.FRAMES q (u2.get QUE_DQ.FRAMES q + 1)
  have m3 : Moves enqMoves [] u1 u3 := (Moves.refl.also (u1.setDepth_moves q _) rfl rfl).also (u2.set_moves QUE_DQ.FRAMES q _) rfl rfl
  have mj := u3.joinList_moves q
  have hq : u3.queue q = { s.queue q with cells := (s.queue q).cells ++ [s.celled r a.f] } :=
    (queue_eq (m3.parts .queues rfl) q).trans (s.queue_setQueue q _)
  obtain ⟨hjc, hjd⟩ := u3.joinList_frames q
  refine ⟨u3.joinList q, (((s.setQueue_moves q _).mono rfl rfl).trans (m3.mono rfl rfl)).also mj rfl rfl, rfl, ?_, ?_, ?_⟩
  · have hf : u3.get QUE_DQ.DEPTH q = u2.get QUE_DQ.DEPTH q := State.get_set_field _ (by decide) _ _ _
    rw [mj.get rfl, hf]
    exact State.get_set_self _ _ _ _
  · rw [hjc, hq]
  · rw [hjd, hq]

/-- An admitted frame is counted. -/
theorem State.admitted_counts (s : State) (a : Arrival) :
    (s.admitted a).get QUE_DCNT.ADMITTED a.f.queue = (s.get QUE_DCNT.ADMITTED a.f.queue + 1) % 2 ^ 64 := by
  unfold State.admitted
  split
  · exact (Moves.refl (fs := []) (ps := [])).counted (State.injDone_moves _ _ _ _ _) rfl rfl rfl
  · exact State.count_get_self s rfl _ _

/-! The admission of a front arrival. -/

theorem exec_admission (r : Region) (s : State) : exec (.admission r) s = finish (s.admission r.val) := rfl

/-- Fields and parts that a refused admission moves, its counter and the queue's event bit apart. -/
abbrev admMoves : List Fld := refuseMoves ++ pfcMoves ++ [GLB_MODE.IN_TRANSITION]
abbrev admParts : List Part := [.ic, .out, .wraps, .hq, .cn, .tape, .pfcOut, .xoffAt, .poolPaused, .cl, .md]

/-- The counters of refused admissions. -/
def admCounters : List Fld := [QUE_DCNT.D_MODE, QUE_DCNT.D_REGION, QUE_DCNT.D_QUEUE_LIMIT]

theorem admCounters_unlisted : ∀ c ∈ admCounters, listed [PLN_QEV.V] c.id = false ∧ listed admMoves c.id = false ∧
    pendMoves c = false ∧ c.width = 64 ∧
    [c, ICU_PORT.WAKE].all (fun f => listed (PLN_QEV.V :: admCounters ++ admMoves) f.id) = true := by decide

section
variable {s : State} {r : Region} {x : Arrival} {rest : List Arrival} {f : Frame} (hc : s.calm = true)
  (hx : Tab.get [] s.fr.arrivals r.val = x :: rest) (hf : f = s.launchOf x.f)
include hc

/-- A frame that admission discards is counted, and its queue stands. -/
theorem admission_discards {c : Fld} {q : Nat} {u v : State} (hcm : c ∈ admCounters)
    (mv : Moves [PLN_QEV.V] [] (s.admTook r.val rest) v) (mu : Moves admMoves admParts (v.count c q 1) u)
    (he : s.admission r.val = u.pfc) :
    ∃ t, exec (.admission r) s = .next t ∧ Tab.get [] t.fr.arrivals r.val = rest ∧ t.queue q = s.queue q ∧
      t.get c q = (s.get c q + 1) % 2 ^ 64 ∧ ∀ n ∈ u.ic.icu, n ∈ t.ic.icu := by
  obtain ⟨hv, hl, hp, hw, hall⟩ := admCounters_unlisted c hcm
  have mp := u.pfc_moves
  have m : Moves (PLN_QEV.V :: admCounters ++ admMoves) admParts (s.admTook r.val rest) u.pfc :=
    (((mv.mono rfl rfl).also (v.count_moves c q 1) hall rfl).also mu rfl rfl).also mp rfl rfl
  obtain ⟨t, ht, kt⟩ := m.ends (((s.admTook_moves r.val rest).calm rfl).trans hc) rfl
  have M : Moves (PLN_QEV.V :: admCounters ++ admMoves) admParts (s.admTook r.val rest) t := m.also kt rfl rfl
  refine ⟨t, by rw [exec_admission, he, ht], ?_, queue_eq (M.parts .queues rfl) q, ?_, fun n h => kt.sources n (mp.sources n h)⟩
  · rw [M.parts .arrivals rfl]
    exact Tab.get_set_self _ _ _ _
  · rw [← hw]
    exact mv.counted (((mu.also mp rfl rfl).also kt rfl rfl) : Moves admMoves admParts _ t) hv hl hp

theorem admission_byLimit
    (he : s.admission r.val = ((s.admTook r.val rest).refuseWhy r.val { x with f := f } 0).pfc) :
    ∃ t, exec (.admission r) s = .next t ∧ Tab.get [] t.fr.arrivals r.val = rest ∧ t.queue f.queue = s.queue f.queue ∧
      t.ic.icu.contains 0x348 = true ∧
      t.get QUE_DCNT.D_QUEUE_LIMIT f.queue = (s.get QUE_DCNT.D_QUEUE_LIMIT f.queue + 1) % 2 ^ 64 := by
  have mu := State.refuse_moves ((s.admTook r.val rest).qEvent f.queue) { x with f := f } QUE_DCNT.D_QUEUE_LIMIT 4
  obtain ⟨t, h1, h2, h3, h4, h5⟩ := admission_discards (r := r) (q := f.queue) (c := QUE_DCNT.D_QUEUE_LIMIT) hc (by decide)
    (State.qEvent_moves _ _) ((mu.mono rfl rfl).also (State.pend_moves _ 0x348) rfl rfl) he
  exact ⟨t, h1, h2, h3, by simpa using h5 _ (State.mem_pend_self _ _), h4⟩

theorem admission_enqueues (hroom : s.get QUE_DQ.DEPTH f.queue + f.cells ≤ s.get QUE_DQ.QLIMIT f.queue)
    (he : s.admission r.val = ((s.admTook r.val rest).enqueueCells r.val { x with f := f }).pfc) :
    ∃ t, exec (.admission r) s = .next t ∧ Tab.get [] t.fr.arrivals r.val = rest ∧
      t.get QUE_DQ.DEPTH f.queue = s.get QUE_DQ.DEPTH f.queue + f.cells ∧
      (t.queue f.queue).deep = (s.queue f.queue).deep ∧
      (t.queue f.queue).cells = (s.queue f.queue).cells ++ [s.celled r.val f] ∧
      t.get QUE_DCNT.ADMITTED f.queue = (s.get QUE_DCNT.ADMITTED f.queue + 1) % 2 ^ 64 := by
  obtain ⟨u, mu, hu, hdep, hcells, hdeep⟩ := (s.admTook r.val rest).enqueueCells_stored r.val { x with f := f }
  have ma := u.admitted_moves { x with f := f }
  have mp := (u.admitted { x with f := f }).pfc_moves
  have m1 : Moves (QUE_DCNT.ADMITTED :: recMoves ++ pfcMoves) (recParts ++ pfcParts) u (u.admitted { x with f := f }).pfc :=
    (ma.mono rfl rfl).also mp rfl rfl
  have m : Moves (enqMoves ++ QUE_DCNT.ADMITTED :: recMoves ++ pfcMoves) (.queues :: .drr :: recParts ++ pfcParts)
    (s.admTook r.val rest) (u.admitted { x with f := f }).pfc := (mu.mono rfl rfl).also m1 rfl rfl
  obtain ⟨t, ht, kt⟩ := m.ends (((s.admTook_moves r.val rest).calm rfl).trans hc) rfl
  have k1 : Moves (GLB_MODE.IN_TRANSITION :: QUE_DCNT.ADMITTED :: recMoves ++ pfcMoves) (.cl :: .md :: recParts ++ pfcParts) u t :=
    (m1.mono rfl rfl).also kt rfl rfl
  refine ⟨t, by rw [exec_admission, he, hu, ht], ?_, ?_, ?_, ?_, ?_⟩
  · rw [k1.parts .arrivals rfl, mu.parts .arrivals rfl]
    exact Tab.get_set_self _ _ _ _
  · rw [k1.get rfl, hdep]
    exact Nat.mod_eq_of_lt (Nat.lt_of_le_of_lt hroom (s.get_lt QUE_DQ.QLIMIT f.queue))
  · rw [queue_eq (k1.parts .queues rfl)]; exact hdeep
  · rw [queue_eq (k1.parts .queues rfl)]; exact hcells
  · rw [kt.get rfl, mp.get rfl]
    refine (u.admitted_counts { x with f := f }).trans ?_
    rw [mu.get rfl]
    rfl

include hx hf

theorem admission_byMode (h : s.modeDiscards f = true) :
    ∃ t, exec (.admission r) s = .next t ∧ Tab.get [] t.fr.arrivals r.val = rest ∧ t.queue f.queue = s.queue f.queue ∧
      t.get QUE_DCNT.D_MODE f.queue = (s.get QUE_DCNT.D_MODE f.queue + 1) % 2 ^ 64 := by
  obtain ⟨t, h1, h2, h3, h4, -⟩ := admission_discards (r := r) (q := f.queue) (c := QUE_DCNT.D_MODE) hc (by decide) .refl
    ((State.refuse_moves (s.admTook r.val rest) { x with f := f } QUE_DCNT.D_MODE 7).mono rfl rfl)
    (State.admission_mode hx hf h)
  exact ⟨t, h1, h2, h3, h4⟩

theorem admission_byFence (h : s.modeDiscards f = false) (hr : s.fenced r.val = true) :
    ∃ t, exec (.admission r) s = .next t ∧ Tab.get [] t.fr.arrivals r.val = rest ∧ t.queue f.queue = s.queue f.queue ∧
      t.get QUE_DCNT.D_REGION f.queue = (s.get QUE_DCNT.D_REGION f.queue + 1) % 2 ^ 64 := by
  obtain ⟨t, h1, h2, h3, h4, -⟩ := admission_discards (r := r) (q := f.queue) (c := QUE_DCNT.D_REGION) hc (by decide) .refl
    ((State.dropArrival_moves (s.admTook r.val rest) { x with f := f } QUE_DCNT.D_REGION 8).mono rfl rfl)
    (State.admission_fence hx hf h hr)
  exact ⟨t, h1, h2, h3, h4⟩

end

/-! The turns of the deep buffer (R17, R255, R256). -/

section
variable {s : State} {r : Nat} {w : DeepWr} {rest : List DeepWr}

/-- Before its admission is counted, a frame written to the deep buffer has joined its queue. -/
theorem State.deepWritten_stored (hw : Tab.get [] s.fr.deepWr r = w :: rest) (hg : s.writeGrant r = true) :
    ∃ u, Moves [QUE_DQ.FRAMES] [.deepWr, .deep, .queues, .drr] s u ∧ s.deepWritten r = u.admitted w.a ∧
      Tab.get [] u.fr.deepWr r = rest ∧ (u.queue w.a.f.queue).cells = (s.queue w.a.f.queue).cells ∧
      (u.queue w.a.f.queue).deep = (s.queue w.a.f.queue).deep ++
        [⟨{ w.a.f with age := s.mono, deep := true, reg := 4 }, w.units⟩] := by
  let q := w.a.f.queue
  let s0 : State := { s with fr.deepWr := s.fr.deepWr.set [] r rest }
  let s1 := s0.deepUsed r 0
  let x : Queue := { s.queue q with deep := (s.queue q).deep ++ [⟨{ w.a.f with age := s.mono, deep := true, reg := 4 }, w.units⟩] }
  let s2 := s1.setQueue q x
  let s3 := s2.set QUE_DQ.FRAMES q (s1.get QUE_DQ.FRAMES q + 1)
  have m0 : Moves [QUE_DQ.FRAMES] [.deepWr, .deep, .queues, .drr] s s0 := Moves.refl.also (s.deepWr_moves _) rfl rfl
  have mj := s3.joinList_moves q
  have m3 : Moves [QUE_DQ.FRAMES] [.deep, .queues, .drr] s0 s3 :=
    ((Moves.refl.also (s0.deepUsed_moves r 0) rfl rfl).also (s1.setQueue_moves q x) rfl rfl).also (s2.set_moves QUE_DQ.FRAMES q _) rfl rfl
  have hq : s3.queue q = x := s1.queue_setQueue q x
  obtain ⟨hjc, hjd⟩ := s3.joinList_frames q
  refine ⟨s3.joinList q, (m0.also m3 rfl rfl).also mj rfl rfl, ?_, ?_, ?_, ?_⟩
  · rw [State.deepWritten, hw]
    simp only
    rw [if_neg (by simp [hg])]
    rfl
  · rw [mj.parts .deepWr rfl, m3.parts .deepWr rfl]
    exact Tab.get_set_self _ _ _ _
  · rw [hjc, hq]
  · rw [hjd, hq]

end

theorem exec_deepWriteComplete (r : Region) (s : State) : exec (.deepWriteComplete r) s = finish (s.deepWritten r.val) := rfl
theorem exec_deepReadBack (q : Fin 8192) (s : State) : exec (.deepReadBack q) s = finish (s.deepBack q.val) := rfl

theorem deepWriteComplete_admits {s : State} {r : Region} {w : DeepWr} {rest : List DeepWr} {q : Nat} (hc : s.calm = true)
    (hg : s.writeGrant r.val = true) (hw : Tab.get [] s.fr.deepWr r.val = w :: rest) (hq : q = w.a.f.queue) :
    ∃ t, exec (.deepWriteComplete r) s = .next t ∧ Tab.get [] t.fr.deepWr r.val = rest ∧
      (t.queue q).cells = (s.queue q).cells ∧
      (t.queue q).deep = (s.queue q).deep ++ [⟨{ w.a.f with age := s.mono, deep := true, reg := 4 }, w.units⟩] ∧
      t.get QUE_DCNT.ADMITTED q = (s.get QUE_DCNT.ADMITTED q + 1) % 2 ^ 64 := by
  subst hq
  obtain ⟨u, mu, hu, hrest, hcells, hdeep⟩ := State.deepWritten_stored hw hg
  have ma := u.admitted_moves w.a
  have m : Moves (QUE_DQ.FRAMES :: QUE_DCNT.ADMITTED :: recMoves) (.deepWr :: .deep :: .queues :: .drr :: recParts) s
    (u.admitted w.a) := (mu.mono rfl rfl).also ma rfl rfl
  obtain ⟨t, ht, kt⟩ := m.ends hc rfl
  have k1 : Moves (GLB_MODE.IN_TRANSITION :: QUE_DCNT.ADMITTED :: recMoves) (.cl :: .md :: recParts) u t :=
    (ma.mono rfl rfl).also kt rfl rfl
  refine ⟨t, by rw [exec_deepWriteComplete, hu, ht], by rw [k1.parts .deepWr rfl, hrest], ?_, ?_, ?_⟩
  · rw [queue_eq (k1.parts .queues rfl), hcells]
  · rw [queue_eq (k1.parts .queues rfl), hdeep]
  · rw [kt.get rfl, u.admitted_counts, mu.get rfl]

/-! A read back. -/

/-- What a read of the deep buffer that yields its octets moves. -/
abbrev fetchMoves : List Fld := [VNR_PAGE_EXH.V, ICU_PORT.WAKE]
abbrev fetchParts : List Part := [.ic, .out, .wraps, .deep]

section
variable (s : State)

/-- A stored line that reads well moves nothing: its second reading would find what the first found. -/
theorem State.lineRead_stored {p l : Nat} {b : Bool} {o : List Octet} (h : (s.lineRead p l [] b).1 = some o) :
    (s.lineRead p l [] b).2 = s := by
  revert h
  unfold State.lineRead
  simp only [List.getElem?_nil]
  split
  · exact fun _ => rfl
  · exact fun h => nomatch h
  · rename_i hn _
    rw [if_neg hn]
    exact fun h => nomatch h

theorem State.closePage_moves (p : Nat) : Moves [] [.deep] s (s.closePage p) := .ite (s.deep_moves rfl) .refl

theorem State.pageFree_moves (p : Nat) : Moves fetchMoves fetchParts s (s.pageFree p) := by
  have he : ∀ x : Tab Page, Moves fetchMoves fetchParts s (({ s with vn.pages := x }.bump VNR_PAGE_EXH.V 0 1).pend 0x389) :=
    fun x => by
      have hb : Moves fetchMoves fetchParts s ({ s with vn.pages := x }.bump VNR_PAGE_EXH.V 0 1) :=
        (Moves.refl.also (s.deep_moves (x := { s.vn with pages := x }) rfl) rfl rfl).also
          (State.bump_moves _ VNR_PAGE_EXH.V 0 1) rfl rfl
      exact hb.also (State.pend_moves _ _) rfl rfl
  unfold State.pageFree State.pageRetired
  exact .ite (Moves.refl.also (s.deep_moves rfl) rfl rfl) (.ite (Moves.refl.also (s.deep_moves rfl) rfl rfl) (he _))

theorem State.unitFree_moves (u : Nat) : Moves fetchMoves fetchParts s (s.unitFree u) := by
  unfold State.unitFree
  have h : ∀ x : Tab Page, Moves fetchMoves fetchParts s { s with vn.pages := x } := fun x =>
    Moves.refl.also (s.deep_moves rfl) rfl rfl
  exact .ite (((h _).also (State.closePage_moves _ _) rfl rfl).trans (State.pageFree_moves _ _)) (h _)

end

/-- A read of units that yields their octets moves no more than their release. -/
theorem State.deepFetch_moves {s u : State} {units : List Nat} {o : List Octet} (h : s.deepFetch units = (some o, u)) :
    Moves fetchMoves fetchParts s u := by
  rw [State.deepFetch] at h
  generalize hr : List.foldl _ _ units = r at h
  obtain ⟨ho, rfl⟩ := Prod.mk.inj h
  have hs : r.1.isSome = true → r.2 = s := by
    rw [← hr]
    refine List.foldlRecOn (motive := fun a : Option (List Octet) × State => a.1.isSome = true → a.2 = s) units _
      (fun _ => rfl) (fun b hb v _ => List.foldlRecOn
        (motive := fun a : Option (List Octet) × State => a.1.isSome = true → a.2 = s) (upto 4) _ hb (fun b hb j _ => ?_))
    split
    · exact hb
    · rename_i d hd
      have hbs : b.2 = s := hb (by simp [hd])
      split
      · rename_i x t he
        have hl := State.lineRead_stored b.2 (congrArg Prod.fst he)
        rw [he] at hl
        exact fun _ => hl.trans hbs
      · exact fun h => nomatch h
  rw [hs (by simp [ho])]
  exact Moves.each .refl (fun v t => t.unitFree_moves v)

/-- A frame read back has moved from its queue's deep part to its cells. -/
theorem State.deepBack_moved {s u : State} {q : Nat} {d : DeepFrame} {rest : List DeepFrame} {r n : Nat} {o : List Octet}
    (hx : (s.queue q).deep = d :: rest) (hr : r = regionOfLp (s.queuePort q)) (hg : s.readGrant r = true)
    (hdue : s.readDue q = true) (hn : n = (if s.writeReq r then Tab.get 0 s.vn.wrWait r + 1 else 0))
    (hu : (s.deepUsed r n).deepFetch d.units = (some o, u)) :
    ∃ v, Moves [QUE_DQ.DB_CELLS, QUE_DQ.SPILLING, QUE_DQ.MAX_DEPTH, QUE_DQ.DEPTH] [.queues] u v ∧ s.deepBack q = v.pfc ∧
      (v.queue q).deep = rest ∧ (v.queue q).cells = (s.queue q).cells ++ [{ d.f with data := o.take d.f.data.length, reg := r }] ∧
      v.get QUE_DQ.DEPTH q = (u.get QUE_DQ.DEPTH q + d.f.cells) % 2 ^ QUE_DQ.DEPTH.width := by
  let db := u.get QUE_DQ.DB_CELLS q - d.f.cells
  let u1 := u.set QUE_DQ.DB_CELLS q db
  let u2 := if db = 0 then u1.set QUE_DQ.SPILLING q 0 else u1
  let u3 := u2.setQueue q { u2.queue q with deep := rest, cells := (s.queue q).cells ++
    [{ d.f with data := o.take d.f.data.length, reg := r }] }
  have m1 : Moves [QUE_DQ.DB_CELLS, QUE_DQ.SPILLING] [.queues] u u1 := Moves.refl.also (u.set_moves QUE_DQ.DB_CELLS q db) rfl rfl
  have m2 : Moves [QUE_DQ.DB_CELLS, QUE_DQ.SPILLING] [.queues] u u2 :=
    .ite (m1.also (u1.set_moves QUE_DQ.SPILLING q 0) rfl rfl) m1
  have m3 : Moves [QUE_DQ.DB_CELLS, QUE_DQ.SPILLING] [.queues] u u3 := m2.also (u2.setQueue_moves q _) rfl rfl
  have md := u3.setDepth_moves q (u3.get QUE_DQ.DEPTH q + d.f.cells)
  have hq := (queue_eq (md.parts .queues rfl) q).trans (u2.queue_setQueue q _)
  refine ⟨u3.setDepth q (u3.get QUE_DQ.DEPTH q + d.f.cells), (m3.mono rfl rfl).also md rfl rfl, ?_, ?_, ?_, ?_⟩
  · rw [State.deepBack, hx]
    simp only [← hr, ← hn, hu]
    rw [if_neg (by simp [hg, hdue])]
  · rw [hq]
  · rw [hq]
  · exact (State.get_set_self _ _ _ _).trans (by rw [m3.get rfl])

theorem deepReadBack_moves_frame {s u : State} {q : Fin 8192} {d : DeepFrame} {rest : List DeepFrame} {r n : Nat} {o : List Octet}
    (hx : (s.queue q.val).deep = d :: rest) (hr : r = regionOfLp (s.queuePort q.val)) (hg : s.readGrant r = true)
    (hdue : s.readDue q.val = true) (hn : n = (if s.writeReq r then Tab.get 0 s.vn.wrWait r + 1 else 0))
    (hu : (s.deepUsed r n).deepFetch d.units = (some o, u)) (hc : u.calm = true)
    (hlt : s.get QUE_DQ.DEPTH q.val + d.f.cells < 2 ^ QUE_DQ.DEPTH.width) :
    ∃ t, exec (.deepReadBack q) s = .next t ∧ (t.queue q.val).deep = rest ∧
      (t.queue q.val).cells = (s.queue q.val).cells ++ [{ d.f with data := o.take d.f.data.length, reg := r }] ∧
      t.get QUE_DQ.DEPTH q.val = s.get QUE_DQ.DEPTH q.val + d.f.cells := by
  obtain ⟨v, mv, hv, hd, hcells, hdep⟩ := State.deepBack_moved hx hr hg hdue hn hu
  have mu : Moves fetchMoves fetchParts s u := (Moves.refl.also (s.deepUsed_moves r n) rfl rfl).trans (State.deepFetch_moves hu)
  have mp := v.pfc_moves
  have m : Moves (QUE_DQ.DB_CELLS :: QUE_DQ.SPILLING :: QUE_DQ.MAX_DEPTH :: QUE_DQ.DEPTH :: pfcMoves) (.queues :: pfcParts) u v.pfc :=
    (mv.mono rfl rfl).also mp rfl rfl
  obtain ⟨t, ht, kt⟩ := m.ends hc rfl
  have k1 : Moves (GLB_MODE.IN_TRANSITION :: pfcMoves) (.cl :: .md :: pfcParts) v t := (mp.mono rfl rfl).also kt rfl rfl
  refine ⟨t, by rw [exec_deepReadBack, hv, ht], ?_, ?_, ?_⟩
  · rw [queue_eq (k1.parts .queues rfl), hd]
  · rw [queue_eq (k1.parts .queues rfl), hcells]
  · rw [k1.get rfl, hdep, mu.get rfl]
    exact Nat.mod_eq_of_lt hlt

/-! Holds and pauses. -/

/-- A hold that has lasted 5 ms ends (R239). -/
theorem txHoldTimeout_ends {s : State} {c : Fin 4096} (hc : s.calm = true) (h1 : Tab.get 0 s.au.keyHold c.val = 1)
    (h5 : Tab.get 0 s.au.holdAt c.val + 5 * ms ≤ s.mono) :
    ∃ t, exec (.txHoldTimeout c) s = .next t ∧ Tab.get 0 t.au.keyHold c.val = 2 ∧ t.get QUE_DQ.HELD (2 * c.val) = 0 ∧
      t.get QUE_DQ.HELD (2 * c.val + 1) = 0 := by
  let u : State := { s with au.keyHold := s.au.keyHold.set 0 c.val 2 }
  have he : exec (.txHoldTimeout c) s = finish (u.setHeld c.val 0) :=
    (rfl : _ = finish (s.holdOut c.val)).trans (congrArg finish (if_pos ⟨h1, h5⟩))
  have mu : Moves [QUE_DQ.HELD] [.au] s u := Moves.refl.also (s.au_moves _) rfl rfl
  have m : Moves [QUE_DQ.HELD] [.au] s (u.setHeld c.val 0) :=
    (mu.also (u.set_moves QUE_DQ.HELD _ 0) rfl rfl).also (State.set_moves _ QUE_DQ.HELD _ 0) rfl rfl
  obtain ⟨t, ht, kt⟩ := m.ends hc rfl
  refine ⟨t, he.trans ht, ?_, ?_, ?_⟩
  · rw [kt.parts .au rfl]
    exact Tab.get_set_self 0 s.au.keyHold c.val 2
  · rw [kt.get rfl, State.setHeld, State.get_set_index _ _ (by omega), State.get_set_self]
    rfl
  · rw [kt.get rfl, State.setHeld, State.get_set_self]
    rfl

/-- A priority that stays paused has its XOFF sent again (R261). -/
theorem pfcRefresh_sends {s : State} {hp : Fin 32} {m : Nat} (hc : s.calm = true) (hm : s.get PLN_HPFC.PAUSED hp.val = m)
    (h0 : m ≠ 0) (ht : Tab.get 0 s.pl.xoffAt hp.val + s.quantaTime hp.val (s.get PLN_HPFC.REFRESH hp.val) ≤ s.mono)
    (hl : s.on RGN_HPORT.LINK hp.val = true) :
    ∃ t, exec (.pfcRefresh hp) s = .next t ∧
      Tab.get [] t.fr.pfcOut hp.val = Tab.get [] s.fr.pfcOut hp.val ++ [s.pfcFrame hp.val m m] ∧
      Tab.get 0 t.pl.xoffAt hp.val = s.mono ∧
      t.get PLN_HPFC.XOFF_TX hp.val = (s.get PLN_HPFC.XOFF_TX hp.val + 1) % 2 ^ 64 ∧ t.ic.icu.contains 0x34B = true := by
  let u : State := { s with fr.pfcOut := s.fr.pfcOut.set [] hp.val (Tab.get [] s.fr.pfcOut hp.val ++ [s.pfcFrame hp.val m m]) }
  let v : State := { u with pl.xoffAt := u.pl.xoffAt.set 0 hp.val u.mono }
  let w := v.count PLN_HPFC.XOFF_TX hp.val 1
  have he : s.pfcRefresh hp.val = w.pend 0x34B := by
    rw [State.pfcRefresh, hm, if_neg (by simp [h0, ht]), State.pfcSend, if_pos hl, if_pos rfl, if_neg h0]
  have mv : Moves [] [.pfcOut, .xoffAt] s v := (Moves.refl.also (s.pfcOut_moves _) rfl rfl).also (u.xoffAt_moves _) rfl rfl
  have mw : Moves [PLN_HPFC.XOFF_TX, ICU_PORT.WAKE] [.ic, .out, .wraps] v w := v.count_moves _ _ _
  have mp := w.pend_moves 0x34B
  have M : Moves pfcMoves pfcParts s (w.pend 0x34B) := ((mv.mono rfl rfl).also mw rfl rfl).also mp rfl rfl
  obtain ⟨t, ht', kt⟩ := M.ends hc rfl
  have kp : Moves [ICU_PORT.WAKE, GLB_MODE.IN_TRANSITION] [.ic, .out, .cl, .md] w t := (mp.mono rfl rfl).also kt rfl rfl
  refine ⟨t, ?_, ?_, ?_, mv.counted kp rfl rfl rfl, ?_⟩
  · rw [← ht', ← he]
    rfl
  · rw [kp.parts .pfcOut rfl, mw.parts .pfcOut rfl]
    exact Tab.get_set_self _ _ _ _
  · rw [kp.parts .xoffAt rfl, mw.parts .xoffAt rfl]
    exact Tab.get_set_self _ _ _ _
  · simpa using kt.sources _ (w.mem_pend_self 0x34B)

/-- Settles O38, by the admission unit's cases and the turns of the deep buffer. -/
theorem admissionHoldsAndPauses : Obligations.AdmissionHoldsAndPauses := by
  refine ⟨⟨?_, ?_, ?_⟩, ?_, ?_⟩
  · intro s r x rest f q hc hx hf hq
    subst hq
    refine ⟨admission_byMode hc hx hf, admission_byFence hc hx hf, fun hm hr hg hd => ?_⟩
    obtain ⟨hlimit, hroom⟩ := State.admission_open hx hf hm hr hg hd
    exact ⟨fun hl hs => admission_byLimit hc (hlimit hl hs), fun hl hu => admission_enqueues hc hl (hroom hl hu)⟩
  · intro s r w rest q hc hg hw hq
    exact deepWriteComplete_admits hc hg hw hq
  · intro s q d rest r n o u hx hr hg hdue hn hu hc hlt
    exact deepReadBack_moves_frame hx hr hg hdue hn hu hc hlt
  · intro s c hc h1 h5
    exact txHoldTimeout_ends hc h1 h5
  · intro s hp m hc hm h0 ht hl
    exact pfcRefresh_sends hc hm h0 ht hl

end Sys2Proof.Machine
end
/-! Footprints of the release of frames: discards, verdicts, reassembly and delivery, and the end of any command. -/
section
namespace Sys2Proof.Machine

section
variable (s : State)

/-! Events of the secure channels. -/

theorem State.txEvent_moves (b : Bool) (f : Fld) (c : Nat) : Moves [f, ICU_PORT.WAKE] [.ic, .out] s (s.txEvent b f c) := by
  have h : Moves [f, ICU_PORT.WAKE] [.ic, .out] s (s.set f c 1) := Moves.refl.also (s.set_moves f c 1) (by simp [listed]) rfl
  exact .ite h (h.also (State.pend_moves _ _) (by simp [listed]) rfl)

theorem State.rxEvent_moves (b : Bool) (f : Fld) (c : Nat) : Moves [f, ICU_PORT.WAKE] [.ic, .out] s (s.rxEvent b f c) := by
  have h : Moves [f, ICU_PORT.WAKE] [.ic, .out] s (s.set f c 1) := Moves.refl.also (s.set_moves f c 1) (by simp [listed]) rfl
  exact .ite h (h.also (State.pend_moves _ _) (by simp [listed]) rfl)

/-- An event bit is set. -/
theorem State.txEvent_set (b : Bool) {f : Fld} (c : Nat) (hp : pendMoves f = false) (hw : 1 < 2 ^ f.width) :
    (s.txEvent b f c).get f c = 1 := by
  have h : (s.set f c 1).get f c = 1 := by rw [State.get_set_self, Nat.mod_eq_of_lt hw]
  unfold State.txEvent
  simp only
  split
  · exact h
  · rw [State.pend_get _ _ hp, h]

theorem State.rxEvent_set (b : Bool) {f : Fld} (c : Nat) (hp : pendMoves f = false) (hw : 1 < 2 ^ f.width) :
    (s.rxEvent b f c).get f c = 1 := by
  have h : (s.set f c 1).get f c = 1 := by rw [State.get_set_self, Nat.mod_eq_of_lt hw]
  unfold State.rxEvent
  simp only
  split
  · exact h
  · rw [State.pend_get _ _ hp, h]

/-- Fields that the retirement of a receive slot may move. -/
abbrev retireMoves : List Fld := [SAT_RX.STATE, SAT_RX.RETIRE_ARMED, SAT_RX.RETIRE_AT_S, SAT_RX.RETIRE_AT_NS,
  SCT_RX.EV_RETIRE, ICU_PORT.WAKE]

theorem State.rxRetire_moves (a : Nat) : Moves retireMoves [.ic, .out, .retireAt] s (s.rxRetire a) :=
  .ite (((Moves.refl.also (s.set_moves SAT_RX.STATE a _) rfl rfl).also (State.set_moves _ SAT_RX.RETIRE_ARMED a 0) rfl rfl).also
    (State.rxEvent_moves _ _ SCT_RX.EV_RETIRE _) rfl rfl) (Moves.refl.also (s.set_moves SAT_RX.RETIRE_ARMED a 0) rfl rfl)

theorem State.retireAt_moves (x : Tab Nat) : Moves [] [.retireAt] s { s with fr.retireAt := x } :=
  .of_parts rfl (by rintro ⟨⟩ ⟨⟩ <;> rfl) rfl rfl

theorem State.rxArm_moves (a n : Nat) : Moves retireMoves [.ic, .out, .retireAt] s (s.rxArm a n) :=
  .ite (s.rxRetire_moves a) ((((Moves.refl.also (s.retireAt_moves _) rfl rfl).also (State.set_moves _ SAT_RX.RETIRE_ARMED a 1) rfl
    rfl).also (State.set_moves _ SAT_RX.RETIRE_AT_S a _) rfl rfl).also (State.set_moves _ SAT_RX.RETIRE_AT_NS a _) rfl rfl)

/-! Reassembly. -/

/-- Fields that the reassembly of carriers may move. -/
abbrev carRxMoves : List Fld := [CAR_RXCNT.REASM_ABORT, CAR_RXCNT.ORPHAN_SEG, CAR_RXCNT.FRAMES_MISSING, CAR_RXCNT.NO_CELL,
  CAR_RXCNT.FRAMES, CAR_RXCNT.CARRIERS, CAR_RXCNT.FORMAT_ERR, CAR_RXCNT.STALE, CAR_RXCNT.LOST, CAR_RXCNT.SHIMS, CAR_RX.UP,
  CAR_RX.EV_UP, CAR_RX.EV_ERR, CAR_RX.FSEQ_EXP, CAR_RX.CSEQ_EXP, SCT_RX.D_HOST_CONGEST, ICU_PORT.WAKE]
abbrev carRxParts : List Part := [.ic, .out, .wraps, .carRest, .hostOut]

theorem State.setCarRx_moves (k : Nat) (x : CarRx) : Moves [] [.carRest] s (s.setCarRx k x) :=
  .of_parts rfl (by rintro ⟨⟩ ⟨⟩ <;> rfl) rfl rfl

theorem State.carLose_moves (k : Nat) : Moves [] [.carRest] s (s.carLose k) := s.setCarRx_moves k _

theorem State.carAbort_moves (k : Nat) : Moves carRxMoves carRxParts s (s.carAbort k) :=
  .ite ((Moves.refl.also (s.setCarRx_moves k _) rfl rfl).also (State.count_moves _ CAR_RXCNT.REASM_ABORT k 1) rfl rfl) .refl

theorem State.hostPut_moves (hp : Nat) (f : OutFrame) : Moves [] [.hostOut] s (s.hostPut hp f).2 := by
  unfold State.hostPut
  split
  · exact .refl
  · exact s.hostOut_moves _

theorem State.carDeliver_moves (k c : Nat) : Moves carRxMoves carRxParts s (s.carDeliver k c) := by
  unfold State.carDeliver
  split
  · have h := fun x hp f => (Moves.refl (fs := carRxMoves) (ps := carRxParts)).also (s.setCarRx_moves k x) rfl rfl |>.also
      (State.hostPut_moves _ hp f) rfl rfl
    exact .ite ((h _ _ _).also (State.count_moves _ CAR_RXCNT.FRAMES k 1) rfl rfl)
      ((h _ _ _).also (State.count_moves _ SCT_RX.D_HOST_CONGEST c 1) rfl rfl)
  · exact .refl

theorem State.carSeg_first_moves (k c t m0 : Nat) (g : Seg) (o : List Octet) (b : Bool) (e : Nat) (y : State)
    (hy : Moves carRxMoves carRxParts s y) : Moves carRxMoves carRxParts s
    (let s := if b then y else y.count CAR_RXCNT.FRAMES_MISSING k e
      let s := (s.set CAR_RX.FSEQ_EXP k (g.fseq + 1)).setCarRx k { s.carRxOf k with fsSync := false, noCell := none }
      if s.igrRoom (regionOfLp k) (cellsLen g.orig) then
        let s := s.setCarRx k { s.carRxOf k with part := some (g.fseq, g.orig, o, m0, t) }
        if g.last then s.carDeliver k c else s
      else (s.setCarRx k { s.carRxOf k with noCell := some g.fseq }).count CAR_RXCNT.NO_CELL k 1) := by
  have hc : Moves carRxMoves carRxParts s (if b then y else y.count CAR_RXCNT.FRAMES_MISSING k e) :=
    .ite hy (hy.also (y.count_moves CAR_RXCNT.FRAMES_MISSING k e) rfl rfl)
  have hs := fun x => (hc.also (State.set_moves _ CAR_RX.FSEQ_EXP k (g.fseq + 1)) rfl rfl).also (State.setCarRx_moves _ k x) rfl rfl
  have hp := fun x y => (hs x).also (State.setCarRx_moves _ k y) rfl rfl
  exact .ite (.ite ((hp _ _).trans (State.carDeliver_moves _ k c)) (hp _ _)) ((hp _ _).also
    (State.count_moves _ CAR_RXCNT.NO_CELL k 1) rfl rfl)

theorem State.carSeg_moves (k c t m0 : Nat) (g : Seg) (o : List Octet) : Moves carRxMoves carRxParts s (s.carSeg k c t m0 g o) := by
  have hor : ∀ u : State, Moves carRxMoves carRxParts u (u.count CAR_RXCNT.ORPHAN_SEG k 1) := fun u =>
    Moves.refl.also (u.count_moves CAR_RXCNT.ORPHAN_SEG k 1) rfl rfl
  unfold State.carSeg
  simp only
  split
  · split
    · exact (s.carAbort_moves k).trans (hor _)
    · exact s.carSeg_first_moves k c t m0 g o _ _ _ (s.carAbort_moves k)
  · split
    · have hp := fun x => (Moves.refl (fs := carRxMoves) (ps := carRxParts)).also (s.setCarRx_moves k x) rfl rfl
      exact .ite (.ite ((hp _).trans (State.carDeliver_moves _ k c)) (hp _)) ((hor s).trans (State.carAbort_moves _ k))
    · exact .ite .refl (hor s)

theorem State.carSegsGo_moves (k c t m0 : Nat) (p : List Octet) (n : Nat) (l : List Seg) :
    Moves carRxMoves carRxParts s (s.carSegsGo k c t m0 p n l) := by
  induction l generalizing s n with
  | nil => exact .refl
  | cons g l ih => exact (s.carSeg_moves k c t m0 g _).trans (ih _ _)

theorem State.carRxEv_moves {f : Fld} (k : Nat) (h : f = CAR_RX.EV_UP ∨ f = CAR_RX.EV_ERR) :
    Moves carRxMoves carRxParts s (s.carRxEv f k) := by
  obtain rfl | rfl := h
  · exact Moves.refl.also (s.event_moves CAR_RX.EV_UP k _) rfl rfl
  · exact Moves.refl.also (s.event_moves CAR_RX.EV_ERR k _) rfl rfl

/-- A carrier of the sequence is taken. -/
theorem State.carTaken_moves (k c t m0 : Nat) (p : List Octet) (n x : Nat) :
    Moves carRxMoves carRxParts s (let s := (s.set CAR_RX.CSEQ_EXP k x).setCarRx k { s.carRxOf k with csSync := false }
      if n = 0 then s.count CAR_RXCNT.SHIMS k 1 else s.carSegsGo k c t m0 p (8 + 8 * n) (carSegs p)) := by
  have h : ∀ y, Moves carRxMoves carRxParts s ((s.set CAR_RX.CSEQ_EXP k x).setCarRx k y) := fun y =>
    (Moves.refl.also (s.set_moves CAR_RX.CSEQ_EXP k x) rfl rfl).also (State.setCarRx_moves _ k y) rfl rfl
  exact .ite ((h _).also (State.count_moves _ CAR_RXCNT.SHIMS k 1) rfl rfl) ((h _).trans (State.carSegsGo_moves _ _ _ _ _ _ _ _))

/-- A verified carrier brings the receive side up. -/
def State.carHeard (s : State) (k : Nat) : State :=
  let s := (s.count CAR_RXCNT.CARRIERS k 1).setCarRx k { s.carRxOf k with last := s.mono }
  if s.on CAR_RX.UP k then s
  else ((s.set CAR_RX.UP k 1).carRxEv CAR_RX.EV_UP k).setCarRx k { s.carRxOf k with csSync := true, fsSync := true }

/-- What a verified carrier holds is read. -/
def State.carRead (s : State) (k c t m0 : Nat) (p : List Octet) : State :=
  let ver := (octetAt p 0).toNat / 16
  let cseq := beNat (slice p 4 4)
  if ver ≠ 1 ∨ layoutOk p = false then
    let s := ((s.count CAR_RXCNT.FORMAT_ERR k 1).carRxEv CAR_RX.EV_ERR k).carAbort k
    if ver = 1 then s.set CAR_RX.CSEQ_EXP k (cseq + 1) else s
  else
    let d := (cseq + 2 ^ 32 - s.get CAR_RX.CSEQ_EXP k) % 2 ^ 32
    let sync := (s.carRxOf k).csSync
    if sync = false ∧ 2 ^ 31 ≤ d then (s.count CAR_RXCNT.STALE k 1).carRxEv CAR_RX.EV_ERR k
    else
      let s := if sync = false ∧ 0 < d then ((s.count CAR_RXCNT.LOST k d).carRxEv CAR_RX.EV_ERR k).carAbort k else s
      let s := (s.set CAR_RX.CSEQ_EXP k (cseq + 1)).setCarRx k { s.carRxOf k with csSync := false }
      let n := (octetAt p 1).toNat
      if n = 0 then s.count CAR_RXCNT.SHIMS k 1 else s.carSegsGo k c t m0 p (8 + 8 * n) (carSegs p)

theorem State.reassemble_eq (k c t m0 : Nat) (p : List Octet) :
    s.reassemble k c t m0 p = (s.carHeard k).carRead k c t m0 p := rfl

theorem State.carHeard_moves (k : Nat) : Moves carRxMoves carRxParts s (s.carHeard k) := by
  have hc := fun x => (Moves.refl (fs := carRxMoves) (ps := carRxParts)).also (s.count_moves CAR_RXCNT.CARRIERS k 1) rfl rfl |>.also
    (State.setCarRx_moves _ k x) rfl rfl
  exact .ite (hc _) ((((hc _).also (State.set_moves _ CAR_RX.UP k 1) rfl rfl).trans (State.carRxEv_moves _ k (.inl rfl))).also
    (State.setCarRx_moves _ k _) rfl rfl)

theorem State.carRead_moves (k c t m0 : Nat) (p : List Octet) : Moves carRxMoves carRxParts s (s.carRead k c t m0 p) := by
  have hn : ∀ {f : Fld} (n : Nat), [f, ICU_PORT.WAKE].all (fun x => listed carRxMoves x.id) = true →
      Moves carRxMoves carRxParts s ((s.count f k n).carRxEv CAR_RX.EV_ERR k) := fun {f} n h =>
    (Moves.refl.also (s.count_moves f k n) h rfl).trans (State.carRxEv_moves _ k (.inr rfl))
  have hf := (hn (f := CAR_RXCNT.FORMAT_ERR) 1 rfl).trans (State.carAbort_moves _ k)
  unfold State.carRead
  refine .ite (.ite (hf.also (State.set_moves _ CAR_RX.CSEQ_EXP k _) rfl rfl) hf) (.ite (hn 1 rfl) ?_)
  refine Moves.trans ?_ (State.carTaken_moves _ k c t m0 p _ _)
  exact .ite ((hn _ rfl).trans (State.carAbort_moves _ k)) .refl

theorem State.reassemble_moves (k c t m0 : Nat) (p : List Octet) : Moves carRxMoves carRxParts s (s.reassemble k c t m0 p) :=
  s.reassemble_eq k c t m0 p ▸ (s.carHeard_moves k).trans (State.carRead_moves _ k c t m0 p)

/-! Delivery and verdicts. -/

theorem State.smpIn_moves (b : Bool) (hp lp sc an len time steps mono pn fl reason : Nat) :
    Moves smpMoves [.ic, .out, .wraps, .cn] s (s.smpIn b hp lp sc an len time steps mono pn fl reason) :=
  .ite (s.smpIngress_moves _ _ _ _ _ _ _ _ _ _ _) .refl

abbrev deliverMoves : List Fld := RGN_LPIGR.OCT_DECRYPTED :: RGN_LPIGR.OCT_VALIDATED :: carRxMoves ++ smpMoves
abbrev deliverParts : List Part := .cn :: carRxParts

theorem State.deliverFrame_moves (x : InItem) (o : List Octet) : Moves deliverMoves deliverParts s (s.deliverFrame x o) := by
  have hc : ∀ n, Moves deliverMoves deliverParts s
      (s.count (if (readTag x.data).c then RGN_LPIGR.OCT_DECRYPTED else RGN_LPIGR.OCT_VALIDATED) x.lp n) := fun n => by
    split
    · exact Moves.refl.also (s.count_moves RGN_LPIGR.OCT_DECRYPTED _ _) rfl rfl
    · exact Moves.refl.also (s.count_moves RGN_LPIGR.OCT_VALIDATED _ _) rfl rfl
  have hp := fun n hp f => (hc n).also (State.hostPut_moves _ hp f) rfl rfl
  unfold State.deliverFrame
  refine .ite (((hc _).also (State.smpIn_moves _ _ _ _ _ _ _ _ _ _ _ _ _) rfl rfl).also (State.reassemble_moves _ _ _ _ _ _) rfl rfl)
    (.ite (hp _ _ _) (((hp _ _ _).also (State.count_moves _ SCT_RX.D_HOST_CONGEST _ 1) rfl rfl).also
      (State.smpIn_moves _ _ _ _ _ _ _ _ _ _ _ _ _) rfl rfl))

/-- Fields that a verdict may move, the SA's counters apart. -/
abbrev verdictMoves : List Fld := [SCT_RX.IN_NOT_VALID, SCT_RX.IN_INVALID, SCT_RX.IN_LATE, SCT_RX.IN_DELAYED, SCT_RX.IN_OK,
  SAT_RX.NEXT_PN, SAT_RX.STATE, SCT_RX.EV_EXHAUST] ++ retireMoves ++ deliverMoves
abbrev verdictParts : List Part := .retireAt :: deliverParts

/-- What a verdict that passes moves after its counters. -/
theorem State.verdict_pass_moves (x : InItem) : Moves verdictMoves verdictParts s
    (let s := if x.pn < s.get SAT_RX.NEXT_PN x.sa then s
      else if x.pn = pnCeiling x.par.suite then
        let s := s.set SAT_RX.NEXT_PN x.sa x.pn
        if s.get SAT_RX.STATE x.sa = saACTIVE then (s.set SAT_RX.STATE x.sa saEXHAUSTED).rxEvent true SCT_RX.EV_EXHAUST x.sc
        else s
      else s.set SAT_RX.NEXT_PN x.sa (x.pn + 1)
    let o := 2 * x.sc + (1 - x.sa % 2)
    let s := if s.on SCT_RX.KEYING x.sc = false ∧ s.get SCT_RX.CUR x.sc = x.sa % 2 ∧ s.get SAT_RX.STATE o = saACTIVE ∧
        s.on SAT_RX.RETIRE_ARMED o = false then s.rxArm o (s.now + x.par.overlap) else s
    s.deliverFrame x x.plain) := by
  have hn : ∀ n, Moves verdictMoves verdictParts s (s.set SAT_RX.NEXT_PN x.sa n) := fun n =>
    Moves.refl.also (s.set_moves SAT_RX.NEXT_PN x.sa n) rfl rfl
  have h1 : Moves verdictMoves verdictParts s (if x.pn < s.get SAT_RX.NEXT_PN x.sa then s
      else if x.pn = pnCeiling x.par.suite then
        let s := s.set SAT_RX.NEXT_PN x.sa x.pn
        if s.get SAT_RX.STATE x.sa = saACTIVE then (s.set SAT_RX.STATE x.sa saEXHAUSTED).rxEvent true SCT_RX.EV_EXHAUST x.sc
        else s
      else s.set SAT_RX.NEXT_PN x.sa (x.pn + 1)) :=
    .ite .refl (.ite (.ite (((hn _).also (State.set_moves _ SAT_RX.STATE x.sa _) rfl rfl).also
      (State.rxEvent_moves _ _ SCT_RX.EV_EXHAUST _) rfl rfl) (hn _)) (hn _))
  exact (Moves.ite (h1.also (State.rxArm_moves _ _ _) rfl rfl) h1).also (State.deliverFrame_moves _ _ _) rfl rfl

theorem State.verdict_fail (x : InItem) (b : Bool)
    (h : b = false ∨ (2 ≤ x.par.suite ∧ recoverPn true (readTag x.data).pn (s.rxLow x.par.window x.sa) ≠ x.pn)) :
    Moves verdictMoves verdictParts (s.count SAT_RX.IN_FAIL x.sa 1) (s.verdict x b) := by
  unfold State.verdict
  simp only
  rw [if_pos h]
  refine Moves.also ?_ (State.smpIn_moves _ _ _ _ _ _ _ _ _ _ _ _ _) rfl rfl
  split
  · exact Moves.refl.also (State.count_moves _ SCT_RX.IN_NOT_VALID _ 1) rfl rfl
  · exact Moves.refl.also (State.count_moves _ SCT_RX.IN_INVALID _ 1) rfl rfl

theorem State.verdict_late (x : InItem) {b : Bool} (h : x.pn < s.rxLow x.par.window x.sa ∧ x.par.replay = true)
    (hb : ¬(b = false ∨ (2 ≤ x.par.suite ∧ recoverPn true (readTag x.data).pn (s.rxLow x.par.window x.sa) ≠ x.pn))) :
    Moves verdictMoves verdictParts s (s.verdict x b) := by
  unfold State.verdict
  simp only
  rw [if_neg hb, if_pos h]
  exact (Moves.refl.also (s.count_moves SCT_RX.IN_LATE _ 1) rfl rfl).also (State.smpIn_moves _ _ _ _ _ _ _ _ _ _ _ _ _) rfl rfl

theorem State.verdict_ok (x : InItem) {b : Bool} (h : ¬(x.pn < s.rxLow x.par.window x.sa ∧ x.par.replay = true))
    (hb : ¬(b = false ∨ (2 ≤ x.par.suite ∧ recoverPn true (readTag x.data).pn (s.rxLow x.par.window x.sa) ≠ x.pn))) :
    ∃ u, Moves verdictMoves verdictParts s u ∧ Moves verdictMoves verdictParts (u.count SAT_RX.IN_OK x.sa 1) (s.verdict x b) := by
  refine ⟨s.count (if x.pn < s.rxLow x.par.window x.sa then SCT_RX.IN_DELAYED else SCT_RX.IN_OK) x.sc 1, ?_, ?_⟩
  · split
    · exact Moves.refl.also (s.count_moves SCT_RX.IN_DELAYED _ 1) rfl rfl
    · exact Moves.refl.also (s.count_moves SCT_RX.IN_OK _ 1) rfl rfl
  · unfold State.verdict
    simp only
    rw [if_neg hb, if_neg h]
    exact State.verdict_pass_moves _ x

abbrev verdictAll : List Fld := SAT_RX.IN_FAIL :: SAT_RX.IN_OK :: verdictMoves

theorem State.verdict_moves (x : InItem) (b : Bool) : Moves verdictAll verdictParts s (s.verdict x b) := by
  by_cases hb : b = false ∨ (2 ≤ x.par.suite ∧ recoverPn true (readTag x.data).pn (s.rxLow x.par.window x.sa) ≠ x.pn)
  · exact (Moves.refl.also (s.count_moves SAT_RX.IN_FAIL _ 1) rfl rfl).also (s.verdict_fail x b hb) rfl rfl
  · by_cases h : x.pn < s.rxLow x.par.window x.sa ∧ x.par.replay = true
    · exact (s.verdict_late x h hb).mono rfl rfl
    · obtain ⟨u, hu, hv⟩ := s.verdict_ok x h hb
      exact ((hu.mono rfl rfl).also (u.count_moves SAT_RX.IN_OK _ 1) rfl rfl).also hv rfl rfl

/-! Discards and releases past step 6. -/

/-- Fields that a discard for a launch time may move. -/
abbrev launchMoves : List Fld := TIM_LP.LAUNCH_DISCARD :: TIM_LP.LAUNCH_STEP :: smpMoves

theorem State.launchDrop_moves (f : Frame) (pn an : Nat) : Moves launchMoves [.ic, .out, .wraps, .cn] s (s.launchDrop f pn an) :=
  ((Moves.refl.also (s.count_moves TIM_LP.LAUNCH_DISCARD _ 1) rfl rfl).also (State.pend_moves _ _) rfl rfl).also
    (State.smpEgress_moves _ _ _ _ _ _) rfl rfl

theorem State.launchStep_moves (f : Frame) (pn an : Nat) : Moves launchMoves [.ic, .out, .wraps, .cn] s (s.launchStep f pn an) :=
  (Moves.refl.also (s.count_moves TIM_LP.LAUNCH_STEP _ 1) rfl rfl).also (State.smpEgress_moves _ _ _ _ _ _) rfl rfl

theorem State.egDrop_moves (x : EgItem) (n : Nat) :
    Moves (CAR_TXCNT.C_DISCARD :: smpMoves) [.ic, .out, .wraps, .cn] s (s.egDrop x n) := by
  unfold State.egDrop
  split
  · exact (Moves.refl.also (s.count_moves CAR_TXCNT.C_DISCARD _ 1) rfl rfl).trans
      (Moves.each .refl (fun f u => Moves.refl.also (u.smpEgress_moves f _ _ _ _) rfl rfl))
  · exact Moves.refl.also (s.smpEgress_moves _ _ _ _ _) rfl rfl

abbrev releaseMoves : List Fld := SCT_TX.PKTS :: SCT_TX.OCTETS :: launchMoves
abbrev releaseParts : List Part := [.ic, .out, .wraps, .cn, .lineOut]

theorem State.egRelease_moves (x : EgItem) : Moves releaseMoves releaseParts s (s.egRelease x) := by
  unfold State.egRelease
  refine .ite ((s.launchStep_moves _ _ _).mono rfl rfl) (.ite ((s.launchDrop_moves _ _ _).mono rfl rfl) ?_)
  exact ((Moves.refl.also (s.count_moves SCT_TX.PKTS _ 1) rfl rfl).also (State.count_moves _ SCT_TX.OCTETS _ _) rfl rfl).also
    (State.setLineQ_moves _ _ _) rfl rfl

/-- What the release of frames may move. -/
abbrev flowMoves : List Fld := CAR_TX.RUNNING :: releaseMoves ++ verdictAll
abbrev flowParts : List Part := .egress :: .ingress :: .carTx :: releaseParts ++ verdictParts

theorem State.egGo_moves (r : Nat) (kept l : List EgItem) : Moves flowMoves flowParts s (State.egGo r kept l s) := by
  induction l generalizing s kept with
  | nil => exact .refl
  | cons x l ih =>
    unfold State.egGo
    split
    · exact ((Moves.refl.also (s.setEg_moves r _) rfl rfl).also (State.egRelease_moves _ x) rfl rfl).trans (ih _ _)
    · exact ih _ _

theorem State.igGo_moves (r : Nat) (kept l : List InItem) : Moves flowMoves flowParts s (State.igGo r kept l s) := by
  induction l generalizing s kept with
  | nil => exact .refl
  | cons x l ih =>
    unfold State.igGo
    split
    · exact ih _ _
    · split
      · exact ((Moves.refl.also (s.setIg_moves r _) rfl rfl).also (State.verdict_moves _ x _) rfl rfl).trans (ih _ _)
      · exact ((Moves.refl.also (s.setIg_moves r _) rfl rfl).also (State.deliverFrame_moves _ x _) rfl rfl).trans (ih _ _)
      · exact ih _ _

theorem State.relEg_moves (r : Nat) : Moves flowMoves flowParts s (s.relEg r) := .ite (s.egGo_moves r _ _) .refl

theorem State.relIg_moves (r : Nat) : Moves flowMoves flowParts s (s.relIg r) := .ite (s.igGo_moves r _ _) .refl

theorem State.flow_moves : Moves flowMoves flowParts s s.flow :=
  Moves.each .refl (fun r u => (u.relEg_moves r).trans (State.relIg_moves _ r))

theorem State.setCarTx_moves (k : Nat) (x : CarTx) : Moves [] [.carTx] s (s.setCarTx k x) :=
  .of_parts rfl (by rintro ⟨⟩ ⟨⟩ <;> rfl) rfl rfl

theorem State.carEnd_moves (k : Nat) : Moves [CAR_TX.RUNNING] [.carTx] s (s.carEnd k) :=
  .ite ((Moves.refl.also (s.set_moves CAR_TX.RUNNING k 0) rfl rfl).also (State.setCarTx_moves _ k _) rfl rfl) .refl

end

/-- With no integrity alarm raised, the end of a command releases frames, and settles the mode. -/
theorem State.ends_moves (s : State) (ha : s.vn.alarms = 0) :
    ∃ u, finish s = .next u ∧ Moves (GLB_MODE.IN_TRANSITION :: flowMoves) (.cl :: .md :: flowParts) s u := by
  have m : Moves flowMoves flowParts s (s.flow.each (upto 16) (fun k s => s.carEnd k)) :=
    s.flow_moves.trans (Moves.each .refl (fun k u => Moves.refl.also (u.carEnd_moves k) rfl rfl))
  have ht : (s.flow.each (upto 16) (fun k s => s.carEnd k)).takeAlarms = s.flow.each (upto 16) (fun k s => s.carEnd k) := by
    have h0 : (s.flow.each (upto 16) (fun k s => s.carEnd k)).vn.alarms = 0 := (m.parts .alarms rfl).trans ha
    generalize s.flow.each (upto 16) (fun k s => s.carEnd k) = t at h0
    have e : ({ t with vn.alarms := 0 } : State) = t := by rw [← h0]
    rw [State.takeAlarms, h0]
    exact e
  refine ⟨_, rfl, ?_⟩
  rw [ht]
  exact (m.mono rfl rfl).also (State.closed_moves _) rfl rfl

end Sys2Proof.Machine
end
/-! The slice groups: their lists at the end of a command, dispatch and completion (R85, R109, R16). -/
section
namespace Sys2Proof.Machine

/-! The first item that meets a test. -/

section
variable {α : Type} {p : α → Bool} {g : α → Option α} {x : α} {l m : List α}

theorem changeFirst_append (hl : ∀ y ∈ l, p y = false) : changeFirst p g (l ++ m) = l ++ changeFirst p g m := by
  induction l with
  | nil => rfl
  | cons y l ih => simp [changeFirst, hl y (by simp), ih (fun z hz => hl z (by simp [hz]))]

theorem changeFirst_at (hl : ∀ y ∈ l, p y = false) (hx : p x = true) {z : α} (hg : g x = some z) :
    changeFirst p g (l ++ x :: m) = l ++ z :: m := by
  rw [changeFirst_append hl]
  simp [changeFirst, hx, hg]

theorem changeFirst_congr {h : α → Option α} (e : ∀ y, p y = true → g y = h y) : changeFirst p g l = changeFirst p h l := by
  induction l with
  | nil => rfl
  | cons y l ih =>
    by_cases hy : p y = true
    · simp [changeFirst, hy, e y hy]
    · simp [changeFirst, hy, ih]

/-- The items of a changed list are old ones or the changed one. -/
theorem mem_changeFirst {z : α} (h : z ∈ changeFirst p g l) : z ∈ l ∨ ∃ y ∈ l, p y = true ∧ g y = some z := by
  induction l with
  | nil => simp [changeFirst] at h
  | cons y l ih =>
    by_cases hy : p y = true
    · cases hg : g y with
      | none => simp_all [changeFirst]
      | some w =>
        rw [changeFirst, if_pos hy, hg, List.mem_cons] at h
        obtain rfl | h := h
        · exact .inr ⟨y, by simp, hy, hg⟩
        · exact .inl (by simp [h])
    · rw [changeFirst, if_neg hy, List.mem_cons] at h
      obtain rfl | h := h
      · exact .inl (by simp)
      · obtain h | ⟨w, hw, hpw⟩ := ih h
        · exact .inl (by simp [h])
        · exact .inr ⟨w, by simp [hw], hpw⟩

end

/-! Calmness and the lists. -/

theorem State.eg_setEg (s : State) (r : Nat) (l : List EgItem) : (s.setEg r l).eg r = l := Tab.get_set_self _ _ _ _
theorem State.ig_setIg (s : State) (r : Nat) (l : List InItem) : (s.setIg r l).ig r = l := Tab.get_set_self _ _ _ _

theorem State.eg_setEg_ne (s : State) {r k : Nat} (h : k ≠ r) (l : List EgItem) : (s.setEg r l).eg k = s.eg k := by
  rw [State.eg, State.setEg, Tab.get_set, if_neg h, State.eg]

theorem State.ig_setIg_ne (s : State) {r k : Nat} (h : k ≠ r) (l : List InItem) : (s.setIg r l).ig k = s.ig k := by
  rw [State.ig, State.setIg, Tab.get_set, if_neg h, State.ig]

theorem eg_eq {s t : State} (h : t.fr.egress = s.fr.egress) (r : Nat) : t.eg r = s.eg r := by rw [State.eg, State.eg, h]
theorem ig_eq {s t : State} (h : t.fr.ingress = s.fr.ingress) (r : Nat) : t.ig r = s.ig r := by rw [State.ig, State.ig, h]

theorem State.calm_iff (s : State) : s.calm = true ↔
    (∀ r < 4, (∀ x ∈ s.eg r, x.stat ≠ .done) ∧ ∀ x ∈ s.ig r, x.ready = false) ∧
      (∀ k < 16, (s.carTxOf k).stopping = false) ∧
      s.vn.alarms = 0 := by
  simp [State.calm, mem_upto, and_assoc]

/-- A change of one egress list that finishes no frame leaves the device calm. -/
theorem State.calm_of_eg {s t : State} (hc : s.calm = true) {r : Nat} (he : ∀ k, k ≠ r → t.eg k = s.eg k)
    (hr : ∀ x ∈ t.eg r, x.stat ≠ .done) (hi : t.fr.ingress = s.fr.ingress) (ht : t.ca.carTx = s.ca.carTx)
    (ha : t.vn.alarms = s.vn.alarms) : t.calm = true := by
  rw [State.calm_iff] at hc ⊢
  obtain ⟨hl, hk, h0⟩ := hc
  refine ⟨fun k hkr => ⟨?_, by rw [ig_eq hi]; exact (hl k hkr).2⟩, fun k hk' => ?_, ha.trans h0⟩
  · by_cases e : k = r
    · rw [e]; exact hr
    · rw [he k e]; exact (hl k hkr).1
  · rw [State.carTxOf, ht]; exact hk k hk'

/-- A change of one ingress list that finishes no frame leaves the device calm. -/
theorem State.calm_of_ig {s t : State} (hc : s.calm = true) {r : Nat} (hi : ∀ k, k ≠ r → t.ig k = s.ig k)
    (hr : ∀ x ∈ t.ig r, x.ready = false) (he : t.fr.egress = s.fr.egress) (ht : t.ca.carTx = s.ca.carTx)
    (ha : t.vn.alarms = s.vn.alarms) : t.calm = true := by
  rw [State.calm_iff] at hc ⊢
  obtain ⟨hl, hk, h0⟩ := hc
  refine ⟨fun k hkr => ⟨by rw [eg_eq he]; exact (hl k hkr).1, ?_⟩, fun k hk' => ?_, ha.trans h0⟩
  · by_cases e : k = r
    · rw [e]; exact hr
    · rw [hi k e]; exact (hl k hkr).2
  · rw [State.carTxOf, ht]; exact hk k hk'

theorem State.calm_setEg {s : State} (hc : s.calm = true) {r : Nat} {l : List EgItem} (h : ∀ x ∈ l, x.stat ≠ .done) :
    (s.setEg r l).calm = true :=
  State.calm_of_eg hc (r := r) (fun _ hk => s.eg_setEg_ne hk l) (by rw [s.eg_setEg]; exact h) rfl rfl rfl

theorem State.calm_setIg {s : State} (hc : s.calm = true) {r : Nat} {l : List InItem} (h : ∀ x ∈ l, x.ready = false) :
    (s.setIg r l).calm = true :=
  State.calm_of_ig hc (r := r) (fun _ hk => s.ig_setIg_ne hk l) (by rw [s.ig_setIg]; exact h) rfl rfl rfl

theorem State.relEg_of_none {s : State} {r : Nat} (h : ∀ x ∈ s.eg r, x.stat ≠ .done) : s.relEg r = s := by
  rw [State.relEg, if_neg]
  simpa using h

theorem State.relIg_of_none {s : State} {r : Nat} (h : ∀ x ∈ s.ig r, x.ready = false) : s.relIg r = s := by
  rw [State.relIg, if_neg]
  simpa using h

/-! Frames that wait for an earlier one of their channel. -/

theorem State.egGo_append (r : Nat) (kept : List EgItem) {l : List EgItem} (m : List EgItem) (s : State)
    (hl : ∀ x ∈ l, x.stat ≠ .done) : State.egGo r kept (l ++ m) s = State.egGo r (kept ++ l) m s := by
  induction l generalizing kept with
  | nil => simp
  | cons x l ih =>
    rw [List.cons_append, State.egGo, if_neg (by simp [hl x (by simp)]), ih _ (fun y hy => hl y (by simp [hy]))]
    simp

theorem State.egGo_none (r : Nat) (kept : List EgItem) {l : List EgItem} (s : State) (hl : ∀ x ∈ l, x.stat ≠ .done) :
    State.egGo r kept l s = s := by
  have h := State.egGo_append r kept [] s hl
  rwa [List.append_nil] at h

theorem State.igGo_append (r : Nat) (kept : List InItem) {l : List InItem} (m : List InItem) (s : State)
    (hl : ∀ x ∈ l, x.ready = false) : State.igGo r kept (l ++ m) s = State.igGo r (kept ++ l) m s := by
  induction l generalizing kept with
  | nil => simp
  | cons x l ih =>
    have hx : x.ready = false := hl x (by simp)
    have e : State.igGo r kept (x :: (l ++ m)) s = State.igGo r (kept ++ [x]) (l ++ m) s := by
      rw [State.igGo]
      split
      · rfl
      · split <;> simp_all [InItem.ready]
    rw [List.cons_append, e, ih _ (fun y hy => hl y (by simp [hy]))]
    simp

theorem State.igGo_none (r : Nat) (kept : List InItem) {l : List InItem} (s : State) (hl : ∀ x ∈ l, x.ready = false) :
    State.igGo r kept l s = s := by
  have h := State.igGo_append r kept [] s hl
  rwa [List.append_nil] at h

section
variable {s : State} {r : Nat}

/-- The finished frame of a list is released, or waits. -/
theorem State.relEg_one {l m : List EgItem} {x : EgItem} (he : s.eg r = l ++ x :: m) (hl : ∀ y ∈ l, y.stat ≠ .done)
    (hm : ∀ y ∈ m, y.stat ≠ .done) (hx : x.stat = .done) :
    s.relEg r = if l.any (fun y => y.sc == x.sc) then s else (s.setEg r (l ++ m)).egRelease x := by
  rw [State.relEg, if_pos (by simp [he, hx]), he, State.egGo_append r [] _ s hl, List.nil_append, State.egGo]
  cases hb : l.any (fun y => y.sc == x.sc)
  · rw [if_pos ⟨hx, rfl⟩, State.egGo_none r l _ hm]
    rfl
  · rw [if_neg (by simp), State.egGo_none r _ _ hm]
    rfl

theorem State.relIg_one {l m : List InItem} {x : InItem} {b : Bool} (he : s.ig r = l ++ x :: m) (hl : ∀ y ∈ l, y.ready = false)
    (hm : ∀ y ∈ m, y.ready = false) (hx : x.stat = .done b) :
    s.relIg r = if l.any (fun y => y.sc == x.sc) then s else (s.setIg r (l ++ m)).verdict x b := by
  rw [State.relIg, if_pos (by simp [he, hx, InItem.ready]), he, State.igGo_append r [] _ s hl, List.nil_append, State.igGo]
  cases hb : l.any (fun y => y.sc == x.sc)
  · simp only [hx, State.igGo_none r l _ hm]
    rfl
  · rw [if_pos rfl, State.igGo_none r _ _ hm]
    rfl

end

/-- A command whose frames all wait ends at once. -/
theorem finish_still {s t : State} (hc : s.calm = true) (ht : t.ca.carTx = s.ca.carTx) (ha : t.vn.alarms = s.vn.alarms)
    (hf : ∀ r < 4, t.relEg r = t ∧ t.relIg r = t) : finish t = .next t.closed := by
  obtain ⟨-, hk, h0⟩ := s.calm_iff.mp hc
  have hflow : t.flow = t := by
    have h : ∀ l : List Nat, (∀ r ∈ l, r < 4) → t.each l (fun r s => (s.relEg r).relIg r) = t := by
      intro l hl
      induction l with
      | nil => rfl
      | cons r l ih =>
        have e : t.each (r :: l) (fun r s => (s.relEg r).relIg r) =
          ((t.relEg r).relIg r).each l (fun r s => (s.relEg r).relIg r) := rfl
        rw [e, (hf r (hl r (by simp))).1, (hf r (hl r (by simp))).2, ih (fun k hk => hl k (by simp [hk]))]
    exact h _ (fun r hr => mem_upto.mp hr)
  have hend : t.each (upto 16) (fun k s => s.carEnd k) = t := by
    have h : ∀ l : List Nat, (∀ k ∈ l, k < 16) → t.each l (fun k s => s.carEnd k) = t := by
      intro l hl
      induction l with
      | nil => rfl
      | cons k l ih =>
        have e : t.each (k :: l) (fun k s => s.carEnd k) = (t.carEnd k).each l (fun k s => s.carEnd k) := rfl
        have hs : (t.carTxOf k).stopping = false := by rw [State.carTxOf, ht]; exact hk k (hl k (by simp))
        have ek : t.carEnd k = t := by rw [State.carEnd, if_neg (by simp [hs])]
        rw [e, ek, ih (fun j hj => hl j (by simp [hj]))]
    exact h _ (fun k hk => mem_upto.mp hk)
  have hal : t.takeAlarms = t := by
    have hz : t.vn.alarms = 0 := ha.trans h0
    have e : ({ t with vn.alarms := 0 } : State) = t := by rw [← hz]
    rw [State.takeAlarms, hz]
    exact e
  rw [finish, hflow, hend, hal]
  rfl

theorem State.closed_eg (s : State) (r : Nat) : s.closed.eg r = s.eg r := eg_eq (s.closed_moves.parts .egress rfl) r
theorem State.closed_ig (s : State) (r : Nat) : s.closed.ig r = s.ig r := ig_eq (s.closed_moves.parts .ingress rfl) r

/-! Dispatch. -/

/-- A frame that is no PTP message goes on as it is where its launch time leaves 600 ns. -/
theorem State.launchFix_early (s : State) {f : Frame} (pn an : Nat) (hp : f.ptp = false)
    (ht : f.launch.all (fun tl => s.now + 600 * ns ≤ tl) = true) : s.launchFix f pn an = (some (f, false), s) := by
  cases hl : f.launch with
  | none =>
    unfold State.launchFix
    rw [hl]
  | some tl =>
    have hle : decide (tl < s.now + 600 * ns) = false := by
      rw [hl, Option.all_some, decide_eq_true_eq] at ht
      exact decide_eq_false (Nat.not_lt.mpr ht)
    unfold State.launchFix
    rw [hl]
    simp only [hle, State.stepped, hp, Bool.false_and, Bool.false_eq_true, if_false, false_and]
    cases f
    cases hl
    cases hp
    rfl

theorem exec_dispatch (r : Region) (d : Dir) (s : State) : exec (.dispatch r d) s = finish (s.dispatch r.val d) := rfl

section
variable {s : State} {r : Region} (hc : s.calm = true) (hf : s.fenced r.val = false)
include hc hf

omit hc in
/-- An egress dispatch that finishes no frame ends with its list. -/
theorem dispatch_eg_ends {u : State} {l : List EgItem} (hd : s.dispatchEg r.val = u.setEg r.val l) (hu : u.calm = true)
    (hl : ∀ x ∈ l, x.stat ≠ .done) : ∃ t, exec (.dispatch r .eg) s = .next t ∧ t.eg r.val = l := by
  refine ⟨(u.setEg r.val l).closed, ?_, (State.closed_eg _ _).trans (u.eg_setEg _ _)⟩
  rw [exec_dispatch, State.dispatch, if_neg (by simp [hf])]
  rw [hd, finish_calm _ (State.calm_setEg hu hl)]

theorem dispatch_ig_ends {l : List InItem} (hd : s.dispatchIg r.val = s.setIg r.val l) (hl : ∀ x ∈ l, x.ready = false) :
    ∃ t, exec (.dispatch r .ig) s = .next t ∧ t.ig r.val = l := by
  refine ⟨(s.setIg r.val l).closed, ?_, (State.closed_ig _ _).trans (s.ig_setIg _ _)⟩
  rw [exec_dispatch, State.dispatch, if_neg (by simp [hf])]
  rw [hd, finish_calm _ (State.calm_setIg hc hl)]

theorem dispatch_eg_reissues {x : EgItem} {l : List EgItem} {n k : Nat} (he : s.eg r.val = x :: l) (hx : x.stat = .reissue n)
    (hk : s.pairFor r.val .eg (some n) = some k) :
    ∃ t, exec (.dispatch r .eg) s = .next t ∧ t.eg r.val = { x with stat := .inPair k, issues := x.issues + 1 } :: l := by
  refine dispatch_eg_ends hf (u := s) ?_ hc ?_
  · rw [State.dispatchEg, he]
    simp only [List.findSome?_cons, hx, hk, Option.map_some, changeFirst, beq_self_eq_true, if_true]
  · have h := ((s.calm_iff.mp hc).1 r.val r.isLt).1
    rw [he] at h
    intro y hy
    obtain rfl | hy := List.mem_cons.mp hy
    · exact fun e => nomatch e
    · exact h y (by simp [hy])

theorem dispatch_ig_reissues {x : InItem} {l : List InItem} {n k : Nat} (he : s.ig r.val = x :: l) (hx : x.stat = .reissue n)
    (hk : s.pairFor r.val .ig (some n) = some k) :
    ∃ t, exec (.dispatch r .ig) s = .next t ∧ t.ig r.val = { x with stat := .inPair k, issues := x.issues + 1 } :: l := by
  refine dispatch_ig_ends hc hf ?_ ?_
  · rw [State.dispatchIg, he]
    simp only [List.findSome?_cons, hx, hk, Option.map_some, changeFirst, beq_self_eq_true, if_true]
  · have h := ((s.calm_iff.mp hc).1 r.val r.isLt).2
    rw [he] at h
    intro y hy
    obtain rfl | hy := List.mem_cons.mp hy
    · rfl
    · exact h y (by simp [hy])

/-- With no frame to issue again, egress dispatch takes the next frame that waits, if an entry is free. -/
theorem dispatch_eg_next {x : EgItem} {k : Nat} (hre : ∀ y ∈ s.eg r.val, ∀ n, y.stat ≠ .reissue n)
    (hk : s.pairFor r.val .eg none = some k) (hn : s.nextEg r.val = some x) :
    (((s.eg r.val).filter EgItem.entered).length < reorderSize →
      (x.car = none → x.f.ptp = false ∧ x.f.launch.all (fun tl => s.now + 600 * ns ≤ tl) = true) →
      ∃ t, exec (.dispatch r .eg) s = .next t ∧ t.eg r.val = changeFirst (fun y => y == x)
        (fun y => some { y with late := false, key := Tab.get [] s.ke.saKey x.sa, stat := .inPair k, issues := 1 }) (s.eg r.val)) ∧
    (reorderSize ≤ ((s.eg r.val).filter EgItem.entered).length →
      ∃ t, exec (.dispatch r .eg) s = .next t ∧ s.keepsBut t []) := by
  have h0 : ∀ g : EgItem → Option (Nat × Nat), (∀ y, (∀ n, y.stat ≠ .reissue n) → g y = none) →
      (s.eg r.val).findSome? g = none := fun g hg =>
    List.findSome?_eq_none_iff.mpr (fun y hy => hg y (hre y hy))
  refine ⟨fun hroom hlaunch => ?_, fun hfull => ⟨s.closed, ?_, (s.keepsBut_rfl []).closed⟩⟩
  · let u : State := { s with fr.dispTurn := s.fr.dispTurn.set 0 r.val ((x.f.lp + 1) % 4) }
    have hfix : (if x.car.isSome then (some (x.f, false), u) else u.launchFix x.f x.pn x.an) = (some (x.f, false), u) := by
      split
      · rfl
      · rename_i hcar
        obtain ⟨hp, htl⟩ := hlaunch (by simpa using hcar)
        exact u.launchFix_early _ _ hp htl
    refine dispatch_eg_ends hf (u := u) ?_ ((State.calm_congr rfl rfl rfl rfl).trans hc) (fun y hy => ?_)
    · rw [State.dispatchEg, h0]
      · simp only [hk, hn]
        rw [if_neg (Nat.not_le.mpr hroom)]
        simp only [u] at hfix
        rw [hfix]
        refine congrArg (State.setEg _ _) (changeFirst_congr fun y hy => ?_)
        rw [beq_iff_eq] at hy
        rw [hy]
      · intro y hy
        split
        · rename_i n hs
          exact absurd hs (hy n)
        · rfl
    · obtain h | ⟨z, -, -, e⟩ := mem_changeFirst hy
      · exact ((s.calm_iff.mp hc).1 r.val r.isLt).1 y h
      · rw [← Option.some.inj e]
        exact fun e => nomatch e
  · rw [exec_dispatch, State.dispatch, if_neg (by simp [hf])]
    rw [State.dispatchEg, h0]
    · simp only [hk, hn]
      rw [if_pos hfull, finish_calm _ hc]
    · intro y hy
      split
      · rename_i n hs
        exact absurd hs (hy n)
      · rfl

/-- With no frame to issue again, ingress dispatch takes the first frame that waits, if an entry is free. -/
theorem dispatch_ig_next {x : InItem} {l m : List InItem} {k : Nat} (hi : s.ig r.val = l ++ x :: m)
    (hl : ∀ y ∈ l, y.stat ≠ .wait) (hx : x.stat = .wait) (hre : ∀ y ∈ l ++ m, ∀ n, y.stat ≠ .reissue n)
    (hk : s.pairFor r.val .ig none = some k) :
    (((s.ig r.val).filter InItem.entered).length < reorderSize →
      ∃ t, exec (.dispatch r .ig) s = .next t ∧
        t.ig r.val = l ++ { x with key := Tab.get [] s.ke.saKey (8192 + x.sa), stat := .inPair k, issues := 1 } :: m) ∧
    (reorderSize ≤ ((s.ig r.val).filter InItem.entered).length →
      ∃ t, exec (.dispatch r .ig) s = .next t ∧ s.keepsBut t []) := by
  have h0 : ∀ g : InItem → Option (Nat × Nat), (∀ y, (∀ n, y.stat ≠ .reissue n) → g y = none) →
      (s.ig r.val).findSome? g = none := fun g hg => by
    refine List.findSome?_eq_none_iff.mpr (fun y hy => hg y ?_)
    rw [hi, List.mem_append, List.mem_cons] at hy
    obtain h | rfl | h := hy
    · exact hre y (by simp [h])
    · simp [hx]
    · exact hre y (by simp [h])
  have hw : (s.ig r.val).find? (fun x => x.stat == .wait) = some x := by
    rw [hi, List.find?_append, List.find?_eq_none.mpr (by simpa using hl)]
    simp [hx]
  refine ⟨fun hroom => dispatch_ig_ends hc hf ?_ ?_, fun hfull => ⟨s.closed, ?_, (s.keepsBut_rfl []).closed⟩⟩
  · rw [State.dispatchIg, h0]
    · simp only [hk, hw]
      rw [if_neg (Nat.not_le.mpr hroom)]
      refine congrArg (State.setIg _ _) ?_
      rw [hi]
      exact changeFirst_at (by simpa using hl) (by simp [hx]) rfl
    · intro y hy
      split
      · rename_i n hs
        exact absurd hs (hy n)
      · rfl
  · have h := ((s.calm_iff.mp hc).1 r.val r.isLt).2
    rw [hi] at h
    intro y hy
    rw [List.mem_append, List.mem_cons] at hy
    obtain hy | rfl | hy := hy
    · exact h y (by simp [hy])
    · rfl
    · exact h y (by simp [hy])
  · rw [exec_dispatch, State.dispatch, if_neg (by simp [hf])]
    rw [State.dispatchIg, h0]
    · simp only [hk, hw]
      rw [if_pos hfull, finish_calm _ hc]
    · intro y hy
      split
      · rename_i n hs
        exact absurd hs (hy n)
      · rfl

end

/-! Completion. -/

/-- A frame with no launch time, no PTP message, goes to its line port and is counted. -/
theorem State.egRelease_plain (s : State) {x : EgItem} (hl : x.f.launch = none) (hp : x.f.ptp = false) :
    ∃ u, Moves [SCT_TX.OCTETS, ICU_PORT.WAKE] [.ic, .out, .wraps] (s.count SCT_TX.PKTS x.sc 1) u ∧
      s.egRelease x = u.setLineQ x.f.lp (s.lineQ x.f.lp ++ [⟨x.line, x.f, x.pn, x.an, x.late, decide (1 < x.issues), x.car⟩]) := by
  have m1 := s.count_moves SCT_TX.PKTS x.sc 1
  have m2 := (s.count SCT_TX.PKTS x.sc 1).count_moves SCT_TX.OCTETS x.sc (x.f.data.length - 12)
  refine ⟨_, m2, ?_⟩
  have hq : ((s.count SCT_TX.PKTS x.sc 1).count SCT_TX.OCTETS x.sc (x.f.data.length - 12)).lineQ x.f.lp = s.lineQ x.f.lp :=
    congrArg (fun l => Tab.get [] l x.f.lp) ((m2.parts .lineOut rfl).trans (m1.parts .lineOut rfl))
  rw [State.egRelease]
  simp only [State.stepped, hl, hp, Bool.false_and, Bool.false_eq_true, if_false, Option.any_none, false_and, Bool.or_false, hq]

theorem exec_pairFrameComplete (r : Region) (d : Dir) (k : Fin 9) (s : State) :
    exec (.pairFrameComplete r d k) s = finish (s.pairDone r.val d k.val) := rfl

section
variable {s : State} {r : Region} {k : Fin 9} {x : EgItem} {l m : List EgItem} (hc : s.calm = true)
  (he : s.eg r.val = l ++ x :: m) (hl : ∀ y ∈ l, y.stat ≠ .inPair k.val) (hx : x.stat = .inPair k.val)
include hc he hl hx

/-- The pair's frame is protected, and released if no earlier one of its channel is before it. -/
theorem State.pairDone_eg : (∀ y ∈ l, y.stat ≠ .done) ∧ (∀ y ∈ m, y.stat ≠ .done) ∧
    s.pairDone r.val .eg k.val = if l.any (fun y => y.sc == x.sc) then
      s.setEg r.val (l ++ { x with stat := .done, line := x.wire } :: m)
    else ((s.setEg r.val (l ++ { x with stat := .done, line := x.wire } :: m)).setEg r.val (l ++ m)).egRelease
      { x with stat := .done, line := x.wire } := by
  have h := ((s.calm_iff.mp hc).1 r.val r.isLt).1
  rw [he] at h
  have h1 : ∀ y ∈ l, y.stat ≠ .done := fun y hy => h y (by simp [hy])
  have h2 : ∀ y ∈ m, y.stat ≠ .done := fun y hy => h y (by simp [hy])
  refine ⟨h1, h2, ?_⟩
  have hch : changeFirst (fun x => x.stat == .inPair k.val) (fun x : EgItem => some { x with stat := .done, line := x.wire })
      (l ++ x :: m) = l ++ { x with stat := .done, line := x.wire } :: m := changeFirst_at (by simpa using hl) (by simp [hx]) rfl
  rw [State.pairDone, he, hch]
  exact State.relEg_one (s.eg_setEg r.val _) h1 h2 rfl

theorem pairFrameComplete_eg_releases (hb : l.any (fun y => y.sc == x.sc) = false) (hn : x.f.launch = none) (hp : x.f.ptp = false) :
    ∃ t, exec (.pairFrameComplete r .eg k) s = .next t ∧ t.eg r.val = l ++ m ∧
      t.get SCT_TX.PKTS x.sc = (s.get SCT_TX.PKTS x.sc + 1) % 2 ^ 64 ∧
      t.lineQ x.f.lp = s.lineQ x.f.lp ++ [⟨x.wire, x.f, x.pn, x.an, x.late, decide (1 < x.issues), x.car⟩] := by
  obtain ⟨h1, h2, hd⟩ := State.pairDone_eg hc he hl hx
  let x' : EgItem := { x with stat := .done, line := x.wire }
  let v := (s.setEg r.val (l ++ x' :: m)).setEg r.val (l ++ m)
  obtain ⟨u, mu, hu⟩ := v.egRelease_plain (x := x') hn hp
  have mv : Moves [] [.egress] s v := (Moves.refl.also (s.setEg_moves _ _) rfl rfl).also (State.setEg_moves _ _ _) rfl rfl
  have mq := u.setLineQ_moves x.f.lp (v.lineQ x.f.lp ++ [⟨x'.line, x.f, x.pn, x.an, x.late, decide (1 < x.issues), x.car⟩])
  have mw : Moves [SCT_TX.PKTS, SCT_TX.OCTETS, ICU_PORT.WAKE] [.ic, .out, .wraps, .lineOut] v _ :=
    ((Moves.refl.also (v.count_moves SCT_TX.PKTS x.sc 1) rfl rfl).also mu rfl rfl).also mq rfl rfl
  have hw := State.calm_of_eg hc (r := r.val) (fun j hj => (eg_eq (mw.parts .egress rfl) j).trans
    ((State.eg_setEg_ne _ hj _).trans (s.eg_setEg_ne hj _)))
    (by
      rw [eg_eq (mw.parts .egress rfl), State.eg_setEg]
      exact fun y hy => (List.mem_append.mp hy).elim (h1 y) (h2 y))
    ((mw.parts .ingress rfl).trans (mv.parts .ingress rfl)) ((mw.parts .carTx rfl).trans (mv.parts .carTx rfl))
    ((mw.parts .alarms rfl).trans (mv.parts .alarms rfl))
  refine ⟨_, ?_, (State.closed_eg _ _).trans ((eg_eq (mw.parts .egress rfl) _).trans (State.eg_setEg _ _ _)), ?_, ?_⟩
  · rw [exec_pairFrameComplete, hd, hb]
    exact (congrArg finish hu).trans (finish_calm _ hw)
  · exact mv.counted (((mu.mono (fs := [SCT_TX.OCTETS, ICU_PORT.WAKE, GLB_MODE.IN_TRANSITION])
      (ps := [.ic, .out, .wraps, .lineOut, .cl, .md]) rfl rfl).also mq rfl rfl).also (State.closed_moves _) rfl rfl) rfl rfl rfl
  · have hq : ∀ u : State, u.closed.lineQ x.f.lp = u.lineQ x.f.lp := fun u =>
      congrArg (fun l => Tab.get [] l x.f.lp) (u.closed_moves.parts .lineOut rfl)
    rw [hq, State.lineQ, State.setLineQ, Tab.get_set_self]
    rfl

/-- A frame with an earlier one of its channel before it waits, finished. -/
theorem pairFrameComplete_eg_waits (hb : l.any (fun y => y.sc == x.sc) = true) :
    ∃ t, exec (.pairFrameComplete r .eg k) s = .next t ∧ t.eg r.val = l ++ { x with stat := .done, line := x.wire } :: m := by
  obtain ⟨h1, h2, hd⟩ := State.pairDone_eg hc he hl hx
  refine ⟨_, ?_, (State.closed_eg (s.setEg r.val (l ++ { x with stat := .done, line := x.wire } :: m)) _).trans (s.eg_setEg _ _)⟩
  rw [exec_pairFrameComplete, hd, if_pos hb]
  refine finish_still hc rfl rfl (fun j hj => ⟨?_, State.relIg_of_none ((s.calm_iff.mp hc).1 j hj).2⟩)
  by_cases e : j = r.val
  · subst e
    rw [State.relEg_one (s.eg_setEg _ _) h1 h2 rfl]
    exact if_pos hb
  · refine State.relEg_of_none ?_
    rw [s.eg_setEg_ne e]
    exact ((s.calm_iff.mp hc).1 j hj).1

end

section
variable {s : State} {r : Region} {k : Fin 9} {x : InItem} {l m : List InItem} (hc : s.calm = true)
  (hi : s.ig r.val = l ++ x :: m) (hl : ∀ y ∈ l, y.stat ≠ .inPair k.val) (hx : x.stat = .inPair k.val)
include hc hi hl hx

/-- The pair's frame is opened, and gets its verdict if no earlier one of its channel is before it. -/
theorem State.pairDone_ig : (∀ y ∈ l, y.ready = false) ∧ (∀ y ∈ m, y.ready = false) ∧
    s.pairDone r.val .ig k.val = if l.any (fun y => y.sc == x.sc) then
      s.setIg r.val (l ++ { x with stat := .done x.opened.2, plain := x.opened.1 } :: m)
    else ((s.setIg r.val (l ++ { x with stat := .done x.opened.2, plain := x.opened.1 } :: m)).setIg r.val (l ++ m)).verdict
      { x with stat := .done x.opened.2, plain := x.opened.1 } x.opened.2 := by
  have h := ((s.calm_iff.mp hc).1 r.val r.isLt).2
  rw [hi] at h
  have h1 : ∀ y ∈ l, y.ready = false := fun y hy => h y (by simp [hy])
  have h2 : ∀ y ∈ m, y.ready = false := fun y hy => h y (by simp [hy])
  refine ⟨h1, h2, ?_⟩
  have hch : changeFirst (fun x => x.stat == .inPair k.val)
      (fun x : InItem => let o := x.opened; some { x with stat := .done o.2, plain := o.1 })
      (l ++ x :: m) = l ++ { x with stat := .done x.opened.2, plain := x.opened.1 } :: m :=
    changeFirst_at (by simpa using hl) (by simp [hx]) rfl
  rw [State.pairDone, hi, hch]
  exact State.relIg_one (s.ig_setIg r.val _) h1 h2 rfl

theorem pairFrameComplete_ig_verdict (hb : l.any (fun y => y.sc == x.sc) = false) :
    ∃ t, exec (.pairFrameComplete r .ig k) s = .next t ∧ t.ig r.val = l ++ m ∧
      (x.opened.2 = false → t.get SAT_RX.IN_FAIL x.sa = (s.get SAT_RX.IN_FAIL x.sa + 1) % 2 ^ 64) ∧
      (x.opened.2 = true → x.par.suite < 2 → s.rxLow x.par.window x.sa ≤ x.pn →
        t.get SAT_RX.IN_OK x.sa = (s.get SAT_RX.IN_OK x.sa + 1) % 2 ^ 64) := by
  obtain ⟨h1, h2, hd⟩ := State.pairDone_ig hc hi hl hx
  let x' : InItem := { x with stat := .done x.opened.2, plain := x.opened.1 }
  let v := (s.setIg r.val (l ++ x' :: m)).setIg r.val (l ++ m)
  have mv : Moves [] [.ingress] s v := (Moves.refl.also (s.setIg_moves _ _) rfl rfl).also (State.setIg_moves _ _ _) rfl rfl
  have mw := v.verdict_moves x' x.opened.2
  have hw := State.calm_of_ig hc (r := r.val) (fun j hj => (ig_eq (mw.parts .ingress rfl) j).trans
    ((State.ig_setIg_ne _ hj _).trans (s.ig_setIg_ne hj _)))
    (by
      rw [ig_eq (mw.parts .ingress rfl), State.ig_setIg]
      exact fun y hy => (List.mem_append.mp hy).elim (h1 y) (h2 y))
    ((mw.parts .egress rfl).trans (mv.parts .egress rfl)) ((mw.parts .carTx rfl).trans (mv.parts .carTx rfl))
    ((mw.parts .alarms rfl).trans (mv.parts .alarms rfl))
  have mc := (v.verdict x' x.opened.2).closed_moves
  refine ⟨_, ?_, (State.closed_ig _ _).trans ((ig_eq (mw.parts .ingress rfl) _).trans (State.ig_setIg _ _ _)), fun ho => ?_,
    fun ho hs hp => ?_⟩
  · rw [exec_pairFrameComplete, hd, hb]
    exact finish_calm _ hw
  · exact mv.counted ((v.verdict_fail x' _ (.inl ho)).mono (fs := GLB_MODE.IN_TRANSITION :: verdictMoves)
      (ps := .cl :: .md :: verdictParts) rfl rfl |>.also mc rfl rfl) rfl rfl rfl
  · have hlow : v.rxLow x.par.window x.sa ≤ x.pn := hp
    obtain ⟨u, mu, hu⟩ := v.verdict_ok x' (b := x.opened.2) (by simp [x', hlow]) (by
      rintro (h | ⟨h, -⟩)
      · simp [ho] at h
      · exact absurd hs (Nat.not_lt.mpr h))
    exact ((mv.mono rfl rfl).trans (mu.mono rfl rfl)).counted (fs := verdictMoves) (ps := .ingress :: verdictParts)
      (hu.mono (fs := GLB_MODE.IN_TRANSITION :: verdictMoves) (ps := .cl :: .md :: verdictParts) rfl rfl |>.also mc rfl rfl)
      rfl rfl rfl

/-- A frame with an earlier one of its channel before it waits, opened. -/
theorem pairFrameComplete_ig_waits (hb : l.any (fun y => y.sc == x.sc) = true) :
    ∃ t, exec (.pairFrameComplete r .ig k) s = .next t ∧
      t.ig r.val = l ++ { x with stat := .done x.opened.2, plain := x.opened.1 } :: m := by
  obtain ⟨h1, h2, hd⟩ := State.pairDone_ig hc hi hl hx
  refine ⟨_, ?_, (State.closed_ig (s.setIg r.val (l ++ { x with stat := .done x.opened.2, plain := x.opened.1 } :: m)) _).trans
    (s.ig_setIg _ _)⟩
  rw [exec_pairFrameComplete, hd, if_pos hb]
  refine finish_still hc rfl rfl (fun j hj => ⟨State.relEg_of_none ((s.calm_iff.mp hc).1 j hj).1, ?_⟩)
  by_cases e : j = r.val
  · subst e
    rw [State.relIg_one (s.ig_setIg _ _) h1 h2 rfl]
    exact if_pos hb
  · refine State.relIg_of_none ?_
    rw [s.ig_setIg_ne e]
    exact ((s.calm_iff.mp hc).1 j hj).2

end

end Sys2Proof.Machine
end
/-! Footprint of a region's fence: every frame it holds is discarded (R12, R19). -/
section
namespace Sys2Proof.Machine

/-- Fields that the frames of a fenced region move. -/
abbrev lostMoves : List Fld := SCT_TX.D_REGION :: QUE_DCNT.D_REGION :: SCT_RX.D_REGION :: RGN_LPIGR.D_REGION ::
  CAR_TXCNT.C_DISCARD :: CAR_TX.RUNNING :: QUE_DQ.MAX_DEPTH :: QUE_DQ.DEPTH :: QUE_DQ.DB_CELLS :: QUE_DQ.SPILLING ::
  QUE_DQ.FRAMES :: HQ_PCNT.LOST :: HQ_PUNT.STOPPED :: refuseMoves ++ fetchMoves ++ pfcMoves
abbrev lostParts : List Part := .arrivals :: .egress :: .ingress :: .lineOut :: .hostOut :: .carTx :: .carRest :: .queues :: .drr ::
  .deepWr :: .deep :: refuseParts ++ pfcParts

section
variable (s : State)

theorem State.fenceArrivals_moves (r : Nat) : Moves lostMoves lostParts s (s.fenceArrivals r) :=
  Moves.each (Moves.refl.also (s.arrivals_moves _) rfl rfl) (fun a u =>
    (Moves.refl.also (u.count_moves QUE_DCNT.D_REGION _ 1) rfl rfl).also (u.dropArrival_moves a QUE_DCNT.D_REGION 8) rfl rfl)

theorem State.fenceCount_moves (f : Frame) : Moves lostMoves lostParts s (s.fenceCount f) := by
  unfold State.fenceCount
  split
  · exact Moves.refl.also (s.count_moves SCT_TX.D_REGION _ 1) rfl rfl
  · exact Moves.refl.also (s.count_moves QUE_DCNT.D_REGION _ 1) rfl rfl

theorem State.fenceEgress_moves (r : Nat) : Moves lostMoves lostParts s (s.fenceEgress r) := by
  unfold State.fenceEgress
  refine Moves.each (Moves.each .refl (fun n u => ?_)) (fun k u => ?_)
  · exact Moves.each (Moves.refl.also (u.setEg_moves n _) rfl rfl)
      (fun x v => (v.fenceCount_moves x.f).also (State.egDrop_moves _ x 8) rfl rfl)
  · refine Moves.each (Moves.refl.also (u.setLineQ_moves k _) rfl rfl) (fun x v => ?_)
    refine (v.fenceCount_moves x.f).trans ?_
    split
    · exact Moves.each (Moves.refl.also (State.count_moves _ CAR_TXCNT.C_DISCARD k 1) rfl rfl)
        (fun f w => Moves.refl.also (w.smpEgress_moves f _ _ _ _) rfl rfl)
    · exact Moves.refl.also (State.smpEgress_moves _ _ _ _ _ _) rfl rfl

theorem State.fenceIngress_moves (r : Nat) : Moves lostMoves lostParts s (s.fenceIngress r) := by
  have hx : ∀ (x : InItem) (u : State), Moves lostMoves lostParts u ((u.count SCT_RX.D_REGION x.sc 1).smpIn x.sampled
      (u.get SCT_RX.HPORT x.sc) x.lp x.sc 0 (x.data.length + 4) x.time x.steps x.mono x.pn 0 8) := fun x u =>
    (Moves.refl.also (u.count_moves SCT_RX.D_REGION x.sc 1) rfl rfl).also (State.smpIn_moves _ _ _ _ _ _ _ _ _ _ _ _ _) rfl rfl
  have hy : ∀ (y : Nat × OutFrame) (u : State), Moves lostMoves lostParts u ((match y.2.sc with
      | some c => u.count SCT_RX.D_REGION c 1
      | none => u.count RGN_LPIGR.D_REGION y.2.lp 1).smpIn y.2.sampled y.1 y.2.lp (y.2.sc.getD 0) y.2.an (y.2.data.length + 4)
        y.2.time y.2.steps y.2.mono y.2.pn 0 8) := fun y u => by
    refine Moves.also ?_ (State.smpIn_moves _ _ _ _ _ _ _ _ _ _ _ _ _) rfl rfl
    split
    · exact Moves.refl.also (u.count_moves SCT_RX.D_REGION _ 1) rfl rfl
    · exact Moves.refl.also (u.count_moves RGN_LPIGR.D_REGION _ 1) rfl rfl
  have hk : ∀ (k : Nat) (u : State), Moves lostMoves lostParts u (if (u.carRxOf k).part.isSome then
      (u.carLose k).count SCT_RX.D_REGION (u.get CAR_RX.SC k) 1 else u) := fun k u =>
    .ite ((Moves.refl.also (u.carLose_moves k) rfl rfl).also (State.count_moves _ SCT_RX.D_REGION _ 1) rfl rfl) .refl
  have h1 := Moves.each (l := s.ig r) ((Moves.refl (fs := lostMoves) (ps := lostParts)).also (s.setIg_moves r []) rfl rfl) hx
  have h2 := fun out => h1.also (State.hostOut_moves _ out) rfl rfl
  exact Moves.each (Moves.each (h2 _) hy) hk

theorem State.fencePunt_moves (r : Nat) : Moves lostMoves lostParts s (s.fencePunt r) :=
  Moves.each .refl (fun k u => .ite .refl ((Moves.refl.also (u.setRing_moves k _) rfl rfl).also
    (State.count_moves _ HQ_PCNT.LOST k _) rfl rfl))

theorem State.splitDrop_moves (k n : Nat) : Moves lostMoves lostParts s (s.splitDrop k (some QUE_DCNT.D_REGION) n) := by
  unfold State.splitDrop
  split
  · exact ((Moves.refl.also (s.setCarTx_moves k _) rfl rfl).also (State.count_moves _ QUE_DCNT.D_REGION _ 1) rfl rfl).also
      (State.smpEgress_moves _ _ _ _ _ _) rfl rfl
  · exact .refl

theorem State.carDown_moves (k : Nat) : Moves lostMoves lostParts s (s.carDown k (some QUE_DCNT.D_REGION)) :=
  .ite (((s.splitDrop_moves k 8).also (State.set_moves _ CAR_TX.RUNNING k 0) rfl rfl).also (State.setCarTx_moves _ k _) rfl rfl) .refl

/-- Frames leave the deep part of a queue. -/
theorem State.deepLeft_moves (q n : Nat) (units : List Nat) : Moves lostMoves lostParts s
    (let s := s.each units (fun u s => s.unitFree u)
    let db := s.get QUE_DQ.DB_CELLS q - n
    let s := s.set QUE_DQ.DB_CELLS q db
    if db = 0 then s.set QUE_DQ.SPILLING q 0 else s) := by
  have hu : Moves lostMoves lostParts s (s.each units (fun u s => s.unitFree u)) :=
    Moves.each .refl (fun u v => Moves.refl.also (v.unitFree_moves u) rfl rfl)
  have hd := fun d => hu.also (State.set_moves _ QUE_DQ.DB_CELLS q d) rfl rfl
  exact .ite ((hd _).also (State.set_moves _ QUE_DQ.SPILLING q 0) rfl rfl) (hd _)

theorem State.queueFlush_moves (q n : Nat) (p : Frame → Bool) : Moves lostMoves lostParts s (s.queueFlush q QUE_DCNT.D_REGION n p) := by
  unfold State.queueFlush
  simp only
  refine .ite .refl (Moves.also ?_ (State.checkEmpty_moves _ _) rfl rfl)
  refine Moves.each (Moves.also ?_ (State.count_moves _ QUE_DCNT.D_REGION q _) rfl rfl)
    (fun f u => Moves.refl.also (u.smpEgress_moves _ _ _ _ _) rfl rfl)
  refine Moves.also ?_ (State.set_moves _ QUE_DQ.FRAMES q _) rfl rfl
  have hu := fun x units => Moves.each (l := units) ((Moves.refl (fs := lostMoves) (ps := lostParts)).also (s.setQueue_moves q x) rfl rfl)
    (fun (u : Nat) v => Moves.refl.also (v.unitFree_moves u) rfl rfl)
  have hd := fun x units d => (hu x units).also (State.setDepth_moves _ q d) rfl rfl
  have hb := fun x units d b => (hd x units d).also (State.set_moves _ QUE_DQ.DB_CELLS q b) rfl rfl
  exact .ite ((hb _ _ _ _).also (State.set_moves _ QUE_DQ.SPILLING q 0) rfl rfl) (hb _ _ _ _)

theorem State.flushQueues_moves (n : Nat) (p : Nat → Frame → Bool) :
    Moves lostMoves lostParts s (s.flushQueues QUE_DCNT.D_REGION n p) := by
  have hw : ∀ (w : DeepWr) (u : State), Moves lostMoves lostParts u
      ((let q := w.a.f.queue
        let s := u.each w.units (fun u s => s.unitFree u)
        let db := s.get QUE_DQ.DB_CELLS q - w.a.f.cells
        let s := s.set QUE_DQ.DB_CELLS q db
        if db = 0 then s.set QUE_DQ.SPILLING q 0 else s).dropArrival w.a QUE_DCNT.D_REGION n) := fun w u =>
    ((u.deepLeft_moves w.a.f.queue w.a.f.cells w.units).also (State.count_moves _ QUE_DCNT.D_REGION _ 1) rfl rfl).also
      (State.dropArrival_moves _ w.a QUE_DCNT.D_REGION n) rfl rfl
  have hq := Moves.each (l := s.pl.queues.map (·.1)) (.refl (s := s)) (fun q u => u.queueFlush_moves q n (p q))
  have hd := fun x => hq.also (State.deepWr_moves _ x) rfl rfl
  unfold State.flushQueues
  exact (Moves.each (hd _) hw).also (State.pfc_moves _) rfl rfl

theorem State.ringStop_moves (k : Nat) : Moves lostMoves lostParts s (s.ringStop k) := by
  have h : Moves lostMoves lostParts s ((s.set HQ_PUNT.STOPPED k 1).ringForget k) :=
    (Moves.refl.also (s.set_moves HQ_PUNT.STOPPED k 1) rfl rfl).also (State.ringForget_moves _ k) rfl rfl
  unfold State.ringStop
  simp only
  split
  · split
    · split
      · exact .ite ((h.also (State.setRing_moves _ k _) rfl rfl).also (State.puntLost_moves _ k) rfl rfl) h
      · exact h
    · exact h
  · exact .refl

theorem State.setRgn_moves (r v : Nat) : Moves [GLB_REGION_STATUS.RGN0, GLB_REGION_STATUS.RGN1, GLB_REGION_STATUS.RGN2,
    GLB_REGION_STATUS.RGN3] [] s (s.setRgn r v) := by
  unfold State.setRgn rgnField
  split <;> exact Moves.refl.also (s.set_moves _ 0 v) rfl rfl

/-- What a fence may move. -/
abbrev fenceMoves : List Fld := GLB_REGION_STATUS.RGN0 :: GLB_REGION_STATUS.RGN1 :: GLB_REGION_STATUS.RGN2 ::
  GLB_REGION_STATUS.RGN3 :: FLT_RGN_INFO.LAST_CAUSE :: FLT_RGN_INFO.FENCES_1H :: FLT_RGN_INFO.RESTARTING ::
  FLT_RGN_INFO.AUTO_BLOCKED :: GLB_DEGRADED_CAUSE.REGION_FENCED :: lostMoves
abbrev fenceParts : List Part := .fl :: lostParts

/-- A region's state and its fence are noted before its frames are discarded. -/
def State.fenceNoted (s : State) (r cause : Nat) : State :=
  let times := s.mono :: recent s hour (Tab.get [] s.fl.fenceAt r)
  let s := { s.setRgn r 3 with fl.fenceAt := s.fl.fenceAt.set [] r times,
                               fl.restart := s.fl.restart.set 0 r (s.mono + s.get FLT_CFG.HOLD_MS 0 * ms) }
  (((s.set FLT_RGN_INFO.LAST_CAUSE r cause).set FLT_RGN_INFO.FENCES_1H r (min times.length 15)).set
    FLT_RGN_INFO.RESTARTING r 0).set GLB_DEGRADED_CAUSE.REGION_FENCED 0 1

/-- The frames of region r are discarded, its rings stop. -/
def State.fenceEmptied (s : State) (r : Nat) : State :=
  let s := ((s.fenceArrivals r).fenceEgress r).fenceIngress r
  let s := s.each (linePorts r) (fun k s => s.carDown k (some QUE_DCNT.D_REGION))
  let s := s.flushQueues QUE_DCNT.D_REGION 8 (fun q f => regionOfLp (s.queuePort q) == r || f.reg == r)
  let s := s.fencePunt r
  s.each (upto 128) (fun k s => if s.on HQ_PUNT.EN k ∧ s.get HQ_PUNT.REGION k = r then s.ringStop k else s)

theorem State.fence_eq {r : Nat} (cause : Nat) (h : ¬(s.fenced r = true ∧ s.on FLT_RGN_INFO.RESTARTING r = false)) :
    s.fence r cause =
      (let n := (s.mono :: recent s hour (Tab.get [] s.fl.fenceAt r)).length
      let s := ((s.fenceNoted r cause).fenceEmptied r).pend r
      if s.get FLT_CFG.FENCE_LIMIT 0 < n ∧ s.on FLT_RGN_INFO.AUTO_BLOCKED r = false then
        (s.set FLT_RGN_INFO.AUTO_BLOCKED r 1).pend (8 + r)
      else s) := by
  rw [State.fence, if_neg h]
  rfl

theorem State.fenceNoted_moves (r cause : Nat) : Moves fenceMoves fenceParts s (s.fenceNoted r cause) := by
  have h0 : Moves fenceMoves fenceParts s (s.setRgn r 3) := Moves.refl.also (s.setRgn_moves r 3) rfl rfl
  have h1 := fun x => h0.also (State.fl_moves _ x) rfl rfl
  exact ((((h1 _).also (State.set_moves _ FLT_RGN_INFO.LAST_CAUSE r _) rfl rfl).also (State.set_moves _ FLT_RGN_INFO.FENCES_1H r _)
    rfl rfl).also (State.set_moves _ FLT_RGN_INFO.RESTARTING r _) rfl rfl).also
    (State.set_moves _ GLB_DEGRADED_CAUSE.REGION_FENCED 0 _) rfl rfl

theorem State.fenceEmptied_moves (r : Nat) : Moves lostMoves lostParts s (s.fenceEmptied r) := by
  have h1 := ((s.fenceArrivals_moves r).trans (State.fenceEgress_moves _ r)).trans (State.fenceIngress_moves _ r)
  have h2 := Moves.each (l := linePorts r) h1 (fun k u => u.carDown_moves k)
  unfold State.fenceEmptied
  exact Moves.each ((h2.trans (State.flushQueues_moves _ _ _)).trans (State.fencePunt_moves _ r))
    (fun k u => .ite (u.ringStop_moves k) .refl)

theorem State.fence_moves (r cause : Nat) : Moves fenceMoves fenceParts s (s.fence r cause) := by
  by_cases h : s.fenced r = true ∧ s.on FLT_RGN_INFO.RESTARTING r = false
  · rw [State.fence, if_pos h]
    exact .refl
  · have m : Moves fenceMoves fenceParts s (((s.fenceNoted r cause).fenceEmptied r).pend r) :=
      ((s.fenceNoted_moves r cause).also (State.fenceEmptied_moves _ r) rfl rfl).also (State.pend_moves _ r) rfl rfl
    rw [s.fence_eq cause h]
    exact .ite ((m.also (State.set_moves _ FLT_RGN_INFO.AUTO_BLOCKED r 1) rfl rfl).also (State.pend_moves _ _) rfl rfl) m

end

end Sys2Proof.Machine
end
/-! Faults of slice pairs, their known-answer tests and the spares (R86 to R89). -/
section
namespace Sys2Proof.Machine

/-! The state of a pair. -/

section
variable (s : State)

theorem State.setPair_moves (r : Nat) (d : Dir) (k st : Nat) :
    Moves [RGN_PPE_STATUS.STATE, ICU_PORT.WAKE] [.ic, .out] s (s.setPair r d k st) :=
  .ite .refl ((Moves.refl.also (s.set_moves RGN_PPE_STATUS.STATE _ st) rfl rfl).also (State.pend_moves _ _) rfl rfl)

theorem State.setPair_state (r : Nat) (d : Dir) (k : Nat) {st : Nat} (h : st < 2 ^ RGN_PPE_STATUS.STATE.width) (j : Nat) :
    (s.setPair r d k st).get RGN_PPE_STATUS.STATE j = if j = pairIdx r d k then st else s.get RGN_PPE_STATUS.STATE j := by
  unfold State.setPair
  simp only
  split
  · rename_i hs
    split
    · rename_i hj
      rw [hj, hs]
    · rfl
  · rw [State.pend_get _ _ rfl]
    split
    · rename_i hj
      rw [hj, State.get_set_self]
      exact Nat.mod_eq_of_lt h
    · rename_i hj
      rw [State.get_set_index _ _ hj]

theorem State.setSpare_moves (r : Nat) (d : Dir) (b : Bool) :
    Moves [GLB_REGION_STATUS.SPARE_E, GLB_REGION_STATUS.SPARE_I] [] s (s.setSpare r d b) := by
  unfold State.setSpare
  cases d <;> exact Moves.refl.also (s.set_moves _ 0 _) rfl rfl

end

theorem exec_pairFault (r : Region) (d : Dir) (k : Fin 9) (c : PairCause) (s : State) :
    exec (.pairFault r d k c) s = finish (s.pairFault r.val d k.val c) := rfl

/-! A fault of a pair that carries a frame (R86, R87). -/

/-- What a fault notes before its frame is dealt with. -/
abbrev faultMoves : List Fld := [RGN_PPE_MISMATCH.V, RGN_PPE_STATUS.LAST_CAUSE, RGN_PPE_STATUS.STATE, ICU_PORT.WAKE]

/-- The fault of a busy pair is counted with its cause, and the pair is in test. -/
theorem State.pairFault_noted {s : State} {r k i : Nat} {d : Dir} (c : PairCause) (hi : i = pairIdx r d k)
    (h1 : s.get RGN_PPE_STATUS.STATE i = 1) (hb : s.pairBusy r d k = true) :
    ∃ u, Moves faultMoves [.ic, .out, .wraps] s u ∧ s.pairFault r d k c = u.reissue r d k ∧
      u.get RGN_PPE_STATUS.STATE i = 2 ∧ u.get RGN_PPE_STATUS.LAST_CAUSE i = causeCode c ∧
      u.get RGN_PPE_MISMATCH.V i = (s.get RGN_PPE_MISMATCH.V i + 1) % 2 ^ 64 := by
  subst hi
  let v := s.count RGN_PPE_MISMATCH.V (pairIdx r d k) 1
  let w := v.set RGN_PPE_STATUS.LAST_CAUSE (pairIdx r d k) (causeCode c)
  have mw : Moves faultMoves [.ic, .out, .wraps] s w :=
    (Moves.refl.also (s.count_moves _ _ 1) rfl rfl).also (v.set_moves RGN_PPE_STATUS.LAST_CAUSE _ _) rfl rfl
  have mp := w.setPair_moves r d k 2
  refine ⟨w.setPair r d k 2, mw.also mp rfl rfl, if_pos ⟨h1, hb⟩, ?_, ?_, ?_⟩
  · rw [State.setPair_state w r d k (by decide), if_pos rfl]
  · rw [mp.get rfl, State.get_set_self]
    cases c <;> rfl
  · exact Moves.counted (Moves.refl (fs := []) (ps := [])) ((Moves.refl (fs := [RGN_PPE_STATUS.LAST_CAUSE,
      RGN_PPE_STATUS.STATE, ICU_PORT.WAKE]) (ps := [.ic, .out])).also (v.set_moves RGN_PPE_STATUS.LAST_CAUSE _ _) rfl rfl |>.also
      mp rfl rfl) rfl rfl rfl

/-- Fields that the frame of a faulted pair moves. -/
abbrev reissueMoves : List Fld := CAR_TXCNT.C_DISCARD :: SCT_TX.D_REISSUE :: SCT_TX.EV_REISSUE_LIMIT :: SCT_RX.D_REISSUE ::
  SCT_RX.EV_REISSUE_LIMIT :: GLB_MODE.IN_TRANSITION :: smpMoves
abbrev reissueParts : List Part := [.egress, .ingress, .ic, .out, .wraps, .cn, .cl, .md]

section
variable {u : State} {r : Region} {k : Nat} (hc : u.calm = true)
include hc

/-- An egress frame of a faulted pair is issued again, or discarded after its third issue. -/
theorem reissue_eg_ends {x : EgItem} (hx : (u.eg r.val).find? (fun x => x.stat == .inPair k) = some x) :
    ∃ t, finish (u.reissue r.val .eg k) = .next t ∧ Moves reissueMoves reissueParts u t ∧
      (x.issues < 3 → t.eg r.val =
        changeFirst (fun y => y.stat == .inPair k) (fun y => some { y with stat := .reissue k }) (u.eg r.val)) ∧
      (3 ≤ x.issues → t.eg r.val = changeFirst (fun y => y.stat == .inPair k) (fun _ => none) (u.eg r.val) ∧
        t.get SCT_TX.D_REISSUE x.sc = (u.get SCT_TX.D_REISSUE x.sc + 1) % 2 ^ 64 ∧ t.get SCT_TX.EV_REISSUE_LIMIT x.sc = 1) := by
  have h := ((u.calm_iff.mp hc).1 r.val r.isLt).1
  rw [State.reissue, hx]
  simp only
  split
  · rename_i h3
    let l := changeFirst (fun y : EgItem => y.stat == .inPair k) (fun y => some { y with stat := .reissue k }) (u.eg r.val)
    have hl : ∀ y ∈ l, y.stat ≠ .done := fun y hy => by
      obtain hy | ⟨z, -, -, e⟩ := mem_changeFirst hy
      · exact h y hy
      · rw [← Option.some.inj e]
        exact fun e => nomatch e
    refine ⟨_, finish_calm _ (State.calm_setEg hc hl), ?_, fun _ => (State.closed_eg _ _).trans (u.eg_setEg _ _),
      fun h => absurd h3 (Nat.not_lt.mpr h)⟩
    exact (Moves.refl.also (u.setEg_moves r.val l) rfl rfl).also (State.closed_moves _) rfl rfl
  · rename_i h3
    let l := changeFirst (fun y : EgItem => y.stat == .inPair k) (fun _ => none) (u.eg r.val)
    let v := u.setEg r.val l
    let w := ((v.count SCT_TX.D_REISSUE x.sc 1).txEvent true SCT_TX.EV_REISSUE_LIMIT x.sc)
    have hl : ∀ y ∈ l, y.stat ≠ .done := fun y hy => by
      obtain hy | ⟨z, -, -, e⟩ := mem_changeFirst hy
      · exact h y hy
      · exact nomatch e
    have mv : Moves reissueMoves reissueParts u v := Moves.refl.also (u.setEg_moves r.val l) rfl rfl
    have me := (v.count SCT_TX.D_REISSUE x.sc 1).txEvent_moves true SCT_TX.EV_REISSUE_LIMIT x.sc
    have md := w.egDrop_moves x 4
    have m : Moves reissueMoves [.ic, .out, .wraps, .cn] v (w.egDrop x 4) :=
      ((Moves.refl.also (v.count_moves SCT_TX.D_REISSUE _ 1) rfl rfl).also me rfl rfl).also md rfl rfl
    have heg : ∀ j, (w.egDrop x 4).eg j = v.eg j := fun j => eg_eq (m.parts .egress rfl) j
    have hrel : (w.egDrop x 4).relEg r.val = w.egDrop x 4 :=
      State.relEg_of_none (by rw [heg, u.eg_setEg]; exact hl)
    have hcalm : (w.egDrop x 4).calm = true := (m.calm rfl).trans (State.calm_setEg hc hl)
    have mc := (w.egDrop x 4).closed_moves
    refine ⟨_, (congrArg finish hrel).trans (finish_calm _ hcalm), (mv.also m rfl rfl).also mc rfl rfl,
      fun h => absurd h h3, fun _ => ⟨?_, ?_, ?_⟩⟩
    · rw [State.closed_eg, heg, u.eg_setEg]
    · exact (u.setEg_moves r.val l).counted ((((Moves.refl (fs := SCT_TX.EV_REISSUE_LIMIT :: CAR_TXCNT.C_DISCARD ::
        GLB_MODE.IN_TRANSITION :: smpMoves) (ps := reissueParts)).also me rfl rfl).also md rfl rfl).also mc rfl rfl) rfl rfl rfl
    · rw [mc.get rfl, md.get rfl, State.txEvent_set _ _ _ rfl (by decide)]

/-- A received frame of a faulted pair is issued again, or discarded after its third issue. -/
theorem reissue_ig_ends {x : InItem} (hx : (u.ig r.val).find? (fun x => x.stat == .inPair k) = some x) :
    ∃ t, finish (u.reissue r.val .ig k) = .next t ∧ Moves reissueMoves reissueParts u t ∧
      (x.issues < 3 → t.ig r.val =
        changeFirst (fun y => y.stat == .inPair k) (fun y => some { y with stat := .reissue k }) (u.ig r.val)) ∧
      (3 ≤ x.issues → t.ig r.val = changeFirst (fun y => y.stat == .inPair k) (fun _ => none) (u.ig r.val) ∧
        t.get SCT_RX.D_REISSUE x.sc = (u.get SCT_RX.D_REISSUE x.sc + 1) % 2 ^ 64 ∧ t.get SCT_RX.EV_REISSUE_LIMIT x.sc = 1) := by
  have h := ((u.calm_iff.mp hc).1 r.val r.isLt).2
  rw [State.reissue, hx]
  simp only
  split
  · rename_i h3
    let l := changeFirst (fun y : InItem => y.stat == .inPair k) (fun y => some { y with stat := .reissue k }) (u.ig r.val)
    have hl : ∀ y ∈ l, y.ready = false := fun y hy => by
      obtain hy | ⟨z, -, -, e⟩ := mem_changeFirst hy
      · exact h y hy
      · rw [← Option.some.inj e]
        rfl
    refine ⟨_, finish_calm _ (State.calm_setIg hc hl), ?_, fun _ => (State.closed_ig _ _).trans (u.ig_setIg _ _),
      fun h => absurd h3 (Nat.not_lt.mpr h)⟩
    exact (Moves.refl.also (u.setIg_moves r.val l) rfl rfl).also (State.closed_moves _) rfl rfl
  · rename_i h3
    let l := changeFirst (fun y : InItem => y.stat == .inPair k) (fun _ => none) (u.ig r.val)
    let v := u.setIg r.val l
    let w := ((v.count SCT_RX.D_REISSUE x.sc 1).rxEvent true SCT_RX.EV_REISSUE_LIMIT x.sc)
    let z := w.smpIn x.sampled (w.get SCT_RX.HPORT x.sc) x.lp x.sc (readTag x.data).an (x.data.length + 4) x.time x.steps x.mono
      x.pn 4 4
    have hl : ∀ y ∈ l, y.ready = false := fun y hy => by
      obtain hy | ⟨z, -, -, e⟩ := mem_changeFirst hy
      · exact h y hy
      · exact nomatch e
    have mv : Moves reissueMoves reissueParts u v := Moves.refl.also (u.setIg_moves r.val l) rfl rfl
    have me := (v.count SCT_RX.D_REISSUE x.sc 1).rxEvent_moves true SCT_RX.EV_REISSUE_LIMIT x.sc
    have md : Moves smpMoves [.ic, .out, .wraps, .cn] w z := w.smpIn_moves _ _ _ _ _ _ _ _ _ _ _ _
    have m : Moves reissueMoves [.ic, .out, .wraps, .cn] v z :=
      ((Moves.refl.also (v.count_moves SCT_RX.D_REISSUE _ 1) rfl rfl).also me rfl rfl).also md rfl rfl
    have hig : ∀ j, z.ig j = v.ig j := fun j => ig_eq (m.parts .ingress rfl) j
    have hrel : z.relIg r.val = z := State.relIg_of_none (by rw [hig, u.ig_setIg]; exact hl)
    have hcalm : z.calm = true := (m.calm rfl).trans (State.calm_setIg hc hl)
    have mc := z.closed_moves
    have hhp : w.get SCT_RX.HPORT x.sc = v.get SCT_RX.HPORT x.sc := by
      rw [me.get rfl, (v.count_moves SCT_RX.D_REISSUE x.sc 1).get rfl]
    refine ⟨_, (congrArg finish ?_).trans (finish_calm _ hcalm), (mv.also m rfl rfl).also mc rfl rfl,
      fun h => absurd h h3, fun _ => ⟨?_, ?_, ?_⟩⟩
    · refine Eq.trans ?_ hrel
      rw [show z = w.smpIn x.sampled (v.get SCT_RX.HPORT x.sc) x.lp x.sc (readTag x.data).an (x.data.length + 4) x.time x.steps
        x.mono x.pn 4 4 by rw [← hhp]]
    · rw [State.closed_ig, hig, u.ig_setIg]
    · exact (u.setIg_moves r.val l).counted ((((Moves.refl (fs := SCT_RX.EV_REISSUE_LIMIT :: GLB_MODE.IN_TRANSITION ::
        smpMoves) (ps := reissueParts)).also me rfl rfl).also md rfl rfl).also mc rfl rfl) rfl rfl rfl
    · rw [mc.get rfl, md.get rfl, State.rxEvent_set _ _ _ rfl (by decide)]

end

section
variable {s : State} {r : Region} {k : Fin 9} (c : PairCause) {i : Nat} (hc : s.calm = true)
include hc

theorem pairFault_eg_ends (hi : i = pairIdx r.val .eg k.val) (h1 : s.get RGN_PPE_STATUS.STATE i = 1) {x : EgItem}
    (hx : (s.eg r.val).find? (fun x => x.stat == .inPair k.val) = some x) :
    ∃ t, exec (.pairFault r .eg k c) s = .next t ∧ t.get RGN_PPE_STATUS.STATE i = 2 ∧
      t.get RGN_PPE_STATUS.LAST_CAUSE i = causeCode c ∧
      t.get RGN_PPE_MISMATCH.V i = (s.get RGN_PPE_MISMATCH.V i + 1) % 2 ^ 64 ∧
      (x.issues < 3 → t.eg r.val =
        changeFirst (fun y => y.stat == .inPair k.val) (fun y => some { y with stat := .reissue k.val }) (s.eg r.val)) ∧
      (3 ≤ x.issues → t.eg r.val = changeFirst (fun y => y.stat == .inPair k.val) (fun _ => none) (s.eg r.val) ∧
        t.get SCT_TX.D_REISSUE x.sc = (s.get SCT_TX.D_REISSUE x.sc + 1) % 2 ^ 64 ∧ t.get SCT_TX.EV_REISSUE_LIMIT x.sc = 1) := by
  obtain ⟨u, mu, hu, ha, hb, hv⟩ := State.pairFault_noted c hi h1
    (List.any_eq_true.mpr ⟨x, List.mem_of_find?_eq_some hx, List.find?_some (p := fun x : EgItem => x.stat == .inPair k.val) hx⟩)
  have he : u.eg r.val = s.eg r.val := eg_eq (mu.parts .egress rfl) _
  obtain ⟨t, ht, mt, hagain, hgone⟩ := reissue_eg_ends ((mu.calm rfl).trans hc) (he.symm ▸ hx)
  rw [he] at hagain hgone
  rw [mu.get (f := SCT_TX.D_REISSUE) rfl] at hgone
  refine ⟨t, by rw [exec_pairFault, hu, ht], ?_, ?_, ?_, hagain, hgone⟩
  · rw [mt.get rfl, ha]
  · rw [mt.get rfl, hb]
  · rw [mt.get rfl, hv]

theorem pairFault_ig_ends (hi : i = pairIdx r.val .ig k.val) (h1 : s.get RGN_PPE_STATUS.STATE i = 1) {x : InItem}
    (hx : (s.ig r.val).find? (fun x => x.stat == .inPair k.val) = some x) :
    ∃ t, exec (.pairFault r .ig k c) s = .next t ∧ t.get RGN_PPE_STATUS.STATE i = 2 ∧
      t.get RGN_PPE_STATUS.LAST_CAUSE i = causeCode c ∧
      t.get RGN_PPE_MISMATCH.V i = (s.get RGN_PPE_MISMATCH.V i + 1) % 2 ^ 64 ∧
      (x.issues < 3 → t.ig r.val =
        changeFirst (fun y => y.stat == .inPair k.val) (fun y => some { y with stat := .reissue k.val }) (s.ig r.val)) ∧
      (3 ≤ x.issues → t.ig r.val = changeFirst (fun y => y.stat == .inPair k.val) (fun _ => none) (s.ig r.val) ∧
        t.get SCT_RX.D_REISSUE x.sc = (s.get SCT_RX.D_REISSUE x.sc + 1) % 2 ^ 64 ∧ t.get SCT_RX.EV_REISSUE_LIMIT x.sc = 1) := by
  obtain ⟨u, mu, hu, ha, hb, hv⟩ := State.pairFault_noted c hi h1
    (List.any_eq_true.mpr ⟨x, List.mem_of_find?_eq_some hx, List.find?_some (p := fun x : InItem => x.stat == .inPair k.val) hx⟩)
  have he : u.ig r.val = s.ig r.val := ig_eq (mu.parts .ingress rfl) _
  obtain ⟨t, ht, mt, hagain, hgone⟩ := reissue_ig_ends ((mu.calm rfl).trans hc) (he.symm ▸ hx)
  rw [he] at hagain hgone
  rw [mu.get (f := SCT_RX.D_REISSUE) rfl] at hgone
  refine ⟨t, by rw [exec_pairFault, hu, ht], ?_, ?_, ?_, hagain, hgone⟩
  · rw [mt.get rfl, ha]
  · rw [mt.get rfl, hb]
  · rw [mt.get rfl, hv]

end

/-! Known-answer tests (R88). -/

theorem exec_pairKatComplete (r : Region) (d : Dir) (k : Fin 9) (pass : Bool) (s : State) :
    exec (.pairKatComplete r d k pass) s = finish (s.pairKat r.val d k.val pass) := rfl

theorem exec_spareKat (r : Region) (d : Dir) (pass : Bool) (s : State) :
    exec (.spareKat r d pass) s = finish (s.spareKat r.val d pass) := rfl

/-- A test that passes is noted among the pair's transients. -/
def State.katNoted (s : State) (i : Nat) : State :=
  let l := s.mono :: recent s (10 * sec) (Tab.get [] s.fr.pairTrans i)
  { s with fr.pairTrans := s.fr.pairTrans.set [] i l }.set RGN_PPE_STATUS.TRANS_10S i (min l.length 5)

theorem State.katNoted_moves (s : State) (i : Nat) : Moves [RGN_PPE_STATUS.TRANS_10S] [.pairTrans] s (s.katNoted i) := by
  have h : ∀ x, Moves [RGN_PPE_STATUS.TRANS_10S] [.pairTrans] s { s with fr.pairTrans := x } := fun x =>
    .of_parts rfl (by rintro ⟨⟩ ⟨⟩ <;> rfl) rfl rfl
  exact (h _).also (State.set_moves _ RGN_PPE_STATUS.TRANS_10S i _) rfl rfl

theorem State.katNoted_count (s : State) (i : Nat) : (s.katNoted i).get RGN_PPE_STATUS.TRANS_10S i =
    min ((recent s (10 * sec) (Tab.get [] s.fr.pairTrans i)).length + 1) 5 := by
  rw [State.katNoted, State.get_set_self, List.length_cons]
  refine Nat.mod_eq_of_lt (Nat.lt_of_le_of_lt (Nat.min_le_right _ _) (by decide))

/-- What the retirement of a pair may move. -/
abbrev pairRetireMoves : List Fld := RGN_PPE_STATUS.STATE :: GLB_REGION_STATUS.SPARE_E :: GLB_REGION_STATUS.SPARE_I ::
  GLB_DEGRADED_CAUSE.SLICE_REDUCED :: fenceMoves

/-- A retired pair is out of service, and a standby spare comes in for it. -/
theorem State.pairRetire_state {s : State} {r k i : Nat} {d : Dir} (hi : i = pairIdx r d k)
    (h2 : s.get RGN_PPE_STATUS.STATE i = 2) : Moves pairRetireMoves fenceParts s (s.pairRetire r d k) ∧
      (s.pairRetire r d k).get RGN_PPE_STATUS.STATE i = 3 ∧
      (s.get RGN_PPE_STATUS.STATE (pairIdx r d 8) = 0 → (s.pairRetire r d k).get RGN_PPE_STATUS.STATE (pairIdx r d 8) = 1) := by
  subst hi
  let u := s.setPair r d k 3
  let v := if k = 8 then u.setSpare r d false else u
  have mu : Moves pairRetireMoves fenceParts s u := Moves.refl.also (s.setPair_moves r d k 3) rfl rfl
  have muv : Moves [GLB_REGION_STATUS.SPARE_E, GLB_REGION_STATUS.SPARE_I] [] u v := .ite (u.setSpare_moves r d false) .refl
  have mv : Moves pairRetireMoves fenceParts s v := mu.also muv rfl rfl
  have hst : ∀ j, v.get RGN_PPE_STATUS.STATE j = if j = pairIdx r d k then 3 else s.get RGN_PPE_STATUS.STATE j := fun j => by
    rw [muv.get rfl, State.setPair_state s r d k (by decide)]
  have h3 : v.get RGN_PPE_STATUS.STATE (pairIdx r d k) = 3 := by rw [hst, if_pos rfl]
  unfold State.pairRetire
  by_cases h8 : v.get RGN_PPE_STATUS.STATE (pairIdx r d 8) = 0
  · have hne : pairIdx r d k ≠ pairIdx r d 8 := fun e => by rw [← e, h3] at h8; cases h8
    have mp := v.setPair_moves r d 8 1
    have ms := (v.setPair r d 8 1).setSpare_moves r d true
    have hs : ∀ j, ((v.setPair r d 8 1).setSpare r d true).get RGN_PPE_STATUS.STATE j =
        if j = pairIdx r d 8 then 1 else v.get RGN_PPE_STATUS.STATE j := fun j => by
      rw [ms.get rfl, State.setPair_state v r d 8 (by decide)]
    simp only
    rw [if_pos h8]
    exact ⟨(mv.also mp rfl rfl).also ms rfl rfl, by rw [hs, if_neg hne, h3], fun _ => by rw [hs, if_pos rfl]⟩
  · have hspare : s.get RGN_PPE_STATUS.STATE (pairIdx r d 8) ≠ 0 := fun h0 => by
      rw [hst] at h8
      split at h8
      · rename_i e
        rw [← e, h0] at h2
        cases h2
      · exact h8 h0
    simp only
    rw [if_neg h8]
    have m : Moves (GLB_DEGRADED_CAUSE.SLICE_REDUCED :: fenceMoves) fenceParts v (if v.working r d < 7 then v.fence r 1
        else if v.working r d = 7 then
          (if v.rgn r = 1 then v.setRgn r 2 else v).set GLB_DEGRADED_CAUSE.SLICE_REDUCED 0 1
        else v) := by
      have hr : Moves (GLB_DEGRADED_CAUSE.SLICE_REDUCED :: fenceMoves) fenceParts v (if v.rgn r = 1 then v.setRgn r 2 else v) :=
        .ite (Moves.refl.also (v.setRgn_moves r 2) rfl rfl) .refl
      exact .ite (Moves.refl.also (v.fence_moves r 1) rfl rfl)
        (.ite (hr.also (State.set_moves _ GLB_DEGRADED_CAUSE.SLICE_REDUCED 0 1) rfl rfl) .refl)
    exact ⟨mv.also m rfl rfl, by rw [m.get rfl, h3], fun h0 => absurd h0 hspare⟩

section
variable {s : State} {r : Region} {d : Dir} {k : Fin 9} {i n : Nat} (hc : s.calm = true) (hi : i = pairIdx r.val d k.val)
  (h2 : s.get RGN_PPE_STATUS.STATE i = 2) (hn : n = (recent s (10 * sec) (Tab.get [] s.fr.pairTrans i)).length)
include hc hi h2 hn

/-- A test that passes, not the fifth within 10 s, returns the pair. -/
theorem pairKatComplete_returns (h : n < 4) : ∃ t, exec (.pairKatComplete r d k true) s = .next t ∧
    t.get RGN_PPE_STATUS.STATE i = 1 ∧ t.get RGN_PPE_STATUS.TRANS_10S i = n + 1 := by
  have mu := s.katNoted_moves i
  have mp := (s.katNoted i).setPair_moves r.val d k.val 1
  have m : Moves [RGN_PPE_STATUS.TRANS_10S, RGN_PPE_STATUS.STATE, ICU_PORT.WAKE] [.pairTrans, .ic, .out] s
    ((s.katNoted i).setPair r.val d k.val 1) := (Moves.refl.also mu rfl rfl).also mp rfl rfl
  obtain ⟨t, ht, kt⟩ := m.ends hc rfl
  refine ⟨t, ?_, ?_, ?_⟩
  · rw [exec_pairKatComplete, ← ht]
    refine congrArg finish ?_
    rw [State.pairKat, ← hi, if_pos h2, if_pos rfl]
    exact if_pos (by rw [List.length_cons, ← hn]; omega)
  · rw [kt.get rfl, State.setPair_state _ _ _ _ (by decide), if_pos hi]
  · rw [kt.get rfl, mp.get rfl, State.katNoted_count, ← hn]
    omega

/-- A test that fails, or the fifth that passes within 10 s, retires the pair. -/
theorem pairKatComplete_retires {pass : Bool} (h : pass = false ∨ 4 ≤ n) :
    ∃ t, exec (.pairKatComplete r d k pass) s = .next t ∧ t.get RGN_PPE_STATUS.STATE i = 3 ∧
      (s.get RGN_PPE_STATUS.STATE (pairIdx r.val d 8) = 0 → t.get RGN_PPE_STATUS.STATE (pairIdx r.val d 8) = 1) := by
  obtain ⟨u, mu, hu⟩ : ∃ u, Moves [RGN_PPE_STATUS.TRANS_10S] [.pairTrans] s u ∧
      s.pairKat r.val d k.val pass = u.pairRetire r.val d k.val := by
    cases pass with
    | false => exact ⟨s, .refl, by rw [State.pairKat, ← hi, if_pos h2]; rfl⟩
    | true =>
      refine ⟨s.katNoted i, s.katNoted_moves i, ?_⟩
      rw [State.pairKat, ← hi, if_pos h2, if_pos rfl]
      refine if_neg ?_
      have h4 : 4 ≤ n := by simpa using h
      rw [List.length_cons, ← hn]
      omega
  have hst : ∀ j, u.get RGN_PPE_STATUS.STATE j = s.get RGN_PPE_STATUS.STATE j := fun j => mu.get rfl j
  obtain ⟨mr, h3, h8⟩ := State.pairRetire_state hi ((hst i).trans h2)
  obtain ⟨t, ht, kt⟩ := State.ends_moves (u.pairRetire r.val d k.val)
    ((mr.parts .alarms rfl).trans ((mu.parts .alarms rfl).trans (s.calm_iff.mp hc).2.2))
  refine ⟨t, by rw [exec_pairKatComplete, hu, ht], by rw [kt.get rfl, h3], fun h0 => ?_⟩
  rw [kt.get rfl, h8 ((hst _).trans h0)]

end

/-- A standby spare that fails its own test is out of service; one that passes stays. -/
theorem spareKat_ends {s : State} {r : Region} {d : Dir} (hc : s.calm = true)
    (h0 : s.get RGN_PPE_STATUS.STATE (pairIdx r.val d 8) = 0) :
    (∃ t, exec (.spareKat r d false) s = .next t ∧ t.get RGN_PPE_STATUS.STATE (pairIdx r.val d 8) = 3 ∧
      t.get RGN_PPE_STATUS.LAST_CAUSE (pairIdx r.val d 8) = 4) ∧
    (∃ t, exec (.spareKat r d true) s = .next t ∧ s.keepsBut t []) := by
  constructor
  · let u := s.set RGN_PPE_STATUS.LAST_CAUSE (pairIdx r.val d 8) 4
    have mp := u.setPair_moves r.val d 8 3
    have m : Moves [RGN_PPE_STATUS.LAST_CAUSE, RGN_PPE_STATUS.STATE, ICU_PORT.WAKE] [.ic, .out] s (u.setPair r.val d 8 3) :=
      (Moves.refl.also (s.set_moves RGN_PPE_STATUS.LAST_CAUSE _ 4) rfl rfl).also mp rfl rfl
    obtain ⟨t, ht, kt⟩ := m.ends hc rfl
    refine ⟨t, ?_, ?_, ?_⟩
    · rw [exec_spareKat, State.spareKat, if_pos ⟨h0, rfl⟩, ht]
    · rw [kt.get rfl, State.setPair_state _ _ _ _ (by decide), if_pos rfl]
    · rw [kt.get rfl, mp.get rfl, State.get_set_self]
      rfl
  · refine ⟨s.closed, ?_, (s.keepsBut_rfl []).closed⟩
    rw [exec_spareKat, State.spareKat, if_neg (by simp), finish_calm _ hc]

/-- Settles O40, by dispatch, completion, the pair's fault and its test, each on the lists of its region. -/
theorem slicePairs : Obligations.SlicePairs := by
  refine ⟨⟨?_, ?_, ?_⟩, ?_, ?_, ?_⟩
  · intro s r hc hf
    exact ⟨fun x l n k => dispatch_eg_reissues hc hf, fun x l n k => dispatch_ig_reissues hc hf,
      fun x k => dispatch_eg_next hc hf, fun x l m k => dispatch_ig_next hc hf⟩
  · intro s r k x l m hc he hl hx
    exact ⟨pairFrameComplete_eg_releases hc he hl hx, pairFrameComplete_eg_waits hc he hl hx⟩
  · intro s r k x l m hc hi hl hx
    exact ⟨pairFrameComplete_ig_verdict hc hi hl hx, pairFrameComplete_ig_waits hc hi hl hx⟩
  · intro s r d k c i hc hi h1
    exact ⟨fun x hd hx => by subst hd; exact pairFault_eg_ends c hc hi h1 hx,
      fun x hd hx => by subst hd; exact pairFault_ig_ends c hc hi h1 hx⟩
  · intro s r d k i n hc hi h2 hn
    exact ⟨pairKatComplete_returns hc hi h2 hn, fun pass => pairKatComplete_retires hc hi h2 hn⟩
  · intro s r d hc h0
    exact spareKat_ends hc h0

end Sys2Proof.Machine
end
/-! The dequeue decision of a line port: its control queues, its express queues, and step 6 (R22, R76, R247, R248). -/
section
namespace Sys2Proof.Machine

/-! What step 6 reads stands while a frame leaves its queue. -/

/-- Fields that the gate reads. -/
abbrev gateFields : List Fld := [SCT_TX.KEYING, SCT_TX.SCHED, SCT_TX.CUR, SAT_TX.STATE, GAU_SCH.VALID, TIM_STATUS.VALID,
  GAU_SCH.T0_SEC, GAU_SCH.P_SEC, GAU_SCH.W_US]

section
variable {fs : List Fld} {ps : List Part} {s t : State}

theorem Moves.autGate (m : Moves fs ps s t) (hf : gateFields.all (fun f => !listed fs f.id) = true)
    (hp : [Part.lc, .now].all (fun p => !ps.contains p) = true) (he : t.au.saEpoch = s.au.saEpoch) (c : Nat) :
    t.autGate c t.now = s.autGate c s.now := by
  have g : ∀ f ∈ gateFields, ∀ i, t.get f i = s.get f i := fun f h i =>
    m.get (by simpa using List.all_eq_true.mp hf f h) i
  simp only [gateFields, List.mem_cons, List.not_mem_nil, or_false, forall_eq_or_imp, forall_eq] at g
  obtain ⟨g1, g2, g3, g4, g5, g6, g7, g8, g9⟩ := g
  simp only [List.all_cons, List.all_nil, Bool.and_true, Bool.and_eq_true, Bool.not_eq_true'] at hp
  have hlc : t.lc = s.lc := m.parts .lc hp.1
  have hnow : t.now = s.now := m.parts .now hp.2
  simp only [State.autGate, State.curSa, State.schRuns, State.resumePermits, State.txWindow, State.epochStart, State.schT0,
    State.schP, State.schW, State.on, g1, g2, g3, g4, g5, g6, g7, g8, g9, hlc, hnow, he]
  rfl

theorem Moves.lineLenOf (m : Moves fs ps s t) (f : Frame) (h : listed fs SCT_TX.SC_BIT.id = false) :
    t.lineLenOf f = s.lineLenOf f := by
  simp only [State.lineLenOf, m.on h]

theorem Moves.protOf (m : Moves fs ps s t) (c a : Nat)
    (h : [SCT_TX.SUITE, SCT_TX.CONF, SCT_TX.OFFSET, SCT_TX.SC_BIT, SCT_TX.ES, SCT_TX.SCI, SAT_TX.SSCI, SAT_TX.SALT].all
      (fun f => !listed fs f.id) = true) : t.protOf c a = s.protOf c a := by
  have g : ∀ f ∈ [SCT_TX.SUITE, SCT_TX.CONF, SCT_TX.OFFSET, SCT_TX.SC_BIT, SCT_TX.ES, SCT_TX.SCI, SAT_TX.SSCI, SAT_TX.SALT],
      ∀ i, t.get f i = s.get f i := fun f hf i => m.get (by simpa using List.all_eq_true.mp h f hf) i
  simp only [List.mem_cons, List.not_mem_nil, or_false, forall_eq_or_imp, forall_eq] at g
  obtain ⟨g1, g2, g3, g4, g5, g6, g7, g8⟩ := g
  simp only [State.protOf, State.on, g1, g2, g3, g4, g5, g6, g7, g8]

theorem Moves.limited (m : Moves fs ps s t) (c : Nat)
    (h : [SCT_TX.LIMIT_EN, SCT_TX.LIMIT_UNIT, SCT_TX.LIMIT].all (fun f => !listed fs f.id) = true) :
    t.limited c = s.limited c := by
  simp only [List.all_cons, List.all_nil, Bool.and_true, Bool.and_eq_true, Bool.not_eq_true'] at h
  obtain ⟨h1, h2, h3⟩ := h
  simp only [State.limited, m.on h1, m.get h2, m.get h3]

end

/-! Step 6 of a frame with an SA (R76). -/

/-- Fields that an assignment moves, the next PN apart. -/
abbrev exhaustMoves : List Fld := [SAT_TX.STATE, SAT_TX.EXH_CAUSE, SCT_TX.EV_EXHAUST, SCT_TX.CUR, SCT_TX.SWITCHES,
  SCT_TX.EV_SWITCH, GLB_TX_RESUME.V, ICU_PORT.WAKE]
abbrev assignMoves : List Fld := SAT_TX.NEXT_PN :: SAT_TX.USED :: SAT_TX.PKTS :: SAT_TX.THRESH_HIT :: SCT_TX.EV_THRESH :: exhaustMoves
abbrev countParts : List Part := [.ic, .out, .wraps]

section
variable (s : State)

theorem State.autFirst_moves (c : Nat) : Moves [GLB_TX_RESUME.V] [] s (s.autFirst c) := by
  unfold State.autFirst State.resumeWrite
  exact .ite (.ite .refl (s.set_moves GLB_TX_RESUME.V 0 _)) .refl

theorem State.switchSlot_moves (c : Nat) : Moves exhaustMoves countParts s (s.switchSlot c) := by
  have h1 : Moves exhaustMoves countParts s (if s.get SAT_TX.STATE (s.curSa c) = saACTIVE ∨ s.get SAT_TX.STATE (s.curSa c) = saEXHAUSTED
      then s.set SAT_TX.STATE (s.curSa c) saRETIRED else s) := .ite (Moves.refl.also (s.set_moves SAT_TX.STATE _ _) rfl rfl) .refl
  exact ((((h1.also (State.set_moves _ SAT_TX.STATE _ _) rfl rfl).also (State.set_moves _ SCT_TX.CUR c _) rfl rfl).also
    (State.count_moves _ SCT_TX.SWITCHES c 1) rfl rfl).also (State.txEvent_moves _ _ SCT_TX.EV_SWITCH c) rfl rfl).also
    (State.autFirst_moves _ c) rfl rfl

theorem State.exhaust_moves (c cause : Nat) : Moves exhaustMoves countParts s (s.exhaust c cause) := by
  have h := ((Moves.refl (fs := exhaustMoves) (ps := countParts)).also (s.set_moves SAT_TX.STATE (s.curSa c) saEXHAUSTED) rfl
    rfl |>.also (State.set_moves _ SAT_TX.EXH_CAUSE (s.curSa c) cause) rfl rfl).also
    (State.txEvent_moves _ true SCT_TX.EV_EXHAUST c) rfl rfl
  exact .ite (h.trans (State.switchSlot_moves _ c)) h

theorem pnCeiling_lt (suite : Nat) : pnCeiling suite < 2 ^ 64 := by
  unfold pnCeiling
  split <;> decide

/-- An ACTIVE SA below its ceiling and within its limit gives its next PN. -/
theorem State.assign_active {c len a : Nat} (hv : s.on SCT_TX.VALID c = true) (ha : a = s.curSa c)
    (hst : s.get SAT_TX.STATE a = saACTIVE)
    (hlim : s.limited c = true → s.get SAT_TX.USED a + (if s.on SCT_TX.LIMIT_UNIT c then len else 1) ≤ s.get SCT_TX.LIMIT c)
    (hpn : s.get SAT_TX.NEXT_PN a < pnCeiling (s.get SCT_TX.SUITE c)) :
    ∃ u, s.assign c len = (.ok a (s.get SAT_TX.NEXT_PN a) (s.get SAT_TX.AN a), u) ∧ Moves assignMoves countParts s u ∧
      u.get SAT_TX.NEXT_PN a = s.get SAT_TX.NEXT_PN a + 1 := by
  subst ha
  generalize hcost : (if s.on SCT_TX.LIMIT_UNIT c then len else 1) = cost at hlim
  generalize hA : s.curSa c = a at *
  let u1 := (s.count SAT_TX.USED a cost).count SAT_TX.PKTS a 1
  let u2 := if u1.get SCT_TX.PN_THRESH c ≤ s.get SAT_TX.NEXT_PN a ∧ u1.on SAT_TX.THRESH_HIT a = false then
    (u1.set SAT_TX.THRESH_HIT a 1).txEvent false SCT_TX.EV_THRESH c else u1
  let u3 := u2.set SAT_TX.NEXT_PN a (s.get SAT_TX.NEXT_PN a + 1)
  let u4 := if u3.limited c = true ∧ u3.on SCT_TX.LIMIT_UNIT c = false ∧ u3.get SAT_TX.USED a = u3.get SCT_TX.LIMIT c then
    u3.exhaust c 2 else u3
  have m1 : Moves assignMoves countParts s u1 :=
    (Moves.refl.also (s.count_moves SAT_TX.USED a cost) rfl rfl).also (State.count_moves _ SAT_TX.PKTS a 1) rfl rfl
  have k2 : Moves [SAT_TX.THRESH_HIT, SCT_TX.EV_THRESH, ICU_PORT.WAKE] countParts u1 u2 :=
    .ite ((Moves.refl.also (u1.set_moves SAT_TX.THRESH_HIT a 1) rfl rfl).also (State.txEvent_moves _ false SCT_TX.EV_THRESH c)
      rfl rfl) .refl
  have m2 : Moves assignMoves countParts s u2 := m1.also k2 rfl rfl
  have m3 : Moves assignMoves countParts s u3 := m2.also (u2.set_moves SAT_TX.NEXT_PN a _) rfl rfl
  have k4 : Moves exhaustMoves countParts u3 u4 := .ite (u3.exhaust_moves c 2) .refl
  refine ⟨u4, ?_, m3.also k4 rfl rfl, ?_⟩
  · have h1 : ¬(s.get SAT_TX.STATE a = saACTIVE ∧ s.limited c = true ∧ s.get SCT_TX.LIMIT c < s.get SAT_TX.USED a + cost) :=
      fun ⟨_, hl, hlt⟩ => Nat.not_lt.mpr (hlim hl) hlt
    have hc : ¬s.get SAT_TX.NEXT_PN a = pnCeiling (u2.get SCT_TX.SUITE c) := by
      rw [m2.get (f := SCT_TX.SUITE) rfl]
      exact Nat.ne_of_lt hpn
    unfold State.assign
    simp only [hA, hcost]
    rw [if_neg (by simp [hv]), if_neg h1]
    simp only [hA, hst]
    rw [if_neg (by decide), if_neg (by decide), if_neg (by decide)]
    exact congrArg (Prod.mk _) (by rw [if_neg hc])
  · have h3 : u3.get SAT_TX.NEXT_PN a = s.get SAT_TX.NEXT_PN a + 1 := by
      rw [State.get_set_self]
      exact Nat.mod_eq_of_lt (Nat.lt_of_le_of_lt hpn (pnCeiling_lt _))
    rw [k4.get rfl, h3]

/-- A frame that passes the gate ends its channel's hold (R239). -/
def State.unhold (s : State) (c : Nat) : State :=
  if Tab.get 0 s.au.keyHold c = 0 then s else { s with au.keyHold := s.au.keyHold.set 0 c 0 }.setHeld c 0

theorem State.setHeld_moves (c v : Nat) : Moves [QUE_DQ.HELD] [] s (s.setHeld c v) :=
  (Moves.refl.also (s.set_moves QUE_DQ.HELD _ v) rfl rfl).also (State.set_moves _ QUE_DQ.HELD _ v) rfl rfl

theorem State.unhold_moves (c : Nat) : Moves [QUE_DQ.HELD] [.au] s (s.unhold c) :=
  .ite .refl ((Moves.refl.also (s.au_moves _) rfl rfl).also (State.setHeld_moves _ c 0) rfl rfl)

theorem State.unhold_saEpoch (c : Nat) : (s.unhold c).au.saEpoch = s.au.saEpoch := by
  unfold State.unhold
  split
  · rfl
  · rw [(State.setHeld_moves _ c 0).parts .au rfl]

theorem State.gateAssign_pass {c : Nat} (len : Nat) (h : s.autGate c s.now = .pass) :
    s.gateAssign c len = (s.unhold c).assign c len := by
  rw [State.gateAssign, h]
  rfl

theorem State.gateHold_pass {c : Nat} (h : s.autGate c s.now = .pass) : s.gateHold c = (true, s.unhold c) := by
  rw [State.gateHold, h]
  rfl

/-- A channel whose current SA can protect a frame f (R76, R238). -/
structure State.CanProtect (s : State) (f : Frame) (c a : Nat) : Prop where
  sc : f.sc = some c
  cur : a = s.curSa c
  unstepped : s.stepped f = false
  want : f.ptp = false → f.launch.isSome = true → f.want ≤ f.time + ms
  gate : s.autGate c s.now = .pass
  valid : s.on SCT_TX.VALID c = true
  active : s.get SAT_TX.STATE a = saACTIVE
  limit : s.limited c = true →
    s.get SAT_TX.USED a + (if s.on SCT_TX.LIMIT_UNIT c then s.lineLenOf f else 1) ≤ s.get SCT_TX.LIMIT c
  pn : s.get SAT_TX.NEXT_PN a < pnCeiling (s.get SCT_TX.SUITE c)

/-- The item that step 6 makes of frame g of channel c under SA a. -/
def State.eg6 (s : State) (g : Frame) (c a : Nat) : EgItem :=
  ⟨g, c, a, s.get SAT_TX.NEXT_PN a, s.get SAT_TX.AN a, [], s.protOf c a, [], 0, .wait, false, none⟩

variable {s}

/-- A frame of such a channel takes the SA's next PN and joins the slice group. -/
theorem State.step6_protects {g : Frame} {c a : Nat} (h : s.CanProtect g c a) :
    ∃ u, Moves (QUE_DQ.HELD :: assignMoves) (.au :: countParts) s u ∧
      s.step6 g = u.setEg (regionOfLp g.lp) (s.eg (regionOfLp g.lp) ++ [s.eg6 g c a]) ∧
      u.get SAT_TX.NEXT_PN a = s.get SAT_TX.NEXT_PN a + 1 := by
  have mu := s.unhold_moves c
  obtain ⟨u, hu, ma, hn⟩ := (s.unhold c).assign_active (c := c) (len := s.lineLenOf g) (a := a)
    ((mu.on rfl c).trans h.valid) (h.cur.trans (by rw [State.curSa, State.curSa, mu.get rfl])) ((mu.get rfl a).trans h.active)
    (by
      rw [mu.limited c rfl, mu.get (f := SAT_TX.USED) rfl, mu.on rfl, mu.get (f := SCT_TX.LIMIT) rfl]
      exact h.limit)
    (by
      rw [mu.get (f := SAT_TX.NEXT_PN) rfl, mu.get (f := SCT_TX.SUITE) rfl]
      exact h.pn)
  rw [mu.get (f := SAT_TX.NEXT_PN) rfl, mu.get (f := SAT_TX.AN) rfl] at hu
  have m : Moves (QUE_DQ.HELD :: assignMoves) (.au :: countParts) s u := (mu.mono rfl rfl).also ma rfl rfl
  refine ⟨u, m, ?_, by rw [hn, mu.get rfl]⟩
  have h2 : ¬(g.ptp = false ∧ g.launch.isSome = true ∧ g.time + ms < g.want) := fun ⟨a, b, w⟩ =>
    Nat.not_lt.mpr (h.want a b) w
  unfold State.step6
  rw [if_neg (by simp [h.unstepped]), if_neg h2, h.sc]
  simp only
  rw [s.gateAssign_pass _ h.gate, hu]
  simp only
  rw [m.protOf c a rfl, eg_eq (m.parts .egress rfl)]
  rfl

/-- A clear-text frame whose launch time, if it has one, leaves 600 ns goes to its line port. -/
theorem State.step6_clear (s : State) {g : Frame} (hs : g.sc = none) (hp : g.ptp = false)
    (hw : g.launch.isSome = true → g.want ≤ g.time + ms) (hl : g.launch.all (fun tl => s.now + 600 * ns ≤ tl) = true) :
    s.step6 g = s.setLineQ g.lp (s.lineQ g.lp ++ [⟨g.data, g, 0, 0, false, false, none⟩]) := by
  have h2 : ¬(g.ptp = false ∧ g.launch.isSome = true ∧ g.time + ms < g.want) := fun ⟨_, b, w⟩ => Nat.not_lt.mpr (hw b) w
  unfold State.step6
  rw [if_neg (by simp [State.stepped, hp]), if_neg h2, hs]
  simp only
  rw [s.launchFix_early 0 0 hp hl]

end

/-! A frame leaves its queue (R248, R258). -/

/-- Fields and parts that a frame that leaves its queue moves. -/
abbrev headMoves : List Fld := [QUE_DQ.HELD, QUE_DQ.MAX_DEPTH, QUE_DQ.DEPTH, QUE_DQ.FRAMES, QUE_DCNT.DEQUEUED, ICU_PORT.WAKE]
abbrev headParts : List Part := .au :: .levels :: .taken :: .queues :: .drr :: countParts

section
variable (s : State)

theorem State.shpCharge_moves (i n : Nat) : Moves [] [.levels] s (s.shpCharge i n) := s.levels_moves _

theorem State.leaving_moves (q : Nat) (f : Frame) : Moves [] [.taken] s (s.leaving q f).2 := s.taken_moves _

theorem State.popHead_pops {q : Nat} {f : Frame} {rest : List Frame} (h : (s.queue q).cells = f :: rest) :
    Moves [QUE_DQ.MAX_DEPTH, QUE_DQ.DEPTH, QUE_DQ.FRAMES] [.queues] s (s.popHead q) ∧
      (s.popHead q).queue q = { s.queue q with cells := rest } := by
  let u := s.setQueue q { s.queue q with cells := rest }
  have mu : Moves [QUE_DQ.MAX_DEPTH, QUE_DQ.DEPTH, QUE_DQ.FRAMES] [.queues] s u := Moves.refl.also (s.setQueue_moves q _) rfl rfl
  let v := u.setDepth q (s.get QUE_DQ.DEPTH q - f.cells)
  have mv : Moves [QUE_DQ.MAX_DEPTH, QUE_DQ.DEPTH] [] u v := u.setDepth_moves q _
  have mt : Moves [QUE_DQ.MAX_DEPTH, QUE_DQ.DEPTH, QUE_DQ.FRAMES] [] u (v.set QUE_DQ.FRAMES q (v.get QUE_DQ.FRAMES q - 1)) :=
    (Moves.refl.also mv rfl rfl).also (v.set_moves QUE_DQ.FRAMES q _) rfl rfl
  have e : s.popHead q = v.set QUE_DQ.FRAMES q (v.get QUE_DQ.FRAMES q - 1) := by
    unfold State.popHead
    simp only
    rw [h]
  rw [e]
  exact ⟨mu.also mt rfl rfl, (queue_eq (mt.parts .queues rfl) q).trans (s.queue_setQueue q _)⟩

/-- A frame has left its queue and is counted. -/
theorem State.popCounted {q : Nat} {f : Frame} {rest : List Frame} (h : (s.queue q).cells = f :: rest) :
    Moves headMoves (.queues :: countParts) s ((s.popHead q).count QUE_DCNT.DEQUEUED q 1) ∧
      ((s.popHead q).count QUE_DCNT.DEQUEUED q 1).queue q = { s.queue q with cells := rest } ∧
      ((s.popHead q).count QUE_DCNT.DEQUEUED q 1).get QUE_DCNT.DEQUEUED q = (s.get QUE_DCNT.DEQUEUED q + 1) % 2 ^ 64 := by
  obtain ⟨mp, hq⟩ := s.popHead_pops h
  have mc := (s.popHead q).count_moves QUE_DCNT.DEQUEUED q 1
  refine ⟨(mp.mono rfl rfl).also mc rfl rfl, (queue_eq (mc.parts .queues rfl) q).trans hq, ?_⟩
  rw [State.count_get_self _ rfl, mp.get rfl]
  rfl

end

/-- Frames that have left their queue find step 6 as it was. -/
theorem State.CanProtect.after {s v : State} {f : Frame} {c a : Nat} (h : s.CanProtect f c a) (m : Moves headMoves headParts s v)
    (he : v.au.saEpoch = s.au.saEpoch) {g : Frame} (hg : ∃ lp ord, g = { f with lp := lp, ord := ord }) : v.CanProtect g c a := by
  obtain ⟨lp, ord, rfl⟩ := hg
  have hl : v.lineLenOf { f with lp := lp, ord := ord } = s.lineLenOf f := m.lineLenOf f rfl
  refine ⟨h.sc, h.cur.trans ?_, ?_, h.want, (m.autGate rfl rfl he c).trans h.gate, (m.on rfl c).trans h.valid,
    (m.get rfl a).trans h.active, ?_, ?_⟩
  · rw [State.curSa, State.curSa, m.get rfl]
  · refine Eq.trans ?_ h.unstepped
    simp only [State.stepped, State.steps, m.get (f := TIM_STATUS.STEPS) rfl]
  · rw [m.limited c rfl, m.get (f := SAT_TX.USED) rfl, m.on rfl, m.get (f := SCT_TX.LIMIT) rfl, hl]
    exact h.limit
  · rw [m.get (f := SAT_TX.NEXT_PN) rfl, m.get (f := SCT_TX.SUITE) rfl]
    exact h.pn

/-- What stands of a dequeue decision from step 6 on. -/
abbrev afterMoves : List Fld := QUE_DQ.HELD :: GLB_MODE.IN_TRANSITION :: assignMoves ++ pfcMoves
abbrev afterParts : List Part := .egress :: .lineOut :: .au :: .cl :: .md :: countParts ++ pfcParts

section
variable {s v : State} (hc : s.calm = true) (m : Moves headMoves headParts s v)
include hc m

/-- A frame that has left its queue for a channel that can protect it joins the slice group. -/
theorem dequeued_protects {f g : Frame} {c a p : Nat} (h : s.CanProtect f c a) (hp : p < 16)
    (he : v.au.saEpoch = s.au.saEpoch) (hg : g = { f with lp := p, ord := s.fr.taken }) :
    ∃ t, finish (v.step6 g).pfc = .next t ∧ Moves afterMoves afterParts v t ∧
      t.get SAT_TX.NEXT_PN a = s.get SAT_TX.NEXT_PN a + 1 ∧
      t.eg (regionOfLp p) = s.eg (regionOfLp p) ++ [s.eg6 g c a] := by
  obtain ⟨u, mu, hu, hn⟩ := State.step6_protects (h.after m he (g := g) ⟨_, _, hg⟩)
  have hlp : g.lp = p := by rw [hg]
  rw [hlp] at hu
  have hitem : v.eg6 g c a = s.eg6 g c a := by
    simp only [State.eg6, m.get (f := SAT_TX.NEXT_PN) rfl, m.get (f := SAT_TX.AN) rfl, m.protOf c a rfl]
  rw [hitem, eg_eq (m.parts .egress rfl)] at hu
  let w := u.setEg (regionOfLp p) (s.eg (regionOfLp p) ++ [s.eg6 g c a])
  have mw : Moves [] [.egress] u w := u.setEg_moves _ _
  have mp := w.pfc_moves
  have hcalm : w.pfc.calm = true := by
    refine (mp.calm rfl).trans (State.calm_of_eg hc (r := regionOfLp p) (fun k hk => ?_) ?_ ?_ ?_ ?_)
    · exact (u.eg_setEg_ne hk _).trans ((eg_eq (mu.parts .egress rfl) k).trans (eg_eq (m.parts .egress rfl) k))
    · rw [u.eg_setEg]
      intro x hx
      obtain hx | hx := List.mem_append.mp hx
      · exact ((s.calm_iff.mp hc).1 (regionOfLp p) (Nat.div_lt_of_lt_mul hp)).1 x hx
      · rw [List.mem_singleton.mp hx]
        exact fun e => nomatch e
    · exact (mw.parts .ingress rfl).trans ((mu.parts .ingress rfl).trans (m.parts .ingress rfl))
    · exact (mw.parts .carTx rfl).trans ((mu.parts .carTx rfl).trans (m.parts .carTx rfl))
    · exact (mw.parts .alarms rfl).trans ((mu.parts .alarms rfl).trans (m.parts .alarms rfl))
  have mc := w.pfc.closed_moves
  refine ⟨_, (congrArg (fun x => finish (State.pfc x)) hu).trans (finish_calm _ hcalm),
    (((mu.mono rfl rfl).also mw rfl rfl).also mp rfl rfl).also mc rfl rfl, ?_, ?_⟩
  · rw [mc.get rfl, mp.get rfl, mw.get rfl, hn, m.get rfl]
  · rw [State.closed_eg, eg_eq (mp.parts .egress rfl), u.eg_setEg]

/-- A clear-text frame that has left its queue goes to its line port. -/
theorem dequeued_clear {g : Frame} (hs : g.sc = none) (hp : g.ptp = false) (hw : g.launch.isSome = true → g.want ≤ g.time + ms)
    (hl : g.launch.all (fun tl => s.now + 600 * ns ≤ tl) = true) :
    ∃ t, finish (v.step6 g).pfc = .next t ∧ Moves afterMoves afterParts v t ∧
      t.lineQ g.lp = s.lineQ g.lp ++ [⟨g.data, g, 0, 0, false, false, none⟩] := by
  let w := v.setLineQ g.lp (v.lineQ g.lp ++ [⟨g.data, g, 0, 0, false, false, none⟩])
  have mw : Moves [] [.lineOut] v w := v.setLineQ_moves _ _
  have mp := w.pfc_moves
  have mwp : Moves afterMoves (.lineOut :: countParts ++ pfcParts) v w.pfc := (mw.mono rfl rfl).also mp rfl rfl
  obtain ⟨t, ht, kt⟩ := mwp.ends ((m.calm rfl).trans hc) rfl
  refine ⟨t, by rw [v.step6_clear hs hp hw (by rw [m.parts .now rfl]; exact hl), ht], (mwp.mono rfl rfl).also kt rfl rfl, ?_⟩
  have e : ∀ {a b : State}, b.fr.lineOut = a.fr.lineOut → b.lineQ g.lp = a.lineQ g.lp := fun h =>
    congrArg (fun l => Tab.get [] l g.lp) h
  rw [e (kt.parts .lineOut rfl), e (mp.parts .lineOut rfl)]
  exact (Tab.get_set_self _ _ _ _).trans (by rw [e (m.parts .lineOut rfl)])

end

/-! The queues in turn (R247, R248). -/

/-- A queue whose head is not aged sheds nothing. -/
theorem State.shedAll_fresh {s : State} {q : Nat} (h : (s.queue q).cells.head?.any (s.aged q) = false)
    (hq : 8192 ≤ q ∨ (s.queue q).cells ≠ []) : s.shedAll q = s := by
  have hs : s.shed q (s.queue q).cells.length = s := by
    cases hx : (s.queue q).cells with
    | nil => rfl
    | cons f rest =>
      have ha : s.aged q f = false := by simpa [hx] using h
      rw [List.length_cons, State.shed, hx]
      simp [ha]
  rw [State.shedAll, hs, State.checkEmpty, if_neg]
  rintro ⟨hlt, he⟩
  obtain hge | hne := hq
  · omega
  · exact hne (List.append_eq_nil_iff.mp he).1

theorem State.ctrlGo_append {s : State} {k : Nat} {l : List Nat} (m : List Nat)
    (hl : ∀ q ∈ l, 8192 ≤ q ∧ s.ctrlEligible k q = false ∧ (s.queue q).cells.head?.any (s.aged q) = false) :
    State.ctrlGo k (l ++ m) s = State.ctrlGo k m s := by
  induction l with
  | nil => rfl
  | cons q l ih =>
    obtain ⟨hq, he, ha⟩ := hl q (by simp)
    rw [List.cons_append, State.ctrlGo, State.shedAll_fresh ha (.inl hq), if_neg (by simp [he]),
      ih (fun p hp => hl p (by simp [hp]))]

/-- A control queue's head that is taken leaves its queue for step 6. -/
theorem State.ctrlTake_takes {s : State} {k q : Nat} {f : Frame} {rest : List Frame} (h : (s.queue q).cells = f :: rest) :
    ∃ v, Moves headMoves headParts s v ∧ v.au.saEpoch = s.au.saEpoch ∧
      s.ctrlTake k q = v.step6 { f with lp := s.queuePort q, ord := s.fr.taken } ∧ (v.queue q).cells = rest ∧
      v.get QUE_DCNT.DEQUEUED q = (s.get QUE_DCNT.DEQUEUED q + 1) % 2 ^ 64 := by
  let n := s.lineLenOf f + s.get QUE_SHP.LEN_ADJ (8192 + k)
  let u := ((s.shpCharge (8192 + k) n).leaving q f).2
  have mu : Moves [] [.levels, .taken] s u :=
    (Moves.refl.also (s.shpCharge_moves _ _) rfl rfl).also (State.leaving_moves _ q f) rfl rfl
  have hu : (u.queue q).cells = f :: rest := (congrArg Queue.cells (queue_eq (mu.parts .queues rfl) q)).trans h
  obtain ⟨mv, hq, hd⟩ := u.popCounted hu
  refine ⟨_, (mu.mono rfl rfl).also mv rfl rfl, congrArg AutS.saEpoch ((mv.parts .au rfl).trans (mu.parts .au rfl)), ?_, ?_, ?_⟩
  · unfold State.ctrlTake
    rw [h]
    rfl
  · rw [hq]
  · rw [hd, mu.get rfl]

/-- The first queue of an active list whose turn covers its head's charge sends that head. -/
theorem State.drrGo_first {s : State} {k q n m : Nat} {f : Frame} {l : List Nat} {rest : List Frame} {b : Bool}
    (hd : Tab.get Drr.none s.pl.drr k = ⟨q :: l, b⟩) (hx : (s.queue q).cells = f :: rest) (ha : s.aged q f = false)
    (he : s.elsewhere (q / 2) (s.queuePort q) = false) (hg : s.autGate (q / 2) s.now = .pass) (ho : s.shpOk q = true)
    (hm : m = (s.queue q).deficit + (if b then 0 else s.get QUE_DQ.QUANTUM q)) (hch : s.charge f ≤ m) :
    ∃ v, Moves [QUE_DQ.HELD] [.au, .queues, .drr] s v ∧ v.au.saEpoch = s.au.saEpoch ∧
      State.drrGo k false (n + 1) 0 s = (some q, v) ∧ v.queue q = { s.queue q with deficit := m } := by
  let u := s.unhold (q / 2)
  have mu : Moves [QUE_DQ.HELD] [.au, .queues, .drr] s u := Moves.refl.also (s.unhold_moves _) rfl rfl
  have hok : u.shpOk q = true := by
    refine Eq.trans ?_ ho
    have hlev : u.pl.levels = s.pl.levels := (s.unhold_moves (q / 2)).parts .levels rfl
    have hmono : u.mono = s.mono := (s.unhold_moves (q / 2)).parts .mono rfl
    have hl : u.level q = s.level q := by
      simp only [State.level, hlev, hmono, mu.get (f := QUE_SHP.BURST) rfl, mu.get (f := QUE_SHP.RATE) rfl]
    rw [State.shpOk, State.shpOk, hl, mu.on rfl]
  have hq : u.queue q = s.queue q := queue_eq ((s.unhold_moves (q / 2)).parts .queues rfl) q
  have hcharge : ∀ w : State, Moves [QUE_DQ.HELD] [.au, .queues, .drr] s w → w.drrCharge false f = s.charge f := fun w mw =>
    congrArg (· + 20) (mw.lineLenOf f rfl)
  have hgo : State.drrGo k false (n + 1) 0 s =
      (let s := if b then u else (u.setQueue q { u.queue q with deficit := (u.queue q).deficit + u.get QUE_DQ.QUANTUM q }).setDrr k
          ⟨q :: l, true⟩
        if s.drrCharge false f ≤ (s.queue q).deficit then (some q, s)
        else State.drrGo k false n 0 (s.setDrr k { list := l ++ [q], started := false })) := by
    rw [State.drrGo, hd]
    simp only
    rw [State.shedAll_fresh (by simp [hx, ha]) (.inr (by simp [hx])), hd]
    simp only [List.head?_cons, ne_eq, not_true_eq_false, if_false, List.length_cons]
    rw [if_neg (by omega)]
    simp only [hx, Bool.false_eq_true, if_false, he, s.gateHold_pass hg]
    rw [if_neg (by simp [u, hok])]
    rfl
  rw [hgo]
  cases b with
  | true =>
    have hdef : m = (s.queue q).deficit := hm
    refine ⟨u, mu, s.unhold_saEpoch _, ?_, by rw [hq, hdef]⟩
    simp only [if_true]
    exact if_pos (by rw [hcharge u mu, hq, ← hdef]; exact hch)
  | false =>
    let w := (u.setQueue q { u.queue q with deficit := (u.queue q).deficit + u.get QUE_DQ.QUANTUM q }).setDrr k ⟨q :: l, true⟩
    have kw : Moves [] [.queues, .drr] u w := (Moves.refl.also (u.setQueue_moves q _) rfl rfl).also (State.drr_moves _ _) rfl rfl
    have mw : Moves [QUE_DQ.HELD] [.au, .queues, .drr] s w := mu.also kw rfl rfl
    have hwq : w.queue q = { s.queue q with deficit := m } := by
      refine (u.queue_setQueue q _).trans ?_
      rw [hq, mu.get rfl, hm]
      rfl
    refine ⟨w, mw, (congrArg AutS.saEpoch (kw.parts .au rfl)).trans (s.unhold_saEpoch _), ?_, hwq⟩
    simp only [Bool.false_eq_true, if_false]
    exact if_pos (by rw [hcharge w mw, hwq]; exact hch)

/-- The head that a tier sends leaves its queue, which leaves the list with deficit 0 if it empties. -/
theorem State.drrTake_takes {s : State} {q : Nat} {f : Frame} {rest : List Frame} (hq : q < 8192)
    (hx : (s.queue q).cells = f :: rest) (hdeep : (s.queue q).deep = []) :
    ∃ v, Moves headMoves headParts s v ∧ v.au.saEpoch = s.au.saEpoch ∧
      s.drrTake q false = (some { f with lp := s.queuePort q, ord := s.fr.taken }, v) ∧ (v.queue q).cells = rest ∧
      (v.queue q).deficit = (if rest = [] then 0 else (s.queue q).deficit - s.charge f) ∧
      v.get QUE_DCNT.DEQUEUED q = (s.get QUE_DCNT.DEQUEUED q + 1) % 2 ^ 64 := by
  let u1 := s.setQueue q { s.queue q with deficit := (s.queue q).deficit - s.drrCharge false f }
  let u := ((u1.shpCharge q (u1.shpCost false q f)).leaving q f).2
  have k1 : Moves [] [.levels, .taken] u1 u :=
    (Moves.refl.also (u1.shpCharge_moves _ _) rfl rfl).also (State.leaving_moves _ q f) rfl rfl
  have mu : Moves [] [.queues, .levels, .taken] s u := (Moves.refl.also (s.setQueue_moves q _) rfl rfl).also k1 rfl rfl
  have huq : u.queue q = { s.queue q with deficit := (s.queue q).deficit - s.drrCharge false f } :=
    (queue_eq (k1.parts .queues rfl) q).trans (s.queue_setQueue q _)
  obtain ⟨mp, hpq, hd⟩ := u.popCounted (q := q) (f := f) (rest := rest) (by rw [huq, hx])
  let w := (u.popHead q).count QUE_DCNT.DEQUEUED q 1
  have mw : Moves headMoves headParts s w := (mu.mono rfl rfl).also mp rfl rfl
  have hwq : w.queue q = { s.queue q with cells := rest, deficit := (s.queue q).deficit - s.drrCharge false f } := by
    rw [hpq, huq]
  have me := w.checkEmpty_moves q
  refine ⟨w.checkEmpty q, mw.also me rfl rfl, congrArg AutS.saEpoch ((me.parts .au rfl).trans ((mp.parts .au rfl).trans
    (mu.parts .au rfl))), ?_, ?_, ?_, ?_⟩
  · unfold State.drrTake
    rw [hx]
    rfl
  · unfold State.checkEmpty
    split
    · exact (congrArg Queue.cells (w.queue_setQueue q { w.queue q with deficit := 0 })).trans (by rw [hwq])
    · rw [hwq]
  · have hfr : (w.queue q).frames = [] ↔ rest = [] := by rw [hwq, Queue.frames, hdeep]; simp
    unfold State.checkEmpty
    by_cases hr : rest = []
    · rw [if_pos ⟨hq, hfr.mpr hr⟩, if_pos hr]
      exact congrArg Queue.deficit (w.queue_setQueue q { w.queue q with deficit := 0 })
    · rw [if_neg (fun h => hr (hfr.mp h.2)), if_neg hr, hwq]
      rfl
  · rw [me.get rfl, hd, mu.get rfl]

/-! A decision of a line port. -/

theorem exec_dequeueDecision (lp : Fin 16) (s : State) : exec (.dequeueDecision lp) s = finish (s.dequeue lp.val) := rfl

/-- A decision that serves control queue cq, the first whose head may go. -/
theorem State.dequeue_ctrl {s : State} {lp : Nat} {cq : Fin 4} {q : Nat} {f : Frame} {rest : List Frame}
    (hq : q = 8192 + 4 * lp + cq.val) (hd : s.dequeues lp = true) (hcar : s.carDue lp = false)
    (hbefore : ∀ k < 4, k < cq.val → s.ctrlEligible lp (8192 + 4 * lp + k) = false ∧
      (s.queue (8192 + 4 * lp + k)).cells.head?.any (s.aged (8192 + 4 * lp + k)) = false)
    (hx : (s.queue q).cells = f :: rest) (ha : s.aged q f = false) (he : s.ctrlEligible lp q = true) :
    s.dequeue lp = (s.ctrlTake lp q).pfc := by
  have hsplit : ∀ cq : Fin 4, upto 4 = upto cq.val ++ cq.val :: (upto 4).drop (cq.val + 1) := by decide
  have hgo : State.ctrlGo lp ((upto 4).map (fun c => 8192 + 4 * lp + c)) s = (true, s.ctrlTake lp q) := by
    rw [hsplit cq, List.map_append, List.map_cons, ← hq, State.ctrlGo_append]
    · rw [State.ctrlGo, State.shedAll_fresh (by simp [hx, ha]) (.inl (by omega)), if_pos he]
    · intro p hp
      obtain ⟨k, hk, rfl⟩ := List.mem_map.mp hp
      have hlt : k < cq.val := mem_upto.mp hk
      exact ⟨by omega, hbefore k (by omega) hlt⟩
  rw [State.dequeue, if_neg (by simp [hd]), if_neg (by simp [hcar])]
  simp only [hgo]
  rfl

/-- A decision that serves no control queue goes on to the express and bulk queues of an ordinary port. -/
theorem State.dequeue_data {s : State} {lp : Nat} (hd : s.dequeues lp = true) (hg : s.guarded lp = false)
    (hctrl : ∀ k < 4, s.ctrlEligible lp (8192 + 4 * lp + k) = false ∧
      (s.queue (8192 + 4 * lp + k)).cells.head?.any (s.aged (8192 + 4 * lp + k)) = false) :
    s.dequeue lp = (s.dataTake lp).pfc := by
  have hcar : s.carDue lp = false := by simp [State.carDue, State.streams, hg]
  have hgo : State.ctrlGo lp ((upto 4).map (fun c => 8192 + 4 * lp + c)) s = (false, s) := by
    rw [← List.append_nil (List.map _ _), State.ctrlGo_append]
    · rfl
    · intro p hp
      obtain ⟨k, hk, rfl⟩ := List.mem_map.mp hp
      exact ⟨by omega, hctrl k (mem_upto.mp hk)⟩
  rw [State.dequeue, if_neg (by simp [hd]), if_neg (by simp [hcar])]
  simp only [hgo, hg]
  rfl

/-- The first express queue of a port sends its head to step 6. -/
theorem State.dataTake_express {s : State} {lp q m : Nat} {f : Frame} {l : List Nat} {rest : List Frame} {b : Bool}
    (hclear : s.lineClearHold lp = false) (hport : s.shpOk (8192 + lp) = true)
    (hd : Tab.get Drr.none s.pl.drr (drrKey lp 0) = ⟨q :: l, b⟩) (hq : q < 8192) (hx : (s.queue q).cells = f :: rest)
    (hdeep : (s.queue q).deep = []) (ha : s.aged q f = false) (he : s.elsewhere (q / 2) (s.queuePort q) = false)
    (hg : s.autGate (q / 2) s.now = .pass) (ho : s.shpOk q = true)
    (hm : m = (s.queue q).deficit + (if b then 0 else s.get QUE_DQ.QUANTUM q)) (hch : s.charge f ≤ m) :
    ∃ v, Moves headMoves headParts s v ∧ v.au.saEpoch = s.au.saEpoch ∧
      s.dataTake lp = v.step6 { f with lp := s.queuePort q, ord := s.fr.taken } ∧ (v.queue q).cells = rest ∧
      (v.queue q).deficit = (if rest = [] then 0 else m - s.charge f) ∧
      v.get QUE_DCNT.DEQUEUED q = (s.get QUE_DCNT.DEQUEUED q + 1) % 2 ^ 64 := by
  obtain ⟨n, hn⟩ : ∃ n, 200 * ((Tab.get Drr.none s.pl.drr (drrKey lp 0)).list.length + 1) = n + 1 :=
    ⟨200 * (Tab.get Drr.none s.pl.drr (drrKey lp 0)).list.length + 199, by omega⟩
  obtain ⟨u, mu, hue, hgo, huq⟩ := State.drrGo_first (n := n) hd hx ha he hg ho hm hch
  obtain ⟨w, mw, hwe, htake, hwc, hwd, hdq⟩ := State.drrTake_takes (s := u) (q := q) (f := f) (rest := rest) hq
    (by rw [huq, hx]) (by rw [huq, hdeep])
  have hpeek : s.drrPeek2 lp false = (some q, u) := by
    rw [State.drrPeek2, State.drrPeek, hn, hgo]
  have hport' : u.queuePort q = s.queuePort q := by rw [State.queuePort, State.queuePort, mu.get rfl]
  rw [hport', mu.parts .taken rfl] at htake
  let g : Frame := { f with lp := s.queuePort q, ord := s.fr.taken }
  let v := w.shpCharge (8192 + lp) (w.lineLenOf g + w.get QUE_SHP.LEN_ADJ (8192 + lp))
  have mv : Moves [] [.levels] w v := w.shpCharge_moves _ _
  refine ⟨v, ((mu.mono rfl rfl).trans mw).also mv rfl rfl,
    (congrArg AutS.saEpoch (mv.parts .au rfl)).trans (hwe.trans hue), ?_, ?_, ?_, ?_⟩
  · rw [State.dataTake, if_neg (by simp [hclear, hport])]
    simp only [hpeek, htake]
    rfl
  · exact (congrArg Queue.cells (queue_eq (mv.parts .queues rfl) q)).trans hwc
  · rw [queue_eq (mv.parts .queues rfl), hwd, huq]
    have hc : u.charge f = s.charge f := congrArg (· + 20) (mu.lineLenOf f rfl)
    rw [hc]
  · rw [mv.get rfl, hdq, mu.get rfl]

/-- Settles O39, by the head that leaves its queue and what step 6 makes of it. -/
theorem dequeueDecisions : Obligations.DequeueDecisions := by
  constructor
  · intro s lp cq f g rest q hc hq hd hcar hbefore hx ha he hg
    obtain ⟨v, mv, hve, htake, hcells, hdq⟩ := State.ctrlTake_takes (k := lp.val) hx
    have hport : s.queuePort q = lp.val := by
      rw [State.queuePort, if_neg (by omega)]
      omega
    rw [hport, ← hg] at htake
    have hdeq : s.dequeue lp.val = (v.step6 g).pfc := by rw [State.dequeue_ctrl hq hd hcar hbefore hx ha he, htake]
    have hlp : g.lp = lp.val := by rw [hg]
    refine ⟨fun hs hp hl => ?_, fun c a hsc hcur hst hw hgate hv hact hlim hpn => ?_⟩
    · obtain ⟨t, ht, mt, hline⟩ := dequeued_clear hc mv (g := g) (by rw [hg]; exact hs) (by rw [hg]; exact hp)
        (by rw [hg]; simp [hl]) (by rw [hg]; simp [hl])
      rw [hlp] at hline
      refine ⟨t, by rw [exec_dequeueDecision, hdeq, ht], ?_, by rw [mt.get rfl, hdq], ?_⟩
      · rw [queue_eq (mt.parts .queues rfl), hcells]
      · rw [hline, hg]
    · obtain ⟨t, ht, mt, hn, heg⟩ := dequeued_protects hc mv ⟨hsc, hcur, hst, hw, hgate, hv, hact, hlim, hpn⟩ lp.isLt hve hg
      refine ⟨t, by rw [exec_dequeueDecision, hdeq, ht], ?_, by rw [mt.get rfl, hdq], hn, heg⟩
      rw [queue_eq (mt.parts .queues rfl), hcells]
  · intro s lp f rest q p c a l b m hc hd hg hctrl hclear hport hlist hq hx hdeep ha hp he hgate hok hm hch hsc hcur hst hw hgc
      hv hact hlim hpn
    subst hp
    obtain ⟨v, mv, hve, htake, hcells, hdef, hdq⟩ :=
      State.dataTake_express hclear hport hlist hq hx hdeep ha he hgate hok hm hch
    have hdeq := (State.dequeue_data hd hg hctrl).trans (congrArg State.pfc htake)
    have hp16 : s.queuePort q < 16 := by
      rw [State.queuePort, if_pos hq]
      exact s.get_lt SCT_TX.LPORT _
    obtain ⟨t, ht, mt, hn, heg⟩ := dequeued_protects hc mv ⟨hsc, hcur, hst, hw, hgc, hv, hact, hlim, hpn⟩ hp16 hve rfl
    refine ⟨t, by rw [exec_dequeueDecision, hdeq, ht], ?_, ?_, by rw [mt.get rfl, hdq], hn, heg⟩
    · rw [queue_eq (mt.parts .queues rfl), hcells]
    · rw [queue_eq (mt.parts .queues rfl), hdef]

end Sys2Proof.Machine
end
/-! Frames leave: held launch frames, the line ports' and the host ports' next frames, the launch slot (R149 to R154). -/
section
namespace Sys2Proof.Machine

/-! A held launch frame (R149). -/

/-- A held launch frame in clear text is dequeued and goes to its line port. -/
theorem launchHoldExpire_dequeues {s : State} {lp : Fin 16} {cq : Fin 4} {f : Frame} {rest : List Frame} {q tl : Nat}
    (hc : s.calm = true) (hq : q = 8192 + 4 * lp.val + cq.val) (hx : (s.queue q).cells = f :: rest) (hl : f.launch = some tl)
    (hd : s.dequeues lp.val = true) (he : s.ctrlEligible lp.val q = true) (hcar : s.carDue lp.val = false) (hs : f.sc = none)
    (hp : f.ptp = false) (hw : f.want ≤ f.time + ms) (ht : s.now + 600 * ns ≤ tl) :
    ∃ t, exec (.launchHoldExpire lp cq) s = .next t ∧ (t.queue q).cells = rest ∧
      t.get QUE_DCNT.DEQUEUED q = (s.get QUE_DCNT.DEQUEUED q + 1) % 2 ^ 64 ∧
      t.lineQ lp.val = s.lineQ lp.val ++ [⟨f.data, { f with lp := lp.val, ord := s.fr.taken }, 0, 0, false, false, none⟩] := by
  obtain ⟨v, mv, -, htake, hcells, hdq⟩ := State.ctrlTake_takes (k := lp.val) hx
  have hport : s.queuePort q = lp.val := by
    rw [State.queuePort, if_neg (by omega)]
    omega
  rw [hport] at htake
  have hex : exec (.launchHoldExpire lp cq) s = finish (s.ctrlTake lp.val q).pfc := by
    refine (rfl : _ = finish (s.launchHold lp.val cq.val)).trans (congrArg finish ?_)
    rw [State.launchHold, ← hq]
    simp only [hx, hl, hd, he, hcar]
    rfl
  obtain ⟨t, ht', mt, hline⟩ := dequeued_clear hc mv (g := { f with lp := lp.val, ord := s.fr.taken }) hs hp (fun _ => hw)
    (by rw [hl, Option.all_some]; exact decide_eq_true ht)
  refine ⟨t, by rw [hex, htake, ht'], ?_, by rw [mt.get rfl, hdq], hline⟩
  rw [queue_eq (mt.parts .queues rfl), hcells]

/-! The next frame of a line port (R82, R131, R152). -/

theorem exec_lineFrameTransmit (lp : Fin 16) (s : State) : exec (.lineFrameTransmit lp) s = finish (s.transmit lp.val) := rfl

theorem lineQ_eq {s t : State} (h : t.fr.lineOut = s.fr.lineOut) (k : Nat) : t.lineQ k = s.lineQ k := by
  rw [State.lineQ, State.lineQ, h]

theorem State.lineQ_setLineQ (s : State) (k : Nat) (l : List LineItem) : (s.setLineQ k l).lineQ k = l := Tab.get_set_self _ _ _ _

section
variable (s : State)

theorem State.tm_moves (x : TimS) : Moves [] [.tm] s { s with tm := x } :=
  .of_parts rfl (by rintro ⟨⟩ ⟨⟩ <;> rfl) rfl rfl
theorem State.ga_moves (x : GauS) : Moves [] [.ga] s { s with ga := x } :=
  .of_parts rfl (by rintro ⟨⟩ ⟨⟩ <;> rfl) rfl rfl
theorem State.lc_moves (x : LcyS) : Moves [] [.lc] s { s with lc := x } :=
  .of_parts rfl (by rintro ⟨⟩ ⟨⟩ <;> rfl) rfl rfl

/-- What a frame that crosses a boundary moves besides the count of frames. -/
abbrev lineSendMoves : List Fld := RGN_HPCNT.TX_OCTETS :: TIM_LP.LAUNCH_MISS :: TIM_LP.LAUNCH_OK :: CAR_TXCNT.CTRL_IN_GAP ::
  TIM_TXQ_LOST.V :: TIM_TXQ_STAT.OVERFLOW :: TIM_TXQ_STAT.COUNT :: smpMoves ++ pfcMoves
abbrev lineSendParts : List Part := .lc :: .ga :: .tm :: .cn :: pfcParts

theorem State.hwmNote_moves (c : Option Nat) (t : Nat) : Moves [] [.lc] s (s.hwmNote c t) := .ite (s.lc_moves _) .refl

theorem State.tsPut_moves (k : Nat) (b : Bool) (id t : Nat) : Moves lineSendMoves lineSendParts s (s.tsPut k b id t) := by
  have h : ∀ x n, Moves lineSendMoves lineSendParts s ({ s with tm := x }.set TIM_TXQ_STAT.COUNT k n) := fun x n =>
    (Moves.refl.also (s.tm_moves x) rfl rfl).also (State.set_moves _ TIM_TXQ_STAT.COUNT k n) rfl rfl
  unfold State.tsPut
  exact .ite ((Moves.refl.also (s.count_moves TIM_TXQ_LOST.V k 1) rfl rfl).also (State.event_moves _ TIM_TXQ_STAT.OVERFLOW k _) rfl rfl)
    (.ite ((h _ _).also (State.pend_moves _ _) rfl rfl) (h _ _))

/-- A frame's launch is noted as it crosses. -/
theorem State.launchNoted_moves (k : Nat) (x : LineItem) (e : Tab Nat) : Moves lineSendMoves lineSendParts s
    (let s := { s with ga.launchEnd := e }
      if x.late then (s.count TIM_LP.LAUNCH_MISS k 1).pend 0x028 else s.count TIM_LP.LAUNCH_OK k 1) := by
  have h : Moves lineSendMoves lineSendParts s { s with ga.launchEnd := e } := Moves.refl.also (s.ga_moves _) rfl rfl
  exact .ite ((h.also (State.count_moves _ TIM_LP.LAUNCH_MISS k 1) rfl rfl).also (State.pend_moves _ _) rfl rfl)
    (h.also (State.count_moves _ TIM_LP.LAUNCH_OK k 1) rfl rfl)

/-- After its octets are counted, a frame that crosses moves neither its port's queue nor its count. -/
theorem State.lineSend_moves (k : Nat) (x : LineItem) (t : Nat) :
    Moves lineSendMoves lineSendParts ((s.emit (.lineFrame k (x.line ++ fcs x.line))).count RGN_HPCNT.TX_FRAMES (lpIdx k) 1)
      (s.lineSend k x t) := by
  have h0 : Moves lineSendMoves lineSendParts ((s.emit (.lineFrame k (x.line ++ fcs x.line))).count RGN_HPCNT.TX_FRAMES (lpIdx k) 1)
      ((s.lineOutput k x.line).hwmNote x.f.sc t) :=
    (Moves.refl.also (State.count_moves _ RGN_HPCNT.TX_OCTETS _ _) rfl rfl).also (State.hwmNote_moves _ _ _) rfl rfl
  unfold State.lineSend
  refine Moves.also (Moves.also ?_ (State.smpEgress_moves _ _ _ _ _ _) rfl rfl) (State.pfc_moves _) rfl rfl
  have hl := fun e => Moves.ite (c := x.f.launch.isNone = true) h0 (h0.trans (State.launchNoted_moves _ k x e))
  have hg := fun (c : Prop) (d : Decidable c) e =>
    Moves.ite (c := c) ((hl e).also (State.count_moves _ CAR_TXCNT.CTRL_IN_GAP k 1) rfl rfl) (hl e)
  split
  · exact (hg _ _ _).trans (State.tsPut_moves _ _ _ _ _)
  · exact hg _ _ _

end

section
variable {s : State} {lp : Fin 16} {x : LineItem} {l : List LineItem} (hc : s.calm = true) (hup : s.lpUp lp.val = true)
  (hq : s.lineQ lp.val = x :: l) (hcar : x.car = none) (ha : s.queueAhead lp.val x = false)
include hup hq hcar ha

/-- The first frame of a port that may go is served. -/
theorem State.transmit_first (h : s.stepped x.f = true ∨ s.lineReady lp.val x = true) : s.transmit lp.val =
    if s.stepped x.f then (s.setLineQ lp.val l).launchStep x.f x.pn x.an
    else if x.f.launch.isSome && s.launchHit lp.val x (x.f.launch.getD s.now) then s.launchMiss lp.val x
    else (s.setLineQ lp.val l).lineSend lp.val x (x.f.launch.getD s.now) := by
  have hfind : (lineHeads [] (s.lineQ lp.val)).find?
      (fun x => !s.queueAhead lp.val x && (s.stepped x.f || s.lineReady lp.val x)) = some x := by
    rw [hq, lineHeads]
    simp [hcar, ha, h]
  have her : (x :: l).erase x = l := List.erase_cons_head ..
  rw [State.transmit, if_neg (by simp [hup]), hfind]
  simp only [hq, her]

include hc

theorem lineFrameTransmit_sends (hst : s.stepped x.f = false) (hr : s.lineReady lp.val x = true)
    (hh : x.f.launch.isSome = true → s.launchHit lp.val x (x.f.launch.getD s.now) = false) :
    ∃ t, exec (.lineFrameTransmit lp) s = .next t ∧ t.lineQ lp.val = l ∧
      t.get RGN_HPCNT.TX_FRAMES (lpIdx lp.val) = (s.get RGN_HPCNT.TX_FRAMES (lpIdx lp.val) + 1) % 2 ^ 64 ∧
      Emit.lineFrame lp.val (x.line ++ fcs x.line) ∈ t.out := by
  let u := s.setLineQ lp.val l
  let e := Emit.lineFrame lp.val (x.line ++ fcs x.line)
  have hsend : s.transmit lp.val = u.lineSend lp.val x (x.f.launch.getD s.now) := by
    rw [State.transmit_first hup hq hcar ha (.inr hr), if_neg (by simp [hst]), if_neg]
    rw [Bool.and_eq_true]
    rintro ⟨h1, h2⟩
    rw [hh h1] at h2
    exact Bool.noConfusion h2
  have mu : Moves [] [.lineOut, .out] s (u.emit e) := (Moves.refl.also (s.setLineQ_moves _ _) rfl rfl).also (u.emit_moves e) rfl rfl
  have mc := (u.emit e).count_moves RGN_HPCNT.TX_FRAMES (lpIdx lp.val) 1
  have ms := u.lineSend_moves lp.val x (x.f.launch.getD s.now)
  have m : Moves (RGN_HPCNT.TX_FRAMES :: lineSendMoves) lineSendParts (u.emit e) (u.lineSend lp.val x (x.f.launch.getD s.now)) :=
    (Moves.refl.also mc rfl rfl).also ms rfl rfl
  obtain ⟨t, ht, kt⟩ := m.ends ((mu.calm rfl).trans hc) rfl
  refine ⟨t, by rw [exec_lineFrameTransmit, hsend, ht], ?_, ?_, ?_⟩
  · rw [lineQ_eq (kt.parts .lineOut rfl), lineQ_eq (m.parts .lineOut rfl)]
    exact s.lineQ_setLineQ _ _
  · exact mu.counted (ms.mono (fs := GLB_MODE.IN_TRANSITION :: lineSendMoves) (ps := .cl :: .md :: lineSendParts) rfl rfl |>.also kt
      rfl rfl) rfl rfl rfl
  · exact kt.emits _ (m.emits _ (List.mem_append_right _ (List.mem_singleton.mpr rfl)))

theorem lineFrameTransmit_steps (hst : s.stepped x.f = true) (hlp : x.f.lp = lp.val) :
    ∃ t, exec (.lineFrameTransmit lp) s = .next t ∧ t.lineQ lp.val = l ∧
      t.get TIM_LP.LAUNCH_STEP lp.val = (s.get TIM_LP.LAUNCH_STEP lp.val + 1) % 2 ^ 64 := by
  let u := s.setLineQ lp.val l
  have mu : Moves [] [.lineOut] s u := s.setLineQ_moves _ _
  have ms : Moves smpMoves [.ic, .out, .wraps, .cn] (u.count TIM_LP.LAUNCH_STEP x.f.lp 1) (u.launchStep x.f x.pn x.an) :=
    State.smpEgress_moves _ _ _ _ _ _
  have m := u.launchStep_moves x.f x.pn x.an
  obtain ⟨t, ht, kt⟩ := m.ends ((mu.calm rfl).trans hc) rfl
  refine ⟨t, ?_, ?_, ?_⟩
  · rw [exec_lineFrameTransmit, State.transmit_first hup hq hcar ha (.inl hst), if_pos hst, ht]
  · rw [lineQ_eq (kt.parts .lineOut rfl), lineQ_eq (m.parts .lineOut rfl)]
    exact s.lineQ_setLineQ _ _
  · rw [← hlp]
    exact mu.counted (ms.mono (fs := GLB_MODE.IN_TRANSITION :: smpMoves) (ps := .cl :: .md :: [.ic, .out, .wraps, .cn]) rfl rfl |>.also
      kt rfl rfl) rfl rfl rfl

end

/-! The launch slot (R151, R153). -/

theorem exec_launchSlotDeadline (lp : Fin 16) (s : State) : exec (.launchSlotDeadline lp) s = finish (s.slotDeadline lp.val) := rfl

/-- An item of LPk has missed the launch slot. -/
def State.slotMissed (s : State) (k : Nat) (x : EgItem) : Bool :=
  x.f.lp == k && x.car.isNone && !x.late && x.f.launch.any (fun t => t ≤ s.now + 150 * ns) &&
    (match x.stat with
      | .inPair _ => false
      | .wait => false
      | _ => true)

theorem State.slotDeadline_eq (s : State) (k : Nat) : s.slotDeadline k =
    (let out (x : EgItem) : Bool := s.slotMissed k x && (x.f.ptp || x.f.strict);
      (State.each (s.setEg (regionOfLp k) (((s.eg (regionOfLp k)).filter (fun x => !out x)).map
          (fun x => if s.slotMissed k x then { x with late := true } else x))) ((s.eg (regionOfLp k)).filter out)
        (fun x s => if s.stepped x.f then s.launchStep x.f x.pn x.an else s.launchDrop x.f x.pn x.an)).relEg (regionOfLp k)) := rfl

theorem map_late_of_none {p : EgItem → Bool} {k : List EgItem} (h : ∀ y ∈ k, p y = false) :
    k.map (fun x => if p x then { x with late := true } else x) = k := by
  rw [List.map_congr_left (g := id) (fun y hy => by simp [h y hy]), List.map_id]

section
variable {s : State} {lp : Fin 16} {x : EgItem} {l m : List EgItem} {n tl : Nat} (hc : s.calm = true)
  (he : s.eg (regionOfLp lp.val) = l ++ x :: m) (ho : ∀ y ∈ l ++ m, y.f.lp ≠ lp.val ∨ y.f.launch = none)
  (hst : x.stat = .reissue n) (hlp : x.f.lp = lp.val) (hcar : x.car = none) (hlate : x.late = false)
  (hl : x.f.launch = some tl) (ht : tl ≤ s.now + 150 * ns) (hp : x.f.ptp = false)

include ho hst hlp hcar hlate hl ht in
/-- Of the list, that frame alone has missed the slot. -/
theorem State.slotMissed_one : s.slotMissed lp.val x = true ∧ ∀ y ∈ l ++ m, s.slotMissed lp.val y = false := by
  constructor
  · have hd : decide (tl ≤ s.now + 150 * ns) = true := decide_eq_true ht
    simp only [State.slotMissed, hst, hlp, hcar, hlate, hl, Option.any_some, hd]
    simp
  · intro y hy
    obtain h | h := ho y hy
    · simp [State.slotMissed, h]
    · simp [State.slotMissed, h]

include hc he

/-- The frames of the list are not finished. -/
theorem State.slice_undone : ∀ y ∈ l ++ x :: m, y.stat ≠ .done := by
  rw [← he]
  exact ((s.calm_iff.mp hc).1 _ (Nat.div_lt_of_lt_mul lp.isLt)).1

include ho hst hlp hcar hlate hl ht hp

/-- A strict frame that has missed its slot is discarded and counted. -/
theorem launchSlotDeadline_discards (hs : x.f.strict = true) :
    ∃ t, exec (.launchSlotDeadline lp) s = .next t ∧ t.eg (regionOfLp lp.val) = l ++ m ∧
      t.get TIM_LP.LAUNCH_DISCARD lp.val = (s.get TIM_LP.LAUNCH_DISCARD lp.val + 1) % 2 ^ 64 ∧ t.ic.icu.contains 0x028 = true := by
  obtain ⟨hx, hy⟩ := State.slotMissed_one (s := s) ho hst hlp hcar hlate hl ht
  have hyl : ∀ y ∈ l, s.slotMissed lp.val y = false := fun y h => hy y (by simp [h])
  have hym : ∀ y ∈ m, s.slotMissed lp.val y = false := fun y h => hy y (by simp [h])
  have hund := State.slice_undone hc he
  let u := s.setEg (regionOfLp lp.val) (l ++ m)
  have hout : (l ++ x :: m).filter (fun x => s.slotMissed lp.val x && (x.f.ptp || x.f.strict)) = [x] := by
    rw [List.filter_append, List.filter_cons, if_pos (by simp [hx, hs]), List.filter_eq_nil_iff.mpr (fun y h => by simp [hyl y h]),
      List.filter_eq_nil_iff.mpr (fun y h => by simp [hym y h])]
    rfl
  have hkept : ((l ++ x :: m).filter (fun x => !(s.slotMissed lp.val x && (x.f.ptp || x.f.strict)))).map
      (fun x => if s.slotMissed lp.val x then { x with late := true } else x) = l ++ m := by
    rw [List.filter_append, List.filter_cons, if_neg (by simp [hx, hs]), List.filter_eq_self.mpr (fun y h => by simp [hyl y h]),
      List.filter_eq_self.mpr (fun y h => by simp [hym y h])]
    exact map_late_of_none hy
  have hd : s.slotDeadline lp.val = (u.launchDrop x.f x.pn x.an).relEg (regionOfLp lp.val) := by
    rw [State.slotDeadline_eq]
    simp only [he, hout, hkept]
    exact congrArg (fun v => State.relEg v _) (if_neg (by simp [State.stepped, hp]))
  have mu : Moves [] [.egress] s u := s.setEg_moves _ _
  have md := u.launchDrop_moves x.f x.pn x.an
  have hnone : ∀ y ∈ l ++ m, y.stat ≠ .done := fun y h => hund y (by
    obtain h | h := List.mem_append.mp h
    · simp [h]
    · simp [h])
  have hrel : (u.launchDrop x.f x.pn x.an).relEg (regionOfLp lp.val) = u.launchDrop x.f x.pn x.an :=
    State.relEg_of_none (by rw [eg_eq (md.parts .egress rfl), s.eg_setEg]; exact hnone)
  obtain ⟨t, ht', kt⟩ := md.ends (State.calm_setEg hc hnone) rfl
  refine ⟨t, by rw [exec_launchSlotDeadline, hd, hrel, ht'], ?_, ?_, ?_⟩
  · rw [eg_eq (kt.parts .egress rfl), eg_eq (md.parts .egress rfl)]
    exact s.eg_setEg _ _
  · have ms : Moves smpMoves [.ic, .out, .wraps, .cn] (u.count TIM_LP.LAUNCH_DISCARD x.f.lp 1) (u.launchDrop x.f x.pn x.an) :=
      (Moves.refl.also (State.pend_moves _ 0x028) rfl rfl).also (State.smpEgress_moves _ _ _ _ _ _) rfl rfl
    rw [← hlp]
    exact mu.counted (ms.mono (fs := GLB_MODE.IN_TRANSITION :: smpMoves) (ps := .cl :: .md :: [.ic, .out, .wraps, .cn]) rfl rfl |>.also
      kt rfl rfl) rfl rfl rfl
  · have hm : 0x028 ∈ (u.launchDrop x.f x.pn x.an).ic.icu :=
      (State.smpEgress_moves _ x.f x.pn x.an 0 5).sources _ (State.mem_pend_self _ 0x028)
    simpa using kt.sources _ hm

/-- One that is not strict goes on, late. -/
theorem launchSlotDeadline_goes_late (hs : x.f.strict = false) :
    ∃ t, exec (.launchSlotDeadline lp) s = .next t ∧ t.eg (regionOfLp lp.val) = l ++ { x with late := true } :: m := by
  obtain ⟨hx, hy⟩ := State.slotMissed_one (s := s) ho hst hlp hcar hlate hl ht
  have hyl : ∀ y ∈ l, s.slotMissed lp.val y = false := fun y h => hy y (by simp [h])
  have hym : ∀ y ∈ m, s.slotMissed lp.val y = false := fun y h => hy y (by simp [h])
  have hund := State.slice_undone hc he
  let l' := l ++ { x with late := true } :: m
  have hno : ∀ y ∈ l ++ x :: m, (s.slotMissed lp.val y && (y.f.ptp || y.f.strict)) = false := by
    intro y h
    rw [List.mem_append, List.mem_cons] at h
    obtain h | rfl | h := h
    · simp [hyl y h]
    · simp [hp, hs]
    · simp [hym y h]
  have hout : (l ++ x :: m).filter (fun x => s.slotMissed lp.val x && (x.f.ptp || x.f.strict)) = [] :=
    List.filter_eq_nil_iff.mpr (fun y h => by simp [hno y h])
  have hkept : ((l ++ x :: m).filter (fun x => !(s.slotMissed lp.val x && (x.f.ptp || x.f.strict)))).map
      (fun x => if s.slotMissed lp.val x then { x with late := true } else x) = l' := by
    rw [List.filter_eq_self.mpr (fun y h => by simp [hno y h]), List.map_append, List.map_cons, map_late_of_none hyl,
      map_late_of_none hym, if_pos hx]
  have hnone : ∀ y ∈ l', y.stat ≠ .done := by
    intro y h
    rw [List.mem_append, List.mem_cons] at h
    obtain h | rfl | h := h
    · exact hund y (by simp [h])
    · exact hund x (by simp)
    · exact hund y (by simp [h])
  have hd : s.slotDeadline lp.val = s.setEg (regionOfLp lp.val) l' := by
    rw [State.slotDeadline_eq]
    simp only [he, hout, hkept]
    exact State.relEg_of_none (s := s.setEg (regionOfLp lp.val) l') (by rw [s.eg_setEg]; exact hnone)
  exact ⟨_, by rw [exec_launchSlotDeadline, hd, finish_calm _ (State.calm_setEg hc hnone)],
    (State.closed_eg _ _).trans (s.eg_setEg _ _)⟩

end

/-! The next frame of a host port (R154, R261). -/

theorem exec_hostPortTransmit (hp : Fin 32) (s : State) : exec (.hostPortTransmit hp) s = finish (s.hostSend hp.val) := rfl

abbrev hostOutMoves : List Fld := [RGN_HPCNT.TX_FRAMES, RGN_HPCNT.TX_OCTETS, ICU_PORT.WAKE]

/-- A frame that leaves a host port is put out and counted. -/
theorem State.hostOutput_moves (s : State) (hp : Nat) (d : List Octet) :
    Moves hostOutMoves countParts s (s.hostOutput hp d) ∧ Emit.hostFrame hp (d ++ fcs d) ∈ (s.hostOutput hp d).out := by
  let u := s.emit (.hostFrame hp (d ++ fcs d))
  have mu : Moves hostOutMoves countParts s u := Moves.refl.also (s.emit_moves _) rfl rfl
  have mc : Moves hostOutMoves countParts u (s.hostOutput hp d) := (Moves.refl.also (u.count_moves RGN_HPCNT.TX_FRAMES hp 1) rfl
    rfl).also (State.count_moves _ RGN_HPCNT.TX_OCTETS hp _) rfl rfl
  exact ⟨mu.trans mc, mc.emits _ (List.mem_append_right _ (List.mem_singleton.mpr rfl))⟩

section
variable {s : State} {hp : Fin 32} (hc : s.calm = true) (hup : s.hpUp hp.val = true)
include hc hup

theorem hostPortTransmit_pfc {d : List Octet} {rest : List (List Octet)} (hq : Tab.get [] s.fr.pfcOut hp.val = d :: rest) :
    ∃ t, exec (.hostPortTransmit hp) s = .next t ∧ Tab.get [] t.fr.pfcOut hp.val = rest ∧ t.fr.hostOut = s.fr.hostOut ∧
      Emit.hostFrame hp.val (d ++ fcs d) ∈ t.out := by
  let u : State := { s with fr.pfcOut := s.fr.pfcOut.set [] hp.val rest }
  have mu : Moves [] [.pfcOut] s u := s.pfcOut_moves _
  obtain ⟨mo, hout⟩ := u.hostOutput_moves hp.val d
  obtain ⟨t, ht, kt⟩ := mo.ends ((mu.calm rfl).trans hc) rfl
  have hsend : s.hostSend hp.val = u.hostOutput hp.val d := by
    rw [State.hostSend, if_neg (by simp [hup]), hq]
  refine ⟨t, by rw [exec_hostPortTransmit, hsend, ht], ?_, ?_, kt.emits _ hout⟩
  · rw [kt.parts .pfcOut rfl, mo.parts .pfcOut rfl]
    exact Tab.get_set_self _ _ _ _
  · rw [kt.parts .hostOut rfl, mo.parts .hostOut rfl]

theorem hostPortTransmit_frame {f : OutFrame} {rest : List OutFrame} {d : List Octet} (hq : Tab.get [] s.fr.pfcOut hp.val = [])
    (hf : Tab.get [] s.fr.hostOut hp.val = f :: rest)
    (hd : d = (if f.corr then ptpCorrect f.data (residence f.time (hostGrid hp.val s.now)) else f.data)) :
    ∃ t, exec (.hostPortTransmit hp) s = .next t ∧ Tab.get [] t.fr.hostOut hp.val = rest ∧
      Emit.hostFrame hp.val (d ++ fcs d) ∈ t.out := by
  let u : State := { s with fr.hostOut := s.fr.hostOut.set [] hp.val rest }
  have mu : Moves [] [.hostOut] s u := s.hostOut_moves _
  obtain ⟨mo, hout⟩ := u.hostOutput_moves hp.val d
  obtain ⟨v, mv, hv⟩ : ∃ v, Moves smpMoves [.ic, .out, .wraps, .cn] (u.hostOutput hp.val d) v ∧ s.hostSend hp.val = v := by
    refine ⟨_, State.smpIn_moves _ f.sampled hp.val f.lp (f.sc.getD 0) f.an (d.length + 4) f.time f.steps f.mono f.pn
      (32 * b2n f.sc.isNone) 0, ?_⟩
    rw [State.hostSend, if_neg (by simp [hup]), hq, hf, hd]
  have m : Moves (hostOutMoves ++ smpMoves) (.cn :: countParts) u v := (mo.mono rfl rfl).also mv rfl rfl
  obtain ⟨t, ht, kt⟩ := m.ends ((mu.calm rfl).trans hc) rfl
  refine ⟨t, by rw [exec_hostPortTransmit, hv, ht], ?_, kt.emits _ (mv.emits _ hout)⟩
  rw [kt.parts .hostOut rfl, m.parts .hostOut rfl]
  exact Tab.get_set_self _ _ _ _

end

end Sys2Proof.Machine
end
/-! Frames arrive at a line port, and pass the replay pre-check (R92 to R97, R106 to R110). -/
section
namespace Sys2Proof.Machine

/-! What ingress classification reads stands through its counters. -/

/-- Fields that a match against an ingress rule reads. -/
abbrev igrKeys : List Fld := [CLS_IGR.VALID, CLS_IGR.SECTAG_CARE, CLS_IGR.SECTAG, CLS_IGR.LPORT_MASK, CLS_IGR.LPORT,
  CLS_IGR.SCI_MASK, CLS_IGR.SCI, CLS_IGR.DA_MASK, CLS_IGR.DA, CLS_IGR.ETYPE_MASK, CLS_IGR.ETYPE]

section
variable {fs : List Fld} {ps : List Part} {s t : State} (m : Moves fs ps s t)
include m

theorem Moves.igrRule (h : igrKeys.all (fun f => !listed fs f.id) = true) (lp : Nat) (tagged : Bool) (sci da etype : Nat) :
    (t.ones CLS_IGR.VALID).find? (t.igrMatch lp tagged sci da etype) =
      (s.ones CLS_IGR.VALID).find? (s.igrMatch lp tagged sci da etype) := by
  have g : ∀ f ∈ igrKeys, ∀ i, t.get f i = s.get f i := fun f hf i => m.get (by simpa using List.all_eq_true.mp h f hf) i
  have hv : listed fs CLS_IGR.VALID.id = false := by simpa using List.all_eq_true.mp h CLS_IGR.VALID (by simp)
  simp only [igrKeys, List.mem_cons, List.not_mem_nil, or_false, forall_eq_or_imp, forall_eq] at g
  obtain ⟨g1, g2, g3, g4, g5, g6, g7, g8, g9, g10, g11⟩ := g
  have e : t.igrMatch lp tagged sci da etype = s.igrMatch lp tagged sci da etype := by
    funext i
    simp only [State.igrMatch, State.on, g1, g2, g3, g4, g5, g6, g7, g8, g9, g10, g11]
  rw [e, m.ones hv]

theorem Moves.sciOf (h : listed fs RGN_LP_RXCFG.IMPLICIT_EN.id = false) (h' : listed fs RGN_LP_RXCFG.IMPLICIT_SCI.id = false)
    (lp : Nat) (d : List Octet) : t.sciOf lp d = s.sciOf lp d := by
  simp only [State.sciOf, m.on h, m.get h']

theorem Moves.igrClearOk (h : listed fs OFC_CLR_POLICY.IGR_EAPOL_OK.id = false)
    (h' : listed fs OFC_CLR_POLICY.IGR_OTHER_OK.id = false) (e : Nat) : t.igrClearOk e = s.igrClearOk e := by
  simp only [State.igrClearOk, m.on h, m.on h']

theorem Moves.slotOfAn (h : listed fs SAT_RX.STATE.id = false) (h' : listed fs SAT_RX.AN.id = false) (c an : Nat) :
    t.slotOfAn c an = s.slotOfAn c an := by
  simp only [State.slotOfAn, m.get h, m.get h']

theorem Moves.effValidate (h : listed fs SCT_RX.VALIDATE.id = false) (h' : listed fs OFC_RX_POLICY.CHECK_OK.id = false)
    (h'' : listed fs OFC_RX_POLICY.DISABLED_OK.id = false) (c : Nat) : t.effValidate c = s.effValidate c := by
  simp only [State.effValidate, m.get h, m.on h', m.on h'']

theorem Moves.igrRoom (h : listed fs RGN_IGR_POOL.RESERVE.id = false)
    (hp : [Part.ingress, .hostOut, .hq, .carRest].all (fun p => !ps.contains p) = true) (r n : Nat) :
    t.igrRoom r n = s.igrRoom r n := by
  simp only [List.all_cons, List.all_nil, Bool.and_true, Bool.and_eq_true, Bool.not_eq_true'] at hp
  obtain ⟨h1, h2, h3, h4⟩ := hp
  have hi : t.fr.ingress = s.fr.ingress := m.parts .ingress h1
  have ho : t.fr.hostOut = s.fr.hostOut := m.parts .hostOut h2
  have hq : t.hq = s.hq := m.parts .hq h3
  have hr : ({ t.ca with carTx := [] } : CarS) = { s.ca with carTx := [] } := m.parts .carRest h4
  have hc := congrArg CarS.carRx hr
  change t.ca.carRx = s.ca.carRx at hc
  simp only [State.igrRoom, State.igrUsed, hi, ho, hq, hc, m.get h]
  rfl

end

/-! Step 1 and what classification does first. -/

/-- What a good frame moves before its rule acts. -/
abbrev lineRxMoves : List Fld := [RGN_HPCNT.RX_FRAMES, RGN_HPCNT.RX_OCTETS, ICU_PORT.WAKE]

/-- Fields and parts that the copy and the sample of a dropped frame move. -/
abbrev excMoves : List Fld := RGN_LPIGR.EXC_COPIES :: HQ_PCNT.LOST :: smpMoves
abbrev excParts : List Part := .hq :: .cn :: countParts

theorem State.excCopy_moves (s : State) (lp b : Nat) (d : List Octet) (time : Nat) (ho : Bool) :
    Moves excMoves excParts s (s.excCopy lp b d time ho) := by
  unfold State.excCopy
  exact .ite ((Moves.refl.also (s.count_moves RGN_LPIGR.EXC_COPIES lp 1) rfl rfl).also (State.puntPush_moves _ _ _) rfl rfl) .refl

section
variable {s : State} {lp : Nat} {octets : List Octet} {badCode : Bool} (back : Nat) (hu : s.lpUp lp = true) (hb : s.mode ≠ mBOOT)
  (h0 : s.mode ≠ 0)
include hu hb h0

/-- A frame that step 1 refuses is counted. -/
theorem State.lineFrame_bad {chk : Nat} {f : Fld} {i : Nat} (hc : chk = rxCheck octets badCode 9248)
    (hf : (chk, f, i) ∈ [(1, RGN_LPIGR.OVERSIZE, lp), (2, RGN_HPCNT.RX_FCS_ERR, lpIdx lp), (3, RGN_HPCNT.RX_RUNT, lpIdx lp),
      (4, RGN_HPCNT.RX_CTRL, lpIdx lp)]) : s.lineFrame lp octets badCode back = s.count f i 1 := by
  rw [State.lineFrame, if_neg (by simp [hu, hb, h0])]
  simp only [List.mem_cons, Prod.mk.injEq, List.not_mem_nil, or_false] at hf
  rw [hc] at hf
  obtain ⟨e, rfl, rfl⟩ | ⟨e, rfl, rfl⟩ | ⟨e, rfl, rfl⟩ | ⟨e, rfl, rfl⟩ := hf <;> simp [e, State.rxCount]

/-- A good frame is counted, and goes on unless its region is fenced. -/
theorem State.lineFrame_good (hc : rxCheck octets badCode 9248 = 0) :
    ∃ v time, Moves lineRxMoves countParts s v ∧
      v.get RGN_HPCNT.RX_FRAMES (lpIdx lp) = (s.get RGN_HPCNT.RX_FRAMES (lpIdx lp) + 1) % 2 ^ 64 ∧
      s.lineFrame lp octets badCode back = if s.fenced (regionOfLp lp) then v.count RGN_LPIGR.D_REGION lp 1
        else v.classifyIn lp (octets.take (octets.length - 4)) time := by
  let u := s.count RGN_HPCNT.RX_FRAMES (lpIdx lp) 1
  have ku : Moves [RGN_HPCNT.RX_OCTETS, ICU_PORT.WAKE] countParts u (u.count RGN_HPCNT.RX_OCTETS (lpIdx lp) octets.length) :=
    u.count_moves _ _ _
  refine ⟨u.count RGN_HPCNT.RX_OCTETS (lpIdx lp) octets.length, adjusted (s.now - back * 2 ^ 16) (s.get TIM_LP.BOARD_ADJ lp),
    (Moves.refl.also (s.count_moves RGN_HPCNT.RX_FRAMES (lpIdx lp) 1) rfl rfl).also ku rfl rfl,
    Moves.counted (Moves.refl (fs := []) (ps := [])) ku rfl rfl rfl, ?_⟩
  rw [State.lineFrame, if_neg (by simp [hu, hb, h0])]
  simp only [hc]
  rw [if_neg (by decide), if_neg (by simp [State.rxCount])]
  rfl

end

section
variable (v : State) (lp : Nat) {d : List Octet} (time : Nat)

/-- A frame with a bad SecTAG is counted and dropped. -/
theorem State.classifyIn_badTag (ht : be16 d 12 = 0x88E5) (hb : tagBad d = true) :
    ∃ u w, Moves [] [.cn] v u ∧ Moves excMoves excParts (u.count RGN_LPIGR.BAD_TAG lp 1) w ∧ v.classifyIn lp d time = w := by
  have me := v.smpEligible_moves (regionOfLp lp) (bit (v.get CNT_SMP_PORTS.LP 0) lp)
  let u := (v.smpEligible (regionOfLp lp) (bit (v.get CNT_SMP_PORTS.LP 0) lp)).2
  have mx := fun ho => ((u.count RGN_LPIGR.BAD_TAG lp 1).excCopy_moves lp 0 d time ho)
  refine ⟨u, v.classifyIn lp d time, me, ?_, rfl⟩
  rw [State.classifyIn]
  simp only
  rw [if_pos ⟨by simp [ht], hb⟩]
  exact (mx _).also (State.smpIn_moves _ _ _ _ _ _ _ _ _ _ _ _ _) rfl rfl

/-- A clear-text frame that a rule clears enters its host port's queue, if there is room. -/
theorem State.classifyIn_clears {i : Nat} (ht : be16 d 12 ≠ 0x88E5) (hm : v.mode ≠ mLOCKDOWN)
    (hr : (v.ones CLS_IGR.VALID).find? (v.igrMatch lp false 0 (beNat (slice d 0 6)) (be16 d (etypeAt d))) = some i)
    (ha : v.get CLS_IGR.ACTION i = 2) (ho : v.igrClearOk (be16 d (etypeAt d)) = true) :
    ∃ u b, Moves [CLS_IGR.HITS, ICU_PORT.WAKE] (.cn :: countParts) v u ∧
      v.classifyIn lp d time = u.clearIn (u.get CLS_IGR.HPORT i) lp d time b := by
  have me := v.smpEligible_moves (regionOfLp lp) (bit (v.get CNT_SMP_PORTS.LP 0) lp)
  let e := v.smpEligible (regionOfLp lp) (bit (v.get CNT_SMP_PORTS.LP 0) lp)
  have m : Moves [CLS_IGR.HITS, ICU_PORT.WAKE] (.cn :: countParts) v (e.2.count CLS_IGR.HITS i 1) :=
    (Moves.refl.also me rfl rfl).also (State.count_moves _ CLS_IGR.HITS i 1) rfl rfl
  have hrule := (me.igrRule rfl lp false 0 (beNat (slice d 0 6)) (be16 d (etypeAt d))).trans hr
  have htag : (be16 d 12 == 0x88E5) = false := by simpa using ht
  refine ⟨e.2.count CLS_IGR.HITS i 1, e.1, m, ?_⟩
  rw [State.classifyIn]
  simp only [htag]
  rw [if_neg (by simp)]
  simp only [Bool.false_eq_true, if_false]
  rw [hrule]
  simp only
  rw [(m.get (f := CLS_IGR.ACTION) rfl i).trans ha]
  simp only
  rw [if_neg (by rw [m.mode rfl]; exact hm), if_pos ((m.igrClearOk rfl rfl _).trans ho)]

/-- A frame that a rule validates for its own channel goes to slot selection. -/
theorem State.classifyIn_validates {i c sci : Nat} (ht : be16 d 12 = 0x88E5) (hb : tagBad d = false) (hs : v.sciOf lp d = some sci)
    (hr : (v.ones CLS_IGR.VALID).find? (v.igrMatch lp true sci (beNat (slice d 0 6)) 0x88E5) = some i)
    (ha : v.get CLS_IGR.ACTION i = 1) (hsc : v.get CLS_IGR.SC i = c) (hv : v.on SCT_RX.VALID c = true)
    (hl : v.get SCT_RX.LPORT c = lp) (hsci : v.get SCT_RX.SCI c = sci) (h1 : v.mode ≠ mSTANDBY) (h2 : v.mode ≠ mLOCKDOWN) :
    ∃ u b, Moves [CLS_IGR.HITS, ICU_PORT.WAKE] (.cn :: countParts) v u ∧
      v.classifyIn lp d time = (u.count RGN_LPIGR.TO_VALIDATE lp 1).slotSelect c lp d time b := by
  have me := v.smpEligible_moves (regionOfLp lp) (bit (v.get CNT_SMP_PORTS.LP 0) lp)
  let e := v.smpEligible (regionOfLp lp) (bit (v.get CNT_SMP_PORTS.LP 0) lp)
  have m : Moves [CLS_IGR.HITS, ICU_PORT.WAKE] (.cn :: countParts) v (e.2.count CLS_IGR.HITS i 1) :=
    (Moves.refl.also me rfl rfl).also (State.count_moves _ CLS_IGR.HITS i 1) rfl rfl
  have hrule := (me.igrRule rfl lp true sci (beNat (slice d 0 6)) 0x88E5).trans hr
  have htag : (be16 d 12 == 0x88E5) = true := by simpa using ht
  refine ⟨e.2.count CLS_IGR.HITS i 1, e.1, m, ?_⟩
  rw [State.classifyIn]
  simp only [htag]
  rw [if_neg (by simp [hb])]
  simp only [if_true]
  rw [(me.sciOf rfl rfl lp d).trans hs]
  simp only
  rw [hrule]
  simp only
  rw [(m.get (f := CLS_IGR.ACTION) rfl i).trans ha]
  simp only
  have e1 := (m.on (f := SCT_RX.VALID) rfl c).trans hv
  have e2 := (m.get (f := SCT_RX.LPORT) rfl c).trans hl
  have e3 := (m.get (f := SCT_RX.SCI) rfl c).trans hsci
  rw [(m.get (f := CLS_IGR.SC) rfl i).trans hsc, if_neg (by simp),
    if_neg (not_or.mpr ⟨by rw [e1]; decide, not_or.mpr ⟨fun h => h e2, fun h => h e3⟩⟩),
    if_neg (by rw [m.mode rfl]; exact not_or.mpr ⟨h1, h2⟩)]

/-- Slot selection by an ACTIVE slot with the frame's AN. -/
theorem State.slotSelect_puts {c a : Nat} (b : Bool) (ha : v.slotOfAn c (readTag d).an = some a)
    (h : v.effValidate c ≠ 0 ∨ (readTag d).c = true) :
    ∃ x : InItem, v.slotSelect c lp d time b = v.inPut x ∧ x.lp = lp ∧ x.data = d ∧ x.sc = c ∧ x.sa = a ∧ x.stat = .pre := by
  refine ⟨⟨d, lp, time, v.mono, v.steps, c, a, v.effValidate c, v.rxParOf c a, v.on TIM_STATUS.HOLDOVER 0, (readTag d).pn, [], [],
    0, .pre, b⟩, ?_, rfl, rfl, rfl, rfl, rfl⟩
  rw [State.slotSelect, ha]
  simp only
  rw [if_neg]
  rintro ⟨hm, hc⟩
  obtain h | h := h
  · exact h hm
  · rw [h] at hc
    exact Bool.noConfusion hc

end

/-! Reception at a line port (R25, R316). -/

theorem exec_lineFrameReceive (lp : Fin 16) (octets : List Octet) (badCode : Bool) (back : Nat) (s : State) :
    exec (.lineFrameReceive lp octets badCode back) s = finish (s.lineFrame lp.val octets badCode back) := rfl

/-- What a line frame moves, the counters of its outcome apart. -/
abbrev lineAll : List Fld := CLS_IGR.HITS :: GLB_MODE.IN_TRANSITION :: lineRxMoves ++ excMoves
abbrev lineAllParts : List Part := .cl :: .md :: excParts

/-- The counters of frames that are only counted. -/
def lineCounters : List Fld := [RGN_LPIGR.OVERSIZE, RGN_HPCNT.RX_FCS_ERR, RGN_HPCNT.RX_RUNT, RGN_HPCNT.RX_CTRL,
  RGN_LPIGR.D_REGION, RGN_LPIGR.BAD_TAG]

theorem lineCounters_unlisted : ∀ c ∈ lineCounters, listed lineAll c.id = false ∧ pendMoves c = false ∧ c.width = 64 ∧
    [c, ICU_PORT.WAKE].all (fun f => listed (lineCounters ++ lineAll) f.id) = true := by decide

section
variable {s : State} {lp : Fin 16} {octets d : List Octet} {badCode : Bool} {back : Nat} (hcalm : s.calm = true)
include hcalm

/-- A frame that is counted, and goes on to nothing that holds frames. -/
theorem lineFrameReceive_counted {u w : State} {f : Fld} {i : Nat} (hf : f ∈ lineCounters) (mu : Moves lineAll lineAllParts s u)
    (mw : Moves lineAll lineAllParts (u.count f i 1) w) (h : s.lineFrame lp.val octets badCode back = w) :
    ∃ t, exec (.lineFrameReceive lp octets badCode back) s = .next t ∧ t.fr = s.fr ∧ t.get f i = (s.get f i + 1) % 2 ^ 64 := by
  obtain ⟨hl, hp, hw, hall⟩ := lineCounters_unlisted f hf
  have m : Moves (lineCounters ++ lineAll) lineAllParts s w :=
    ((mu.mono rfl rfl).also (u.count_moves f i 1) hall rfl).also mw rfl rfl
  obtain ⟨t, ht, kt⟩ := m.ends hcalm rfl
  refine ⟨t, by rw [exec_lineFrameReceive, h, ht], (kt.fr rfl).trans (m.fr rfl), ?_⟩
  rw [← hw]
  exact mu.counted (mw.also kt rfl rfl) hl hl hp

variable (hu : s.lpUp lp.val = true) (hb : s.mode ≠ mBOOT) (h0 : s.mode ≠ 0)
include hu hb h0

theorem lineFrameReceive_bad {chk : Nat} {f : Fld} {i : Nat} (hc : chk = rxCheck octets badCode 9248)
    (hf : (chk, f, i) ∈ [(1, RGN_LPIGR.OVERSIZE, lp.val), (2, RGN_HPCNT.RX_FCS_ERR, lpIdx lp.val),
      (3, RGN_HPCNT.RX_RUNT, lpIdx lp.val), (4, RGN_HPCNT.RX_CTRL, lpIdx lp.val)]) :
    ∃ t, exec (.lineFrameReceive lp octets badCode back) s = .next t ∧ t.fr = s.fr ∧ t.get f i = (s.get f i + 1) % 2 ^ 64 := by
  refine lineFrameReceive_counted hcalm ?_ .refl .refl (State.lineFrame_bad back hu hb h0 hc hf)
  simp only [List.mem_cons, Prod.mk.injEq, List.not_mem_nil, or_false] at hf
  obtain ⟨-, rfl, -⟩ | ⟨-, rfl, -⟩ | ⟨-, rfl, -⟩ | ⟨-, rfl, -⟩ := hf <;> simp [lineCounters]

variable (hc : rxCheck octets badCode 9248 = 0)
include hc

theorem lineFrameReceive_fenced (hr : s.fenced (regionOfLp lp.val) = true) :
    ∃ t, exec (.lineFrameReceive lp octets badCode back) s = .next t ∧ t.fr = s.fr ∧
      t.get RGN_LPIGR.D_REGION lp.val = (s.get RGN_LPIGR.D_REGION lp.val + 1) % 2 ^ 64 := by
  obtain ⟨v, time, mv, -, h⟩ := State.lineFrame_good back hu hb h0 hc
  rw [if_pos hr] at h
  exact lineFrameReceive_counted hcalm (by decide) (mv.mono rfl rfl) .refl h

variable (hd : d = octets.take (octets.length - 4)) (hr : s.fenced (regionOfLp lp.val) = false)
include hd hr

theorem lineFrameReceive_badTag (ht : be16 d 12 = 0x88E5) (hbad : tagBad d = true) :
    ∃ t, exec (.lineFrameReceive lp octets badCode back) s = .next t ∧ t.fr = s.fr ∧
      t.get RGN_LPIGR.BAD_TAG lp.val = (s.get RGN_LPIGR.BAD_TAG lp.val + 1) % 2 ^ 64 := by
  obtain ⟨v, time, mv, -, h⟩ := State.lineFrame_good back hu hb h0 hc
  rw [if_neg (by simp [hr]), ← hd] at h
  obtain ⟨u, w, mu, mw, hw⟩ := v.classifyIn_badTag lp.val time ht hbad
  exact lineFrameReceive_counted hcalm (by decide) ((mv.mono rfl rfl).also mu rfl rfl) (mw.mono rfl rfl) (h.trans hw)

theorem lineFrameReceive_clears {i hp : Nat} (ht : be16 d 12 ≠ 0x88E5) (hm : s.mode ≠ mLOCKDOWN)
    (hrule : (s.ones CLS_IGR.VALID).find? (s.igrMatch lp.val false 0 (beNat (slice d 0 6)) (be16 d (etypeAt d))) = some i)
    (ha : s.get CLS_IGR.ACTION i = 2) (ho : s.igrClearOk (be16 d (etypeAt d)) = true)
    (hroom : s.igrRoom (regionOfLp lp.val) (cellsOf d) = true) (hhp : hp = s.get CLS_IGR.HPORT i)
    (hlink : s.on RGN_HPORT.LINK hp = true) (hlim : s.hostCells hp < s.get RGN_IGR_POOL.HP_LIMIT (regionOfLp lp.val)) :
    ∃ t, exec (.lineFrameReceive lp octets badCode back) s = .next t ∧
      t.get RGN_HPCNT.RX_FRAMES (lpIdx lp.val) = (s.get RGN_HPCNT.RX_FRAMES (lpIdx lp.val) + 1) % 2 ^ 64 ∧
      t.get RGN_LPIGR.CLEARED lp.val = (s.get RGN_LPIGR.CLEARED lp.val + 1) % 2 ^ 64 ∧
      (Tab.get [] t.fr.hostOut hp).map (fun f => (f.data, f.lp)) =
        (Tab.get [] s.fr.hostOut hp).map (fun f => (f.data, f.lp)) ++ [(d, lp.val)] := by
  obtain ⟨v, time, mv, hrx, h⟩ := State.lineFrame_good back hu hb h0 hc
  rw [if_neg (by simp [hr]), ← hd] at h
  obtain ⟨u, b, ku, hcl⟩ := v.classifyIn_clears lp.val time ht (by rw [mv.mode rfl]; exact hm)
    ((mv.igrRule rfl lp.val false 0 (beNat (slice d 0 6)) (be16 d (etypeAt d))).trans hrule) ((mv.get rfl i).trans ha)
    ((mv.igrClearOk rfl rfl _).trans ho)
  have mu : Moves lineAll lineAllParts s u := (mv.mono rfl rfl).also ku rfl rfl
  have hport : u.get CLS_IGR.HPORT i = hp := (mu.get rfl i).trans hhp.symm
  rw [hport] at hcl
  have hout : u.fr.hostOut = s.fr.hostOut := mu.parts .hostOut rfl
  have hcells : u.hostCells hp = s.hostCells hp := by rw [State.hostCells, State.hostCells, hout]
  have mroom : Moves lineAll (.cn :: countParts) s u := (mv.mono rfl rfl).also ku rfl rfl
  let f : OutFrame := ⟨d, lp.val, none, time, u.mono, u.steps, cellsOf d, regionOfLp lp.val, 0, 0,
    u.on TIM_LP.INGRESS_TC_EN lp.val && (ptpEvent d).isSome, b⟩
  let w : State := { u with fr.hostOut := u.fr.hostOut.set [] hp (Tab.get [] u.fr.hostOut hp ++ [f]) }
  have mw : Moves [] [.hostOut] u w := u.hostOut_moves _
  have hin : s.lineFrame lp.val octets badCode back = w.count RGN_LPIGR.CLEARED lp.val 1 := by
    have hput : u.hostPut hp f = (true, w) := by
      rw [State.hostPut, if_neg]
      rw [mu.on rfl, mu.get (f := RGN_IGR_POOL.HP_LIMIT) rfl, hcells]
      exact not_or.mpr ⟨by simp [hlink], Nat.not_le.mpr hlim⟩
    rw [h, hcl, State.clearIn, if_pos ((mroom.igrRoom rfl rfl _ _).trans hroom), hput]
    rfl
  have mc := w.count_moves RGN_LPIGR.CLEARED lp.val 1
  have m : Moves (RGN_LPIGR.CLEARED :: lineAll) (.hostOut :: lineAllParts) s (w.count RGN_LPIGR.CLEARED lp.val 1) :=
    ((mu.mono rfl rfl).also mw rfl rfl).also mc rfl rfl
  obtain ⟨t, hte, kt⟩ := m.ends hcalm rfl
  refine ⟨t, by rw [exec_lineFrameReceive, hin, hte], ?_, ?_, ?_⟩
  · rw [kt.get rfl, mc.get rfl, mw.get rfl, ku.get rfl, hrx]
  · exact ((mu.mono (fs := lineAll) (ps := .hostOut :: lineAllParts) rfl rfl).also mw rfl rfl).counted kt rfl rfl rfl
  · have e : Tab.get [] t.fr.hostOut hp = Tab.get [] s.fr.hostOut hp ++ [f] := by
      rw [kt.parts .hostOut rfl, mc.parts .hostOut rfl, ← hout]
      exact Tab.get_set_self _ _ _ _
    rw [e, List.map_append]
    rfl

theorem lineFrameReceive_validates {i c a sci : Nat} (ht : be16 d 12 = 0x88E5) (hbad : tagBad d = false)
    (hs : s.sciOf lp.val d = some sci)
    (hrule : (s.ones CLS_IGR.VALID).find? (s.igrMatch lp.val true sci (beNat (slice d 0 6)) 0x88E5) = some i)
    (ha : s.get CLS_IGR.ACTION i = 1) (hsc : c = s.get CLS_IGR.SC i) (hv : s.on SCT_RX.VALID c = true)
    (hl : s.get SCT_RX.LPORT c = lp.val) (hsci : s.get SCT_RX.SCI c = sci) (h1 : s.mode ≠ mSTANDBY) (h2 : s.mode ≠ mLOCKDOWN)
    (han : s.slotOfAn c (readTag d).an = some a) (hm : s.effValidate c ≠ 0 ∨ (readTag d).c = true) :
    ∃ t, exec (.lineFrameReceive lp octets badCode back) s = .next t ∧
      t.get RGN_LPIGR.TO_VALIDATE lp.val = (s.get RGN_LPIGR.TO_VALIDATE lp.val + 1) % 2 ^ 64 ∧
      (t.ig (regionOfLp lp.val)).map (fun x => (x.data, x.sc, x.sa, x.stat)) =
        (s.ig (regionOfLp lp.val)).map (fun x => (x.data, x.sc, x.sa, x.stat)) ++ [(d, c, a, .pre)] := by
  obtain ⟨v, time, mv, -, h⟩ := State.lineFrame_good back hu hb h0 hc
  rw [if_neg (by simp [hr]), ← hd] at h
  obtain ⟨u, b, ku, hcl⟩ := v.classifyIn_validates lp.val time ht hbad ((mv.sciOf rfl rfl _ _).trans hs)
    ((mv.igrRule rfl lp.val true sci (beNat (slice d 0 6)) 0x88E5).trans hrule) ((mv.get rfl i).trans ha)
    ((mv.get rfl i).trans hsc.symm) ((mv.on rfl c).trans hv) ((mv.get rfl c).trans hl) ((mv.get rfl c).trans hsci)
    (by rw [mv.mode rfl]; exact h1) (by rw [mv.mode rfl]; exact h2)
  have mu : Moves lineAll lineAllParts s u := (mv.mono rfl rfl).also ku rfl rfl
  have mc := u.count_moves RGN_LPIGR.TO_VALIDATE lp.val 1
  let w := u.count RGN_LPIGR.TO_VALIDATE lp.val 1
  have mw : Moves (RGN_LPIGR.TO_VALIDATE :: lineAll) lineAllParts s w := (mu.mono rfl rfl).also mc rfl rfl
  obtain ⟨x, hx, hxl, hxd, hxc, hxa, hxs⟩ := w.slotSelect_puts lp.val (d := d) time b ((mw.slotOfAn rfl rfl _ _).trans han)
    (by rw [mw.effValidate rfl rfl rfl]; exact hm)
  have hput : w.inPut x = w.setIg (regionOfLp lp.val) (s.ig (regionOfLp lp.val) ++ [x]) := by
    rw [← hxl, ← ig_eq (mw.parts .ingress rfl)]
    rfl
  have hcw : w.calm = true := (mw.calm rfl).trans hcalm
  have hlist : ∀ y ∈ s.ig (regionOfLp lp.val) ++ [x], y.ready = false := by
    intro y hy
    obtain hy | hy := List.mem_append.mp hy
    · exact ((s.calm_iff.mp hcalm).1 _ (Nat.div_lt_of_lt_mul lp.isLt)).2 y hy
    · rw [List.mem_singleton.mp hy, InItem.ready, hxs]
  have mi := w.setIg_moves (regionOfLp lp.val) (s.ig (regionOfLp lp.val) ++ [x])
  have mz := (w.setIg (regionOfLp lp.val) (s.ig (regionOfLp lp.val) ++ [x])).closed_moves
  refine ⟨_, by rw [exec_lineFrameReceive, h, hcl, hx, hput, finish_calm _ (State.calm_setIg hcw hlist)], ?_, ?_⟩
  · exact mu.counted (((Moves.refl (fs := [ICU_PORT.WAKE, GLB_MODE.IN_TRANSITION]) (ps := .ingress :: lineAllParts)).also mi rfl
      rfl).also mz rfl rfl) rfl rfl rfl
  · rw [State.closed_ig, State.ig_setIg, List.map_append, List.map_singleton, hxd, hxc, hxa, hxs]

end

/-! The replay pre-check (R107, R108, R113). -/

theorem exec_replayPrecheck (r : Region) (s : State) : exec (.replayPrecheck r) s = finish (s.precheck r.val) := rfl

section
variable {s : State} {r : Region} {x : InItem} {l m : List InItem} {low n : Nat} (hc : s.calm = true)
  (hi : s.ig r.val = l ++ x :: m) (hl : ∀ y ∈ l, y.stat ≠ .pre) (hx : x.stat = .pre)
  (hlow : low = s.rxLow x.par.window x.sa)
  (hn : n = recoverPn (decide (2 ≤ x.par.suite)) (readTag x.data).pn low)
include hi hl hx hlow hn

/-- The pre-check takes the first frame that waits for it. -/
theorem State.precheck_first : ∃ drop : State → State,
    (∀ u, Moves smpMoves [.ic, .out, .wraps, .cn] u (drop u)) ∧ s.precheck r.val =
      if x.par.suite < 2 ∧ x.par.replay = true ∧ n < low then
        drop (((s.setIg r.val (l ++ m)).count SCT_RX.IN_LATE x.sc 1).excCopy x.lp 4 x.data x.time x.holdover)
      else if s.igrRoom r.val (cellsLen (builtLen x.data)) = false then
        drop ((s.setIg r.val (l ++ m)).count SCT_RX.D_OVERRUN x.sc 1)
      else s.setIg r.val (l ++ { x with pn := n, stat := .wait } :: m) := by
  refine ⟨fun u => u.smpIn x.sampled (u.get SCT_RX.HPORT x.sc) x.lp x.sc (readTag x.data).an (x.data.length + 4) x.time x.steps
    x.mono n 0 9, fun u => u.smpIn_moves _ _ _ _ _ _ _ _ _ _ _ _, ?_⟩
  have hfind : (Tab.get [] s.fr.ingress r.val).find? (fun x => x.stat == .pre) = some x := by
    rw [show Tab.get [] s.fr.ingress r.val = l ++ x :: m from hi, List.find?_append, List.find?_eq_none.mpr (by simpa using hl)]
    simp [hx]
  have hgone : changeFirst (fun y => y.stat == .pre) (fun _ => none) (Tab.get [] s.fr.ingress r.val) = l ++ m := by
    rw [show Tab.get [] s.fr.ingress r.val = l ++ x :: m from hi, changeFirst_append (by simpa using hl)]
    simp [changeFirst, hx]
  have hwait : changeFirst (fun y => y.stat == .pre) (fun y : InItem => some { y with pn := n, stat := .wait })
      (Tab.get [] s.fr.ingress r.val) = l ++ { x with pn := n, stat := .wait } :: m := by
    rw [show Tab.get [] s.fr.ingress r.val = l ++ x :: m from hi]
    exact changeFirst_at (by simpa using hl) (by simp [hx]) rfl
  have hxpn : decide (2 ≤ x.par.suite) = false ↔ x.par.suite < 2 := by simp
  rw [State.precheck, hfind]
  simp only [← hlow, ← hn, hgone, hwait, hxpn]
  rfl

include hc

omit hl hx hlow hn in
/-- A frame that the pre-check drops is counted. -/
theorem replayPrecheck_drops {f : Fld} {w : State} (hf : f = SCT_RX.IN_LATE ∨ f = SCT_RX.D_OVERRUN)
    (mw : Moves excMoves excParts ((s.setIg r.val (l ++ m)).count f x.sc 1) w) (h : s.precheck r.val = w) :
    ∃ t, exec (.replayPrecheck r) s = .next t ∧ t.ig r.val = l ++ m ∧ t.get f x.sc = (s.get f x.sc + 1) % 2 ^ 64 := by
  have hu : listed (GLB_MODE.IN_TRANSITION :: excMoves) f.id = false ∧ pendMoves f = false ∧ f.width = 64 ∧
      [f, ICU_PORT.WAKE].all (fun g => listed (SCT_RX.IN_LATE :: SCT_RX.D_OVERRUN :: excMoves) g.id) = true := by
    obtain rfl | rfl := hf <;> decide
  obtain ⟨hfl, hp, hwd, hall⟩ := hu
  let u := s.setIg r.val (l ++ m)
  have hnone : ∀ y ∈ l ++ m, y.ready = false := by
    have h := ((s.calm_iff.mp hc).1 r.val r.isLt).2
    rw [hi] at h
    exact fun y hy => h y (by simpa using (List.mem_append.mp hy).imp id Or.inr)
  have m1 : Moves (SCT_RX.IN_LATE :: SCT_RX.D_OVERRUN :: excMoves) excParts u w :=
    (Moves.refl.also (u.count_moves f x.sc 1) hall rfl).also mw rfl rfl
  obtain ⟨t, ht, kt⟩ := m1.ends (State.calm_setIg hc hnone) rfl
  refine ⟨t, by rw [exec_replayPrecheck, h, ht], ?_, ?_⟩
  · rw [ig_eq (kt.parts .ingress rfl), ig_eq (m1.parts .ingress rfl)]
    exact s.ig_setIg _ _
  · rw [← hwd]
    exact (s.setIg_moves r.val (l ++ m)).counted (gs := GLB_MODE.IN_TRANSITION :: excMoves) (qs := lineAllParts)
      ((mw.mono rfl rfl).also kt rfl rfl) rfl hfl hp

/-- The three outcomes of the pre-check. -/
theorem replayPrecheck_outcome :
    ((x.par.suite < 2 ∧ x.par.replay = true ∧ n < low) →
      ∃ t, exec (.replayPrecheck r) s = .next t ∧ t.ig r.val = l ++ m ∧
        t.get SCT_RX.IN_LATE x.sc = (s.get SCT_RX.IN_LATE x.sc + 1) % 2 ^ 64) ∧
    (¬(x.par.suite < 2 ∧ x.par.replay = true ∧ n < low) → s.igrRoom r.val (cellsLen (builtLen x.data)) = false →
      ∃ t, exec (.replayPrecheck r) s = .next t ∧ t.ig r.val = l ++ m ∧
        t.get SCT_RX.D_OVERRUN x.sc = (s.get SCT_RX.D_OVERRUN x.sc + 1) % 2 ^ 64) ∧
    (¬(x.par.suite < 2 ∧ x.par.replay = true ∧ n < low) → s.igrRoom r.val (cellsLen (builtLen x.data)) = true →
      ∃ t, exec (.replayPrecheck r) s = .next t ∧ t.ig r.val = l ++ { x with pn := n, stat := .wait } :: m) := by
  obtain ⟨drop, hdrop, hpre⟩ := State.precheck_first hi hl hx hlow hn
  refine ⟨fun hlate => ?_, fun hok hroom => ?_, fun hok hroom => ?_⟩
  · exact replayPrecheck_drops hc hi (.inl rfl)
      ((State.excCopy_moves _ _ _ _ _ _).also (hdrop _) rfl rfl) (hpre.trans (if_pos hlate))
  · exact replayPrecheck_drops hc hi (.inr rfl) ((hdrop _).mono rfl rfl)
      (hpre.trans ((if_neg hok).trans (if_pos hroom)))
  · have hready : ∀ y ∈ l ++ { x with pn := n, stat := .wait } :: m, y.ready = false := by
      have h := ((s.calm_iff.mp hc).1 r.val r.isLt).2
      rw [hi] at h
      intro y hy
      rw [List.mem_append, List.mem_cons] at hy
      obtain hy | rfl | hy := hy
      · exact h y (by simp [hy])
      · rfl
      · exact h y (by simp [hy])
    have hput := hpre.trans ((if_neg hok).trans (if_neg (by simp [hroom])))
    exact ⟨_, by rw [exec_replayPrecheck, hput, finish_calm _ (State.calm_setIg hc hready)],
      (State.closed_ig _ _).trans (s.ig_setIg _ _)⟩

end

/-- Settles O41, by the frames that leave each port and those that arrive at a line port. -/
theorem framesLeaveAndArrive : Obligations.FramesLeaveAndArrive := by
  refine ⟨⟨?_, ?_, ?_, ?_⟩, ?_, ?_⟩
  · intro s lp cq f rest q tl hc hq hx hl hd he hcar hs hp hw ht
    exact launchHoldExpire_dequeues hc hq hx hl hd he hcar hs hp hw ht
  · intro s lp x l hc hup hq hcar ha
    exact ⟨lineFrameTransmit_sends hc hup hq hcar ha, lineFrameTransmit_steps hc hup hq hcar ha⟩
  · intro s lp x l m n tl hc he ho hst hlp hcar hlate hl ht hp
    exact ⟨launchSlotDeadline_discards hc he ho hst hlp hcar hlate hl ht hp,
      launchSlotDeadline_goes_late hc he ho hst hlp hcar hlate hl ht hp⟩
  · intro s hp hc hup
    exact ⟨fun d rest => hostPortTransmit_pfc hc hup, fun f rest d => hostPortTransmit_frame hc hup⟩
  · intro s lp octets badCode back chk d hc hup hb h0 hchk hd
    refine ⟨fun h => ?_, fun f hf => ?_, fun hz => ?_, fun hz hr => ?_, fun i h hz hr => ?_, fun i c a sci hz hr => ?_⟩
    · exact lineFrameReceive_bad hc hup hb h0 hchk (by simp [h])
    · exact lineFrameReceive_bad hc hup hb h0 hchk (by
        simp only [List.mem_cons, Prod.mk.injEq, List.not_mem_nil, or_false] at hf ⊢
        tauto)
    · exact lineFrameReceive_fenced hc hup hb h0 (hchk.symm.trans hz)
    · exact lineFrameReceive_badTag hc hup hb h0 (hchk.symm.trans hz) hd hr
    · exact lineFrameReceive_clears hc hup hb h0 (hchk.symm.trans hz) hd hr
    · exact lineFrameReceive_validates hc hup hb h0 (hchk.symm.trans hz) hd hr
  · intro s r x l m low n hc hi hl hx hlow hn
    exact replayPrecheck_outcome hc hi hl hx hlow hn

end Sys2Proof.Machine
end
/-! An uncorrectable word of the very counter that counts the uncorrectable words (R342, R343). -/
section
namespace Sys2Proof.Machine

/-- Clearing a counter leaves it zero: its wrap bit moves no counter. -/
theorem State.clearCount_get_self (s : State) {f : Fld} (h : listed [ICU_PORT.WAKE] f.id = false) (i : Nat) :
    (s.clearCount f i).get f i = 0 := by
  rw [State.clearCount, (State.wrapBit_moves (s := s.set f i 0) f i).get h, State.get_set_self, Nat.zero_mod]

/-- The BAR0 offset of the low word of FLT_CNT.SRAM_UNCORR. -/
def uncorrOffset : Nat := reg_FLT_CNT.offset 0 2

/-- The owner is one that the instruction set admits: its offset is a register word's. -/
theorem counter_uncorrOffset_wellFormed : (SramOwner.counter uncorrOffset).wellFormed = true := by decide +kernel

/-- The counter a lost word belongs to, and its index, from the place of the word. -/
theorem place_uncorrOffset : (place false uncorrOffset).map (fun pl => (pl.counter, pl.reg.copy 0 pl.idx)) =
    some (some FLT_CNT.SRAM_UNCORR, 0) := by decide +kernel

theorem State.counterLost_uncorrOffset (s : State) :
    s.counterLost uncorrOffset = s.clearCount FLT_CNT.SRAM_UNCORR 0 := by
  obtain ⟨pl, hpl, he⟩ := Option.map_eq_some_iff.mp place_uncorrOffset
  obtain ⟨hf, hi⟩ := Prod.mk.inj he
  simp only [State.counterLost, hpl, hf, hi]

/-- R343 zeroes the counter whose word is lost, and here that is after the loss was counted. -/
theorem State.sramLost_uncorrOffset (s : State) (mac row : Nat) :
    (s.sramLost (.counter uncorrOffset) mac row).get FLT_CNT.SRAM_UNCORR 0 = 0 := by
  simp only [State.sramLost, State.ownerLost, State.counterLost_uncorrOffset]
  exact State.clearCount_get_self _ rfl 0

/-- The reset state moved to STANDBY. -/
def standby : State := State.reset.set GLB_MODE.MODE 0 2

theorem standby_calm : standby.calm = true := by decide +kernel

theorem exec_sramUncorrectable_standby :
    ∃ t, exec (.sramUncorrectable (.counter uncorrOffset) 0 0) standby = .next t ∧ t.get FLT_CNT.SRAM_UNCORR 0 = 0 := by
  have hc : (standby.sramLost (.counter uncorrOffset) 0 0).calm = true := by decide +kernel
  have he : exec (.sramUncorrectable (.counter uncorrOffset) 0 0) standby =
      finish (standby.sramLost (.counter uncorrOffset) 0 0) := rfl
  refine ⟨_, he.trans (finish_calm _ hc), ?_⟩
  rw [State.closed_get _ rfl, State.sramLost_uncorrOffset]

/-- Refutes O47: where the word that is lost is FLT_CNT.SRAM_UNCORR's own, the loss is counted there and the outcome of R343
then zeroes that counter, so in STANDBY it goes from 0 to 0 and not to 1. -/
theorem not_memoryFaultsAndRegions : ¬ Obligations.MemoryFaultsAndRegions := by
  intro h
  obtain ⟨huncorr, -⟩ := h.1 standby _ standby_calm (by decide) rfl
  obtain ⟨t, hexec, hcount, -⟩ := huncorr (.counter uncorrOffset) 0 0
  obtain ⟨u, hu, hzero⟩ := exec_sramUncorrectable_standby
  obtain rfl : t = u := Host.Outcome.next.inj (hexec.symm.trans hu)
  have hstart : standby.get FLT_CNT.SRAM_UNCORR 0 = 0 := by decide +kernel
  rw [hzero, hstart] at hcount
  exact absurd hcount (by decide)

end Sys2Proof.Machine
end
/-! The rules that hold between commands (R44, R45, R385): every command, and every clock edge, ends in them. -/
section
namespace Sys2Proof.Machine

/-! The parts of the end of a command. -/

/-- The state in which the end of a command looks for a degradation cause. -/
def State.noted (s : State) : State := s.portsCome.degNote

theorem State.closed_eq_settle (s : State) : s.closed = s.noted.settle := rfl

theorem State.noted_moves (s : State) : Moves [ICU_PORT.WAKE] [.ic, .out, .cl, .md] s s.noted :=
  (Moves.refl.also s.portsCome_moves rfl rfl).also (State.degNote_moves _) rfl rfl

theorem State.noted_trans (s : State) : s.noted.md.trans = s.md.trans := by
  rw [State.noted, State.degNote_keep (·.md.trans) (fun _ _ => rfl), s.portsCome_moves.parts .md rfl]

theorem State.noted_yields (s : State) : s.noted.yields = s.yields := by
  rw [State.noted, State.degNote_keep State.yields (fun _ _ => rfl)]
  unfold State.yields State.kclk
  rw [s.portsCome_moves.parts .md rfl, s.portsCome_moves.parts .mono rfl]

/-- A transition in progress that yields to nothing goes on (R47). -/
theorem State.closed_trans_of_unyielding {s : State} (ht : s.md.trans ≠ none) (hy : s.yields = false) :
    s.closed.md.trans = s.md.trans := by
  rw [State.closed_eq_settle, State.settle, if_neg, State.noted_trans]
  rintro ⟨-, -, h | h⟩
  · exact ht (s.noted_trans ▸ h)
  · rw [State.noted_yields, hy] at h
    cases h

/-! What the causes of degradation rest on. -/

theorem Moves.degraded {fs : List Fld} {ps : List Part} {s t : State} (m : Moves fs ps s t)
    (h : [GLB_DEGRADED_CAUSE.REGION_FENCED, GLB_DEGRADED_CAUSE.SLICE_REDUCED, GLB_DEGRADED_CAUSE.FEED_LOST,
      GLB_DEGRADED_CAUSE.MEM_CHANNEL, GLB_DEGRADED_CAUSE.DEEP_FLOOR, GLB_DEGRADED_CAUSE.THERMAL].all
        (fun f => !listed fs f.id) = true) : t.degraded = s.degraded := by
  simp only [List.all_cons, List.all_nil, Bool.and_true, Bool.and_eq_true, Bool.not_eq_true'] at h
  obtain ⟨h1, h2, h3, h4, h5, h6⟩ := h
  unfold State.degraded
  rw [m.get h1, m.get h2, m.get h3, m.get h4, m.get h5, m.get h6]

theorem Moves.portsUp {fs : List Fld} {ps : List Part} {s t : State} (m : Moves fs ps s t)
    (hm : listed fs GLB_MODE.MODE.id = false) (hs : listed fs GLB_BOOT_STATUS.STAGE.id = false)
    (hc : listed fs GLB_BOOT_STATUS.CODE.id = false) : t.portsUp = s.portsUp := by
  unfold State.portsUp
  rw [m.mode hm, m.get hs, m.get hc]

theorem State.settle_degClear (s : State) : s.settle.md.degClear = s.md.degClear := by
  unfold State.settle State.yieldReq
  split
  · split <;> rfl
  · rfl

theorem State.settle_heldSrcs (s : State) : s.settle.cl.heldSrcs = s.cl.heldSrcs := by
  rw [s.settle_moves.parts .cl rfl]

/-! `State.Safe` at the end of a command. -/

/-- No degradation cause is left without its transition (R45). -/
theorem State.settle_degSafe (s : State) : s.settle.degSafe := by
  rintro ⟨hd, hm, ht⟩
  rw [s.settle_moves.degraded rfl] at hd
  rw [s.settle_moves.mode rfl] at hm
  by_cases hc : s.md.trans = none ∨ s.yields = true
  · rw [State.settle, if_pos ⟨hd, hm, hc⟩] at ht
    cases ht
  · rw [State.settle, if_neg (fun h => hc h.2.2)] at ht
    exact hc (.inl ht)

/-- The second without a cause is counted in DEGRADED only (R45). -/
theorem State.degNote_timerSafe (s : State) : s.degNote.timerSafe := by
  intro h
  rw [s.degNote_moves.mode rfl, s.degNote_moves.degraded rfl]
  by_cases hc : s.degraded ≠ 0 ∨ s.mode ≠ mDEGRADED
  · rw [State.degNote, if_pos hc] at h
    exact absurd rfl h
  · tauto

theorem State.settle_timerSafe {s : State} (h : s.timerSafe) : s.settle.timerSafe := by
  intro hc
  rw [State.settle_degClear] at hc
  rw [s.settle_moves.mode rfl, s.settle_moves.degraded rfl]
  exact h hc

/-- No source stays held once the ports are up (R385). -/
theorem State.portsCome_heldSafe (s : State) : s.portsCome.heldSafe := by
  intro h
  rw [s.portsCome_moves.portsUp rfl rfl rfl]
  by_contra hup
  rw [State.portsCome] at h
  split at h
  · exact h rfl
  · rename_i hn
    exact hn ⟨h, by simpa using hup⟩

theorem State.closed_heldSafe (s : State) : s.closed.heldSafe := by
  intro h
  rw [State.closed_eq_settle, State.settle_heldSrcs, State.noted, (State.degNote_moves _).parts .cl rfl] at h
  rw [State.closed_eq_settle, (State.settle_moves _).portsUp rfl rfl rfl, State.noted,
    (State.degNote_moves _).portsUp rfl rfl rfl]
  exact s.portsCome_heldSafe h

/-- Whatever a command did, its end leaves the device in the rules that hold between commands. -/
theorem State.closed_safe (s : State) : s.closed.Safe :=
  ⟨s.noted.settle_degSafe, State.settle_timerSafe s.portsCome.degNote_timerSafe, s.closed_heldSafe⟩

/-! Every step ends that way. -/

/-- Every meaning ends in `done`, one that moves frames through `finish`. -/
theorem exec_closed (i : Instr) (s : State) : ∃ u : State, exec i s = .next u.closed := by
  cases i <;> exact ⟨_, rfl⟩

theorem step_closed (s : State) : ∃ u : State, step s = .next u.closed := by
  unfold step
  split
  · exact exec_closed _ _
  · exact ⟨_, rfl⟩

/-- Settles O5: every step ends in `State.closed`, which leaves each rule true whatever was before. -/
theorem safeKeptByEveryStep : Obligations.SafeKeptByEveryStep := by
  intro s t _ h
  obtain ⟨u, hu⟩ := step_closed s
  obtain rfl := Host.Outcome.next.inj (h.symm.trans hu)
  exact u.closed_safe

/-- Settles O4: at reset no cause stands, no source is held and no frame waits. -/
theorem safeAtReset : Obligations.SafeAtReset := by
  have hdeg : State.reset.degraded = 0 := by decide
  refine ⟨⟨fun h => h.1 hdeg, fun h => absurd rfl h, fun h => absurd rfl h⟩, by decide, by decide⟩

/-- Settles O7: the end of a command and the hints of an access each move what their lemmas of Laws/Ops.lean leave out. -/
theorem endOfCommandFrame : Obligations.EndOfCommandFrame := by
  refine ⟨fun s => ⟨fun f i h => s.closed_get h i, ?_⟩, fun s p b => ⟨fun f i h => s.granted_get p b h i, ?_⟩⟩
  · simpa using fun ht hy => State.closed_trans_of_unyielding (s := s) ht hy
  · simp [State.granted]

end Sys2Proof.Machine
end

/-! The start-up steps 1, 2, 3, 5, 7 and 12 (R60, R61, R346). -/
section
namespace Sys2Proof.Machine

/-! Root slots (R159, R160). -/

/-- Fields that an installation into one of slots 0 to 3 may move. -/
abbrev slotMoves : List Fld := [KST_SLOT.STATE, KST_SLOT.ORPHAN, KST_SLOT.KLEN, KST_SLOT.PARENT, KST_SLOT.HAS_PARENT,
  KST_SLOT.ORIGIN, KST_SLOT.USED, KST_SLOT.GEN, KST_SLOT.PERSISTED, KST_KRAM_ENT.RESTORE_FAIL, KST_SLOT.MASTERS,
  KST_SLOT.WORLDS, KST_SLOT.LCS, KST_SLOT.PURPOSE, KST_SLOT.PERSIST]

section
variable (s : State)

theorem State.persist_moves (slot : Nat) : Moves slotMoves [.ke] s (s.persist slot).2 := by
  unfold State.persist
  split
  · exact ((Moves.refl.also (s.ke_moves _) rfl rfl).also (State.set_moves _ KST_SLOT.PERSISTED slot 1) rfl rfl).also
      (State.set_moves _ KST_KRAM_ENT.RESTORE_FAIL _ 0) rfl rfl
  · exact .refl

/-- Updates of fields of a list move those fields. -/
theorem Moves.sets {fs : List Fld} {ps : List Part} {t : State} (m : Moves fs ps s t) (l : List (Fld × Nat)) (i : Nat)
    (h : l.all (fun x => listed fs x.1.id) = true) : Moves fs ps s (t.each l (fun x u => u.set x.1 i x.2)) := by
  induction l generalizing t with
  | nil => exact m
  | cons x l ih =>
    simp only [List.all_cons, Bool.and_eq_true] at h
    exact ih (m.also (t.set_moves x.1 i x.2) (by simp [h.1]) rfl) h.2

theorem State.slotPlace_moves (slot : Nat) (key : List Octet) (klen origin : Nat) (parent : Option Nat) :
    Moves slotMoves [.ke] s (s.slotPlace slot key klen origin parent) := by
  have h (x : KeyS) := ((Moves.refl (fs := slotMoves)).also (s.ke_moves x) rfl (ps := [.ke]) rfl).sets s
    [(KST_SLOT.STATE, 1), (KST_SLOT.ORPHAN, 0), (KST_SLOT.KLEN, klen), (KST_SLOT.PARENT, parent.getD 0),
      (KST_SLOT.HAS_PARENT, b2n parent.isSome), (KST_SLOT.ORIGIN, origin), (KST_SLOT.USED, 0)] slot rfl
  have hg (x : KeyS) (v : Nat) := (h x).also (State.set_moves _ KST_SLOT.GEN slot v) rfl rfl
  exact .ite ((hg _ _).trans (State.persist_moves _ slot)) (hg _ _)

theorem State.slotFix_moves (slot : Nat) : Moves slotMoves [.ke] s (s.slotFix slot) :=
  Moves.refl.sets s [(KST_SLOT.MASTERS, (fixedAttrs slot).1), (KST_SLOT.WORLDS, (fixedAttrs slot).2.1),
    (KST_SLOT.LCS, (fixedAttrs slot).2.2.1), (KST_SLOT.PURPOSE, (fixedAttrs slot).2.2.2.1),
    (KST_SLOT.PERSIST, (fixedAttrs slot).2.2.2.2)] slot rfl

theorem State.rootSlots_moves : Moves slotMoves [.ke] s s.rootSlots := by
  have h0 := (s.slotFix_moves 0).trans (State.slotPlace_moves _ 0 (s.rootKdf "QX-BIND" 256) 1 1 none)
  have h1 := (h0.trans (State.slotFix_moves _ 1)).trans (State.slotPlace_moves _ 1
    (beBytes 48 (s.slotFixed 0 (s.rootKdf "QX-BIND" 256) 1 1).attestScalar) 2 1 none)
  exact .ite ((h1.trans (State.slotFix_moves _ 3)).sets s [(KST_SLOT.STATE, 1), (KST_SLOT.KLEN, 3)] 3 rfl) h1

/-! A step's number. -/

theorem State.stage_stage (n : Nat) : (s.stage n).get GLB_BOOT_STATUS.STAGE 0 = n % 2 ^ GLB_BOOT_STATUS.STAGE.width :=
  State.get_set_self s _ 0 n

/-- A start-up failure that enters LOCKDOWN leaves the step and shows its code (R61). -/
theorem State.bootLock_stage (code : Nat) :
    (s.bootLock code).get GLB_BOOT_STATUS.STAGE 0 = s.get GLB_BOOT_STATUS.STAGE 0 :=
  (State.begin_get _ _ (by decide) 0).trans (State.get_set_field s (by decide) 0 0 code)

theorem State.bootLock_code (code : Nat) :
    (s.bootLock code).get GLB_BOOT_STATUS.CODE 0 = code % 2 ^ GLB_BOOT_STATUS.CODE.width :=
  (State.begin_get _ _ (by decide) 0).trans (State.get_set_self s _ 0 code)

end

/-! The steps. -/

theorem crystalStable_at_step {s : State} (h : s.startsAt 0 = true) (hr : s.lc.resetLow = false) :
    ∃ t, exec .crystalStable s = .next t ∧ t.get GLB_BOOT_STATUS.STAGE 0 = 1 := by
  refine ⟨s.crystal.closed, rfl, ?_⟩
  rw [State.closed_get _ rfl, State.crystal, h, hr]
  exact State.stage_stage _ 1

/-- Fuses sensed (R379), before the step's outcome shows. -/
def State.fuseSensed (s : State) : State :=
  let s' := if s.lc.coldDue && s.cl.backupNew && decide (255 ≤ s.lc.fuses.logEpoch) then
      { s with lc.coldDue := false, cl.logOff := true, cl.logHeld := [], cl.coalesce := none }
    else if s.lc.coldDue && s.cl.backupNew then
      { s with lc.coldDue := false, lc.fuses.logEpoch := s.lc.fuses.logEpoch + 1, cl.backupNew := false }.logBegin
    else { s with lc.coldDue := false }
  if s.lc.coldDue && s'.cl.dormAlarm then ((s'.set CLM_STATUS.DORMANT_ALARM 0 1).pendClamp 0x42C).clampErase else s'

theorem State.fuseSense_at_step {s : State} (h : s.startsAt 1 = true) (err : Bool) :
    s.fuseSense err =
      if err || (s.lc.coldDue && s.cl.backupNew && decide (255 ≤ s.lc.fuses.logEpoch)) then (s.fuseSensed.stage 2).bootLock 3
      else if s.fuseSensed.lc.fuses.lcs = 4 then (s.fuseSensed.stage 2).bootLock 5
      else if s.fuseSensed.lc.fuses.lcs = 0 then (s.fuseSensed.stage 2).set GLB_BOOT_STATUS.CODE 0 6
      else s.fuseSensed.stage 2 := by
  rw [State.fuseSense, if_pos h]
  rfl

theorem fuseSense_at_step {s : State} (h : s.startsAt 1 = true) (err : Bool) :
    ∃ t, exec (.fuseSense err) s = .next t ∧ t.get GLB_BOOT_STATUS.STAGE 0 = 2 ∧
      (err = true → t.get GLB_BOOT_STATUS.CODE 0 = 3) := by
  have hs : (s.fuseSensed.stage 2).get GLB_BOOT_STATUS.STAGE 0 = 2 := State.stage_stage _ 2
  refine ⟨(s.fuseSense err).closed, rfl, ?_, fun he => ?_⟩ <;> rw [State.closed_get _ rfl, State.fuseSense_at_step h]
  · split_ifs
    · rw [State.bootLock_stage, hs]
    · rw [State.bootLock_stage, hs]
    · rw [State.get_set_field _ (by decide), hs]
    · exact hs
  · rw [he, Bool.true_or, if_pos rfl]
    exact State.bootLock_code _ 3

theorem romSelftest_at_step {s : State} (h : s.startsAt 2 = true) (rom chisel pke : Bool) :
    ∃ t, exec (.romSelftest rom chisel pke) s = .next t ∧ t.get GLB_BOOT_STATUS.STAGE 0 = 3 ∧
      t.get GLB_BOOT_STATUS.CODE 0 = if rom && chisel && pke then 0 else 2 := by
  have e : s.romTest (rom && chisel) pke =
      (let u := if pke then s.stage 3 else (s.stage 3).set PKE_STATUS.STATE 0 2
      if rom && chisel && pke then u.rootSlots else u.bootLock 2) := by
    rw [State.romTest, if_pos h]
  have hu : Moves [PKE_STATUS.STATE] [] (s.stage 3) (if pke then s.stage 3 else (s.stage 3).set PKE_STATUS.STATE 0 2) :=
    .ite .refl (State.set_moves _ _ 0 2)
  have hs : (s.stage 3).get GLB_BOOT_STATUS.STAGE 0 = 3 := State.stage_stage _ 3
  have hc : (s.stage 3).get GLB_BOOT_STATUS.CODE 0 = 0 :=
    (State.get_set_field s (by decide) 0 0 3).trans ((s.startsAt_iff 2).mp h).2.2.1
  refine ⟨(s.romTest (rom && chisel) pke).closed, rfl, ?_, ?_⟩ <;> rw [State.closed_get _ rfl, e]
  · simp only
    split
    · rw [(State.rootSlots_moves _).get rfl, hu.get rfl, hs]
    · rw [State.bootLock_stage, hu.get rfl, hs]
  · simp only
    split
    · rw [(State.rootSlots_moves _).get rfl, hu.get rfl, hc]
    · exact State.bootLock_code _ 2

/-! Step 5: the regions and the channels. -/

/-- Every region becomes ACTIVE, every channel's training begins. -/
def State.sramReady (s : State) : State :=
  let s := s.each (upto 4) (fun r s => s.setRgn r 1)
  let s := { s with ln.modSince := (upto 16).foldl (fun t k => t.set 0 k s.mono) s.ln.modSince }
  s.each (upto 32) (fun c s => s.set MEM_CH.STATE c 1)

theorem State.sramUp_at_step {s : State} (h : s.startsAt 4 = true) : s.sramUp = s.sramReady.stage 5 := by
  rw [State.sramUp, if_pos h]
  rfl

theorem State.regionsActive (s : State) {r : Nat} (h : r < 4) : (s.each (upto 4) (fun r s => s.setRgn r 1)).rgn r = 1 := by
  have e : s.each (upto 4) (fun r s => s.setRgn r 1) = (((s.setRgn 0 1).setRgn 1 1).setRgn 2 1).setRgn 3 1 := rfl
  rw [e]
  interval_cases r <;>
    simp (disch := decide) only [State.setRgn, State.rgn, rgnField, State.get_set_field, State.get_set_self] <;> rfl

theorem State.sramReady_rgn (s : State) {r : Nat} (h : r < 4) : s.sramReady.rgn r = 1 := by
  refine (State.each_keep (fun s => s.rgn r) (upto 32) _ (fun c s => ?_) _).trans (s.regionsActive h)
  interval_cases r <;> exact State.get_set_field s (by decide) 0 c 1

theorem State.sramReady_channel (s : State) {c : Nat} (h : c < 32) : s.sramReady.get MEM_CH.STATE c = 1 :=
  (State.get_each_index (v := fun _ => 1) (fun a s => State.get_set_self s _ a 1)
    (fun _ _ s h => State.get_set_index s _ h 1) (upto 32) _ c).trans (if_pos (mem_upto.mpr h))

theorem sramBistComplete_at_step {s : State} (h : s.startsAt 4 = true) :
    ∃ t, exec .sramBistComplete s = .next t ∧ t.get GLB_BOOT_STATUS.STAGE 0 = 5 ∧ (∀ r < 4, t.rgn r = 1) ∧
      ∀ c < 32, t.get MEM_CH.STATE c = 1 := by
  refine ⟨s.sramUp.closed, rfl, ?_, fun r hr => ?_, fun c hc => ?_⟩
  · rw [State.closed_get _ rfl, State.sramUp_at_step h]
    exact State.stage_stage _ 5
  · have hf : closeMoves (rgnField r) = false := by interval_cases r <;> rfl
    have hn : (rgnField r).id % 2048 ≠ GLB_BOOT_STATUS.STAGE.id % 2048 := by interval_cases r <;> decide
    rw [State.rgn, State.closed_get _ hf, State.sramUp_at_step h, State.stage, State.get_set_field _ hn]
    exact s.sramReady_rgn hr
  · rw [State.closed_get _ rfl, State.sramUp_at_step h, State.stage, State.get_set_field _ (by decide)]
    exact s.sramReady_channel hc

/-! Steps 7 and 12. -/

theorem imageApply_at_step {s : State} (h : s.startsAt 6 = true) {i : Image} (hi : s.jg.image = some i) :
    ∃ t, exec .imageApply s = .next t ∧ t.get GLB_BOOT_STATUS.STAGE 0 = 7 := by
  refine ⟨s.imageApply.closed, rfl, ?_⟩
  rw [State.closed_get _ rfl, State.imageApply, if_pos h, hi]
  exact State.stage_stage _ 7

/-- At step 12 the lanes have nothing to wait for. -/
theorem State.lanesStage_at_step {s : State} (h : s.startsAt 11 = true) : s.lanesStage = s := by
  rw [State.lanesStage, if_neg]
  rintro ⟨-, -, hs, -⟩
  rw [((s.startsAt_iff 11).mp h).2.1] at hs
  exact absurd hs (by decide)

theorem attestationMeasureComplete_at_step {s : State} (h : s.startsAt 11 = true) :
    ∃ t, exec .attestationMeasureComplete s = .next t ∧ t.get GLB_BOOT_STATUS.STAGE 0 = 12 := by
  refine ⟨s.measured.closed, rfl, ?_⟩
  rw [State.closed_get _ rfl, State.measured, State.lanesStage_at_step h, if_pos h]
  exact State.stage_stage _ 12

/-- Settles O9: each step writes its number last, and what it does before leaves the code as it was. -/
theorem startUpStepsComplete : Obligations.StartUpStepsComplete :=
  ⟨fun _ => crystalStable_at_step, fun _ err h => fuseSense_at_step h err,
    fun _ rom chisel pke h => romSelftest_at_step h rom chisel pke, fun _ => sramBistComplete_at_step,
    fun _ _ h hi => imageApply_at_step h hi, fun _ => attestationMeasureComplete_at_step⟩

end Sys2Proof.Machine
end

/-! What a reset keeps and what it sets back (R54 to R56, R381, R417). -/
section
namespace Sys2Proof.Machine

/-! The event log moves its own registers. -/

/-- Fields that an entry of the event log moves. -/
abbrev logMoves : List Fld := [CLM_LOG_NEWEST.V, CLM_LOG_COUNT.COUNT, CLM_LOG_COUNT.NEWEST, ICU_PORT.WAKE]

section
variable (s : State)

theorem State.logStore_moves (n : Nat) (e : LogEntry) : Moves logMoves [.cl, .ic, .out] s (s.logStore n e) := by
  have h (x : ClmS) (a b c : Nat) := (((Moves.refl (fs := logMoves) (ps := [.cl, .ic, .out])).also (s.cl_moves x) rfl rfl).also
    (State.set_moves _ CLM_LOG_NEWEST.V 0 a) rfl rfl).also (State.set_moves _ CLM_LOG_COUNT.COUNT 0 b) rfl rfl |>.also
    (State.set_moves _ CLM_LOG_COUNT.NEWEST 0 c) rfl rfl
  exact .ite (Moves.refl.also (s.cl_moves _) rfl rfl) (.ite ((h _ _ _ _).also (State.pend_moves _ _) rfl rfl) (h _ _ _ _))

theorem State.logAs_moves (typ resp classes src flags time : Nat) (d : List Octet) :
    Moves logMoves [.cl, .ic, .out] s (s.logAs typ resp classes src flags time d) := by
  have h (x : ClmS) := (Moves.refl (fs := logMoves) (ps := [.cl, .ic, .out])).also (s.cl_moves x) rfl rfl
  exact .ite .refl (.ite ((h _).also (State.cl_moves _ _) rfl rfl) ((h _).trans (State.logStore_moves _ _ _)))

theorem State.logEvent_moves (typ src : Nat) (d : List Octet) : Moves logMoves [.cl, .ic, .out] s (s.logEvent typ src d) :=
  s.logAs_moves _ _ _ _ _ _ _

theorem State.logLate_moves (typ src : Nat) (d : List Octet) : Moves logMoves [.cl, .ic, .out] s (s.logLate typ src d) :=
  s.logAs_moves _ _ _ _ _ _ _

theorem State.logMode_moves : Moves logMoves [.cl, .ic, .out] s s.logMode := s.logEvent_moves _ _ _

theorem State.resumeStop_moves : Moves [GLB_TX_RESUME.V] [] s s.resumeStop := .ite .refl (s.set_moves _ _ _)

theorem State.pinsFrom_moves (old : State) : Moves [] [.out] s (s.pinsFrom old) :=
  Moves.each .refl (fun _ t => .ite .refl (t.emit_moves _))

/-! What of the register store is kept. -/

theorem Tab.get_keptBelow {b k : Nat} (h : b ≤ k % 2048) (t : Tab Nat) : Tab.get 0 (keptBelow b t) k = 0 := by
  induction t with
  | nil => rfl
  | cons x t ih =>
    obtain ⟨i, v⟩ := x
    rw [keptBelow, List.filter_cons]
    split
    · rename_i hi
      have hne : i ≠ k := by
        rintro rfl
        simp only [decide_eq_true_eq] at hi
        omega
      simpa [Tab.get, hne, keptBelow] using ih
    · exact ih

theorem Tab.get_putAll {l : Tab Nat} {k : Nat} (h : ∀ x ∈ l, x.1 ≠ k) (t : Tab Nat) :
    Tab.get 0 (putAll l t) k = Tab.get 0 t k := by
  induction l generalizing t with
  | nil => rfl
  | cons x l ih =>
    refine (ih (fun y hy => h y (List.mem_cons_of_mem x hy)) (t.insert x.1 x.2)).trans ?_
    rw [Tab.get_insert, if_neg (h x (List.mem_cons_self ..)).symm]

/-- A field numbered past those that a reset keeps reads its reset value after it. -/
theorem State.get_of_kept {s t : State} {b : Nat} (hr : t.regs = putAll ppeSpareReset (keptBelow b s.regs)) {f : Fld}
    (hb : b ≤ f.id % 2048) (hp : f.id % 2048 ≠ RGN_PPE_STATUS.STATE.id) (i : Nat) : t.get f i = f.reset % 2 ^ f.width := by
  have hk : f.key i % 2048 = f.id % 2048 := Nat.mul_add_mod' ..
  have hid : ∀ x ∈ ppeSpareReset, x.1 % 2048 = RGN_PPE_STATUS.STATE.id := by decide
  have hspare : ∀ x ∈ ppeSpareReset, x.1 ≠ f.key i := fun x hx e => hp (hk.symm.trans (e ▸ hid x hx))
  rw [State.get, hr, Tab.get_putAll hspare, Tab.get_keptBelow (hk ▸ hb), Nat.zero_xor]

/-! A warm reset. -/

/-- The state after a warm reset before the registers outside the reset are put back. -/
def State.warmBase (s : State) : State :=
  { s.coldKept with
    regs := putAll ppeSpareReset (keptBelow Fld.warmBound s.regs)
    wraps := keptBelow Fld.warmBound s.wraps
    now := s.now
    tm := { s.tm with incrLow := [], txq := [], pulseEnd := [] }
    ke.bootDone := s.ke.bootDone
    att.attCount := s.att.attCount
    lc.coldDue := s.lc.coldDue
    lc.resetLow := s.lc.resetLow
    ln.modActive := s.ln.modActive
    cl.trips := s.cl.trips, cl.braceAt := s.cl.braceAt, cl.armedOff := s.cl.armedOff, cl.eraseDue := s.cl.eraseDue
    cl.logOff := s.cl.logOff, cl.backupNew := s.cl.backupNew }

/-- Fields that a warm reset puts back. -/
abbrev warmMoves : List Fld := [CLM_LOG_NEWEST.V, CLM_LOG_COUNT.COUNT, CLM_LOG_COUNT.NEWEST, CLM_STATUS.PREERASED,
  CLM_STATUS.REFOSC, GLB_DEGRADED_CAUSE.FEED_LOST, GLB_DEGRADED_CAUSE.THERMAL, RGN_LPORT.MOD_PRESENT, RGN_LPORT.MOD_STATE,
  GLB_SEM_LOST.V, TIM_STATUS.VALID_SRC] ++ physical

/-- Registers of a list are put back one by one. -/
theorem Moves.putBack {fs : List Fld} {ps : List Part} {s t : State} (m : Moves fs ps s t) (l : List Fld) (v : Fld → Nat)
    (i : Nat) (h : l.all (fun f => listed fs f.id) = true) : Moves fs ps s (t.each l (fun f r => r.set f i (v f))) := by
  induction l generalizing t with
  | nil => exact m
  | cons f l ih =>
    simp only [List.all_cons, Bool.and_eq_true] at h
    exact ih (m.also (t.set_moves f i (v f)) (by simp [h.1]) rfl) h.2

theorem State.warmKept_moves : Moves warmMoves [] s.warmBase s.warmKept := by
  have h0 := (Moves.refl (fs := warmMoves) (ps := []) (s := s.warmBase)).putBack [CLM_LOG_NEWEST.V, CLM_LOG_COUNT.COUNT,
    CLM_LOG_COUNT.NEWEST, CLM_STATUS.PREERASED, CLM_STATUS.REFOSC, GLB_DEGRADED_CAUSE.FEED_LOST,
    GLB_DEGRADED_CAUSE.THERMAL] (fun f => s.get f 0) 0 rfl
  have h1 := h0.each (l := (upto 16).filter (fun k => s.on RGN_LPORT.MOD_PRESENT (32 + k)))
    (g := fun k r => (r.set RGN_LPORT.MOD_PRESENT (32 + k) 1).set RGN_LPORT.MOD_STATE (32 + k) 1)
    (fun k u => (Moves.refl.also (u.set_moves RGN_LPORT.MOD_PRESENT _ 1) rfl rfl).also
      (State.set_moves _ RGN_LPORT.MOD_STATE _ 1) rfl rfl)
  have h2 := h1.each (l := upto 7) (g := fun g r => r.each physical (fun f r => r.set f g (s.get f g)))
    (fun g u => Moves.refl.putBack physical (fun f => s.get f g) g rfl)
  have h3 := h2.each (l := upto 32) (g := fun n r => if s.on GLB_SEM.OWNED n then
      r.set GLB_SEM_LOST.V (s.get GLB_SEM.OWNER n) (setBit (r.get GLB_SEM_LOST.V (s.get GLB_SEM.OWNER n)) n) else r)
    (fun n u => .ite (Moves.refl.also (u.set_moves GLB_SEM_LOST.V _ _) rfl rfl) .refl)
  exact .ite (h3.also (State.set_moves _ TIM_STATUS.VALID_SRC 0 3) rfl rfl) h3

/-- The device as a warm reset finds it: the resume time written, the reset recorded, the ICU configuration retained. -/
def State.warmFound (s : State) (detail : Nat) (late : Bool) : State :=
  let s := s.resumeStop
  let d := leBytes 1 detail
  let s := if late then s.logLate 0x0003 noSrc d else s.logEvent 0x0003 noSrc d
  { s with ic.retained := retention s.regs }

theorem State.warmFound_moves (detail : Nat) (late : Bool) :
    Moves (GLB_TX_RESUME.V :: logMoves) [.cl, .ic, .out] s (s.warmFound detail late) := by
  have h : Moves (GLB_TX_RESUME.V :: logMoves) [.cl, .ic, .out] s s.resumeStop :=
    Moves.refl.also s.resumeStop_moves rfl rfl
  exact (Moves.ite (h.also (State.logLate_moves _ _ _ _) rfl rfl) (h.also (State.logEvent_moves _ _ _ _) rfl rfl)).also
    (State.ic_moves _ _ (fun _ h => h)) rfl rfl

/-- From the registers put back to the end of a warm reset. -/
theorem State.warmNow_moves (detail : Nat) (late : Bool) :
    Moves (GLB_MODE.PREV :: logMoves) [.cl, .ic, .out]
      { (s.warmFound detail late).warmKept with lc.bootAt := (s.warmFound detail late).mono } (s.warmNow detail late) :=
  ((Moves.refl.also (State.set_moves _ GLB_MODE.PREV 0 _) rfl rfl).also (State.logMode_moves _) rfl rfl).also
    (State.pinsFrom_moves _ _) rfl rfl

section
variable (detail : Nat) (late : Bool)

/-- A field inside the reset that the reset does not put back reads its reset value. -/
theorem State.warmNow_get {f : Fld} (hb : Fld.warmBound ≤ f.id % 2048) (hp : f.id % 2048 ≠ RGN_PPE_STATUS.STATE.id)
    (hl : listed (GLB_MODE.PREV :: logMoves) f.id = false) (hw : listed warmMoves f.id = false) (i : Nat) :
    (s.warmNow detail late).get f i = f.reset % 2 ^ f.width := by
  rw [(s.warmNow_moves detail late).get hl]
  exact ((s.warmFound detail late).warmKept_moves.get hw i).trans (State.get_of_kept rfl hb hp i)

/-- A warm reset begins start-up again (R45). -/
theorem State.warmNow_mode : (s.warmNow detail late).mode = mBOOT :=
  s.warmNow_get detail late (by decide) (by decide) rfl rfl 0

theorem State.warmNow_stage : (s.warmNow detail late).get GLB_BOOT_STATUS.STAGE 0 = 0 :=
  s.warmNow_get detail late (by decide) (by decide) rfl rfl 0

/-- Network time is outside a warm reset (R54). -/
theorem State.warmNow_now : (s.warmNow detail late).now = s.now := by
  rw [(s.warmNow_moves detail late).parts .now rfl]
  exact ((s.warmFound detail late).warmKept_moves.parts .now rfl).trans ((s.warmFound_moves detail late).parts .now rfl)

theorem State.warmNow_ke : (s.warmNow detail late).ke = { KeyS.reset with kram := s.ke.kram, bootDone := s.ke.bootDone } := by
  rw [(s.warmNow_moves detail late).parts .ke rfl, ← (s.warmFound_moves detail late).parts .ke rfl]
  exact (s.warmFound detail late).warmKept_moves.parts .ke rfl

/-- Fuses blown are in force after the reset; a life-cycle change and a scheduled reset are over (R49, R55). -/
theorem State.warmNow_lc : (s.warmNow detail late).lc.fuses = s.burnt ∧ (s.warmNow detail late).lc.lcyJob = none ∧
    (s.warmNow detail late).lc.warmAt = none ∧ (s.warmNow detail late).lc.resetLow = s.lc.resetLow := by
  have hlc : (s.warmFound detail late).lc = s.lc := (s.warmFound_moves detail late).parts .lc rfl
  have hb : (s.warmFound detail late).burnt = s.burnt := by rw [State.burnt, State.burnt, hlc]
  have hk : (s.warmFound detail late).warmKept.lc = (s.warmFound detail late).warmBase.lc :=
    (s.warmFound detail late).warmKept_moves.parts .lc rfl
  rw [(s.warmNow_moves detail late).parts .lc rfl, ← hb, ← hlc]
  simp only [hk]
  exact ⟨rfl, rfl, rfl, rfl⟩

end

theorem State.yieldReq_of_idle {s : State} (h : s.md.trans = none) : s.yieldReq = s := by
  rw [State.yieldReq, if_neg]
  simp [State.yields, h]

/-- Outside DORMANT, with no transition in progress, a trigger resets at once (R47, R55). -/
theorem State.warmReset_of_idle {s : State} (hm : s.mode ≠ 0) (ht : s.md.trans = none) (detail : Nat) (late : Bool) :
    s.warmReset detail late = s.warmNow detail late := by
  rw [State.warmReset, if_neg hm, State.yieldReq_of_idle ht]
  simp only
  rw [if_neg (not_not.mpr ht)]

end
end Sys2Proof.Machine
end

/-! The pins of power and reset (R45, R54, R59, R460, R463). -/
section
namespace Sys2Proof.Machine

@[simp] theorem State.closed_mode (s : State) : s.closed.mode = s.mode := s.closed_get rfl 0

/-! Cold resets. -/

/-- The fields that tell what the feeds are. -/
abbrev feedMoves : List Fld := [FLT_BRACE_STATUS.A_GOOD, FLT_BRACE_STATUS.B_GOOD, FLT_BRACE_STATUS.ACTIVE,
  FLT_BRACE_STATUS.REDUNDANT, GLB_DEGRADED_CAUSE.FEED_LOST]

section
variable (s : State)

theorem State.feedsAre_moves (a b : Nat) : Moves feedMoves [] s (s.feedsAre a b) := by
  refine Moves.also ?_ (State.set_moves _ GLB_DEGRADED_CAUSE.FEED_LOST 0 _) rfl rfl
  exact Moves.each .refl (fun g u => (((Moves.refl.also (u.set_moves FLT_BRACE_STATUS.A_GOOD g _) rfl rfl).also
    (State.set_moves _ FLT_BRACE_STATUS.B_GOOD g _) rfl rfl).also (State.set_moves _ FLT_BRACE_STATUS.ACTIVE g _) rfl rfl).also
    (State.set_moves _ FLT_BRACE_STATUS.REDUNDANT g _) rfl rfl)

theorem State.coldNew_get {f : Fld} (hp : f.id % 2048 ≠ RGN_PPE_STATUS.STATE.id) (i : Nat) :
    s.coldNew.get f i = f.reset % 2 ^ f.width := State.reset_get hp i

/-- A field past the backup domain reads its reset value after a cold reset, but for the place of the log. -/
theorem State.coldKept_get {f : Fld} (hb : Fld.backupBound ≤ f.id % 2048) (hp : f.id % 2048 ≠ RGN_PPE_STATUS.STATE.id)
    (hl : ∀ g ∈ [CLM_LOG_NEWEST.V, CLM_LOG_COUNT.COUNT, CLM_LOG_COUNT.NEWEST], f.id % 2048 ≠ g.id % 2048) (i : Nat) :
    s.coldKept.get f i = f.reset % 2 ^ f.width := by
  simp only [List.mem_cons, List.not_mem_nil, or_false, forall_eq_or_imp, forall_eq] at hl
  obtain ⟨h1, h2, h3⟩ := hl
  rw [State.coldKept, State.get_set_field _ h3, State.get_set_field _ h2, State.get_set_field _ h1]
  exact State.get_of_kept rfl hb hp i

/-- The state after a cold reset, the backup domain new or kept. -/
def State.coldStart (new : Bool) : State := if new then s.coldNew else s.coldKept

theorem State.coldStart_get (new : Bool) {f : Fld} (hb : Fld.backupBound ≤ f.id % 2048)
    (hp : f.id % 2048 ≠ RGN_PPE_STATUS.STATE.id)
    (hl : ∀ g ∈ [CLM_LOG_NEWEST.V, CLM_LOG_COUNT.COUNT, CLM_LOG_COUNT.NEWEST], f.id % 2048 ≠ g.id % 2048) (i : Nat) :
    (s.coldStart new).get f i = f.reset % 2 ^ f.width := by
  cases new
  · exact s.coldKept_get hb hp hl i
  · exact s.coldNew_get hp i

theorem State.coldStart_mono (new : Bool) : (s.coldStart new).mono = s.mono := by cases new <;> rfl

theorem State.coldStart_fuses (new : Bool) : (s.coldStart new).lc.fuses = s.burnt := by cases new <;> rfl

/-- A cold reset leaves no frame and no alarm. -/
theorem State.coldStart_calm (new : Bool) : (s.coldStart new).calm = true := by
  have h : State.reset.calm = true := by decide
  refine (State.calm_parts ?_ ?_ ?_).trans h <;> cases new <;> rfl

/-! POWER_GOOD. -/

/-- The state that power leaves before the cold start is recorded. -/
def State.powerBack (a b : Nat) (new low : Bool) : State :=
  { (s.coldStart new).feedsAre a b with lc.resetLow := low, lc.bootAt := s.mono }

theorem State.powerBack_moves (a b : Nat) (new low : Bool) :
    Moves feedMoves [.lc] (s.coldStart new) (s.powerBack a b new low) :=
  (Moves.refl.also (State.feedsAre_moves _ a b) rfl rfl).also (State.lc_moves _ _) rfl rfl

/-- Power that comes with every group fed resets the device, which records it but in a new backup domain (R379). -/
theorem State.powerGood_starts {s : State} {a b : Nat} (kept low : Bool)
    (hm : s.mode = 0 ∨ (s.mode = mBOOT ∧ s.get GLB_BOOT_STATUS.STAGE 0 = 0))
    (hf : (upto 7).all (fun g => bit a g || bit b g) = true) :
    Moves logMoves [.cl, .ic, .out] (s.powerBack a b (!kept || s.cl.backupNew) low) (s.powerGood a b kept low) := by
  rw [State.powerGood, if_pos ⟨hm, hf⟩]
  exact .ite .refl ((State.logEvent_moves _ _ _ _).trans (State.logMode_moves _))

end

theorem powerGood_starts {s : State} {a b : Nat} (kept low : Bool)
    (hm : s.mode = 0 ∨ (s.mode = mBOOT ∧ s.get GLB_BOOT_STATUS.STAGE 0 = 0))
    (hf : (upto 7).all (fun g => bit a g || bit b g) = true) :
    ∃ t, exec (.powerGood a b kept low) s = .next t ∧ t.mode = mBOOT ∧ t.get GLB_BOOT_STATUS.STAGE 0 = 0 ∧
      t.lc.resetLow = low ∧ t.mono = s.mono := by
  have m := State.powerGood_starts kept low hm hf
  have mb := s.powerBack_moves a b (!kept || s.cl.backupNew) low
  refine ⟨(s.powerGood a b kept low).closed, rfl, ?_, ?_, ?_, ?_⟩
  · rw [State.closed_mode, m.mode rfl, mb.mode rfl]
    exact State.coldStart_get s _ (by decide) (by decide) (by decide) 0
  · rw [State.closed_get _ rfl, m.get rfl, mb.get rfl]
    exact State.coldStart_get s _ (by decide) (by decide) (by decide) 0
  · rw [State.closed_lc, m.parts .lc rfl]
    rfl
  · rw [State.closed_mono, m.parts .mono rfl, mb.parts .mono rfl, State.coldStart_mono]

theorem powerGood_unfed {s : State} {a b : Nat} (kept low : Bool)
    (hf : (upto 7).all (fun g => bit a g || bit b g) = false) :
    ∃ t, exec (.powerGood a b kept low) s = .next t ∧ t.mode = s.mode := by
  refine ⟨(s.powerGood a b kept low).closed, rfl, ?_⟩
  rw [State.closed_mode, State.powerGood, if_neg (by simp [hf])]

/-! The loss of the core rail (R45, R460). -/

/-- The device as the loss of the core rail finds it. -/
def State.coreFound (s : State) : State :=
  let s := s.logEvent 0x0004 noSrc (leBytes 4 (s.rtcNow % 2 ^ 32))
  { s with ic.retained := retention s.regs }

theorem State.coreFound_moves (s : State) : Moves logMoves [.cl, .ic, .out] s s.coreFound :=
  (s.logEvent_moves _ _ _).also (State.ic_moves _ _ (fun _ h => h)) rfl rfl

theorem State.coreLoss_eq {s : State} (h : s.mode ≠ 0) : s.coreLoss =
    (let r := s.coreFound.coldStart (s.coreFound.lc.coldDue && s.coreFound.cl.backupNew)
    { (r.set GLB_MODE.MODE 0 0).set GLB_MODE.PREV 0 s.coreFound.mode with
      cl.dormNow := s.coreFound.now, cl.dormMono := s.coreFound.mono, cl.dormInvalid := !s.coreFound.on TIM_STATUS.VALID 0
      cl.backupNew := s.coreFound.cl.backupNew, cl.armedOff := s.coreFound.cl.armedOff }) := by
  rw [State.coreLoss, if_neg h]
  rfl

/-- The loss of the core rail leads to DORMANT; the time of it is kept, and the fuses that were blown (R49, R381). -/
theorem State.coreLoss_dormant {s : State} (h : s.mode ≠ 0) :
    s.coreLoss.mode = 0 ∧ s.coreLoss.cl.dormNow = s.now ∧ s.coreLoss.lc.fuses = s.burnt ∧ s.coreLoss.calm = true := by
  have hlc : s.coreFound.lc = s.lc := s.coreFound_moves.parts .lc rfl
  have hb : s.coreFound.burnt = s.burnt := by rw [State.burnt, State.burnt, hlc]
  rw [State.coreLoss_eq h]
  refine ⟨?_, s.coreFound_moves.parts .now rfl, (s.coreFound.coldStart_fuses _).trans hb, s.coreFound.coldStart_calm _⟩
  exact (State.get_set_field _ (by decide) 0 0 _).trans (State.get_set_self _ _ 0 0)

theorem coreRailLoss_dormant {s : State} (h : s.mode ≠ 0) :
    ∃ t, exec .coreRailLoss s = .next t ∧ t.mode = 0 ∧ t.cl.dormNow = s.now ∧ t.lc.fuses = s.burnt := by
  obtain ⟨hm, hn, hf, -⟩ := State.coreLoss_dormant h
  exact ⟨s.coreLoss.closed, rfl, by rw [State.closed_mode, hm], by rw [State.closed_cl_dormNow, hn], by rw [State.closed_lc, hf]⟩

theorem coreGroupLoss_dormant {s : State} (h : s.mode ≠ 0) :
    ∃ t, exec (.railGroupLoss 0) s = .next t ∧ t.mode = 0 ∧ t.cl.dormNow = s.now := by
  obtain ⟨hm, hn, -, hc⟩ := State.coreLoss_dormant h
  exact ⟨s.coreLoss.closed, finish_calm s.coreLoss hc, by rw [State.closed_mode, hm], by rw [State.closed_cl_dormNow, hn]⟩

/-! The loss of another group (R20, R460). -/

theorem State.feedSet_moves (s : State) (g : Nat) (f : Feed) (v : Bool) :
    Moves (ICU_PORT.WAKE :: feedMoves) [.ic, .out] s (s.feedSet g f v) := by
  have hg : Moves (ICU_PORT.WAKE :: feedMoves) [.ic, .out] s (s.set (goodF f) g (b2n v)) := by
    cases f <;> exact Moves.refl.also (s.set_moves _ g _) rfl rfl
  have hr (n : Nat) := hg.also (State.set_moves _ FLT_BRACE_STATUS.REDUNDANT g n) rfl rfl
  exact .ite .refl ((Moves.ite ((hr _).also (State.pend_moves _ _) rfl rfl)
    (.ite ((hr _).also (State.pend_moves _ _) rfl rfl) (hr _))).also
    (State.set_moves _ GLB_DEGRADED_CAUSE.FEED_LOST 0 _) rfl rfl)

/-- A LOCKDOWN trigger that finds no transition in progress starts LOCKDOWN (R45, R48). -/
theorem State.lockdown_begins {s : State} (h0 : s.mode ≠ 0) (hb : s.mode ≠ mBOOT) (hl : s.mode ≠ mLOCKDOWN)
    (ht : s.md.trans = none) (cause : Nat) :
    (s.lockdown cause).md.trans = some ⟨mLOCKDOWN, mLOCKDOWN, cause, [6]⟩ ∧ (s.lockdown cause).md.cycBegan = false := by
  rw [State.lockdown, if_neg hb, if_neg (by tauto), State.yieldReq_of_idle ht]
  have e : (if s.md.pendReq = none then s else { s.set GLB_MODE_REQ.RESULT 0 5 with md.pendReq := none }).md.trans = none := by
    split <;> exact ht
  simp only [e]
  exact ⟨rfl, rfl⟩

theorem State.lockdown_moves (s : State) (cause : Nat) :
    Moves [GLB_MODE_REQ.RESULT, GLB_MODE.IN_TRANSITION] [.md] s (s.lockdown cause) := by
  have hy : Moves [GLB_MODE_REQ.RESULT, GLB_MODE.IN_TRANSITION] [.md] s s.yieldReq := Moves.refl.also s.yieldReq_moves rfl rfl
  have hq := Moves.ite (c := s.yieldReq.md.pendReq = none) hy
    ((hy.also (State.set_moves _ GLB_MODE_REQ.RESULT 0 5) rfl rfl).also
      (State.md_moves _ { s.yieldReq.md with pendReq := none }) rfl rfl)
  unfold State.lockdown
  refine .ite (s.md_moves _ |>.mono rfl rfl) (.ite .refl ?_)
  simp only
  split
  · exact (hq.also (State.md_moves _ _) rfl rfl).also (State.begin_moves _ _) rfl rfl
  · exact .ite hq (hq.also (State.md_moves _ _) rfl rfl)

/-- A transition that a trigger has begun is in progress when the command ends. -/
theorem State.closed_trans_begun {s : State} {x : Trans} (ht : s.md.trans = some x) (hc : s.md.cycBegan = false) :
    s.closed.md.trans = some x := by
  rw [State.closed_trans_of_unyielding (by rw [ht]; exact Option.some_ne_none x) (by simp [State.yields, hc]), ht]

theorem railGroupLoss_lockdown {s : State} {g : Fin 7} (hc : s.calm = true) (hg : g.val ≠ 0)
    (hm : s.mode ≠ 0 ∧ s.mode ≠ mBOOT ∧ s.mode ≠ mLOCKDOWN) (ht : s.md.trans = none) :
    ∃ t, exec (.railGroupLoss g) s = .next t ∧ t.md.trans = some ⟨mLOCKDOWN, mLOCKDOWN, 9, [6]⟩ := by
  obtain ⟨h0, hb, hl⟩ := hm
  have m : Moves (ICU_PORT.WAKE :: feedMoves) [.ic, .out] s ((s.feedSet g.val .a false).feedSet g.val .b false) :=
    (s.feedSet_moves g.val .a false).trans (State.feedSet_moves _ g.val .b false)
  have hmode := m.mode rfl
  obtain ⟨hx, hy⟩ := State.lockdown_begins (by rwa [hmode]) (by rwa [hmode]) (by rwa [hmode])
    ((congrArg ModeS.trans (m.parts .md rfl)).trans ht) 9
  have e : exec (.railGroupLoss g) s = finish (((s.feedSet g.val .a false).feedSet g.val .b false).lockdown 9) := by
    show execRailGroupLoss g s = _
    rw [execRailGroupLoss, if_neg hg, State.powered, if_neg h0]
  have hcalm := ((State.lockdown_moves _ 9).calm rfl).trans ((m.calm rfl).trans hc)
  exact ⟨_, e.trans (finish_calm _ hcalm), State.closed_trans_begun hx hy⟩

/-! RESET_N (R54, R463). -/

theorem resetNAssert_restarts {s : State} (hm : s.mode ≠ 0) (ht : s.md.trans = none) :
    ∃ t, exec .resetNAssert s = .next t ∧ t.mode = mBOOT ∧ t.get GLB_BOOT_STATUS.STAGE 0 = 0 ∧ t.lc.resetLow = true ∧
      t.now = s.now ∧ t.lc.fuses = s.burnt := by
  have e : s.resetN = { s with lc.resetLow := true }.warmNow 1 false := by
    rw [State.resetN, if_neg hm]
    exact State.warmReset_of_idle (s := { s with lc.resetLow := true }) hm ht 1 false
  obtain ⟨hf, -, -, hl⟩ := State.warmNow_lc { s with lc.resetLow := true } 1 false
  refine ⟨s.resetN.closed, rfl, ?_, ?_, ?_, ?_, ?_⟩
  · rw [State.closed_mode, e, State.warmNow_mode]
  · rw [State.closed_get _ rfl, e, State.warmNow_stage]
  · rw [State.closed_lc, e, hl]
  · rw [State.closed_now, e, State.warmNow_now]
  · rw [State.closed_lc, e, hf]
    rfl

theorem resetNRelease_keeps (s : State) :
    ∃ t, exec .resetNRelease s = .next t ∧ t.lc.resetLow = false ∧
      ∀ (f : Fld) (i : Nat), closeMoves f = false → t.get f i = s.get f i := by
  refine ⟨s.resetNOff.closed, rfl, ?_, fun f i h => s.resetNOff.closed_get h i⟩
  rw [State.closed_lc]
  rfl

/-- Settles O11, by what a cold and a warm reset keep and by the LOCKDOWN that a lost group starts. -/
theorem powerAndResetPins : Obligations.PowerAndResetPins :=
  ⟨fun _ _ _ kept low => ⟨powerGood_starts kept low, powerGood_unfed kept low⟩,
    fun _ h => ⟨coreRailLoss_dormant h, fun _ => coreGroupLoss_dormant h⟩,
    fun _ _ => railGroupLoss_lockdown, fun _ => resetNAssert_restarts, resetNRelease_keeps⟩

end Sys2Proof.Machine
end

/-! Warm resets by register and by time, and the transmit resume time (R55, R56, R58). -/
section
namespace Sys2Proof.Machine

/-! What the hints of an access leave. -/

@[simp] theorem State.granted_md (s : State) (p : Nat) (b : Bool) : (s.granted p b).md = s.md := by simp [State.granted]
@[simp] theorem State.granted_lc (s : State) (p : Nat) (b : Bool) : (s.granted p b).lc = s.lc := by simp [State.granted]
@[simp] theorem State.granted_now (s : State) (p : Nat) (b : Bool) : (s.granted p b).now = s.now := by simp [State.granted]
@[simp] theorem State.granted_mode (s : State) (p : Nat) (b : Bool) : (s.granted p b).mode = s.mode := s.granted_get p b rfl 0

/-! OFC_RESET (R55). -/

/-- A write of OFC_RESET that the session admits. -/
theorem State.resetCmd_of_admits {s : State} {p : Nat} (h : s.admits p 0 true true reg_OFC_RESET.base = true) (v : Nat) :
    s.resetCmd p v = (s.granted p true).ofcReset v := s.onWrite_of_admits p true _ _ h

theorem ofcResetWarm_restarts {s : State} {p : Port} (h : s.admits p.val 0 true true reg_OFC_RESET.base = true)
    (hm : s.mode ≠ 0) (ht : s.md.trans = none) :
    ∃ t, exec (.ofcResetWarm p) s = .next t ∧ t.mode = mBOOT ∧ t.get GLB_BOOT_STATUS.STAGE 0 = 0 ∧ t.now = s.now := by
  have e : s.resetCmd p.val 1 = (s.granted p.val true).warmNow 2 false := by
    rw [State.resetCmd_of_admits h]
    exact State.warmReset_of_idle (by simpa using hm) (by simpa using ht) 2 false
  refine ⟨(s.resetCmd p.val 1).closed, rfl, ?_, ?_, ?_⟩
  · rw [State.closed_mode, e, State.warmNow_mode]
  · rw [State.closed_get _ rfl, e, State.warmNow_stage]
  · rw [State.closed_now, e, State.warmNow_now, State.granted_now]

theorem ofcResetWarmAtArm_arms {s : State} {p : Port} (h : s.admits p.val 0 true true reg_OFC_RESET.base = true)
    (ha : s.on OFC_RESET.WARM_AT 0 = false) :
    ∃ t, exec (.ofcResetWarmAtArm p) s = .next t ∧ t.get OFC_RESET.WARM_AT 0 = 1 ∧ t.get OFC_RESET.ARMED 0 = 1 ∧
      t.lc.warmAt = some (((s.get OFC_RESET_TIME0.V 0 + s.get OFC_RESET_TIME1.V 0 * 2 ^ 32) * 1000000000 +
        s.get OFC_RESET_TIME2.V 0) * ns) ∧ t.now = s.now := by
  let u := s.granted p.val true
  have hu : u.on OFC_RESET.WARM_AT 0 = false := by rw [State.on, State.granted_get _ _ _ rfl]; exact ha
  have e : s.resetCmd p.val 2 = { (u.set OFC_RESET.WARM_AT 0 1).set OFC_RESET.ARMED 0 1 with
      lc.warmAt := some (((u.get OFC_RESET_TIME0.V 0 + u.get OFC_RESET_TIME1.V 0 * 2 ^ 32) * 1000000000 +
        u.get OFC_RESET_TIME2.V 0) * ns), lc.warmLate := false } := by
    rw [State.resetCmd_of_admits h, State.ofcReset, if_neg (by decide), if_pos (by decide), if_neg (ne_true_of_eq_false hu)]
  refine ⟨(s.resetCmd p.val 2).closed, rfl, ?_, ?_, ?_, ?_⟩
  · rw [State.closed_get _ rfl, e]
    exact (State.get_set_field (f := OFC_RESET.WARM_AT) (g := OFC_RESET.ARMED) _ (by decide) 0 0 1).trans
      (State.get_set_self u OFC_RESET.WARM_AT 0 1)
  · rw [State.closed_get _ rfl, e]
    exact State.get_set_self _ OFC_RESET.ARMED 0 1
  · rw [State.closed_lc, e, ← State.granted_get s p.val true (f := OFC_RESET_TIME0.V) rfl,
      ← State.granted_get s p.val true (f := OFC_RESET_TIME1.V) rfl,
      ← State.granted_get s p.val true (f := OFC_RESET_TIME2.V) rfl]
  · rw [State.closed_now, e]
    exact State.granted_now ..

theorem ofcResetWarmAtDisarm_disarms {s : State} {p : Port} (h : s.admits p.val 0 true true reg_OFC_RESET.base = true) :
    ∃ t, exec (.ofcResetWarmAtDisarm p) s = .next t ∧ t.get OFC_RESET.WARM_AT 0 = 0 ∧ t.get OFC_RESET.ARMED 0 = 0 ∧
      t.lc.warmAt = none ∧ t.now = s.now := by
  have e : s.resetCmd p.val 0 = (s.granted p.val true).warmDisarm := State.resetCmd_of_admits h 0
  refine ⟨(s.resetCmd p.val 0).closed, rfl, ?_, ?_, ?_, ?_⟩
  · rw [State.closed_get _ rfl, e]
    exact (State.get_set_field (f := OFC_RESET.WARM_AT) (g := OFC_RESET.ARMED) _ (by decide) 0 0 0).trans
      (State.get_set_self _ OFC_RESET.WARM_AT 0 0)
  · rw [State.closed_get _ rfl, e]
    exact State.get_set_self _ OFC_RESET.ARMED 0 0
  · rw [State.closed_lc, e]
    rfl
  · rw [State.closed_now, e]
    exact State.granted_now ..

/-- The armed time that has come resets, with the event log's detail 3. -/
theorem State.warmAtDue_at_time {s : State} {w : Nat} (hw : s.lc.warmAt = some w) (hn : w ≤ s.now)
    (hv : s.on TIM_STATUS.VALID 0 = true) :
    s.warmAtDue = { s.set OFC_RESET.ARMED 0 0 with lc.warmAt := none }.warmReset 3 s.lc.warmLate := by
  rw [State.warmAtDue, hw]
  exact if_pos ⟨hv, .inr hn⟩

theorem warmAtTimeReached_restarts {s : State} {w : Nat} (hw : s.lc.warmAt = some w) (hn : w ≤ s.now)
    (hv : s.on TIM_STATUS.VALID 0 = true) (hm : s.mode ≠ 0) (ht : s.md.trans = none) :
    ∃ t, exec .warmAtTimeReached s = .next t ∧ t.mode = mBOOT ∧ t.lc.warmAt = none ∧ t.now = s.now := by
  let u : State := { s.set OFC_RESET.ARMED 0 0 with lc.warmAt := none }
  have hu : u.mode = s.mode := (s.set_moves OFC_RESET.ARMED 0 0).mode rfl
  have e : s.warmAtDue = u.warmNow 3 s.lc.warmLate :=
    (State.warmAtDue_at_time hw hn hv).trans (State.warmReset_of_idle (ne_of_eq_of_ne hu hm) ht 3 _)
  refine ⟨s.warmAtDue.closed, rfl, ?_, ?_, ?_⟩
  · rw [State.closed_mode, e, State.warmNow_mode]
  · rw [State.closed_lc, e, (u.warmNow_lc _ _).2.2.1]
  · rw [State.closed_now, e, State.warmNow_now]
    rfl

/-! OFC_TX_RESUME (R58). -/

theorem State.logKst_moves (s : State) (op slot affected sa : Nat) :
    Moves logMoves [.cl, .ic, .out] s (s.logKst op slot affected sa) := s.logEvent_moves _ _ _

theorem ofcTxResumeLo_held {s : State} {p : Port} {v : Word}
    (h : s.admits p.val 0 true true reg_OFC_TX_RESUME_LO.base = true) :
    ∃ t, exec (.ofcTxResumeLo p v) s = .next t ∧ Tab.get none t.lc.resumeLow p.val = some v.toNat ∧
      t.get GLB_TX_RESUME.V 0 = s.get GLB_TX_RESUME.V 0 := by
  refine ⟨(s.onWrite p.val true reg_OFC_TX_RESUME_LO.base (fun s => s.txResumeLo p.val v.toNat)).closed, rfl, ?_, ?_⟩
  · rw [State.closed_lc, State.onWrite_of_admits _ _ _ _ _ h]
    exact Tab.get_set_self none _ _ (some v.toNat)
  · rw [State.closed_get _ rfl, State.onWrite_of_admits _ _ _ _ _ h]
    exact State.granted_get s p.val true rfl 0

/-- The state that the high word leaves before it is recorded. -/
def State.resumeTaken (s : State) (p x : Nat) : State :=
  { s with lc.resumeLow := s.lc.resumeLow.set none p none, lc.rBoot := x, lc.resumeFresh := false }.set GLB_TX_RESUME.V 0 x

theorem State.txResumeHi_of_low {s : State} {p lo : Nat} (hl : Tab.get none s.lc.resumeLow p = some lo) (v : Nat) :
    s.txResumeHi p v = (s.resumeTaken p (lo + v * 2 ^ 32)).logKst 0x0E 0 0 0 := by
  rw [State.txResumeHi, hl]
  rfl

theorem ofcTxResumeHi_sets {s : State} {p : Port} {v : Word} {lo : Nat}
    (h : s.admits p.val 0 true true reg_OFC_TX_RESUME_HI.base = true)
    (hl : Tab.get none s.lc.resumeLow p.val = some lo) (hb : lo < 2 ^ 32) :
    ∃ t, exec (.ofcTxResumeHi p v) s = .next t ∧ t.get GLB_TX_RESUME.V 0 = lo + v.toNat * 2 ^ 32 ∧
      t.lc.rBoot = lo + v.toNat * 2 ^ 32 ∧ Tab.get none t.lc.resumeLow p.val = none := by
  have e : s.onWrite p.val true reg_OFC_TX_RESUME_HI.base (fun s => s.txResumeHi p.val v.toNat) =
      ((s.granted p.val true).resumeTaken p.val (lo + v.toNat * 2 ^ 32)).logKst 0x0E 0 0 0 := by
    rw [State.onWrite_of_admits _ _ _ _ _ h]
    exact State.txResumeHi_of_low (by rw [State.granted_lc, hl]) _
  have hv : lo + v.toNat * 2 ^ 32 < 2 ^ 64 := by have := v.isLt; omega
  refine ⟨_, rfl, ?_, ?_, ?_⟩
  · rw [State.closed_get _ rfl, e, (State.logKst_moves _ _ _ _ _).get rfl, State.resumeTaken, State.get_set_self]
    exact Nat.mod_eq_of_lt hv
  · rw [State.closed_lc, e, (State.logKst_moves _ _ _ _ _).parts .lc rfl]
    rfl
  · rw [State.closed_lc, e, (State.logKst_moves _ _ _ _ _).parts .lc rfl]
    exact Tab.get_set_self none _ _ (none : Option Nat)

/-! The 1 ms update (R56). -/

theorem txResumeUpdate_writes {s : State} (ha : s.autActive = true) (hf : s.lc.resumeFresh = false) :
    ∃ t, exec .txResumeUpdate s = .next t ∧
      t.get GLB_TX_RESUME.V 0 = max s.lc.rBoot (max (ceilMs s.lc.hwm) (ceilMs s.now + 1)) % 2 ^ 64 := by
  refine ⟨s.resumeTick.closed, rfl, ?_⟩
  rw [State.closed_get _ rfl, State.resumeTick, if_pos ha, State.resumeWrite, if_neg (ne_true_of_eq_false hf)]
  exact State.get_set_self s _ 0 _

theorem txResumeUpdate_idle {s : State} (ha : s.autActive = false) :
    ∃ t, exec .txResumeUpdate s = .next t ∧ t.get GLB_TX_RESUME.V 0 = s.get GLB_TX_RESUME.V 0 := by
  refine ⟨s.resumeTick.closed, rfl, ?_⟩
  rw [State.closed_get _ rfl, State.resumeTick, if_neg (ne_true_of_eq_false ha)]

/-- Settles O14, by what a warm reset keeps and by the writes of the scheduled reset and of the resume time. -/
theorem warmResetAndTransmitResume : Obligations.WarmResetAndTransmitResume :=
  ⟨⟨fun _ _ => ofcResetWarm_restarts, fun _ _ => ofcResetWarmAtArm_arms, fun _ _ => ofcResetWarmAtDisarm_disarms,
      fun _ _ => warmAtTimeReached_restarts⟩,
    fun _ _ _ => ofcTxResumeLo_held, fun _ _ _ _ => ofcTxResumeHi_sets,
    fun _ => ⟨txResumeUpdate_writes, txResumeUpdate_idle⟩⟩

end Sys2Proof.Machine
end

/-! What an erase and a change of mode discard (R45, R373): frames, streams, keys, sessions. -/
section
namespace Sys2Proof.Machine

/-! Frames that the mode discards, each counted in D_MODE or MODE_DISCARD. -/

/-- Fields that the frames a mode discards move. -/
abbrev discardMoves : List Fld := QUE_DCNT.D_MODE :: RGN_LPIGR.MODE_DISCARD :: lostMoves

section
variable (s : State)

theorem State.splitDrop_byMode_moves (k n : Nat) :
    Moves discardMoves lostParts s (s.splitDrop k (some QUE_DCNT.D_MODE) n) := by
  unfold State.splitDrop
  split
  · exact ((Moves.refl.also (s.setCarTx_moves k _) rfl rfl).also (State.count_moves _ QUE_DCNT.D_MODE _ 1) rfl rfl).also
      (State.smpEgress_moves _ _ _ _ _ _) rfl rfl
  · exact .refl

theorem State.carDrop_moves (k n : Nat) : Moves discardMoves lostParts s (s.carDrop k n) := by
  have hq (l : List EgItem) (q : List LineItem) : Moves discardMoves lostParts s ((s.setEg (regionOfLp k) l).setLineQ k q) :=
    (Moves.refl.also (s.setEg_moves _ l) rfl rfl).also (State.setLineQ_moves _ k q) rfl rfl
  exact Moves.each (Moves.each (hq _ _) (fun x u => Moves.refl.also (u.egDrop_moves x n) rfl rfl))
    (fun x u => Moves.each (Moves.refl.also (u.count_moves CAR_TXCNT.C_DISCARD k 1) rfl rfl)
      (fun f v => Moves.refl.also (v.smpEgress_moves f _ _ _ _) rfl rfl))

theorem State.carLeave_moves (k : Nat) : Moves discardMoves lostParts s (s.carLeave k) :=
  (((s.splitDrop_byMode_moves k 7).trans (State.carDrop_moves _ k 7)).also (State.set_moves _ CAR_TX.RUNNING k 0) rfl rfl).also
    (State.setCarTx_moves _ k _) rfl rfl

theorem State.queueFlush_byMode_moves (q n : Nat) (p : Frame → Bool) :
    Moves discardMoves lostParts s (s.queueFlush q QUE_DCNT.D_MODE n p) := by
  have hu (x : Queue) (us : List Nat) : Moves discardMoves lostParts s ((s.setQueue q x).each us (fun u s => s.unitFree u)) :=
    Moves.each (Moves.refl.also (s.setQueue_moves q x) rfl rfl) (fun u v => Moves.refl.also (v.unitFree_moves u) rfl rfl)
  have hd (x us d b) := ((hu x us).also (State.setDepth_moves _ q d) rfl rfl).also (State.set_moves _ QUE_DQ.DB_CELLS q b) rfl rfl
  unfold State.queueFlush
  refine .ite .refl (Moves.also (Moves.each (Moves.also (Moves.also ?_ (State.set_moves _ QUE_DQ.FRAMES q _) rfl rfl)
    (State.count_moves _ QUE_DCNT.D_MODE q _) rfl rfl) (fun f u => Moves.refl.also (u.smpEgress_moves f _ _ _ _) rfl rfl))
    (State.checkEmpty_moves _ q) rfl rfl)
  exact .ite ((hd _ _ _ _).also (State.set_moves _ QUE_DQ.SPILLING q 0) rfl rfl) (hd _ _ _ _)

/-- A frame on its way into the deep part of a queue, as the mode discards it. -/
def State.deepWrDrop (s : State) (w : DeepWr) (n : Nat) : State :=
  let q := w.a.f.queue
  let s := s.each w.units (fun u s => s.unitFree u)
  let db := s.get QUE_DQ.DB_CELLS q - w.a.f.cells
  let s := s.set QUE_DQ.DB_CELLS q db
  (if db = 0 then s.set QUE_DQ.SPILLING q 0 else s).dropArrival w.a QUE_DCNT.D_MODE n

theorem State.deepWrDrop_moves (w : DeepWr) (n : Nat) : Moves discardMoves lostParts s (s.deepWrDrop w n) :=
  ((Moves.refl.also (s.deepLeft_moves w.a.f.queue w.a.f.cells w.units) rfl rfl).also
    (State.count_moves _ QUE_DCNT.D_MODE _ 1) rfl rfl).also (State.dropArrival_moves _ w.a QUE_DCNT.D_MODE n) rfl rfl

theorem State.flushQueues_byMode_moves (n : Nat) (p : Nat → Frame → Bool) :
    Moves discardMoves lostParts s (s.flushQueues QUE_DCNT.D_MODE n p) := by
  have hq := Moves.each (l := s.pl.queues.map (·.1)) (.refl (s := s)) (fun q u => u.queueFlush_byMode_moves q n (p q))
  have hd (x) := hq.also (State.deepWr_moves _ x) rfl rfl
  unfold State.flushQueues
  exact (Moves.each (hd _) (fun w u => u.deepWrDrop_moves w n)).also (State.pfc_moves _) rfl rfl

theorem State.egressAll_moves (eg : Tab (List EgItem)) : Moves [] [.egress] s { s with fr.egress := eg } :=
  .of_parts rfl (by rintro ⟨⟩ ⟨⟩ <;> rfl) rfl rfl

theorem State.ingressAll_moves (ig : Tab (List InItem)) : Moves [] [.ingress] s { s with fr.ingress := ig } :=
  .of_parts rfl (by rintro ⟨⟩ ⟨⟩ <;> rfl) rfl rfl

theorem State.lineOutAll_moves (l : Tab (List LineItem)) : Moves [] [.lineOut] s { s with fr.lineOut := l } :=
  .of_parts rfl (by rintro ⟨⟩ ⟨⟩ <;> rfl) rfl rfl

theorem State.hostQueues_moves (x : Tab (List OutFrame)) (y : Tab (List (List Octet))) :
    Moves [] [.hostOut, .pfcOut] s { s with fr.hostOut := x, fr.pfcOut := y } :=
  .of_parts rfl (by rintro ⟨⟩ ⟨⟩ <;> rfl) rfl rfl

/-- A frame counted for the mode and sampled. -/
theorem State.inGone_moves (lp : Nat) (b : Bool) (hp sc an len time steps mono pn fl : Nat) :
    Moves discardMoves lostParts s ((s.count RGN_LPIGR.MODE_DISCARD lp 1).smpIn b hp lp sc an len time steps mono pn fl 7) :=
  (Moves.refl.also (s.count_moves RGN_LPIGR.MODE_DISCARD lp 1) rfl rfl).also (State.smpIn_moves _ _ _ _ _ _ _ _ _ _ _ _ _) rfl rfl

theorem State.discardAll_moves : Moves discardMoves lostParts s s.discardAll := by
  unfold State.discardAll
  refine Moves.each (Moves.each (Moves.each (Moves.also (Moves.each (Moves.also (Moves.each (Moves.also (Moves.each
    (Moves.also (Moves.trans (Moves.each (Moves.also (Moves.each .refl ?carriers) (State.arrivals_moves _ _) rfl rfl) ?arrivals)
    (State.flushQueues_byMode_moves _ 7 _)) (State.egressAll_moves _ _) rfl rfl) ?egress) (State.lineOutAll_moves _ _) rfl rfl)
    ?lines) (State.ingressAll_moves _ _) rfl rfl) ?ingress) (State.hostQueues_moves _ _ _) rfl rfl) ?host) ?parts) ?punts
  case carriers => exact fun k u => u.carLeave_moves k
  case arrivals =>
    exact fun a u => (Moves.refl.also (u.count_moves QUE_DCNT.D_MODE _ 1) rfl rfl).also (u.dropArrival_moves a QUE_DCNT.D_MODE 7) rfl rfl
  case egress =>
    exact fun x u => (Moves.ite .refl (Moves.refl.also (u.count_moves QUE_DCNT.D_MODE _ 1) rfl rfl)).also
      (State.egDrop_moves _ x 7) rfl rfl
  case lines =>
    exact fun x u => (Moves.refl.also (u.count_moves QUE_DCNT.D_MODE _ 1) rfl rfl).also (State.smpEgress_moves _ _ _ _ _ _) rfl rfl
  case ingress => exact fun x u => u.inGone_moves _ _ _ _ _ _ _ _ _ _ _
  case host => exact fun y u => u.inGone_moves _ _ _ _ _ _ _ _ _ _ _
  case parts =>
    exact fun k u => .ite ((Moves.refl.also (u.carLose_moves k) rfl rfl).also (State.count_moves _ RGN_LPIGR.MODE_DISCARD k 1) rfl rfl) .refl
  case punts => exact fun r u => Moves.refl.also (u.fencePunt_moves r) rfl rfl

end

/-! Keys (R50, R74, R102, R373). -/

/-- Fields that the removal of an SA key moves. -/
abbrev saGoneMoves : List Fld := [SCT_TX.D_KEY_GONE, SCT_TX.EV_KEY_GONE, CAR_TXCNT.C_DISCARD, SAT_TX.INSTALLED, SAT_TX.ORPHAN,
  SCT_RX.D_KEY_GONE, SCT_RX.EV_KEY_GONE, SAT_RX.STATE, SAT_RX.INSTALLED, SAT_RX.ORPHAN, SAT_RX.RETIRE_ARMED] ++
  exhaustMoves ++ smpMoves
abbrev saGoneParts : List Part := [.egress, .ingress, .ic, .out, .wraps, .cn]

/-- Fields and parts that an erase of every key moves. -/
abbrev keyMoves : List Fld := [VNR_STATUS.KEYS, VNR_STATUS.TWO_EPOCHS, VNR_STATUS.STATE, CHS_ENGINE.CTX_KEY,
  CHS_STATUS.CTX_OPEN] ++ slotFields ++ saGoneMoves
abbrev keyParts : List Part := .ke :: .au :: .ch :: .deep :: saGoneParts

section
variable (s : State)

theorem State.txKeyGone_moves (a : Nat) : Moves saGoneMoves saGoneParts s (s.txKeyGone a) := by
  refine Moves.each .refl (fun r u => .ite .refl (Moves.also (Moves.also (Moves.each
    (Moves.refl.also (u.setEg_moves r _) rfl rfl) ?one) (State.count_moves _ SCT_TX.D_KEY_GONE _ _) rfl rfl)
    (State.txEvent_moves _ true SCT_TX.EV_KEY_GONE _) rfl rfl))
  case one =>
    intro x v
    split
    · exact Moves.each (Moves.refl.also (v.count_moves CAR_TXCNT.C_DISCARD _ 1) rfl rfl)
        (fun f w => Moves.refl.also (w.smpEgress_moves f _ _ _ _) rfl rfl)
    · exact Moves.refl.also (v.smpEgress_moves _ _ _ _ _) rfl rfl

theorem State.rxKeyGone_moves (a : Nat) : Moves saGoneMoves saGoneParts s (s.rxKeyGone a) :=
  Moves.each .refl (fun r u => .ite .refl (Moves.also (Moves.also (Moves.each
    (Moves.refl.also (u.setIg_moves r _) rfl rfl)
    (fun _ v => .ite (Moves.refl.also (v.smpIngress_moves _ _ _ _ _ _ _ _ _ _ _) rfl rfl) .refl))
    (State.count_moves _ SCT_RX.D_KEY_GONE _ _) rfl rfl) (State.rxEvent_moves _ true SCT_RX.EV_KEY_GONE _) rfl rfl))

theorem State.autoSwitch_moves (c : Nat) : Moves exhaustMoves countParts s (s.autoSwitch c) :=
  .ite (s.switchSlot_moves c) .refl

theorem State.txErased_moves (a : Nat) : Moves saGoneMoves saGoneParts s (s.txErased a) := by
  have h := s.txKeyGone_moves a
  exact (((Moves.ite h (h.also (State.set_moves _ SAT_TX.STATE a saDISCARD) rfl rfl)).also
    (State.set_moves _ SAT_TX.INSTALLED a 0) rfl rfl).also (State.set_moves _ SAT_TX.ORPHAN a 0) rfl rfl).also
    (State.autoSwitch_moves _ _) rfl rfl

theorem State.rxErased_moves (a : Nat) : Moves saGoneMoves saGoneParts s (s.rxErased a) := by
  have h := s.rxKeyGone_moves a
  exact (((Moves.ite h (h.also (State.set_moves _ SAT_RX.STATE a saDISCARD) rfl rfl)).also
    (State.set_moves _ SAT_RX.INSTALLED a 0) rfl rfl).also (State.set_moves _ SAT_RX.ORPHAN a 0) rfl rfl).also
    (State.set_moves _ SAT_RX.RETIRE_ARMED a 0) rfl rfl

/-- The key store after an SA key is erased. -/
def State.saKeyOut (s : State) (k : Nat) : State :=
  { s.saNote k with ke.saKey := s.ke.saKey.set [] k [], ke.saParent := s.ke.saParent.set 0 k 0 }

theorem State.saNote_moves (k : Nat) : Moves [] [.ke] s (s.saNote k) := .ite .refl (s.ke_moves _)

theorem State.saKeyOut_moves (k : Nat) : Moves [] [.ke] s (s.saKeyOut k) := (s.saNote_moves k).trans (State.ke_moves _ _)

theorem State.saKeyOut_kram (k : Nat) : (s.saKeyOut k).ke.kram = s.ke.kram := by
  unfold State.saKeyOut State.saNote
  split <;> rfl

theorem State.saErase_of_out (k : Nat) : Moves saGoneMoves saGoneParts (s.saKeyOut k) (s.saErase k) :=
  .ite (State.txErased_moves _ k) (State.rxErased_moves _ _)

theorem State.saDrop_moves (k : Nat) : Moves keyMoves keyParts s (s.saDrop k) :=
  ((Moves.refl.also (s.au_moves _) rfl rfl).also (State.saKeyOut_moves _ k) rfl rfl).also (State.saErase_of_out _ k) rfl rfl

theorem State.saDrop_kram (k : Nat) : (s.saDrop k).ke.kram = s.ke.kram :=
  (congrArg KeyS.kram ((State.saErase_of_out _ k).parts .ke rfl)).trans (State.saKeyOut_kram _ k)

/-- The slots and the key RAM of an erase, before the SA keys. -/
def State.slotsZero (s : State) : State :=
  let s := s.each (upto 256) (fun k s => s.resetFields slotFields k)
  let s := s.each (s.ke.slotKey.map (·.1)) (fun k s => s.zeroNote k)
  { s with ke.slotKey := [], ke.kram := [], au.staged := [] }

theorem State.zeroKeys_eq : s.zeroKeys =
    (s.slotsZero.each (s.slotsZero.ones SAT_TX.STATE) (fun a s => s.saDrop a)).each
      ((s.slotsZero.each (s.slotsZero.ones SAT_TX.STATE) (fun a s => s.saDrop a)).ones SAT_RX.STATE)
      (fun a s => s.saDrop (8192 + a)) := rfl

theorem State.resetFields_moves (fs : List Fld) (i : Nat) : Moves fs [] s (s.resetFields fs i) :=
  Moves.refl.putBack fs (·.reset) i (List.all_eq_true.mpr (fun f hf => by simp [listed]; exact ⟨f, hf, rfl⟩))

theorem State.slotsZero_moves : Moves keyMoves keyParts s s.slotsZero := by
  have h0 : Moves keyMoves keyParts s (s.each (upto 256) (fun k s => s.resetFields slotFields k)) :=
    Moves.each .refl (fun k u => Moves.refl.also (u.resetFields_moves slotFields k) rfl rfl)
  have h1 (l : List Nat) := Moves.each (l := l) h0 (g := fun k s => s.zeroNote k) (fun k u => Moves.refl.also (u.ke_moves _) rfl rfl)
  have h2 (u : State) : Moves keyMoves keyParts u { u with ke.slotKey := [], ke.kram := [], au.staged := [] } :=
    (Moves.refl.also (u.ke_moves { u.ke with slotKey := [], kram := [] }) rfl rfl).also
      (State.au_moves _ { u.au with staged := [] }) rfl rfl
  exact (h1 _).trans (h2 _)

theorem State.zeroKeys_moves : Moves keyMoves keyParts s s.zeroKeys :=
  Moves.each (Moves.each s.slotsZero_moves (fun a u => u.saDrop_moves a)) (fun a u => u.saDrop_moves (8192 + a))

theorem State.zeroKeys_kram : s.zeroKeys.ke.kram = [] := by
  rw [State.zeroKeys_eq, State.each_keep (·.ke.kram) _ _ (fun a u => u.saDrop_kram (8192 + a)),
    State.each_keep (·.ke.kram) _ _ (fun a u => u.saDrop_kram a)]
  rfl

theorem State.vnrZero_moves : Moves keyMoves [.deep] s s.vnrZero :=
  (((Moves.refl.also (s.deep_moves (x := { s.vn with vnrKeys := [] }) rfl) rfl rfl).also (State.set_moves _ VNR_STATUS.KEYS 0 0) rfl rfl).also
    (State.set_moves _ VNR_STATUS.TWO_EPOCHS 0 0) rfl rfl).also (State.set_moves _ VNR_STATUS.STATE 0 0) rfl rfl

theorem State.setMac_moves (p : Nat) (m : Option MacCtx) : Moves [CHS_STATUS.CTX_OPEN] [.ch] s (s.setMac p m) :=
  (Moves.refl.also (s.ch_moves _) rfl rfl).also (State.set_moves _ CHS_STATUS.CTX_OPEN p _) rfl rfl

theorem State.zeroChisel_moves : Moves keyMoves [.ch] s s.zeroChisel := by
  have h : Moves keyMoves [.ch] s (({ s with ch.ctxKey := [] }.set CHS_ENGINE.CTX_KEY 0 0).each [0, 1] (fun p s => s.macClose p)) :=
    Moves.each ((Moves.refl.also (s.ch_moves _) rfl rfl).also (State.set_moves _ CHS_ENGINE.CTX_KEY 0 0) rfl rfl)
      (fun p u => .ite (Moves.refl.also (u.setMac_moves p none) rfl rfl) .refl)
  unfold State.zeroChisel
  simp only
  split
  · exact h.also (State.ch_moves _ _) rfl rfl
  · exact h.also (State.ch_moves _ _) rfl rfl
  · exact h
  · exact h

/-- Every key of the device is zeroised. -/
def State.zeroised (s : State) : State := (s.zeroKeys.vnrZero).zeroChisel

theorem State.zeroised_moves : Moves keyMoves keyParts s s.zeroised :=
  (s.zeroKeys_moves.also (State.vnrZero_moves _) rfl rfl).also (State.zeroChisel_moves _) rfl rfl

theorem State.zeroised_kram : s.zeroised.ke.kram = [] := by
  rw [State.zeroised, (State.zeroChisel_moves _).parts .ke rfl, (State.vnrZero_moves _).parts .ke rfl, s.zeroKeys_kram]

/-! An erase ends the sessions and disarms the scheduled reset (R373). -/

theorem State.ofc_moves (x : OfcS) : Moves [] [.ofc] s { s with ofc := x } := .of_parts rfl (by rintro ⟨⟩ ⟨⟩ <;> rfl) rfl rfl

/-- Fields that the end of a session moves. -/
abbrev sessMoves : List Fld := [OFC_SESSION.STATE, OFC_SESSION.LAST, OFC_CHAL.V, CHS_STATUS.CTX_OPEN]

theorem State.putWords_moves (f : Fld) (i n : Nat) (o : List Octet) : Moves [f] [] s (s.putWords f i n o) :=
  Moves.each .refl (fun _ u => u.set_moves f _ _)

theorem State.sessClose_moves (p last : Nat) : Moves sessMoves [.ofc, .ch] s (s.sessClose p last) := by
  have h : Moves sessMoves [.ofc, .ch] s
      (((s.set OFC_SESSION.STATE p 0).set OFC_SESSION.LAST p last).putWords OFC_CHAL.V (8 * p) 8 []) :=
    ((Moves.refl.also (s.set_moves OFC_SESSION.STATE p 0) rfl rfl).also (State.set_moves _ OFC_SESSION.LAST p last) rfl rfl).also
      (State.putWords_moves _ OFC_CHAL.V _ _ _) rfl rfl
  have hc (x : OfcS) := h.also (State.ofc_moves _ x) rfl rfl
  exact .ite (.ite ((hc _).also (State.setMac_moves _ p none) rfl rfl) (hc _)) .refl

theorem State.warmDisarm_moves : Moves [OFC_RESET.WARM_AT, OFC_RESET.ARMED] [.lc] s s.warmDisarm :=
  ((Moves.refl.also (s.set_moves OFC_RESET.WARM_AT 0 0) rfl rfl).also (State.set_moves _ OFC_RESET.ARMED 0 0) rfl rfl).also
    (State.lc_moves _ _) rfl rfl

end

end Sys2Proof.Machine
end

/-! Life-cycle commands (R49, R50, R52, R53). -/
section
namespace Sys2Proof.Machine

/-! What a command ends with. -/

theorem State.lcyBegin_closed (s : State) (f : Fuses) :
    (s.lcyBegin f).closed.lc.lcyJob = some ⟨f, false⟩ ∧ (s.lcyBegin f).closed.get LCY_STATUS.V 0 = 1 :=
  ⟨by rw [State.closed_lc]; rfl, (State.closed_get _ rfl 0).trans (State.get_set_self _ LCY_STATUS.V 0 1)⟩

theorem State.lcyRefused_closed (s : State) :
    s.lcyRefused.closed.get LCY_STATUS.V 0 = 3 ∧ s.lcyRefused.closed.lc = s.lc :=
  ⟨(State.closed_get _ rfl 0).trans (State.get_set_self _ LCY_STATUS.V 0 3), by rw [State.closed_lc]; rfl⟩

/-! What LCY_CMD does by its code, with no change in progress (R49). -/

section
variable {s : State} (hj : s.lc.lcyJob = none) (cert : List Octet)
include hj

/-- A confirmed code reaches its arm. -/
theorem State.lcyCmd_confirmed {v : Nat} (hv : bits v 16 16 = 0xA55A) : s.lcyCmd v cert =
    match bits v 0 4 with
    | 2 => if s.lc.fuses.lcs = 1 ∧ s.debug = false then
        s.lcyBegin { s.lc.fuses with lcs := 2, certHash := padTo 48 cert } else s.lcyRefused
    | 3 => if s.lc.fuses.lcs = 2 ∧ s.lc.fuses.owners.length < 17 then
        s.lcyBegin { s.lc.fuses with lcs := 3, owners := s.lc.fuses.owners ++
          [⟨slice s.lcyOperand 0 48, [leNat (slice s.lcyOperand 48 2)]⟩] }
      else s.lcyRefused
    | 4 => if s.lc.fuses.lcs = 3 ∧ s.lc.fuses.reown < 16 then
        s.lcyBegin { s.lc.fuses with lcs := 2, reown := s.lc.fuses.reown + 1 } else s.lcyRefused
    | 5 => if s.lc.fuses.lcs ≠ 0 then s.lcyBegin { s.lc.fuses with lcs := 4 } else s.lcyRefused
    | 6 => s.raiseSvn
    | _ => s.lcyRefused := by
  rw [State.lcyCmd, if_neg (by rw [hj]; exact Bool.false_ne_true), if_neg (not_not.mpr hv)] <;> rfl

theorem State.lcyCmd_provision : s.lcyCmd (2 + 0xA55A0000) cert =
    if s.lc.fuses.lcs = 1 ∧ s.debug = false then
      s.lcyBegin { s.lc.fuses with lcs := 2, certHash := padTo 48 cert } else s.lcyRefused :=
  State.lcyCmd_confirmed hj cert (by decide)

theorem State.lcyCmd_own : s.lcyCmd (3 + 0xA55A0000) cert =
    if s.lc.fuses.lcs = 2 ∧ s.lc.fuses.owners.length < 17 then
      s.lcyBegin { s.lc.fuses with lcs := 3, owners := s.lc.fuses.owners ++
        [⟨slice s.lcyOperand 0 48, [leNat (slice s.lcyOperand 48 2)]⟩] }
    else s.lcyRefused :=
  State.lcyCmd_confirmed hj cert (by decide)

theorem State.lcyCmd_release : s.lcyCmd (4 + 0xA55A0000) cert =
    if s.lc.fuses.lcs = 3 ∧ s.lc.fuses.reown < 16 then
      s.lcyBegin { s.lc.fuses with lcs := 2, reown := s.lc.fuses.reown + 1 } else s.lcyRefused :=
  State.lcyCmd_confirmed hj cert (by decide)

theorem State.lcyCmd_scrap : s.lcyCmd (5 + 0xA55A0000) cert =
    if s.lc.fuses.lcs ≠ 0 then s.lcyBegin { s.lc.fuses with lcs := 4 } else s.lcyRefused :=
  State.lcyCmd_confirmed hj cert (by decide)

theorem State.lcyCmd_svn : s.lcyCmd (6 + 0xA55A0000) cert = s.raiseSvn := State.lcyCmd_confirmed hj cert (by decide)

end

/-! RAISE_MIN_SVN (R53). -/

/-- Outside OWNED the version is refused. -/
theorem State.raiseSvn_refused {s : State} (h : s.lc.fuses.lcs ≠ 3) : s.raiseSvn = s.lcyRefused := by
  unfold State.raiseSvn
  simp only
  split
  · exact if_neg (fun hc => h hc.1)
  · rfl

theorem State.raiseSvn_appends {s : State} {e : OwnerEntry} (he : s.lc.fuses.owners.getLast? = some e)
    (h : s.lc.fuses.lcs = 3 ∧ e.svns.length < 4 ∧ s.minSvn < leNat (slice s.lcyOperand 48 2) ∧
      leNat (slice s.lcyOperand 48 2) ≤ s.get JIG_RUN_SVN.SVN 0) :
    s.raiseSvn.get LCY_STATUS.V 0 = 2 ∧ s.raiseSvn.lc.fuses.owners =
      s.lc.fuses.owners.dropLast ++ [{ e with svns := e.svns ++ [leNat (slice s.lcyOperand 48 2)] }] := by
  have e' : s.raiseSvn = ({ s with lc.fuses := { s.lc.fuses with owners := s.lc.fuses.owners.dropLast ++
      [{ e with svns := e.svns ++ [leNat (slice s.lcyOperand 48 2)] }] } }.set LCY_STATUS.V 0 2).logEvent 0x0030 noSrc [3, 3] := by
    rw [State.raiseSvn, he]
    exact if_pos h
  rw [e']
  constructor
  · rw [(State.logEvent_moves _ _ _ _).get rfl]
    exact State.get_set_self _ LCY_STATUS.V 0 2
  · rw [(State.logEvent_moves _ _ _ _).parts .lc rfl]
    rfl

/-! The operands survive the hints of an access. -/

theorem State.granted_lcyOperand (s : State) (p : Nat) : (s.granted p true).lcyOperand = s.lcyOperand := by
  rw [State.lcyOperand, State.wordsOf, State.lcyOperand, State.wordsOf]
  exact List.flatMap_congr (fun i _ => by rw [State.granted_get _ _ _ rfl])

theorem State.granted_minSvn (s : State) (p : Nat) : (s.granted p true).minSvn = s.minSvn := by
  rw [State.minSvn, State.minSvn, State.granted_lc]

theorem State.lifeCmd_of_admits {s : State} {p : Nat} (h : s.admits p 0 true true reg_LCY_CMD.base = true) (code : Nat)
    (cert : List Octet) : s.lifeCmd p code cert = (s.granted p true).lcyCmd (code + 0xA55A0000) cert :=
  s.onWrite_of_admits p true _ _ h

/-! Each command in its state. -/

theorem advFactory_begins {s : State} {root : List Octet} (hl : s.lc.fuses.lcs = 0) (hj : s.lc.lcyJob = none) (hm : s.mode ≠ 0)
    (hs : 2 ≤ s.get GLB_BOOT_STATUS.STAGE 0) :
    ∃ t, exec (.advFactory root) s = .next t ∧
      t.lc.lcyJob = some ⟨{ s.lc.fuses with lcs := 1, root := padTo 32 root }, false⟩ ∧ t.get LCY_STATUS.V 0 = 1 := by
  refine ⟨(s.advFactory root).closed, rfl, ?_⟩
  rw [State.advFactory, if_pos ⟨hl, by rw [hj]; rfl, hm, hs⟩]
  exact State.lcyBegin_closed _ _

section
variable {s : State} {p : Port} (h : s.admits p.val 0 true true reg_LCY_CMD.base = true) (hj : s.lc.lcyJob = none)
include h hj

theorem advProvisioned_begins {cert : List Octet} (hl : s.lc.fuses.lcs = 1) (hd : s.lc.debugUnlocked = false) :
    ∃ t, exec (.advProvisioned p cert) s = .next t ∧
      t.lc.lcyJob = some ⟨{ s.lc.fuses with lcs := 2, certHash := padTo 48 cert }, false⟩ ∧ t.get LCY_STATUS.V 0 = 1 := by
  refine ⟨(s.lifeCmd p.val 2 cert).closed, rfl, ?_⟩
  rw [State.lifeCmd_of_admits h, State.lcyCmd_provision (by rwa [State.granted_lc]), State.debug, State.granted_lc, if_pos ⟨hl, hd⟩]
  exact State.lcyBegin_closed _ _

theorem takeOwnership_begins (hl : s.lc.fuses.lcs = 2) (ho : s.lc.fuses.owners.length < 17) :
    ∃ t, exec (.takeOwnership p) s = .next t ∧ t.get LCY_STATUS.V 0 = 1 ∧
      t.lc.lcyJob = some ⟨{ s.lc.fuses with lcs := 3, owners := s.lc.fuses.owners ++
        [⟨slice s.lcyOperand 0 48, [leNat (slice s.lcyOperand 48 2)]⟩] }, false⟩ := by
  refine ⟨(s.lifeCmd p.val 3 []).closed, rfl, And.symm ?_⟩
  rw [State.lifeCmd_of_admits h, State.lcyCmd_own (by rwa [State.granted_lc]), State.granted_lc, State.granted_lcyOperand,
    if_pos ⟨hl, ho⟩]
  exact State.lcyBegin_closed _ _

theorem releaseOwnership_begins (hl : s.lc.fuses.lcs = 3) (hr : s.lc.fuses.reown < 16) :
    ∃ t, exec (.releaseOwnership p) s = .next t ∧ t.get LCY_STATUS.V 0 = 1 ∧
      t.lc.lcyJob = some ⟨{ s.lc.fuses with lcs := 2, reown := s.lc.fuses.reown + 1 }, false⟩ := by
  refine ⟨(s.lifeCmd p.val 4 []).closed, rfl, And.symm ?_⟩
  rw [State.lifeCmd_of_admits h, State.lcyCmd_release (by rwa [State.granted_lc]), State.granted_lc, if_pos ⟨hl, hr⟩]
  exact State.lcyBegin_closed _ _

theorem scrap_begins (hl : s.lc.fuses.lcs ≠ 0) :
    ∃ t, exec (.scrap (some p)) s = .next t ∧ t.get LCY_STATUS.V 0 = 1 ∧
      t.lc.lcyJob = some ⟨{ s.lc.fuses with lcs := 4 }, false⟩ := by
  refine ⟨(s.lifeCmd p.val 5 []).closed, rfl, And.symm ?_⟩
  rw [State.lifeCmd_of_admits h, State.lcyCmd_scrap (by rwa [State.granted_lc]), State.granted_lc, if_pos hl]
  exact State.lcyBegin_closed _ _

theorem raiseMinSvn_appends {e : OwnerEntry} (hl : s.lc.fuses.lcs = 3) (he : s.lc.fuses.owners.getLast? = some e)
    (hn : e.svns.length < 4) (hv : s.minSvn < leNat (slice s.lcyOperand 48 2) ∧
      leNat (slice s.lcyOperand 48 2) ≤ s.get JIG_RUN_SVN.SVN 0) :
    ∃ t, exec (.raiseMinSvn p) s = .next t ∧ t.get LCY_STATUS.V 0 = 2 ∧
      t.lc.fuses.owners = s.lc.fuses.owners.dropLast ++ [{ e with svns := e.svns ++ [leNat (slice s.lcyOperand 48 2)] }] := by
  have hc : (s.granted p.val true).lc.lcyJob = none := by rwa [State.granted_lc]
  obtain ⟨hst, ho⟩ := State.raiseSvn_appends (s := s.granted p.val true) (e := e) (by rwa [State.granted_lc])
    (by rw [State.granted_lc, State.granted_minSvn, State.granted_lcyOperand, State.granted_get _ _ _ rfl]; exact ⟨hl, hn, hv⟩)
  refine ⟨(s.lifeCmd p.val 6 []).closed, rfl, ?_, ?_⟩
  · rw [State.closed_get _ rfl, State.lifeCmd_of_admits h, State.lcyCmd_svn hc, hst]
  · rw [State.closed_lc, State.lifeCmd_of_admits h, State.lcyCmd_svn hc, ho, State.granted_lc, State.granted_lcyOperand]

/-- A command given in another state is refused. -/
theorem lifeCmd_refused {cert : List Octet} {c : Instr} {n : Nat}
    (hc : (c, n) ∈ [(Instr.advProvisioned p cert, 1), (.takeOwnership p, 2), (.releaseOwnership p, 3), (.raiseMinSvn p, 3)])
    (hl : s.lc.fuses.lcs ≠ n) :
    ∃ t, exec c s = .next t ∧ t.get LCY_STATUS.V 0 = 3 ∧ t.lc.lcyJob = none ∧ t.lc.fuses = s.lc.fuses := by
  have hg : (s.granted p.val true).lc = s.lc := State.granted_lc ..
  have hj' : (s.granted p.val true).lc.lcyJob = none := by rwa [hg]
  obtain ⟨h3, hlc⟩ := (s.granted p.val true).lcyRefused_closed
  have hend : (s.granted p.val true).lcyRefused.closed.lc.lcyJob = none ∧
      (s.granted p.val true).lcyRefused.closed.lc.fuses = s.lc.fuses := by rw [hlc, hg]; exact ⟨hj, rfl⟩
  refine ⟨(s.granted p.val true).lcyRefused.closed, ?_, h3, hend⟩
  simp only [List.mem_cons, List.not_mem_nil, or_false, Prod.mk.injEq] at hc
  obtain ⟨rfl, rfl⟩ | ⟨rfl, rfl⟩ | ⟨rfl, rfl⟩ | ⟨rfl, rfl⟩ := hc
  · show done (s.lifeCmd p.val 2 cert) = _
    rw [State.lifeCmd_of_admits h, State.lcyCmd_provision hj', hg, if_neg (fun k => hl k.1)]
    rfl
  · show done (s.lifeCmd p.val 3 []) = _
    rw [State.lifeCmd_of_admits h, State.lcyCmd_own hj', hg, if_neg (fun k => hl k.1)]
    rfl
  · show done (s.lifeCmd p.val 4 []) = _
    rw [State.lifeCmd_of_admits h, State.lcyCmd_release hj', hg, if_neg (fun k => hl k.1)]
    rfl
  · show done (s.lifeCmd p.val 6 []) = _
    rw [State.lifeCmd_of_admits h, State.lcyCmd_svn hj', State.raiseSvn_refused (by rwa [hg])]
    rfl

end

theorem scrapJtag_begins {s : State} (hj : s.lc.lcyJob = none) (hl : s.lc.fuses.lcs = 1) (hm : s.mode ≠ 0) :
    ∃ t, exec (.scrap none) s = .next t ∧ t.lc.lcyJob = some ⟨{ s.lc.fuses with lcs := 4 }, false⟩ := by
  refine ⟨s.scrapJtag.closed, rfl, ?_⟩
  rw [State.scrapJtag, if_pos ⟨hl, by rw [hj]; rfl, hm⟩]
  exact (State.lcyBegin_closed _ _).1

/-! The fuses are blown (R50). -/

/-- The fuses of a change are blown; they act from the next reset on. -/
def State.lcyFused (s : State) (j : LcyJob) : State := { s with lc.lcyJob := some { j with blown := true } }

/-- The end of a change is recorded. -/
def State.lcyNoted (s : State) (j : LcyJob) : State :=
  (s.logEvent 0x0030 noSrc [BitVec.ofNat 8 s.lc.fuses.lcs, BitVec.ofNat 8 j.new.lcs]).set LCY_STATUS.V 0 2

/-- The device as the warm reset after a life-cycle change finds it. -/
def State.lcyBlown (s : State) (j : LcyJob) : State := ((s.zeroised.logEvent 0x0031 noSrc []).lcyFused j).lcyNoted j

theorem State.lcyDone_of_job {s : State} {j : LcyJob} (hj : s.lc.lcyJob = some j) (hb : j.blown = false) :
    s.lcyDone = (s.lcyBlown j).warmReset 4 false := by
  simp only [State.lcyDone, hj, hb, Bool.false_eq_true, if_false, State.lcyBlown, State.lcyNoted, State.lcyFused, State.zeroised]

section
variable (s : State) (j : LcyJob)

theorem State.lcyNoted_moves : Moves (LCY_STATUS.V :: logMoves) [.cl, .ic, .out] s (s.lcyNoted j) :=
  (Moves.refl.also (s.logEvent_moves 0x0030 noSrc _) rfl rfl).also (State.set_moves _ LCY_STATUS.V 0 2) rfl rfl

theorem State.lcyBlown_moves : Moves (LCY_STATUS.V :: keyMoves ++ logMoves) (.lc :: .cl :: keyParts) s (s.lcyBlown j) :=
  (((Moves.refl.also s.zeroised_moves rfl rfl).also (State.logEvent_moves _ 0x0031 noSrc []) rfl rfl).also
    (State.lc_moves _ _) rfl rfl).also (State.lcyNoted_moves _ j) rfl rfl

theorem State.lcyBlown_job : (s.lcyBlown j).lc.lcyJob = some { j with blown := true } := by
  rw [State.lcyBlown, (State.lcyNoted_moves _ j).parts .lc rfl, State.lcyFused]

theorem State.lcyBlown_kram : (s.lcyBlown j).ke.kram = [] := by
  rw [State.lcyBlown, (State.lcyNoted_moves _ j).parts .ke rfl, State.lcyFused, (State.logEvent_moves _ _ _ _).parts .ke rfl,
    s.zeroised_kram]

end

theorem lifecycleChangeComplete_resets {s : State} {j : LcyJob} (hj : s.lc.lcyJob = some j) (hb : j.blown = false)
    (hm : s.mode ≠ 0) (ht : s.md.trans = none) :
    ∃ t, exec .lifecycleChangeComplete s = .next t ∧ t.lc.fuses = j.new ∧ t.lc.lcyJob = none ∧ t.mode = mBOOT ∧
      t.ke.slotKey = [] ∧ t.ke.saKey = [] ∧ t.ke.kram = [] := by
  have m := s.lcyBlown_moves j
  have e : s.lcyDone = (s.lcyBlown j).warmNow 4 false := (State.lcyDone_of_job hj hb).trans
    (State.warmReset_of_idle (ne_of_eq_of_ne (m.mode rfl) hm) ((congrArg ModeS.trans (m.parts .md rfl)).trans ht) 4 false)
  obtain ⟨hf, hjob, -, -⟩ := (s.lcyBlown j).warmNow_lc 4 false
  have hburnt : (s.lcyBlown j).burnt = j.new := by rw [State.burnt, State.lcyBlown_job]; rfl
  refine ⟨s.lcyDone.closed, rfl, ?_, ?_, ?_, ?_⟩
  · rw [State.closed_lc, e, hf, hburnt]
  · rw [State.closed_lc, e, hjob]
  · rw [State.closed_mode, e, State.warmNow_mode]
  · rw [State.closed_ke, e, State.warmNow_ke, State.lcyBlown_kram]
    exact ⟨rfl, rfl, rfl⟩

/-- Settles O15, by what each code of LCY_CMD does and by the warm reset that follows the blown fuses. -/
theorem lifeCycleCommands : Obligations.LifeCycleCommands :=
  ⟨fun _ _ => advFactory_begins, fun _ _ _ h hj => advProvisioned_begins h hj, fun _ _ => takeOwnership_begins,
    fun _ _ => releaseOwnership_begins, fun _ _ => scrap_begins, fun _ => scrapJtag_begins,
    fun _ _ _ h hj hl he hn => raiseMinSvn_appends h hj hl he hn, fun _ _ _ _ _ h hj => lifeCmd_refused h hj,
    fun _ _ => lifecycleChangeComplete_resets⟩

end Sys2Proof.Machine
end

/-! Transitions that complete, and the events of the mode machine (R45, R46, R157, R393, R456). -/
section
namespace Sys2Proof.Machine

/-! The end of a command where no degradation cause stands. -/

section
variable {s : State}

theorem State.settle_of_healthy (h : s.degraded = 0) : s.settle = s := by
  rw [State.settle, if_neg (fun c => c.1 h)]

theorem State.closed_of_healthy (h : s.degraded = 0) : s.closed = s.noted :=
  State.settle_of_healthy ((s.noted_moves.degraded rfl).trans h)

theorem State.takeAlarms_of_none (h : s.vn.alarms = 0) : s.takeAlarms = s := by
  have e : ({ s with vn.alarms := 0 } : State) = s := by rw [← h]
  rw [State.takeAlarms, h]
  exact e

/-- Without a degradation cause the end of a command that moves frames leaves the transition of the mode machine. -/
theorem State.finish_healthy (ha : s.vn.alarms = 0) (hd : s.degraded = 0) :
    ∃ u, finish s = .next u ∧ Moves flowMoves (.cl :: .md :: flowParts) s u ∧ u.md.trans = s.md.trans := by
  have m : Moves flowMoves flowParts s (s.flow.each (upto 16) (fun k s => s.carEnd k)) :=
    s.flow_moves.trans (Moves.each .refl (fun k u => Moves.refl.also (u.carEnd_moves k) rfl rfl))
  refine ⟨_, rfl, ?_⟩
  rw [State.takeAlarms_of_none ((m.parts .alarms rfl).trans ha), State.closed_of_healthy ((m.degraded rfl).trans hd),
    State.noted_trans, m.parts .md rfl]
  exact ⟨(m.mono rfl rfl).also (State.noted_moves _) rfl rfl, rfl⟩

end

/-! A transition completes (R46). -/

section
variable (s : State)

theorem State.modeDrop_moves (was target now : Nat) : Moves discardMoves lostParts s (s.modeDrop was target now) := by
  have hg : Moves discardMoves lostParts s (if was = mGUARDED ∧ now ≠ mGUARDED then
      (s.each ((upto 16).filter (fun k => s.on CAR_TX.EN k)) (fun k s => s.carLeave k)).flushQueues QUE_DCNT.D_MODE 7
        (fun q _ => decide (q < 8192) && ((upto 16).filter (fun k => s.on CAR_TX.EN k)).contains (s.queuePort q))
      else s) :=
    .ite ((Moves.each .refl (fun k u => u.carLeave_moves k)).trans (State.flushQueues_byMode_moves _ 7 _)) .refl
  exact .ite s.discardAll_moves (.ite (hg.trans (State.flushQueues_byMode_moves _ 7 _)) hg)

/-- What the completion of a transition does before the mode changes. -/
def State.overlayApplied (s : State) (t : Trans) : State :=
  let u := s.modeDrop s.trafficMode t.target (if t.target = mDEGRADED then t.base else t.target)
  let u := u.each t.overlays (fun m s => s.records (s.overlay m))
  if t.target = mSTANDBY ∧ s.mode ≠ mBOOT then u.resumeStop else u

/-- The new mode shows. -/
def State.overlayShown (s : State) (t : Trans) : State :=
  { s.set GLB_MODE.IN_TRANSITION 0 0 with md.trans := none, md.cyc := none, md.cycBegan := false }.setMode t.target t.base t.cause

/-- What follows a change of mode. -/
def State.overlayAfter (s : State) (from_ : Nat) (t : Trans) : State :=
  let s := if [2, 3, 4].contains t.cause ∧ s.md.pendReq = none ∧ s.get GLB_MODE_REQ.RESULT 0 = 1 then
      s.set GLB_MODE_REQ.RESULT 0 2
    else s
  let s := if t.target = mLOCKDOWN then { s with cl.dormAlarm := false, md.pendLock := none, md.heldLock := none } else s
  if from_ = mBOOT ∧ t.target = mSTANDBY then s.firstStandby else s

theorem State.overlayDone_of_trans {s : State} {t : Trans} (h : s.md.trans = some t) :
    s.overlayDone = (((s.overlayApplied t).overlayShown t).overlayAfter s.mode t).nextTrigger := by
  rw [State.overlayDone, h]
  rfl

/-- Overlays without records write nothing. -/
theorem State.overlays_empty {l : List Nat} (h : ∀ m ∈ l, s.overlay m = []) :
    s.each l (fun m s => s.records (s.overlay m)) = s := by
  induction l with
  | nil => rfl
  | cons m l ih =>
    have e : s.records (s.overlay m) = s := by rw [h m (List.mem_cons_self ..)]; rfl
    refine (congrArg (State.each · l _) e).trans (ih (fun k hk => h k (List.mem_cons_of_mem m hk)))

theorem State.overlayApplied_moves {t : Trans} (h : ∀ m ∈ t.overlays, s.overlay m = []) :
    Moves (GLB_TX_RESUME.V :: discardMoves) lostParts s (s.overlayApplied t) := by
  have m := s.modeDrop_moves s.trafficMode t.target (if t.target = mDEGRADED then t.base else t.target)
  have hu : ∀ k, (s.modeDrop s.trafficMode t.target (if t.target = mDEGRADED then t.base else t.target)).overlay k = s.overlay k :=
    fun k => by rw [State.overlay, State.overlay, m.parts .jg rfl]
  unfold State.overlayApplied
  simp only
  rw [State.overlays_empty _ (fun k hk => (hu k).trans (h k hk))]
  exact .ite ((m.mono rfl rfl).also (State.resumeStop_moves _) rfl rfl) (m.mono rfl rfl)

/-- Fields that a change of mode moves. -/
abbrev modeMoves : List Fld := GLB_MODE.PREV :: GLB_MODE.MODE :: GLB_MODE.BASE :: GLB_MODE.CAUSE :: logMoves

theorem State.setMode_moves (m b c : Nat) : Moves modeMoves [.cl, .ic, .out] s (s.setMode m b c) :=
  ((((Moves.refl.also (s.set_moves GLB_MODE.PREV 0 s.mode) rfl rfl).also (State.set_moves _ GLB_MODE.MODE 0 m) rfl rfl).also
    (State.set_moves _ GLB_MODE.BASE 0 b) rfl rfl).also (State.set_moves _ GLB_MODE.CAUSE 0 c) rfl rfl).also
    (State.logMode_moves _) rfl rfl

/-- GLB_MODE shows the change (R42). -/
theorem State.setMode_shows {m b c : Nat} (hm : m < 2 ^ 4) (hb : b < 2 ^ 4) (hc : c < 2 ^ 8) :
    (s.setMode m b c).mode = m ∧ (s.setMode m b c).get GLB_MODE.BASE 0 = b ∧
      (s.setMode m b c).get GLB_MODE.PREV 0 = s.mode ∧ (s.setMode m b c).get GLB_MODE.CAUSE 0 = c := by
  have hs : s.mode < 2 ^ 4 := Nat.mod_lt _ (Nat.two_pow_pos 4)
  unfold State.setMode
  refine ⟨?_, ?_, ?_, ?_⟩
  · rw [(State.logMode_moves _).mode rfl, State.mode]
    simp (disch := decide) only [State.get_set_field, State.get_set_self]
    exact Nat.mod_eq_of_lt hm
  · rw [(State.logMode_moves _).get rfl]
    simp (disch := decide) only [State.get_set_field, State.get_set_self]
    exact Nat.mod_eq_of_lt hb
  · rw [(State.logMode_moves _).get rfl]
    simp (disch := decide) only [State.get_set_field, State.get_set_self]
    exact Nat.mod_eq_of_lt hs
  · rw [(State.logMode_moves _).get rfl]
    simp only [State.get_set_self]
    exact Nat.mod_eq_of_lt hc

theorem State.overlayShown_moves (t : Trans) :
    Moves (GLB_MODE.IN_TRANSITION :: modeMoves) [.md, .cl, .ic, .out] s (s.overlayShown t) :=
  ((Moves.refl.also (s.set_moves GLB_MODE.IN_TRANSITION 0 0) rfl rfl).also (State.md_moves _ _) rfl rfl).also
    (State.setMode_moves _ _ _ _) rfl rfl

/-- The transition is over, what waits behind it still waits. -/
theorem State.overlayShown_md (t : Trans) :
    (s.overlayShown t).md = { s.md with trans := none, cyc := none, cycBegan := false } :=
  (State.setMode_moves _ _ _ _).parts .md rfl

theorem State.overlayShown_shows {t : Trans} (h : t.target < 8 ∧ t.base < 8 ∧ t.cause < 16) :
    (s.overlayShown t).mode = t.target ∧ (s.overlayShown t).get GLB_MODE.BASE 0 = t.base ∧
      (s.overlayShown t).get GLB_MODE.PREV 0 = s.mode ∧ (s.overlayShown t).get GLB_MODE.CAUSE 0 = t.cause ∧
      (s.overlayShown t).get GLB_MODE.IN_TRANSITION 0 = 0 := by
  have hi : Moves [GLB_MODE.IN_TRANSITION] [.md] s
      { s.set GLB_MODE.IN_TRANSITION 0 0 with md.trans := none, md.cyc := none, md.cycBegan := false } :=
    (Moves.refl.also (s.set_moves GLB_MODE.IN_TRANSITION 0 0) rfl rfl).also (State.md_moves _ _) rfl rfl
  obtain ⟨hm, hb, hp, hc⟩ := State.setMode_shows
    { s.set GLB_MODE.IN_TRANSITION 0 0 with md.trans := none, md.cyc := none, md.cycBegan := false }
    (m := t.target) (b := t.base) (c := t.cause) (by omega) (by omega) (by omega)
  exact ⟨hm, hb, hp.trans (hi.mode rfl), hc, ((State.setMode_moves _ _ _ _).get rfl 0).trans (State.get_set_self s GLB_MODE.IN_TRANSITION 0 0)⟩

theorem State.jgMd_moves (x : JigS) (y : ModeS) : Moves [] [.jg, .md] s { s with jg := x, md := y } :=
  .of_parts rfl (by rintro ⟨⟩ ⟨⟩ <;> rfl) rfl rfl

theorem State.clMd_moves (x : ClmS) (y : ModeS) : Moves [] [.cl, .md] s { s with cl := x, md := y } :=
  .of_parts rfl (by rintro ⟨⟩ ⟨⟩ <;> rfl) rfl rfl

theorem State.firstStandby_moves : Moves [GLB_BOOT_STATUS.STAGE] [.jg, .md] s s.firstStandby :=
  (Moves.refl.also (s.set_moves GLB_BOOT_STATUS.STAGE 0 0x0D) rfl rfl).also (State.jgMd_moves _ _ _) rfl rfl

theorem State.overlayAfter_moves (m : Nat) (t : Trans) :
    Moves [GLB_MODE_REQ.RESULT, GLB_BOOT_STATUS.STAGE] [.md, .cl, .jg] s (s.overlayAfter m t) := by
  have h0 : Moves [GLB_MODE_REQ.RESULT, GLB_BOOT_STATUS.STAGE] [.md, .cl, .jg] s
      (if [2, 3, 4].contains t.cause ∧ s.md.pendReq = none ∧ s.get GLB_MODE_REQ.RESULT 0 = 1 then
        s.set GLB_MODE_REQ.RESULT 0 2 else s) := .ite (Moves.refl.also (s.set_moves GLB_MODE_REQ.RESULT 0 2) rfl rfl) .refl
  have h1 (x y) := Moves.ite (c := t.target = mLOCKDOWN) (h0.also (State.clMd_moves _ x y) rfl rfl) h0
  exact .ite ((h1 _ _).also (State.firstStandby_moves _) rfl rfl) (h1 _ _)

/-- Nothing waits behind a transition that found nothing waiting. -/
theorem State.overlayAfter_idle {s : State} (m : Nat) (t : Trans) (ht : s.md.trans = none)
    (h : s.md.pendLock = none ∧ s.md.pendWarm = none ∧ s.md.pendReq = none ∧ s.md.heldLock = none) :
    (s.overlayAfter m t).md.trans = none ∧ (s.overlayAfter m t).md.pendLock = none ∧
      (s.overlayAfter m t).md.pendWarm = none ∧ (s.overlayAfter m t).md.pendReq = none := by
  obtain ⟨hl, hw, hr, hh⟩ := h
  unfold State.overlayAfter
  simp only
  split_ifs <;> simp [State.firstStandby, State.stage, *]

end

/-- With no cause and nothing waiting, no trigger follows. -/
theorem State.nextTrigger_of_idle {s : State} (hd : s.degraded = 0) (ht : s.md.trans = none) (hl : s.md.pendLock = none)
    (hw : s.md.pendWarm = none) (hr : s.md.pendReq = none) : s.nextTrigger = s := by
  simp only [State.nextTrigger, hl, hw, State.settle_of_healthy hd, ht, hr]

theorem overlayComplete_shows {s : State} {x : Trans} (ht : s.md.trans = some x) (hc : s.calm = true)
    (ho : ∀ m ∈ x.overlays, s.overlay m = []) (hx : x.target < 8 ∧ x.base < 8 ∧ x.cause < 16)
    (hp : s.md.pendLock = none ∧ s.md.pendWarm = none ∧ s.md.pendReq = none ∧ s.md.heldLock = none) (hd : s.degraded = 0) :
    ∃ t, exec .overlayComplete s = .next t ∧ t.mode = x.target ∧ t.get GLB_MODE.BASE 0 = x.base ∧
      t.get GLB_MODE.PREV 0 = s.mode ∧ t.get GLB_MODE.CAUSE 0 = x.cause ∧ t.get GLB_MODE.IN_TRANSITION 0 = 0 ∧
      t.md.trans = none := by
  have m1 := s.overlayApplied_moves ho
  have m2 := (s.overlayApplied x).overlayShown_moves x
  have m3 := ((s.overlayApplied x).overlayShown x).overlayAfter_moves s.mode x
  have hmd : (s.overlayApplied x).md = s.md := m1.parts .md rfl
  obtain ⟨ht', hl', hw', hr'⟩ := State.overlayAfter_idle (s := (s.overlayApplied x).overlayShown x) s.mode x
    (by rw [State.overlayShown_md]) (by rw [State.overlayShown_md, hmd]; exact hp)
  have hd' : (((s.overlayApplied x).overlayShown x).overlayAfter s.mode x).degraded = 0 := by
    rw [m3.degraded rfl, m2.degraded rfl, m1.degraded rfl, hd]
  have ha : (((s.overlayApplied x).overlayShown x).overlayAfter s.mode x).vn.alarms = 0 := by
    have h0 : s.vn.alarms = 0 := by simp only [State.calm, Bool.and_eq_true, beq_iff_eq] at hc; exact hc.2
    exact (m3.parts .alarms rfl).trans ((m2.parts .alarms rfl).trans ((m1.parts .alarms rfl).trans h0))
  have e : s.overlayDone = ((s.overlayApplied x).overlayShown x).overlayAfter s.mode x :=
    (State.overlayDone_of_trans ht).trans (State.nextTrigger_of_idle hd' ht' hl' hw' hr')
  obtain ⟨hm, hb, hpr, hca, hit⟩ := (s.overlayApplied x).overlayShown_shows hx
  obtain ⟨t, hexec, mt, htt⟩ := State.finish_healthy ha hd'
  refine ⟨t, (congrArg finish e).trans hexec, ?_, ?_, ?_, ?_, ?_, htt.trans ht'⟩
  · rw [mt.mode rfl, m3.mode rfl, hm]
  · rw [mt.get rfl, m3.get rfl, hb]
  · rw [mt.get rfl, m3.get rfl, hpr, m1.mode rfl]
  · rw [mt.get rfl, m3.get rfl, hca]
  · rw [mt.get rfl, m3.get rfl, hit]

/-! DEGRADED is left, LOCKDOWN is ordered, debug is entered. -/

theorem degradedClearTimer_begins {s : State} (hm : s.mode = mDEGRADED) (hd : s.degraded = 0) (hc : s.md.degClear ≠ 0)
    (hn : s.md.degClear - 1 + sec ≤ s.mono) (ht : s.md.trans = none) :
    ∃ t, exec .degradedClearTimer s = .next t ∧
      t.md.trans = some ⟨s.get GLB_MODE.BASE 0, s.get GLB_MODE.BASE 0, 6, baseOverlays (s.get GLB_MODE.BASE 0)⟩ := by
  refine ⟨s.degradedClear.closed, rfl, ?_⟩
  rw [State.degradedClear, if_pos ⟨hm, hd, hc, hn, ht⟩]
  exact State.closed_trans_begun rfl rfl

theorem ofcLockdown_begins {s : State} {p : Port} (h : s.admits p.val 0 true true reg_OFC_LOCKDOWN.base = true)
    (hm : s.mode ≠ 0 ∧ s.mode ≠ mBOOT ∧ s.mode ≠ mLOCKDOWN) (ht : s.md.trans = none) :
    ∃ t, exec (.ofcLockdown p) s = .next t ∧ t.md.trans = some ⟨mLOCKDOWN, mLOCKDOWN, 0x0A, [6]⟩ := by
  obtain ⟨h0, hb, hl⟩ := hm
  have hg : (s.granted p.val true).mode = s.mode := State.granted_mode ..
  obtain ⟨htr, hcy⟩ := State.lockdown_begins (s := s.granted p.val true) (by rwa [hg]) (by rwa [hg]) (by rwa [hg])
    (by rwa [State.granted_md]) 0x0A
  have e : s.onWrite p.val true reg_OFC_LOCKDOWN.base (fun s => s.ofcLockdown 0x10CD0001) = (s.granted p.val true).lockdown 0x0A := by
    rw [State.onWrite_of_admits _ _ _ _ _ h, State.ofcLockdown, if_pos (by decide)]
  refine ⟨_, rfl, ?_⟩
  rw [e]
  exact State.closed_trans_begun htr hcy

theorem jtagDebugUnlock_remembered {s : State} (hm : s.mode ≠ 0) :
    ∃ t, exec .jtagDebugUnlock s = .next t ∧ t.lc.jtagUnlocked = true ∧
      (s.mode = mBOOT → s.get GLB_BOOT_STATUS.STAGE 0 < 3 → t.lc.debugUnlocked = true) := by
  refine ⟨s.jtagUnlock.closed, rfl, ?_, fun hb hs => ?_⟩ <;> rw [State.closed_lc, State.jtagUnlock, if_neg hm]
  · simp only
    split <;> rfl
  · exact congrArg (fun u : State => u.lc.debugUnlocked) (if_pos ⟨hb, hs⟩)

/-- The state in which FACTORY mode is entered: every key but the key RAM is zeroised, debug is unlocked. -/
def State.debugZero (s : State) : State := { s.zeroised with ke.kram := s.ke.kram, lc.debugUnlocked := true }

/-- A LOCKDOWN trigger held during BOOT follows (R45). -/
def State.heldNext (s : State) : State :=
  match s.md.heldLock with
  | some c => { s with md.heldLock := none }.lockdown c
  | none => s

theorem State.enterFactory_at_boot {s : State} (hm : s.mode = mBOOT) (ht : s.md.trans = none)
    (hl : s.lc.fuses.lcs = 1 ∨ s.lc.debugUnlocked = true) :
    s.enterFactory = (s.debugZero.rootSlots.setMode mFACTORY mFACTORY 0x0B).heldNext := by
  rw [State.enterFactory, if_pos ⟨hm, ht, hl⟩]
  simp only [State.heldNext, State.debugZero, State.zeroised] <;> rfl

theorem State.heldNext_moves (s : State) : Moves [GLB_MODE_REQ.RESULT, GLB_MODE.IN_TRANSITION] [.md] s s.heldNext := by
  unfold State.heldNext
  split
  · exact (Moves.refl.also (s.md_moves _) rfl rfl).trans (State.lockdown_moves _ _)
  · exact .refl

/-- FACTORY shows with cause 0x0B, and debug stands. -/
theorem State.enterFactory_shows {s : State} (hm : s.mode = mBOOT) (ht : s.md.trans = none)
    (hl : s.lc.fuses.lcs = 1 ∨ s.lc.debugUnlocked = true) :
    s.enterFactory.mode = mFACTORY ∧ s.enterFactory.get GLB_MODE.CAUSE 0 = 0x0B ∧ s.enterFactory.lc.debugUnlocked = true := by
  obtain ⟨hmode, -, -, hcause⟩ := State.setMode_shows s.debugZero.rootSlots (m := mFACTORY) (b := mFACTORY) (c := 0x0B)
    (by decide) (by decide) (by decide)
  have mh := State.heldNext_moves (s.debugZero.rootSlots.setMode mFACTORY mFACTORY 0x0B)
  have hlc : s.debugZero.rootSlots.lc = s.debugZero.lc := (State.rootSlots_moves _).parts .lc rfl
  rw [State.enterFactory_at_boot hm ht hl]
  refine ⟨(mh.mode rfl).trans hmode, (mh.get rfl 0).trans hcause, ?_⟩
  rw [mh.parts .lc rfl, (State.setMode_moves _ _ _ _).parts .lc rfl, hlc]
  rfl

theorem dbgEnter_factory {s : State} {who : Option Port}
    (ha : ∀ p, who = some p → s.admits p.val 0 true true reg_DBG_CTL.base = true)
    (hj : who = none → s.lc.jtagUnlocked = true) (hm : s.mode = mBOOT) (ht : s.md.trans = none)
    (hl : s.lc.fuses.lcs = 1 ∨ s.lc.debugUnlocked = true) :
    ∃ t, exec (.dbgEnter who) s = .next t ∧ t.mode = mFACTORY ∧ t.get GLB_MODE.CAUSE 0 = 0x0B ∧
      t.lc.debugUnlocked = true := by
  have shown (u : State) (hum : u.mode = mBOOT) (hut : u.md.trans = none)
      (hul : u.lc.fuses.lcs = 1 ∨ u.lc.debugUnlocked = true) : u.enterFactory.closed.mode = mFACTORY ∧
        u.enterFactory.closed.get GLB_MODE.CAUSE 0 = 0x0B ∧ u.enterFactory.closed.lc.debugUnlocked = true := by
    obtain ⟨h1, h2, h3⟩ := State.enterFactory_shows hum hut hul
    exact ⟨(State.closed_mode _).trans h1, (State.closed_get _ rfl 0).trans h2, by rw [State.closed_lc, h3]⟩
  cases who with
  | some p =>
    have hg : (s.granted p.val true).mode = mBOOT := (State.granted_mode ..).trans hm
    have e : s.onWrite p.val true reg_DBG_CTL.base (fun s => s.dbgWrite (.port p.val) 1 reg_DBG_CTL.base) =
        (s.granted p.val true).enterFactory := by
      rw [State.onWrite_of_admits _ _ _ _ _ (ha p rfl), State.dbgWrite, if_neg (fun c => c.2 hg), State.dbgCtl, if_pos (by decide)]
    refine ⟨(s.granted p.val true).enterFactory.closed, congrArg done e, shown _ hg ?_ ?_⟩
    · rwa [State.granted_md]
    · rwa [State.granted_lc]
  | none =>
    have e : (if s.lc.jtagUnlocked then s.dbgCtl 1 else s) = s.enterFactory := by
      rw [if_pos (hj rfl), State.dbgCtl, if_pos (by decide)]
    exact ⟨s.enterFactory.closed, congrArg done e, shown s hm ht hl⟩

/-- Settles O13, by the stages of a transition's completion and by what starts one. -/
theorem overlaysAndModeEvents : Obligations.OverlaysAndModeEvents :=
  ⟨fun _ _ => overlayComplete_shows, fun _ => degradedClearTimer_begins, fun _ _ => ofcLockdown_begins,
    fun _ _ => dbgEnter_factory, fun _ => jtagDebugUnlock_remembered⟩

end Sys2Proof.Machine
end

/-! Mode requests (R43, R45, R47, R471). -/
section
namespace Sys2Proof.Machine

/-! How a request is evaluated. -/

/-- The rows of the table of R45 that a request may ask for. -/
abbrev requestRows : List (Nat × Nat) := [(2, 3), (2, 4), (3, 4), (3, 2), (4, 3), (4, 2), (5, 2)]

theorem requestRows_iff (m t : Nat) : requestRows.contains (m, t) = true ↔
    ((m = mSTANDBY ∧ (t = 3 ∨ t = 4)) ∨ (m = mSECURE ∧ (t = 4 ∨ t = 2)) ∨ (m = mGUARDED ∧ (t = 3 ∨ t = 2)) ∨
      (m = mDEGRADED ∧ t = 2)) := by
  simp only [List.contains_iff_mem, List.mem_cons, List.not_mem_nil, or_false, Prod.mk.injEq, mSTANDBY, mSECURE, mGUARDED,
    mDEGRADED]
  tauto

/-- The overlays of a target entered from a mode. -/
theorem reqOverlays_eq (m t : Nat) : reqOverlays m t = if t = mGUARDED ∧ m ≠ mSECURE then [3, 4] else [t] := by
  unfold reqOverlays
  by_cases ht : t = mGUARDED
  · by_cases hm : m = mSECURE <;> simp [ht, hm, mGUARDED]
  · simp [ht]

section
variable {s : State} {r : ModeReq}

theorem State.evalReq_of_same (h : r.target = s.mode ∨ (s.mode = mDEGRADED ∧ r.target = s.get GLB_MODE.BASE 0)) :
    s.evalReq r = s.reqResult r.src 2 0 := by
  rw [State.evalReq, if_pos h]

variable (hn : ¬(r.target = s.mode ∨ (s.mode = mDEGRADED ∧ r.target = s.get GLB_MODE.BASE 0)))
include hn

theorem State.evalReq_of_guard (hl : requestRows.contains (s.mode, r.target) = true) {g : Nat}
    (hg : g = s.failedGuard (s.mode = mSTANDBY) (r.target = mGUARDED)) (h0 : g ≠ 0) :
    s.evalReq r = s.reqResult r.src 3 g := by
  rw [State.evalReq, if_neg hn]
  simp only [(requestRows_iff _ _).mp hl, if_true, ← hg, if_pos h0]

theorem State.evalReq_of_legal (hl : requestRows.contains (s.mode, r.target) = true)
    (hg : s.failedGuard (s.mode = mSTANDBY) (r.target = mGUARDED) = 0) :
    s.evalReq r = (s.reqResult r.src 1 0).begin
      ⟨r.target, r.target, r.cause, if r.target = mGUARDED ∧ s.mode ≠ mSECURE then [3, 4] else [r.target]⟩ := by
  rw [State.evalReq, if_neg hn, ← reqOverlays_eq]
  simp only [(requestRows_iff _ _).mp hl, if_true, hg, ne_eq, not_true_eq_false, if_false]

theorem State.evalReq_of_illegal (hl : requestRows.contains (s.mode, r.target) = false) :
    s.evalReq r = s.reqResult r.src 4 0 := by
  have h := mt (requestRows_iff s.mode r.target).mpr (ne_true_of_eq_false hl)
  rw [State.evalReq, if_neg hn]
  simp only [h, if_false]

end

/-! What a kept request leaves. -/

abbrev reqMoves : List Fld := [GLB_MODE_REQ.RESULT, GLB_MODE_REQ.SRC, GLB_MODE_REQ.GUARD, GLB_MODE.IN_TRANSITION]

section
variable (s : State)

theorem State.reqResult_moves (src res guard : Nat) : Moves reqMoves [] s (s.reqResult src res guard) :=
  ((Moves.refl.also (s.set_moves GLB_MODE_REQ.RESULT 0 res) rfl rfl).also (State.set_moves _ GLB_MODE_REQ.SRC 0 src) rfl
    rfl).also (State.set_moves _ GLB_MODE_REQ.GUARD 0 guard) rfl rfl

theorem State.reqResult_result (src res guard : Nat) :
    (s.reqResult src res guard).get GLB_MODE_REQ.RESULT 0 = res % 2 ^ 3 := by
  simp (disch := decide) only [State.reqResult, State.get_set_field, State.get_set_self]
  rfl

theorem State.reqResult_guard (src res guard : Nat) :
    (s.reqResult src res guard).get GLB_MODE_REQ.GUARD 0 = guard % 2 ^ 8 := State.get_set_self _ GLB_MODE_REQ.GUARD 0 guard

theorem State.evalReq_moves (r : ModeReq) : Moves reqMoves [.md] s (s.evalReq r) := by
  have h (a b : Nat) : Moves reqMoves [.md] s (s.reqResult r.src a b) := Moves.refl.also (s.reqResult_moves r.src a b) rfl rfl
  exact .ite (h 2 0) (.ite (.ite (h 3 _) ((h 1 0).also (State.begin_moves _ _) rfl rfl)) (h 4 0))

theorem State.reqKeep_moves (r : ModeReq) (prio : Nat) : Moves reqMoves [.md] s (s.reqKeep r prio) :=
  .ite ((s.evalReq_moves r).also (State.md_moves _ _) rfl rfl)
    ((Moves.refl.also (s.reqResult_moves r.src 1 0) rfl rfl).also (State.md_moves _ _) rfl rfl)

/-- No guard's number is past the last one. -/
theorem State.failedGuard_lt (a b : Bool) : s.failedGuard a b < 2 ^ 8 := by
  unfold State.failedGuard
  split_ifs <;> decide

end

/-- Where no degradation cause moves the mode, the end of a command leaves the transition. -/
theorem State.closed_trans_of_still {s : State} (h : ¬(s.degraded ≠ 0 ∧ (s.mode = mSECURE ∨ s.mode = mGUARDED))) :
    s.closed.md.trans = s.md.trans := by
  rw [State.closed_eq_settle, State.settle, if_neg, State.noted_trans]
  rintro ⟨hd, hm, -⟩
  rw [s.noted_moves.degraded rfl] at hd
  rw [s.noted_moves.mode rfl] at hm
  exact h ⟨hd, hm⟩

/-- The transition in progress that yields to nothing leaves the mode machine's pending request (R47). -/
theorem State.closed_pendReq_of_unyielding {s : State} (ht : s.md.trans ≠ none) (hy : s.yields = false) :
    s.closed.md.pendReq = s.md.pendReq := by
  rw [State.closed_eq_settle, State.settle, if_neg, State.noted, State.degNote_keep (·.md.pendReq) (fun _ _ => rfl),
    s.portsCome_moves.parts .md rfl]
  rintro ⟨-, -, h | h⟩
  · exact ht (s.noted_trans ▸ h)
  · rw [State.noted_yields, hy] at h
    cases h

/-! A request that is the only one of its cycle, at the end of its command. -/

section
variable {s : State} {m src cause prio : Nat} (hq : s.reqQuiet = true) (hd : s.degSafe) (ht : s.md.trans = none)
include hq hd ht

/-- What a request leaves when its command ends is what its evaluation leaves. -/
theorem State.modeRequest_ends {x : State} (hx : s.evalReq ⟨m, src, cause⟩ = x) :
    (∀ (f : Fld) (i : Nat), closeMoves f = false → (s.modeRequest m src cause prio).closed.get f i = x.get f i) ∧
      (s.modeRequest m src cause prio).closed.md.trans = x.md.trans := by
  rw [State.modeRequest_of_quiet hq]
  have mk := s.reqKeep_moves ⟨m, src, cause⟩ prio
  refine ⟨fun f i hf => ?_, ?_⟩
  · rw [State.closed_get _ hf, State.reqKeep_get ht, hx]
  · rw [State.closed_trans_of_still, State.reqKeep_trans ht, hx]
    rw [mk.degraded rfl, mk.mode rfl]
    exact fun h => hd ⟨h.1, h.2, ht⟩

/-- A result other than 1 shows with its source and guard, and no transition begins. -/
theorem State.modeRequest_answers {res guard : Nat} (hx : s.evalReq ⟨m, src, cause⟩ = s.reqResult src res guard)
    (hr : res < 2 ^ 3) (hs : src < 2 ^ 3) (hg : guard < 2 ^ 8) :
    (s.modeRequest m src cause prio).closed.get GLB_MODE_REQ.RESULT 0 = res ∧
      (s.modeRequest m src cause prio).closed.get GLB_MODE_REQ.SRC 0 = src ∧
      (s.modeRequest m src cause prio).closed.get GLB_MODE_REQ.GUARD 0 = guard ∧
      (s.modeRequest m src cause prio).closed.md.trans = none := by
  obtain ⟨hf, htr⟩ := State.modeRequest_ends (prio := prio) hq hd ht hx
  refine ⟨?_, ?_, ?_, htr.trans ht⟩
  · rw [hf _ _ rfl, State.reqResult_result, Nat.mod_eq_of_lt hr]
  · rw [hf _ _ rfl, State.reqResult_src]
    exact Nat.mod_eq_of_lt hs
  · rw [hf _ _ rfl, State.reqResult_guard, Nat.mod_eq_of_lt hg]

/-- A transition that a request begins goes with RESULT 1. -/
theorem State.modeRequest_begins {x : Trans} (hx : s.evalReq ⟨m, src, cause⟩ = (s.reqResult src 1 0).begin x)
    (hs : src < 2 ^ 3) :
    (s.modeRequest m src cause prio).closed.get GLB_MODE_REQ.RESULT 0 = 1 ∧
      (s.modeRequest m src cause prio).closed.get GLB_MODE_REQ.SRC 0 = src ∧
      (s.modeRequest m src cause prio).closed.md.trans = some x := by
  obtain ⟨hf, htr⟩ := State.modeRequest_ends (prio := prio) hq hd ht hx
  refine ⟨?_, ?_, htr⟩
  · rw [hf _ _ rfl, State.begin_get _ _ (by decide), State.reqResult_result]
    rfl
  · rw [hf _ _ rfl, State.begin_get _ _ (by decide), State.reqResult_src]
    exact Nat.mod_eq_of_lt hs

end

/-! The three commands of a port. -/

theorem State.modeReqWrite_of_port {s : State} {p t off : Nat} (h : t = mSTANDBY ∨ t = mSECURE ∨ t = mGUARDED) :
    s.modeReqWrite (.port p) t off = s.modeRequest t p 2 (prioPort p) := by
  obtain rfl | rfl | rfl := h <;> rfl

/-- What a port's request does, as its command ends. -/
theorem modeReq_exec {s : State} {p : Port} {c : Instr} {m : Nat} (h : s.mayWrite p.val false reg_GLB_MODE_REQ.base)
    (hq : (s.granted p.val false).reqQuiet = true)
    (hc : (c, m) ∈ [(Instr.modeReqStandby p, mSTANDBY), (.modeReqSecure p, mSECURE), (.modeReqGuarded p, mGUARDED)]) :
    exec c s = .next ((s.granted p.val false).modeRequest m p.val 2 (prioPort p.val)).closed := by
  obtain ⟨ha, hcalm⟩ := h
  have hcmd (t : Nat) (ht : t = mSTANDBY ∨ t = mSECURE ∨ t = mGUARDED) : finish (s.modeReqCmd p.val t) =
      .next ((s.granted p.val false).modeRequest t p.val 2 (prioPort p.val)).closed := by
    rw [State.modeReqCmd, State.onWrite_of_admits _ _ _ _ _ ha, State.modeReqWrite_of_port ht]
    refine finish_calm _ ?_
    rw [State.modeRequest_of_quiet hq, (State.reqKeep_moves _ _ _).calm rfl, State.calm_granted, hcalm]
  simp only [List.mem_cons, List.not_mem_nil, or_false, Prod.mk.injEq] at hc
  obtain ⟨rfl, rfl⟩ | ⟨rfl, rfl⟩ | ⟨rfl, rfl⟩ := hc
  · exact hcmd mSTANDBY (.inl rfl)
  · exact hcmd mSECURE (.inr (.inl rfl))
  · exact hcmd mGUARDED (.inr (.inr rfl))

/-- A request that comes while a transition that yields to nothing is in progress is kept (R43). -/
theorem State.modeRequest_waits {s : State} {m src cause prio : Nat} {x : Trans} (hq : s.reqQuiet = true)
    (ht : s.md.trans = some x) (hs : src < 2 ^ 3) :
    (s.modeRequest m src cause prio).closed.get GLB_MODE_REQ.RESULT 0 = 1 ∧
      (s.modeRequest m src cause prio).closed.get GLB_MODE_REQ.SRC 0 = src ∧
      (s.modeRequest m src cause prio).closed.md.trans = some x ∧
      (s.modeRequest m src cause prio).closed.md.pendReq = some ⟨m, src, cause⟩ := by
  have e : s.reqKeep ⟨m, src, cause⟩ prio = { s.reqResult src 1 0 with
      md.pendReq := some ⟨m, src, cause⟩
      md.cyc := some ⟨s.kclk, prio, ⟨m, src, cause⟩, s.get GLB_MODE_REQ.RESULT 0, s.get GLB_MODE_REQ.SRC 0,
        s.get GLB_MODE_REQ.GUARD 0, s.md.pendReq⟩
      md.cycBegan := false } := by
    rw [State.reqKeep, if_neg (by rw [ht]; exact Option.some_ne_none x)]
  have htr : (s.reqKeep ⟨m, src, cause⟩ prio).md.trans = some x := by rw [e]; exact ht
  have hy : (s.reqKeep ⟨m, src, cause⟩ prio).yields = false := by rw [e]; rfl
  have hne : (s.reqKeep ⟨m, src, cause⟩ prio).md.trans ≠ none := by rw [htr]; exact Option.some_ne_none x
  rw [State.modeRequest_of_quiet hq]
  refine ⟨?_, ?_, ?_, ?_⟩
  · rw [State.closed_get _ rfl, e]
    exact (s.reqResult_result src 1 0).trans rfl
  · rw [State.closed_get _ rfl, e]
    exact (s.reqResult_src src 1 0).trans (Nat.mod_eq_of_lt hs)
  · rw [State.closed_trans_of_unyielding hne hy, htr]
  · rw [State.closed_pendReq_of_unyielding hne hy, e]

/-- Settles O12: a request alone in its cycle leaves what its evaluation leaves, or is kept. -/
theorem modeRequestsStartTransitions : Obligations.ModeRequestsStartTransitions := by
  intro s p c m g legal h hquiet hsafe hc hlegal hg
  have hgm : (s.granted p.val false).mode = s.mode := State.granted_mode ..
  have hmd : (s.granted p.val false).md = s.md := State.granted_md ..
  have hbase : (s.granted p.val false).get GLB_MODE.BASE 0 = s.get GLB_MODE.BASE 0 := State.granted_get _ _ _ rfl 0
  have hq : (s.granted p.val false).reqQuiet = true := by
    have hmono : (s.granted p.val false).mono = s.mono := by simp [State.granted]
    rwa [State.reqQuiet, State.kclk, hmd, hmono]
  have hd : (s.granted p.val false).degSafe := by
    have e : (s.granted p.val false).degraded = s.degraded := by
      simp only [State.degraded, State.granted_get s p.val false (f := GLB_DEGRADED_CAUSE.REGION_FENCED) rfl,
        State.granted_get s p.val false (f := GLB_DEGRADED_CAUSE.SLICE_REDUCED) rfl,
        State.granted_get s p.val false (f := GLB_DEGRADED_CAUSE.FEED_LOST) rfl,
        State.granted_get s p.val false (f := GLB_DEGRADED_CAUSE.MEM_CHANNEL) rfl,
        State.granted_get s p.val false (f := GLB_DEGRADED_CAUSE.DEEP_FLOOR) rfl,
        State.granted_get s p.val false (f := GLB_DEGRADED_CAUSE.THERMAL) rfl]
    rw [State.degSafe, e, hgm, hmd]
    exact hsafe
  have hp : p.val < 2 ^ 3 := by omega
  have hexec := modeReq_exec h hq hc
  rw [← hgm] at hlegal hg ⊢
  rw [← hmd, ← hbase]
  refine ⟨fun ht hsame => ?_, fun ht hne hnb => ⟨fun hl h0 => ?_, fun hl h0 => ?_, fun hl => ?_⟩, fun x ht _ => ?_⟩
  · obtain ⟨h1, h2, -, h4⟩ := State.modeRequest_answers (prio := prioPort p.val) hq hd ht
      (State.evalReq_of_same (r := ⟨m, p.val, 2⟩) hsame) (by decide) hp (by decide)
    exact ⟨_, hexec, h1, h2, h4⟩
  · have hn : ¬(m = (s.granted p.val false).mode ∨ _) := not_or.mpr ⟨hne, hnb⟩
    exact ⟨_, hexec, State.modeRequest_begins hq hd ht
      (State.evalReq_of_legal (r := ⟨m, p.val, 2⟩) hn (hlegal ▸ hl) (hg ▸ h0)) hp⟩
  · have hn : ¬(m = (s.granted p.val false).mode ∨ _) := not_or.mpr ⟨hne, hnb⟩
    obtain ⟨h1, h2, h3, h4⟩ := State.modeRequest_answers (prio := prioPort p.val) hq hd ht
      (State.evalReq_of_guard (r := ⟨m, p.val, 2⟩) hn (hlegal ▸ hl) hg h0) (by decide) hp (hg ▸ State.failedGuard_lt _ _ _)
    exact ⟨_, hexec, h1, h3, h2, h4⟩
  · have hn : ¬(m = (s.granted p.val false).mode ∨ _) := not_or.mpr ⟨hne, hnb⟩
    obtain ⟨h1, h2, -, h4⟩ := State.modeRequest_answers (prio := prioPort p.val) hq hd ht
      (State.evalReq_of_illegal (r := ⟨m, p.val, 2⟩) hn (hlegal ▸ hl)) (by decide) hp (by decide)
    exact ⟨_, hexec, h1, h2, h4⟩
  · obtain ⟨h1, h2, h3, h4⟩ := State.modeRequest_waits (m := m) (cause := 2) (prio := prioPort p.val) hq ht hp
    exact ⟨_, hexec, h1, h2, h3, h4⟩

end Sys2Proof.Machine
end

/-! Clamp's operations: the erase, the count of an event, the shared log entry (R364 to R375). -/
section
namespace Sys2Proof.Machine

/-! The erase (R373, R380). -/

/-- Fields and parts that an erase moves. -/
abbrev eraseMoves : List Fld := [OFC_RESET.WARM_AT, OFC_RESET.ARMED, GLB_MODE_REQ.RESULT, GLB_MODE.IN_TRANSITION] ++
  sessMoves ++ keyMoves ++ discardMoves
abbrev eraseParts : List Part := .md :: .lc :: .ofc :: .cl :: keyParts ++ lostParts

section
variable (s : State)

/-- An erase has begun (R373). -/
def State.eraseNoted (s : State) : State := { s with cl.eraseDue := true }

/-- What an erase takes beside the keys. -/
def State.emptied (s : State) : State := (s.each [0, 1] (fun p s => s.sessClose p 0xA)).warmDisarm.discardAll

theorem State.clampErase_eq : s.clampErase =
    if s.mode = 0 then { s with ke.kram := [], cl.dormAlarm := true, cl.eraseDue := true }
    else s.zeroised.eraseNoted.emptied.lockdown 7 := by
  simp only [State.clampErase, State.emptied, State.eraseNoted, State.zeroised]

theorem State.emptied_moves : Moves eraseMoves (.lc :: .ofc :: .ch :: lostParts) s s.emptied :=
  ((Moves.each .refl (fun p u => Moves.refl.also (u.sessClose_moves p 0xA) rfl rfl)).also (State.warmDisarm_moves _) rfl rfl).also
    (State.discardAll_moves _) rfl rfl

theorem State.clampErase_moves : Moves eraseMoves eraseParts s s.clampErase := by
  have hd : Moves eraseMoves eraseParts s { s with ke.kram := [], cl.dormAlarm := true, cl.eraseDue := true } :=
    (Moves.refl.also (s.ke_moves { s.ke with kram := [] }) rfl rfl).also
      (State.cl_moves _ { s.cl with dormAlarm := true, eraseDue := true }) rfl rfl
  rw [State.clampErase_eq]
  exact .ite hd ((((Moves.refl.also s.zeroised_moves rfl rfl).also (State.cl_moves _ _) rfl rfl).also
    (State.emptied_moves _) rfl rfl).also (State.lockdown_moves _ 7) rfl rfl)

/-- An erase is due when it is done, and leaves the windows and trips (R373). -/
theorem State.clampErase_cl : s.clampErase.cl = { s.cl with
    eraseDue := true, dormAlarm := if s.mode = 0 then true else s.cl.dormAlarm } := by
  rw [State.clampErase_eq]
  split
  · rfl
  · rw [(State.lockdown_moves _ 7).parts .cl rfl, (State.emptied_moves _).parts .cl rfl, State.eraseNoted,
      s.zeroised_moves.parts .cl rfl]

theorem State.clampErase_kram : s.clampErase.ke.kram = [] := by
  rw [State.clampErase_eq]
  split
  · rfl
  · rw [(State.lockdown_moves _ 7).parts .ke rfl, (State.emptied_moves _).parts .ke rfl, State.eraseNoted, s.zeroised_kram]

/-! A Clamp source. -/

theorem State.pendClamp_moves (i : Nat) : Moves [ICU_PORT.WAKE] [.cl, .ic, .out] s (s.pendClamp i) :=
  .ite (Moves.refl.also (s.pend_moves i) rfl rfl) (Moves.refl.also (s.cl_moves _) rfl rfl)

/-- A Clamp source changes at most which sources are held. -/
theorem State.pendClamp_cl {β : Type} (φ : ClmS → β) (h : ∀ (x : ClmS) l, φ { x with heldSrcs := l } = φ x) (i : Nat) :
    φ (s.pendClamp i).cl = φ s.cl := by
  rw [State.pendClamp]
  split
  · rw [(s.pend_moves i).parts .cl rfl]
  · exact h _ _

/-! A threshold is crossed (R375). -/

theorem bit_two_pow (c : Nat) : bit (2 ^ c) c = true := by
  have h : 2 ^ c / 2 ^ c = 1 := Nat.div_self (Nat.two_pow_pos c)
  simp [bit, h]

/-- The coalescing window after class c has crossed. -/
def State.crossed (s : State) (c feeds : Nat) (erase : Bool) : Coalesce :=
  match s.cl.coalesce with
  | some w => { w with classes := setBit w.classes c, erase := w.erase || erase, feeds := w.feeds ||| feeds }
  | none => ⟨s.cl.logSeq + 1, s.logTime, s.logFlags false, 2 ^ c, erase, feeds, s.mono + s.agreeSpan⟩

theorem State.crossed_bit (c feeds : Nat) (erase : Bool) : bit (s.crossed c feeds erase).classes c = true := by
  unfold State.crossed
  split
  · exact bit_setBit_self _ _
  · exact bit_two_pow c

/-- The state in which a crossing decides whether to erase. -/
def State.crossNoted (s : State) (c feeds : Nat) (erase : Bool) : State :=
  { (if s.cl.coalesce.isNone ∧ s.cl.logOff = false then { s with cl.logSeq := s.cl.logSeq + 1 } else s) with
    cl.coalesce := some (s.crossed c feeds erase) }

theorem State.clmCross_eq (c feeds : Nat) (erase : Bool) :
    s.clmCross c feeds erase = if erase then (s.crossNoted c feeds erase).clampErase else s.crossNoted c feeds erase := rfl

theorem State.crossNoted_moves (c feeds : Nat) (erase : Bool) : Moves [] [.cl] s (s.crossNoted c feeds erase) :=
  (Moves.ite (s.cl_moves _) .refl).also (State.cl_moves _ _) rfl rfl

theorem State.clmCross_moves (c feeds : Nat) (erase : Bool) : Moves eraseMoves eraseParts s (s.clmCross c feeds erase) :=
  .ite ((Moves.refl.also (s.crossNoted_moves c feeds erase) rfl rfl).trans (State.clampErase_moves _))
    (Moves.refl.also (s.crossNoted_moves c feeds erase) rfl rfl)

/-- A crossing leaves whatever does not rest on the coalescing window, the log's end and the erase. -/
theorem State.clmCross_cl {β : Type} (φ : ClmS → β)
    (h : ∀ (x : ClmS) n c e d, φ { x with logSeq := n, coalesce := c, eraseDue := e, dormAlarm := d } = φ x)
    (c feeds : Nat) (erase : Bool) : φ (s.clmCross c feeds erase).cl = φ s.cl := by
  have hn : φ (s.crossNoted c feeds erase).cl = φ s.cl := by
    unfold State.crossNoted
    split <;> exact h s.cl _ _ s.cl.eraseDue s.cl.dormAlarm
  rw [State.clmCross_eq]
  split
  · rw [State.clampErase_cl]
    exact (h (s.crossNoted c feeds erase).cl _ _ _ _).trans hn
  · exact hn

theorem State.clmCross_coalesce (c feeds : Nat) (erase : Bool) :
    (s.clmCross c feeds erase).cl.coalesce = some (s.crossed c feeds erase) := by
  rw [State.clmCross_eq]
  split
  · rw [State.clampErase_cl]
    rfl
  · rfl

/-- A crossing that erases leaves the erase due and the key RAM empty. -/
theorem State.clmCross_erases (c feeds : Nat) :
    (s.clmCross c feeds true).cl.eraseDue = true ∧ (s.clmCross c feeds true).ke.kram = [] := by
  rw [State.clmCross_eq, if_pos rfl]
  exact ⟨by rw [State.clampErase_cl], State.clampErase_kram _⟩

end

/-! An event is counted (R364, R368, R372). -/

/-- Fields and parts that an event of Clamp moves. -/
abbrev clmMoves : List Fld := CLM_CLASS_CNT.V :: logMoves ++ eraseMoves

section
variable (s : State)

/-- The window of a class after an event. -/
def State.clmNext (s : State) (c : Nat) : ClmWin :=
  match s.clmOpenWin c with
  | some w => ⟨min (w.count + 1) 255, w.ends⟩
  | none => ⟨1, s.mono + s.get OFC_CLM_CLASS.T_US c * us⟩

/-- An event counts one more in its window (R368, R384). -/
theorem State.clmNext_count (c : Nat) : (s.clmNext c).count = min (s.clmCount c + 1) 255 := by
  unfold State.clmNext State.clmCount
  cases s.clmOpenWin c <;> rfl

/-- Whether n events in a window of class c erase (R372, R373). -/
def State.clmErases (s : State) (c n : Nat) : Bool :=
  s.get OFC_CLM_CLASS.MODE c = 1 || (s.get OFC_CLM_CLASS.MODE c = 2 && s.get OFC_CLM_CLASS.K2 c ≤ n)

/-- An event of class c noted with its window: below the threshold that is all, from it on the class crosses. -/
def State.clmMet (s : State) (c feeds : Nat) (w : ClmWin) : State :=
  let s := { s with cl.clmWin := s.cl.clmWin.set none c (some w) }
  if w.count < s.get OFC_CLM_CLASS.K1 c then s else s.clmCross c feeds (s.clmErases c w.count)

/-- The counter and the source of an event (R364, R385). -/
def State.clmPend (s : State) (c : Nat) : State := (s.count CLM_CLASS_CNT.V c 1).pendClamp (0x420 + c)

theorem State.clmPend_moves (c : Nat) : Moves [CLM_CLASS_CNT.V, ICU_PORT.WAKE] [.cl, .ic, .out, .wraps] s
    (s.clmPend c) :=
  (Moves.refl.also (s.count_moves CLM_CLASS_CNT.V c 1) rfl rfl).also (State.pendClamp_moves _ _) rfl rfl

/-- What a Clamp source and a counter leave of Clamp's state. -/
theorem State.clmPend_cl {β : Type} (φ : ClmS → β) (h : ∀ (x : ClmS) l, φ { x with heldSrcs := l } = φ x) (c : Nat) :
    φ (s.clmPend c).cl = φ s.cl := by
  rw [State.clmPend, State.pendClamp_cl _ φ h, (s.count_moves CLM_CLASS_CNT.V c 1).parts .cl rfl]

theorem State.clmCounted_of_pend (c feeds : Nat) :
    s.clmCounted c feeds = (s.clmPend c).clmMet c feeds ((s.clmPend c).clmNext c) := by
  unfold State.clmCounted
  refine congrArg ((s.clmPend c).clmMet c feeds) ?_
  rw [State.clmNext, State.clmOpenWin, ← State.clmPend]
  cases Tab.get none (s.clmPend c).cl.clmWin c with
  | none => rfl
  | some w =>
    by_cases h : w.ends ≤ (s.clmPend c).mono
    · simp only [if_pos h, Option.filter, Nat.not_lt.mpr h, decide_false, Bool.false_eq_true, if_false]
    · simp only [if_neg h, Option.filter, Nat.lt_of_not_le h, decide_true, if_true]

/-- The counter and the source leave the window that the event joins. -/
theorem State.clmNext_pend (c : Nat) : (s.clmPend c).clmNext c = s.clmNext c := by
  rw [State.clmNext, State.clmNext, State.clmOpenWin, State.clmOpenWin, s.clmPend_cl (·.clmWin) (fun _ _ => rfl),
    (s.clmPend_moves c).parts .mono rfl, (s.clmPend_moves c).get rfl]

theorem State.count_get_index {f : Fld} (hp : listed [ICU_PORT.WAKE] f.id = false) {i j : Nat} (h : j ≠ i) (n : Nat) :
    (s.count f i n).get f j = s.get f j := by
  unfold State.count
  simp only
  split
  · rw [(State.wrapBit_moves _ f i).get hp, State.get_set_index _ _ h]
  · exact State.get_set_index _ _ h _

theorem State.clmMet_moves (c feeds : Nat) (w : ClmWin) : Moves eraseMoves eraseParts s (s.clmMet c feeds w) := by
  have h : Moves eraseMoves eraseParts s { s with cl.clmWin := s.cl.clmWin.set none c (some w) } :=
    Moves.refl.also (s.cl_moves _) rfl rfl
  exact .ite h (h.trans (State.clmCross_moves _ _ _ _))

theorem State.clmCounted_moves (c feeds : Nat) : Moves clmMoves eraseParts s (s.clmCounted c feeds) := by
  rw [State.clmCounted_of_pend]
  exact (Moves.refl.also (s.clmPend_moves c) rfl rfl).also (State.clmMet_moves _ _ _ _) rfl rfl

/-- An event counts one in its class, and none in another. -/
theorem State.clmCounted_count (c feeds : Nat) :
    (s.clmCounted c feeds).get CLM_CLASS_CNT.V c = (s.get CLM_CLASS_CNT.V c + 1) % 2 ^ 64 := by
  rw [State.clmCounted_of_pend, (State.clmMet_moves _ _ _ _).get rfl, State.clmPend, (State.pendClamp_moves _ _).get rfl]
  exact State.count_get_self s rfl c 1

theorem State.clmCounted_count_other {c d : Nat} (feeds : Nat) (h : d ≠ c) :
    (s.clmCounted c feeds).get CLM_CLASS_CNT.V d = s.get CLM_CLASS_CNT.V d := by
  rw [State.clmCounted_of_pend, (State.clmMet_moves _ _ _ _).get rfl, State.clmPend, (State.pendClamp_moves _ _).get rfl]
  exact State.count_get_index s rfl h 1

theorem State.clmMet_win (c feeds : Nat) (w : ClmWin) :
    (s.clmMet c feeds w).cl.clmWin = s.cl.clmWin.set none c (some w) := by
  unfold State.clmMet
  simp only
  split
  · rfl
  · rw [State.clmCross_cl _ (·.clmWin) (fun _ _ _ _ _ => rfl)]

theorem State.clmCounted_win (c feeds d : Nat) : Tab.get none (s.clmCounted c feeds).cl.clmWin d =
    if d = c then some (s.clmNext c) else Tab.get none s.cl.clmWin d := by
  rw [State.clmCounted_of_pend, State.clmMet_win, Tab.get_set, State.clmNext_pend, s.clmPend_cl (·.clmWin) (fun _ _ => rfl)]

/-- An event leaves the trips, the Brace reports, what is armed and whether the log is off. -/
theorem State.clmCounted_cl {β : Type} (φ : ClmS → β)
    (h : ∀ (x : ClmS) n c e d w l, φ { x with
      logSeq := n, coalesce := c, eraseDue := e, dormAlarm := d, clmWin := w, heldSrcs := l } = φ x)
    (c feeds : Nat) : φ (s.clmCounted c feeds).cl = φ s.cl := by
  have hp : φ (s.clmPend c).cl = φ s.cl :=
    s.clmPend_cl φ (fun x l => h x x.logSeq x.coalesce x.eraseDue x.dormAlarm x.clmWin l) c
  have hw (w : Tab (Option ClmWin)) : φ { (s.clmPend c).cl with clmWin := w } = φ s.cl :=
    (h (s.clmPend c).cl (s.clmPend c).cl.logSeq _ _ _ w (s.clmPend c).cl.heldSrcs).trans hp
  rw [State.clmCounted_of_pend]
  unfold State.clmMet
  simp only
  split
  · exact hw _
  · rw [State.clmCross_cl _ φ (fun x n c e d => h x n c e d x.clmWin x.heldSrcs)]
    exact hw _

/-- From K1 events in its window on a class is in the coalescing window (R368, R375). -/
theorem State.clmCounted_crosses {c : Nat} (feeds : Nat) (h : s.get OFC_CLM_CLASS.K1 c ≤ (s.clmNext c).count) :
    (s.clmCounted c feeds).cl.coalesce.any (fun x => bit x.classes c) = true := by
  rw [State.clmCounted_of_pend, State.clmMet, State.clmNext_pend, if_neg, State.clmCross_coalesce]
  · exact State.crossed_bit _ _ _ _
  · exact (Nat.not_lt.mpr (le_of_eq_of_le ((s.clmPend_moves c).get rfl c) h))

/-- A class that crosses erases where its MODE says so (R372, R373). -/
theorem State.clmCounted_erases {c : Nat} (feeds : Nat) (h : s.get OFC_CLM_CLASS.K1 c ≤ (s.clmNext c).count)
    (he : s.clmErases c (s.clmNext c).count = true) :
    (s.clmCounted c feeds).cl.eraseDue = true ∧ (s.clmCounted c feeds).ke.kram = [] := by
  have he' : ({ s.clmPend c with cl.clmWin := (s.clmPend c).cl.clmWin.set none c (some (s.clmNext c)) } : State).clmErases c
      (s.clmNext c).count = true := by
    refine Eq.trans ?_ he
    have m := s.clmPend_moves c
    rw [State.clmErases, State.clmErases, ← m.get (f := OFC_CLM_CLASS.MODE) rfl, ← m.get (f := OFC_CLM_CLASS.K2) rfl]
    rfl
  rw [State.clmCounted_of_pend, State.clmMet, State.clmNext_pend, if_neg, he']
  · exact State.clmCross_erases _ _ _
  · exact (Nat.not_lt.mpr (le_of_eq_of_le ((s.clmPend_moves c).get rfl c) h))

end
end Sys2Proof.Machine
end

/-! Clamp's windows, detectors and configuration (R364 to R382, R415). -/
section
namespace Sys2Proof.Machine

/-! The coalescing window's entry (R375). -/

section
variable (s : State)

/-- An entry of the log leaves what does not rest on the log. -/
theorem State.logStore_cl {β : Type} (φ : ClmS → β) (h : ∀ (x : ClmS) l e, φ { x with logHeld := l, log := e } = φ x) (n : Nat)
    (e : LogEntry) : φ (s.logStore n e).cl = φ s.cl := by
  have hn : φ { s.cl with log := s.cl.log.set [] ((n - 1) % 256) e } = φ s.cl := h s.cl s.cl.logHeld _
  rw [State.logStore]
  split
  · exact h s.cl _ s.cl.log
  · simp only
    split
    · rw [(State.pend_moves _ 0x42D).parts .cl rfl]
      exact hn
    · exact hn

theorem State.coalesceWrite_moves (x : Coalesce) : Moves logMoves [.cl, .ic, .out] s (s.coalesceWrite x) := by
  have h0 : Moves logMoves [.cl, .ic, .out] s { s with cl.coalesce := none, cl.logHeld := [] } :=
    Moves.refl.also (s.cl_moves { s.cl with coalesce := none, logHeld := [] }) rfl rfl
  have h1 (n : Nat) (e : LogEntry) := h0.trans (State.logStore_moves _ n e)
  have h2 (n : Nat) (e : LogEntry) := Moves.each (l := s.cl.logHeld) (h1 n e) (fun x u => u.logStore_moves x.1 x.2)
  exact .ite h0 (.ite (h2 _ _) ((h2 _ _).also (State.pendClamp_moves _ 0x429) rfl rfl))

/-- The entry closes the window, and changes no more than the log and the held sources. -/
theorem State.coalesceWrite_cl {β : Type} (φ : ClmS → β)
    (h : ∀ (x : ClmS) l e k, φ { x with logHeld := l, log := e, heldSrcs := k } = φ x) (x : Coalesce) :
    φ (s.coalesceWrite x).cl = φ { s.cl with coalesce := none } := by
  have hl (u : State) (n : Nat) (e : LogEntry) : φ (u.logStore n e).cl = φ u.cl :=
    u.logStore_cl φ (fun x l e => h x l e x.heldSrcs) n e
  have h0 : φ { s.cl with coalesce := none, logHeld := [] } = φ { s.cl with coalesce := none } :=
    h { s.cl with coalesce := none } [] s.cl.log s.cl.heldSrcs
  have hs (u : State) : φ (u.each s.cl.logHeld (fun (e : Nat × LogEntry) s => s.logStore e.1 e.2)).cl = φ u.cl :=
    State.each_keep (fun u => φ u.cl) _ _ (fun (e : Nat × LogEntry) u => hl u e.1 e.2) u
  unfold State.coalesceWrite
  simp only
  split
  · exact h0
  · split
    · rw [hs, hl]
      exact h0
    · rw [State.pendClamp_cl _ φ (fun x k => h x x.logHeld x.log k), hs, hl]
      exact h0

/-! What the judgement of trips and the end of a coalescing window leave. -/

end

/-- From s to t no class but 8 counts an event, and trips that are still open stay. -/
structure State.Lapses (s t : State) : Prop where
  moves : Moves clmMoves eraseParts s t
  count : ∀ c ≠ 8, t.get CLM_CLASS_CNT.V c = s.get CLM_CLASS_CNT.V c
  win : ∀ c ≠ 8, Tab.get none t.cl.clmWin c = Tab.get none s.cl.clmWin c
  gone : ∀ i, Tab.get none t.cl.trips i = none ∨ Tab.get none t.cl.trips i = Tab.get none s.cl.trips i
  fresh : ∀ i e, Tab.get none s.cl.trips i = some e → s.mono < e.at_ + s.agreeSpan → Tab.get none t.cl.trips i = some e
  rest : t.cl.braceAt = s.cl.braceAt ∧ t.cl.armedOff = s.cl.armedOff ∧ t.cl.logOff = s.cl.logOff

section
variable {s t u : State}

theorem Moves.agreeSpan {fs : List Fld} {ps : List Part} (m : Moves fs ps s t) (h : listed fs GLB_MODE.MODE.id = false) :
    t.agreeSpan = s.agreeSpan := by rw [State.agreeSpan, State.agreeSpan, m.mode h]

theorem State.Lapses.refl : s.Lapses s :=
  ⟨.refl, fun _ _ => rfl, fun _ _ => rfl, fun _ => .inr rfl, fun _ _ h _ => h, rfl, rfl, rfl⟩

theorem State.Lapses.trans (h : s.Lapses t) (k : t.Lapses u) : s.Lapses u where
  moves := h.moves.trans k.moves
  count c hc := (k.count c hc).trans (h.count c hc)
  win c hc := (k.win c hc).trans (h.win c hc)
  gone i := by
    obtain hk | hk := k.gone i
    · exact .inl hk
    · rw [hk]
      exact h.gone i
  fresh i e he hf := k.fresh i e (h.fresh i e he hf)
    (by rwa [h.moves.parts .mono rfl, h.moves.agreeSpan rfl])
  rest := by
    obtain ⟨h1, h2, h3⟩ := h.rest
    obtain ⟨k1, k2, k3⟩ := k.rest
    exact ⟨k1.trans h1, k2.trans h2, k3.trans h3⟩

theorem State.Lapses.each {α : Type} {l : List α} {g : α → State → State} (h : s.Lapses t)
    (hg : ∀ a u, s.Lapses u → u.Lapses (g a u)) : s.Lapses (t.each l g) := by
  induction l generalizing t with
  | nil => exact h
  | cons a l ih => exact ih (h.trans (hg a t h))

/-- A trip is taken away. -/
def State.tripTaken (s : State) (i : Nat) : State := { s with cl.trips := s.cl.trips.set none i none }

theorem State.tripJudge_eq (s : State) (i : Nat) (e : TripEvent) : s.tripJudge i e =
    if (e.comparator ∧ e.width = 0) ∨ (e.comparator = false ∧ 8 ≤ e.width) then (s.tripTaken i).clmCounted 8 (feedBit i)
    else s.tripTaken i := rfl

theorem State.tripTaken_lapses {i : Nat} {e : TripEvent} (he : Tab.get none s.cl.trips i = some e)
    (ho : e.at_ + s.agreeSpan ≤ s.mono) : s.Lapses (s.tripTaken i) where
  moves := Moves.refl.also (s.cl_moves _) rfl rfl
  count _ _ := rfl
  win _ _ := rfl
  gone j := by
    rw [State.tripTaken, Tab.get_set]
    split
    · exact .inl rfl
    · exact .inr rfl
  fresh j e' he' hf := by
    rw [State.tripTaken, Tab.get_set, if_neg]
    · exact he'
    · rintro rfl
      rw [he] at he'
      obtain rfl := Option.some.inj he'
      omega
  rest := ⟨rfl, rfl, rfl⟩

theorem State.clmCounted_lapses (s : State) (feeds : Nat) : s.Lapses (s.clmCounted 8 feeds) where
  moves := s.clmCounted_moves 8 feeds
  count _ hc := s.clmCounted_count_other feeds hc
  win _ hc := by rw [State.clmCounted_win, if_neg hc]
  gone _ := .inr (by rw [s.clmCounted_cl (·.trips) (fun _ _ _ _ _ _ _ => rfl)])
  fresh _ _ he _ := by rwa [s.clmCounted_cl (·.trips) (fun _ _ _ _ _ _ _ => rfl)]
  rest := ⟨s.clmCounted_cl (·.braceAt) (fun _ _ _ _ _ _ _ => rfl) _ _, s.clmCounted_cl (·.armedOff) (fun _ _ _ _ _ _ _ => rfl) _ _,
    s.clmCounted_cl (·.logOff) (fun _ _ _ _ _ _ _ => rfl) _ _⟩

theorem State.tripJudge_lapses {i : Nat} {e : TripEvent} (he : Tab.get none s.cl.trips i = some e)
    (ho : e.at_ + s.agreeSpan ≤ s.mono) : s.Lapses (s.tripJudge i e) := by
  rw [State.tripJudge_eq]
  split
  · exact (State.tripTaken_lapses he ho).trans (State.clmCounted_lapses _ _)
  · exact State.tripTaken_lapses he ho

/-- A judged trip is gone. -/
theorem State.tripJudge_trips (s : State) (i : Nat) (e : TripEvent) : Tab.get none (s.tripJudge i e).cl.trips i = none := by
  have h : Tab.get none (s.tripTaken i).cl.trips i = none := Tab.get_set_self none _ _ (none : Option TripEvent)
  rw [State.tripJudge_eq]
  split
  · rw [State.clmCounted_cl _ (·.trips) (fun _ _ _ _ _ _ _ => rfl), h]
  · exact h

theorem State.coalesceWrite_lapses (s : State) (x : Coalesce) : s.Lapses (s.coalesceWrite x) where
  moves := Moves.refl.also (s.coalesceWrite_moves x) rfl rfl
  count _ _ := (s.coalesceWrite_moves x).get rfl _
  win _ _ := by rw [s.coalesceWrite_cl (·.clmWin) (fun _ _ _ _ => rfl)]
  gone _ := .inr (by rw [s.coalesceWrite_cl (·.trips) (fun _ _ _ _ => rfl)])
  fresh _ _ he _ := by rwa [s.coalesceWrite_cl (·.trips) (fun _ _ _ _ => rfl)]
  rest := ⟨s.coalesceWrite_cl (·.braceAt) (fun _ _ _ _ => rfl) x, s.coalesceWrite_cl (·.armedOff) (fun _ _ _ _ => rfl) x,
    s.coalesceWrite_cl (·.logOff) (fun _ _ _ _ => rfl) x⟩

/-- A trip that a coalescing window's close judges (R375). -/
def State.judgeIn (s : State) (w : Coalesce) (i : Nat) : State :=
  match Tab.get none s.cl.trips i with
  | some t => if t.at_ + s.agreeSpan ≤ w.ends then s.tripJudge i t else s
  | none => s

def State.judged (s : State) (w : Coalesce) : State := s.each (upto 15) (fun i s => s.judgeIn w i)

/-- The shared entry is written where a window is open. -/
def State.entryWritten (s : State) : State :=
  match s.cl.coalesce with
  | some x => s.coalesceWrite x
  | none => s

theorem State.coalesceLapse_of_open {w : Coalesce} (h : s.cl.coalesce = some w) (n : Nat) :
    s.coalesceLapse n = if n < w.ends then s else (s.judged w).entryWritten := by
  rw [State.coalesceLapse, h]
  refine if_congr Iff.rfl rfl ?_
  unfold State.judged State.judgeIn State.entryWritten
  generalize upto 15 = l
  rfl

theorem State.coalesceLapse_of_none (h : s.cl.coalesce = none) (n : Nat) : s.coalesceLapse n = s := by
  rw [State.coalesceLapse, h]

theorem State.judged_lapses {w : Coalesce} (h : w.ends ≤ s.mono) : s.Lapses (s.judged w) := by
  refine State.Lapses.each .refl (fun i u hu => ?_)
  unfold State.judgeIn
  split
  · rename_i e he
    split
    · rename_i ho
      exact State.tripJudge_lapses he (ho.trans (hu.moves.parts .mono rfl ▸ h))
    · exact .refl
  · exact .refl

theorem State.entryWritten_lapses (s : State) : s.Lapses s.entryWritten := by
  unfold State.entryWritten
  split
  · exact State.coalesceWrite_lapses _ _
  · exact .refl

theorem State.entryWritten_closed (s : State) : s.entryWritten.cl.coalesce = none := by
  unfold State.entryWritten
  split
  · rw [State.coalesceWrite_cl _ (·.coalesce) (fun _ _ _ _ => rfl)]
  · assumption

/-- A window's close leaves other classes and the trips that are open (R375). -/
theorem State.coalesceLapse_lapses (s : State) {n : Nat} (h : n ≤ s.mono) : s.Lapses (s.coalesceLapse n) := by
  cases hc : s.cl.coalesce with
  | none =>
    rw [State.coalesceLapse_of_none hc]
    exact .refl
  | some w =>
    rw [State.coalesceLapse_of_open hc]
    split
    · exact .refl
    · exact (State.judged_lapses (by omega)).trans (State.entryWritten_lapses _)

/-! A trip is decided when its window closes (R366). -/

theorem State.tripDecide_of_none {i : Nat} (h : Tab.get none s.cl.trips i = none) : s.tripDecide i = s := by
  rw [State.tripDecide, h]

theorem State.tripDecide_of_open {i : Nat} {e : TripEvent} (h : Tab.get none s.cl.trips i = some e)
    (ho : s.mono < e.at_ + s.agreeSpan) : s.tripDecide i = s := by
  rw [State.tripDecide, h]
  exact if_pos ho

/-- The trip of a supply is judged, where one is left. -/
def State.tripLast (s : State) (i : Nat) : State :=
  match Tab.get none s.cl.trips i with
  | some t => s.tripJudge i t
  | none => s

theorem State.tripDecide_of_over {i : Nat} {e : TripEvent} (h : Tab.get none s.cl.trips i = some e)
    (ho : e.at_ + s.agreeSpan ≤ s.mono) : s.tripDecide i = (s.coalesceLapse (e.at_ + s.agreeSpan - 1)).tripLast i := by
  rw [State.tripDecide, h]
  exact if_neg (Nat.not_lt.mpr ho)

theorem State.tripLast_trips (s : State) (i : Nat) : Tab.get none (s.tripLast i).cl.trips i = none := by
  unfold State.tripLast
  split
  · exact State.tripJudge_trips _ _ _
  · assumption

/-- A supply whose trip is over has none after it is decided, and other classes count nothing. -/
theorem State.tripDecide_lapses {i : Nat} {e : TripEvent} (h : Tab.get none s.cl.trips i = some e)
    (ho : e.at_ + s.agreeSpan ≤ s.mono) :
    s.Lapses (s.tripDecide i) ∧ Tab.get none (s.tripDecide i).cl.trips i = none := by
  have hl := s.coalesceLapse_lapses (n := e.at_ + s.agreeSpan - 1) (by omega)
  rw [State.tripDecide_of_over h ho]
  refine ⟨hl.trans ?_, State.tripLast_trips _ _⟩
  unfold State.tripLast
  split
  · rename_i e' he'
    obtain hg | hg := hl.gone i
    · rw [hg] at he'
      cases he'
    · rw [hg, h] at he'
      obtain rfl := Option.some.inj he'
      exact State.tripJudge_lapses (hg.trans h) (by rwa [hl.moves.agreeSpan rfl, hl.moves.parts .mono rfl])
  · exact .refl

end
end Sys2Proof.Machine
end

/-! The commands of Clamp (R364 to R382, R415, R416). -/
section
namespace Sys2Proof.Machine

/-! A detector trips (R365 to R367). -/

/-- A supply's event is noted. -/
def State.tripPut (s : State) (i : Nat) (e : TripEvent) : State := { s with cl.trips := s.cl.trips.set none i (some e) }

/-- A trip put aside moves no register and no key. -/
theorem State.keepsBut_tripPut (s : State) (i : Nat) (e : TripEvent) : s.keepsBut (s.tripPut i e) [] :=
  ⟨fun _ _ _ _ _ => rfl, rfl, rfl, rfl, rfl, rfl, rfl, rfl⟩

theorem State.tripPut_trips (s : State) (i : Nat) (e : TripEvent) : Tab.get none (s.tripPut i e).cl.trips i = some e :=
  Tab.get_set_self none _ _ (some e)

theorem State.agreeSpan_pos (s : State) : 0 < s.agreeSpan := by
  unfold State.agreeSpan
  split <;> decide

/-- What the detector of a trip says: whether it is the comparator, and the width it measured. -/
def tripSays (d : Detector) (comp : Bool) (wd : Nat) : Prop :=
  (d = .comparator ∧ comp = true ∧ wd = 0) ∨ (d = .delayLine wd ∧ comp = false)

/-- An armed detector that measures something is heard. -/
theorem State.trip_heard {s : State} {x : Supply} {comp : Bool} {wd : Nat} (ha : s.tripArmed x = true)
    (hs : comp = true ∨ wd ≠ 0) : ¬(s.tripArmed x = false ∨ (comp = false ∧ wd = 0)) := by
  rw [ha]
  rintro (h | ⟨h1, h2⟩)
  · cases h
  · exact hs.elim (fun k => by rw [h1] at k; cases k) (fun k => k h2)

section
variable {s : State} {x : Supply} {d : Detector} {comp : Bool} {wd : Nat} (hd : tripSays d comp wd)
include hd

theorem State.supplyTrip_ignored (h : s.tripArmed x = false ∨ (comp = false ∧ wd = 0)) : s.supplyTrip x d = s := by
  obtain ⟨rfl, rfl, rfl⟩ | ⟨rfl, rfl⟩ := hd <;> exact if_pos h

variable (ha : s.tripArmed x = true) (hs : comp = true ∨ wd ≠ 0)
include ha hs

/-- A trip in the window of an earlier event of its supply joins it. -/
theorem State.supplyTrip_joins {e : TripEvent} (he : Tab.get none (s.tripDecide (supplyIdx x)).cl.trips (supplyIdx x) = some e)
    (ho : (s.tripDecide (supplyIdx x)).mono < e.at_ + (s.tripDecide (supplyIdx x)).agreeSpan) :
    s.supplyTrip x d =
      (s.tripDecide (supplyIdx x)).tripPut (supplyIdx x) ⟨e.at_, e.comparator || comp, max e.width wd⟩ := by
  obtain ⟨rfl, rfl, rfl⟩ | ⟨rfl, rfl⟩ := hd <;>
    · refine (if_neg (State.trip_heard ha hs)).trans ?_
      simp only [he, if_pos ho]
      rfl

/-- Another trip is a new event, counted unless a Brace report lies less than 100 ns before (R367). -/
theorem State.supplyTrip_new (he : Tab.get none (s.tripDecide (supplyIdx x)).cl.trips (supplyIdx x) = none) :
    s.supplyTrip x d =
      (let u := s.tripDecide (supplyIdx x)
      let t := u.tripPut (supplyIdx x) ⟨u.mono, comp, wd⟩
      if Tab.get 0 u.cl.braceAt (supplyIdx x) ≠ 0 ∧ u.mono < Tab.get 0 u.cl.braceAt (supplyIdx x) + 100 * ns then t
      else t.clmEvent (supplyClass x) (feedBit (supplyIdx x))) := by
  obtain ⟨rfl, rfl, rfl⟩ | ⟨rfl, rfl⟩ := hd <;>
    · refine (if_neg (State.trip_heard ha hs)).trans ?_
      simp only [he]
      rfl

end

theorem supplyClass_ne (x : Supply) : supplyClass x ≠ 8 := by
  obtain ⟨g, ⟨⟩⟩ | _ := x <;> simp [supplyClass]

/-- A new event keeps its trip, and counts one in its supply's class. -/
theorem State.clmEvent_tripPut (u : State) (x : Supply) (comp : Bool) (wd : Nat) :
    Tab.get none ((u.tripPut (supplyIdx x) ⟨u.mono, comp, wd⟩).clmEvent (supplyClass x) (feedBit (supplyIdx x))).cl.trips
        (supplyIdx x) = some ⟨u.mono, comp, wd⟩ ∧
      ((u.tripPut (supplyIdx x) ⟨u.mono, comp, wd⟩).clmEvent (supplyClass x) (feedBit (supplyIdx x))).get CLM_CLASS_CNT.V
        (supplyClass x) = (u.get CLM_CLASS_CNT.V (supplyClass x) + 1) % 2 ^ 64 := by
  have hl := (u.tripPut (supplyIdx x) ⟨u.mono, comp, wd⟩).coalesceLapse_lapses (n := u.mono) (Nat.le_refl _)
  constructor
  · rw [State.clmEvent, State.clmCounted_cl _ (·.trips) (fun _ _ _ _ _ _ _ => rfl)]
    exact hl.fresh _ _ (State.tripPut_trips _ _ _) (Nat.lt_add_of_pos_right (State.agreeSpan_pos _))
  · rw [State.clmEvent, State.clmCounted_count, State.coalesceClose]
    exact congrArg (fun n => (n + 1) % 2 ^ 64) (hl.count _ (supplyClass_ne x))

section
variable {s : State} {x : Supply} {d : Detector} {comp : Bool} {wd : Nat} (hd : tripSays d comp wd)
include hd

theorem clampSupplyTrip_ignored (h : s.tripArmed x = false ∨ (comp = false ∧ wd = 0)) :
    ∃ t, exec (.clampSupplyTrip x d) s = .next t ∧ s.keepsBut t [] ∧ t.cl.trips = s.cl.trips := by
  refine ⟨(s.supplyTrip x d).closed, rfl, ?_⟩
  rw [State.supplyTrip_ignored hd h]
  exact ⟨(State.keepsBut_rfl s []).closed, State.closed_cl_trips s⟩

variable (ha : s.tripArmed x = true) (hs : comp = true ∨ wd ≠ 0)
include ha hs

theorem clampSupplyTrip_joins {e : TripEvent} (he : Tab.get none s.cl.trips (supplyIdx x) = some e)
    (ho : s.mono < e.at_ + s.agreeSpan) :
    ∃ t, exec (.clampSupplyTrip x d) s = .next t ∧ s.keepsBut t [] ∧
      Tab.get none t.cl.trips (supplyIdx x) = some ⟨e.at_, e.comparator || comp, max e.width wd⟩ := by
  have ht := State.tripDecide_of_open he ho
  have h := State.supplyTrip_joins hd ha hs (e := e) (by rwa [ht]) (by rwa [ht])
  rw [ht] at h
  refine ⟨(s.supplyTrip x d).closed, rfl, ?_⟩
  rw [h, State.closed_cl_trips]
  exact ⟨(State.keepsBut_tripPut s _ _).closed, State.tripPut_trips _ _ _⟩

theorem clampSupplyTrip_counts
    (hn : (Tab.get none s.cl.trips (supplyIdx x)).all (fun e => decide (e.at_ + s.agreeSpan ≤ s.mono)) = true)
    (hb : Tab.get 0 s.cl.braceAt (supplyIdx x) = 0 ∨ Tab.get 0 s.cl.braceAt (supplyIdx x) + 100 * ns ≤ s.mono) :
    ∃ t, exec (.clampSupplyTrip x d) s = .next t ∧ Tab.get none t.cl.trips (supplyIdx x) = some ⟨s.mono, comp, wd⟩ ∧
      t.get CLM_CLASS_CNT.V (supplyClass x) = (s.get CLM_CLASS_CNT.V (supplyClass x) + 1) % 2 ^ 64 := by
  have hu : s.Lapses (s.tripDecide (supplyIdx x)) ∧ Tab.get none (s.tripDecide (supplyIdx x)).cl.trips (supplyIdx x) = none := by
    cases he : Tab.get none s.cl.trips (supplyIdx x) with
    | none => rw [State.tripDecide_of_none he]; exact ⟨.refl, he⟩
    | some e => exact State.tripDecide_lapses he (by simpa [he] using hn)
  obtain ⟨hl, hgone⟩ := hu
  have hmono : (s.tripDecide (supplyIdx x)).mono = s.mono := hl.moves.parts .mono rfl
  have e := State.supplyTrip_new hd ha hs hgone
  simp only [hl.rest.1, hmono] at e
  rw [if_neg (by omega)] at e
  have hc := (s.tripDecide (supplyIdx x)).clmEvent_tripPut x comp wd
  rw [hmono, hl.count _ (supplyClass_ne x)] at hc
  refine ⟨(s.supplyTrip x d).closed, rfl, ?_⟩
  rw [e, State.closed_cl_trips, State.closed_get _ rfl]
  exact hc

theorem clampSupplyTrip_reported (he : Tab.get none s.cl.trips (supplyIdx x) = none)
    (hb : Tab.get 0 s.cl.braceAt (supplyIdx x) ≠ 0) (hn : s.mono < Tab.get 0 s.cl.braceAt (supplyIdx x) + 100 * ns) :
    ∃ t, exec (.clampSupplyTrip x d) s = .next t ∧ s.keepsBut t [] ∧
      Tab.get none t.cl.trips (supplyIdx x) = some ⟨s.mono, comp, wd⟩ := by
  have h := State.supplyTrip_new hd ha hs (by rwa [State.tripDecide_of_none he])
  simp only [State.tripDecide_of_none he] at h
  rw [if_pos ⟨hb, hn⟩] at h
  refine ⟨(s.supplyTrip x d).closed, rfl, ?_⟩
  rw [h, State.closed_cl_trips]
  exact ⟨(State.keepsBut_tripPut s _ _).closed, State.tripPut_trips _ _ _⟩

end

/-! A disagreement is decided (R366). -/

section
variable {s : State} {x : Supply} {e : TripEvent} (he : Tab.get none s.cl.trips (supplyIdx x) = some e)
include he

theorem disagreeWindowClose_early (ho : s.mono < e.at_ + s.agreeSpan) :
    ∃ t, exec (.disagreeWindowClose x) s = .next t ∧ s.keepsBut t [] ∧ t.cl.trips = s.cl.trips := by
  refine ⟨(s.tripDecide (supplyIdx x)).closed, rfl, ?_⟩
  rw [State.tripDecide_of_open he ho]
  exact ⟨(State.keepsBut_rfl s []).closed, State.closed_cl_trips s⟩

variable (ho : e.at_ + s.agreeSpan ≤ s.mono)
include ho

theorem disagreeWindowClose_over :
    ∃ t, exec (.disagreeWindowClose x) s = .next t ∧ Tab.get none t.cl.trips (supplyIdx x) = none := by
  refine ⟨(s.tripDecide (supplyIdx x)).closed, rfl, ?_⟩
  rw [State.closed_cl_trips]
  exact (State.tripDecide_lapses he ho).2

/-- With no coalescing window that ends before it, the supply's trip is judged at once. -/
theorem State.tripDecide_judges (hw : s.cl.coalesce.all (fun w => decide (e.at_ + s.agreeSpan ≤ w.ends)) = true) :
    s.tripDecide (supplyIdx x) = s.tripJudge (supplyIdx x) e := by
  have hp := s.agreeSpan_pos
  have hc : s.coalesceLapse (e.at_ + s.agreeSpan - 1) = s := by
    cases hc : s.cl.coalesce with
    | none => exact State.coalesceLapse_of_none hc _
    | some w =>
      have hle : e.at_ + s.agreeSpan ≤ w.ends := by simpa [hc] using hw
      rw [State.coalesceLapse_of_open hc, if_pos (by omega)]
  rw [State.tripDecide_of_over he ho, hc, State.tripLast, he]

theorem disagreeWindowClose_judges {bad : Bool}
    (hbad : bad = ((e.comparator && e.width == 0) || (!e.comparator && decide (8 ≤ e.width))))
    (hw : s.cl.coalesce.all (fun w => decide (e.at_ + s.agreeSpan ≤ w.ends)) = true) :
    ∃ t, exec (.disagreeWindowClose x) s = .next t ∧ Tab.get none t.cl.trips (supplyIdx x) = none ∧
      t.get CLM_CLASS_CNT.V 8 = (s.get CLM_CLASS_CNT.V 8 + b2n bad) % 2 ^ 64 := by
  refine ⟨(s.tripDecide (supplyIdx x)).closed, rfl, ?_, ?_⟩
  · rw [State.closed_cl_trips]
    exact (State.tripDecide_lapses he ho).2
  · have hiff : bad = true ↔ ((e.comparator = true ∧ e.width = 0) ∨ (e.comparator = false ∧ 8 ≤ e.width)) := by simp [hbad]
    rw [State.closed_get _ rfl, State.tripDecide_judges he ho hw, State.tripJudge_eq]
    cases bad with
    | true =>
      rw [if_pos (hiff.mp rfl), State.clmCounted_count]
      rfl
    | false =>
      rw [if_neg (fun h => Bool.false_ne_true (hiff.mpr h))]
      exact (Nat.mod_eq_of_lt (Nat.mod_lt _ (Nat.two_pow_pos 64))).symm

end
/-! Clocks, temperature and EVIN15 (R364, R370, R415). -/

/-- An event of a class other than 8 is counted after the coalescing window that is over. -/
theorem State.clmEvent_counts {s u : State} (m : Moves [CLM_STATUS.REFOSC] [.cl] s u) (hw : u.cl.clmWin = s.cl.clmWin)
    {c n : Nat} (hc : c ≠ 8) (hn : n = min (s.clmCount c + 1) 255) :
    let t := (u.clmEvent c 0).closed
    t.get CLM_CLASS_CNT.V c = (s.get CLM_CLASS_CNT.V c + 1) % 2 ^ 64 ∧
    (Tab.get none t.cl.clmWin c).map (·.count) = some n ∧
    (s.get OFC_CLM_CLASS.K1 c ≤ n → t.cl.coalesce.any (fun x => bit x.classes c) = true) ∧
    (s.get OFC_CLM_CLASS.K1 c ≤ n → (s.get OFC_CLM_CLASS.MODE c = 1 ∨
      (s.get OFC_CLM_CLASS.MODE c = 2 ∧ s.get OFC_CLM_CLASS.K2 c ≤ n)) → t.cl.eraseDue = true ∧ t.ke.kram = []) ∧
    t.get CLM_STATUS.REFOSC 0 = u.get CLM_STATUS.REFOSC 0 ∧ t.cl.armedOff = u.cl.armedOff := by
  have hl := u.coalesceLapse_lapses (n := u.mono) (Nat.le_refl _)
  have hnext : (u.coalesceClose.clmNext c).count = n := by
    have hcount : u.coalesceClose.clmCount c = s.clmCount c := by
      rw [State.clmCount, State.clmCount, State.clmOpenWin, State.clmOpenWin, State.coalesceClose, hl.win c hc, hw,
        hl.moves.parts .mono rfl, m.parts .mono rfl]
    rw [State.clmNext_count, hcount, hn]
  have hf {f : Fld} (h1 : listed clmMoves f.id = false) (h2 : listed [CLM_STATUS.REFOSC] f.id = false) :
      u.coalesceClose.get f c = s.get f c := (hl.moves.get h1 c).trans (m.get h2 c)
  simp only
  refine ⟨?_, ?_, fun hk => ?_, fun hk he => ?_, ?_, ?_⟩
  · rw [State.closed_get _ rfl, State.clmEvent, State.clmCounted_count, State.coalesceClose, hl.count c hc, m.get rfl]
  · rw [State.closed_cl_clmWin, State.clmEvent, State.clmCounted_win, if_pos rfl, ← hnext]
    rfl
  · rw [State.closed_cl_coalesce, State.clmEvent]
    exact State.clmCounted_crosses _ 0 (by rwa [hf rfl rfl, hnext])
  · rw [State.closed_cl_eraseDue, State.closed_ke, State.clmEvent]
    refine State.clmCounted_erases _ 0 (by rwa [hf rfl rfl, hnext]) ?_
    rw [State.clmErases, hf rfl rfl, hf rfl rfl, hnext]
    simpa using he
  · rw [State.closed_get _ rfl, State.clmEvent, (State.clmCounted_moves _ _ _).get rfl, State.coalesceClose, hl.moves.get rfl]
  · rw [State.closed_cl_armedOff, State.clmEvent, State.clmCounted_cl _ (·.armedOff) (fun _ _ _ _ _ _ _ => rfl)]
    exact hl.rest.2.1

/-- An event waits for its recovery from then on. -/
def State.armOff (s : State) (c : Nat) : State := { s with cl.armedOff := s.cl.armedOff.set false c true }

theorem State.armedEvent_eq (s : State) (c : Nat) :
    s.armedEvent c = if Tab.get false s.cl.armedOff c then s else (s.armOff c).clmEvent c 0 := rfl

/-- KCLK or the temperature as Clamp sees it, with what it notes first. -/
def clampNotes (s : State) : Nat → State
  | 3 => s.set CLM_STATUS.REFOSC 0 1
  | _ => s

theorem clampNotes_moves (s : State) (c : Nat) : Moves [CLM_STATUS.REFOSC] [] s (clampNotes s c) := by
  unfold clampNotes
  split
  · exact s.set_moves _ _ _
  · exact .refl

theorem clampNotes_refosc (s : State) {c : Nat} (h : c = 3) : (clampNotes s c).get CLM_STATUS.REFOSC 0 = 1 := by
  subst h
  exact State.get_set_self s _ 0 1

/-- The commands of the four classes that a monitor raises. -/
theorem clampEvent_exec {s : State} {i : Instr} {c : Nat}
    (hi : (i, c) ∈ [(Instr.kclkOutOfBand, 3), (.cclkRatioOutOfBand, 4), (.tempLimit, 5), (.evin15ClampAssert, 6)])
    (hm : (c = 3 ∨ c = 4) → s.mode ≠ 0) :
    exec i s = .next (if c = 6 then s.evin15 else (clampNotes s c).armedEvent c).closed := by
  simp only [List.mem_cons, List.not_mem_nil, or_false, Prod.mk.injEq] at hi
  obtain ⟨rfl, rfl⟩ | ⟨rfl, rfl⟩ | ⟨rfl, rfl⟩ | ⟨rfl, rfl⟩ := hi
  · exact congrArg done (if_neg (hm (.inl rfl)))
  · exact congrArg done (if_neg (hm (.inr rfl)))
  · rfl
  · rfl

/-- What a class listens to: EVIN15 where it is routed, another while it is armed. -/
abbrev State.clampHears (s : State) (c : Nat) : Bool :=
  if c = 6 then s.on OFC_CLM_CTL.EVIN15_ROUTE 0 else !Tab.get false s.cl.armedOff c

section
variable {s : State} {i : Instr} {c : Nat}
  (hi : (i, c) ∈ [(Instr.kclkOutOfBand, 3), (.cclkRatioOutOfBand, 4), (.tempLimit, 5), (.evin15ClampAssert, 6)])
  (hm : (c = 3 ∨ c = 4) → s.mode ≠ 0)
include hi hm

theorem clampEvent_counts {n : Nat} (hn : n = min (s.clmCount c + 1) 255) (hh : s.clampHears c = true) :
    ∃ t, exec i s = .next t ∧ t.get CLM_CLASS_CNT.V c = (s.get CLM_CLASS_CNT.V c + 1) % 2 ^ 64 ∧
      (Tab.get none t.cl.clmWin c).map (·.count) = some n ∧
      (s.get OFC_CLM_CLASS.K1 c ≤ n → t.cl.coalesce.any (fun x => bit x.classes c) = true) ∧
      (s.get OFC_CLM_CLASS.K1 c ≤ n → (s.get OFC_CLM_CLASS.MODE c = 1 ∨
          (s.get OFC_CLM_CLASS.MODE c = 2 ∧ s.get OFC_CLM_CLASS.K2 c ≤ n)) → t.cl.eraseDue = true ∧ t.ke.kram = []) ∧
      (c = 3 → t.get CLM_STATUS.REFOSC 0 = 1) ∧ (c ≠ 6 → Tab.get false t.cl.armedOff c = true) := by
  refine ⟨_, clampEvent_exec hi hm, ?_⟩
  by_cases h6 : c = 6
  · subst h6
    have hr : s.on OFC_CLM_CTL.EVIN15_ROUTE 0 = true := by simpa using hh
    obtain ⟨h1, h2, h3, h4, -, -⟩ := State.clmEvent_counts (s := s) (u := s) .refl rfl (c := 6) (by decide) hn
    rw [if_pos rfl, State.evin15, if_pos hr]
    exact ⟨h1, h2, h3, h4, fun h => absurd h (by decide), fun h => absurd rfl h⟩
  · have ha : Tab.get false s.cl.armedOff c = false := by simpa [h6] using hh
    have hcl : (clampNotes s c).cl = s.cl := (clampNotes_moves s c).parts .cl rfl
    have h8 : c ≠ 8 := by
      rintro rfl
      simp at hi
    have m : Moves [CLM_STATUS.REFOSC] [.cl] s ((clampNotes s c).armOff c) :=
      (Moves.refl.also (clampNotes_moves s c) rfl rfl).also (State.cl_moves _ _) rfl rfl
    obtain ⟨h1, h2, h3, h4, h5, h7⟩ := State.clmEvent_counts m (by rw [State.armOff, hcl]) h8 hn
    rw [if_neg h6, State.armedEvent_eq, hcl, if_neg (ne_true_of_eq_false ha)]
    refine ⟨h1, h2, h3, h4, fun h => h5.trans (clampNotes_refosc s h), fun _ => ?_⟩
    rw [h7]
    exact Tab.get_set_self false _ _ true

theorem clampEvent_ignored (hh : s.clampHears c = false) :
    ∃ t, exec i s = .next t ∧ s.keepsBut t [reg_CLM_STATUS] ∧ t.cl.clmWin = s.cl.clmWin ∧
      (c = 3 → t.get CLM_STATUS.REFOSC 0 = 1) := by
  refine ⟨_, clampEvent_exec hi hm, ?_⟩
  by_cases h6 : c = 6
  · subst h6
    have hr : ¬s.on OFC_CLM_CTL.EVIN15_ROUTE 0 = true := by simpa using hh
    rw [if_pos rfl, State.evin15, if_neg hr]
    exact ⟨(State.keepsBut_rfl s _).closed, State.closed_cl_clmWin s, fun h => absurd h (by decide)⟩
  · have ha : Tab.get false s.cl.armedOff c = true := by simpa [h6] using hh
    have hcl : (clampNotes s c).cl = s.cl := (clampNotes_moves s c).parts .cl rfl
    have hk : s.keepsBut (clampNotes s c) [reg_CLM_STATUS] := by
      unfold clampNotes
      split
      · exact (State.keepsBut_rfl s _).set rfl 0 1
      · exact State.keepsBut_rfl s _
    rw [if_neg h6, State.armedEvent_eq, hcl, if_pos ha]
    refine ⟨hk.closed, ?_, fun h => ?_⟩
    · rw [State.closed_cl_clmWin, hcl]
    · rw [State.closed_get _ rfl, clampNotes_refosc s h]

end

/-! Recoveries (R364, R382). -/

theorem State.rearm_armed (s : State) (c : Nat) : Tab.get false (s.rearm c).closed.cl.armedOff c = false := by
  rw [State.closed_cl_armedOff]
  exact Tab.get_set_self false _ _ false

theorem clampRearms (s : State) :
    (∃ t, exec .tempRearm s = .next t ∧ Tab.get false t.cl.armedOff 5 = false) ∧
    (∃ t, exec (.clockEventRearm false) s = .next t ∧ Tab.get false t.cl.armedOff 3 = false ∧
      t.get CLM_STATUS.REFOSC 0 = 0) ∧
    (∃ t, exec (.clockEventRearm true) s = .next t ∧ Tab.get false t.cl.armedOff 4 = false) ∧
    (∃ t, exec .vbatPreeraseRearm s = .next t ∧ Tab.get false t.cl.armedOff 9 = false) :=
  ⟨⟨_, rfl, s.rearm_armed 5⟩,
    ⟨_, rfl, State.rearm_armed _ 3, (State.closed_get _ rfl 0).trans (State.get_set_self s CLM_STATUS.REFOSC 0 0)⟩,
    ⟨_, rfl, s.rearm_armed 4⟩, ⟨_, rfl, s.rearm_armed 9⟩⟩

/-! Windows that close (R368, R375). -/

theorem classWindowClose_over {s : State} {c : Fin 9}
    (h : (Tab.get none s.cl.clmWin c.val).all (fun w => decide (w.ends ≤ s.mono)) = true) :
    ∃ t, exec (.classWindowClose c) s = .next t ∧ Tab.get none t.cl.clmWin c.val = none := by
  refine ⟨(s.clmClose c.val).closed, rfl, ?_⟩
  rw [State.closed_cl_clmWin, State.clmClose]
  split
  · rename_i w hw
    rw [if_pos (by simpa [hw] using h)]
    exact Tab.get_set_self none _ _ (none : Option ClmWin)
  · assumption

theorem classWindowClose_early {s : State} {c : Fin 9}
    (h : (Tab.get none s.cl.clmWin c.val).any (fun w => decide (s.mono < w.ends)) = true) :
    ∃ t, exec (.classWindowClose c) s = .next t ∧ s.keepsBut t [] ∧ t.cl.clmWin = s.cl.clmWin := by
  have e : s.clmClose c.val = s := by
    rw [State.clmClose]
    split
    · rename_i w hw
      have hlt : s.mono < w.ends := by simpa [hw] using h
      rw [if_neg (Nat.not_le.mpr hlt)]
    · rfl
  refine ⟨(s.clmClose c.val).closed, rfl, ?_⟩
  rw [e]
  exact ⟨(State.keepsBut_rfl s []).closed, State.closed_cl_clmWin s⟩

/-- With no trip left there is nothing to judge. -/
theorem State.judged_of_quiet {s : State} (h : (upto 15).all (fun i => (Tab.get none s.cl.trips i).isNone) = true) (w : Coalesce) :
    s.judged w = s := by
  unfold State.judged
  generalize upto 15 = l at h ⊢
  induction l with
  | nil => rfl
  | cons i l ih =>
    rw [List.all_cons, Bool.and_eq_true] at h
    have hi : s.judgeIn w i = s := by rw [State.judgeIn, Option.isNone_iff_eq_none.mp h.1]
    exact (congrArg (State.each · l _) hi).trans (ih h.2)

/-- A window without an erase raises source 0x429, once the ports are up (R375, R385). -/
theorem State.coalesceWrite_raises {s : State} {x : Coalesce} (he : x.erase = false) (hl : s.cl.logOff = false)
    (hp : s.portsUp = true) : 0x429 ∈ (s.coalesceWrite x).ic.icu := by
  have hs (u : State) (l : List (Nat × LogEntry)) : Moves logMoves [.cl, .ic, .out] u (u.each l (fun e s => s.logStore e.1 e.2)) :=
    Moves.each .refl (fun e v => v.logStore_moves e.1 e.2)
  unfold State.coalesceWrite
  simp only [hl, Bool.false_eq_true, if_false, he]
  rw [State.pendClamp, if_pos]
  · exact State.mem_pend_self _ _
  · rw [(hs _ _).portsUp rfl rfl rfl, (State.logStore_moves _ _ _).portsUp rfl rfl rfl]
    exact hp

theorem coalesceWindowClose_over {s : State} (h : s.cl.coalesce.all (fun x => decide (x.ends ≤ s.mono)) = true) :
    ∃ t, exec .coalesceWindowClose s = .next t ∧ t.cl.coalesce = none ∧
      (s.cl.coalesce.any (fun x => !x.erase) = true → (upto 15).all (fun i => (Tab.get none s.cl.trips i).isNone) = true →
        s.cl.logOff = false → s.portsUp = true → t.ic.icu.contains 0x429 = true) := by
  refine ⟨s.coalesceClose.closed, rfl, ?_⟩
  rw [State.closed_cl_coalesce]
  cases hc : s.cl.coalesce with
  | none =>
    rw [State.coalesceClose, State.coalesceLapse_of_none hc]
    exact ⟨hc, fun h => by cases h⟩
  | some w =>
    have hle : w.ends ≤ s.mono := by simpa [hc] using h
    have e : s.coalesceClose = (s.judged w).entryWritten := by
      rw [State.coalesceClose, State.coalesceLapse_of_open hc, if_neg (Nat.not_lt.mpr hle)]
    rw [e]
    refine ⟨State.entryWritten_closed _, fun he hq hl hp => ?_⟩
    have hw : s.entryWritten = s.coalesceWrite w := by rw [State.entryWritten, hc]
    rw [State.judged_of_quiet hq, hw, List.contains_iff_mem]
    exact (State.closed_moves _).sources _ (State.coalesceWrite_raises (by simpa using he) hl hp)

theorem coalesceWindowClose_early {s : State} (h : s.cl.coalesce.any (fun x => decide (s.mono < x.ends)) = true) :
    ∃ t, exec .coalesceWindowClose s = .next t ∧ s.keepsBut t [] ∧ t.cl.coalesce = s.cl.coalesce := by
  have e : s.coalesceClose = s := by
    cases hc : s.cl.coalesce with
    | none =>
      rw [hc] at h
      cases h
    | some w =>
      have hlt : s.mono < w.ends := by simpa [hc] using h
      rw [State.coalesceClose, State.coalesceLapse_of_open hc, if_pos hlt]
  refine ⟨s.coalesceClose.closed, rfl, ?_⟩
  rw [e]
  exact ⟨(State.keepsBut_rfl s []).closed, State.closed_cl_coalesce s⟩

/-! An erase is complete (R373). -/

theorem clampEraseComplete_shows {s : State} (h : s.cl.eraseDue = true) :
    ∃ t, exec .clampEraseComplete s = .next t ∧ t.cl.eraseDue = false ∧ t.get CLM_STATUS.ERASED 0 = 1 := by
  refine ⟨s.eraseDone.closed, rfl, ?_, ?_⟩
  · rw [State.closed_cl_eraseDue, State.eraseDone, if_pos h, State.pendClamp_cl _ (·.eraseDue) (fun _ _ => rfl)]
    rfl
  · rw [State.closed_get _ rfl, State.eraseDone, if_pos h, (State.pendClamp_moves _ _).get rfl]
    exact State.get_set_self _ CLM_STATUS.ERASED 0 1

theorem clampEraseComplete_idle {s : State} (h : s.cl.eraseDue = false) :
    ∃ t, exec .clampEraseComplete s = .next t ∧ s.keepsBut t [] := by
  refine ⟨s.eraseDone.closed, rfl, ?_⟩
  rw [State.eraseDone, if_neg (ne_true_of_eq_false h)]
  exact (State.keepsBut_rfl s []).closed

/-! VBAT and the thermal threshold (R44, R382, R416). -/

/-- An event in the log leaves what does not rest on the log. -/
theorem State.logEvent_cl {β : Type} (s : State) (φ : ClmS → β)
    (h : ∀ (x : ClmS) n l e, φ { x with logSeq := n, logHeld := l, log := e } = φ x) (typ src : Nat) (d : List Octet) :
    φ (s.logEvent typ src d).cl = φ s.cl := by
  have hn : φ { s.cl with logSeq := s.cl.logSeq + 1 } = φ s.cl := h s.cl _ s.cl.logHeld s.cl.log
  unfold State.logEvent State.logAs
  split
  · rfl
  · simp only
    split
    · exact h s.cl _ _ s.cl.log
    · rw [State.logStore_cl _ φ (fun x l e => h x x.logSeq l e)]
      exact hn

/-- Below 1.8 V the backup domain is lost at the next cold reset. -/
def State.vbatNoted (s : State) (mv : Nat) : State := if mv < 1800 then { s with cl.backupNew := true } else s

/-- No slot is persisted any more. -/
def State.kramLost (s : State) : State :=
  s.each (s.ones KST_SLOT.PERSISTED) (fun k s => s.set KST_SLOT.PERSISTED k 0)

/-- The key RAM is emptied (R382). -/
def State.vbatErased (s : State) (mv : Nat) : State :=
  let s := { s with ke.kram := [], cl.armedOff := s.cl.armedOff.set false 9 true }
  ((s.kramLost.set CLM_STATUS.PREERASED 0 1).logEvent 0x0011 0x42B (leBytes 2 mv)).pendClamp 0x42B

section
variable (s : State) (mv : Nat)

theorem State.vbatLow_eq : s.vbatLow mv = if 2300 ≤ mv ∨ Tab.get false (s.vbatNoted mv).cl.armedOff 9 then s.vbatNoted mv
    else (s.vbatNoted mv).vbatErased mv := rfl

theorem State.vbatNoted_armed : (s.vbatNoted mv).cl.armedOff = s.cl.armedOff := by
  unfold State.vbatNoted
  split <;> rfl

theorem State.vbatNoted_keeps : s.keepsBut (s.vbatNoted mv) [] := by
  unfold State.vbatNoted
  split
  · exact ⟨fun _ _ _ _ _ => rfl, rfl, rfl, rfl, rfl, rfl, rfl, rfl⟩
  · exact State.keepsBut_rfl s []

theorem State.kramLost_moves : Moves [KST_SLOT.PERSISTED] [] s s.kramLost := Moves.each .refl (fun k u => u.set_moves _ k 0)

/-- A table that reads an entry lists it. -/
theorem Tab.mem_of_get {t : Tab Nat} {k : Nat} (h : Tab.get 0 t k ≠ 0) : ∃ v, (k, v) ∈ t := by
  induction t with
  | nil => exact absurd rfl h
  | cons x t ih =>
    obtain ⟨i, v⟩ := x
    by_cases hi : i = k
    · exact ⟨v, by rw [hi]; exact List.mem_cons_self ..⟩
    · obtain ⟨w, hw⟩ := ih (by simpa [Tab.get, hi] using h)
      exact ⟨w, List.mem_cons_of_mem _ hw⟩

/-- An index at which a field with reset value 0 is not 0 is among those listed. -/
theorem State.mem_ones {s : State} {f : Fld} (hf : f.id < 2048) (h0 : f.reset = 0) {i : Nat} (h : s.get f i ≠ 0) :
    i ∈ s.ones f := by
  have hg : Tab.get 0 s.regs (f.key i) ≠ 0 := fun e => h (by rw [State.get, e, h0]; simp)
  obtain ⟨v, hv⟩ := Tab.mem_of_get hg
  refine List.mem_filterMap.mpr ⟨_, hv, ?_⟩
  have h1 : f.key i % 2048 = f.id := by unfold Fld.key; omega
  have h2 : f.key i / 2048 = i := by unfold Fld.key; omega
  exact (if_pos h1).trans (congrArg some h2)

theorem State.kramLost_persisted (k : Nat) : s.kramLost.get KST_SLOT.PERSISTED k = 0 := by
  have h := State.get_each_index (f := KST_SLOT.PERSISTED) (v := fun _ => 0) (g := fun k s => s.set KST_SLOT.PERSISTED k 0)
    (fun a s => State.get_set_self s _ a 0) (fun _ _ s h => State.get_set_index s _ h 0) (s.ones KST_SLOT.PERSISTED) s k
  rw [State.kramLost, h]
  split
  · rfl
  · rename_i hk
    by_contra hne
    exact hk (State.mem_ones (by decide) rfl hne)

end

theorem vbatLow_ignored {s : State} {mv : Nat} (h : ¬(mv < 2300 ∧ Tab.get false s.cl.armedOff 9 = false)) :
    ∃ t, exec (.vbatLow mv) s = .next t ∧ s.keepsBut t [] := by
  have hc : 2300 ≤ mv ∨ Tab.get false (s.vbatNoted mv).cl.armedOff 9 = true := by
    rwa [not_and_or, not_lt, Bool.not_eq_false, ← s.vbatNoted_armed mv] at h
  refine ⟨(s.vbatLow mv).closed, rfl, State.keepsBut.closed ?_⟩
  rw [State.vbatLow_eq, if_pos hc]
  exact s.vbatNoted_keeps mv

theorem vbatLow_erases {s : State} {mv : Nat} (h : mv < 2300 ∧ Tab.get false s.cl.armedOff 9 = false) :
    ∃ t, exec (.vbatLow mv) s = .next t ∧ t.ke.kram = [] ∧ t.get CLM_STATUS.PREERASED 0 = 1 ∧
      (∀ k < 256, t.get KST_SLOT.PERSISTED k = 0) ∧ Tab.get false t.cl.armedOff 9 = true := by
  obtain ⟨hmv, ha⟩ := h
  have hc : ¬(2300 ≤ mv ∨ Tab.get false (s.vbatNoted mv).cl.armedOff 9 = true) := by
    rw [s.vbatNoted_armed, ha]
    rintro (h | h)
    · omega
    · cases h
  refine ⟨(s.vbatLow mv).closed, rfl, ?_⟩
  rw [State.vbatLow_eq, if_neg hc]
  generalize s.vbatNoted mv = u
  have mp (v : State) := v.pendClamp_moves 0x42B
  have ml (v : State) := v.logEvent_moves 0x0011 0x42B (leBytes 2 mv)
  unfold State.vbatErased
  simp only
  generalize hw : ({ u with ke.kram := [], cl.armedOff := u.cl.armedOff.set false 9 true } : State) = w
  refine ⟨?_, ?_, fun k _ => ?_, ?_⟩
  · rw [State.closed_ke, (mp _).parts .ke rfl, (ml _).parts .ke rfl]
    exact (congrArg KeyS.kram (w.kramLost_moves.parts .ke rfl)).trans (by rw [← hw])
  · rw [State.closed_get _ rfl, (mp _).get rfl, (ml _).get rfl]
    exact State.get_set_self _ CLM_STATUS.PREERASED 0 1
  · rw [State.closed_get _ rfl, (mp _).get rfl, (ml _).get rfl, State.get_set_field _ (by decide), State.kramLost_persisted]
  · rw [State.closed_cl_armedOff, State.pendClamp_cl _ (·.armedOff) (fun _ _ => rfl),
      State.logEvent_cl _ (·.armedOff) (fun _ _ _ _ => rfl)]
    have hcl : (w.kramLost.set CLM_STATUS.PREERASED 0 1).cl = w.cl := w.kramLost_moves.parts .cl rfl
    rw [hcl, ← hw]
    exact Tab.get_set_self false _ _ true

theorem thermalThreshold_shows {s : State} {above : Bool} (hm : s.mode ≠ 0) :
    ∃ t, exec (.thermalThreshold above) s = .next t ∧ t.get GLB_DEGRADED_CAUSE.THERMAL 0 = b2n above ∧
      (s.on GLB_DEGRADED_CAUSE.THERMAL 0 ≠ above → t.ic.icu.contains (if above then 0x450 else 0x451) = true) := by
  have e : s.powered (fun s => s.thermal above) = s.thermal above := if_neg hm
  refine ⟨(s.thermal above).closed, congrArg done e, ?_, fun hne => ?_⟩
  · rw [State.closed_get _ rfl, State.thermal]
    split
    · rename_i hon
      have hlt : s.get GLB_DEGRADED_CAUSE.THERMAL 0 < 2 ^ 1 := Nat.mod_lt _ (Nat.two_pow_pos 1)
      rw [State.on] at hon
      subst hon
      cases h : s.get GLB_DEGRADED_CAUSE.THERMAL 0 with
      | zero => rfl
      | succ n =>
        obtain rfl : n = 0 := by omega
        rfl
    · rw [State.pend_get _ _ rfl, State.get_set_self]
      cases above <;> rfl
  · rw [State.thermal, if_neg hne, List.contains_iff_mem]
    exact (State.closed_moves _).sources _ (State.mem_pend_self _ _)

/-! LOCK (R371). -/

theorem bits_putBits_self (v : Nat) : bits (putBits v 2 1 1) 2 1 = 1 := by
  unfold bits putBits
  omega

/-- A 1 written to LOCK sets it, whatever is written beside it. -/
theorem State.writeWord_clmCtl_lock (s : State) (v : Nat) :
    (s.writeWord reg_OFC_CLM_CTL 0 0 (putBits v 2 1 1)).1.get OFC_CLM_CTL.LOCK 0 = 1 := by
  have hw : reg_OFC_CLM_CTL.inWord 0 = [(OFC_CLM_CTL.EVIN15_ROUTE, 0, 0, 1), (OFC_CLM_CTL.EVIN15_LOW, 0, 1, 1),
    (OFC_CLM_CTL.LOCK, 0, 2, 1), (OFC_CLM_CTL.TEMP_LO, 0, 8, 8), (OFC_CLM_CTL.TEMP_HI, 0, 16, 8)] := by decide
  have hlock (u : State) : (u.writeField OFC_CLM_CTL.LOCK 0 0 2 1 (putBits v 2 1 1)).1.get OFC_CLM_CTL.LOCK 0 = 1 := by
    have e : (u.writeField OFC_CLM_CTL.LOCK 0 0 2 1 (putBits v 2 1 1)).1 =
        u.set OFC_CLM_CTL.LOCK 0 (u.get OFC_CLM_CTL.LOCK 0 ||| (bits (putBits v 2 1 1) 2 1 * 2 ^ 0)) := rfl
    have hlt : u.get OFC_CLM_CTL.LOCK 0 < 2 ^ 1 := Nat.mod_lt _ (Nat.two_pow_pos 1)
    rw [e, State.get_set_self, bits_putBits_self]
    generalize u.get OFC_CLM_CTL.LOCK 0 = x at hlt
    interval_cases x <;> rfl
  have htemp (u : State) (b : Nat) : Moves [OFC_CLM_CTL.TEMP_LO, OFC_CLM_CTL.TEMP_HI] [] u
      ((u.writeField OFC_CLM_CTL.TEMP_LO 0 0 8 8 b).1.writeField OFC_CLM_CTL.TEMP_HI 0 0 16 8 b).1 :=
    (Moves.refl.also (u.writeField_moves OFC_CLM_CTL.TEMP_LO 0 0 8 8 b) rfl rfl).also
      (State.writeField_moves _ OFC_CLM_CTL.TEMP_HI 0 0 16 8 b) rfl rfl
  rw [State.writeWord, hw]
  exact ((htemp _ _).get rfl 0).trans (hlock _)

/-- A write of Clamp's configuration that only narrows (R371). -/
def State.ctlNarrows (s n : State) : Bool :=
  decide (s.get OFC_CLM_CTL.EVIN15_ROUTE 0 ≤ n.get OFC_CLM_CTL.EVIN15_ROUTE 0) &&
    n.get OFC_CLM_CTL.EVIN15_LOW 0 == s.get OFC_CLM_CTL.EVIN15_LOW 0 &&
    decide (signed 8 (s.get OFC_CLM_CTL.TEMP_LO 0) ≤ signed 8 (n.get OFC_CLM_CTL.TEMP_LO 0)) &&
    decide (n.get OFC_CLM_CTL.TEMP_HI 0 ≤ s.get OFC_CLM_CTL.TEMP_HI 0)

theorem State.clmCtl_refused {s n : State} {w : Writer} {v : Nat} (hn : n = (s.writeWord reg_OFC_CLM_CTL 0 0 v).1)
    (hl : s.on OFC_CLM_CTL.LOCK 0 = true) (hr : s.ctlNarrows n = false) :
    s.clmCtl w v = s.reject w 3 true reg_OFC_CLM_CTL.base := by
  subst hn
  exact if_pos ⟨hl, hr⟩

/-- An accepted write shows what it wrote. -/
theorem State.clmCtl_taken {s n : State} {p v : Nat} (hn : n = (s.writeWord reg_OFC_CLM_CTL 0 0 v).1)
    (h : s.on OFC_CLM_CTL.LOCK 0 = false ∨ s.ctlNarrows n = true) :
    Moves (rejectMoves ++ logMoves) [.cl, .ic, .out, .wraps] n (s.clmCtl (.port p) v) := by
  subst hn
  have e : s.clmCtl (.port p) v = (let t := s.writeWord reg_OFC_CLM_CTL 0 0 v
      let n := if t.2 then t.1.reject (.port p) 1 true reg_OFC_CLM_CTL.base else t.1
      n.clmLogCfg 0x10 (n.readFields reg_OFC_CLM_CTL 0 0) 0) := by
    refine if_neg ?_
    rintro ⟨hl, hr⟩
    obtain h | h := h
    · rw [h] at hl
      cases hl
    · exact Bool.false_ne_true (hr.symm.trans h)
  rw [e]
  exact (Moves.ite (Moves.refl.also (State.reject_moves _ _ _ _ _) rfl rfl) .refl).also (State.logEvent_moves _ _ _ _) rfl rfl

section
variable {s n : State} {p : Port} {v : Word} (h : s.admits p.val 0 true true reg_OFC_CLM_CTL.base = true)
  (hn : n = ((s.granted p.val true).writeWord reg_OFC_CLM_CTL 0 0 (putBits v.toNat 2 1 1)).1)
include h hn

theorem clampLock_takes (hk : s.on OFC_CLM_CTL.LOCK 0 = false ∨ s.ctlNarrows n = true) :
    ∃ t, exec (.clampLock p v) s = .next t ∧ t.get OFC_CLM_CTL.LOCK 0 = 1 ∧
      ∀ f ∈ [OFC_CLM_CTL.EVIN15_ROUTE, OFC_CLM_CTL.EVIN15_LOW, OFC_CLM_CTL.TEMP_LO, OFC_CLM_CTL.TEMP_HI],
        t.get f 0 = n.get f 0 := by
  have hg (f : Fld) (hf : mmioMoves f = false) : (s.granted p.val true).get f 0 = s.get f 0 := State.granted_get _ _ _ hf 0
  have m := State.clmCtl_taken (p := p.val) hn (by
    rwa [State.on, State.ctlNarrows, hg _ rfl, hg _ rfl, hg _ rfl, hg _ rfl, hg _ rfl])
  refine ⟨_, congrArg done (State.onWrite_of_admits _ _ _ _ _ h), ?_, ?_⟩
  · rw [State.closed_get _ rfl, m.get rfl, hn, State.writeWord_clmCtl_lock]
  · simp only [List.mem_cons, List.not_mem_nil, or_false, forall_eq_or_imp, forall_eq]
    exact ⟨(State.closed_get _ rfl 0).trans (m.get rfl 0), (State.closed_get _ rfl 0).trans (m.get rfl 0),
      (State.closed_get _ rfl 0).trans (m.get rfl 0), (State.closed_get _ rfl 0).trans (m.get rfl 0)⟩

theorem clampLock_refuses (hl : s.on OFC_CLM_CTL.LOCK 0 = true) (hr : s.ctlNarrows n = false) :
    ∃ t, exec (.clampLock p v) s = .next t ∧ s.keepsBut t rejectRegs ∧ t.get GLB_CFG_REJECT_LAST.CAUSE p.val = 3 := by
  have hg (f : Fld) (hf : mmioMoves f = false) : (s.granted p.val true).get f 0 = s.get f 0 := State.granted_get _ _ _ hf 0
  have e := State.clmCtl_refused (w := .port p.val) hn (by rwa [State.on, hg _ rfl])
    (by rwa [State.ctlNarrows, hg _ rfl, hg _ rfl, hg _ rfl, hg _ rfl])
  refine ⟨_, congrArg done ((State.onWrite_of_admits _ _ _ _ _ h).trans e),
    ((State.keepsBut_granted s p.val true _).trans (State.keepsBut_reject ..)).closed, ?_⟩
  rw [State.closed_get _ rfl, State.reject_cause]

end

theorem clampLock_outcome {s n : State} {p : Port} {v : Word} {ok : Bool}
    (h : s.admits p.val 0 true true reg_OFC_CLM_CTL.base = true)
    (hn : n = ((s.granted p.val true).writeWord reg_OFC_CLM_CTL 0 0 (putBits v.toNat 2 1 1)).1)
    (hok : ok = (!s.on OFC_CLM_CTL.LOCK 0 || s.ctlNarrows n)) :
    (ok = true →
      ∃ t, exec (.clampLock p v) s = .next t ∧ t.get OFC_CLM_CTL.LOCK 0 = 1 ∧
        ∀ f ∈ [OFC_CLM_CTL.EVIN15_ROUTE, OFC_CLM_CTL.EVIN15_LOW, OFC_CLM_CTL.TEMP_LO, OFC_CLM_CTL.TEMP_HI],
          t.get f 0 = n.get f 0) ∧
    (ok = false →
      ∃ t, exec (.clampLock p v) s = .next t ∧ s.keepsBut t rejectRegs ∧ t.get GLB_CFG_REJECT_LAST.CAUSE p.val = 3) := by
  subst hok
  refine ⟨fun hk => clampLock_takes h hn (by simpa using hk), fun hk => ?_⟩
  obtain ⟨hl, hr⟩ : s.on OFC_CLM_CTL.LOCK 0 = true ∧ s.ctlNarrows n = false := by simpa using hk
  exact clampLock_refuses h hn hl hr

/-- Settles O49, by what a trip, a counted event, the end of a window and an erase each leave of Clamp's state. -/
theorem clampEventsAndWindows : Obligations.ClampEventsAndWindows := by
  refine ⟨⟨?trips, ?decided, ?events, clampRearms⟩, fun _ _ h => classWindowClose_over h, fun _ _ h => classWindowClose_early h,
    fun _ => ⟨coalesceWindowClose_over, coalesceWindowClose_early⟩,
    fun _ => ⟨clampEraseComplete_shows, clampEraseComplete_idle⟩, fun _ _ _ _ _ h hn hok => clampLock_outcome h hn hok,
    fun _ _ => ⟨vbatLow_erases, vbatLow_ignored⟩, fun _ _ => thermalThreshold_shows⟩
  case trips =>
    rintro s x d comp wd _ hd rfl
    exact ⟨fun ha hs => ⟨fun _ he ho => clampSupplyTrip_joins hd ha hs he ho, clampSupplyTrip_counts hd ha hs,
      clampSupplyTrip_reported hd ha hs⟩, clampSupplyTrip_ignored hd⟩
  case decided =>
    exact fun s x e bad he hbad => ⟨fun ho hw => disagreeWindowClose_judges he ho hbad hw, disagreeWindowClose_over he,
      disagreeWindowClose_early he⟩
  case events =>
    exact fun s i c n hi hm hn => ⟨clampEvent_counts hi hm hn, clampEvent_ignored hi hm⟩

end Sys2Proof.Machine
end

/-! A firing of the Gauge: its record, and what it leaves (R142, R145). -/
section
namespace Sys2Proof.Machine

/-! The record of a firing. -/

/-- A time in TIME96 fits its 96 bits. -/
theorem time96_lt (t : Nat) : time96 t < 2 ^ 96 := by
  have h0 := Nat.mod_lt (t / 2 ^ 16) (show 0 < 2 ^ 16 by decide)
  have h1 := Nat.mod_lt (t / ns) (show 0 < 1000000000 by decide)
  have h2 := Nat.mod_lt (t / sec) (show 0 < 2 ^ 48 by decide)
  rw [time96]
  omega

/-- The record of a firing: the time, the entry, its action, LATE and HOLDOVER, from bit 0 up (R145). -/
def gauRecord (time i action late holdover : Nat) : Nat :=
  time + i * 2 ^ 96 + action * 2 ^ 106 + late * 2 ^ 110 + holdover * 2 ^ 111

section
variable {time i action late holdover : Nat} (ht : time < 2 ^ 96) (hi : i < 1024) (ha : action < 16)
include ht

theorem gauRecord_time : bits (gauRecord time i action late holdover) 0 96 = time := by
  rw [bits, gauRecord]
  omega

include hi

theorem gauRecord_entry : bits (gauRecord time i action late holdover) 96 10 = i := by
  rw [bits, gauRecord]
  omega

include ha

theorem gauRecord_action : bits (gauRecord time i action late holdover) 106 4 = action := by
  rw [bits, gauRecord]
  omega

end

/-! What a firing leaves. -/

abbrev fireMoves : List Fld := [GAU_RING_HEAD.INDEX, GAU_RING_HEAD.WRITTEN, GAU_ENT.FIRED, GAU_ENT.LAST_LATE,
  GAU_ENT.LAST_HOLDOVER, GAU_ENT.FIRE_COUNT, GAU_ENT.DUE, ICU_PORT.WAKE]

abbrev fireParts : List Part := [.ga, .ic, .out]

/-- The firing's record enters the ring, and the entry is no longer late. -/
def State.gauRinged (s : State) (i n record : Nat) : State :=
  { s with
    ga.gauRing := s.ga.gauRing.set 0 (n % 256) record
    ga.gauCount := n + 1
    ga.gauLate := s.ga.gauLate.set 0 i 0
    ga.gauAt := s.mono + 1 }

/-- The record that the firing of an entry makes. -/
def State.gauNow (s : State) (i : Nat) : Nat :=
  gauRecord (time96 s.now) i (s.get GAU_ENT.ACTION i) (b2n (Tab.get 0 s.ga.gauLate i != 0)) (s.get TIM_STATUS.HOLDOVER 0)

/-- The head of the ring and the flags of the entry follow. -/
def State.gauMarked (s : State) (i n late holdover : Nat) : State :=
  (((((s.set GAU_RING_HEAD.INDEX 0 (n + 1)).set GAU_RING_HEAD.WRITTEN 0 (n + 1)).set GAU_ENT.FIRED i 1).set
    GAU_ENT.LAST_LATE i late).set GAU_ENT.LAST_HOLDOVER i holdover).turn GAU_ENT.FIRE_COUNT i 1

/-- The source of a late firing is raised, and a periodic entry gets its next due time. -/
def State.gauNext (s : State) (i cross : Nat) : State :=
  let s := if cross != 0 then s.pend 0x029 else s
  if s.on GAU_ENT.PERIODIC i then
    s.set GAU_ENT.DUE i (time96 (if cross != 0 then nextPeriod (Tab.get 0 s.ga.gauBase i) (s.gauPeriod i) (cross - 1)
      else s.gauDue i + s.gauPeriod i))
  else s

/-- The loss of the oldest record is noted where the ring is full. -/
def State.gauFull (s : State) : State :=
  if 256 ≤ s.ga.gauCount ∧ s.ga.gauMark + 256 ≤ s.ga.gauCount then s.pend 0x02A else s

section
variable (s : State) (i : Nat)

theorem State.gauFull_moves : Moves [ICU_PORT.WAKE] [.ic, .out] s s.gauFull := .ite (s.pend_moves _) .refl

theorem State.gauMarked_moves (n late holdover : Nat) : Moves fireMoves [] s (s.gauMarked i n late holdover) :=
  (((((Moves.refl.also (s.set_moves GAU_RING_HEAD.INDEX 0 _) rfl rfl).also (State.set_moves _ GAU_RING_HEAD.WRITTEN 0 _) rfl
    rfl).also (State.set_moves _ GAU_ENT.FIRED i 1) rfl rfl).also (State.set_moves _ GAU_ENT.LAST_LATE i _) rfl rfl).also
    (State.set_moves _ GAU_ENT.LAST_HOLDOVER i _) rfl rfl).also (State.set_moves _ GAU_ENT.FIRE_COUNT i _) rfl rfl

theorem State.gauNext_moves (cross : Nat) : Moves [GAU_ENT.DUE, ICU_PORT.WAKE] [.ic, .out] s (s.gauNext i cross) := by
  have h : Moves [GAU_ENT.DUE, ICU_PORT.WAKE] [.ic, .out] s (if cross != 0 then s.pend 0x029 else s) :=
    .ite (Moves.refl.also (s.pend_moves _) rfl rfl) .refl
  exact .ite (h.also (State.set_moves _ GAU_ENT.DUE i _) rfl rfl) h

theorem State.gauFire_eq : s.gauFire i =
    ((s.gauFull.gauRinged i s.ga.gauCount (s.gauNow i)).gauMarked i s.ga.gauCount (b2n (Tab.get 0 s.ga.gauLate i != 0))
      (s.get TIM_STATUS.HOLDOVER 0)).gauNext i (Tab.get 0 s.ga.gauLate i) := rfl

theorem State.gauFire_moves : Moves fireMoves fireParts s (s.gauFire i) := by
  rw [s.gauFire_eq]
  exact (((s.gauFull_moves.mono rfl rfl).also (State.ga_moves _ _) rfl rfl).also (State.gauMarked_moves _ i _ _ _) rfl rfl).also
    (State.gauNext_moves _ i _) rfl rfl

theorem State.gauFire_fired : (s.gauFire i).get GAU_ENT.FIRED i = 1 := by
  rw [s.gauFire_eq, (State.gauNext_moves _ i _).get rfl]
  simp (disch := decide) only [State.gauMarked, State.turn, State.get_set_field, State.get_set_self]
  rfl

theorem State.gauFire_ga : (s.gauFire i).ga = (s.gauFull.gauRinged i s.ga.gauCount (s.gauNow i)).ga := by
  rw [s.gauFire_eq, (State.gauNext_moves _ i _).parts .ga rfl, (State.gauMarked_moves _ i _ _ _).parts .ga rfl]

theorem State.gauFire_firedIn (hi : i < 1024) : s.firedIn (s.gauFire i) i := by
  have ht := time96_lt s.now
  have ha : s.get GAU_ENT.ACTION i < 16 := Nat.mod_lt _ (by decide)
  have hr : Tab.get 0 (s.gauFire i).ga.gauRing (s.ga.gauCount % 256) = s.gauNow i := by
    rw [s.gauFire_ga]
    exact Tab.get_set_self _ _ _ _
  refine ⟨s.gauFire_fired i, ?_, ?_, ?_, ?_⟩
  · rw [s.gauFire_ga]
    rfl
  · rw [hr, State.gauNow, gauRecord_time ht]
  · rw [hr, State.gauNow, gauRecord_entry ht hi]
  · rw [hr, State.gauNow, gauRecord_action ht hi ha]

end

/-- What does not move FIRED nor the Gauge leaves the firing. -/
theorem Moves.firedIn {fs : List Fld} {ps : List Part} {s u v : State} {i : Nat} (m : Moves fs ps u v)
    (hf : listed fs GAU_ENT.FIRED.id = false) (hp : ps.contains .ga = false) (h : s.firedIn u i) : s.firedIn v i := by
  rw [State.firedIn, m.get hf, m.parts .ga hp]
  exact h

/-- A command that is a firing of the entry it names, and its action: the action's effects show as the command ends. -/
theorem gauAct_exec {fs : List Fld} {ps : List Part} {s : State} {i action : Nat} {act : State → State} (hi : i < 1024)
    (h : s.fires i action) (m : Moves fs ps (s.gauFire i) (act (s.gauFire i)))
    (hf : listed fs GAU_ENT.FIRED.id = false) (hp : ps.contains .ga = false)
    (hc : (s.gauFire i).calm = true → (act (s.gauFire i)).calm = true) :
    finish (s.gauAct i action act) = .next (act (s.gauFire i)).closed ∧ s.firedIn (act (s.gauFire i)).closed i := by
  obtain ⟨hcalm, hr, ha⟩ := h
  rw [State.gauAct, if_pos ⟨hr, ha⟩, finish_calm _ (hc (((s.gauFire_moves i).calm rfl).trans hcalm))]
  exact ⟨rfl, (State.closed_moves _).firedIn rfl rfl (m.firedIn hf hp (s.gauFire_firedIn i hi))⟩

end Sys2Proof.Machine
end

/-! SHAPER_EPOCH (R254): what a shaper shows, and what the firing makes of it. -/
section
namespace Sys2Proof.Machine

/-! One element of a state through the operations of a list on each of its elements. -/

/-- An operation that each element of a list runs once or more has the effect of one run, where a second changes nothing. -/
theorem each_view {β : Type} {g : Nat → State → State} {q : Nat} (φ : State → β) (h : β → β) (hh : ∀ x, h (h x) = h x)
    (hself : ∀ u, φ (g q u) = h (φ u)) (hother : ∀ a u, a ≠ q → φ (g a u) = φ u) (l : List Nat) (s : State) :
    φ (s.each l g) = if q ∈ l then h (φ s) else φ s := by
  induction l generalizing s with
  | nil => rfl
  | cons a l ih =>
    change φ ((g a s).each l g) = _
    rw [ih]
    by_cases ha : a = q
    · subst ha
      simp [hself, hh]
    · simp [hother a s ha, Ne.symm ha]

/-! The shaper's view of a state. -/

/-- What a shaper shows: its register, its staged values, its level, and the time that its level counts with. -/
structure Shaper where
  pending : Nat
  en : Nat
  grp : Nat
  adj : Nat
  rate : Nat
  burst : Nat
  stage : List Nat
  lev : Level
  mono : Nat

def State.shaper (s : State) (q : Nat) : Shaper where
  pending := s.get QUE_SHP.PENDING q
  en := s.get QUE_SHP.ENABLE q
  grp := s.get QUE_SHP.EGROUP q
  adj := s.get QUE_SHP.LEN_ADJ q
  rate := s.get QUE_SHP.RATE q
  burst := s.get QUE_SHP.BURST q
  stage := Tab.get [] s.pl.shpStage q
  lev := Tab.get Level.reset s.pl.levels q
  mono := s.mono

/-- The level set now to BURST, or to 0. -/
def Shaper.init (x : Shaper) (clear : Bool) : Shaper :=
  { x with lev := ⟨if clear then 0 else ((x.burst * 65536 : Nat) : Int), x.mono⟩ }

/-- New values come into force. -/
def Shaper.take (x : Shaper) (en grp adj rate burst : Nat) (clear : Bool) : Shaper :=
  Shaper.init { x with pending := 0, en := en % 2, grp := grp % 256, adj := adj % 64, rate := rate % 2 ^ 32,
                       burst := burst % 2 ^ 24, stage := [] } clear

/-- The staged values, if there are any, come into force. -/
def Shaper.adopt (x : Shaper) : Shaper :=
  match x.stage with
  | [en, grp, adj, rate, burst, ini] => x.take en grp adj rate burst (ini == 1)
  | _ => { x with pending := 0 }

/-- A list of a shaper's six values. -/
abbrev IsStaged (l : List Nat) : Prop := ∃ en grp adj rate burst ini, l = [en, grp, adj, rate, burst, ini]

theorem Shaper.init_init (x : Shaper) (c : Bool) : (x.init c).init c = x.init c := rfl

theorem Shaper.adopt_of_staged {x : Shaper} {en grp adj rate burst ini : Nat} (h : x.stage = [en, grp, adj, rate, burst, ini]) :
    x.adopt = x.take en grp adj rate burst (ini == 1) := by
  simp only [Shaper.adopt, h]

theorem Shaper.adopt_of_unstaged {x : Shaper} (h : ¬IsStaged x.stage) : x.adopt = { x with pending := 0 } := by
  unfold Shaper.adopt
  split
  case h_1 hx => exact absurd ⟨_, _, _, _, _, _, hx⟩ h
  case h_2 => rfl

theorem not_staged_nil : ¬IsStaged [] := by simp [IsStaged]

theorem Shaper.adopt_adopt (x : Shaper) : x.adopt.adopt = x.adopt := by
  by_cases h : IsStaged x.stage
  · obtain ⟨en, grp, adj, rate, burst, ini, h⟩ := h
    rw [Shaper.adopt_of_staged h, Shaper.adopt_of_unstaged not_staged_nil]
    rfl
  · rw [Shaper.adopt_of_unstaged h, Shaper.adopt_of_unstaged (x := { x with pending := 0 }) h]

/-- A level just set is what it was set to. -/
theorem State.level_of_init {s : State} {q : Nat} {x : Shaper} {c : Bool} (h : s.shaper q = x.init c) :
    s.level q = if c then 0 else ((s.get QUE_SHP.BURST q * 65536 : Nat) : Int) := by
  have hb : s.get QUE_SHP.BURST q = x.burst := congrArg Shaper.burst h
  have hl : Tab.get Level.reset s.pl.levels q = ⟨if c then 0 else ((x.burst * 65536 : Nat) : Int), x.mono⟩ :=
    congrArg Shaper.lev h
  have hm : s.mono = x.mono := congrArg Shaper.mono h
  rw [State.level, hl, hb, hm]
  cases c <;> simp

theorem Moves.shaper {fs : List Fld} {ps : List Part} {s t : State} (m : Moves fs ps s t)
    (hf : [QUE_SHP.PENDING, QUE_SHP.ENABLE, QUE_SHP.EGROUP, QUE_SHP.LEN_ADJ, QUE_SHP.RATE, QUE_SHP.BURST].all
      (fun f => !listed fs f.id) = true)
    (hp : [Part.shpStage, .levels, .mono].all (fun p => !ps.contains p) = true) (q : Nat) : t.shaper q = s.shaper q := by
  simp only [List.all_cons, List.all_nil, Bool.and_true, Bool.and_eq_true, Bool.not_eq_true'] at hf hp
  obtain ⟨h0, h1, h2, h3, h4, h5⟩ := hf
  obtain ⟨k0, k1, k2⟩ := hp
  simp only [State.shaper, m.get h0, m.get h1, m.get h2, m.get h3, m.get h4, m.get h5]
  rw [m.parts .shpStage k0, m.parts .levels k1, m.parts .mono k2]

/-! One step of the firing. -/

section
variable (s : State) {a q : Nat}

theorem State.shaper_set_other {f : Fld} (hf : f.id < 2048) (h : a ≠ q) (v : Nat) : (s.set f a v).shaper q = s.shaper q := by
  have hg (g : Fld) (hg : g.id < 2048) : (s.set f a v).get g q = s.get g q := State.get_set_other hg hf h.symm v
  simp (disch := decide) only [State.shaper, hg]
  rfl

theorem State.setLevel_shaper (v : Int) : (s.setLevel a v).shaper q =
    { s.shaper q with lev := Tab.get Level.reset (s.pl.levels.set Level.reset a ⟨v, s.mono⟩) q } := rfl

/-- The staged values of a shaper are gone. -/
def State.unstage (s : State) (i : Nat) : State := { s with pl.shpStage := s.pl.shpStage.set [] i [] }

theorem State.unstage_shaper : (s.unstage a).shaper q =
    { s.shaper q with stage := Tab.get [] (s.pl.shpStage.set [] a []) q } := rfl

theorem State.shpInit_self (c : Bool) : (s.shpInit q c).shaper q = (s.shaper q).init c := by
  rw [State.shpInit, State.setLevel_shaper, Tab.get_set_self]
  rfl

theorem State.shpInit_other (c : Bool) (h : a ≠ q) : (s.shpInit a c).shaper q = s.shaper q := by
  rw [State.shpInit, State.setLevel_shaper, Tab.get_set, if_neg h.symm]
  rfl

/-- The register of a shaper takes new values in. -/
def State.shpTaken (s : State) (i en grp adj rate burst : Nat) : State :=
  (((((s.set QUE_SHP.ENABLE i en).set QUE_SHP.EGROUP i grp).set QUE_SHP.LEN_ADJ i adj).set QUE_SHP.RATE i rate).set
    QUE_SHP.BURST i burst).set QUE_SHP.PENDING i 0

theorem State.shpAdopt_eq (i en grp adj rate burst : Nat) (c : Bool) :
    s.shpAdopt i en grp adj rate burst c = ((s.shpTaken i en grp adj rate burst).unstage i).shpInit i c := rfl

theorem State.shpTaken_self (en grp adj rate burst : Nat) : (s.shpTaken q en grp adj rate burst).shaper q =
    { s.shaper q with pending := 0, en := en % 2, grp := grp % 256, adj := adj % 64, rate := rate % 2 ^ 32,
                      burst := burst % 2 ^ 24 } := by
  rw [State.shaper, State.shpTaken]
  simp (disch := decide) only [State.get_set_field, State.get_set_self]
  rfl

theorem State.shpTaken_other (en grp adj rate burst : Nat) (h : a ≠ q) :
    (s.shpTaken a en grp adj rate burst).shaper q = s.shaper q := by
  have k (f : Fld) (hf : f.id < 2048) (u : State) (v : Nat) : (u.set f a v).shaper q = u.shaper q := u.shaper_set_other hf h v
  simp (disch := decide) only [State.shpTaken, k]

theorem State.shpAdopt_self (en grp adj rate burst : Nat) (c : Bool) :
    (s.shpAdopt q en grp adj rate burst c).shaper q = (s.shaper q).take en grp adj rate burst c := by
  rw [State.shpAdopt_eq, State.shpInit_self, State.unstage_shaper, Tab.get_set_self, State.shpTaken_self]
  rfl

theorem State.shpAdopt_other (en grp adj rate burst : Nat) (c : Bool) (h : a ≠ q) :
    (s.shpAdopt a en grp adj rate burst c).shaper q = s.shaper q := by
  rw [State.shpAdopt_eq, State.shpInit_other _ _ h, State.unstage_shaper, Tab.get_set, if_neg h.symm, State.shpTaken_other _ _ _ _ _ _ h]
  rfl

/-- What an adopting firing does to one shaper of the group. -/
def State.epochStep (i : Nat) (s : State) : State :=
  match Tab.get [] s.pl.shpStage i with
  | [en, grp, adj, rate, burst, ini] => s.shpAdopt i en grp adj rate burst (ini == 1)
  | _ => s.set QUE_SHP.PENDING i 0

theorem State.shpEpoch_adopt (g : Nat) : s.shpEpoch g 0 =
    s.each ((s.ones QUE_SHP.PENDING).filter (fun i => s.get QUE_SHP.EGROUP i == g)) State.epochStep := rfl

theorem State.epochStep_self : (s.epochStep q).shaper q = (s.shaper q).adopt := by
  unfold State.epochStep
  split
  case h_1 en grp adj rate burst ini h =>
    rw [State.shpAdopt_self, Shaper.adopt_of_staged (x := s.shaper q) h]
  case h_2 h =>
    rw [Shaper.adopt_of_unstaged (x := s.shaper q) (fun ⟨_, _, _, _, _, _, e⟩ => h _ _ _ _ _ _ e), State.shaper]
    simp (disch := decide) only [State.get_set_field, State.get_set_self]
    rfl

theorem State.epochStep_other (h : a ≠ q) : (s.epochStep a).shaper q = s.shaper q := by
  unfold State.epochStep
  split
  case h_1 => exact s.shpAdopt_other _ _ _ _ _ _ h
  case h_2 => exact s.shaper_set_other (by decide) h 0

end

/-! The whole firing. -/

abbrev shpMoves : List Fld := [QUE_SHP.PENDING, QUE_SHP.ENABLE, QUE_SHP.EGROUP, QUE_SHP.LEN_ADJ, QUE_SHP.RATE, QUE_SHP.BURST]

abbrev shpParts : List Part := [.levels, .shpStage]

section
variable (s : State) (i : Nat)

theorem State.shpInit_moves (c : Bool) : Moves shpMoves shpParts s (s.shpInit i c) :=
  Moves.refl.also (State.levels_moves s _) rfl rfl

theorem State.unstage_moves : Moves [] [.shpStage] s (s.unstage i) := .of_parts rfl (by rintro ⟨⟩ ⟨⟩ <;> rfl) rfl rfl

theorem State.shpTaken_moves (en grp adj rate burst : Nat) :
    Moves shpMoves [] s (s.shpTaken i en grp adj rate burst) :=
  (((((Moves.refl.also (s.set_moves QUE_SHP.ENABLE i _) rfl rfl).also (State.set_moves _ QUE_SHP.EGROUP i _) rfl rfl).also
    (State.set_moves _ QUE_SHP.LEN_ADJ i _) rfl rfl).also (State.set_moves _ QUE_SHP.RATE i _) rfl rfl).also
    (State.set_moves _ QUE_SHP.BURST i _) rfl rfl).also (State.set_moves _ QUE_SHP.PENDING i _) rfl rfl

theorem State.epochStep_moves : Moves shpMoves shpParts s (s.epochStep i) := by
  unfold State.epochStep
  split
  · exact (((s.shpTaken_moves i _ _ _ _ _).mono rfl rfl).also (State.unstage_moves _ i) rfl rfl).trans (State.shpInit_moves _ i _)
  · exact Moves.refl.also (s.set_moves QUE_SHP.PENDING i 0) rfl rfl

theorem State.shpEpoch_moves (g param : Nat) : Moves shpMoves shpParts s (s.shpEpoch g param) :=
  .ite (Moves.each .refl (fun i u => u.epochStep_moves i)) (Moves.each .refl (fun i u => u.shpInit_moves i _))

variable {s} {q g : Nat}

/-- A shaper of the group that has PENDING adopts its staged values. -/
theorem State.shpEpoch_adopts (hp : s.get QUE_SHP.PENDING q = 1) (hg : s.get QUE_SHP.EGROUP q = g) :
    (s.shpEpoch g 0).shaper q = (s.shaper q).adopt := by
  have hq : q ∈ (s.ones QUE_SHP.PENDING).filter (fun i => s.get QUE_SHP.EGROUP i == g) := by
    simp [State.mem_ones (s := s) (f := QUE_SHP.PENDING) (by decide) rfl (i := q) (by omega), hg]
  rw [State.shpEpoch_adopt, each_view (fun u => u.shaper q) Shaper.adopt Shaper.adopt_adopt (fun u => u.epochStep_self)
    (fun a u h => u.epochStep_other h), if_pos hq]

/-- A shaper of the group has its level set. -/
theorem State.shpEpoch_inits {param : Nat} (h0 : param ≠ 0) (hq : q < 8224) (hg : s.get QUE_SHP.EGROUP q = g) :
    (s.shpEpoch g param).shaper q = (s.shaper q).init (param == 2) := by
  have hm : q ∈ s.shpGroup g := by
    simp [State.shpGroup, hq, hg, mem_upto]
  rw [State.shpEpoch, if_neg h0, each_view (fun u => u.shaper q) (·.init (param == 2)) (fun x => x.init_init _)
    (fun u => u.shpInit_self _) (fun a u h => u.shpInit_other _ h), if_pos hm]

end

/-- A SHAPER_EPOCH firing shows in each shaper as its command ends. -/
theorem epochFire_exec {s : State} {i param : Nat} (hi : i < 1024) (h : s.fires i 5) (hp : s.get GAU_ENT.PARAM i = param) :
    ∃ t, finish (s.epochFire i param) = .next t ∧ s.firedIn t i ∧ ∀ q x,
      ((s.gauFire i).shpEpoch (s.get GAU_ENT.TARGET i) param).shaper q = x → t.shaper q = x := by
  obtain ⟨he, hf⟩ := gauAct_exec (act := fun t => t.shpEpoch (s.get GAU_ENT.TARGET i) param) hi h
    (State.shpEpoch_moves _ _ _) rfl rfl ((State.shpEpoch_moves _ _ _).calm rfl).trans
  refine ⟨_, ?_, hf, fun q x hx => ?_⟩
  · rw [State.epochFire, if_pos hp, he]
  · exact ((State.closed_moves _).shaper rfl rfl q).trans hx

theorem shaperEpochAdopt_adopts {s : State} {i : Fin 1024} (h : s.fires i.val 5) (hp : s.get GAU_ENT.PARAM i.val = 0) :
    ∃ t, exec (.shaperEpochAdopt i) s = .next t ∧ s.firedIn t i.val ∧
      ∀ q < 8224, s.get QUE_SHP.PENDING q = 1 → s.get QUE_SHP.EGROUP q = s.get GAU_ENT.TARGET i.val → s.adopted t q := by
  obtain ⟨t, he, hf, ht⟩ := epochFire_exec i.isLt h hp
  refine ⟨t, he, hf, fun q _ hpend hgrp => ?_⟩
  have m := s.gauFire_moves i.val
  have hq : t.shaper q = (s.shaper q).adopt := by
    rw [ht q _ (State.shpEpoch_adopts ((m.get rfl q).trans hpend) ((m.get rfl q).trans hgrp)), m.shaper rfl rfl]
  unfold State.adopted
  split
  case h_1 en grp adj rate burst ini hst =>
    rw [Shaper.adopt_of_staged (x := s.shaper q) hst] at hq
    have hl := State.level_of_init hq
    simp only [beq_iff_eq] at hl
    exact ⟨congrArg Shaper.pending hq, congrArg Shaper.en hq, congrArg Shaper.grp hq, congrArg Shaper.adj hq,
      congrArg Shaper.rate hq, congrArg Shaper.burst hq, hl⟩
  case h_2 hst =>
    rw [Shaper.adopt_of_unstaged (x := s.shaper q) (fun ⟨_, _, _, _, _, _, e⟩ => hst _ _ _ _ _ _ e)] at hq
    exact ⟨congrArg Shaper.pending hq, trivial⟩

/-- PARAM 1 sets the level of a shaper of the group to BURST, PARAM 2 to 0. -/
theorem epochFire_level {s : State} {i param : Nat} (hi : i < 1024) (h : s.fires i 5) (hp : s.get GAU_ENT.PARAM i = param)
    (h0 : param ≠ 0) : ∃ t, finish (s.epochFire i param) = .next t ∧ s.firedIn t i ∧
      ∀ q < 8224, s.get QUE_SHP.EGROUP q = s.get GAU_ENT.TARGET i →
        t.level q = if param == 2 then 0 else ((s.get QUE_SHP.BURST q * 65536 : Nat) : Int) := by
  obtain ⟨t, he, hf, ht⟩ := epochFire_exec hi h hp
  refine ⟨t, he, hf, fun q hq hgrp => ?_⟩
  have m := s.gauFire_moves i
  have hv : t.shaper q = (s.shaper q).init (param == 2) := by
    rw [ht q _ (State.shpEpoch_inits h0 hq ((m.get rfl q).trans hgrp)), m.shaper rfl rfl]
  have hb : t.get QUE_SHP.BURST q = s.get QUE_SHP.BURST q := congrArg Shaper.burst hv
  rw [State.level_of_init hv, hb]

end Sys2Proof.Machine
end

/-! KEY_DERIVE, CARRIER_START and COUNTER_SNAPSHOT (R232, R267, R439). -/
section
namespace Sys2Proof.Machine

/-! KEY_DERIVE. -/

section
variable {s t : State} (m : Moves fireMoves fireParts s t)
include m

/-- A firing leaves what a schedule's pass selects from. -/
theorem Moves.autScs (d : Dir) (j : Nat) : t.autScs d j = s.autScs d j := by
  cases d <;> simp (disch := decide) only [State.autScs, m.ones, m.on, m.get]

theorem Moves.schT0 (j : Nat) : t.schT0 j = s.schT0 j := by rw [State.schT0, m.get rfl, State.schT0]

theorem Moves.schP (j : Nat) : t.schP j = s.schP j := by rw [State.schP, m.get rfl, State.schP]

theorem Moves.schLead (j : Nat) : t.schLead j = s.schLead j := by rw [State.schLead, m.get rfl, State.schLead]

theorem Moves.epochAt (j n : Nat) : t.epochAt j n = s.epochAt j n := by
  rw [State.epochAt, m.schT0, m.schP, State.epochAt]

theorem Moves.epochStart (j n : Nat) : t.epochStart j n = s.epochStart j n := by
  rw [State.epochStart, m.schT0, m.schP, State.epochStart]

theorem Moves.autSelect (j n : Nat) (d : Dir) (c : Nat) : t.autSelect j n d c = s.autSelect j n d c := by
  have hau : t.au = s.au := m.parts .au rfl
  rw [State.autSelect, m.epochAt, m.epochStart, m.schLead, hau, State.autSelect]

theorem Moves.schRuns (j : Nat) : t.schRuns j = s.schRuns j := by
  simp (disch := decide) only [State.schRuns, m.on]

end

section
variable {s : State} {j : Nat}

theorem State.passBegin_moves (s : State) (j : Nat) : Moves [GAU_SCH.FAILS] [.au] s (s.passBegin j) :=
  .ite .refl (.ite (Moves.refl.also (s.au_moves _) rfl rfl) ((Moves.refl.also (s.set_moves GAU_SCH.FAILS j 0) rfl rfl).also
    (State.au_moves _ _) rfl rfl))

/-- The items of a pass over some channels, with none running before. -/
theorem State.mem_picked {d : Dir} {l : List Nat} {c : Nat} {x : PassItem} (hc : c ∈ l) (hx : x ∈ s.autSelect j s.now d c) :
    x ∈ (l.filter (fun c => !(false && s.reached j d c))).flatMap (fun c => s.autSelect j s.now d c) := by
  simp only [Bool.false_and, Bool.not_false, List.filter_true]
  exact List.mem_flatMap.mpr ⟨c, hc, hx⟩

/-- With no pass running a pass begins, and its items hold what each channel's selection holds. -/
theorem State.passBegin_begun (hr : s.schRuns j = true) (h0 : Tab.get 0 s.au.passStart j = 0) : s.passBegun (s.passBegin j) j := by
  have hs : (Tab.get 0 s.au.passStart j != 0) = false := by rw [h0]; rfl
  rw [State.passBegin, State.passOver, if_neg (by simp [hr])]
  simp only [hs, Bool.false_eq_true, if_false]
  refine ⟨Tab.get_set_self 0 s.au.passStart j (s.mono + 1), State.get_set_self s GAU_SCH.FAILS j 0, fun c hc x hx => ?_, fun c hc x hx => ?_⟩
  · exact List.mem_append_left _ (List.mem_append_right _ (s.mem_picked hc hx))
  · exact List.mem_append_right _ (s.mem_picked hc hx)

end

/-- A pass that begins on a state that moved as a firing does begins on the state before. -/
theorem Moves.passBegun {s t u : State} {j : Nat} (m : Moves fireMoves fireParts s t) (h : t.passBegun u j) :
    s.passBegun u j := by
  rw [State.passBegun, m.autScs, m.autScs, m.parts .mono rfl, m.parts .now rfl] at h
  obtain ⟨hs, hf, he, hi⟩ := h
  exact ⟨hs, hf, fun c hc x hx => he c hc x (by rwa [m.autSelect]),
    fun c hc x hx => hi c hc x (by rwa [m.autSelect])⟩

theorem State.gauReady_valid {s : State} {i : Nat} (h : s.gauReady i = true) : s.on TIM_STATUS.VALID 0 = true := by
  simp only [State.gauReady, Bool.and_eq_true] at h
  exact h.1.1.1.1

theorem keyDerive_begins {s : State} {i : Fin 1024} {j : Nat} (h : s.fires i.val 4) (hj : s.get GAU_ENT.TARGET i.val = j)
    (hv : s.on GAU_SCH.VALID j = true) (h0 : Tab.get 0 s.au.passStart j = 0) :
    ∃ t, exec (.keyDerive i) s = .next t ∧ s.firedIn t i.val ∧ s.passBegun t j ∧
      (s.get CHS_ENGINE.STATE 0 ≠ 2 → t.schState j = 3) := by
  have m := s.gauFire_moves i.val
  have mp := (s.gauFire i.val).passBegin_moves j
  have mc := ((s.gauFire i.val).passBegin j).closed_moves
  have hau : (s.gauFire i.val).au = s.au := m.parts .au rfl
  have hr : (s.gauFire i.val).schRuns j = true := by
    rw [m.schRuns, State.schRuns, hv, State.gauReady_valid h.2.1]
    rfl
  obtain ⟨he, hf⟩ := gauAct_exec (act := fun t => t.passBegin j) i.isLt h mp rfl rfl (mp.calm rfl).trans
  have hb : s.passBegun ((s.gauFire i.val).passBegin j).closed j := by
    obtain ⟨hs, hz, hx⟩ := m.passBegun (State.passBegin_begun hr (by rw [hau, h0]))
    rw [State.passBegun, State.closed_au, mc.get rfl]
    exact ⟨hs, hz, hx⟩
  refine ⟨_, by rw [← he, ← hj]; rfl, hf, hb, fun hn => ?_⟩
  rw [State.schState, mc.on rfl, mp.on rfl, m.on rfl, hv, mc.get rfl, mp.get rfl, m.get rfl, hb.1, if_neg (by simp), if_neg hn,
    if_pos (Nat.succ_ne_zero _)]

end Sys2Proof.Machine
end

/-! CARRIER_START and COUNTER_SNAPSHOT (R267, R439). -/
section
namespace Sys2Proof.Machine

/-! CARRIER_START: the carriers that wait get new slots, and the stream begins. -/

/-- What numbering a list's carriers anew does not touch, a test of every element does not see. -/
theorem renumber_any {α : Type} {get : α → Option CarInfo} {put : α → CarInfo → α} {p : α → Bool}
    (hp : ∀ x c, p (put x c) = p x) (l : List α) (m : Nat) : (renumber get put m l).1.any p = l.any p := by
  induction l generalizing m with
  | nil => rfl
  | cons x l ih =>
    unfold renumber
    split <;> simp [ih, hp]

/-- An event bit that has occurred reads 1. -/
theorem State.event_get_self {s : State} {f : Fld} {i n : Nat} (hf : pendMoves f = false) (hw : f.width = 1) :
    (s.event f i n).get f i = 1 := by
  unfold State.event
  split
  case isTrue h =>
    have h1 : s.get f i < 2 := by
      rw [State.get, hw]
      exact Nat.mod_lt _ (by decide)
    simp only [State.on, bne_iff_ne] at h
    omega
  case isFalse => rw [State.pend_get _ _ hf, State.get_set_self, hw]; rfl

section
variable (s : State) (k : Nat)

abbrev beginMoves : List Fld := [CAR_TX.RUNNING, CAR_TX.EV_START, ICU_PORT.WAKE]

abbrev beginParts : List Part := [.lineOut, .egress, .carTx, .ic, .out]

/-- A line port's carriers that wait take the slots from m on. -/
def State.carRenumbered (s : State) (k m : Nat) : State :=
  let a := renumber (fun (x : LineItem) => x.car) (fun x c => { x with car := some c }) m (s.lineQ k)
  let b := renumber (fun (x : EgItem) => if x.f.lp = k then x.car else none) (fun x c => { x with car := some c }) a.2
    (s.eg (regionOfLp k))
  (s.setLineQ k a.1).setEg (regionOfLp k) b.1

/-- The stream's first slot that no waiting carrier takes. -/
def State.carFirst (s : State) (k m : Nat) : Nat :=
  (renumber (fun (x : EgItem) => if x.f.lp = k then x.car else none) (fun x c => { x with car := some c })
    (renumber (fun (x : LineItem) => x.car) (fun x c => { x with car := some c }) m (s.lineQ k)).2
    (s.eg (regionOfLp k))).2

/-- The stream runs. -/
def State.carRuns (s : State) (k slot : Nat) : State :=
  ((s.set CAR_TX.RUNNING k 1).carTxEv CAR_TX.EV_START k).setCarTx k { CarTx.none with slot := slot }

theorem State.carBegin_eq (m : Nat) : s.carBegin k m = (s.carRenumbered k m).carRuns k (s.carFirst k m) := rfl

theorem State.carRenumbered_moves (m : Nat) : Moves [] [.lineOut, .egress] s (s.carRenumbered k m) :=
  (Moves.refl.also (s.setLineQ_moves k _) rfl rfl).also (State.setEg_moves _ _ _) rfl rfl

theorem State.carTxEv_moves (f : Fld) : Moves [f, ICU_PORT.WAKE] [.ic, .out] s (s.carTxEv f k) := s.event_moves f k _

theorem State.carRuns_moves (slot : Nat) : Moves beginMoves [.carTx, .ic, .out] s (s.carRuns k slot) :=
  ((Moves.refl.also (s.set_moves CAR_TX.RUNNING k 1) rfl rfl).also (State.carTxEv_moves _ k CAR_TX.EV_START) rfl rfl).also
    (State.setCarTx_moves _ k _) rfl rfl

theorem State.carBegin_moves (m : Nat) : Moves beginMoves beginParts s (s.carBegin k m) :=
  (Moves.refl.also (s.carRenumbered_moves k m) rfl rfl).also (State.carRuns_moves _ k _) rfl rfl

theorem State.carRuns_running (slot : Nat) : (s.carRuns k slot).get CAR_TX.RUNNING k = 1 := by
  rw [State.carRuns, (State.setCarTx_moves _ k _).get rfl, (State.carTxEv_moves _ k CAR_TX.EV_START).get rfl,
    State.get_set_self]
  rfl

theorem State.carRuns_event (slot : Nat) : (s.carRuns k slot).get CAR_TX.EV_START k = 1 := by
  rw [State.carRuns, (State.setCarTx_moves _ k _).get rfl]
  exact State.event_get_self rfl rfl

variable {s}

/-- Calmness lasts where no frame comes to be done and no stream to be stopping. -/
theorem State.calm_of {t : State} (he : ∀ r, (t.eg r).any (fun x => x.stat = .done) = (s.eg r).any (fun x => x.stat = .done))
    (hi : t.fr.ingress = s.fr.ingress) (hc : ∀ k, (s.carTxOf k).stopping = false → (t.carTxOf k).stopping = false)
    (ha : t.vn.alarms = s.vn.alarms) (h : s.calm = true) : t.calm = true := by
  simp only [State.calm, Bool.and_eq_true, List.all_eq_true, Bool.not_eq_true'] at h ⊢
  obtain ⟨⟨hr, hk⟩, hv⟩ := h
  refine ⟨⟨fun r hm => ?_, fun k hm => hc k (hk k hm)⟩, ha ▸ hv⟩
  rw [he, State.ig, hi]
  exact hr r hm

theorem State.carRenumbered_done (m r : Nat) : ((s.carRenumbered k m).eg r).any (fun x => x.stat = .done) =
    (s.eg r).any (fun x => x.stat = .done) := by
  rw [State.carRenumbered, State.eg, State.setEg]
  simp only [Tab.get_set]
  split
  case isTrue h => 
    rw [h]
    refine renumber_any ?_ _ _
    exact fun _ _ => rfl
  case isFalse => rfl

/-- The beginning of a stream leaves a calm device calm. -/
theorem State.carBegin_calm (m : Nat) (h : s.calm = true) : (s.carBegin k m).calm = true := by
  have mr := State.carRuns_moves (s.carRenumbered k m) k (s.carFirst k m)
  have mn := s.carRenumbered_moves k m
  rw [s.carBegin_eq]
  refine State.calm_of (fun r => ?_) ((mr.parts .ingress rfl).trans (mn.parts .ingress rfl)) (fun j hj => ?_)
    ((mr.parts .alarms rfl).trans (mn.parts .alarms rfl)) h
  · rw [eg_eq (mr.parts .egress rfl), State.carRenumbered_done]
  · rw [State.carRuns, State.carTxOf, State.setCarTx]
    simp only [Tab.get_set]
    split
    case isTrue => rfl
    case isFalse =>
      rw [(State.carTxEv_moves _ k CAR_TX.EV_START).parts .carTx rfl]
      exact (congrArg (fun x => (Tab.get CarTx.none x j).stopping) (mn.parts .carTx rfl)).trans hj

end

section
variable {s t : State} (m : Moves fireMoves fireParts s t) (k : Nat)
include m

theorem Moves.guarded : t.guarded k = s.guarded k := by
  simp (disch := decide) only [State.guarded, State.trafficMode, m.on, m.mode, m.get]

theorem Moves.gapOct : t.gapOct k = s.gapOct k := by
  simp (disch := decide) only [State.gapOct, State.lpGrid, State.lpRate, m.get]

theorem Moves.carValid : t.carValid k = s.carValid k := by
  simp (disch := decide) only [State.carValid, m.get, m.on, m.gapOct]

end

/-- Whether a CARRIER_START of a line port starts its stream (R267). -/
def State.carMayStart (s : State) (k : Nat) : Bool :=
  s.guarded k && !s.on CAR_TX.RUNNING k && s.carValid k && s.on TIM_LP.CAL_DONE k

section
variable {s : State} {k : Nat} (at_ : Nat)

theorem State.carStart_of_may (h : s.carMayStart k = true) :
    s.carStart k at_ = (s.set CAR_TX.START k (time96 (at_ + 1000 * ns))).carBegin k 0 := by
  simp only [State.carMayStart, Bool.and_eq_true] at h
  obtain ⟨⟨⟨hg, hr⟩, hv⟩, hc⟩ := h
  have hen : s.on CAR_TX.EN k = true := by
    simp only [State.guarded, Bool.and_eq_true] at hg
    exact hg.1
  simp only [State.carStart, hen, hg, hr, hv, hc, Bool.and_self, if_true]

theorem State.carStart_of_not (h : s.carMayStart k = false) : s.carStart k at_ = s.carTxEv CAR_TX.EV_REFUSED k := by
  rw [State.carStart, if_neg]
  simp only [State.carMayStart] at h
  simp only [Bool.and_assoc] at h ⊢
  simp [h]

end

theorem Moves.carMayStart {s t : State} (m : Moves fireMoves fireParts s t) (k : Nat) : t.carMayStart k = s.carMayStart k := by
  rw [State.carMayStart, m.guarded, m.on rfl, m.carValid, m.on rfl, State.carMayStart]

/-- The instant a CARRIER_START firing of entry i counts from (R267). -/
def State.carFrom (s : State) (i : Nat) : Nat := if Tab.get 0 s.ga.gauLate i ≠ 0 then s.now else s.gauDue i

theorem carrierStart_exec {s : State} {i : Fin 1024} {k : Nat} (hk : k = s.get GAU_ENT.TARGET i.val % 16) :
    exec (.carrierStart i) s = finish (s.gauAct i.val 6 (fun t => t.carStart k (s.carFrom i.val))) := by rw [hk]; rfl

theorem carrierStart_starts {s : State} {i : Fin 1024} {k : Nat} (h : s.fires i.val 6) (hk : k = s.get GAU_ENT.TARGET i.val % 16)
    (hm : s.carMayStart k = true) :
    ∃ t, exec (.carrierStart i) s = .next t ∧ s.firedIn t i.val ∧ t.get CAR_TX.RUNNING k = 1 ∧ t.get CAR_TX.EV_START k = 1 ∧
      t.get CAR_TX.START k = time96 (s.carFrom i.val + 1000 * ns) := by
  have e := State.carStart_of_may (s.carFrom i.val) (((s.gauFire_moves i.val).carMayStart k).trans hm)
  have ms := (s.gauFire i.val).set_moves CAR_TX.START k (time96 (s.carFrom i.val + 1000 * ns))
  have mb := ((s.gauFire i.val).set CAR_TX.START k (time96 (s.carFrom i.val + 1000 * ns))).carBegin_moves k 0
  have m : Moves (CAR_TX.START :: beginMoves) beginParts (s.gauFire i.val) ((s.gauFire i.val).carStart k (s.carFrom i.val)) := by
    rw [e]
    exact (ms.mono rfl rfl).also mb rfl rfl
  obtain ⟨he, hf⟩ := gauAct_exec (act := fun t => t.carStart k (s.carFrom i.val)) i.isLt h m rfl rfl (fun hc => by
    rw [e]
    exact State.carBegin_calm k 0 ((ms.calm rfl).trans hc))
  refine ⟨_, (carrierStart_exec hk).trans he, hf, ?_, ?_, ?_⟩ <;> rw [State.closed_get _ rfl, e]
  · exact State.carRuns_running _ k _
  · exact State.carRuns_event _ k _
  · rw [mb.get rfl, State.get_set_self]
    exact Nat.mod_eq_of_lt (time96_lt _)

theorem carrierStart_refused {s : State} {i : Fin 1024} {k : Nat} (h : s.fires i.val 6) (hk : k = s.get GAU_ENT.TARGET i.val % 16)
    (hm : s.carMayStart k = false) :
    ∃ t, exec (.carrierStart i) s = .next t ∧ s.firedIn t i.val ∧ t.get CAR_TX.EV_REFUSED k = 1 ∧
      t.get CAR_TX.RUNNING k = s.get CAR_TX.RUNNING k := by
  have mf := s.gauFire_moves i.val
  have e := State.carStart_of_not (s.carFrom i.val) ((mf.carMayStart k).trans hm)
  have me := (s.gauFire i.val).carTxEv_moves k CAR_TX.EV_REFUSED
  obtain ⟨he, hf⟩ := gauAct_exec (act := fun t => t.carStart k (s.carFrom i.val)) i.isLt h (e ▸ me) rfl rfl
    (fun hc => ((e ▸ me).calm rfl).trans hc)
  refine ⟨_, (carrierStart_exec hk).trans he, hf, ?_, ?_⟩ <;> rw [State.closed_get _ rfl, e]
  · exact State.event_get_self rfl rfl
  · rw [me.get rfl, mf.get rfl]

/-! COUNTER_SNAPSHOT. -/

section
variable {s : State} {source families : Nat}

theorem State.sweepStart_moves : Moves [CNT_STATUS.BUSY, CNT_STATUS.SKIPPED, ICU_PORT.WAKE] [.cn, .ic, .out] s
    (s.sweepStart true source families) := by
  unfold State.sweepStart
  split
  · exact (Moves.refl.also (s.bump_moves CNT_STATUS.SKIPPED 0 1) rfl rfl).also (State.pend_moves _ 0x461) rfl rfl
  · exact (Moves.refl.also (s.set_moves CNT_STATUS.BUSY 0 1) rfl rfl).also (State.cn_moves _ _) rfl rfl

theorem State.sweepStart_begins (h : s.cn.sweep = none) :
    (s.sweepStart true source families).get CNT_STATUS.BUSY 0 = 1 ∧
      (s.sweepStart true source families).cn.sweep.isSome = true ∧
      (s.sweepStart true source families).cn.sweeps = s.cn.sweeps + 1 := by
  rw [State.sweepStart, h]
  exact ⟨State.get_set_self s CNT_STATUS.BUSY 0 1, rfl, rfl⟩

theorem State.sweepStart_skips (h : s.cn.sweep.isSome = true) : (s.sweepStart true source families).get CNT_STATUS.SKIPPED 0 =
    min (s.get CNT_STATUS.SKIPPED 0 + 1) (2 ^ CNT_STATUS.SKIPPED.width - 1) := by
  obtain ⟨w, hw⟩ := Option.isSome_iff_exists.mp h
  rw [State.sweepStart, hw]
  refine (State.pend_get _ _ rfl _).trans ((State.get_set_self _ _ _ _).trans (Nat.mod_eq_of_lt ?_))
  exact (Nat.min_le_right _ _).trans_lt (by decide)

end

theorem counterSnapshot_sweeps {s : State} {i : Fin 1024} (h : s.fires i.val 7) :
    (s.cn.sweep = none →
      ∃ t, exec (.counterSnapshot i) s = .next t ∧ s.firedIn t i.val ∧ t.get CNT_STATUS.BUSY 0 = 1 ∧
        t.cn.sweep.isSome = true ∧ t.cn.sweeps = s.cn.sweeps + 1) ∧
    (s.cn.sweep.isSome = true →
      ∃ t, exec (.counterSnapshot i) s = .next t ∧ s.firedIn t i.val ∧
        t.get CNT_STATUS.SKIPPED 0 = min (s.get CNT_STATUS.SKIPPED 0 + 1) (2 ^ CNT_STATUS.SKIPPED.width - 1)) := by
  have mf := s.gauFire_moves i.val
  have hcn : (s.gauFire i.val).cn = s.cn := mf.parts .cn rfl
  obtain ⟨he, hf⟩ := gauAct_exec (act := fun t => t.sweepStart true i.val (s.get GAU_ENT.TARGET i.val)) i.isLt h
    State.sweepStart_moves rfl rfl (State.sweepStart_moves.calm rfl).trans
  refine ⟨fun hn => ?_, fun hs => ?_⟩
  · obtain ⟨h1, h2, h3⟩ := (s.gauFire i.val).sweepStart_begins (source := i.val) (families := s.get GAU_ENT.TARGET i.val)
      (hcn ▸ hn)
    refine ⟨_, he, hf, ?_, ?_, ?_⟩
    · rw [State.closed_get _ rfl, h1]
    · rw [State.closed_cn, h2]
    · rw [State.closed_cn, h3, hcn]
  · refine ⟨_, he, hf, ?_⟩
    rw [State.closed_get _ rfl, State.sweepStart_skips (hcn ▸ hs), mf.get rfl]

end Sys2Proof.Machine
end

/-! MODE_OVERLAY (R45, R47, R141, R471), and the Gauge's engine actions together. -/
section
namespace Sys2Proof.Machine

/-! A firing leaves what a request is evaluated on. -/

section
variable {s t : State} (m : Moves fireMoves fireParts s t)
include m

theorem Moves.reqQuiet : t.reqQuiet = s.reqQuiet := by
  have hmd : t.md = s.md := m.parts .md rfl
  have hmono : t.mono = s.mono := m.parts .mono rfl
  rw [State.reqQuiet, State.kclk, hmd, hmono, State.reqQuiet, State.kclk]

theorem Moves.degSafe (h : s.degSafe) : t.degSafe := by
  have hmd : t.md = s.md := m.parts .md rfl
  rwa [State.degSafe, m.degraded rfl, m.mode rfl, hmd]

theorem Moves.allowListed (k : Nat) : t.allowListed k = s.allowListed k := by
  simp (disch := decide) only [State.allowListed, m.on, m.get]

theorem Moves.deepReady : t.deepReady = s.deepReady := by
  have hv : ({ t.vn with alarms := 0 } : VnrS) = { s.vn with alarms := 0 } := m.parts .deep rfl
  have hp : t.vn.capPages = s.vn.capPages := (congrArg VnrS.capPages hv :)
  simp (disch := decide) only [State.deepReady, State.dataPages, m.on, m.get, hp]

theorem Moves.failedGuard (a b : Bool) : t.failedGuard a b = s.failedGuard a b := by
  simp (disch := decide) only [State.failedGuard, m.on, m.get, m.ones, m.carValid, m.allowListed, m.deepReady]

end

theorem modeOverlay_exec {s : State} {i : Fin 1024} {m : Nat} (h : s.fires i.val 2) (hm : s.get GAU_ENT.TARGET i.val = m)
    (hq : s.reqQuiet = true) :
    exec (.modeOverlay i) s = .next ((s.gauFire i.val).modeRequest m 2 3 (prioGauge i.val)).closed ∧
      s.firedIn ((s.gauFire i.val).modeRequest m 2 3 (prioGauge i.val)).closed i.val := by
  have mr : Moves reqMoves [.md] (s.gauFire i.val) ((s.gauFire i.val).modeRequest m 2 3 (prioGauge i.val)) := by
    rw [State.modeRequest_of_quiet ((s.gauFire_moves i.val).reqQuiet.trans hq)]
    exact State.reqKeep_moves _ _ _
  subst hm
  exact gauAct_exec (act := fun t => t.modeRequest _ 2 3 (prioGauge i.val)) i.isLt h mr rfl rfl (mr.calm rfl).trans

theorem modeOverlay_resolves {s : State} {i : Fin 1024} {m g : Nat} {legal : Bool} (h : s.fires i.val 2)
    (hm : s.get GAU_ENT.TARGET i.val = m) (hquiet : s.reqQuiet = true) (hsafe : s.degSafe) (htrans : s.md.trans = none)
    (hlegal : legal = requestRows.contains (s.mode, m))
    (hg : g = s.failedGuard (decide (s.mode = mSTANDBY)) (decide (m = mGUARDED))) :
    ((m = s.mode ∨ (s.mode = mDEGRADED ∧ m = s.get GLB_MODE.BASE 0)) →
      ∃ t, exec (.modeOverlay i) s = .next t ∧ s.firedIn t i.val ∧ t.get GLB_MODE_REQ.SRC 0 = 2 ∧
        t.get GLB_MODE_REQ.RESULT 0 = 2 ∧ t.md.trans = none) ∧
    (m ≠ s.mode → ¬(s.mode = mDEGRADED ∧ m = s.get GLB_MODE.BASE 0) →
      (legal = true → g = 0 →
        ∃ t, exec (.modeOverlay i) s = .next t ∧ s.firedIn t i.val ∧ t.get GLB_MODE_REQ.SRC 0 = 2 ∧
          t.get GLB_MODE_REQ.RESULT 0 = 1 ∧
          t.md.trans = some ⟨m, m, 3, if m = mGUARDED ∧ s.mode ≠ mSECURE then [3, 4] else [m]⟩) ∧
      (legal = true → g ≠ 0 →
        ∃ t, exec (.modeOverlay i) s = .next t ∧ s.firedIn t i.val ∧ t.get GLB_MODE_REQ.SRC 0 = 2 ∧
          t.get GLB_MODE_REQ.RESULT 0 = 3 ∧ t.get GLB_MODE_REQ.GUARD 0 = g ∧ t.md.trans = none) ∧
      (legal = false →
        ∃ t, exec (.modeOverlay i) s = .next t ∧ s.firedIn t i.val ∧ t.get GLB_MODE_REQ.SRC 0 = 2 ∧
          t.get GLB_MODE_REQ.RESULT 0 = 4 ∧ t.md.trans = none)) := by
  obtain ⟨he, hf⟩ := modeOverlay_exec h hm hquiet
  have mf := s.gauFire_moves i.val
  have hq := mf.reqQuiet.trans hquiet
  have hd := mf.degSafe hsafe
  have ht : (s.gauFire i.val).md.trans = none := (congrArg ModeS.trans (mf.parts .md rfl)).trans htrans
  have hmode := mf.mode rfl
  rw [← mf.failedGuard, ← hmode] at hg
  rw [← hmode] at hlegal
  rw [← hmode, ← mf.get (f := GLB_MODE.BASE) rfl]
  have hs : (2 : Nat) < 2 ^ 3 := by decide
  refine ⟨fun hsame => ?_, fun hne hnb => ?_⟩
  · obtain ⟨h1, h2, -, h4⟩ := State.modeRequest_answers (prio := prioGauge i.val) hq hd ht
      (State.evalReq_of_same (r := ⟨m, 2, 3⟩) hsame) (by decide) hs (by decide)
    exact ⟨_, he, hf, h2, h1, h4⟩
  · have hn := not_or.mpr ⟨hne, hnb⟩
    refine ⟨fun hl h0 => ?_, fun hl h0 => ?_, fun hl => ?_⟩
    · obtain ⟨h1, h2, h3⟩ := State.modeRequest_begins (prio := prioGauge i.val) hq hd ht
        (State.evalReq_of_legal (r := ⟨m, 2, 3⟩) hn (hlegal ▸ hl) (hg ▸ h0)) hs
      exact ⟨_, he, hf, h2, h1, h3⟩
    · obtain ⟨h1, h2, h3, h4⟩ := State.modeRequest_answers (prio := prioGauge i.val) hq hd ht
        (State.evalReq_of_guard (r := ⟨m, 2, 3⟩) hn (hlegal ▸ hl) hg h0) (by decide) hs (hg ▸ State.failedGuard_lt _ _ _)
      exact ⟨_, he, hf, h2, h1, h3, h4⟩
    · obtain ⟨h1, h2, -, h4⟩ := State.modeRequest_answers (prio := prioGauge i.val) hq hd ht
        (State.evalReq_of_illegal (r := ⟨m, 2, 3⟩) hn (hlegal ▸ hl)) (by decide) hs (by decide)
      exact ⟨_, he, hf, h2, h1, h4⟩

/-- Settles O29: each action runs on the state that its entry's firing leaves, and the firing moves nothing that the action
looks at. -/
theorem gaugeEngineActionsAndShapers : Obligations.GaugeEngineActionsAndShapers := by
  refine ⟨⟨fun s i j h hj hv h0 => keyDerive_begins h hj hv h0, fun s i h => ⟨shaperEpochAdopt_adopts h, fun hp => ?_, fun hp => ?_⟩,
    ?_, fun s i h => counterSnapshot_sweeps h⟩, fun s i m g legal h hm _ hq hd ht _ _ hl hg => modeOverlay_resolves h hm hq hd ht hl hg⟩
  · exact epochFire_level i.isLt h hp one_ne_zero
  · exact epochFire_level i.isLt h hp two_ne_zero
  · rintro s i k ok h hk rfl
    exact ⟨fun hm => carrierStart_starts h hk hm, fun hm => carrierStart_refused h hk hm⟩

end Sys2Proof.Machine
end

/-! Masked fields of the egress classifier (R65). -/
section
namespace Sys2Proof.Machine

/-- A masked field matches when the two numbers agree on every bit that the mask covers. -/
theorem masked_iff (mask a b : Nat) : masked mask a b = true ↔ ∀ k, bit mask k = true → bit a k = bit b k := by
  simp only [masked, beq_iff_eq, bit_eq_testBit]
  constructor
  · intro h k hk
    have hbit := congrArg (·.testBit k) h
    simpa [Nat.testBit_and, hk] using hbit
  · intro h
    refine Nat.eq_of_testBit_eq (fun k => ?_)
    rw [Nat.testBit_and, Nat.testBit_and]
    cases hk : mask.testBit k
    · rfl
    · rw [h k hk]

/-- The masked fields of rule i, each with its mask and the value that a frame of host port hp with header h has there. -/
def egrMasked (hp : Nat) (h : Hdr) : List (Fld × Fld × Nat) :=
  [(CLS_EGR.HPORT_MASK, CLS_EGR.HPORT, hp), (CLS_EGR.DA_MASK, CLS_EGR.DA, h.da), (CLS_EGR.SA_MASK, CLS_EGR.SA, h.sa),
    (CLS_EGR.ETYPE_MASK, CLS_EGR.ETYPE, h.etype), (CLS_EGR.VID_MASK, CLS_EGR.VID, h.vid),
    (CLS_EGR.PCP_MASK, CLS_EGR.PCP, h.pcp)]

theorem State.egrMatch_iff (s : State) (hp i : Nat) (h : Hdr) : s.egrMatch hp h i = true ↔
    s.on CLS_EGR.VALID i = true ∧ (s.on CLS_EGR.TAGGED_CARE i = true → s.on CLS_EGR.TAGGED i = h.tagged) ∧
    ∀ x ∈ egrMasked hp h, ∀ k, bit (s.get x.1 i) k = true → bit (s.get x.2.1 i) k = bit x.2.2 k := by
  have hc : (!s.on CLS_EGR.TAGGED_CARE i || s.on CLS_EGR.TAGGED i == h.tagged) = true ↔
      (s.on CLS_EGR.TAGGED_CARE i = true → s.on CLS_EGR.TAGGED i = h.tagged) := by
    cases s.on CLS_EGR.TAGGED_CARE i <;> simp
  simp only [State.egrMatch, Bool.and_eq_true, hc, masked_iff, egrMasked, List.mem_cons, List.not_mem_nil, or_false,
    forall_eq_or_imp, forall_eq]
  constructor
  · rintro ⟨⟨⟨⟨⟨⟨⟨hvalid, hport⟩, hda⟩, hsa⟩, hetype⟩, hvid⟩, hpcp⟩, hcare⟩
    exact ⟨hvalid, hcare, hport, hda, hsa, hetype, hvid, hpcp⟩
  · rintro ⟨hvalid, hcare, hport, hda, hsa, hetype, hvid, hpcp⟩
    exact ⟨⟨⟨⟨⟨⟨⟨hvalid, hport⟩, hda⟩, hsa⟩, hetype⟩, hvid⟩, hpcp⟩, hcare⟩

/-- An untagged frame has VID 0 and PCP 0. -/
theorem hdrOf_untagged {d : List Octet} (h : (hdrOf d).tagged = false) : (hdrOf d).vid = 0 ∧ (hdrOf d).pcp = 0 := by
  have ht : isTag (be16 d 12) = false := h
  simp [hdrOf, ht]

/-- A rule whose own VID and PCP are 0 goes on matching a frame that has VID 0 and PCP 0, whatever masks they get. -/
theorem State.egrMatch_remasked {s : State} {hp i : Nat} {h : Hdr} (hm : s.egrMatch hp h i = true)
    (hh : h.vid = 0 ∧ h.pcp = 0) (hv : s.get CLS_EGR.VID i = 0) (hq : s.get CLS_EGR.PCP i = 0) (v q : Nat) :
    ((s.set CLS_EGR.VID_MASK i v).set CLS_EGR.PCP_MASK i q).egrMatch hp h i = true := by
  obtain ⟨hvalid, hcare, hmask⟩ := (s.egrMatch_iff hp i h).mp hm
  refine (State.egrMatch_iff _ hp i h).mpr ?_
  simp only [egrMasked, List.mem_cons, List.not_mem_nil, or_false, forall_eq_or_imp, forall_eq] at hmask ⊢
  obtain ⟨hport, hda, hsa, hetype, -, -⟩ := hmask
  simp (disch := decide) only [State.on, State.get_set_field]
  exact ⟨hvalid, hcare, hport, hda, hsa, hetype, fun k _ => by rw [hv, hh.1], fun k _ => by rw [hq, hh.2]⟩

/-- Settles O59: a match is agreement under each mask, and a mask over bits that are 0 in both the rule and the frame asks
nothing. -/
theorem maskedFieldsMatch : Obligations.MaskedFieldsMatch := by
  refine ⟨masked_iff, fun a b => by simp [masked], fun s hp i h => s.egrMatch_iff hp i h, fun s hp i d ht => ?_⟩
  obtain ⟨hv, hq⟩ := hdrOf_untagged ht
  exact ⟨hv, hq, fun hm _ v q hv0 hq0 => State.egrMatch_remasked hm ⟨hv, hq⟩ hv0 hq0 v q⟩

end Sys2Proof.Machine
end

/-! A word of an entry, written by the access codes of its fields (R4, R9, R451). -/
section
namespace Sys2Proof.Machine

/-! Bits of a number of which some have been replaced. -/

theorem testBit_bits (v lo w k : Nat) : (bits v lo w).testBit k = (decide (k < w) && v.testBit (lo + k)) := by
  rw [bits, Nat.testBit_mod_two_pow, Nat.testBit_div_two_pow, Nat.add_comm k lo]

theorem bits_lt (v lo w : Nat) : bits v lo w < 2 ^ w := Nat.mod_lt _ (by positivity)

theorem bits_putBits_same (a lo w x : Nat) : bits (putBits a lo w x) lo w = x % 2 ^ w := by
  refine Nat.eq_of_testBit_eq (fun k => ?_)
  rw [testBit_bits, testBit_putBits, Nat.testBit_mod_two_pow]
  by_cases hk : k < w <;> simp [hk]

theorem bits_putBits_apart {lo w lo' w' : Nat} (h : lo + w ≤ lo' ∨ lo' + w' ≤ lo) (a x : Nat) :
    bits (putBits a lo w x) lo' w' = bits a lo' w' := by
  refine Nat.eq_of_testBit_eq (fun k => ?_)
  rw [testBit_bits, testBit_bits, testBit_putBits]
  by_cases hk : k < w'
  · rcases h with h | h
    · rw [if_neg (by omega), if_neg (by omega)]
    · rw [if_pos (by omega)]
  · simp [hk]

theorem bits_mod {lo w n : Nat} (h : lo + w ≤ n) (a : Nat) : bits (a % 2 ^ n) lo w = bits a lo w := by
  refine Nat.eq_of_testBit_eq (fun k => ?_)
  rw [testBit_bits, testBit_bits, Nat.testBit_mod_two_pow]
  by_cases hk : k < w
  · simp [hk, show lo + k < n by omega]
  · simp [hk]

theorem putBits_whole {a w x : Nat} (ha : a < 2 ^ w) (hx : x < 2 ^ w) : putBits a 0 w x = x := by
  simp [putBits, Nat.div_eq_of_lt ha, Nat.mod_eq_of_lt hx, Nat.mod_one]

theorem bits_shift {lo w b : Nat} (hb : b < 2 ^ w) : bits (b * 2 ^ lo) lo w = b := by
  rw [bits, Nat.mul_div_cancel _ (by positivity), Nat.mod_eq_of_lt hb]

/-! The shares that fields have in a word. -/

/-- A field's share of a word: the field, the share's lowest bit in it, its lowest bit in the word, and its width. -/
abbrev Share : Type := Fld × Nat × Nat × Nat

/-- No two fields of a register have one number. -/
abbrev Reg.distinct (r : Reg) : Prop := (r.fields.map (fun x => x.2.id % 2048)).Nodup

/-- A read-write field with no reserved encoding and no reserved bit. -/
def Fld.plain (f : Fld) : Bool :=
  f.acc = .rw && f.legal.isEmpty && f.id != TIM_STEP.VAL.id && f.id != GAU_ENT.DUE.id

theorem Reg.mem_inWord {r : Reg} {w : Nat} {x : Share} :
    x ∈ r.inWord w ↔ ∃ lo, (lo, x.1) ∈ r.fields ∧ overlap lo x.1.width w = some x.2 := by
  obtain ⟨f, o⟩ := x
  simp only [Reg.inWord, List.mem_filterMap, Option.map_eq_some_iff, Prod.exists, Prod.mk.injEq]
  constructor
  · rintro ⟨lo, g, hm, a, b, c, ho, rfl, rfl⟩
    exact ⟨lo, hm, ho⟩
  · rintro ⟨lo, hm, ho⟩
    exact ⟨lo, f, hm, o.1, o.2.1, o.2.2, ho, rfl, rfl⟩

theorem Reg.fields_of_inWord {r : Reg} {w : Nat} {x : Share} (h : x ∈ r.inWord w) : ∃ lo, (lo, x.1) ∈ r.fields := by
  obtain ⟨lo, hm, -⟩ := Reg.mem_inWord.mp h
  exact ⟨lo, hm⟩

/-- Where a share lies: inside its field, and inside its word of the entry. -/
theorem overlap_some {lo width w a b c : Nat} (h : overlap lo width w = some (a, b, c)) :
    a + c ≤ width ∧ b + c ≤ 32 ∧ lo + a = 32 * w + b := by
  simp only [overlap] at h
  split at h
  · simp only [Option.some.injEq, Prod.mk.injEq] at h
    omega
  · cases h

theorem Reg.inWord_nodup {r : Reg} (h : r.distinct) (w : Nat) : ((r.inWord w).map (fun x => x.1.id % 2048)).Nodup := by
  refine List.Nodup.sublist ?_ h
  have e : (r.inWord w).map (fun x => x.1.id % 2048) = r.fields.filterMap
      (fun x => (overlap x.1 x.2.width w).map (fun _ => x.2.id % 2048)) := by
    simp [Reg.inWord, List.map_filterMap, Function.comp_def]
  rw [e]
  generalize r.fields = l
  induction l with
  | nil => exact List.Sublist.refl _
  | cons y l ih =>
    cases ho : overlap y.1 y.2.width w
    · simpa [ho] using ih.cons _
    · simpa [ho] using ih

/-- Two fields of one number are one field, at one place. -/
theorem Reg.distinct.unique {r : Reg} (h : r.distinct) {x y : Nat × Fld} (hx : x ∈ r.fields) (hy : y ∈ r.fields)
    (e : x.2.id % 2048 = y.2.id % 2048) : x = y := List.inj_on_of_nodup_map h hx hy e

/-! A word is written share by share. -/

/-- One share of a word write. -/
def State.putShare (i v : Nat) (x : Share) (s : State) : State := (s.writeField x.1 i x.2.1 x.2.2.1 x.2.2.2 v).1

theorem State.writeWord_eq_each (s : State) (r : Reg) (i w v : Nat) :
    (s.writeWord r i w v).1 = s.each (r.inWord w) (State.putShare i v) := by
  have h : ∀ (l : List Share) (a : State × Bool), (l.foldl (fun (a : State × Bool) x =>
      let b := a.1.writeField x.1 i x.2.1 x.2.2.1 x.2.2.2 v
      (b.1, a.2 || b.2)) a).1 = a.1.each l (State.putShare i v) := by
    intro l
    induction l with
    | nil => exact fun _ => rfl
    | cons x l ih => exact fun a => ih _
  exact h _ _

theorem State.putShare_moves (i v : Nat) (x : Share) (s : State) : Moves [x.1] [] s (s.putShare i v x) :=
  s.writeField_moves _ _ _ _ _ _

/-- Operations on the elements of a list move what each may move. -/
theorem Moves.each_mem {α : Type} {fs : List Fld} {ps : List Part} {s t : State} (m : Moves fs ps s t) {l : List α}
    {g : α → State → State} (h : ∀ a ∈ l, ∀ u, Moves fs ps u (g a u)) : Moves fs ps s (t.each l g) := by
  induction l generalizing t with
  | nil => exact m
  | cons a l ih => exact ih (m.trans (h a List.mem_cons_self t)) (fun b hb => h b (List.mem_cons_of_mem _ hb))

/-- What no operation on an element of a list changes, the operations on all of them do not change. -/
theorem State.each_keep_mem {α β : Type} (φ : State → β) {l : List α} {g : α → State → State}
    (h : ∀ a ∈ l, ∀ u, φ (g a u) = φ u) (s : State) : φ (s.each l g) = φ s := by
  induction l generalizing s with
  | nil => rfl
  | cons a l ih =>
    exact (ih (fun b hb => h b (List.mem_cons_of_mem _ hb)) (g a s)).trans (h a List.mem_cons_self s)

/-- A word write moves only fields of its register. -/
theorem State.writeWord_moves (s : State) (r : Reg) (i w v : Nat) :
    Moves (r.fields.map (·.2)) [] s (s.writeWord r i w v).1 := by
  rw [s.writeWord_eq_each]
  refine Moves.each_mem .refl (fun x hx u => (u.putShare_moves i v x).mono ?_ rfl)
  obtain ⟨lo, hm⟩ := Reg.fields_of_inWord hx
  simp only [List.all_cons, List.all_nil, Bool.and_true, listed, List.any_map, List.any_eq_true]
  exact ⟨_, hm, by simp⟩

/-! What a share reads after the write of its word. -/

/-- After the write of a word a field reads as its own share of the write left it: no other share moves it. -/
theorem State.writeWord_share {r : Reg} (hd : r.distinct) {w : Nat} {x : Share} (hx : x ∈ r.inWord w) (s : State) (i v : Nat) :
    ∃ u : State, (s.writeWord r i w v).1.get x.1 i = (u.putShare i v x).get x.1 i := by
  have hn := r.inWord_nodup hd w
  rw [s.writeWord_eq_each]
  generalize r.inWord w = l at hx hn
  induction l generalizing s with
  | nil => cases hx
  | cons y l ih =>
    rw [List.map_cons, List.nodup_cons] at hn
    obtain ⟨hy, hn⟩ := hn
    rcases List.mem_cons.mp hx with rfl | hx
    · have m : Moves (l.map (·.1)) [] (s.putShare i v x) ((s.putShare i v x).each l (State.putShare i v)) := by
        refine Moves.each_mem .refl (fun z hz u => (u.putShare_moves i v z).mono ?_ rfl)
        simp only [List.all_cons, List.all_nil, Bool.and_true, listed, List.any_map, List.any_eq_true]
        exact ⟨z, hz, by simp⟩
      refine ⟨s, m.get ?_ i⟩
      simp only [listed, List.any_map, List.any_eq_false, Function.comp_apply, beq_iff_eq]
      exact fun z hz e => hy (List.mem_map.mpr ⟨z, hz, e⟩)
    · exact ih (s.putShare i v y) hx hn

/-- What a read-write field reads that its word holds whole: what is written there, or its reset value for a reserved
encoding. -/
theorem State.writeWord_whole {r : Reg} (hd : r.distinct) {w wlo : Nat} {f : Fld} (hx : (f, 0, wlo, f.width) ∈ r.inWord w)
    (ha : f.acc = .rw) (hc : f.id ≠ TIM_STEP.VAL.id ∧ f.id ≠ GAU_ENT.DUE.id) (s : State) (i v : Nat) :
    (s.writeWord r i w v).1.get f i =
      if f.allows (bits v wlo f.width) then bits v wlo f.width else f.reset % 2 ^ f.width := by
  obtain ⟨u, hu⟩ := s.writeWord_share hd hx i v
  have hb := bits_lt v wlo f.width
  have hp : f.clean (putBits (u.get f i) 0 f.width (bits v wlo f.width)) = bits v wlo f.width := by
    rw [Fld.clean, if_neg (by simpa using hc), putBits_whole (u.get_lt f i) hb]
  rw [hu, State.putShare, State.writeField, ha]
  simp only [hp]
  split
  · rw [State.get_set_self, Nat.mod_eq_of_lt hb]
  · rw [State.get_set_self]

/-- A share of a plain field takes its bits of what is written, and leaves the field's other bits. -/
theorem State.putShare_plain {x : Share} (h : x.1.plain = true) (s : State) (i v : Nat) :
    s.putShare i v x = s.set x.1 i (putBits (s.get x.1 i) x.2.1 x.2.2.2 (bits v x.2.2.1 x.2.2.2)) := by
  simp only [Fld.plain, Bool.and_eq_true, decide_eq_true_eq, bne_iff_ne, ne_eq] at h
  obtain ⟨⟨⟨ha, hl⟩, h1⟩, h2⟩ := h
  rw [State.putShare, State.writeField, ha]
  simp only [Fld.clean, h1, h2, or_self, if_false, Fld.allows, hl, Bool.true_or, if_true]

/-- A plain field's share of the word that is written reads what is written there. -/
theorem State.writeWord_share_same {r : Reg} (hd : r.distinct) {w : Nat} {x : Share} (hx : x ∈ r.inWord w)
    (hp : x.1.plain = true) (s : State) (i v : Nat) :
    bits ((s.writeWord r i w v).1.get x.1 i) x.2.1 x.2.2.2 = bits v x.2.2.1 x.2.2.2 := by
  obtain ⟨u, hu⟩ := s.writeWord_share hd hx i v
  obtain ⟨lo, -, ho⟩ := Reg.mem_inWord.mp hx
  rw [hu, State.putShare_plain hp, State.get_set_self, bits_mod (overlap_some ho).1, bits_putBits_same,
    Nat.mod_eq_of_lt (bits_lt _ _ _)]

/-- A plain field's share of another word stays. -/
theorem State.writeWord_share_other {r : Reg} (hd : r.distinct) {w w' : Nat} (hw : w ≠ w') {x : Share} (hx : x ∈ r.inWord w')
    (hp : x.1.plain = true) (s : State) (i v : Nat) :
    bits ((s.writeWord r i w v).1.get x.1 i) x.2.1 x.2.2.2 = bits (s.get x.1 i) x.2.1 x.2.2.2 := by
  obtain ⟨f, a, b, c⟩ := x
  obtain ⟨lo, hm, ho⟩ := Reg.mem_inWord.mp hx
  rw [s.writeWord_eq_each]
  refine State.each_keep_mem (fun u => bits (u.get f i) a c) (fun y hy u => ?_) s
  obtain ⟨g, a', b', c'⟩ := y
  obtain ⟨lo', hm', ho'⟩ := Reg.mem_inWord.mp hy
  by_cases e : f.id % 2048 = g.id % 2048
  · obtain ⟨rfl, rfl⟩ := Prod.mk.inj (hd.unique hm hm' e)
    obtain ⟨h1, h2, h3⟩ := overlap_some ho
    obtain ⟨-, h2', h3'⟩ := overlap_some ho'
    rw [State.putShare_plain (x := (f, a', b', c')) hp, State.get_set_self, bits_mod h1]
    exact bits_putBits_apart (lo := a') (w := c') (by omega) _ _
  · rw [(u.putShare_moves i v (g, a', b', c')).get (by simpa [listed] using fun e' => e e'.symm)]

/-! Words that read as they were written (R4, R451). -/

/-- A register's word of plain fields only. -/
def Reg.plainIn (r : Reg) (w : Nat) : Bool := (r.inWord w).all (fun x => x.1.plain)

/-- Two words of fields alone are one where every field's share is. -/
theorem State.readFields_congr {s t : State} {r : Reg} {i w : Nat}
    (h : ∀ x ∈ r.inWord w, bits (t.get x.1 i) x.2.1 x.2.2.2 = bits (s.get x.1 i) x.2.1 x.2.2.2) :
    t.readFields r i w = s.readFields r i w := by
  unfold State.readFields
  exact List.foldl_ext _ _ _ (fun a x hx => by rw [h x hx])

/-- The written word of plain fields reads what the entry keeps of the value. -/
theorem State.writeWord_readFields_same {r : Reg} (hd : r.distinct) {w : Nat} (hp : r.plainIn w = true) (s : State) (i v : Nat) :
    (s.writeWord r i w v).1.readFields r i w = r.keeps w v := by
  unfold State.readFields Reg.keeps
  refine List.foldl_ext _ _ _ (fun a x hx => ?_)
  have hx' := List.all_eq_true.mp hp x hx
  have hs := State.writeWord_share_same hd hx hx' s i v
  simp only [Fld.plain, Bool.and_eq_true, decide_eq_true_eq, bne_iff_ne, ne_eq] at hx'
  obtain ⟨⟨⟨ha, -⟩, h1⟩, h2⟩ := hx'
  rw [if_neg (by simp [ha]), if_pos ha, hs, Fld.clean, if_neg (by simp [h1, h2]), bits_shift (bits_lt _ _ _)]

/-- Another word of plain fields reads as before. -/
theorem State.writeWord_readFields_other {r : Reg} (hd : r.distinct) {w w' : Nat} (hw : w ≠ w') (hp : r.plainIn w' = true)
    (s : State) (i v : Nat) : (s.writeWord r i w v).1.readFields r i w' = s.readFields r i w' :=
  State.readFields_congr (fun x hx => State.writeWord_share_other hd hw hx (List.all_eq_true.mp hp x hx) s i v)

end Sys2Proof.Machine
end

/-! Held words and the commit of an entry (R66, R451). -/
section
namespace Sys2Proof.Machine

/-! What stands before an admitted access moves little. -/

/-- Fields that the hints of an access move. -/
abbrev hintMoves : List Fld := [ICU_PORT.WAKE, ICU_PORT.SLEEPING, ICU_PORT.IDLE, ICU_PORT.SLEEP]

theorem State.granted_moves (s : State) (p : Nat) (bar2 : Bool) : Moves hintMoves [.ic, .out, .ofc] s (s.granted p bar2) := by
  have h : Moves hintMoves [.ic, .out, .ofc] s (s.mmio p) := (Moves.touchKeeps s rfl rfl).mmio
    (fun u p v m => m.also (u.set_moves ICU_PORT.SLEEPING p v) rfl rfl) (fun u p v m => m.also (u.set_moves ICU_PORT.IDLE p v) rfl rfl)
    (fun u p v m => m.also (u.set_moves ICU_PORT.SLEEP p v) rfl rfl) .refl p
  exact .ite (h.also (State.ofc_moves _ _) rfl rfl) h

theorem State.granted_heldOf (s : State) (p : Nat) (bar2 : Bool) (w : Writer) (rid : RegId) :
    (s.granted p bar2).heldOf w rid = s.heldOf w rid := by
  simp [State.heldOf, State.granted]

theorem State.closed_heldOf (s : State) (w : Writer) (rid : RegId) : s.closed.heldOf w rid = s.heldOf w rid := by
  rw [State.heldOf, State.closed_ac, State.heldOf]

/-! A word is held (R451). -/

theorem State.ac_moves (s : State) (x : AccS) : Moves [] [.ac] s { s with ac := x } :=
  .of_parts rfl (by rintro ⟨⟩ ⟨⟩ <;> rfl) rfl rfl

/-- Held words of another entry are discarded, and that counts. -/
def State.holdCleared (s : State) (w : Writer) (pl : Place) (off : Nat) : State :=
  match s.heldOf w pl.reg.rid with
  | some h => if h.idx = pl.idx then s else s.reject w 5 pl.reg.bar2 off
  | none => s

/-- The words of its own entry that a writer holds. -/
def State.heldWords (s : State) (w : Writer) (pl : Place) : List (Nat × Nat) :=
  match s.heldOf w pl.reg.rid with
  | some h => if h.idx = pl.idx then h.words else []
  | none => []

theorem State.hold_eq (s : State) (w : Writer) (pl : Place) (v off : Nat) :
    ∃ x, s.hold w pl v off = { s.holdCleared w pl off with ac := x } := ⟨_, rfl⟩

theorem State.holdCleared_moves (s : State) (p : Nat) (pl : Place) (off : Nat) :
    Moves rejectMoves [.ic, .out, .wraps] s (s.holdCleared (.port p) pl off) := by
  unfold State.holdCleared
  split
  · exact .ite .refl (s.reject_moves p 5 _ off)
  · exact .refl

theorem State.hold_moves (s : State) (p : Nat) (pl : Place) (v off : Nat) :
    Moves rejectMoves [.ic, .out, .wraps, .ac] s (s.hold (.port p) pl v off) := by
  obtain ⟨x, hx⟩ := s.hold_eq (.port p) pl v off
  rw [hx]
  exact ((s.holdCleared_moves p pl off).mono rfl rfl).also (State.ac_moves _ x) rfl rfl

theorem State.heldOf_dropHeld (s : State) (w : Writer) (rid : RegId) : (s.dropHeld w rid).heldOf w rid = none := by
  simp [State.heldOf, State.dropHeld]

theorem State.hold_heldOf (s : State) (w : Writer) (pl : Place) (v off : Nat) :
    (s.hold w pl v off).heldOf w pl.reg.rid = some ⟨pl.reg.rid, pl.idx,
      (s.heldWords w pl).filter (fun x => x.1 ≠ pl.word) ++ [(pl.word, pl.reg.keeps pl.word v)]⟩ := by
  have h : ((s.holdCleared w pl off).dropHeld w pl.reg.rid).heldOf w pl.reg.rid = none := State.heldOf_dropHeld _ w _
  rw [State.heldOf] at h
  rw [State.heldOf]
  refine (congrArg (List.find? _) (Tab.get_set_self _ _ _ _)).trans ?_
  rw [List.find?_append]
  exact (congrArg (fun o => Option.or o _) h).trans (by rw [Option.none_or, List.find?_cons_of_pos (by simp)]; rfl)

theorem State.hold_heldWord (s : State) (w : Writer) (pl : Place) (v off : Nat) :
    (s.hold w pl v off).heldWord w pl = some (pl.reg.keeps pl.word v) := by
  have h : ((s.heldWords w pl).filter (fun x => x.1 ≠ pl.word)).find? (fun x => x.1 = pl.word) = none := by
    simp
  simp only [State.heldWord, State.hold_heldOf, if_true, List.find?_append, h]
  simp

/-! HELD_WORD_WRITE. -/

section
variable {s : State} {p : Port} {bar2 : Bool} {off : Nat} {pl : Place}

theorem State.gauLocked_granted (s : State) (p : Nat) (bar2 : Bool) (i : Nat) :
    (s.granted p bar2).gauLocked i = s.gauLocked i := by
  have m := s.granted_moves p bar2
  simp (disch := decide) only [State.gauLocked, m.ones, m.get]

/-- An admitted write of a word that is no commit word, of an array that has one, is held. -/
theorem heldWordWrite_holds (v : Word) {c : Nat} (hw : s.mayWrite p.val bar2 off) (hpl : Machine.place bar2 off = some pl)
    (hc : pl.reg.commit = some c) (hne : pl.word ≠ c) (hl : pl.reg.rid = .GAU_ENT → s.gauLocked pl.idx = false)
    (hrw : (pl.reg.inWord pl.word).any (fun x => x.1.acc = .rw) = true) :
    exec (.heldWordWrite p bar2 off v) s =
      .next ((s.granted p.val bar2).hold (.port p.val) pl v.toNat off).closed := by
  obtain ⟨ha, hcalm⟩ := hw
  have h1 : ¬(pl.reg.rid = .GAU_ENT ∧ (s.granted p.val bar2).gauLocked pl.idx = true) := by
    rintro ⟨hr, hk⟩
    rw [State.gauLocked_granted, hl hr] at hk
    cases hk
  have hx : s.portPut p.val bar2 off v.toNat = (s.granted p.val bar2).hold (.port p.val) pl v.toNat off := by
    rw [State.portPut, State.writeAt_of_admits _ _ ha, if_pos rfl, State.busWrite, hpl]
    simp only [hc]
    rw [State.arrayWrite, if_neg h1, if_neg hne, if_pos hrw]
  have hcalm' : ((s.granted p.val bar2).hold (.port p.val) pl v.toNat off).calm = true := by
    rw [(State.hold_moves _ _ _ _ _).calm rfl]
    simpa using hcalm
  change finish (s.portPut p.val bar2 off v.toNat) = _
  rw [hx, finish_calm _ hcalm']

/-- What an access holds moves no register. -/
theorem State.keepsBut.ac {t : State} {rs : List Reg} (h : s.keepsBut t rs) (x : AccS) : s.keepsBut { t with ac := x } rs := h

theorem heldWordWrite_same (v : Word) {c : Nat} (hw : s.mayWrite p.val bar2 off) (hpl : Machine.place bar2 off = some pl)
    (hc : pl.reg.commit = some c) (hne : pl.word ≠ c) (hl : pl.reg.rid = .GAU_ENT → s.gauLocked pl.idx = false)
    (hrw : (pl.reg.inWord pl.word).any (fun x => x.1.acc = .rw) = true)
    (hh : ∀ h, s.heldOf (.port p.val) pl.reg.rid = some h → h.idx = pl.idx) :
    ∃ t, exec (.heldWordWrite p bar2 off v) s = .next t ∧
      t.heldWord (.port p.val) pl = some (pl.reg.keeps pl.word v.toNat) ∧ s.keepsBut t [] := by
  have hcl : (s.granted p.val bar2).holdCleared (.port p.val) pl off = s.granted p.val bar2 := by
    unfold State.holdCleared
    rw [State.granted_heldOf]
    split
    · rename_i h he
      rw [if_pos (hh h he)]
    · rfl
  obtain ⟨x, hx⟩ := (s.granted p.val bar2).hold_eq (.port p.val) pl v.toNat off
  refine ⟨_, heldWordWrite_holds v hw hpl hc hne hl hrw, ?_, ?_⟩
  · rw [State.heldWord, State.closed_heldOf]
    exact State.hold_heldWord _ _ _ _ _
  · rw [hx, hcl]
    exact ((State.keepsBut_granted s p.val bar2 []).ac x).closed

theorem heldWordWrite_other (v : Word) {c : Nat} {h : Held} (hw : s.mayWrite p.val bar2 off)
    (hpl : Machine.place bar2 off = some pl)
    (hc : pl.reg.commit = some c) (hne : pl.word ≠ c) (hl : pl.reg.rid = .GAU_ENT → s.gauLocked pl.idx = false)
    (hrw : (pl.reg.inWord pl.word).any (fun x => x.1.acc = .rw) = true)
    (hh : s.heldOf (.port p.val) pl.reg.rid = some h) (hi : h.idx ≠ pl.idx) :
    ∃ t, exec (.heldWordWrite p bar2 off v) s = .next t ∧
      t.heldOf (.port p.val) pl.reg.rid = some ⟨pl.reg.rid, pl.idx, [(pl.word, pl.reg.keeps pl.word v.toNat)]⟩ ∧
      t.get GLB_CFG_REJECT_LAST.CAUSE p.val = 5 ∧ s.keepsBut t rejectRegs := by
  have hcl : (s.granted p.val bar2).holdCleared (.port p.val) pl off =
      (s.granted p.val bar2).reject (.port p.val) 5 pl.reg.bar2 off := by
    unfold State.holdCleared
    rw [State.granted_heldOf, hh]
    exact if_neg hi
  have hws : (s.granted p.val bar2).heldWords (.port p.val) pl = [] := by
    unfold State.heldWords
    rw [State.granted_heldOf, hh]
    exact if_neg hi
  obtain ⟨x, hx⟩ := (s.granted p.val bar2).hold_eq (.port p.val) pl v.toNat off
  refine ⟨_, heldWordWrite_holds v hw hpl hc hne hl hrw, ?_, ?_, ?_⟩
  · have hk := (s.granted p.val bar2).hold_heldOf (.port p.val) pl v.toNat off
    rw [hws] at hk
    rw [State.closed_heldOf, hk]
    rfl
  · rw [State.closed_get _ rfl, hx, (State.ac_moves _ x).get rfl, hcl, State.reject_cause]
  · rw [hx, hcl]
    have hk := (State.keepsBut_granted s p.val bar2 _).trans
      (State.keepsBut_reject (s.granted p.val bar2) p.val 5 pl.reg.bar2 off)
    exact (hk.ac x).closed

end

/-! The commit word takes the held words in (R66, R451). -/

/-- Held words of an entry take effect. -/
def State.heldTaken (s : State) (r : Reg) (i : Nat) (l : List (Nat × Nat)) : State :=
  s.each l (fun x u => (u.writeWord r i x.1 x.2).1)

theorem State.heldTaken_moves (s : State) (r : Reg) (i : Nat) (l : List (Nat × Nat)) :
    Moves (r.fields.map (·.2)) [] s (s.heldTaken r i l) := Moves.each .refl (fun x u => u.writeWord_moves r i x.1 x.2)

theorem State.commitHeld_eq (s : State) (w : Writer) (pl : Place) (i : Nat) :
    ∃ x, (s.commitHeld w pl i).1 = { s.heldTaken pl.reg i (s.heldWords w pl) with ac := x } := by
  have hf : ∀ (l : List (Nat × Nat)) (a : State × Bool), (l.foldl (fun (a : State × Bool) x =>
      let b := a.1.writeWord pl.reg i x.1 x.2
      (b.1, a.2 || b.2)) a).1 = a.1.heldTaken pl.reg i l := by
    intro l
    induction l with
    | nil => exact fun _ => rfl
    | cons x l ih => exact fun a => ih _
  unfold State.commitHeld State.heldWords
  cases s.heldOf w pl.reg.rid with
  | none => exact ⟨s.ac, rfl⟩
  | some h =>
    by_cases hi : h.idx = pl.idx
    · simp only [hi, if_true]
      exact ⟨((s.heldTaken pl.reg i h.words).dropHeld w pl.reg.rid).ac,
        congrArg (fun u => State.dropHeld u w pl.reg.rid) (hf _ (s, false))⟩
    · simp only [hi, if_false]
      exact ⟨s.ac, rfl⟩

/-- The writer's held words of the entry are forgotten. -/
theorem State.commitHeld_heldOf {s : State} {w : Writer} {pl : Place} {h : Held} (hh : s.heldOf w pl.reg.rid = some h)
    (hi : h.idx = pl.idx) (i : Nat) : (s.commitHeld w pl i).1.heldOf w pl.reg.rid = none := by
  unfold State.commitHeld
  rw [hh]
  simp only [hi, if_true]
  exact State.heldOf_dropHeld _ _ _

/-- Of held words with distinct numbers each plain one takes effect. -/
theorem State.heldTaken_readFields {r : Reg} (hd : r.distinct) {l : List (Nat × Nat)} (hl : (l.map (·.1)).Nodup)
    {x : Nat × Nat} (hx : x ∈ l) (hp : r.plainIn x.1 = true) (s : State) (i : Nat) :
    (s.heldTaken r i l).readFields r i x.1 = r.keeps x.1 x.2 := by
  induction l generalizing s with
  | nil => cases hx
  | cons y l ih =>
    rw [List.map_cons, List.nodup_cons] at hl
    obtain ⟨hy, hl⟩ := hl
    rcases List.mem_cons.mp hx with rfl | hx
    · refine (State.each_keep_mem (l := l) (fun u => u.readFields r i x.1) (fun z hz u => ?_)
        (s.writeWord r i x.1 x.2).1).trans (State.writeWord_readFields_same hd hp s i x.2)
      exact State.writeWord_readFields_other hd (fun e => hy (List.mem_map.mpr ⟨z, hz, e⟩)) hp u i z.2
    · exact ih hl hx _

end Sys2Proof.Machine
end

/-! The commit word of a classification rule, and held words (R66, R451). -/
section
namespace Sys2Proof.Machine

theorem State.plainCommit_moves (s : State) (p : Nat) (bar2 : Bool) (off : Nat) (bad : Bool) :
    Moves rejectMoves [.ic, .out, .wraps] s (s.plainCommit (.port p) bar2 off bad) := .ite (s.reject_moves p 1 bar2 off) .refl

/-- An admitted write of the commit word 0 of an entry. -/
theorem State.putEntry_of_admits {s : State} {p i : Nat} {r : Reg} (hc : r.commit = some 0) (hb : r.bar2 = false) (v : Nat)
    (h : s.admits p 0 false true (r.offset i 0) = true) :
    s.putEntry p r i v = (s.granted p false).arrayWrite (.port p) ⟨r, i, 0⟩ 0 v (r.offset i 0) := by
  rw [State.putEntry, hc, hb]
  exact State.onWrite_of_admits s p false _ _ h

theorem State.arrayWrite_commit {s : State} {w : Writer} {r : Reg} {i c v off : Nat} (hr : r.rid ≠ .GAU_ENT) :
    s.arrayWrite w ⟨r, i, c⟩ c v off = s.commitWrite w ⟨r, i, c⟩ v off := by
  rw [State.arrayWrite, if_neg (fun h => hr h.1), if_pos rfl]

theorem Reg.copy_unbanked {r : Reg} (hf : r.first = 0) (hb : r.banked = false) (p i : Nat) : r.copy p i = i := by
  simp [Reg.copy, hf, hb]

/-- The tables of classification rules, each with the fields VALID and ACTION of its rules (R64, R93). -/
def clsTables : List (Reg × Fld × Fld) :=
  [(reg_CLS_EGR, CLS_EGR.VALID, CLS_EGR.ACTION), (reg_CLS_IGR, CLS_IGR.VALID, CLS_IGR.ACTION)]

/-- An entry with its writer's held words and a commit word taken in. -/
def State.entryTaken (s : State) (p : Nat) (r : Reg) (i v : Nat) : State :=
  ((s.commitHeld (.port p) ⟨r, i, 0⟩ i).1.writeWord r i 0 v).1

theorem State.entryTaken_moves (s : State) (p : Nat) (r : Reg) (i v : Nat) :
    Moves (r.fields.map (·.2)) [.ac] s (s.entryTaken p r i v) := by
  obtain ⟨x, hx⟩ := s.commitHeld_eq (.port p) ⟨r, i, 0⟩ i
  have hl : (r.fields.map (·.2)).all (fun f => listed (r.fields.map (·.2)) f.id) = true :=
    List.all_eq_true.mpr (fun f hf => List.any_eq_true.mpr ⟨f, hf, beq_self_eq_true _⟩)
  have h : Moves (r.fields.map (·.2)) [.ac] s (s.commitHeld (.port p) ⟨r, i, 0⟩ i).1 := by
    rw [hx]
    exact ((s.heldTaken_moves r i _).mono hl rfl).also (State.ac_moves _ x) rfl rfl
  exact h.also (State.writeWord_moves _ r i 0 v) hl rfl

/-- The writer holds no word of the entry any more. -/
theorem State.entryTaken_heldOf {s : State} {p i : Nat} {r : Reg} {h : Held} (hh : s.heldOf (.port p) r.rid = some h)
    (hi : h.idx = i) (v : Nat) : (s.entryTaken p r i v).heldOf (.port p) r.rid = none := by
  have hac : (s.entryTaken p r i v).ac = (s.commitHeld (.port p) ⟨r, i, 0⟩ i).1.ac :=
    (State.writeWord_moves _ r i 0 v).parts .ac rfl
  rw [State.heldOf, hac]
  exact State.commitHeld_heldOf (pl := ⟨r, i, 0⟩) hh hi i

section
variable {r : Reg} {fv fa : Fld} (hr : (r, fv, fa) ∈ clsTables)
include hr

theorem clsTables_distinct : r.distinct := by
  simp only [clsTables, List.mem_cons, List.not_mem_nil, or_false, Prod.mk.injEq] at hr
  rcases hr with ⟨rfl, -, -⟩ | ⟨rfl, -, -⟩ <;> decide

theorem clsTables_plain {w : Nat} (h0 : 0 < w) (h : w < 12) : r.plainIn w = true := by
  have hk : ∀ w < 12, 0 < w → r.plainIn w = true := by
    simp only [clsTables, List.mem_cons, List.not_mem_nil, or_false, Prod.mk.injEq] at hr
    rcases hr with ⟨rfl, -, -⟩ | ⟨rfl, -, -⟩ <;> decide
  exact hk w h h0

/-- The commit word's write is a commit that acts by the access codes alone. -/
theorem State.clsPut_of_admits {s : State} {p i : Nat} (v : Nat) (h : s.admits p 0 false true (r.offset i 0) = true) :
    ∃ bad, s.putEntry p r i v = ((s.granted p false).entryTaken p r i v).plainCommit (.port p) false (r.offset i 0) bad := by
  simp only [clsTables, List.mem_cons, List.not_mem_nil, or_false, Prod.mk.injEq] at hr
  rcases hr with ⟨rfl, -, -⟩ | ⟨rfl, -, -⟩ <;>
    rw [State.putEntry_of_admits rfl rfl v h, State.arrayWrite_commit (by decide), State.commitWrite,
      Reg.copy_unbanked rfl rfl] <;>
    exact ⟨_, rfl⟩

theorem State.ruleTaken_valid (s : State) (p i v : Nat) : (s.entryTaken p r i v).get fv i = v % 2 := by
  have hd := clsTables_distinct hr
  simp only [clsTables, List.mem_cons, List.not_mem_nil, or_false, Prod.mk.injEq] at hr
  rcases hr with ⟨rfl, rfl, -⟩ | ⟨rfl, rfl, -⟩ <;>
    exact (State.writeWord_whole hd (wlo := 0) (by decide) rfl (by decide) _ i v).trans (by simp [bits, CLS_EGR.VALID, CLS_IGR.VALID, Fld.allows])

theorem State.ruleTaken_action (s : State) (p i v : Nat) :
    (s.entryTaken p r i v).get fa i = if v / 2 % 8 ≤ 3 then v / 2 % 8 else 0 := by
  have hd := clsTables_distinct hr
  simp only [clsTables, List.mem_cons, List.not_mem_nil, or_false, Prod.mk.injEq] at hr
  rcases hr with ⟨rfl, -, rfl⟩ | ⟨rfl, -, rfl⟩ <;>
    exact (State.writeWord_whole hd (wlo := 1) (by decide) rfl (by decide) _ i v).trans (by simp [bits, CLS_EGR.ACTION, CLS_IGR.ACTION, Fld.allows])

/-- A held word of a rule takes effect with the commit word. -/
theorem State.ruleTaken_readFields {s : State} {p i : Nat} {h : Held} (hh : s.heldOf (.port p) r.rid = some h) (hi : h.idx = i)
    (hn : (h.words.map (·.1)).Nodup) {x : Nat × Nat} (hx : x ∈ h.words) (h0 : 0 < x.1) (h12 : x.1 < 12) (v : Nat) :
    (s.entryTaken p r i v).readFields r i x.1 = r.keeps x.1 x.2 := by
  have hd := clsTables_distinct hr
  have hp := clsTables_plain hr h0 h12
  have hws : s.heldWords (.port p) ⟨r, i, 0⟩ = h.words := by
    unfold State.heldWords
    rw [hh]
    exact if_pos hi
  obtain ⟨y, hy⟩ := s.commitHeld_eq (.port p) ⟨r, i, 0⟩ i
  rw [State.entryTaken, State.writeWord_readFields_other hd (Nat.ne_of_lt h0) hp, hy, hws]
  exact State.heldTaken_readFields hd hn hx hp s i

/-- Neither a refusal nor the end of a command moves a field of a rule. -/
theorem clsTables_apart : (fv :: fa :: r.fields.map (·.2)).all (fun f => !listed (GLB_MODE.IN_TRANSITION :: rejectMoves) f.id) = true := by
  simp only [clsTables, List.mem_cons, List.not_mem_nil, or_false, Prod.mk.injEq] at hr
  rcases hr with ⟨rfl, rfl, rfl⟩ | ⟨rfl, rfl, rfl⟩ <;> decide

/-- What a rule shows that takes a commit word and its writer's held words in. -/
theorem clsCommit_outcome {s : State} {p : Port} {i : Nat} (v : Nat) (hw : s.mayWrite p.val false (r.offset i 0)) :
    ∃ t, finish (s.putEntry p.val r i v) = .next t ∧ t.get fv i = v % 2 ∧
      (t.get fa i = if v / 2 % 8 ≤ 3 then v / 2 % 8 else 0) ∧
      (∀ h, s.heldOf (.port p.val) r.rid = some h → h.idx = i → t.heldOf (.port p.val) r.rid = none ∧
        ((h.words.map (·.1)).Nodup → ∀ x ∈ h.words, 0 < x.1 → x.1 < 12 → t.readFields r i x.1 = r.keeps x.1 x.2)) := by
  obtain ⟨ha, hc⟩ := hw
  obtain ⟨bad, hx⟩ := State.clsPut_of_admits hr v ha
  have mt := (s.granted p.val false).entryTaken_moves p.val r i v
  have hval := State.ruleTaken_valid hr (s.granted p.val false) p.val i v
  have hact := State.ruleTaken_action hr (s.granted p.val false) p.val i v
  have hg : ∀ h, s.heldOf (.port p.val) r.rid = some h → (s.granted p.val false).heldOf (.port p.val) r.rid = some h :=
    fun h hh => (s.granted_heldOf p.val false (.port p.val) r.rid).trans hh
  generalize hn : (s.granted p.val false).entryTaken p.val r i v = n at hx mt hval hact
  have mp := n.plainCommit_moves p.val false (r.offset i 0) bad
  have m : Moves (GLB_MODE.IN_TRANSITION :: rejectMoves) [.ic, .out, .wraps, .cl, .md] n
      (n.plainCommit (.port p.val) false (r.offset i 0) bad).closed := (mp.mono rfl rfl).also (State.closed_moves _) rfl rfl
  have g : ∀ f ∈ fv :: fa :: r.fields.map (·.2),
      (n.plainCommit (.port p.val) false (r.offset i 0) bad).closed.get f i = n.get f i :=
    fun f hf => m.get (by simpa using List.all_eq_true.mp (clsTables_apart hr) f hf) i
  refine ⟨_, ?_, by rw [g fv (by simp), hval], by rw [g fa (by simp), hact], fun h hh hi => ⟨?_, fun hnd x hxw h0 h12 => ?_⟩⟩
  · rw [hx, finish_calm _ ((mp.calm rfl).trans ((mt.calm rfl).trans ((State.calm_granted _ _ _).trans hc)))]
  · rw [State.heldOf, m.parts .ac rfl, ← hn]
    exact State.entryTaken_heldOf (hg h hh) hi v
  · rw [← State.ruleTaken_readFields hr (hg h hh) hi hnd hxw h0 h12 v, hn]
    refine State.readFields_congr (fun y hy => ?_)
    obtain ⟨lo, hm⟩ := Reg.fields_of_inWord hy
    rw [g y.1 (List.mem_cons_of_mem _ (List.mem_cons_of_mem _ (List.mem_map.mpr ⟨_, hm, rfl⟩)))]

end

/-- Settles O16: a word without effect of its own is kept for its writer, and the commit word writes the kept words of its
entry before itself. -/
theorem heldWordsAndCommit : Obligations.HeldWordsAndCommit := by
  refine ⟨fun s p bar2 off c v pl hw hpl hc hne hl hrw =>
    ⟨heldWordWrite_same v hw hpl hc hne hl hrw, fun h hh hi => heldWordWrite_other v hw hpl hc hne hl hrw hh hi⟩, ?_⟩
  rintro s p d i v r rfl hw
  cases d with
  | eg => exact clsCommit_outcome (r := reg_CLS_EGR) (by simp [clsTables]) v.toNat hw
  | ig => exact clsCommit_outcome (r := reg_CLS_IGR) (by simp [clsTables]) v.toNat hw

end Sys2Proof.Machine
end

/-! The switch of a transmit channel and the activation of a receive channel (R77, R79, R105, R141, R226). -/
section
namespace Sys2Proof.Machine

/-! What two states show of one channel. -/

/-- Two states agree on the fields fs of channel c and on the fields gs of its two SAs. -/
def State.alikeAt (fs gs : List Fld) (c : Nat) (s t : State) : Prop :=
  (∀ f ∈ fs, t.get f c = s.get f c) ∧ ∀ f ∈ gs, ∀ a, a / 2 = c → t.get f a = s.get f a

section
variable {fs gs : List Fld} {c : Nat} {s t u : State}

theorem State.alikeAt.refl : s.alikeAt fs gs c s := ⟨fun _ _ => rfl, fun _ _ _ _ => rfl⟩

theorem State.alikeAt.trans (h : s.alikeAt fs gs c t) (k : t.alikeAt fs gs c u) : s.alikeAt fs gs c u :=
  ⟨fun f hf => (k.1 f hf).trans (h.1 f hf), fun f hf a ha => (k.2 f hf a ha).trans (h.2 f hf a ha)⟩

theorem Moves.alikeAt {hs : List Fld} {ps : List Part} (m : Moves hs ps s t)
    (h : (fs ++ gs).all (fun f => !listed hs f.id) = true) : s.alikeAt fs gs c t := by
  have g : ∀ f ∈ fs ++ gs, ∀ i, t.get f i = s.get f i := fun f hf i => m.get (by simpa using List.all_eq_true.mp h f hf) i
  exact ⟨fun f hf => g f (List.mem_append_left _ hf) c, fun f hf a _ => g f (List.mem_append_right _ hf) a⟩

/-- A field of another channel. -/
theorem State.alikeAt_setSc (s : State) {f : Fld} {d : Nat} (hf : gs.all (fun g => g.id % 2048 != f.id % 2048) = true)
    (hd : c ≠ d) (hi : (f :: fs).all (fun g => g.id < 2048) = true) (v : Nat) : s.alikeAt fs gs c (s.set f d v) := by
  simp only [List.all_eq_true, List.mem_cons, forall_eq_or_imp, decide_eq_true_eq, bne_iff_ne] at hf hi
  exact ⟨fun g hg => State.get_set_other (hi.2 g hg) hi.1 hd v, fun g hg a _ => State.get_set_field s (hf g hg) a d v⟩

/-- A field of an SA of another channel. -/
theorem State.alikeAt_setSa (s : State) {f : Fld} {b : Nat} (hf : fs.all (fun g => g.id % 2048 != f.id % 2048) = true)
    (hb : b / 2 ≠ c) (hi : (f :: gs).all (fun g => g.id < 2048) = true) (v : Nat) : s.alikeAt fs gs c (s.set f b v) := by
  simp only [List.all_eq_true, List.mem_cons, forall_eq_or_imp, decide_eq_true_eq, bne_iff_ne] at hf hi
  exact ⟨fun g hg => State.get_set_field s (hf g hg) c b v,
    fun g hg a ha => State.get_set_other (hi.2 g hg) hi.1 (fun e : a = b => hb (by rw [← e, ha])) v⟩

end

/-- Of operations on distinct elements, the one on an element acts on what the state shows of it. -/
theorem State.each_at {R : State → State → Prop} (hr : ∀ u, R u u) (ht : ∀ u v w, R u v → R v w → R u w)
    {g : Nat → State → State} {q : Nat} (hg : ∀ a u, a ≠ q → R u (g a u)) {l : List Nat} (hn : l.Nodup) (hq : q ∈ l) (s : State) :
    ∃ u, R s u ∧ R (g q u) (s.each l g) := by
  have hrest : ∀ (l : List Nat) (u : State), q ∉ l → R u (u.each l g) := by
    intro l
    induction l with
    | nil => exact fun u _ => hr u
    | cons a l ih =>
      intro u hq
      rw [List.mem_cons, not_or] at hq
      exact ht _ _ _ (hg a u (Ne.symm hq.1)) (ih (g a u) hq.2)
  induction l generalizing s with
  | nil => cases hq
  | cons a l ih =>
    rw [List.nodup_cons] at hn
    obtain ⟨ha, hn⟩ := hn
    by_cases e : a = q
    · subst e
      exact ⟨s, hr s, hrest l _ ha⟩
    · obtain ⟨u, h1, h2⟩ := ih hn ((List.mem_cons.mp hq).resolve_left (Ne.symm e)) (g a s)
      exact ⟨u, ht _ _ _ (hg a s e) h1, h2⟩

/-! An event of another channel. -/

section
variable {fs gs : List Fld} {c d : Nat} (s : State)

theorem State.alikeAt_pend (h : (fs ++ gs).all (fun f => !listed [ICU_PORT.WAKE] f.id) = true) (n : Nat) :
    s.alikeAt fs gs c (s.pend n) := (s.pend_moves n).alikeAt h

theorem State.alikeAt_txEvent {f : Fld} (hf : gs.all (fun g => g.id % 2048 != f.id % 2048) = true) (hd : c ≠ d)
    (hi : (f :: fs).all (fun g => g.id < 2048) = true) (h : (fs ++ gs).all (fun f => !listed [ICU_PORT.WAKE] f.id) = true)
    (b : Bool) : s.alikeAt fs gs c (s.txEvent b f d) := by
  unfold State.txEvent
  simp only
  split
  · exact s.alikeAt_setSc hf hd hi 1
  · exact (s.alikeAt_setSc hf hd hi 1).trans (State.alikeAt_pend _ h _)

theorem State.alikeAt_rxEvent {f : Fld} (hf : gs.all (fun g => g.id % 2048 != f.id % 2048) = true) (hd : c ≠ d)
    (hi : (f :: fs).all (fun g => g.id < 2048) = true) (h : (fs ++ gs).all (fun f => !listed [ICU_PORT.WAKE] f.id) = true)
    (b : Bool) : s.alikeAt fs gs c (s.rxEvent b f d) := by
  unfold State.rxEvent
  simp only
  split
  · exact s.alikeAt_setSc hf hd hi 1
  · exact (s.alikeAt_setSc hf hd hi 1).trans (State.alikeAt_pend _ h _)

end

/-! The switch of a transmit channel (R77). -/

/-- Fields of a transmit channel that a switch speaks of; of its SAs it is STATE. -/
abbrev txShown : List Fld := [SCT_TX.CUR, SCT_TX.EV_SWITCH, SCT_TX.EV_SWITCH_MISS]

section
variable {s t : State} {c : Nat}

theorem State.txCur_lt (s : State) (c : Nat) : s.get SCT_TX.CUR c < 2 := s.get_lt SCT_TX.CUR c

theorem State.curSa_div (s : State) (c : Nat) : s.curSa c / 2 = c := by
  have h := s.txCur_lt c
  unfold State.curSa
  omega

theorem State.othSa_div (s : State) (c : Nat) : s.othSa c / 2 = c := by
  unfold State.othSa
  omega

theorem State.curSa_ne_othSa (s : State) (c : Nat) : s.curSa c ≠ s.othSa c := by
  have h := s.txCur_lt c
  unfold State.curSa State.othSa
  omega

/-- A switch is seen by what two states show of its channel. -/
theorem State.switched_of_alike {s' t' : State} (hs : s.alikeAt txShown [SAT_TX.STATE] c s')
    (ht : t'.alikeAt txShown [SAT_TX.STATE] c t) (h : s'.switched t' c) : s.switched t c := by
  have e1 := hs.1 SCT_TX.CUR (by simp)
  have ec : s'.curSa c = s.curSa c := by rw [State.curSa, e1, State.curSa]
  have eo : s'.othSa c = s.othSa c := by rw [State.othSa, e1, State.othSa]
  have es := hs.2 SAT_TX.STATE (by simp)
  have et := ht.2 SAT_TX.STATE (by simp)
  have e2 := ht.1 SCT_TX.CUR (by simp)
  have e3 := ht.1 SCT_TX.EV_SWITCH (by simp)
  have e4 := ht.1 SCT_TX.EV_SWITCH_MISS (by simp)
  unfold State.switched at h ⊢
  rw [ec, eo, es _ (s.othSa_div c), es _ (s.curSa_div c), e1, ← et _ (s.othSa_div c), ← et _ (s.curSa_div c), ← e2, ← e3, ← e4] at h
  exact h

/-- The states of the two slots swap. -/
def State.swapped (s : State) (c : Nat) : State :=
  let u := if s.get SAT_TX.STATE (s.curSa c) = saACTIVE ∨ s.get SAT_TX.STATE (s.curSa c) = saEXHAUSTED then
    s.set SAT_TX.STATE (s.curSa c) saRETIRED else s
  (u.set SAT_TX.STATE (s.othSa c) saACTIVE).set SCT_TX.CUR c (1 - u.get SCT_TX.CUR c)

theorem State.switchSlot_eq (s : State) (c : Nat) : s.switchSlot c =
    (((s.swapped c).count SCT_TX.SWITCHES c 1).txEvent false SCT_TX.EV_SWITCH c).autFirst c := rfl

theorem State.swapped_cur (s : State) (c : Nat) : (s.swapped c).get SCT_TX.CUR c = 1 - s.get SCT_TX.CUR c := by
  have h : (if s.get SAT_TX.STATE (s.curSa c) = saACTIVE ∨ s.get SAT_TX.STATE (s.curSa c) = saEXHAUSTED then
      s.set SAT_TX.STATE (s.curSa c) saRETIRED else s).get SCT_TX.CUR c = s.get SCT_TX.CUR c := by
    split
    · exact State.get_set_field s (by decide) _ _ _
    · rfl
  rw [State.swapped, State.get_set_self, h, Nat.mod_eq_of_lt (Nat.lt_of_le_of_lt (Nat.sub_le 1 _) (by decide))]

theorem State.swapped_oth (s : State) (c : Nat) : (s.swapped c).get SAT_TX.STATE (s.othSa c) = saACTIVE := by
  rw [State.swapped, State.get_set_field _ (by decide), State.get_set_self]
  rfl

theorem State.swapped_old (h : s.get SAT_TX.STATE (s.curSa c) = saACTIVE) :
    (s.swapped c).get SAT_TX.STATE (s.curSa c) = saRETIRED := by
  rw [State.swapped, if_pos (.inl h), State.get_set_field _ (by decide), State.get_set_index _ _ (s.curSa_ne_othSa c),
    State.get_set_self]
  rfl

/-- What of a switch follows the swap of the slots' states. -/
abbrev swapMoves : List Fld := [SCT_TX.SWITCHES, SCT_TX.EV_SWITCH, GLB_TX_RESUME.V, ICU_PORT.WAKE]

theorem State.switchSlot_swapped (s : State) (c : Nat) : Moves swapMoves [.ic, .out, .wraps] (s.swapped c) (s.switchSlot c) := by
  rw [s.switchSlot_eq]
  exact ((Moves.refl.also (State.count_moves _ SCT_TX.SWITCHES c 1) rfl rfl).also
    (State.txEvent_moves _ false SCT_TX.EV_SWITCH c) rfl rfl).also (State.autFirst_moves _ c) rfl rfl

theorem State.switchSlot_event (s : State) (c : Nat) : (s.switchSlot c).get SCT_TX.EV_SWITCH c = 1 := by
  rw [s.switchSlot_eq, (State.autFirst_moves _ c).get rfl, State.txEvent_set _ _ _ rfl (by decide)]

theorem State.switchReq_moves (s : State) (c : Nat) :
    Moves (SCT_TX.EV_SWITCH_MISS :: exhaustMoves) countParts s (s.switchReq c) :=
  .ite ((s.switchSlot_moves c).mono rfl rfl) ((s.txEvent_moves true SCT_TX.EV_SWITCH_MISS c).mono rfl rfl)

/-- A switch request does what R77 says. -/
theorem State.switchReq_switched (s : State) (c : Nat) : s.switched (s.switchReq c) c := by
  unfold State.switched State.switchReq
  by_cases h : s.get SAT_TX.STATE (s.othSa c) = saREADY
  · rw [if_pos h, if_pos h]
    have m := s.switchSlot_swapped c
    exact ⟨(m.get rfl _).trans (s.swapped_oth c), (m.get rfl _).trans (s.swapped_cur c), s.switchSlot_event c,
      fun ha => (m.get rfl _).trans (State.swapped_old ha)⟩
  · rw [if_neg h, if_neg h]
    have m := s.txEvent_moves true SCT_TX.EV_SWITCH_MISS c
    exact ⟨State.txEvent_set _ _ _ rfl (by decide), m.get rfl _, m.get rfl _, m.get rfl _⟩

/-- A switch request of another channel. -/
theorem State.switchReq_other (s : State) {d : Nat} (h : d ≠ c) : s.alikeAt txShown [SAT_TX.STATE] c (s.switchReq d) := by
  have hsa : ∀ (u : State) (b v : Nat), b / 2 = d → u.alikeAt txShown [SAT_TX.STATE] c (u.set SAT_TX.STATE b v) :=
    fun u b v hb => u.alikeAt_setSa (by decide) (fun e => h (hb.symm.trans e)) (by decide) v
  have hw : s.alikeAt txShown [SAT_TX.STATE] c (s.swapped d) := by
    refine State.alikeAt.trans (State.alikeAt.trans ?_ (hsa _ _ saACTIVE (s.othSa_div d)))
      (State.alikeAt_setSc _ (by decide) h.symm (by decide) _)
    split
    · exact hsa s _ _ (s.curSa_div d)
    · exact .refl
  unfold State.switchReq
  split
  · rw [s.switchSlot_eq]
    exact ((hw.trans ((State.count_moves _ SCT_TX.SWITCHES d 1).alikeAt (by decide))).trans
      (State.alikeAt_txEvent _ (by decide) h.symm (by decide) (by decide) false)).trans
      ((State.autFirst_moves _ d).alikeAt (by decide))
  · exact s.alikeAt_txEvent (by decide) h.symm (by decide) (by decide) true

theorem State.txSwitchGroup_moves (s : State) (g : Nat) :
    Moves (SCT_TX.EV_SWITCH_MISS :: exhaustMoves) countParts s (s.txSwitchGroup g) :=
  Moves.each .refl (fun a u => u.switchReq_moves a)

/-- A group switch makes the switch request of each manually keyed channel of the group (R79). -/
theorem State.txSwitchGroup_switched {g : Nat} (hc : c < 4096) (hg : s.get SCT_TX.GROUP c = g) (hk : s.on SCT_TX.KEYING c = false) :
    s.switched (s.txSwitchGroup g) c := by
  have hm : c ∈ s.txGroup g := by simp [State.txGroup, mem_upto, hc, hg, hk]
  have hn : (s.txGroup g).Nodup := List.Nodup.filter _ (List.nodup_range)
  obtain ⟨u, h1, h2⟩ := State.each_at (R := State.alikeAt txShown [SAT_TX.STATE] c) (fun _ => .refl) (fun _ _ _ h k => h.trans k)
    (g := fun c s => s.switchReq c) (fun a v ha => v.switchReq_other ha) hn hm s
  exact State.switched_of_alike h1 h2 (u.switchReq_switched c)

end

/-- Settles O19: a request acts on the channel of the state that its access leaves, and the end of the command moves
nothing of it. -/
theorem transmitSwitch : Obligations.TransmitSwitch := by
  intro s p ⟨ha, hcalm⟩
  have mg := s.granted_moves p.val false
  have hx : ∀ act : State → State, s.saCmd p.val reg_PLN_TXSA_CMD.base act = act (s.granted p.val false) :=
    fun act => State.onWrite_of_admits s p.val false _ act ha
  have hgc : (s.granted p.val false).calm = true := (mg.calm rfl).trans hcalm
  have hgr : ∀ c, s.alikeAt txShown [SAT_TX.STATE] c (s.granted p.val false) := fun c => mg.alikeAt (by decide)
  have hcl : ∀ (u : State) (c : Nat), u.alikeAt txShown [SAT_TX.STATE] c u.closed := fun u c => u.closed_moves.alikeAt (by decide)
  refine ⟨fun sc => ⟨fun hk => ?_, fun hk => ?_⟩, fun g => ⟨((s.granted p.val false).txSwitchGroup g.val).closed, ?_, ?_⟩⟩
  · refine ⟨((s.granted p.val false).switchReq sc.val).closed, ?_,
      State.switched_of_alike (hgr _) (hcl _ _) (State.switchReq_switched _ _)⟩
    change finish (s.saCmd p.val reg_PLN_TXSA_CMD.base _) = _
    rw [hx, State.txSwitchOne, mg.on rfl, hk, if_neg (by decide), finish_calm _ (((State.switchReq_moves _ _).calm rfl).trans hgc)]
  · have e : exec (.txsaSwitch p sc) s =
        finish ((s.granted p.val false).reject (.port p.val) 3 false reg_PLN_TXSA_CMD.base) := by
      change finish (s.saCmd p.val reg_PLN_TXSA_CMD.base _) = _
      rw [hx, State.txSwitchOne, mg.on rfl, hk, if_pos rfl]
    rw [e]
    exact finish_refused 3 _ hcalm
  · change finish (s.saCmd p.val reg_PLN_TXSA_CMD.base _) = _
    rw [hx, finish_calm _ (((State.txSwitchGroup_moves _ _).calm rfl).trans hgc)]
  · intro c hc hg hk
    exact State.switched_of_alike (hgr _) (hcl _ _) (State.txSwitchGroup_switched hc ((mg.get rfl c).trans hg) ((mg.on rfl c).trans hk))

end Sys2Proof.Machine
end

/-! The activation of a receive channel (R104, R105), and SA_SWITCH firings (R141). -/
section
namespace Sys2Proof.Machine

/-! What an activation speaks of. -/

/-- Fields of a receive channel that an activation speaks of, and fields of its SAs. -/
abbrev rxShown : List Fld := [SCT_RX.CUR, SCT_RX.EV_NO_SA, SCT_RX.OVERLAP, SCT_RX.KEYING]
abbrev rxSaShown : List Fld := [SAT_RX.STATE, SAT_RX.FLOOR, SAT_RX.NEXT_PN, SAT_RX.RETIRE_ARMED]

/-- Two states show the same of receive channel c, at the same network time. -/
structure State.rxAlike (c : Nat) (s t : State) : Prop where
  fields : s.alikeAt rxShown rxSaShown c t
  times : ∀ a, a / 2 = c → t.rxRetireAt a = s.rxRetireAt a
  now : t.now = s.now

section
variable {s t u : State} {c : Nat}

theorem State.rxAlike.refl : s.rxAlike c s := ⟨.refl, fun _ _ => rfl, rfl⟩

theorem State.rxAlike.trans (h : s.rxAlike c t) (k : t.rxAlike c u) : s.rxAlike c u :=
  ⟨h.fields.trans k.fields, fun a ha => (k.times a ha).trans (h.times a ha), k.now.trans h.now⟩

theorem Moves.rxAlike {fs : List Fld} {ps : List Part} (m : Moves fs ps s t)
    (h : (rxShown ++ rxSaShown).all (fun f => !listed fs f.id) = true)
    (hp : [Part.retireAt, .now].all (fun p => !ps.contains p) = true) : s.rxAlike c t := by
  simp only [List.all_cons, List.all_nil, Bool.and_true, Bool.and_eq_true, Bool.not_eq_true'] at hp
  have hr : t.fr.retireAt = s.fr.retireAt := m.parts .retireAt hp.1
  exact ⟨m.alikeAt h, fun a _ => by rw [State.rxRetireAt, hr, State.rxRetireAt], m.parts .now hp.2⟩

/-- A field of an SA of another channel. -/
theorem State.rxAlike_setSa (s : State) {f : Fld} {b : Nat} (hf : rxShown.all (fun g => g.id % 2048 != f.id % 2048) = true)
    (hb : b / 2 ≠ c) (hi : (f :: rxSaShown).all (fun g => g.id < 2048) = true) (v : Nat) : s.rxAlike c (s.set f b v) :=
  ⟨s.alikeAt_setSa hf hb hi v, fun _ _ => rfl, rfl⟩

theorem State.rxAlike_setSc (s : State) {f : Fld} {d : Nat} (hf : rxSaShown.all (fun g => g.id % 2048 != f.id % 2048) = true)
    (hd : c ≠ d) (hi : (f :: rxShown).all (fun g => g.id < 2048) = true) (v : Nat) : s.rxAlike c (s.set f d v) :=
  ⟨s.alikeAt_setSc hf hd hi v, fun _ _ => rfl, rfl⟩

theorem State.rxAlike_rxEvent (s : State) {f : Fld} {d : Nat} (hf : rxSaShown.all (fun g => g.id % 2048 != f.id % 2048) = true)
    (hd : c ≠ d) (hi : (f :: rxShown).all (fun g => g.id < 2048) = true) (b : Bool) : s.rxAlike c (s.rxEvent b f d) :=
  have m := s.rxEvent_moves b f d
  have hr : (s.rxEvent b f d).fr.retireAt = s.fr.retireAt := m.parts .retireAt rfl
  ⟨s.alikeAt_rxEvent hf hd hi (by decide) b, fun a _ => by rw [State.rxRetireAt, hr, State.rxRetireAt], m.parts .now rfl⟩

theorem State.rxCur_lt (s : State) (c : Nat) : s.get SCT_RX.CUR c < 2 := s.get_lt SCT_RX.CUR c

theorem State.rxCur_div (s : State) (c : Nat) : s.rxCur c / 2 = c := by
  have h := s.rxCur_lt c
  unfold State.rxCur
  omega

theorem State.rxOth_div (s : State) (c : Nat) : s.rxOth c / 2 = c := by
  unfold State.rxOth
  omega

theorem State.rxCur_ne_rxOth (s : State) (c : Nat) : s.rxCur c ≠ s.rxOth c := by
  have h := s.rxCur_lt c
  unfold State.rxCur State.rxOth
  omega

/-- An activation is seen by what the states show of its channel. -/
theorem State.activated_of_alike {s' t' : State} (hs : s.rxAlike c s') (ht : t'.rxAlike c t) (h : s'.activated t' c) :
    s.activated t c := by
  obtain ⟨⟨hsc, hsa⟩, -, hn⟩ := hs
  obtain ⟨⟨htc, hta⟩, hr, -⟩ := ht
  have e1 := hsc SCT_RX.CUR (by simp)
  have eo : s'.rxOth c = s.rxOth c := by rw [State.rxOth, e1, State.rxOth]
  have ec : s'.rxCur c = s.rxCur c := by rw [State.rxCur, e1, State.rxCur]
  have dO := s.rxOth_div c
  have dC := s.rxCur_div c
  have ev : s'.overlapOf c = s.overlapOf c := by rw [State.overlapOf, hsc SCT_RX.OVERLAP (by simp), State.overlapOf]
  unfold State.activated at h ⊢
  rw [eo, ec, hsa SAT_RX.STATE (by simp) _ dO, hsa SAT_RX.STATE (by simp) _ dC, hsa SAT_RX.NEXT_PN (by simp) _ dO,
    hsc SCT_RX.OVERLAP (by simp), e1, ev, hn, ← hta SAT_RX.STATE (by simp) _ dO, ← hta SAT_RX.STATE (by simp) _ dC,
    ← hta SAT_RX.FLOOR (by simp) _ dO, ← hta SAT_RX.RETIRE_ARMED (by simp) _ dC, ← htc SCT_RX.CUR (by simp),
    ← htc SCT_RX.EV_NO_SA (by simp), ← hr _ dC] at h
  exact h

end

/-! A receive slot becomes ACTIVE (R102). -/

section
variable {s : State} {a c : Nat}

/-- Fields that the activation of a receive slot moves. -/
abbrev rxActivateMoves : List Fld := [SAT_RX.STATE, SAT_RX.FLOOR, SCT_RX.CUR, SCT_RX.EV_SWITCH, ICU_PORT.WAKE]

theorem State.rxActivate_moves (s : State) (a : Nat) : Moves rxActivateMoves [.ic, .out] s (s.rxActivate a) := by
  have h : Moves rxActivateMoves [.ic, .out] s ((s.set SAT_RX.STATE a saACTIVE).set SAT_RX.FLOOR a (s.get SAT_RX.NEXT_PN a)) :=
    (Moves.refl.also (s.set_moves SAT_RX.STATE a _) rfl rfl).also (State.set_moves _ SAT_RX.FLOOR a _) rfl rfl
  exact .ite h ((h.also (State.set_moves _ SCT_RX.CUR _ _) rfl rfl).also (State.rxEvent_moves _ false SCT_RX.EV_SWITCH _) rfl rfl)

/-- What an activation leaves beside the slot's STATE and FLOOR. -/
theorem State.rxActivate_set (s : State) (a : Nat) : Moves [SCT_RX.CUR, SCT_RX.EV_SWITCH, ICU_PORT.WAKE] [.ic, .out]
    ((s.set SAT_RX.STATE a saACTIVE).set SAT_RX.FLOOR a (s.get SAT_RX.NEXT_PN a)) (s.rxActivate a) :=
  .ite .refl ((Moves.refl.also (State.set_moves _ SCT_RX.CUR _ _) rfl rfl).also
    (State.rxEvent_moves _ false SCT_RX.EV_SWITCH _) rfl rfl)

theorem State.rxActivate_state (s : State) (a : Nat) : (s.rxActivate a).get SAT_RX.STATE a = saACTIVE := by
  rw [(s.rxActivate_set a).get rfl, State.get_set_field _ (by decide), State.get_set_self]
  rfl

theorem State.rxActivate_otherState {b : Nat} (h : b ≠ a) : (s.rxActivate a).get SAT_RX.STATE b = s.get SAT_RX.STATE b := by
  rw [(s.rxActivate_set a).get rfl, State.get_set_field _ (by decide), State.get_set_index _ _ h]

theorem State.rxActivate_floor (s : State) (a : Nat) : (s.rxActivate a).get SAT_RX.FLOOR a = s.get SAT_RX.NEXT_PN a := by
  rw [(s.rxActivate_set a).get rfl, State.get_set_self]
  exact Nat.mod_eq_of_lt (s.get_lt SAT_RX.NEXT_PN a)

theorem State.rxActivate_cur (s : State) (a : Nat) : (s.rxActivate a).get SCT_RX.CUR (a / 2) = a % 2 := by
  unfold State.rxActivate
  simp (disch := decide) only [State.get_set_field]
  split
  · rename_i h
    simp (disch := decide) only [State.get_set_field]
    exact h
  · rw [(State.rxEvent_moves _ _ _ _).get rfl, State.get_set_self]
    exact Nat.mod_mod _ _

/-- The activation of a slot of another channel. -/
theorem State.rxActivate_other (s : State) {a : Nat} (h : a / 2 ≠ c) : s.rxAlike c (s.rxActivate a) := by
  have h0 : s.rxAlike c ((s.set SAT_RX.STATE a saACTIVE).set SAT_RX.FLOOR a (s.get SAT_RX.NEXT_PN a)) :=
    (s.rxAlike_setSa (by decide) h (by decide) _).trans (State.rxAlike_setSa _ (by decide) h (by decide) _)
  unfold State.rxActivate
  simp only
  split
  · exact h0
  · exact (h0.trans (State.rxAlike_setSc _ (by decide) (Ne.symm h) (by decide) _)).trans
      (State.rxAlike_rxEvent _ (by decide) (Ne.symm h) (by decide) false)

end

/-! A receive slot retires, or its retirement is armed (R104). -/

section
variable {s : State} {a b c at_ : Nat}

theorem State.rxRetire_of_active (h : s.get SAT_RX.STATE a = saACTIVE) : (s.rxRetire a).get SAT_RX.STATE a = saRETIRED := by
  rw [State.rxRetire, if_pos h, (State.rxEvent_moves _ _ _ _).get rfl, State.get_set_field _ (by decide), State.get_set_self]
  rfl

theorem State.rxRetire_otherState (h : b ≠ a) : (s.rxRetire a).get SAT_RX.STATE b = s.get SAT_RX.STATE b := by
  unfold State.rxRetire
  split
  · rw [(State.rxEvent_moves _ _ _ _).get rfl, State.get_set_field _ (by decide), State.get_set_index _ _ h]
  · exact State.get_set_field _ (by decide) _ _ _

theorem State.rxRetire_other (s : State) (h : a / 2 ≠ c) : s.rxAlike c (s.rxRetire a) := by
  unfold State.rxRetire
  split
  · exact ((s.rxAlike_setSa (by decide) h (by decide) _).trans (State.rxAlike_setSa _ (by decide) h (by decide) _)).trans
      (State.rxAlike_rxEvent _ (by decide) (Ne.symm h) (by decide) false)
  · exact s.rxAlike_setSa (by decide) h (by decide) _

/-- The retirement of a slot is armed for a time to come. -/
def State.rxArmed (s : State) (a at_ : Nat) : State :=
  ((({ s with fr.retireAt := s.fr.retireAt.set 0 a (at_ / ns * ns) }.set SAT_RX.RETIRE_ARMED a 1).set SAT_RX.RETIRE_AT_S a
    (bits (time96 at_) 48 32)).set SAT_RX.RETIRE_AT_NS a (bits (time96 at_) 16 30))

theorem State.rxArm_eq (s : State) (a at_ : Nat) : s.rxArm a at_ = if at_ ≤ s.now then s.rxRetire a else s.rxArmed a at_ := rfl

theorem State.rxArmed_state (s : State) (a at_ b : Nat) : (s.rxArmed a at_).get SAT_RX.STATE b = s.get SAT_RX.STATE b := by
  simp (disch := decide) only [State.rxArmed, State.get_set_field]
  exact (s.retireAt_moves _).get rfl b

theorem State.rxArmed_armed (s : State) (a at_ : Nat) : (s.rxArmed a at_).get SAT_RX.RETIRE_ARMED a = 1 := by
  simp (disch := decide) only [State.rxArmed, State.get_set_field, State.get_set_self]
  rfl

theorem State.rxArmed_time (s : State) (a at_ : Nat) : (s.rxArmed a at_).rxRetireAt a = at_ / ns * ns := Tab.get_set_self _ _ _ _

theorem State.rxArmed_other (s : State) (h : a / 2 ≠ c) (at_ : Nat) : s.rxAlike c (s.rxArmed a at_) := by
  refine ((State.rxAlike.trans (t := { s with fr.retireAt := s.fr.retireAt.set 0 a (at_ / ns * ns) }) ?_
    (State.rxAlike_setSa _ (by decide) h (by decide) _)).trans (State.rxAlike_setSa _ (by decide) h (by decide) _)).trans
    (State.rxAlike_setSa _ (by decide) h (by decide) _)
  exact ⟨(s.retireAt_moves _).alikeAt (by decide),
    fun b hb => (Tab.get_set _ _ _ _ _).trans (if_neg (fun e : b = a => h (by rw [← e, hb]))), rfl⟩

theorem State.rxArm_other (s : State) (h : a / 2 ≠ c) (at_ : Nat) : s.rxAlike c (s.rxArm a at_) := by
  rw [s.rxArm_eq]
  split
  · exact s.rxRetire_other h
  · exact s.rxArmed_other h at_

theorem State.rxArm_otherState (h : b ≠ a) : (s.rxArm a at_).get SAT_RX.STATE b = s.get SAT_RX.STATE b := by
  rw [s.rxArm_eq]
  split
  · exact State.rxRetire_otherState h
  · exact s.rxArmed_state a at_ b

/-- The slot retires at once, or its retirement is armed. -/
theorem State.rxArm_outcome (h : s.get SAT_RX.STATE a = saACTIVE) :
    if at_ ≤ s.now then (s.rxArm a at_).get SAT_RX.STATE a = saRETIRED
    else (s.rxArm a at_).get SAT_RX.STATE a = saACTIVE ∧ (s.rxArm a at_).get SAT_RX.RETIRE_ARMED a = 1 ∧
      (s.rxArm a at_).rxRetireAt a = at_ / ns * ns := by
  rw [s.rxArm_eq]
  split
  · exact State.rxRetire_of_active h
  · exact ⟨(s.rxArmed_state a at_ a).trans h, s.rxArmed_armed a at_, s.rxArmed_time a at_⟩

end

/-! An activation request (R104, R105). -/

section
variable {s : State} {c d : Nat}

/-- Fields that an activation request moves. -/
abbrev activateMoves : List Fld := [SAT_RX.STATE, SAT_RX.FLOOR, SCT_RX.CUR, SCT_RX.EV_SWITCH, SAT_RX.RETIRE_ARMED,
  SAT_RX.RETIRE_AT_S, SAT_RX.RETIRE_AT_NS, SCT_RX.EV_RETIRE, SCT_RX.EV_NO_SA, ICU_PORT.WAKE]

/-- The request of a manually keyed channel. -/
theorem State.rxActivateReq_manual (hk : s.on SCT_RX.KEYING c = false) : s.rxActivateReq c =
    if s.get SAT_RX.STATE (s.rxOth c) = saREADY then
      if (s.rxActivate (s.rxOth c)).get SAT_RX.STATE (s.rxCur c) = saACTIVE then
        (s.rxActivate (s.rxOth c)).rxArm (s.rxCur c) (s.now + s.overlapOf c)
      else s.rxActivate (s.rxOth c)
    else s.rxEvent true SCT_RX.EV_NO_SA c := by
  have m := s.rxActivate_moves (s.rxOth c)
  have e : (s.rxActivate (s.rxOth c)).now + (s.rxActivate (s.rxOth c)).overlapOf c = s.now + s.overlapOf c := by
    rw [State.overlapOf, m.get rfl, m.parts .now rfl, State.overlapOf]
  rw [← e, State.rxActivateReq, if_neg (by simp [hk])]
  rfl

theorem State.rxActivateReq_autonomous (hk : s.on SCT_RX.KEYING c = true) : s.rxActivateReq c = s := by
  rw [State.rxActivateReq, if_pos hk]

theorem State.rxActivateReq_moves (s : State) (c : Nat) : Moves activateMoves [.ic, .out, .retireAt] s (s.rxActivateReq c) := by
  by_cases hk : s.on SCT_RX.KEYING c = true
  · rw [State.rxActivateReq_autonomous hk]
    exact .refl
  · rw [State.rxActivateReq_manual (by simpa using hk)]
    have h : Moves activateMoves [.ic, .out, .retireAt] s (s.rxActivate (s.rxOth c)) := (s.rxActivate_moves _).mono rfl rfl
    exact .ite (.ite (h.also (State.rxArm_moves _ _ _) rfl rfl) h) ((s.rxEvent_moves true SCT_RX.EV_NO_SA c).mono rfl rfl)

/-- An activation request does what R102 and R104 say. -/
theorem State.rxActivateReq_activated (hk : s.on SCT_RX.KEYING c = false) : s.activated (s.rxActivateReq c) c := by
  rw [State.rxActivateReq_manual hk]
  unfold State.activated
  by_cases hr : s.get SAT_RX.STATE (s.rxOth c) = saREADY
  · rw [if_pos hr, if_pos hr]
    generalize hu : s.rxActivate (s.rxOth c) = u
    have hst : u.get SAT_RX.STATE (s.rxOth c) = saACTIVE := hu ▸ s.rxActivate_state _
    have hfl : u.get SAT_RX.FLOOR (s.rxOth c) = s.get SAT_RX.NEXT_PN (s.rxOth c) := hu ▸ s.rxActivate_floor _
    have hold : u.get SAT_RX.STATE (s.rxCur c) = s.get SAT_RX.STATE (s.rxCur c) :=
      hu ▸ State.rxActivate_otherState (s.rxCur_ne_rxOth c)
    have hcur : u.get SCT_RX.CUR c = 1 - s.get SCT_RX.CUR c := by
      have h := s.rxActivate_cur (s.rxOth c)
      rw [s.rxOth_div, hu] at h
      rw [h, State.rxOth]
      omega
    rw [hold]
    split
    · rename_i ha
      have m := u.rxArm_moves (s.rxCur c) (s.now + s.overlapOf c)
      refine ⟨?_, (m.get rfl c).trans hcur, (m.get rfl _).trans hfl, fun _ => ?_⟩
      · rw [State.rxArm_otherState (s.rxCur_ne_rxOth c).symm, hst]
      · have h := State.rxArm_outcome (at_ := s.now + s.overlapOf c) (hold.trans ha)
        have hn : u.now = s.now := hu ▸ (s.rxActivate_moves _).parts .now rfl
        have hz : s.now + s.overlapOf c ≤ u.now ↔ s.get SCT_RX.OVERLAP c = 0 := by
          rw [hn, State.overlapOf]
          simp [us, ns]
        simpa only [hz] using h
    · rename_i ha
      exact ⟨hst, hcur, hfl, fun h => absurd h ha⟩
  · rw [if_neg hr, if_neg hr]
    have m := s.rxEvent_moves true SCT_RX.EV_NO_SA c
    exact ⟨State.rxEvent_set _ _ _ rfl (by decide), m.get rfl _, m.get rfl _, m.get rfl _⟩

/-- An activation request of another channel. -/
theorem State.rxActivateReq_other (s : State) (h : d ≠ c) : s.rxAlike c (s.rxActivateReq d) := by
  by_cases hk : s.on SCT_RX.KEYING d = true
  · rw [State.rxActivateReq_autonomous hk]
    exact .refl
  · have ho : s.rxOth d / 2 ≠ c := by rwa [s.rxOth_div]
    have hc : s.rxCur d / 2 ≠ c := by rwa [s.rxCur_div]
    rw [State.rxActivateReq_manual (by simpa using hk)]
    split
    · split
      · exact (s.rxActivate_other ho).trans (State.rxArm_other _ hc _)
      · exact s.rxActivate_other ho
    · exact s.rxAlike_rxEvent (by decide) h.symm (by decide) true

theorem State.rxActivateGroup_moves (s : State) (g : Nat) : Moves activateMoves [.ic, .out, .retireAt] s (s.rxActivateGroup g) :=
  Moves.each .refl (fun a u => u.rxActivateReq_moves a)

/-- A group activation makes the activation of each manually keyed channel of the group (R105). -/
theorem State.rxActivateGroup_activated {g : Nat} (hc : c < 4096) (hg : s.get SCT_RX.GROUP c = g)
    (hk : s.on SCT_RX.KEYING c = false) : s.activated (s.rxActivateGroup g) c := by
  have hm : c ∈ s.rxGroup g := by simp [State.rxGroup, mem_upto, hc, hg]
  have hn : (s.rxGroup g).Nodup := List.Nodup.filter _ (List.nodup_range)
  obtain ⟨u, h1, h2⟩ := State.each_at (R := State.rxAlike c) (fun _ => .refl) (fun _ _ _ h k => h.trans k)
    (g := fun c s => s.rxActivateReq c) (fun a v ha => v.rxActivateReq_other ha) hn hm s
  refine State.activated_of_alike h1 h2 (State.rxActivateReq_activated ?_)
  rw [State.on, h1.fields.1 SCT_RX.KEYING (by simp)]
  exact hk

end

/-! SA_SWITCH firings (R141). -/

theorem State.rejectGauge_moves (s : State) (cause : Nat) (bar2 : Bool) (off : Nat) :
    Moves rejectMoves [.ic, .out, .wraps] s (s.reject .gauge cause bar2 off) := by
  rw [State.reject, if_neg (by simp)]
  exact (((Moves.refl.also (s.count_moves GLB_CFG_REJECT.V _ 1) rfl rfl).also
    (State.set_moves _ GLB_CFG_REJECT_LAST.OFFSET _ _) rfl rfl).also
    (State.set_moves _ GLB_CFG_REJECT_LAST.WINDOW _ _) rfl rfl).also (State.set_moves _ GLB_CFG_REJECT_LAST.CAUSE _ _) rfl rfl

theorem State.rejectGauge_cause (s : State) (cause : Nat) (bar2 : Bool) (off : Nat) :
    (s.reject .gauge cause bar2 off).get GLB_CFG_REJECT_LAST.CAUSE Writer.gauge.rejIdx = cause % 16 := by
  rw [State.reject, if_neg (by simp)]
  exact State.get_set_self _ _ _ _

section
variable {s : State} {i : Fin 1024} {c : Nat}

/-- A firing of the SCOPE that its command names. -/
theorem saFire_exec {fs : List Fld} {ps : List Part} {act : State → State} {scope : Nat} (h : s.fires i.val 3)
    (hs : s.get GAU_ENT.SCOPE i.val = scope) (m : Moves fs ps (s.gauFire i.val) (act (s.gauFire i.val)))
    (hf : listed fs GAU_ENT.FIRED.id = false) (hp : ps.contains .ga = false)
    (hc : [Part.egress, .ingress, .carTx, .alarms].all (fun p => !ps.contains p) = true) :
    finish (s.saFire i.val scope act) = .next (act (s.gauFire i.val)).closed ∧ s.firedIn (act (s.gauFire i.val)).closed i.val := by
  rw [State.saFire, if_pos hs]
  exact gauAct_exec i.isLt h m hf hp (m.calm hc).trans

/-- A switch of a channel of the state that a firing leaves. -/
theorem State.switched_of_fired {u : State} (h : (s.gauFire i.val).switched u c) : s.switched u.closed c :=
  State.switched_of_alike ((s.gauFire_moves i.val).alikeAt (by decide)) (u.closed_moves.alikeAt (by decide)) h

theorem State.activated_of_fired {u : State} (h : (s.gauFire i.val).activated u c) : s.activated u.closed c :=
  State.activated_of_alike ((s.gauFire_moves i.val).rxAlike (by decide) (by decide)) (u.closed_moves.rxAlike (by decide) (by decide)) h

theorem saSwitchTxSc_switches (h : s.fires i.val 3) (ht : s.get GAU_ENT.TARGET i.val = c) (hs : s.get GAU_ENT.SCOPE i.val = 0) :
    ∃ t, exec (.saSwitchTxSc i) s = .next t ∧ s.firedIn t i.val ∧ (s.on SCT_TX.KEYING c = false → s.switched t c) ∧
      (s.on SCT_TX.KEYING c = true → t.get GLB_CFG_REJECT_LAST.CAUSE Writer.gauge.rejIdx = 3 ∧
        t.get SCT_TX.CUR c = s.get SCT_TX.CUR c) := by
  have mf := s.gauFire_moves i.val
  have m : Moves (rejectMoves ++ SCT_TX.EV_SWITCH_MISS :: exhaustMoves) countParts (s.gauFire i.val)
      ((s.gauFire i.val).txSwitchOne .gauge c (reg_GAU_ENT.offset i.val 0)) :=
    .ite ((State.rejectGauge_moves _ _ _ _).mono rfl rfl) ((State.switchReq_moves _ _).mono rfl rfl)
  obtain ⟨he, hf⟩ := saFire_exec (act := fun t => t.txSwitchOne .gauge c (reg_GAU_ENT.offset i.val 0)) h hs m rfl rfl rfl
  refine ⟨_, ?_, hf, fun hk => ?_, fun hk => ?_⟩
  · rw [← he, ← ht]
    rfl
  · rw [State.txSwitchOne, mf.on rfl, hk, if_neg (by decide)]
    exact State.switched_of_fired (State.switchReq_switched _ _)
  · rw [State.txSwitchOne, mf.on rfl, hk, if_pos rfl]
    rw [State.closed_get _ rfl, State.rejectGauge_cause, State.closed_get _ rfl, (State.rejectGauge_moves _ _ _ _).get rfl,
      mf.get rfl]
    exact ⟨rfl, rfl⟩

theorem saSwitchTxGroup_switches (h : s.fires i.val 3) (ht : s.get GAU_ENT.TARGET i.val = c) (hs : s.get GAU_ENT.SCOPE i.val = 1) :
    ∃ t, exec (.saSwitchTxGroup i) s = .next t ∧ s.firedIn t i.val ∧
      ∀ x < 4096, s.get SCT_TX.GROUP x = c → s.on SCT_TX.KEYING x = false → s.switched t x := by
  have mf := s.gauFire_moves i.val
  obtain ⟨he, hf⟩ := saFire_exec (act := fun t => t.txSwitchGroup c) h hs (State.txSwitchGroup_moves _ _) rfl rfl rfl
  refine ⟨_, ?_, hf, fun x hx hg hk => ?_⟩
  · rw [← he, ← ht]
    rfl
  · exact State.switched_of_fired (State.txSwitchGroup_switched hx ((mf.get rfl x).trans hg) ((mf.on rfl x).trans hk))

theorem saSwitchRxSc_activates (h : s.fires i.val 3) (ht : s.get GAU_ENT.TARGET i.val = c) (hs : s.get GAU_ENT.SCOPE i.val = 2) :
    ∃ t, exec (.saSwitchRxSc i) s = .next t ∧ s.firedIn t i.val ∧ (s.on SCT_RX.KEYING c = false → s.activated t c) ∧
      (s.on SCT_RX.KEYING c = true → t.get SCT_RX.CUR c = s.get SCT_RX.CUR c) := by
  have mf := s.gauFire_moves i.val
  obtain ⟨he, hf⟩ := saFire_exec (act := fun t => t.rxActivateReq c) h hs (State.rxActivateReq_moves _ _) rfl rfl rfl
  refine ⟨_, ?_, hf, fun hk => ?_, fun hk => ?_⟩
  · rw [← he, ← ht]
    rfl
  · exact State.activated_of_fired (State.rxActivateReq_activated ((mf.on rfl c).trans hk))
  · rw [State.closed_get _ rfl, State.rxActivateReq_autonomous ((mf.on rfl c).trans hk), mf.get rfl]

theorem saSwitchRxGroup_activates (h : s.fires i.val 3) (ht : s.get GAU_ENT.TARGET i.val = c) (hs : s.get GAU_ENT.SCOPE i.val = 3) :
    ∃ t, exec (.saSwitchRxGroup i) s = .next t ∧ s.firedIn t i.val ∧
      ∀ x < 4096, s.get SCT_RX.GROUP x = c → s.on SCT_RX.KEYING x = false → s.activated t x := by
  have mf := s.gauFire_moves i.val
  obtain ⟨he, hf⟩ := saFire_exec (act := fun t => t.rxActivateGroup c) h hs (State.rxActivateGroup_moves _ _) rfl rfl rfl
  refine ⟨_, ?_, hf, fun x hx hg hk => ?_⟩
  · rw [← he, ← ht]
    rfl
  · exact State.activated_of_fired (State.rxActivateGroup_activated hx ((mf.get rfl x).trans hg) ((mf.on rfl x).trans hk))

end

/-- Settles O28: each SCOPE's firing makes its request on the state that the firing leaves. -/
theorem gaugeSwitches : Obligations.GaugeSwitches := fun _ _ _ h ht =>
  ⟨fun hs => saSwitchTxSc_switches h ht hs, fun hs => saSwitchTxGroup_switches h ht hs,
    fun hs => saSwitchRxSc_activates h ht hs, fun hs => saSwitchRxGroup_activates h ht hs⟩

end Sys2Proof.Machine
end

/-! VALID of a secure channel rises and falls (R72, R74, R99). -/
section
namespace Sys2Proof.Machine

/-! States alike on the fields of an entry stay so through a word write. -/

/-- Two states agree on the fields fs of one entry. -/
abbrev State.alikeOn (fs : List Fld) (i : Nat) (s t : State) : Prop := ∀ f ∈ fs, t.get f i = s.get f i

section
variable {fs : List Fld} {i : Nat} {s t : State}

theorem Moves.alikeOn {hs : List Fld} {ps : List Part} (m : Moves hs ps s t) (h : fs.all (fun f => !listed hs f.id) = true) :
    s.alikeOn fs i t := fun f hf => m.get (by simpa using List.all_eq_true.mp h f hf) i

theorem State.alikeOn.set (h : s.alikeOn fs i t) (f : Fld) {a b : Nat} (e : b = a) :
    (s.set f i a).alikeOn fs i (t.set f i b) := by
  intro g hg
  rw [State.get_set, State.get_set, e, h g hg]

theorem State.alikeOn.writeField (h : s.alikeOn fs i t) {f : Fld} (hf : f ∈ fs) (a b w v : Nat) :
    (s.writeField f i a b w v).1.alikeOn fs i (t.writeField f i a b w v).1 := by
  unfold State.writeField
  simp only [h f hf]
  cases f.acc
  case rw =>
    simp only
    split <;> exact h.set f rfl
  case w1c => exact h.set f rfl
  case w1s => exact h.set f rfl
  all_goals exact h

theorem State.alikeOn.writeWord (h : s.alikeOn fs i t) {r : Reg} (hr : ∀ x ∈ r.fields, x.2 ∈ fs) (w v : Nat) :
    (s.writeWord r i w v).1.alikeOn fs i (t.writeWord r i w v).1 := by
  rw [s.writeWord_eq_each, t.writeWord_eq_each]
  have hm : ∀ x ∈ r.inWord w, x.1 ∈ fs := fun x hx => by
    obtain ⟨lo, hm⟩ := Reg.fields_of_inWord hx
    exact hr _ hm
  generalize r.inWord w = l at hm
  induction l generalizing s t with
  | nil => exact h
  | cons x l ih =>
    exact ih (h.writeField (hm x List.mem_cons_self) _ _ _ _) (fun y hy => hm y (List.mem_cons_of_mem _ hy))

end

/-- A word write that changes none of some fields does so where the hints of an access have moved. -/
theorem State.writeWord_same {s t : State} {ps : List Part} (m : Moves hintMoves ps s t) (r : Reg) (c v : Nat) (l : List Fld)
    (h : (l ++ r.fields.map (·.2)).all (fun f => !listed hintMoves f.id) = true) :
    l.all (fun f => (t.writeWord r c 0 v).1.get f c == t.get f c) = l.all (fun f => (s.writeWord r c 0 v).1.get f c == s.get f c) := by
  have hm : s.alikeOn (l ++ r.fields.map (·.2)) c t := m.alikeOn h
  have hw := hm.writeWord (r := r) (fun x hx => List.mem_append_right _ (List.mem_map.mpr ⟨x, hx, rfl⟩)) 0 v
  rw [Bool.eq_iff_iff, List.all_eq_true, List.all_eq_true]
  refine forall₂_congr (fun f hf => ?_)
  rw [hw f (List.mem_append_left _ hf), hm f (List.mem_append_left _ hf)]

/-- Some of the fields changes where not all of them stay. -/
theorem any_bne_eq (l : List Fld) (a b : Fld → Nat) : l.any (fun f => a f != b f) = !l.all (fun f => a f == b f) := by
  simp [List.all_eq_not_any_not, bne]

/-! A channel joins its schedule (R237). -/

section
variable (s : State)

theorem State.passOver_moves (j : Nat) (tx rx : List Nat) : Moves [GAU_SCH.FAILS] [.au] s (s.passOver j tx rx) :=
  .ite .refl (.ite (Moves.refl.also (s.au_moves _) rfl rfl) ((Moves.refl.also (s.set_moves GAU_SCH.FAILS j 0) rfl rfl).also
    (State.au_moves _ _) rfl rfl))

theorem State.passOne_moves (d : Dir) (c j : Nat) : Moves [GAU_SCH.FAILS] [.au] s (s.passOne d c j) := by
  cases d
  · exact .ite (s.passOver_moves j [c] []) .refl
  · exact .ite (s.passOver_moves j [] [c]) .refl

theorem State.scJoins_moves (old : State) (d : Dir) (c : Nat) : Moves [GAU_SCH.FAILS] [.au] s (s.scJoins old d c) :=
  .ite ((Moves.refl.also (s.au_moves _) rfl rfl).trans (State.passOne_moves _ d c _)) .refl

theorem State.scJoins_of_valid {old : State} {d : Dir} {c : Nat}
    (h : old.on (match d with | .eg => SCT_TX.VALID | .ig => SCT_RX.VALID) c = true) : s.scJoins old d c = s :=
  if_neg (by rintro ⟨h0, -⟩; exact Bool.noConfusion (h0.symm.trans h))

/-- The queues of a channel move to the lists of another port. -/
theorem State.queueMove_moves (c : Nat) : Moves [] [.queues, .drr] s (s.queueMove c) :=
  Moves.each .refl (fun q u => .ite .refl ((u.leaveList_moves q).trans (State.joinList_moves _ q)))

end

/-! VALID of a transmit channel rises (R72, R74). -/

section
variable {s : State} {c : Nat}

theorem State.autoSwitch_of_active (h : s.get SAT_TX.STATE (s.curSa c) = saACTIVE) : s.autoSwitch c = s := by
  rw [State.autoSwitch]
  exact if_neg (by rw [h]; rintro ⟨-, hs, -⟩; revert hs; decide)

/-- Slot 0 is made current, an ACTIVE or EXHAUSTED slot 1 RETIRED. -/
def State.txFirst (s : State) (c : Nat) : State :=
  let st := s.get SAT_TX.STATE (2 * c + 1)
  let s := if s.on SCT_TX.CUR c ∧ (st = saACTIVE ∨ st = saEXHAUSTED) then s.set SAT_TX.STATE (2 * c + 1) saRETIRED else s
  s.set SCT_TX.CUR c 0

theorem State.txFirst_moves (s : State) (c : Nat) : Moves [SAT_TX.STATE, SCT_TX.CUR] [] s (s.txFirst c) :=
  (Moves.ite (Moves.refl.also (s.set_moves SAT_TX.STATE _ _) rfl rfl) .refl).also (State.set_moves _ SCT_TX.CUR c 0) rfl rfl

theorem State.txValidOn_eq (s : State) (c : Nat) : s.txValidOn c =
    (if (s.txFirst c).get SAT_TX.STATE (2 * c) = saREADY then ((s.txFirst c).set SAT_TX.STATE (2 * c) saACTIVE).autFirst c
      else s.txFirst c).autoSwitch c := rfl

theorem State.txValidOn_moves (s : State) (c : Nat) : Moves exhaustMoves countParts s (s.txValidOn c) := by
  have h : Moves exhaustMoves countParts s (s.txFirst c) := (s.txFirst_moves c).mono rfl rfl
  rw [s.txValidOn_eq]
  exact (Moves.ite ((h.also (State.set_moves _ SAT_TX.STATE _ _) rfl rfl).also (State.autFirst_moves _ c) rfl rfl) h).trans
    (State.autoSwitch_moves _ c)

/-- A READY key in slot 0 becomes ACTIVE and slot 0 current. -/
theorem State.txValidOn_ready (h : s.get SAT_TX.STATE (2 * c) = saREADY) :
    (s.txValidOn c).get SAT_TX.STATE (2 * c) = saACTIVE ∧ (s.txValidOn c).get SCT_TX.CUR c = 0 := by
  have hst : (s.txFirst c).get SAT_TX.STATE (2 * c) = saREADY := by
    simp only [State.txFirst]
    split
    · rw [State.get_set_field _ (by decide), State.get_set_index _ _ (by omega), h]
    · rw [State.get_set_field _ (by decide), h]
  have hcur : (s.txFirst c).get SCT_TX.CUR c = 0 := State.get_set_self _ _ _ _
  generalize hu : ((s.txFirst c).set SAT_TX.STATE (2 * c) saACTIVE).autFirst c = u
  have ha : u.get SAT_TX.STATE (2 * c) = saACTIVE := by
    rw [← hu, (State.autFirst_moves _ c).get rfl, State.get_set_self]
    rfl
  have hc : u.get SCT_TX.CUR c = 0 := by
    rw [← hu, (State.autFirst_moves _ c).get rfl, State.get_set_field _ (by decide), hcur]
  rw [s.txValidOn_eq, if_pos hst, hu, State.autoSwitch_of_active (by rw [State.curSa, hc]; exact ha)]
  exact ⟨ha, hc⟩

/-! VALID of a receive channel rises (R99). -/

theorem State.rxValidOn_moves (s : State) (c : Nat) : Moves rxActivateMoves [.ic, .out] s (s.rxValidOn c) := by
  have h : Moves rxActivateMoves [.ic, .out] s (s.set SCT_RX.CUR c 0) := Moves.refl.also (s.set_moves SCT_RX.CUR c 0) rfl rfl
  exact .ite (h.trans (State.rxActivate_moves _ _)) h

theorem State.rxValidOn_ready (h : s.get SAT_RX.STATE (2 * c) = saREADY) :
    (s.rxValidOn c).get SAT_RX.STATE (2 * c) = saACTIVE ∧ (s.rxValidOn c).get SCT_RX.CUR c = 0 := by
  have hst : (s.set SCT_RX.CUR c 0).get SAT_RX.STATE (2 * c) = saREADY := by rw [State.get_set_field _ (by decide), h]
  have e : s.rxValidOn c = (s.set SCT_RX.CUR c 0).rxActivate (2 * c) := if_pos hst
  have hc := (s.set SCT_RX.CUR c 0).rxActivate_cur (2 * c)
  rw [show 2 * c / 2 = c by omega, show 2 * c % 2 = 0 by omega] at hc
  rw [e]
  exact ⟨State.rxActivate_state _ _, hc⟩

end

/-! A write of word 0 of a channel, of either direction. -/

/-- The table of a direction's secure channels, the field VALID, the current slot, STATE of its SAs, and the fields that a
valid channel locks. -/
def scTable : Dir → Reg
  | .eg => reg_SCT_TX
  | .ig => reg_SCT_RX
def scValid : Dir → Fld
  | .eg => SCT_TX.VALID
  | .ig => SCT_RX.VALID
def scCur : Dir → Fld
  | .eg => SCT_TX.CUR
  | .ig => SCT_RX.CUR
def scState : Dir → Fld
  | .eg => SAT_TX.STATE
  | .ig => SAT_RX.STATE
def scLocked : Dir → List Fld
  | .eg => txLocked
  | .ig => rxLocked

/-- VALID goes from 0 to 1. -/
def State.scRaised (s : State) (d : Dir) (c : Nat) : State :=
  match d with
  | .eg => s.txValidOn c
  | .ig => s.rxValidOn c

/-- The write of word 0. -/
def State.scWrite (s : State) (d : Dir) (w : Writer) (c v : Nat) : State :=
  match d with
  | .eg => s.txScWrite w c 0 v
  | .ig => s.rxScWrite w c 0 v

/-- The write of word 0 with all that follows it. -/
def State.scPut (s : State) (d : Dir) (w : Writer) (c v : Nat) : State :=
  match d with
  | .eg => s.txScPut w c 0 v
  | .ig => s.rxScPut w c 0 v

/-- A port's write of word 0. -/
def State.scCmd (s : State) (d : Dir) (p c v : Nat) : State :=
  s.onWrite p false ((scTable d).offset c 0) (fun s => s.scPut d (.port p) c v)

/-- The word leaves the fields that a valid channel locks. -/
def State.scSame (s : State) (d : Dir) (c v : Nat) : Bool :=
  (scLocked d).all (fun f => (s.writeWord (scTable d) c 0 v).1.get f c == s.get f c)

section
variable {s : State} {d : Dir} {p c v : Nat}

/-- Fields that the rise of VALID moves. -/
abbrev raiseMoves : List Fld := exhaustMoves ++ rxActivateMoves

theorem State.scRaised_moves (s : State) (d : Dir) (c : Nat) : Moves raiseMoves countParts s (s.scRaised d c) := by
  cases d
  · exact (s.txValidOn_moves c).mono rfl rfl
  · exact (s.rxValidOn_moves c).mono rfl rfl

theorem State.scRaised_ready (h : s.get (scState d) (2 * c) = saREADY) :
    (s.scRaised d c).get (scState d) (2 * c) = saACTIVE ∧ (s.scRaised d c).get (scCur d) c = 0 := by
  cases d
  · exact State.txValidOn_ready h
  · exact State.rxValidOn_ready h

/-- A write that no lock forbids. -/
theorem State.scFree {f : Fld} {l : List Fld} {n : State}
    (h : s.on f c = false ∨ l.all (fun g => n.get g c == s.get g c) = true) :
    ¬(s.on f c = true ∧ l.any (fun g => n.get g c != s.get g c) = true) := by
  rw [any_bne_eq]
  rcases h with h | h <;> simp [h]

theorem State.scLocks {f : Fld} {l : List Fld} {n : State} (hv : s.on f c = true)
    (h : l.all (fun g => n.get g c == s.get g c) = false) :
    s.on f c = true ∧ l.any (fun g => n.get g c != s.get g c) = true :=
  ⟨hv, by rw [any_bne_eq, h]; rfl⟩

/-- A word that no lock forbids is taken, up to a refusal of its reserved encodings; VALID rises with it. -/
theorem State.scWrite_taken (h : s.on (scValid d) c = false ∨ s.scSame d c v = true) :
    ∃ m, Moves rejectMoves [.ic, .out, .wraps] (s.writeWord (scTable d) c 0 v).1 m ∧ s.scWrite d (.port p) c v =
      if s.on (scValid d) c = false ∧ (s.writeWord (scTable d) c 0 v).1.on (scValid d) c = true then m.scRaised d c else m := by
  have mm : ∀ (n : State) (b : Bool) (off : Nat),
      Moves rejectMoves [.ic, .out, .wraps] n (if b then n.reject (.port p) 1 false off else n) :=
    fun n b off => .ite (n.reject_moves p 1 false off) .refl
  cases d
  · have hl := State.scFree h
    have hm := mm (s.writeWord reg_SCT_TX c 0 v).1 (s.writeWord reg_SCT_TX c 0 v).2 (0x300000 + 128 * c + 4 * 0)
    refine ⟨_, hm, ?_⟩
    have hon : _ = (s.writeWord (scTable .eg) c 0 v).1.on (scValid .eg) c := hm.on (f := scValid .eg) rfl c
    rw [← hon]
    have h6 : ((0 : Nat) == 6 || (0 : Nat) == 7) = false := by decide
    refine (if_neg hl).trans ?_
    simp only [h6, Bool.false_and, Bool.or_false, Bool.false_eq_true, if_false]
    rfl
  · have hl := State.scFree h
    have hm := mm (s.writeWord reg_SCT_RX c 0 v).1 (s.writeWord reg_SCT_RX c 0 v).2 (0x380000 + 128 * c + 4 * 0)
    refine ⟨_, hm, ?_⟩
    have hon : _ = (s.writeWord (scTable .ig) c 0 v).1.on (scValid .ig) c := hm.on (f := scValid .ig) rfl c
    rw [← hon]
    exact if_neg hl

/-- A word that would change a locked field is refused. -/
theorem State.scWrite_refused (hv : s.on (scValid d) c = true) (h : s.scSame d c v = false) :
    ∃ off, s.scWrite d (.port p) c v = s.reject (.port p) 2 false off := by
  cases d
  · exact ⟨_, if_pos (State.scLocks hv h)⟩
  · exact ⟨_, if_pos (State.scLocks hv h)⟩

theorem State.scWord_valid (s : State) (d : Dir) (c v : Nat) : (s.writeWord (scTable d) c 0 v).1.get (scValid d) c = v % 2 := by
  cases d
  · exact (State.writeWord_whole (r := reg_SCT_TX) (f := SCT_TX.VALID) (by decide) (wlo := 0) (by decide) rfl (by decide) s c v).trans
      (by simp [bits, SCT_TX.VALID, Fld.allows])
  · exact (State.writeWord_whole (r := reg_SCT_RX) (f := SCT_RX.VALID) (by decide) (wlo := 0) (by decide) rfl (by decide) s c v).trans
      (by simp [bits, SCT_RX.VALID, Fld.allows])

/-- The slots' states are in another table. -/
theorem State.scWord_state (s : State) (d : Dir) (c v a : Nat) :
    (s.writeWord (scTable d) c 0 v).1.get (scState d) a = s.get (scState d) a := by
  cases d
  · exact (s.writeWord_moves reg_SCT_TX c 0 v).get (by decide) a
  · exact (s.writeWord_moves reg_SCT_RX c 0 v).get (by decide) a

/-- What follows a channel's own write: the passes of its schedule, and the lists of its queues. -/
theorem State.scPut_moves (s : State) (d : Dir) (w : Writer) (c v : Nat) :
    Moves [GAU_SCH.FAILS] [.au, .queues, .drr] (s.scWrite d w c v) (s.scPut d w c v) := by
  have h : ∀ u : State, Moves [GAU_SCH.FAILS] [.au, .queues, .drr] u (u.scJoins s d c) :=
    fun u => (u.scJoins_moves s d c).mono rfl rfl
  cases d
  · exact .ite (h _) ((h _).also (State.queueMove_moves _ c) rfl rfl)
  · exact h _

/-- Nothing follows the refusal of a valid channel's word. -/
theorem State.scPut_refused (hv : s.on (scValid d) c = true) {off : Nat}
    (h : s.scWrite d (.port p) c v = s.reject (.port p) 2 false off) :
    s.scPut d (.port p) c v = s.reject (.port p) 2 false off := by
  cases d
  · have hj : (s.txScWrite (.port p) c 0 v).scJoins s .eg c = s.reject (.port p) 2 false off :=
      (State.scJoins_of_valid (d := .eg) _ hv).trans h
    change (if ((s.txScWrite (.port p) c 0 v).scJoins s .eg c).get SCT_TX.LPORT c = s.get SCT_TX.LPORT c then
      (s.txScWrite (.port p) c 0 v).scJoins s .eg c else ((s.txScWrite (.port p) c 0 v).scJoins s .eg c).queueMove c) = _
    rw [hj, if_pos ((State.reject_moves _ _ _ _ _).get rfl c)]
  · exact (State.scJoins_of_valid (d := .ig) _ hv).trans h

/-- The fields of a channel that are spoken of here, and those that the hints of an access, a refusal and the end of a
command move. -/
theorem scFields_apart (d : Dir) : ∀ f ∈ [scValid d, scState d, scCur d],
    closeMoves f = false ∧ listed hintMoves f.id = false ∧ listed rejectMoves f.id = false ∧ listed [GAU_SCH.FAILS] f.id = false := by
  cases d <;> decide

theorem scValid_raise (d : Dir) : listed raiseMoves (scValid d).id = false := by cases d <;> decide

theorem State.scSame_granted (s : State) (d : Dir) (p c v : Nat) : (s.granted p false).scSame d c v = s.scSame d c v := by
  cases d
  · exact State.writeWord_same (s.granted_moves p false) reg_SCT_TX c v txLocked (by decide)
  · exact State.writeWord_same (s.granted_moves p false) reg_SCT_RX c v rxLocked (by decide)

theorem State.scWord_calm (s : State) (d : Dir) (p c v : Nat) :
    ((s.granted p false).writeWord (scTable d) c 0 v).1.calm = s.calm :=
  ((State.writeWord_moves _ _ _ _ _).calm rfl).trans (s.calm_granted p false)

end

/-! The commands that raise and clear VALID. -/

section
variable {s : State} {d : Dir} {p c v : Nat} (hw : s.mayWrite p false ((scTable d).offset c 0))
include hw

theorem State.scCmd_granted : s.scCmd d p c v = (s.granted p false).scPut d (.port p) c v :=
  State.onWrite_of_admits s p false _ _ hw.1

/-- VALID rises: a READY key of slot 0 becomes ACTIVE and slot 0 current. -/
theorem scCmd_raises (h1 : v % 2 = 1) (hv : s.on (scValid d) c = false) :
    ∃ t, finish (s.scCmd d p c v) = .next t ∧ t.get (scValid d) c = 1 ∧
      (s.get (scState d) (2 * c) = saREADY → t.get (scState d) (2 * c) = saACTIVE ∧ t.get (scCur d) c = 0) := by
  obtain ⟨⟨kv, gv, rv, fv⟩, ⟨ks, gs, rs, fs⟩, ⟨kc, -, -, fc⟩⟩ := by simpa using scFields_apart d
  have mg := s.granted_moves p false
  have hg : (s.granted p false).on (scValid d) c = false := (mg.on gv _).trans hv
  have hn := (s.granted p false).scWord_valid d c v
  obtain ⟨m, mm, hm⟩ := State.scWrite_taken (p := p) (v := v) (.inl hg)
  rw [if_pos ⟨hg, by rw [State.on, hn, h1]; rfl⟩] at hm
  have mr := m.scRaised_moves d c
  have mp := (s.granted p false).scPut_moves d (.port p) c v
  rw [hm] at mp
  refine ⟨((s.granted p false).scPut d (.port p) c v).closed, ?_, ?_, fun hr => ?_⟩
  · rw [State.scCmd_granted hw, finish_calm _]
    rw [mp.calm rfl, mr.calm rfl, mm.calm rfl, s.scWord_calm, hw.2]
  · rw [State.closed_get _ kv, mp.get fv, mr.get (scValid_raise d), mm.get rv, hn, h1]
  · rw [State.closed_get _ ks, State.closed_get _ kc, mp.get fs, mp.get fc]
    exact State.scRaised_ready (by rw [mm.get rs, State.scWord_state, mg.get gs, hr])

/-- VALID falls with the locked fields as they are: the slots stay. -/
theorem scCmd_clears (h0 : v % 2 = 0) (hv : s.on (scValid d) c = true) (hs : s.scSame d c v = true) :
    ∃ t, finish (s.scCmd d p c v) = .next t ∧ t.get (scValid d) c = 0 ∧ ∀ a, t.get (scState d) a = s.get (scState d) a := by
  obtain ⟨⟨kv, gv, rv, fv⟩, ⟨ks, gs, rs, fs⟩, -⟩ := by simpa using scFields_apart d
  have mg := s.granted_moves p false
  have hg : (s.granted p false).on (scValid d) c = true := (mg.on gv _).trans hv
  have hn := (s.granted p false).scWord_valid d c v
  obtain ⟨m, mm, hm⟩ := State.scWrite_taken (p := p) (v := v) (.inr ((s.scSame_granted d p c v).trans hs))
  rw [if_neg (by simp [hg])] at hm
  have mp := (s.granted p false).scPut_moves d (.port p) c v
  rw [hm] at mp
  refine ⟨((s.granted p false).scPut d (.port p) c v).closed, ?_, ?_, fun a => ?_⟩
  · rw [State.scCmd_granted hw, finish_calm _]
    rw [mp.calm rfl, mm.calm rfl, s.scWord_calm, hw.2]
  · rw [State.closed_get _ kv, mp.get fv, mm.get rv, hn, h0]
  · rw [State.closed_get _ ks, mp.get fs, mm.get rs, State.scWord_state, mg.get gs]

/-- A word that would change a locked field of a valid channel. -/
theorem scCmd_refused (hv : s.on (scValid d) c = true) (hs : s.scSame d c v = false) :
    ∃ t, finish (s.scCmd d p c v) = .next t ∧ s.keepsBut t rejectRegs ∧ t.get GLB_CFG_REJECT_LAST.CAUSE p = 2 := by
  obtain ⟨⟨-, gv, -⟩, -⟩ := by simpa using scFields_apart d
  have hg : (s.granted p false).on (scValid d) c = true := ((s.granted_moves p false).on gv _).trans hv
  obtain ⟨off, hx⟩ := State.scWrite_refused (p := p) hg ((s.scSame_granted d p c v).trans hs)
  rw [State.scCmd_granted hw, State.scPut_refused hg hx]
  exact finish_refused 2 off hw.2

end

/-- Settles O18: VALID rises with the key of slot 0, and falls with the locked fields as they are, leaving the slots. -/
theorem secureChannelValid : Obligations.SecureChannelValid := by
  have hon : ∀ (s : State) (f : Fld) (i : Nat), s.get f i = 1 → s.on f i = true := fun s f i h => by rw [State.on, h]; rfl
  have h1 := fun v : Word => putBits_bit0 v.toNat 1
  have h0 := fun v : Word => putBits_bit0 v.toNat 0
  refine ⟨fun s p sc v hw hv => scCmd_raises (d := .eg) hw (h1 v) hv, fun s p sc v same hw hv hs => ⟨fun h => ?_, fun h => ?_⟩,
    fun s p sc v hw hv => scCmd_raises (d := .ig) hw (h1 v) hv, fun s p sc v same hw hv hs => ⟨fun h => ?_, fun h => ?_⟩⟩
  · obtain ⟨t, he, hf, hst⟩ := scCmd_clears (d := .eg) hw (h0 v) (hon _ _ _ hv) (hs.symm.trans h)
    exact ⟨t, he, hf, hst _, hst _⟩
  · exact scCmd_refused (d := .eg) hw (hon _ _ _ hv) (hs.symm.trans h)
  · obtain ⟨t, he, hf, hst⟩ := scCmd_clears (d := .ig) hw (h0 v) (hon _ _ _ hv) (hs.symm.trans h)
    exact ⟨t, he, hf, hst _, hst _⟩
  · exact scCmd_refused (d := .ig) hw (hon _ _ _ hv) (hs.symm.trans h)

end Sys2Proof.Machine
end

/-! Schedules of autonomous keying: word 0 starts and stops them (R228, R229, R230), and their passes begin (R232, R237). -/
section
namespace Sys2Proof.Machine

/-! An entry that takes its writer's held words and word 0 in (R66). -/

theorem State.alikeOn.ac {fs : List Fld} {i : Nat} {s t : State} (h : s.alikeOn fs i t) (x y : AccS) :
    State.alikeOn fs i { s with ac := x } { t with ac := y } := h

/-- What an entry takes in does not depend on the fields outside it. -/
theorem State.alikeOn.entryTaken {fs : List Fld} {s t : State} {p i : Nat} {r : Reg} (h : s.alikeOn fs i t)
    (hr : ∀ x ∈ r.fields, x.2 ∈ fs) (hh : t.heldOf (.port p) r.rid = s.heldOf (.port p) r.rid) (v : Nat) :
    (s.entryTaken p r i v).alikeOn fs i (t.entryTaken p r i v) := by
  obtain ⟨x, hx⟩ := s.commitHeld_eq (.port p) ⟨r, i, 0⟩ i
  obtain ⟨y, hy⟩ := t.commitHeld_eq (.port p) ⟨r, i, 0⟩ i
  have hw : t.heldWords (.port p) ⟨r, i, 0⟩ = s.heldWords (.port p) ⟨r, i, 0⟩ := by
    unfold State.heldWords
    rw [hh]
  have hl : ∀ (l : List (Nat × Nat)) {a b : State}, a.alikeOn fs i b → (a.heldTaken r i l).alikeOn fs i (b.heldTaken r i l) := by
    intro l
    induction l with
    | nil => exact fun h => h
    | cons z l ih => exact fun h => ih (h.writeWord hr z.1 z.2)
  rw [State.entryTaken, State.entryTaken, hx, hy, hw]
  exact ((hl _ h).ac x y).writeWord hr 0 v

/-! The Gauge entry of a schedule (R229, R230). -/

/-- An entry is no longer late. -/
def State.gauOnTime (s : State) (i : Nat) : State := { s with ga.gauLate := s.ga.gauLate.set 0 i 0 }

theorem State.gauOnTime_moves (s : State) (i : Nat) : Moves [] [.ga] s (s.gauOnTime i) := s.ga_moves _

/-- An armed entry has not fired. -/
def State.gauUnfired (s : State) (i : Nat) : State := (s.set GAU_ENT.FIRED i 0).set GAU_ENT.FIRE_COUNT i 0

/-- The due time of an entry is the base of its periods. -/
def State.gauBased (s : State) (i : Nat) : State := { s with ga.gauBase := s.ga.gauBase.set 0 i (s.gauDue i) }

/-- A due time that has passed: the next one of a periodic entry, and else the entry is late. -/
def State.gauPassed (s : State) (i b : Nat) : State × Bool :=
  if s.on GAU_ENT.PERIODIC i then (s.set GAU_ENT.DUE i (time96 (nextPeriod b (s.gauPeriod i) s.now)), false)
  else ({ s with ga.gauLate := s.ga.gauLate.set 0 i (s.now + 1) }, false)

/-- An enabled entry without a reserved value is armed (R140, R141). -/
def State.gauArm (s : State) (i : Nat) : State × Bool :=
  if s.on GAU_ENT.ENABLE i then
    if (s.gauUnfired i).gauDue i < ((s.gauUnfired i).gauBased i).now then
      ((s.gauUnfired i).gauBased i).gauPassed i ((s.gauUnfired i).gauDue i)
    else ((s.gauUnfired i).gauBased i, false)
  else (s, false)

theorem Moves.ite_fst {fs : List Fld} {ps : List Part} {s : State} {a b : State × Bool} {c : Prop} [Decidable c]
    (m : Moves fs ps s a.1) (n : Moves fs ps s b.1) : Moves fs ps s (if c then a else b).1 := by
  split
  · exact m
  · exact n

theorem State.gauPassed_moves (s : State) (i b : Nat) : Moves [GAU_ENT.DUE] [.ga] s (s.gauPassed i b).1 :=
  .ite_fst (Moves.refl.also (s.set_moves GAU_ENT.DUE i _) rfl rfl) (Moves.refl.also (s.ga_moves _) rfl rfl)

theorem State.gauArm_moves (s : State) (i : Nat) :
    Moves [GAU_ENT.FIRED, GAU_ENT.FIRE_COUNT, GAU_ENT.DUE] [.ga] s (s.gauArm i).1 := by
  have h : Moves [GAU_ENT.FIRED, GAU_ENT.FIRE_COUNT, GAU_ENT.DUE] [.ga] s
      ((s.gauUnfired i).gauBased i) :=
    ((Moves.refl.also (s.set_moves GAU_ENT.FIRED i 0) rfl rfl).also (State.set_moves _ GAU_ENT.FIRE_COUNT i 0) rfl rfl).also
      (State.ga_moves _ _) rfl rfl
  unfold State.gauArm
  exact .ite_fst (.ite_fst (h.also (State.gauPassed_moves _ i _) rfl rfl) h) .refl

/-- A reserved value of an entry (R141). -/
def State.gauBad (s : State) (i : Nat) : Bool :=
  decide (9 < s.get GAU_ENT.ACTION i) ||
    !(gauTargetOk (s.get GAU_ENT.ACTION i) (s.get GAU_ENT.TARGET i) &&
      gauScopeOk (s.get GAU_ENT.ACTION i) (s.get GAU_ENT.SCOPE i) (s.get GAU_ENT.TARGET i)) ||
    !gauParamOk (s.get GAU_ENT.ACTION i) (s.get GAU_ENT.PARAM i) || !time96Legal (s.get GAU_ENT.DUE i) ||
    (s.on GAU_ENT.PERIODIC i && decide (s.get GAU_ENT.PERIOD i < 100 * 65536))

theorem State.gauBad_of_legal {s : State} {i : Nat} (h : s.gauLegal i = true) : s.gauBad i = false := by
  simp only [State.gauLegal, Bool.and_eq_true, Bool.or_eq_true, decide_eq_true_eq, Bool.not_eq_true'] at h
  obtain ⟨⟨⟨⟨⟨hA, hT⟩, hS⟩, hP⟩, hD⟩, hN⟩ := h
  rw [State.gauBad, hT, hS, hP, hD, decide_eq_false (Nat.not_lt.mpr hA)]
  rcases hN with hN | hN
  · rw [hN]
    rfl
  · rw [decide_eq_false (by omega), Bool.and_false]
    rfl

/-- An entry without a reserved value is armed as it stands. -/
theorem State.gauCommit_of_good {s : State} {i : Nat} (h : (s.gauOnTime i).gauBad i = false) :
    s.gauCommit i = (s.gauOnTime i).gauArm i := if_neg (Bool.eq_false_iff.mp h)

theorem Moves.gauBad {fs : List Fld} {ps : List Part} {s t : State} (m : Moves fs ps s t)
    (h : [GAU_ENT.ACTION, GAU_ENT.TARGET, GAU_ENT.SCOPE, GAU_ENT.PARAM, GAU_ENT.DUE, GAU_ENT.PERIODIC, GAU_ENT.PERIOD].all
      (fun f => !listed fs f.id) = true) (i : Nat) : t.gauBad i = s.gauBad i := by
  simp only [List.all_cons, List.all_nil, Bool.and_true, Bool.and_eq_true, Bool.not_eq_true'] at h
  obtain ⟨h1, h2, h3, h4, h5, h6, h7⟩ := h
  rw [State.gauBad, m.get h1, m.get h2, m.get h3, m.get h4, m.get h5, m.on h6, m.get h7, State.gauBad]

/-- The write of an entry without a reserved value moves only its firing state. -/
theorem State.gauCommit_moves {s : State} {i : Nat} (h : s.gauLegal i = true) :
    Moves [GAU_ENT.FIRED, GAU_ENT.FIRE_COUNT, GAU_ENT.DUE] [.ga] s (s.gauCommit i).1 := by
  have m := s.gauOnTime_moves i
  rw [State.gauCommit_of_good ((m.gauBad rfl i).trans (State.gauBad_of_legal h))]
  exact (m.mono rfl rfl).trans (State.gauArm_moves _ i)

/-- The Gauge entry of a schedule becomes an enabled KEY_DERIVE entry of the schedule's period (R229). -/
def State.schEntry (s : State) (j i : Nat) : State :=
  let s := (((((s.set GAU_ENT.ACTION i 4).set GAU_ENT.TARGET i j).set GAU_ENT.SCOPE i 0).set GAU_ENT.PARAM i 0).set
    GAU_ENT.PERIODIC i 1).set GAU_ENT.PERIOD i (s.schP j / 65536)
  (s.set GAU_ENT.DUE i (time96 (s.epochStart j 1 - s.schLead j))).set GAU_ENT.ENABLE i 1

section
variable (s : State) (j i : Nat)

/-- Fields that the start of a schedule moves in its Gauge entry. -/
abbrev schEntryMoves : List Fld := [GAU_ENT.ACTION, GAU_ENT.TARGET, GAU_ENT.SCOPE, GAU_ENT.PARAM, GAU_ENT.PERIODIC,
  GAU_ENT.PERIOD, GAU_ENT.DUE, GAU_ENT.ENABLE]

theorem State.schEntry_moves : Moves schEntryMoves [] s (s.schEntry j i) :=
  (((((((Moves.refl.also (s.set_moves GAU_ENT.ACTION i 4) rfl rfl).also (State.set_moves _ GAU_ENT.TARGET i j) rfl rfl).also
    (State.set_moves _ GAU_ENT.SCOPE i 0) rfl rfl).also (State.set_moves _ GAU_ENT.PARAM i 0) rfl rfl).also
    (State.set_moves _ GAU_ENT.PERIODIC i 1) rfl rfl).also (State.set_moves _ GAU_ENT.PERIOD i _) rfl rfl).also
    (State.set_moves _ GAU_ENT.DUE i _) rfl rfl).also (State.set_moves _ GAU_ENT.ENABLE i 1) rfl rfl

theorem State.schEntry_action : (s.schEntry j i).get GAU_ENT.ACTION i = 4 := by
  simp (disch := decide) only [State.schEntry, State.get_set_field, State.get_set_self]
  rfl

theorem State.schEntry_scope : (s.schEntry j i).get GAU_ENT.SCOPE i = 0 := by
  simp (disch := decide) only [State.schEntry, State.get_set_field, State.get_set_self]
  rfl

theorem State.schEntry_param : (s.schEntry j i).get GAU_ENT.PARAM i = 0 := by
  simp (disch := decide) only [State.schEntry, State.get_set_field, State.get_set_self]
  rfl

theorem State.schEntry_enable : (s.schEntry j i).get GAU_ENT.ENABLE i = 1 := State.get_set_self _ _ _ _

theorem State.schEntry_target (hj : j < 256) : (s.schEntry j i).get GAU_ENT.TARGET i = j := by
  simp (disch := decide) only [State.schEntry, State.get_set_field, State.get_set_self]
  exact Nat.mod_eq_of_lt (Nat.lt_trans hj (by decide))

theorem State.schEntry_due : ∃ x, (s.schEntry j i).get GAU_ENT.DUE i = time96 x := by
  have h : ∀ (u : State) (x : Nat), ((u.set GAU_ENT.DUE i (time96 x)).set GAU_ENT.ENABLE i 1).get GAU_ENT.DUE i = time96 x :=
    fun u x => by
      rw [State.get_set_field _ (by decide), State.get_set_self]
      exact Nat.mod_eq_of_lt (time96_lt x)
  exact ⟨_, h _ _⟩

/-- A period of whole seconds, in 2^-16 ns. -/
theorem State.schEntry_period : (s.schEntry j i).get GAU_ENT.PERIOD i = s.get GAU_SCH.P_SEC j * (sec / 65536) := by
  have hP : s.get GAU_SCH.P_SEC j < 2 ^ 17 := s.get_lt GAU_SCH.P_SEC j
  have e : ∀ x, x * sec / 65536 = x * (sec / 65536) := fun x => by
    rw [Nat.mul_div_assoc]
    decide
  simp (disch := decide) only [State.schEntry, State.get_set_field, State.get_set_self, State.schP]
  rw [e, Nat.mod_eq_of_lt]
  calc s.get GAU_SCH.P_SEC j * (sec / 65536) < 2 ^ 17 * (sec / 65536) := Nat.mul_lt_mul_of_pos_right hP (by decide)
    _ ≤ 2 ^ GAU_ENT.PERIOD.width := by decide

end

theorem time96_legal (x : Nat) : time96Legal (time96 x) = true := by
  have h : x / ns % 1000000000 < 1000000000 := Nat.mod_lt _ (by decide)
  have h0 : x / 2 ^ 16 % 2 ^ 16 < 2 ^ 16 := Nat.mod_lt _ (by decide)
  unfold time96Legal bits time96
  generalize x / ns % 1000000000 = a at *
  generalize x / 2 ^ 16 % 2 ^ 16 = b at *
  generalize x / sec % 2 ^ 48 = c
  rw [decide_eq_true_eq]
  omega

/-- The entry of a schedule whose period is no reserved value holds none itself. -/
theorem State.schEntry_legal (s : State) {j i : Nat} (hj : j < 256) (hP : 1 ≤ s.get GAU_SCH.P_SEC j) :
    (s.schEntry j i).gauLegal i = true := by
  obtain ⟨x, hx⟩ := s.schEntry_due j i
  have hp : 100 * 65536 ≤ (s.schEntry j i).get GAU_ENT.PERIOD i := by
    rw [s.schEntry_period]
    calc 100 * 65536 ≤ 1 * (sec / 65536) := by decide
      _ ≤ _ := Nat.mul_le_mul_right _ hP
  rw [State.gauLegal, s.schEntry_action, s.schEntry_scope, s.schEntry_param, s.schEntry_target j i hj, hx, time96_legal,
    decide_eq_true hp]
  simp [gauTargetOk, gauScopeOk, gauParamOk, hj]

/-! A schedule starts (R229, R230). -/

/-- A schedule that starts while Chisel is RETIRED raises its source. -/
def State.schNoted (s : State) : State := if s.get CHS_ENGINE.STATE 0 = 2 then s.pend 0x01D else s

/-- A schedule that starts waits for its first pass, or begins it. -/
def State.schAwait (s : State) (j : Nat) : State :=
  if s.on TIM_STATUS.VALID 0 = false ∨ s.now + s.schLead j < s.schT0 j then { s with au.firstDue := insertNat j s.au.firstDue }
  else s.passBegin j

/-- The Gauge entry of a schedule is made and armed. -/
def State.schMade (s : State) (j i : Nat) : State := ((s.schEntry j i).gauCommit i).1.schNoted

theorem State.schStart_eq (s : State) (j : Nat) : s.schStart j = (s.schMade j (s.get GAU_SCH.DERIVE_ENTRY j)).schAwait j := rfl

section
variable {s : State} {j i : Nat}

theorem State.schNoted_moves (s : State) : Moves [ICU_PORT.WAKE] [.ic, .out] s s.schNoted := .ite (s.pend_moves _) .refl

theorem State.schAwait_moves (s : State) (j : Nat) : Moves [GAU_SCH.FAILS] [.au] s (s.schAwait j) :=
  .ite (Moves.refl.also (s.au_moves _) rfl rfl) (s.passBegin_moves j)

/-- What the entry's arming and the source of a RETIRED engine move. -/
theorem State.schMade_entry (hj : j < 256) (hP : 1 ≤ s.get GAU_SCH.P_SEC j) :
    Moves [GAU_ENT.FIRED, GAU_ENT.FIRE_COUNT, GAU_ENT.DUE, ICU_PORT.WAKE] [.ga, .ic, .out] (s.schEntry j i) (s.schMade j i) :=
  ((State.gauCommit_moves (s.schEntry_legal hj hP)).mono rfl rfl).also (State.schNoted_moves _) rfl rfl

theorem State.schMade_moves (hj : j < 256) (hP : 1 ≤ s.get GAU_SCH.P_SEC j) :
    Moves (GAU_ENT.FIRED :: GAU_ENT.FIRE_COUNT :: ICU_PORT.WAKE :: schEntryMoves) [.ga, .ic, .out] s (s.schMade j i) :=
  ((s.schEntry_moves j i).mono rfl rfl).also (State.schMade_entry hj hP) rfl rfl

theorem State.schStart_moves (hj : j < 256) (hP : 1 ≤ s.get GAU_SCH.P_SEC j) :
    Moves (GAU_SCH.FAILS :: GAU_ENT.FIRED :: GAU_ENT.FIRE_COUNT :: ICU_PORT.WAKE :: schEntryMoves) [.ga, .ic, .out, .au] s
      (s.schStart j) := by
  rw [s.schStart_eq]
  exact ((State.schMade_moves hj hP).mono rfl rfl).also (State.schAwait_moves _ j) rfl rfl

/-- The Gauge entry of a schedule that has started is an enabled KEY_DERIVE entry for it. -/
theorem State.schStart_entry (hj : j < 256) (hP : 1 ≤ s.get GAU_SCH.P_SEC j) (hi : s.get GAU_SCH.DERIVE_ENTRY j = i) :
    (s.schStart j).get GAU_ENT.TARGET i = j ∧ (s.schStart j).get GAU_ENT.ACTION i = 4 ∧
      (s.schStart j).get GAU_ENT.ENABLE i = 1 := by
  have ma := State.schAwait_moves (s.schMade j i) j
  have me := State.schMade_entry (i := i) hj hP
  rw [s.schStart_eq, hi, ma.get rfl, me.get rfl, ma.get rfl, me.get rfl, ma.get rfl, me.get rfl]
  exact ⟨s.schEntry_target j i hj, s.schEntry_action j i, s.schEntry_enable j i⟩

theorem contains_insertNat (n : Nat) (l : List Nat) : (insertNat n l).contains n = true := by
  rw [List.contains_iff_mem]
  exact mem_insertNat.mpr (.inl rfl)

/-- A schedule that starts before its time waits for its first pass. -/
theorem State.schStart_waits (hj : j < 256) (hP : 1 ≤ s.get GAU_SCH.P_SEC j)
    (hw : s.on TIM_STATUS.VALID 0 = false ∨ s.now + s.schLead j < s.schT0 j) :
    (s.schStart j).au.firstDue.contains j = true := by
  have m := State.schMade_moves (i := s.get GAU_SCH.DERIVE_ENTRY j) hj hP
  have hn : (s.schMade j (s.get GAU_SCH.DERIVE_ENTRY j)).now = s.now := m.parts .now rfl
  rw [s.schStart_eq, State.schAwait, if_pos (by rwa [m.on rfl, hn, State.schLead, m.get rfl, State.schT0, m.get rfl])]
  exact contains_insertNat _ _

/-! A schedule stops (R230). -/

theorem State.schStop_moves (s : State) (j : Nat) : Moves [GAU_ENT.ENABLE] [.au] s (s.schStop j) :=
  (Moves.refl.also (s.set_moves GAU_ENT.ENABLE _ 0) rfl rfl).also (State.au_moves _ _) rfl rfl

/-- A stopped schedule: its Gauge entry is disarmed, and no derivation of it is left. -/
theorem State.schStop_stopped (s : State) (j : Nat) : (s.schStop j).get GAU_ENT.ENABLE (s.get GAU_SCH.DERIVE_ENTRY j) = 0 ∧
    Tab.get 0 (s.schStop j).au.passStart j = 0 ∧ (s.schStop j).au.passItems.all (fun x => x.sched != j) = true := by
  refine ⟨?_, Tab.get_set_self 0 s.au.passStart j 0, ?_⟩
  · exact ((State.au_moves _ _).get rfl _).trans (State.get_set_self _ _ _ _)
  · exact List.all_eq_true.mpr (fun x hx => (List.mem_filter.mp hx).2)

end

/-! A word-0 write of a schedule (R228, R229, R230). -/

section
variable {s n : State} {p j : Nat} {bad : Bool}

/-- The values of an entry do not fit (R229). -/
def State.schMisfit (s n : State) (j : Nat) : Bool :=
  n.get GAU_SCH.P_SEC j * 1000000 ≤ n.get GAU_SCH.LEAD_MS j * 1000 + n.get GAU_SCH.W_US j ||
    n.get GAU_SCH.LEAD_MS j * 1000 < n.get GAU_SCH.W_US j + 23000 ||
    (s.ones GAU_SCH.VALID).any (fun k => k != j && s.get GAU_SCH.DERIVE_ENTRY k == n.get GAU_SCH.DERIVE_ENTRY j)

theorem State.schMisfit_eq (s n : State) (j : Nat) : s.schMisfit n j = !s.schFits n j := by
  have hd : ∀ a b : Nat, decide (b ≤ a) = !decide (a < b) := fun a b => by
    rw [← decide_not]
    exact decide_eq_decide.mpr Nat.not_lt.symm
  have ha : (s.ones GAU_SCH.VALID).any (fun k => k != j && s.get GAU_SCH.DERIVE_ENTRY k == n.get GAU_SCH.DERIVE_ENTRY j) =
      !(s.ones GAU_SCH.VALID).all (fun k => k == j || s.get GAU_SCH.DERIVE_ENTRY k != n.get GAU_SCH.DERIVE_ENTRY j) := by
    rw [List.not_all_eq_any_not]
    simp [bne]
  rw [State.schMisfit, State.schFits, ha, hd, hd (n.get GAU_SCH.LEAD_MS j * 1000), Bool.not_and, Bool.not_and, Bool.not_not]

/-- A schedule that fits has a period. -/
theorem State.schFits_period (h : s.schFits n j = true) : 1 ≤ n.get GAU_SCH.P_SEC j := by
  simp only [State.schFits, Bool.and_eq_true, decide_eq_true_eq] at h
  obtain ⟨⟨h, -⟩, -⟩ := h
  omega

/-- Where a schedule's write is counted. -/
abbrev schOff (j : Nat) : Nat := reg_GAU_SCH.base + 32 * j

theorem State.schCommit_refused (w : Writer) (hv : s.on GAU_SCH.VALID j = true)
    (hl : schLocked.all (fun f => n.get f j == s.get f j) = false) :
    s.schCommit n w j bad = s.reject w 2 false (schOff j) := by
  have ha : schLocked.any (fun f => n.get f j != s.get f j) = true := by
    rw [any_bne_eq, hl]
    rfl
  exact if_pos ⟨hv, ha⟩

/-- Beyond the locked fields: the entry as it stands, its values judged where VALID rises. -/
theorem State.schCommit_taken (w : Writer) (h : s.on GAU_SCH.VALID j = false ∨
      schLocked.all (fun f => n.get f j == s.get f j) = true) : s.schCommit n w j bad =
    let rise := !s.on GAU_SCH.VALID j && n.on GAU_SCH.VALID j
    let res := rise && s.schMisfit n j
    let n := if res then n.set GAU_SCH.VALID j 0 else n
    let n := if res || bad then n.reject w 1 false (schOff j) else n
    if rise && !res then n.schStart j
    else if s.on GAU_SCH.VALID j && !n.on GAU_SCH.VALID j then n.schStop j else n := by
  refine if_neg ?_
  rw [any_bne_eq]
  rcases h with h | h <;> simp [h]

theorem State.schCommit_starts (hv : s.on GAU_SCH.VALID j = false) (hn : n.on GAU_SCH.VALID j = true)
    (hf : s.schFits n j = true) :
    ∃ m, Moves rejectMoves [.ic, .out, .wraps] n m ∧ s.schCommit n (.port p) j bad = m.schStart j := by
  refine ⟨if bad then n.reject (.port p) 1 false (schOff j) else n, .ite (n.reject_moves _ _ _ _) .refl, ?_⟩
  rw [State.schCommit_taken _ (.inl hv)]
  simp [hv, hn, s.schMisfit_eq, hf]

theorem State.schCommit_unfit (hv : s.on GAU_SCH.VALID j = false) (hn : n.on GAU_SCH.VALID j = true)
    (hf : s.schFits n j = false) :
    s.schCommit n (.port p) j bad = (n.set GAU_SCH.VALID j 0).reject (.port p) 1 false (schOff j) := by
  rw [State.schCommit_taken _ (.inl hv)]
  simp [hv, hn, s.schMisfit_eq, hf]

theorem State.schCommit_stops (hv : s.on GAU_SCH.VALID j = true) (hn : n.on GAU_SCH.VALID j = false)
    (hl : schLocked.all (fun f => n.get f j == s.get f j) = true) :
    ∃ m, Moves rejectMoves [.ic, .out, .wraps] n m ∧ s.schCommit n (.port p) j bad = m.schStop j := by
  generalize hm : (if bad then n.reject (.port p) 1 false (schOff j) else n) = m
  have mm : Moves rejectMoves [.ic, .out, .wraps] n m := hm ▸ .ite (n.reject_moves _ _ _ _) .refl
  refine ⟨m, mm, ?_⟩
  rw [State.schCommit_taken _ (.inr hl)]
  simp [hv, hn, hm, (mm.on (f := GAU_SCH.VALID) rfl j).trans hn]

end

end Sys2Proof.Machine
end

/-! The commands of schedules: VALID rises and falls, passes begin (R228 to R230, R232, R237). -/
section
namespace Sys2Proof.Machine

/-! What a port's write of word 0 takes in. -/

/-- Fields of a schedule's entry. -/
abbrev schFields : List Fld := reg_GAU_SCH.fields.map (·.2)

/-- The state on which a schedule's write is judged: its writer holds no words of the entry any more. -/
def State.schBefore (s : State) (p : Nat) (x : AccS) : State := { s.granted p false with ac := x }

section
variable {s : State} {p : Port} {j : Fin 256} {v : Nat} (hw : s.mayWrite p.val false (reg_GAU_SCH.offset j.val 0))
include hw

theorem State.schPut_of_admits (v : Nat) : ∃ x bad, s.putEntry p.val reg_GAU_SCH j.val v =
    (s.schBefore p.val x).schCommit ((s.granted p.val false).entryTaken p.val reg_GAU_SCH j.val v)
      (.port p.val) j.val bad := by
  rw [State.putEntry_of_admits rfl rfl v hw.1, State.arrayWrite_commit (by decide), State.commitWrite, Reg.copy_unbanked rfl rfl]
  exact ⟨_, _, rfl⟩

omit hw

theorem State.schBefore_moves (s : State) (p : Nat) (x : AccS) :
    Moves hintMoves [.ic, .out, .ofc, .ac] s (s.schBefore p x) :=
  ((s.granted_moves p false).mono rfl rfl).also (State.ac_moves _ x) rfl rfl

theorem State.schTaken_valid (s : State) (p j v : Nat) : (s.entryTaken p reg_GAU_SCH j v).get GAU_SCH.VALID j = v % 2 :=
  (State.writeWord_whole (r := reg_GAU_SCH) (f := GAU_SCH.VALID) (by decide) (wlo := 0) (by decide) rfl (by decide) _ j v).trans
    (by simp [bits, GAU_SCH.VALID, Fld.allows])

/-- The hints of an access change nothing of what a schedule takes in. -/
theorem State.schTaken_alike (s : State) (p j v : Nat) :
    (s.schTaken p j v).alikeOn schFields j ((s.granted p false).entryTaken p reg_GAU_SCH j v) :=
  State.alikeOn.entryTaken (p := p) (r := reg_GAU_SCH) ((s.granted_moves p false).alikeOn (by decide))
    (fun x hx => List.mem_map.mpr ⟨x, hx, rfl⟩) (s.granted_heldOf p false (.port p) _) v

theorem State.schFits_alike {s t n u : State} {fs : List Fld} {ps : List Part} {j : Nat} (m : Moves fs ps s t)
    (h : [GAU_SCH.VALID, GAU_SCH.DERIVE_ENTRY].all (fun f => !listed fs f.id) = true) (hn : n.alikeOn schFields j u) :
    t.schFits u j = s.schFits n j := by
  simp only [List.all_cons, List.all_nil, Bool.and_true, Bool.and_eq_true, Bool.not_eq_true'] at h
  have ho : t.ones GAU_SCH.VALID = s.ones GAU_SCH.VALID := m.ones h.1
  have hd : ∀ k, t.get GAU_SCH.DERIVE_ENTRY k = s.get GAU_SCH.DERIVE_ENTRY k := m.get h.2
  rw [State.schFits, hn GAU_SCH.LEAD_MS (by decide), hn GAU_SCH.W_US (by decide), hn GAU_SCH.P_SEC (by decide),
    hn GAU_SCH.DERIVE_ENTRY (by decide), ho]
  simp only [hd]
  rfl

theorem State.schLocked_alike {s t n u : State} {j : Nat} (hs : s.alikeOn schFields j t) (hn : n.alikeOn schFields j u) :
    schLocked.all (fun f => u.get f j == t.get f j) = schLocked.all (fun f => n.get f j == s.get f j) := by
  have hm : ∀ f ∈ schLocked, f ∈ schFields := by decide
  rw [Bool.eq_iff_iff, List.all_eq_true, List.all_eq_true]
  exact forall₂_congr (fun f hf => by rw [hs f (hm f hf), hn f (hm f hf)])

/-- The state that a schedule's write stands on, up to what a refusal moves: calm, at the same time. -/
theorem State.schTaken_base {s m : State} {p j v : Nat}
    (mm : Moves rejectMoves [.ic, .out, .wraps] ((s.granted p false).entryTaken p reg_GAU_SCH j v) m) :
    m.calm = s.calm ∧ m.now = s.now ∧ m.on TIM_STATUS.VALID 0 = s.on TIM_STATUS.VALID 0 ∧
      (s.schTaken p j v).alikeOn schFields j m := by
  have mg := s.granted_moves p false
  have mt := (s.granted p false).entryTaken_moves p reg_GAU_SCH j v
  have hnow : m.now = s.now := ((mm.parts .now rfl).trans (mt.parts .now rfl)).trans (mg.parts .now rfl)
  refine ⟨by rw [mm.calm rfl, mt.calm rfl, mg.calm rfl], hnow, by rw [mm.on rfl, mt.on (by decide), mg.on rfl], fun f hf => ?_⟩
  have hm := mm.alikeOn (fs := schFields) (i := j) (by decide)
  rw [hm f hf, s.schTaken_alike p j v f hf]

include hw

/-- VALID rises and the values fit. -/
theorem scheduleValidSet_starts {v : Word} {n : State} (hn : n = s.schTaken p.val j.val (putBits v.toNat 0 1 1))
    (hv : s.on GAU_SCH.VALID j.val = false) (hf : s.schFits n j.val = true) :
    ∃ t, exec (.scheduleValidSet p j v) s = .next t ∧ t.get GAU_SCH.VALID j.val = 1 ∧
      t.get GAU_SCH.DERIVE_ENTRY j.val = n.get GAU_SCH.DERIVE_ENTRY j.val ∧
      t.get GAU_ENT.TARGET (n.get GAU_SCH.DERIVE_ENTRY j.val) = j.val ∧
      t.get GAU_ENT.ACTION (n.get GAU_SCH.DERIVE_ENTRY j.val) = 4 ∧
      t.get GAU_ENT.ENABLE (n.get GAU_SCH.DERIVE_ENTRY j.val) = 1 ∧
      ((s.on TIM_STATUS.VALID 0 = false ∨ s.now + n.schLead j.val < n.schT0 j.val) → t.au.firstDue.contains j.val = true) := by
  subst hn
  generalize hx : putBits v.toNat 0 1 1 = x at hf ⊢
  have hx1 : x % 2 = 1 := by rw [← hx, putBits_bit0]
  obtain ⟨y, bad, he⟩ := State.schPut_of_admits hw x
  have m0 := s.schBefore_moves p.val y
  have hval := (s.granted p.val false).schTaken_valid p.val j.val x
  obtain ⟨m, mm, hm⟩ := State.schCommit_starts (p := p.val) (bad := bad) ((m0.on rfl _).trans hv)
    (by rw [State.on, hval, hx1]; rfl) ((State.schFits_alike m0 (by decide) (s.schTaken_alike p.val j.val x)).trans hf)
  obtain ⟨hcalm, hnow, hvt, ha⟩ := State.schTaken_base mm
  have hP : 1 ≤ m.get GAU_SCH.P_SEC j.val := by
    rw [ha GAU_SCH.P_SEC (by decide)]
    exact State.schFits_period hf
  have ms := State.schStart_moves j.isLt hP
  have hi := ha GAU_SCH.DERIVE_ENTRY (by decide)
  obtain ⟨h1, h2, h3⟩ := State.schStart_entry j.isLt hP hi
  refine ⟨(m.schStart j.val).closed, ?_, ?_, ?_, ?_, ?_, ?_, fun hwt => ?_⟩
  · change finish (s.putEntry p.val reg_GAU_SCH j.val _) = _
    rw [hx, he, hm, finish_calm _ ((ms.calm rfl).trans (hcalm.trans hw.2))]
  · rw [State.closed_get _ rfl, ms.get rfl, mm.get rfl, hval, hx1]
  · rw [State.closed_get _ rfl, ms.get rfl, hi]
  · rw [State.closed_get _ rfl, h1]
  · rw [State.closed_get _ rfl, h2]
  · rw [State.closed_get _ rfl, h3]
  · have hau : (m.schStart j.val).closed.au = (m.schStart j.val).au := (State.closed_moves _).parts .au rfl
    rw [hau]
    refine State.schStart_waits j.isLt hP ?_
    rwa [hvt, hnow, State.schLead, ha GAU_SCH.LEAD_MS (by decide), State.schT0, ha GAU_SCH.T0_SEC (by decide)]

/-- VALID rises and the values do not fit. -/
theorem scheduleValidSet_refused {v : Word} {n : State} (hn : n = s.schTaken p.val j.val (putBits v.toNat 0 1 1))
    (hv : s.on GAU_SCH.VALID j.val = false) (hf : s.schFits n j.val = false) :
    ∃ t, exec (.scheduleValidSet p j v) s = .next t ∧ t.get GAU_SCH.VALID j.val = 0 ∧
      t.get GLB_CFG_REJECT_LAST.CAUSE p.val = 1 := by
  subst hn
  generalize hx : putBits v.toNat 0 1 1 = x at hf ⊢
  have hx1 : x % 2 = 1 := by rw [← hx, putBits_bit0]
  obtain ⟨y, bad, he⟩ := State.schPut_of_admits hw x
  have m0 := s.schBefore_moves p.val y
  have hval := (s.granted p.val false).schTaken_valid p.val j.val x
  have hm := State.schCommit_unfit (p := p.val) (bad := bad) ((m0.on rfl _).trans hv)
    (by rw [State.on, hval, hx1]; rfl) ((State.schFits_alike m0 (by decide) (s.schTaken_alike p.val j.val x)).trans hf)
  obtain ⟨hcalm, -⟩ := State.schTaken_base (s := s) (p := p.val) (j := j.val) (v := x) .refl
  generalize hu : (((s.granted p.val false).entryTaken p.val reg_GAU_SCH j.val x).set GAU_SCH.VALID j.val 0) = u at hm
  refine ⟨(u.reject (.port p.val) 1 false (schOff j.val)).closed, ?_, ?_, ?_⟩
  · change finish (s.putEntry p.val reg_GAU_SCH j.val _) = _
    rw [hx, he, hm, ← hu, finish_calm _ (((State.reject_moves _ _ _ _ _).calm rfl).trans
      (((State.set_moves _ _ _ _).calm rfl).trans (hcalm.trans hw.2)))]
  · rw [State.closed_get _ rfl, (State.reject_moves _ _ _ _ _).get rfl, ← hu, State.get_set_self]
    rfl
  · rw [State.closed_get _ rfl, State.reject_cause]

/-- VALID falls with the locked fields as they are. -/
theorem scheduleValidClear_stops {v : Word} {n : State} (hn : n = s.schTaken p.val j.val (putBits v.toNat 0 1 0))
    (hv : s.get GAU_SCH.VALID j.val = 1) (hl : schLocked.all (fun f => n.get f j.val == s.get f j.val) = true) :
    ∃ t, exec (.scheduleValidClear p j v) s = .next t ∧ t.get GAU_SCH.VALID j.val = 0 ∧ t.schState j.val = 0 ∧
      t.get GAU_ENT.ENABLE (s.get GAU_SCH.DERIVE_ENTRY j.val) = 0 ∧ Tab.get 0 t.au.passStart j.val = 0 ∧
      t.au.passItems.all (fun x => x.sched != j.val) = true := by
  subst hn
  generalize hx : putBits v.toNat 0 1 0 = x at hl ⊢
  have hx0 : x % 2 = 0 := by rw [← hx, putBits_bit0]
  obtain ⟨y, bad, he⟩ := State.schPut_of_admits hw x
  have m0 := s.schBefore_moves p.val y
  have hval := (s.granted p.val false).schTaken_valid p.val j.val x
  obtain ⟨m, mm, hm⟩ := State.schCommit_stops (p := p.val) (bad := bad) (by rw [m0.on rfl, State.on, hv]; rfl)
    (by rw [State.on, hval, hx0]; rfl)
    ((State.schLocked_alike (m0.alikeOn (by decide)) (s.schTaken_alike p.val j.val x)).trans hl)
  obtain ⟨hcalm, -, -, ha⟩ := State.schTaken_base mm
  have ms := m.schStop_moves j.val
  have hi : m.get GAU_SCH.DERIVE_ENTRY j.val = s.get GAU_SCH.DERIVE_ENTRY j.val := by
    rw [ha GAU_SCH.DERIVE_ENTRY (by decide)]
    simpa using List.all_eq_true.mp hl GAU_SCH.DERIVE_ENTRY (by decide)
  obtain ⟨h1, h2, h3⟩ := m.schStop_stopped j.val
  have h0 : (m.schStop j.val).closed.get GAU_SCH.VALID j.val = 0 := by
    rw [State.closed_get _ rfl, ms.get rfl, mm.get rfl, hval, hx0]
  have hau : (m.schStop j.val).closed.au = (m.schStop j.val).au := (State.closed_moves _).parts .au rfl
  refine ⟨(m.schStop j.val).closed, ?_, h0, ?_, ?_, by rw [hau, h2], by rw [hau, h3]⟩
  · change finish (s.putEntry p.val reg_GAU_SCH j.val _) = _
    rw [hx, he, hm, finish_calm _ ((ms.calm rfl).trans (hcalm.trans hw.2))]
  · rw [State.schState, if_pos (by rw [State.on, h0]; rfl)]
  · rw [State.closed_get _ rfl, ← hi, h1]

/-- A write that would change a locked field. -/
theorem scheduleValidClear_refused {v : Word} {n : State} (hn : n = s.schTaken p.val j.val (putBits v.toNat 0 1 0))
    (hv : s.get GAU_SCH.VALID j.val = 1) (hl : schLocked.all (fun f => n.get f j.val == s.get f j.val) = false) :
    ∃ t, exec (.scheduleValidClear p j v) s = .next t ∧ s.keepsBut t rejectRegs ∧ t.get GLB_CFG_REJECT_LAST.CAUSE p.val = 2 := by
  subst hn
  generalize hx : putBits v.toNat 0 1 0 = x at hl
  obtain ⟨y, bad, he⟩ := State.schPut_of_admits hw x
  have m0 := s.schBefore_moves p.val y
  have hm := State.schCommit_refused (bad := bad) (.port p.val) (by rw [m0.on rfl, State.on, hv]; rfl)
    ((State.schLocked_alike (m0.alikeOn (by decide)) (s.schTaken_alike p.val j.val x)).trans hl)
  refine ⟨((s.schBefore p.val y).reject (.port p.val) 2 false (schOff j.val)).closed, ?_, ?_, ?_⟩
  · change finish (s.putEntry p.val reg_GAU_SCH j.val _) = _
    rw [hx, he, hm, finish_calm _ (((State.reject_moves _ _ _ _ _).calm rfl).trans ((m0.calm rfl).trans hw.2))]
  · exact (((State.keepsBut_granted s p.val false _).ac y).trans (State.keepsBut_reject _ p.val 2 false _)).closed
  · rw [State.closed_get _ rfl, State.reject_cause]

end

/-! Passes begin. -/

theorem Moves.passBegun_after {fs : List Fld} {ps : List Part} {s t u : State} {j : Nat} (m : Moves fs ps t u)
    (hf : listed fs GAU_SCH.FAILS.id = false) (hp : ps.contains .au = false) (h : s.passBegun t j) : s.passBegun u j := by
  have hau : u.au = t.au := m.parts .au hp
  rwa [State.passBegun, hau, m.get hf]

/-- Fields that the selection of a schedule's channels reads. -/
def selectFields : List Fld := [SCT_TX.KEYING, SCT_TX.VALID, SCT_TX.SCHED, SCT_RX.KEYING, SCT_RX.VALID, SCT_RX.SCHED,
  GAU_SCH.T0_SEC, GAU_SCH.P_SEC, GAU_SCH.LEAD_MS]

/-- A pass that began where nothing had moved that the selection reads. -/
theorem Moves.passBegun_of {fs : List Fld} {ps : List Part} {s t u : State} {j : Nat} (m : Moves fs ps s t)
    (hf : selectFields.all (fun f => !listed fs f.id) = true) (hp : [Part.au, .mono, .now].all (fun p => !ps.contains p) = true)
    (h : t.passBegun u j) : s.passBegun u j := by
  simp only [selectFields, List.all_cons, List.all_nil, Bool.and_true, Bool.and_eq_true, Bool.not_eq_true'] at hf hp
  obtain ⟨h1, h2, h3, h4, h5, h6, h7, h8, h9⟩ := hf
  obtain ⟨p1, p2, p3⟩ := hp
  have hau : t.au = s.au := m.parts .au p1
  have hs : ∀ d, t.autScs d j = s.autScs d j := fun d => by
    cases d <;> simp only [State.autScs, m.ones h1, m.on h2, m.get h3, m.ones h4, m.on h5, m.get h6]
  have hx : ∀ n d c, t.autSelect j n d c = s.autSelect j n d c := fun n d c => by
    have h0 : t.schT0 j = s.schT0 j := by rw [State.schT0, m.get h7, State.schT0]
    have hP : t.schP j = s.schP j := by rw [State.schP, m.get h8, State.schP]
    have hL : t.schLead j = s.schLead j := by rw [State.schLead, m.get h9, State.schLead]
    have hA : t.epochAt j n = s.epochAt j n := by rw [State.epochAt, h0, hP, State.epochAt]
    have hS : ∀ e, t.epochStart j e = s.epochStart j e := fun e => by rw [State.epochStart, h0, hP, State.epochStart]
    rw [State.autSelect, hA, hS, hL, hau, State.autSelect]
  have hm : t.mono = s.mono := m.parts .mono p2
  have hn : t.now = s.now := m.parts .now p3
  simpa only [State.passBegun, hs, hx, hm, hn] using h

theorem State.passBegin_firstDue (s : State) (j : Nat) : (s.passBegin j).au.firstDue = s.au.firstDue := by
  unfold State.passBegin State.passOver
  simp only
  split
  · rfl
  · split <;> rfl

/-- The first pass of a schedule that awaits it (R230). -/
theorem scheduleFirstPass_begins {s : State} {j : Fin 256} (hc : s.calm = true) (hd : s.au.firstDue.contains j.val = true)
    (hr : s.schRuns j.val = true) (ht : s.schT0 j.val ≤ s.now + s.schLead j.val) (h0 : Tab.get 0 s.au.passStart j.val = 0) :
    ∃ t, exec (.scheduleFirstPass j) s = .next t ∧ s.passBegun t j.val ∧ t.au.firstDue.contains j.val = false := by
  generalize hu : ({ s with au.firstDue := s.au.firstDue.filter (· != j.val) } : State) = u
  have mu : Moves [] [.au] s u := hu ▸ s.au_moves _
  have e : exec (.scheduleFirstPass j) s = finish (u.passBegin j.val) := by
    change finish (s.firstPass j.val) = _
    rw [State.firstPass, if_pos ⟨hd, hr, ht⟩, hu]
  have mb := u.passBegin_moves j.val
  have hb : u.passBegun (u.passBegin j.val) j.val :=
    State.passBegin_begun (by rw [← hr, State.schRuns, mu.on rfl, mu.on rfl, State.schRuns]) (by rw [← hu]; exact h0)
  refine ⟨(u.passBegin j.val).closed, by rw [e, finish_calm _ ((mb.calm rfl).trans ((mu.calm rfl).trans hc))],
    (State.closed_moves _).passBegun_after rfl rfl ?_, ?_⟩
  · subst hu
    exact hb
  · have hau : (u.passBegin j.val).closed.au = (u.passBegin j.val).au := (State.closed_moves _).parts .au rfl
    rw [hau, u.passBegin_firstDue, ← hu]
    simp

/-- RESYNC begins a pass (R237). -/
theorem resync_begins {s : State} {p : Port} {j : Fin 256} (hw : s.mayWrite p.val false reg_GAU_SCHED_CMD.base)
    (hr : s.schRuns j.val = true) (h0 : Tab.get 0 s.au.passStart j.val = 0) :
    ∃ t, exec (.resync p j) s = .next t ∧ s.passBegun t j.val := by
  generalize hu : s.granted p.val false = u
  have mg : Moves hintMoves [.ic, .out, .ofc] s u := hu ▸ s.granted_moves p.val false
  have hau : u.au = s.au := mg.parts .au rfl
  have e : exec (.resync p j) s = finish (u.passBegin j.val) := by
    change finish (s.onWrite p.val false reg_GAU_SCHED_CMD.base _) = _
    rw [State.onWrite_of_admits s p.val false _ _ hw.1, hu]
  have mb := u.passBegin_moves j.val
  have hb : u.passBegun (u.passBegin j.val) j.val :=
    State.passBegin_begun (by rw [← hr, State.schRuns, mg.on rfl, mg.on rfl, State.schRuns]) (by rw [hau]; exact h0)
  refine ⟨(u.passBegin j.val).closed, by rw [e, finish_calm _ ((mb.calm rfl).trans ((mg.calm rfl).trans hw.2))],
    (State.closed_moves _).passBegun_after rfl rfl (mg.passBegun_of (by decide) rfl hb)⟩

end Sys2Proof.Machine
end

/-! An SA key is installed (R74, R80, R102, R112). -/
section
namespace Sys2Proof.Machine

/-! Frames that a replaced key loses are none that wait for their release. -/

theorem State.each_calm {α : Type} {l : List α} {g : α → State → State}
    (h : ∀ a ∈ l, ∀ u : State, u.calm = true → (g a u).calm = true) {s : State} (hs : s.calm = true) : (s.each l g).calm = true := by
  induction l generalizing s with
  | nil => exact hs
  | cons a l ih => exact ih (fun b hb => h b (List.mem_cons_of_mem _ hb)) (h a List.mem_cons_self s hs)

section
variable {s : State} {r a : Nat}

theorem State.calm_filterEg (hc : s.calm = true) (hr : r < 4) (p : EgItem → Bool) :
    (s.setEg r ((s.eg r).filter p)).calm = true :=
  State.calm_setEg hc (fun x hx => ((s.calm_iff.mp hc).1 r hr).1 x (List.mem_filter.mp hx).1)

theorem State.calm_filterIg (hc : s.calm = true) (hr : r < 4) (p : InItem → Bool) :
    (s.setIg r ((s.ig r).filter p)).calm = true :=
  State.calm_setIg hc (fun x hx => ((s.calm_iff.mp hc).1 r hr).2 x (List.mem_filter.mp hx).1)

/-- A frame of a replaced transmit key is discarded and sampled. -/
def State.egLost (x : EgItem) (s : State) : State :=
  match x.car with
  | some k => (s.count CAR_TXCNT.C_DISCARD x.f.lp 1).each k.ends (fun f s => s.smpEgress f x.pn x.an 2 3)
  | none => s.smpEgress x.f x.pn x.an 0 3

theorem State.egLost_moves (x : EgItem) (s : State) :
    Moves (CAR_TXCNT.C_DISCARD :: smpMoves) [.ic, .out, .wraps, .cn] s (s.egLost x) := by
  unfold State.egLost
  split
  · exact Moves.each (Moves.refl.also (s.count_moves CAR_TXCNT.C_DISCARD _ 1) rfl rfl)
      (fun f u => Moves.refl.also (u.smpEgress_moves f _ _ _ _) rfl rfl)
  · exact Moves.refl.also (s.smpEgress_moves _ _ _ _ _) rfl rfl

/-- A frame of a replaced receive key is sampled. -/
def State.igLost (a : Nat) (x : InItem) (s : State) : State :=
  if x.sampled then
    s.smpIngress (s.get SCT_RX.HPORT (a / 2)) x.lp (a / 2) (s.get SAT_RX.AN a) 0 (x.data.length + 4) x.time x.steps x.mono x.pn 9
  else s

theorem State.igLost_moves (a : Nat) (x : InItem) (s : State) : Moves smpMoves [.ic, .out, .wraps, .cn] s (s.igLost a x) :=
  .ite (s.smpIngress_moves _ _ _ _ _ _ _ _ _ _ _) .refl

/-- Frames that a replaced transmit key loses in a region. -/
def State.txGoneIn (a r : Nat) (s : State) : State :=
  let gone := (s.eg r).filter (fun x => x.sa == a && x.stat == EgStat.wait)
  if gone = [] then s
  else (((s.setEg r ((s.eg r).filter (fun x => !(x.sa == a && x.stat == EgStat.wait)))).each gone
    State.egLost).count SCT_TX.D_KEY_GONE (a / 2) gone.length).txEvent true SCT_TX.EV_KEY_GONE (a / 2)

/-- A frame has passed slot selection under receive SA a and waits outside the slice group (R112). -/
def InItem.under (a : Nat) (x : InItem) : Bool := x.sa == a && (x.stat == InStat.pre || x.stat == InStat.wait)

/-- Frames that a replaced receive key loses in a region. -/
def State.rxGoneIn (a r : Nat) (s : State) : State :=
  let gone := (s.ig r).filter (InItem.under a)
  if gone = [] then s
  else (((s.setIg r ((s.ig r).filter (fun x => !x.under a))).each gone
    (State.igLost a)).count SCT_RX.D_KEY_GONE (a / 2) gone.length).rxEvent true SCT_RX.EV_KEY_GONE (a / 2)

theorem State.txKeyGone_eq (s : State) (a : Nat) : s.txKeyGone a = s.each (upto 4) (State.txGoneIn a) := rfl

theorem State.rxKeyGone_eq (s : State) (a : Nat) : s.rxKeyGone a = s.each (upto 4) (State.rxGoneIn a) := rfl

theorem State.txKeyGone_calm (hc : s.calm = true) (a : Nat) : (s.txKeyGone a).calm = true := by
  rw [s.txKeyGone_eq]
  refine State.each_calm (fun r hr u hu => ?_) hc
  have hf := State.calm_filterEg hu (mem_upto.mp hr) (fun x => !(x.sa == a && x.stat == EgStat.wait))
  unfold State.txGoneIn
  simp only
  split
  · exact hu
  · generalize u.setEg r _ = v at hf
    have m : ∀ l, Moves (CAR_TXCNT.C_DISCARD :: smpMoves) [.ic, .out, .wraps, .cn] v (v.each l State.egLost) :=
      fun l => Moves.each .refl (fun x w => w.egLost_moves x)
    rw [(State.txEvent_moves _ _ _ _).calm rfl, (State.count_moves _ _ _ _).calm rfl, (m _).calm rfl, hf]

theorem State.rxKeyGone_calm (hc : s.calm = true) (a : Nat) : (s.rxKeyGone a).calm = true := by
  rw [s.rxKeyGone_eq]
  refine State.each_calm (fun r hr u hu => ?_) hc
  have hf := State.calm_filterIg hu (mem_upto.mp hr) (fun x => !x.under a)
  unfold State.rxGoneIn
  simp only
  split
  · exact hu
  · generalize u.setIg r _ = v at hf
    have m : ∀ l, Moves smpMoves [.ic, .out, .wraps, .cn] v (v.each l (State.igLost a)) :=
      fun l => Moves.each .refl (fun x w => w.igLost_moves a x)
    rw [(State.rxEvent_moves _ _ _ _).calm rfl, (State.count_moves _ _ _ _).calm rfl, (m _).calm rfl, hf]

end

/-! A slot that is READY stays READY or becomes ACTIVE (R74, R77, R78). -/

section
variable {s : State} {a c : Nat}

theorem State.switchSlot_ready (h : s.get SAT_TX.STATE a = saREADY) :
    (s.switchSlot c).get SAT_TX.STATE a = saREADY ∨ (s.switchSlot c).get SAT_TX.STATE a = saACTIVE := by
  rw [(s.switchSlot_swapped c).get rfl, State.swapped, State.get_set_field _ (by decide)]
  by_cases ho : a = s.othSa c
  · rw [ho, State.get_set_self]
    exact .inr rfl
  · rw [State.get_set_index _ _ ho]
    split
    · rename_i hc
      have hne : a ≠ s.curSa c := fun e => by
        rw [← e, h] at hc
        revert hc
        decide
      rw [State.get_set_index _ _ hne]
      exact .inl h
    · exact .inl h

theorem State.switchReq_ready (h : s.get SAT_TX.STATE a = saREADY) :
    (s.switchReq c).get SAT_TX.STATE a = saREADY ∨ (s.switchReq c).get SAT_TX.STATE a = saACTIVE := by
  unfold State.switchReq
  split
  · exact State.switchSlot_ready h
  · rw [(State.txEvent_moves _ _ _ _).get rfl]
    exact .inl h

theorem State.autoSwitch_ready (h : s.get SAT_TX.STATE a = saREADY) :
    (s.autoSwitch c).get SAT_TX.STATE a = saREADY ∨ (s.autoSwitch c).get SAT_TX.STATE a = saACTIVE := by
  unfold State.autoSwitch
  simp only
  split
  · exact State.switchSlot_ready h
  · exact .inl h

end

/-! A key is installed into a transmit SA (R74). -/

section
variable (s : State) (a : Nat)

/-- The fields of a transmit SA are initialised. -/
def State.txFresh : State :=
  ((((((s.set SAT_TX.INSTALLED a 1).set SAT_TX.ORPHAN a 0).set SAT_TX.NEXT_PN a 1).set SAT_TX.THRESH_HIT a 0).set
    SAT_TX.EXH_CAUSE a 0).clearCount SAT_TX.USED a).clearCount SAT_TX.PKTS a

theorem State.txInstalled_eq : s.txInstalled a =
    if s.get SCT_TX.CUR (a / 2) == a % 2 then ((s.txFresh a).set SAT_TX.STATE a saACTIVE).autFirst (a / 2)
    else ((s.txFresh a).set SAT_TX.STATE a saREADY).autoSwitch (a / 2) := by
  have h : ∀ cur : Bool, (if cur then ((s.txFresh a).set SAT_TX.STATE a (if cur then saACTIVE else saREADY)).autFirst (a / 2)
      else ((s.txFresh a).set SAT_TX.STATE a (if cur then saACTIVE else saREADY)).autoSwitch (a / 2)) =
      if cur then ((s.txFresh a).set SAT_TX.STATE a saACTIVE).autFirst (a / 2)
      else ((s.txFresh a).set SAT_TX.STATE a saREADY).autoSwitch (a / 2) := by
    rintro (_ | _)
    · simp only [Bool.false_eq_true, if_false]
    · simp only [if_true]
  exact h _

abbrev txFreshMoves : List Fld := [SAT_TX.INSTALLED, SAT_TX.ORPHAN, SAT_TX.NEXT_PN, SAT_TX.THRESH_HIT, SAT_TX.EXH_CAUSE,
  SAT_TX.USED, SAT_TX.PKTS, ICU_PORT.WAKE]

theorem State.txFresh_moves : Moves txFreshMoves countParts s (s.txFresh a) :=
  ((((((Moves.refl.also (s.set_moves SAT_TX.INSTALLED a 1) rfl rfl).also (State.set_moves _ SAT_TX.ORPHAN a 0) rfl rfl).also
    (State.set_moves _ SAT_TX.NEXT_PN a 1) rfl rfl).also (State.set_moves _ SAT_TX.THRESH_HIT a 0) rfl rfl).also
    (State.set_moves _ SAT_TX.EXH_CAUSE a 0) rfl rfl).also (State.clearCount_moves _ SAT_TX.USED a) rfl rfl).also
    (State.clearCount_moves _ SAT_TX.PKTS a) rfl rfl

theorem State.txFresh_installed : (s.txFresh a).get SAT_TX.INSTALLED a = 1 := by
  rw [State.txFresh, (State.clearCount_moves _ _ _).get rfl, (State.clearCount_moves _ _ _).get rfl]
  simp (disch := decide) only [State.get_set_field, State.get_set_self]
  rfl

theorem State.txInstalled_fresh : Moves exhaustMoves countParts (s.txFresh a) (s.txInstalled a) := by
  rw [s.txInstalled_eq]
  exact .ite ((Moves.refl.also (State.set_moves _ SAT_TX.STATE a _) rfl rfl).also (State.autFirst_moves _ _) rfl rfl)
    ((Moves.refl.also (State.set_moves _ SAT_TX.STATE a _) rfl rfl).trans (State.autoSwitch_moves _ _))

theorem State.txInstalled_moves : Moves (txFreshMoves ++ exhaustMoves) countParts s (s.txInstalled a) :=
  ((s.txFresh_moves a).mono rfl rfl).also (s.txInstalled_fresh a) rfl rfl

theorem State.txInstalled_installed : (s.txInstalled a).get SAT_TX.INSTALLED a = 1 := by
  rw [(s.txInstalled_fresh a).get rfl, s.txFresh_installed]

theorem State.txInstalled_state :
    (s.txInstalled a).get SAT_TX.STATE a = saREADY ∨ (s.txInstalled a).get SAT_TX.STATE a = saACTIVE := by
  rw [s.txInstalled_eq]
  split
  · rw [(State.autFirst_moves _ _).get rfl, State.get_set_self]
    exact .inr rfl
  · exact State.autoSwitch_ready (State.get_set_self _ _ _ _)

/-! A key is installed into a receive SA (R102). -/

abbrev rxInstalledMoves : List Fld := [SAT_RX.INSTALLED, SAT_RX.ORPHAN, SAT_RX.RETIRE_ARMED, SAT_RX.IN_OK, SAT_RX.IN_FAIL] ++
  rxActivateMoves

theorem State.rxInstalled_moves : Moves rxInstalledMoves countParts s (s.rxInstalled a) := by
  have h : Moves rxInstalledMoves countParts s (((((s.set SAT_RX.INSTALLED a 1).set SAT_RX.ORPHAN a 0).set
      SAT_RX.RETIRE_ARMED a 0).clearCount SAT_RX.IN_OK a).clearCount SAT_RX.IN_FAIL a) :=
    ((((Moves.refl.also (s.set_moves SAT_RX.INSTALLED a 1) rfl rfl).also (State.set_moves _ SAT_RX.ORPHAN a 0) rfl rfl).also
      (State.set_moves _ SAT_RX.RETIRE_ARMED a 0) rfl rfl).also (State.clearCount_moves _ SAT_RX.IN_OK a) rfl rfl).also
      (State.clearCount_moves _ SAT_RX.IN_FAIL a) rfl rfl
  have ha := h.also (State.rxActivate_moves _ a) rfl rfl
  exact .ite ha (.ite ha (h.also (State.set_moves _ SAT_RX.STATE a saREADY) rfl rfl))

/-! The key store takes an SA key. -/

/-- The key of an SA and its parent. -/
def State.saKeyIn (k : Nat) (key : List Octet) (parent : Nat) : State :=
  { s with ke.saKey := s.ke.saKey.set [] k key, ke.saParent := s.ke.saParent.set 0 k parent }

theorem State.saKeyIn_moves (k : Nat) (key : List Octet) (parent : Nat) : Moves [] [.ke] s (s.saKeyIn k key parent) := s.ke_moves _

theorem State.saKeyIn_key (k : Nat) (key : List Octet) (parent : Nat) : Tab.get [] (s.saKeyIn k key parent).ke.saKey k = key :=
  Tab.get_set_self _ _ _ _

/-- What stands before an SA's change: frames under the older key are lost, and its key is replaced. -/
def State.saReplaced (k : Nat) (key : List Octet) (parent : Nat) : State :=
  ((if k < 8192 then s.txKeyGone k else s.rxKeyGone (k - 8192)).saNote k).saKeyIn k key parent

theorem State.saInstall_eq (k : Nat) (key : List Octet) (parent : Nat) : s.saInstall k key parent =
    if k < 8192 then (s.saReplaced k key parent).txInstalled k else (s.saReplaced k key parent).rxInstalled (k - 8192) := rfl

theorem State.saReplaced_moves (k : Nat) (key : List Octet) (parent : Nat) :
    Moves saGoneMoves (.ke :: saGoneParts) s (s.saReplaced k key parent) :=
  ((Moves.ite ((s.txKeyGone_moves k).mono rfl rfl) ((s.rxKeyGone_moves _).mono rfl rfl)).also
    (State.saNote_moves _ k) rfl rfl).also (State.saKeyIn_moves _ k key parent) rfl rfl

variable {s}

theorem State.saReplaced_calm (hc : s.calm = true) (k : Nat) (key : List Octet) (parent : Nat) :
    (s.saReplaced k key parent).calm = true := by
  have h : (if k < 8192 then s.txKeyGone k else s.rxKeyGone (k - 8192)).calm = true := by
    split
    · exact State.txKeyGone_calm hc k
    · exact State.rxKeyGone_calm hc _
  rw [State.saReplaced, (State.saKeyIn_moves _ _ _ _).calm rfl, (State.saNote_moves _ _).calm rfl, h]

/-- Fields that the installation of an SA key moves. -/
abbrev saInstallMoves : List Fld := txFreshMoves ++ rxInstalledMoves ++ saGoneMoves

theorem State.saInstall_replaced (s : State) (k : Nat) (key : List Octet) (parent : Nat) :
    Moves saInstallMoves countParts (s.saReplaced k key parent) (s.saInstall k key parent) :=
  .ite ((State.txInstalled_moves _ _).mono rfl rfl) ((State.rxInstalled_moves _ _).mono rfl rfl)

theorem State.saInstall_moves (s : State) (k : Nat) (key : List Octet) (parent : Nat) :
    Moves saInstallMoves (.ke :: saGoneParts) s (s.saInstall k key parent) :=
  ((s.saReplaced_moves k key parent).mono rfl rfl).also (s.saInstall_replaced k key parent) rfl rfl

theorem State.saInstall_calm (hc : s.calm = true) (k : Nat) (key : List Octet) (parent : Nat) :
    (s.saInstall k key parent).calm = true :=
  ((s.saInstall_replaced k key parent).calm rfl).trans (State.saReplaced_calm hc k key parent)

theorem State.saInstall_key (s : State) (k : Nat) (key : List Octet) (parent : Nat) :
    Tab.get [] (s.saInstall k key parent).ke.saKey k = key := by
  have h : (s.saInstall k key parent).ke = (s.saReplaced k key parent).ke := (s.saInstall_replaced k key parent).parts .ke rfl
  rw [h]
  exact State.saKeyIn_key _ k key parent

theorem State.saInstall_tx {k : Nat} (hk : k < 8192) (key : List Octet) (parent : Nat) :
    s.saInstall k key parent = (s.saReplaced k key parent).txInstalled k := by
  rw [s.saInstall_eq, if_pos hk]

end

end Sys2Proof.Machine
end

/-! The instants of autonomous keying (R227, R235, R236). -/
section
namespace Sys2Proof.Machine

/-! The staged key of a transmit channel (R235, R236). -/

section
variable (s : State) (j c a n : Nat) (d : Dir)

theorem State.noteEpoch_moves (k : Nat) : Moves [GAU_SCH.EPOCH] [.au] s (s.noteEpoch j d c k n) :=
  (Moves.refl.also (s.au_moves _) rfl rfl).also (State.set_moves _ GAU_SCH.EPOCH j _) rfl rfl

theorem State.noteEpoch_autEpoch (k : Nat) : Tab.get 0 (s.noteEpoch j d c k n).au.autEpoch (scKey d c) = n + 1 :=
  Tab.get_set_self 0 s.au.autEpoch (scKey d c) (n + 1)

/-- A staged key leaves the stage, and its AN, SSCI and SALT stand in its SA, its epoch noted. -/
def State.autNoted (g : Staged) : State :=
  ((({ s with au.staged := s.au.staged.set none a none }.set SAT_TX.AN a (g.epoch % 4)).set SAT_TX.SSCI a g.ssci).set
    SAT_TX.SALT a g.salt).noteEpoch j .eg c a g.epoch

/-- A staged key is installed. -/
def State.autPlaced (g : Staged) : State :=
  if g.orphan then ((s.autNoted j c a g).saInstall a g.key (g.parent + 1)).set SAT_TX.ORPHAN a 1
  else (s.autNoted j c a g).saInstall a g.key (g.parent + 1)

/-- Epoch e counts as switched to. -/
def State.switchNoted (e : Nat) : State := { s with au.switched := s.au.switched.set 0 c e }

theorem State.switchNoted_moves (e : Nat) : Moves [] [.au] s (s.switchNoted c e) := s.au_moves _

theorem State.switchNoted_au (e : Nat) : (s.switchNoted c e).au.staged = s.au.staged ∧
    (s.switchNoted c e).au.autEpoch = s.au.autEpoch ∧ (s.switchNoted c e).au.saEpoch = s.au.saEpoch := ⟨rfl, rfl, rfl⟩

/-- A key whose epoch has begun is switched to. -/
def State.autCaught : State :=
  if n + 1 ≤ s.epochAt j s.now ∧ s.get SAT_TX.STATE a = saREADY then (s.switchNoted c (s.epochAt j s.now)).switchReq c else s

variable {s j c a n}

theorem State.autInstallTx_eq {g : Staged} (ha : a = s.autTarget c) (hj : j = s.get SCT_TX.SCHED c)
    (hg : Tab.get none s.au.staged a = some g) (hr : s.schRuns j = true) (hv : s.on SCT_TX.VALID c = true)
    (hw : s.epochStart j g.epoch ≤ s.now + s.schW j) (he : Tab.get 0 s.au.autEpoch c ≤ g.epoch)
    (hst : s.get SAT_TX.STATE a ≠ saACTIVE) (hf : s.storeFree (256 + a) = true) :
    s.autInstallTx c = (s.autPlaced j c a g).autCaught j c a g.epoch := by
  have hst' : State.get { s with au.staged := s.au.staged.set none a none } SAT_TX.STATE a ≠ saACTIVE := hst
  subst hj
  unfold State.autInstallTx
  rw [← ha]
  simp only [hg]
  rw [if_pos ⟨hr, hv, hw, hf⟩, if_neg (Nat.not_lt.mpr he), if_neg hst']
  rfl

theorem State.autNoted_moves (s : State) (j c a : Nat) (g : Staged) :
    Moves [SAT_TX.AN, SAT_TX.SSCI, SAT_TX.SALT, GAU_SCH.EPOCH] [.au] s (s.autNoted j c a g) :=
  ((((Moves.refl.also (s.au_moves _) rfl rfl).also (State.set_moves _ SAT_TX.AN a _) rfl rfl).also
    (State.set_moves _ SAT_TX.SSCI a _) rfl rfl).also (State.set_moves _ SAT_TX.SALT a _) rfl rfl).also
    (State.noteEpoch_moves _ j c g.epoch .eg a) rfl rfl

theorem State.autNoted_fields (s : State) (j c a : Nat) (g : Staged) :
    (s.autNoted j c a g).get SAT_TX.AN a = g.epoch % 4 ∧
      (s.autNoted j c a g).get SAT_TX.SSCI a = g.ssci % 2 ^ SAT_TX.SSCI.width ∧
      (s.autNoted j c a g).get SAT_TX.SALT a = g.salt % 2 ^ SAT_TX.SALT.width := by
  have m := fun u : State => u.noteEpoch_moves j c g.epoch .eg a
  refine ⟨?_, ?_, ?_⟩ <;> rw [State.autNoted, (m _).get rfl] <;>
    simp (disch := decide) only [State.get_set_field, State.get_set_self]
  exact Nat.mod_mod _ _

theorem State.autNoted_au (s : State) (j c a : Nat) (g : Staged) :
    Tab.get none (s.autNoted j c a g).au.staged a = none ∧ Tab.get 0 (s.autNoted j c a g).au.autEpoch c = g.epoch + 1 :=
  ⟨Tab.get_set_self none s.au.staged a none, State.noteEpoch_autEpoch _ j c g.epoch .eg a⟩

theorem State.autPlaced_installed (s : State) (j c a : Nat) (g : Staged) :
    Moves [SAT_TX.ORPHAN] [] ((s.autNoted j c a g).saInstall a g.key (g.parent + 1)) (s.autPlaced j c a g) :=
  .ite (State.set_moves _ SAT_TX.ORPHAN a 1) .refl

theorem State.autCaught_moves (s : State) (j c a n : Nat) :
    Moves (SCT_TX.EV_SWITCH_MISS :: exhaustMoves) (.au :: countParts) s (s.autCaught j c a n) :=
  .ite ((Moves.refl.also (s.switchNoted_moves c _) rfl rfl).also (State.switchReq_moves _ c) rfl rfl) .refl

/-- The switch to a key whose epoch has begun keeps the stage and the epochs installed. -/
theorem State.autCaught_au (s : State) (j c a n : Nat) :
    (s.autCaught j c a n).au.staged = s.au.staged ∧ (s.autCaught j c a n).au.autEpoch = s.au.autEpoch := by
  have h : ∀ u : State, (u.switchReq c).au = u.au := fun u => (u.switchReq_moves c).parts .au rfl
  obtain ⟨h1, h2, -⟩ := s.switchNoted_au c (s.epochAt j s.now)
  unfold State.autCaught
  split
  · rw [h, h1, h2]
    exact ⟨rfl, rfl⟩
  · exact ⟨rfl, rfl⟩

/-- A slot that holds a new key stays READY or becomes ACTIVE. -/
theorem State.autCaught_state (h : s.get SAT_TX.STATE a = saREADY ∨ s.get SAT_TX.STATE a = saACTIVE) :
    (s.autCaught j c a n).get SAT_TX.STATE a = saREADY ∨ (s.autCaught j c a n).get SAT_TX.STATE a = saACTIVE := by
  unfold State.autCaught
  split
  · rename_i hr
    exact State.switchReq_ready (((s.switchNoted_moves c _).get rfl a).trans hr.2)
  · exact h

/-- What the installation of a staged key leaves (R235, R236). -/
theorem epochInstallInstant_transmit {g : Staged} {c : Fin 4096} (hc : s.calm = true) (ha : a = s.autTarget c.val)
    (hg : Tab.get none s.au.staged a = some g) (hr : s.schRuns (s.get SCT_TX.SCHED c.val) = true)
    (hv : s.on SCT_TX.VALID c.val = true)
    (hw : s.epochStart (s.get SCT_TX.SCHED c.val) g.epoch ≤ s.now + s.schW (s.get SCT_TX.SCHED c.val))
    (he : Tab.get 0 s.au.autEpoch c.val ≤ g.epoch) (hst : s.get SAT_TX.STATE a ≠ saACTIVE) (hf : s.storeFree (256 + a) = true) :
    ∃ t, exec (.epochInstallInstant .eg c) s = .next t ∧ Tab.get none t.au.staged a = none ∧
      Tab.get [] t.ke.saKey a = g.key ∧ t.get SAT_TX.AN a = g.epoch % 4 ∧ t.get SAT_TX.INSTALLED a = 1 ∧
      t.get SAT_TX.SALT a = g.salt % 2 ^ SAT_TX.SALT.width ∧ t.get SAT_TX.SSCI a = g.ssci % 2 ^ SAT_TX.SSCI.width ∧
      (t.get SAT_TX.STATE a = saREADY ∨ t.get SAT_TX.STATE a = saACTIVE) ∧ Tab.get 0 t.au.autEpoch c.val = g.epoch + 1 := by
  have hx := State.autInstallTx_eq ha rfl hg hr hv hw he hst hf
  generalize hj : s.get SCT_TX.SCHED c.val = j at hx
  have ha8 : a < 8192 := by
    have hlt := s.txCur_lt c.val
    have hcl := c.isLt
    rw [ha, State.autTarget]
    split <;> simp only [State.curSa, State.othSa] <;> omega
  have mn := s.autNoted_moves j c.val a g
  obtain ⟨hAN, hSSCI, hSALT⟩ := s.autNoted_fields j c.val a g
  obtain ⟨hstage, hep⟩ := s.autNoted_au j c.val a g
  generalize hu : s.autNoted j c.val a g = u at mn hAN hSSCI hSALT hstage hep
  have mi := u.saInstall_moves a g.key (g.parent + 1)
  have hki := u.saInstall_key a g.key (g.parent + 1)
  have hci := State.saInstall_calm ((mn.calm rfl).trans hc) a g.key (g.parent + 1)
  have hin : (u.saInstall a g.key (g.parent + 1)).get SAT_TX.INSTALLED a = 1 := by
    rw [State.saInstall_tx ha8, State.txInstalled_installed]
  have hsi : (u.saInstall a g.key (g.parent + 1)).get SAT_TX.STATE a = saREADY ∨
      (u.saInstall a g.key (g.parent + 1)).get SAT_TX.STATE a = saACTIVE := by
    rw [State.saInstall_tx ha8]
    exact State.txInstalled_state _ a
  have hau : (u.saInstall a g.key (g.parent + 1)).au = u.au := mi.parts .au rfl
  have mp := s.autPlaced_installed j c.val a g
  rw [hu] at mp
  generalize u.saInstall a g.key (g.parent + 1) = v at mi hki hci hin hsi hau mp
  generalize s.autPlaced j c.val a g = w at hx mp
  have hwa : w.au = u.au := (mp.parts .au rfl).trans hau
  have hwk : w.ke = v.ke := mp.parts .ke rfl
  have mc := w.autCaught_moves j c.val a g.epoch
  obtain ⟨hcs, hce⟩ := w.autCaught_au j c.val a g.epoch
  have hcst := State.autCaught_state (j := j) (c := c.val) (n := g.epoch) (by rwa [← mp.get (f := SAT_TX.STATE) rfl] at hsi)
  have hck : (w.autCaught j c.val a g.epoch).ke = w.ke := mc.parts .ke rfl
  generalize w.autCaught j c.val a g.epoch = t at hx mc hcs hce hcst hck
  have hta : t.closed.au = t.au := t.closed_moves.parts .au rfl
  have htk : t.closed.ke = t.ke := t.closed_moves.parts .ke rfl
  refine ⟨t.closed, ?_, ?_, ?_, ?_, ?_, ?_, ?_, ?_, ?_⟩
  · change finish (s.autInstallTx c.val) = _
    rw [hx, finish_calm _ ((mc.calm rfl).trans ((mp.calm rfl).trans hci))]
  · rw [hta, hcs, hwa, hstage]
  · rw [htk, hck, hwk, hki]
  · rw [State.closed_get _ rfl, mc.get rfl, mp.get rfl, mi.get rfl, hAN]
  · rw [State.closed_get _ rfl, mc.get rfl, mp.get rfl, hin]
  · rw [State.closed_get _ rfl, mc.get rfl, mp.get rfl, mi.get rfl, hSALT]
  · rw [State.closed_get _ rfl, mc.get rfl, mp.get rfl, mi.get rfl, hSSCI]
  · rw [State.closed_get _ rfl]
    exact hcst
  · rw [hta, hce, hwa, hep]

end

/-! The acceptance time of a receive channel (R235). -/

section
variable {s : State} {c n m j : Nat}

theorem State.autActivateRx_eq (hj : j = s.get SCT_RX.SCHED c) (hn : Tab.get 0 s.au.saEpoch (8192 + s.rxOth c) = n + 1)
    (hm : Tab.get 0 s.au.saEpoch (8192 + s.rxCur c) = m + 1) (hr : s.schRuns j = true) (hv : s.on SCT_RX.VALID c = true)
    (hk : s.on SCT_RX.KEYING c = true) (hst : s.get SAT_RX.STATE (s.rxOth c) = saREADY)
    (hw : s.epochStart j n ≤ s.now + s.schW j) :
    s.autActivateRx c = if s.get SAT_RX.STATE (s.rxCur c) = saACTIVE then
      (s.rxActivate (s.rxOth c)).rxArm (s.rxCur c) (s.epochStart j (m + 1) + s.schW j) else s.rxActivate (s.rxOth c) := by
  subst hj
  have ma := s.rxActivate_moves (s.rxOth c)
  have hau : (s.rxActivate (s.rxOth c)).au = s.au := ma.parts .au rfl
  have hold := State.rxActivate_otherState (s := s) (s.rxCur_ne_rxOth c)
  have hes : (s.rxActivate (s.rxOth c)).epochStart (s.get SCT_RX.SCHED c) (m + 1) +
      (s.rxActivate (s.rxOth c)).schW (s.get SCT_RX.SCHED c) =
      s.epochStart (s.get SCT_RX.SCHED c) (m + 1) + s.schW (s.get SCT_RX.SCHED c) := by
    rw [State.epochStart, State.schT0, State.schP, State.schW, ma.get rfl, ma.get rfl, ma.get rfl]
    rfl
  rw [← hold, ← hes, State.autActivateRx]
  simp only [show 2 * c + (1 - s.get SCT_RX.CUR c) = s.rxOth c from rfl, show 2 * c + s.get SCT_RX.CUR c = s.rxCur c from rfl, hn,
    hau, hm, Nat.add_sub_cancel, Nat.succ_ne_zero, if_false]
  rw [if_pos ⟨hr, hv, hk, hst, Nat.succ_pos n, hw⟩]

/-- What the acceptance time of a READY receive slot leaves. -/
theorem epochInstallInstant_receive {c : Fin 4096} (hc : s.calm = true) (hj : j = s.get SCT_RX.SCHED c.val)
    (hn : Tab.get 0 s.au.saEpoch (8192 + s.rxOth c.val) = n + 1)
    (hm : Tab.get 0 s.au.saEpoch (8192 + s.rxCur c.val) = m + 1) (hr : s.schRuns j = true) (hv : s.on SCT_RX.VALID c.val = true)
    (hk : s.on SCT_RX.KEYING c.val = true) (hst : s.get SAT_RX.STATE (s.rxOth c.val) = saREADY)
    (hw : s.epochStart j n ≤ s.now + s.schW j) :
    ∃ t, exec (.epochInstallInstant .ig c) s = .next t ∧ t.get SAT_RX.STATE (s.rxOth c.val) = saACTIVE ∧
      t.get SCT_RX.CUR c.val = 1 - s.get SCT_RX.CUR c.val ∧
      (s.get SAT_RX.STATE (s.rxCur c.val) = saACTIVE →
        if s.epochStart j (m + 1) + s.schW j ≤ s.now then t.get SAT_RX.STATE (s.rxCur c.val) = saRETIRED
        else t.get SAT_RX.RETIRE_ARMED (s.rxCur c.val) = 1 ∧
          t.rxRetireAt (s.rxCur c.val) = (s.epochStart j (m + 1) + s.schW j) / ns * ns) := by
  have hx := State.autActivateRx_eq hj hn hm hr hv hk hst hw
  generalize s.epochStart j (m + 1) + s.schW j = e at hx
  have ma := s.rxActivate_moves (s.rxOth c.val)
  have hoth := s.rxActivate_state (s.rxOth c.val)
  have hold := State.rxActivate_otherState (s := s) (s.rxCur_ne_rxOth c.val)
  have hcur : (s.rxActivate (s.rxOth c.val)).get SCT_RX.CUR c.val = 1 - s.get SCT_RX.CUR c.val := by
    have h := s.rxActivate_cur (s.rxOth c.val)
    rw [s.rxOth_div] at h
    rw [h, State.rxOth]
    omega
  generalize s.rxActivate (s.rxOth c.val) = u at hx ma hoth hold hcur
  have hexec : exec (.epochInstallInstant .ig c) s = finish (s.autActivateRx c.val) := rfl
  by_cases hact : s.get SAT_RX.STATE (s.rxCur c.val) = saACTIVE
  · rw [if_pos hact] at hx
    have mr := u.rxArm_moves (s.rxCur c.val) e
    have ho := State.rxArm_outcome (s := u) (a := s.rxCur c.val) (at_ := e) (hold.trans hact)
    have hno := State.rxArm_otherState (s := u) (at_ := e) (s.rxCur_ne_rxOth c.val).symm
    rw [show u.now = s.now from ma.parts .now rfl] at ho
    generalize u.rxArm (s.rxCur c.val) e = v at hx mr ho hno
    have hret : v.closed.rxRetireAt (s.rxCur c.val) = v.rxRetireAt (s.rxCur c.val) := by
      have h : v.closed.fr.retireAt = v.fr.retireAt := v.closed_moves.parts .retireAt rfl
      rw [State.rxRetireAt, h, State.rxRetireAt]
    refine ⟨v.closed, ?_, ?_, ?_, fun _ => ?_⟩
    · rw [hexec, hx, finish_calm _ ((mr.calm rfl).trans ((ma.calm rfl).trans hc))]
    · rw [State.closed_get _ rfl, hno, hoth]
    · rw [State.closed_get _ rfl, mr.get rfl, hcur]
    · rw [State.closed_get _ rfl, State.closed_get _ rfl, hret]
      by_cases hle : e ≤ s.now
      · rw [if_pos hle] at ho ⊢
        exact ho
      · rw [if_neg hle] at ho ⊢
        exact ho.2
  · rw [if_neg hact] at hx
    refine ⟨u.closed, ?_, ?_, ?_, fun h => absurd h hact⟩
    · rw [hexec, hx, finish_calm _ ((ma.calm rfl).trans hc)]
    · rw [State.closed_get _ rfl, hoth]
    · rw [State.closed_get _ rfl, hcur]

end

/-! A transmit channel switches at the start of an epoch (R235). -/

/-- The switch of a channel whose current key is of an earlier epoch. -/
theorem epochSwitchInstant_switches {s : State} {c : Fin 4096} {e : Nat} (hc : s.calm = true)
    (he : e = s.epochAt (s.get SCT_TX.SCHED c.val) s.now) (hr : s.schRuns (s.get SCT_TX.SCHED c.val) = true)
    (hv : s.on SCT_TX.VALID c.val = true) (hk : s.on SCT_TX.KEYING c.val = true) (hs : Tab.get 0 s.au.switched c.val < e)
    (hcur : Tab.get 0 s.au.saEpoch (s.curSa c.val) < e) (hoth : Tab.get 0 s.au.saEpoch (s.othSa c.val) ≤ e) :
    ∃ t, exec (.epochSwitchInstant c) s = .next t ∧ s.switched t c.val ∧ Tab.get 0 t.au.switched c.val = e := by
  have mu := s.switchNoted_moves c.val e
  have hx : s.autSwitch c.val = (s.switchNoted c.val e).switchReq c.val := by
    have ec : (s.switchNoted c.val e).curSa c.val = s.curSa c.val := by rw [State.curSa, mu.get rfl, State.curSa]
    have eo : (s.switchNoted c.val e).othSa c.val = s.othSa c.val := by rw [State.othSa, mu.get rfl, State.othSa]
    obtain ⟨-, -, ea⟩ := s.switchNoted_au c.val e
    have h1 : ¬e ≤ Tab.get 0 (s.switchNoted c.val e).au.saEpoch ((s.switchNoted c.val e).curSa c.val) := by
      rw [ec, ea]
      exact Nat.not_le.mpr hcur
    have h2 : ¬(e < Tab.get 0 (s.switchNoted c.val e).au.saEpoch ((s.switchNoted c.val e).othSa c.val) ∧
        (s.switchNoted c.val e).get SAT_TX.STATE ((s.switchNoted c.val e).othSa c.val) = saREADY) := by
      rw [eo, ea]
      exact fun h => Nat.not_lt.mpr hoth h.1
    subst he
    exact (if_pos ⟨hr, hv, hk, hs⟩).trans ((if_neg h1).trans (if_neg h2))
  have hmark : Tab.get 0 (s.switchNoted c.val e).au.switched c.val = e := Tab.get_set_self _ _ _ _
  generalize s.switchNoted c.val e = u at mu hx hmark
  have m := u.switchReq_moves c.val
  refine ⟨(u.switchReq c.val).closed, ?_, State.switched_of_alike (mu.alikeAt (by decide))
    ((State.closed_moves _).alikeAt (by decide)) (u.switchReq_switched c.val), ?_⟩
  · change finish (s.autSwitch c.val) = _
    rw [hx, finish_calm _ ((m.calm rfl).trans ((mu.calm rfl).trans hc))]
  · have h1 : (u.switchReq c.val).closed.au = (u.switchReq c.val).au := (State.closed_moves _).parts .au rfl
    have h2 : (u.switchReq c.val).au = u.au := m.parts .au rfl
    rw [h1, h2, hmark]

end Sys2Proof.Machine
end

/-! The derivations of autonomous keying (R177, R201, R202, R231 to R234, R236). -/
section
namespace Sys2Proof.Machine

/-! A derivation fails (R234). -/

section
variable (s : State)

/-- Fields that a failed derivation moves. -/
abbrev autFailMoves : List Fld := [GAU_AUT_FAIL_TX.V, GAU_AUT_FAIL_RX.V, GAU_AUT_LAST.SC, GAU_AUT_LAST.DIR, GAU_AUT_LAST.REASON,
  GAU_SCH.FAILS, GAU_SCH.PASS_FAIL, ICU_PORT.WAKE]

/-- The failure's channel and reason are recorded, and it counts. -/
def State.autLogged (j : Nat) (d : Dir) (c reason : Nat) : State :=
  let f := match d with
    | .eg => GAU_AUT_FAIL_TX.V
    | .ig => GAU_AUT_FAIL_RX.V
  let s := s.set f (c / 32) (setBit (s.get f (c / 32)) (c % 32))
  (((s.set GAU_AUT_LAST.SC 0 c).set GAU_AUT_LAST.DIR 0 (match d with
    | .eg => 0
    | .ig => 1)).set GAU_AUT_LAST.REASON 0 reason).bump GAU_SCH.FAILS j 1

theorem State.autFail_eq (j : Nat) (d : Dir) (c reason : Nat) :
    s.autFail j d c reason = (s.autLogged j d c reason).event GAU_SCH.PASS_FAIL j 0x01D := by
  cases d <;> rfl

theorem State.autLogged_moves (j : Nat) (d : Dir) (c reason : Nat) : Moves autFailMoves [] s (s.autLogged j d c reason) := by
  cases d <;>
    exact ((((Moves.refl.also (s.set_moves _ _ _) rfl rfl).also (State.set_moves _ GAU_AUT_LAST.SC 0 c) rfl rfl).also
      (State.set_moves _ GAU_AUT_LAST.DIR 0 _) rfl rfl).also (State.set_moves _ GAU_AUT_LAST.REASON 0 reason) rfl rfl).also
      (State.bump_moves _ GAU_SCH.FAILS j 1) rfl rfl

theorem State.autFail_moves (j : Nat) (d : Dir) (c reason : Nat) :
    Moves autFailMoves [.ic, .out] s (s.autFail j d c reason) := by
  rw [s.autFail_eq]
  exact ((s.autLogged_moves j d c reason).mono rfl rfl).also (State.event_moves _ GAU_SCH.PASS_FAIL j 0x01D) rfl rfl

theorem State.autFail_reason (j : Nat) (d : Dir) (c reason : Nat) :
    (s.autFail j d c reason).get GAU_AUT_LAST.REASON 0 = reason % 256 := by
  rw [s.autFail_eq, (State.event_moves _ _ _ _).get rfl]
  change ((State.set _ GAU_AUT_LAST.REASON 0 reason).bump GAU_SCH.FAILS j 1).get GAU_AUT_LAST.REASON 0 = _
  rw [(State.bump_moves _ _ _ _).get rfl, State.get_set_self]
  rfl

theorem State.autFail_passFail (j : Nat) (d : Dir) (c reason : Nat) :
    (s.autFail j d c reason).get GAU_SCH.PASS_FAIL j = 1 := by
  rw [s.autFail_eq]
  exact State.event_get_self rfl rfl

end

/-- A failed derivation ends its turn. -/
theorem autFail_ends {s : State} (hc : s.calm = true) (j : Nat) (d : Dir) (c : Nat) {reason : Nat} (hr : reason < 256) :
    ∃ t, finish (s.autFail j d c reason) = .next t ∧ t.au = s.au ∧ t.get GAU_AUT_LAST.REASON 0 = reason ∧
      t.get GAU_SCH.PASS_FAIL j = 1 ∧ t.get CHS_ENGINE.STATE 0 = s.get CHS_ENGINE.STATE 0 := by
  have m := s.autFail_moves j d c reason
  have hau : (s.autFail j d c reason).closed.au = (s.autFail j d c reason).au := (State.closed_moves _).parts .au rfl
  refine ⟨_, finish_calm _ ((m.calm rfl).trans hc), hau.trans (m.parts .au rfl), ?_, ?_, ?_⟩
  · rw [State.closed_get _ rfl, s.autFail_reason, Nat.mod_eq_of_lt hr]
  · rw [State.closed_get _ rfl, s.autFail_passFail]
  · rw [State.closed_get _ rfl, m.get rfl]

/-! A derivation is done with, and its use of the slot counts (R164, R203). -/

section
variable {s : State} {r : Nat} {x : PassItem}

theorem State.itemDone_moves (s : State) (r : Nat) (x : PassItem) : Moves [] [.au, .ch, .deep] s (s.itemDone r x) :=
  .of_parts rfl (by rintro ⟨⟩ ⟨⟩ <;> rfl) rfl rfl

theorem State.itemDone_au (s : State) (r : Nat) (x : PassItem) : (s.itemDone r x).au.passItems = s.au.passItems.erase x ∧
    (s.itemDone r x).au.autEpoch = s.au.autEpoch := ⟨rfl, rfl⟩

/-- A use of a limited slot counts; at its limit the slot is EXHAUSTED. -/
def State.slotCounted (s : State) (k : Nat) : State :=
  let s := s.bump KST_SLOT.USED k 1
  if s.get KST_SLOT.LIMIT k ≤ s.get KST_SLOT.USED k ∧ s.get KST_SLOT.STATE k = 1 then (s.set KST_SLOT.STATE k 3).pend 0x3C6 else s

theorem State.slotUse_eq (s : State) (k : Nat) : s.slotUse k =
    if s.on KST_SLOT.LIMIT_EN k then
      if (s.slotCounted k).on KST_SLOT.PERSISTED k then ((s.slotCounted k).persist k).2 else s.slotCounted k
    else s := rfl

theorem State.slotCounted_moves (s : State) (k : Nat) :
    Moves [KST_SLOT.USED, KST_SLOT.STATE, ICU_PORT.WAKE] [.ic, .out] s (s.slotCounted k) := by
  have h : Moves [KST_SLOT.USED, KST_SLOT.STATE, ICU_PORT.WAKE] [.ic, .out] s (s.bump KST_SLOT.USED k 1) :=
    Moves.refl.also (s.bump_moves KST_SLOT.USED k 1) rfl rfl
  exact .ite ((h.also (State.set_moves _ KST_SLOT.STATE k 3) rfl rfl).also (State.pend_moves _ _) rfl rfl) h

theorem State.slotUse_moves (s : State) (k : Nat) : Moves (ICU_PORT.WAKE :: slotMoves) [.ke, .ic, .out] s (s.slotUse k) := by
  have h : Moves (ICU_PORT.WAKE :: slotMoves) [.ke, .ic, .out] s (s.slotCounted k) := (s.slotCounted_moves k).mono rfl rfl
  rw [s.slotUse_eq]
  exact .ite (.ite (h.also (State.persist_moves _ k) rfl rfl) h) .refl

theorem State.persist_slotKey (s : State) (k : Nat) : (s.persist k).2.ke.slotKey = s.ke.slotKey := by
  unfold State.persist
  split <;> rfl

/-- A use of a slot keeps its key. -/
theorem State.slotUse_slotKey (s : State) (k : Nat) : (s.slotUse k).ke.slotKey = s.ke.slotKey := by
  have h : (s.slotCounted k).ke = s.ke := (s.slotCounted_moves k).parts .ke rfl
  rw [s.slotUse_eq]
  split
  · split
    · rw [State.persist_slotKey, h]
    · rw [h]
  · rfl

/-- A derivation whose use of the slot has counted is done with. -/
def State.itemUsed (s : State) (r : Nat) (x : PassItem) : State := (s.slotUse (s.itemSlot x)).itemDone r x

theorem State.itemUsed_moves (s : State) (r : Nat) (x : PassItem) :
    Moves (ICU_PORT.WAKE :: slotMoves) [.ke, .ic, .out, .au, .ch, .deep] s (s.itemUsed r x) :=
  ((s.slotUse_moves _).mono rfl rfl).also (State.itemDone_moves _ r x) rfl rfl

theorem State.itemUsed_au (s : State) (r : Nat) (x : PassItem) : (s.itemUsed r x).au.passItems = s.au.passItems.erase x ∧
    (s.itemUsed r x).au.autEpoch = s.au.autEpoch := by
  have h : (s.slotUse (s.itemSlot x)).au = s.au := (s.slotUse_moves _).parts .au rfl
  obtain ⟨h1, h2⟩ := (s.slotUse (s.itemSlot x)).itemDone_au r x
  rw [State.itemUsed, h1, h2, h]
  exact ⟨rfl, rfl⟩

theorem State.itemUsed_slotKey (s : State) (r : Nat) (x : PassItem) : (s.itemUsed r x).ke.slotKey = s.ke.slotKey := by
  have h : (s.itemUsed r x).ke = (s.slotUse (s.itemSlot x)).ke := (State.itemDone_moves _ r x).parts .ke rfl
  rw [h, s.slotUse_slotKey]

theorem State.itemUsed_itemSlot (s : State) (r : Nat) (x : PassItem) : (s.itemUsed r x).itemSlot x = s.itemSlot x := by
  have m := s.itemUsed_moves r x
  unfold State.itemSlot
  cases x.dir
  · exact m.get rfl _
  · exact m.get rfl _

theorem State.itemUsed_itemKey (s : State) (r : Nat) (x : PassItem) : (s.itemUsed r x).itemKey x = s.itemKey x := by
  have m := s.itemUsed_moves r x
  obtain ⟨-, he⟩ := s.itemUsed_au r x
  unfold State.itemKey
  cases x.dir
  · simp only [State.autTarget, State.curSa, State.othSa, he, m.get (f := SCT_TX.CUR) rfl]
  · simp only [he, m.get (f := SCT_RX.CUR) rfl]

theorem State.itemUsed_saState (s : State) (r : Nat) (x : PassItem) (k : Nat) : (s.itemUsed r x).saState k = s.saState k := by
  have m := s.itemUsed_moves r x
  rw [State.saState, m.get rfl, m.get rfl, State.saState]

end

/-! A fault of the engine (R201, R202). -/

/-- A fault counts, and the engine is tested. -/
def State.chsFaulted (s : State) : State := ((s.count CHS_FAULTS.V 0 1).set CHS_ENGINE.STATE 0 1).pend 0x3C2

section
variable (s : State)

theorem State.chsFaulted_moves : Moves [CHS_FAULTS.V, CHS_ENGINE.STATE, ICU_PORT.WAKE] [.ic, .out, .wraps] s s.chsFaulted :=
  ((Moves.refl.also (s.count_moves CHS_FAULTS.V 0 1) rfl rfl).also (State.set_moves _ CHS_ENGINE.STATE 0 1) rfl rfl).also
    (State.pend_moves _ _) rfl rfl

theorem State.chsFaulted_state : s.chsFaulted.get CHS_ENGINE.STATE 0 = 1 := by
  rw [State.chsFaulted, (State.pend_moves _ _).get rfl, State.get_set_self]
  rfl

theorem State.chsFaulted_counted : s.chsFaulted.get CHS_FAULTS.V 0 = (s.get CHS_FAULTS.V 0 + 1) % 2 ^ 64 := by
  rw [State.chsFaulted, (State.pend_moves _ _).get rfl, State.get_set_field _ (by decide)]
  exact s.count_get_self rfl 0 1

theorem State.chsFaulted_source : 0x3C2 ∈ s.chsFaulted.ic.icu := State.mem_pend_self _ _

end

/-! The turn of a region (R203, R233). -/

section
variable {s : State} {r : Nat} {x : PassItem} {fault : Bool}

/-- The reason of a derivation that its slot or its key refuses is a code of Chisel's. -/
theorem State.itemCode_lt (s : State) (x : PassItem) : s.itemCode x < 256 := by
  unfold State.itemCode State.slotCheck
  simp only
  split_ifs <;> decide

/-- The item is not superseded, and the engine is in service. -/
structure State.Turns (s : State) (x : PassItem) : Prop where
  epoch : ¬x.epoch < Tab.get 0 s.au.autEpoch (scKey x.dir x.sc)
  engine : s.get CHS_ENGINE.STATE 0 = 0

theorem State.regionTurn_refused (h : s.Turns x) (hg : Tab.get 0 s.au.passRetry r = 0) (hc : s.itemCode x ≠ 0) :
    s.regionTurn r x fault = if s.itemCode x = 5 then (s.itemDone r x).autFail x.sched x.dir x.sc 5
      else ((s.itemDone r x).denied).autFail x.sched x.dir x.sc (s.itemCode x) :=
  (if_neg h.epoch).trans ((if_neg (by rw [h.engine]; decide)).trans ((if_neg (fun k => k.1 hg)).trans (if_pos ⟨hg, hc⟩)))

theorem State.regionTurn_runs (h : s.Turns x) (hk : Tab.get 0 s.au.passRetry r ≠ 0 → s.cakGone x (Tab.get 0 s.au.passRetry r) = false)
    (hc : Tab.get 0 s.au.passRetry r = 0 → s.itemCode x = 0)
    (hf : x.dir = .ig → fault = false → s.storeFree (256 + s.itemKey x) = true) :
    s.regionTurn r x fault = s.itemRun r x fault := by
  have h3 : ¬(Tab.get 0 s.au.passRetry r ≠ 0 ∧ s.cakGone x (Tab.get 0 s.au.passRetry r) = true) :=
    fun k => Bool.noConfusion ((hk k.1).symm.trans k.2)
  have h4 : ¬(Tab.get 0 s.au.passRetry r = 0 ∧ s.itemCode x ≠ 0) := fun k => k.2 (hc k.1)
  have h5 : ¬(x.dir = .ig ∧ fault = false ∧ s.storeFree (256 + s.itemKey x) = false) :=
    fun k => Bool.noConfusion ((hf k.1 k.2.1).symm.trans k.2.2)
  exact (if_neg h.epoch).trans ((if_neg (by rw [h.engine]; decide)).trans ((if_neg h3).trans ((if_neg h4).trans (if_neg h5))))

theorem State.itemRun_ends (hg : Tab.get 0 s.au.passRetry r = 0) : s.itemRun r x false = (s.itemUsed r x).autDerive x := by
  have h : (if Tab.get 0 s.au.passRetry r = 0 then s.slotUse (s.itemSlot x) else s) = s.slotUse (s.itemSlot x) := if_pos hg
  unfold State.itemRun
  simp only [h, Bool.false_eq_true, if_false]
  rfl

theorem State.itemRun_faults (hg : Tab.get 0 s.au.passRetry r = 0) :
    ∃ y, s.itemRun r x true = { (s.slotUse (s.itemSlot x)).chsFaulted with au.passRetry := y } := by
  have h : (if Tab.get 0 s.au.passRetry r = 0 then s.slotUse (s.itemSlot x) else s) = s.slotUse (s.itemSlot x) := if_pos hg
  unfold State.itemRun
  simp only [h, if_true]
  rw [if_pos hg]
  exact ⟨_, rfl⟩

theorem State.itemRun_repeated (hg : Tab.get 0 s.au.passRetry r ≠ 0) :
    s.itemRun r x true = (s.chsFaulted.itemDone r x).autFail x.sched x.dir x.sc 4 := by
  have h : (if Tab.get 0 s.au.passRetry r = 0 then s.slotUse (s.itemSlot x) else s) = s := if_neg hg
  unfold State.itemRun
  simp only [h, if_true]
  exact if_neg hg

end

/-! What a turn leaves. -/

section
variable {s : State} {r : Region} {x : PassItem}

theorem exec_autokeySaDerive {fault : Bool} (hn : s.nextItem r.val = some x) (ht : s.chsTurn = some r.val) :
    exec (.autokeySaDerive r fault) s = finish (s.regionTurn r.val x fault) := by
  change finish (s.autTurn r.val fault) = _
  rw [State.autTurn, hn]
  exact congrArg finish (if_pos ht)

variable (hc : s.calm = true) (hn : s.nextItem r.val = some x) (ht : s.chsTurn = some r.val) (h : s.Turns x)
include hc hn ht h

/-- A derivation that its slot or its key refuses. -/
theorem autokeySaDerive_refused (hg : Tab.get 0 s.au.passRetry r.val = 0) (hcode : s.itemCode x ≠ 0) (fault : Bool) :
    ∃ t, exec (.autokeySaDerive r fault) s = .next t ∧ t.au.passItems = s.au.passItems.erase x ∧
      t.get GAU_AUT_LAST.REASON 0 = s.itemCode x ∧ t.get GAU_SCH.PASS_FAIL x.sched = 1 := by
  rw [exec_autokeySaDerive hn ht, State.regionTurn_refused h hg hcode]
  have md := s.itemDone_moves r.val x
  obtain ⟨hi, -⟩ := s.itemDone_au r.val x
  split
  · rename_i h5
    obtain ⟨t, he, hau, hr, hp, -⟩ := autFail_ends ((md.calm rfl).trans hc) x.sched x.dir x.sc (reason := 5) (by decide)
    exact ⟨t, he, by rw [hau, hi], by rw [hr, h5], hp⟩
  · have mc : Moves [KST_DENY_CNT.V, ICU_PORT.WAKE] [.ic, .out, .wraps] (s.itemDone r.val x) (s.itemDone r.val x).denied :=
      State.count_moves _ KST_DENY_CNT.V 0 1
    obtain ⟨t, he, hau, hr, hp, -⟩ := autFail_ends ((mc.calm rfl).trans ((md.calm rfl).trans hc)) x.sched x.dir x.sc (s.itemCode_lt x)
    exact ⟨t, he, by rw [hau, mc.parts .au rfl, hi], hr, hp⟩

/-- A derivation that meets a fault. -/
theorem autokeySaDerive_faults (hg : Tab.get 0 s.au.passRetry r.val = 0) (hcode : s.itemCode x = 0) :
    ∃ t, exec (.autokeySaDerive r true) s = .next t ∧ t.get CHS_ENGINE.STATE 0 = 1 ∧
      t.get CHS_FAULTS.V 0 = (s.get CHS_FAULTS.V 0 + 1) % 2 ^ 64 ∧ t.ic.icu.contains 0x3C2 = true ∧
      t.au.passItems = s.au.passItems := by
  obtain ⟨y, hy⟩ := State.itemRun_faults (x := x) hg
  have hx := State.regionTurn_runs (fault := true) h (fun k => absurd hg k) (fun _ => hcode) (fun _ k => Bool.noConfusion k)
  have mu := s.slotUse_moves (s.itemSlot x)
  generalize s.slotUse (s.itemSlot x) = u at hy mu
  have mf := u.chsFaulted_moves
  have hst := u.chsFaulted_state
  have hco := u.chsFaulted_counted
  have hso := u.chsFaulted_source
  have hua : u.au = s.au := mu.parts .au rfl
  have hva : u.chsFaulted.au = u.au := mf.parts .au rfl
  generalize u.chsFaulted = v at hy mf hst hco hso hva
  generalize hw : ({ v with au.passRetry := y } : State) = w at hy
  have mw : Moves [] [.au] v w := hw ▸ v.au_moves _
  have hwi : w.au.passItems = v.au.passItems := by rw [← hw]
  have mc := w.closed_moves
  have hwa : w.closed.au = w.au := mc.parts .au rfl
  refine ⟨w.closed, ?_, ?_, ?_, ?_, ?_⟩
  · rw [exec_autokeySaDerive hn ht, hx, hy, finish_calm _ ((mw.calm rfl).trans ((mf.calm rfl).trans ((mu.calm rfl).trans hc)))]
  · rw [State.closed_get _ rfl, mw.get rfl, hst]
  · rw [State.closed_get _ rfl, mw.get rfl, hco, mu.get rfl]
  · rw [List.contains_iff_mem]
    exact mc.sources _ (mw.sources _ hso)
  · rw [hwa, hwi, hva, hua]

/-- A derivation that meets a fault again. -/
theorem autokeySaDerive_repeated (hg : Tab.get 0 s.au.passRetry r.val ≠ 0)
    (hk : s.cakGone x (Tab.get 0 s.au.passRetry r.val) = false) :
    ∃ t, exec (.autokeySaDerive r true) s = .next t ∧ t.get CHS_ENGINE.STATE 0 = 1 ∧
      t.au.passItems = s.au.passItems.erase x ∧ t.get GAU_AUT_LAST.REASON 0 = 4 := by
  have hx := State.regionTurn_runs (fault := true) h (fun _ => hk) (fun k => absurd k hg) (fun _ k => Bool.noConfusion k)
  have mf := s.chsFaulted_moves
  have hva : s.chsFaulted.au = s.au := mf.parts .au rfl
  have md := s.chsFaulted.itemDone_moves r.val x
  obtain ⟨hi, -⟩ := s.chsFaulted.itemDone_au r.val x
  obtain ⟨t, he, hau, hr, -, hst⟩ := autFail_ends ((md.calm rfl).trans ((mf.calm rfl).trans hc)) x.sched x.dir x.sc
    (reason := 4) (by decide)
  refine ⟨t, ?_, ?_, ?_, hr⟩
  · rw [exec_autokeySaDerive hn ht, hx, State.itemRun_repeated hg, he]
  · rw [hst, md.get rfl, s.chsFaulted_state]
  · rw [hau, hi, hva]

omit hc in
/-- The engine computes a derivation without a fault. -/
theorem autokeySaDerive_ends (hg : Tab.get 0 s.au.passRetry r.val = 0) (hcode : s.itemCode x = 0)
    (hf : x.dir = .ig → s.storeFree (256 + s.itemKey x) = true) :
    exec (.autokeySaDerive r false) s = finish ((s.itemUsed r.val x).autDerive x) := by
  rw [exec_autokeySaDerive hn ht,
    State.regionTurn_runs h (fun k => absurd hg k) (fun _ => hcode) (fun hd _ => hf hd), State.itemRun_ends hg]

omit hn ht h in
theorem State.itemUsed_calm : (s.itemUsed r.val x).calm = true := ((s.itemUsed_moves r.val x).calm rfl).trans hc

/-- A key for a slot that is ACTIVE. -/
theorem autokeySaDerive_active (hg : Tab.get 0 s.au.passRetry r.val = 0) (hcode : s.itemCode x = 0)
    (ha : s.saState (s.itemKey x) = saACTIVE) (hf : x.dir = .ig → s.storeFree (256 + s.itemKey x) = true) :
    ∃ t, exec (.autokeySaDerive r false) s = .next t ∧ t.au.passItems = s.au.passItems.erase x ∧
      t.get GAU_AUT_LAST.REASON 0 = 0x0A := by
  have hd : (s.itemUsed r.val x).autDerive x = (s.itemUsed r.val x).autFail x.sched x.dir x.sc 0x0A :=
    if_pos (by rw [s.itemUsed_itemKey, s.itemUsed_saState, ha])
  obtain ⟨t, he, hau, hr, -⟩ := autFail_ends (State.itemUsed_calm (r := r) (x := x) hc) x.sched x.dir x.sc (reason := 0x0A) (by decide)
  obtain ⟨hi, -⟩ := s.itemUsed_au r.val x
  exact ⟨t, by rw [autokeySaDerive_ends hn ht h hg hcode hf, hd, he], by rw [hau, hi], hr⟩

end

end Sys2Proof.Machine
end

/-! The keys that derivations yield (R231, R234, R235, R236). -/
section
namespace Sys2Proof.Machine

/-! A transmit key is staged (R235). -/

/-- The key, SALT and SSCI of a derivation, for a channel's suite and SCI (R231). -/
def State.itemKeys (s : State) (x : PassItem) (suite sci : Nat) : List Octet × Nat × Nat :=
  autSplit suite (kdf (Tab.get [] s.ke.slotKey (s.itemSlot x)) (ascii "QX-SAK") (beBytes 8 sci ++ beBytes 8 x.epoch) (autBits suite))

/-- A derived key as it is staged. -/
def stagedOf (k : List Octet × Nat × Nat) (epoch slot : Nat) : Staged := ⟨k.1, k.2.1, k.2.2, epoch, slot, false⟩

/-- A key enters the stage of an SA. -/
def State.stagedIn (s : State) (a : Nat) (g : Staged) : State := { s with au.staged := s.au.staged.set none a (some g) }

section
variable {s : State} {x : PassItem} {a c : Nat} {g : Staged}

theorem State.stagedIn_moves (s : State) (a : Nat) (g : Staged) : Moves [] [.au] s (s.stagedIn a g) := s.au_moves _

theorem State.stagedIn_au (s : State) (a : Nat) (g : Staged) : (s.stagedIn a g).au.passItems = s.au.passItems ∧
    (s.stagedIn a g).au.autEpoch = s.au.autEpoch ∧ Tab.get none (s.stagedIn a g).au.staged a = some g :=
  ⟨rfl, rfl, Tab.get_set_self none s.au.staged a (some g)⟩

theorem State.itemUsed_keys (s : State) (r : Nat) (x : PassItem) (suite sci : Nat) :
    (s.itemUsed r x).itemKeys x suite sci = s.itemKeys x suite sci := by
  rw [State.itemKeys, s.itemUsed_slotKey, s.itemUsed_itemSlot, State.itemKeys]

/-- A transmit key is derived into the stage of its SA. -/
theorem State.autDerive_transmit (hd : x.dir = .eg) (ha : s.saState (s.itemKey x) ≠ saACTIVE) :
    s.autDerive x = (s.stagedIn (s.itemKey x) (stagedOf (s.itemKeys x (s.get SCT_TX.SUITE x.sc) (s.get SCT_TX.SCI x.sc)) x.epoch
      (s.itemSlot x))).autInstallTx x.sc := by
  obtain ⟨j, d, c, e⟩ := x
  obtain rfl : d = .eg := hd
  exact if_neg ha

theorem Moves.autTarget {fs : List Fld} {ps : List Part} {t : State} (m : Moves fs ps s t)
    (h : listed fs SCT_TX.CUR.id = false) (he : t.au.autEpoch = s.au.autEpoch) : t.autTarget c = s.autTarget c := by
  rw [State.autTarget, State.curSa, State.othSa, he, m.get h]
  rfl

theorem Moves.schW {fs : List Fld} {ps : List Part} {t : State} {j : Nat} (m : Moves fs ps s t)
    (h : listed fs GAU_SCH.W_US.id = false) : t.schW j = s.schW j := by
  rw [State.schW, m.get h, State.schW]

theorem Moves.epochStart_eq {fs : List Fld} {ps : List Part} {t : State} {j n : Nat} (m : Moves fs ps s t)
    (h0 : listed fs GAU_SCH.T0_SEC.id = false) (hP : listed fs GAU_SCH.P_SEC.id = false) :
    t.epochStart j n = s.epochStart j n := by
  rw [State.epochStart, State.schT0, State.schP, m.get h0, m.get hP]
  rfl

/-- A staged key whose window has not opened stays. -/
theorem State.autInstallTx_early (hg : Tab.get none s.au.staged (s.autTarget c) = some g)
    (hw : s.now + s.schW (s.get SCT_TX.SCHED c) < s.epochStart (s.get SCT_TX.SCHED c) g.epoch) : s.autInstallTx c = s := by
  unfold State.autInstallTx
  simp only [hg]
  exact if_neg (fun h => Nat.not_le.mpr hw h.2.2.1)

end

section
variable {s : State} {r : Region} {x : PassItem} (hc : s.calm = true) (hn : s.nextItem r.val = some x)
  (ht : s.chsTurn = some r.val) (h : s.Turns x) (hg : Tab.get 0 s.au.passRetry r.val = 0) (hcode : s.itemCode x = 0)
include hc hn ht h hg hcode

/-- A transmit key that ends well before its window opens is staged. -/
theorem autokeySaDerive_stages {k : List Octet × Nat × Nat} (hd : x.dir = .eg) (ha : s.saState (s.itemKey x) ≠ saACTIVE)
    (hw : s.now + s.schW (s.get SCT_TX.SCHED x.sc) < s.epochStart (s.get SCT_TX.SCHED x.sc) x.epoch)
    (hk : k = s.itemKeys x (s.get SCT_TX.SUITE x.sc) (s.get SCT_TX.SCI x.sc)) :
    ∃ t, exec (.autokeySaDerive r false) s = .next t ∧ t.au.passItems = s.au.passItems.erase x ∧
      Tab.get none t.au.staged (s.itemKey x) = some (stagedOf k x.epoch (s.itemSlot x)) := by
  have he := autokeySaDerive_ends hn ht h hg hcode (fun e => by rw [hd] at e; cases e)
  have mu := s.itemUsed_moves r.val x
  obtain ⟨hi, hep⟩ := s.itemUsed_au r.val x
  have hcu := State.itemUsed_calm (r := r) (x := x) hc
  have hx := State.autDerive_transmit (s := s.itemUsed r.val x) hd (by rwa [s.itemUsed_itemKey, s.itemUsed_saState])
  rw [s.itemUsed_keys, s.itemUsed_itemKey, s.itemUsed_itemSlot, mu.get rfl, mu.get rfl, ← hk] at hx
  rw [hx] at he
  have hkey : s.itemKey x = s.autTarget x.sc := by
    unfold State.itemKey
    rw [hd]
  have hge : (stagedOf k x.epoch (s.itemSlot x)).epoch = x.epoch := rfl
  generalize stagedOf k x.epoch (s.itemSlot x) = g at hge he ⊢
  generalize s.itemUsed r.val x = u at mu hi hep hcu he
  have mv := u.stagedIn_moves (s.itemKey x) g
  obtain ⟨hvi, hve, hvg⟩ := u.stagedIn_au (s.itemKey x) g
  generalize u.stagedIn (s.itemKey x) g = v at mv hvi hve hvg he
  have m : Moves (ICU_PORT.WAKE :: slotMoves) [.ke, .ic, .out, .au, .ch, .deep] s v := mu.also mv rfl rfl
  have hearly : v.autInstallTx x.sc = v := by
    refine State.autInstallTx_early (g := g) ?_ ?_
    · rw [m.autTarget rfl (hve.trans hep), ← hkey, hvg]
    · rw [m.get rfl, m.schW rfl, m.epochStart_eq rfl rfl, m.parts .now rfl, hge]
      exact hw
  rw [hearly] at he
  have hau : v.closed.au = v.au := v.closed_moves.parts .au rfl
  refine ⟨v.closed, ?_, ?_, ?_⟩
  · rw [he, finish_calm _ ((mv.calm rfl).trans hcu)]
  · rw [hau, hvi, hi]
  · rw [hau, hvg]

end

/-! A receive key is installed (R231, R235, R236). -/

/-- A derived key's AN, its first PN, its SSCI and SALT stand in its SA, its epoch noted. -/
def State.rxNoted (s : State) (x : PassItem) (b : Nat) (k : List Octet × Nat × Nat) (a : Nat) : State :=
  ((((s.set SAT_RX.AN b (x.epoch % 4)).set SAT_RX.NEXT_PN b 1).set SAT_RX.SSCI b k.2.2).set SAT_RX.SALT b k.2.1).noteEpoch
    x.sched .ig x.sc a x.epoch

section
variable {s : State} {x : PassItem} {a b c : Nat} {k : List Octet × Nat × Nat}

theorem State.autDerive_receive (hd : x.dir = .ig) (ha : s.saState (s.itemKey x) ≠ saACTIVE)
    (hk : k = s.itemKeys x (s.get SCT_RX.SUITE x.sc) (s.get SCT_RX.SCI x.sc)) :
    s.autDerive x = ((s.rxNoted x (s.itemKey x - 8192) k (s.itemKey x)).saInstall (s.itemKey x) k.1
      (s.itemSlot x + 1)).autActivateRx x.sc := by
  subst hk
  obtain ⟨j, d, c, e⟩ := x
  obtain rfl : d = .ig := hd
  exact if_neg ha

theorem State.rxNoted_moves (s : State) (x : PassItem) (b : Nat) (k : List Octet × Nat × Nat) (a : Nat) :
    Moves [SAT_RX.AN, SAT_RX.NEXT_PN, SAT_RX.SSCI, SAT_RX.SALT, GAU_SCH.EPOCH] [.au] s (s.rxNoted x b k a) :=
  ((((Moves.refl.also (s.set_moves SAT_RX.AN b _) rfl rfl).also (State.set_moves _ SAT_RX.NEXT_PN b 1) rfl rfl).also
    (State.set_moves _ SAT_RX.SSCI b _) rfl rfl).also (State.set_moves _ SAT_RX.SALT b _) rfl rfl).also
    (State.noteEpoch_moves _ x.sched x.sc x.epoch .ig a) rfl rfl

theorem State.rxNoted_fields (s : State) (x : PassItem) (b : Nat) (k : List Octet × Nat × Nat) (a : Nat) :
    (s.rxNoted x b k a).get SAT_RX.AN b = x.epoch % 4 ∧ (s.rxNoted x b k a).get SAT_RX.NEXT_PN b = 1 ∧
      (s.rxNoted x b k a).get SAT_RX.SSCI b = k.2.2 % 2 ^ SAT_RX.SSCI.width ∧
      (s.rxNoted x b k a).get SAT_RX.SALT b = k.2.1 % 2 ^ SAT_RX.SALT.width := by
  have m := fun u : State => u.noteEpoch_moves x.sched x.sc x.epoch .ig a
  refine ⟨?_, ?_, ?_, ?_⟩ <;> rw [State.rxNoted, (m _).get rfl] <;>
    simp (disch := decide) only [State.get_set_field, State.get_set_self]
  · exact Nat.mod_mod _ _
  · rfl

theorem State.rxNoted_items (s : State) (x : PassItem) (b : Nat) (k : List Octet × Nat × Nat) (a : Nat) :
    (s.rxNoted x b k a).au.passItems = s.au.passItems := rfl

theorem State.autActivateRx_moves (s : State) (c : Nat) : Moves activateMoves [.ic, .out, .retireAt] s (s.autActivateRx c) := by
  have h := fun a => (s.rxActivate_moves a).mono (fs := activateMoves) (ps := [.ic, .out, .retireAt]) rfl rfl
  exact .ite (.ite ((h _).also (State.rxArm_moves _ _ _) rfl rfl) (h _)) .refl

end

section
variable {s : State} {r : Region} {x : PassItem} {b : Nat} {k : List Octet × Nat × Nat}

/-- What the derivation of a receive key leaves. -/
theorem State.autDerive_installs (hc : s.calm = true) (hd : x.dir = .ig) (ha : s.saState (s.itemKey x) ≠ saACTIVE)
    (hb : s.itemKey x = 8192 + b) (hk : k = s.itemKeys x (s.get SCT_RX.SUITE x.sc) (s.get SCT_RX.SCI x.sc)) :
    ∃ t, finish (s.autDerive x) = .next t ∧ t.au.passItems = s.au.passItems ∧ Tab.get [] t.ke.saKey (8192 + b) = k.1 ∧
      t.get SAT_RX.NEXT_PN b = 1 ∧ t.get SAT_RX.AN b = x.epoch % 4 ∧ t.get SAT_RX.SALT b = k.2.1 % 2 ^ SAT_RX.SALT.width ∧
      t.get SAT_RX.SSCI b = k.2.2 % 2 ^ SAT_RX.SSCI.width := by
  have hx := State.autDerive_receive hd ha hk
  rw [hb, Nat.add_sub_cancel_left] at hx
  have mn := s.rxNoted_moves x b k (8192 + b)
  obtain ⟨hAN, hPN, hSSCI, hSALT⟩ := s.rxNoted_fields x b k (8192 + b)
  have hit := s.rxNoted_items x b k (8192 + b)
  generalize s.rxNoted x b k (8192 + b) = u at hx mn hAN hPN hSSCI hSALT hit
  have mi := u.saInstall_moves (8192 + b) k.1 (s.itemSlot x + 1)
  have hci := State.saInstall_calm ((mn.calm rfl).trans hc) (8192 + b) k.1 (s.itemSlot x + 1)
  have hki := u.saInstall_key (8192 + b) k.1 (s.itemSlot x + 1)
  generalize u.saInstall (8192 + b) k.1 (s.itemSlot x + 1) = v at hx mi hci hki
  have ma := v.autActivateRx_moves x.sc
  generalize v.autActivateRx x.sc = w at hx ma
  have hau : w.closed.au = u.au := ((w.closed_moves.parts .au rfl).trans (ma.parts .au rfl)).trans (mi.parts .au rfl)
  have hke : w.closed.ke = v.ke := (w.closed_moves.parts .ke rfl).trans (ma.parts .ke rfl)
  have hget : ∀ f ∈ [SAT_RX.AN, SAT_RX.NEXT_PN, SAT_RX.SSCI, SAT_RX.SALT], w.closed.get f b = u.get f b := by
    have hf : ∀ f ∈ [SAT_RX.AN, SAT_RX.NEXT_PN, SAT_RX.SSCI, SAT_RX.SALT],
        closeMoves f = false ∧ listed activateMoves f.id = false ∧ listed saInstallMoves f.id = false := by decide
    intro f hm
    obtain ⟨h1, h2, h3⟩ := hf f hm
    rw [State.closed_get _ h1, ma.get h2, mi.get h3]
  refine ⟨w.closed, ?_, by rw [hau, hit], by rw [hke, hki], ?_, ?_, ?_, ?_⟩
  · rw [hx, finish_calm _ ((ma.calm rfl).trans hci)]
  · rw [hget _ (by simp), hPN]
  · rw [hget _ (by simp), hAN]
  · rw [hget _ (by simp), hSALT]
  · rw [hget _ (by simp), hSSCI]

/-- A receive key that the key store takes is installed. -/
theorem autokeySaDerive_installs (hc : s.calm = true) (hn : s.nextItem r.val = some x) (ht : s.chsTurn = some r.val)
    (h : s.Turns x) (hg : Tab.get 0 s.au.passRetry r.val = 0) (hcode : s.itemCode x = 0) (hd : x.dir = .ig)
    (hb : s.itemKey x = 8192 + b) (ha : s.get SAT_RX.STATE b ≠ saACTIVE) (hf : s.storeFree (256 + s.itemKey x) = true)
    (hk : k = s.itemKeys x (s.get SCT_RX.SUITE x.sc) (s.get SCT_RX.SCI x.sc)) :
    ∃ t, exec (.autokeySaDerive r false) s = .next t ∧ t.au.passItems = s.au.passItems.erase x ∧
      Tab.get [] t.ke.saKey (8192 + b) = k.1 ∧ t.get SAT_RX.NEXT_PN b = 1 ∧ t.get SAT_RX.AN b = x.epoch % 4 ∧
      t.get SAT_RX.SALT b = k.2.1 % 2 ^ SAT_RX.SALT.width ∧ t.get SAT_RX.SSCI b = k.2.2 % 2 ^ SAT_RX.SSCI.width := by
  have he := autokeySaDerive_ends hn ht h hg hcode (fun _ => hf)
  have mu := s.itemUsed_moves r.val x
  obtain ⟨hi, -⟩ := s.itemUsed_au r.val x
  have hsa : s.saState (s.itemKey x) ≠ saACTIVE := by
    rw [hb, State.saState, if_neg (by omega), Nat.add_sub_cancel_left]
    exact ha
  obtain ⟨t, hx, hti, hr⟩ := State.autDerive_installs (s := s.itemUsed r.val x) (x := x) (b := b) (k := k)
    (State.itemUsed_calm hc) hd (by rwa [s.itemUsed_itemKey, s.itemUsed_saState]) (by rw [s.itemUsed_itemKey, hb])
    (by rw [s.itemUsed_keys, mu.get rfl, mu.get rfl, hk])
  exact ⟨t, he.trans hx, by rw [hti, hi], hr⟩

end

/-! A pass ends (R228, R232). -/

theorem autokeyPassComplete_ends {s : State} {j : Fin 256} (hc : s.calm = true) (h0 : Tab.get 0 s.au.passStart j.val ≠ 0)
    (hi : s.au.passItems.all (fun x => x.sched != j.val) = true) :
    ∃ t, exec (.autokeyPassComplete j) s = .next t ∧ Tab.get 0 t.au.passStart j.val = 0 ∧
      t.get GAU_SCH.LAST_PASS_US j.val = min ((s.mono + 1 - Tab.get 0 s.au.passStart j.val) / us) 65535 := by
  generalize hd : (s.mono + 1 - Tab.get 0 s.au.passStart j.val) / us = d
  generalize hu : ({ s with au.passStart := s.au.passStart.set 0 j.val 0, au.passed := insertNat j.val s.au.passed } : State) = u
  have mu : Moves [] [.au] s u := hu ▸ s.au_moves _
  have hp : Tab.get 0 u.au.passStart j.val = 0 := by
    rw [← hu]
    exact Tab.get_set_self 0 s.au.passStart j.val 0
  have hx : s.passEnd j.val = u.set GAU_SCH.LAST_PASS_US j.val (min d 65535) := by
    rw [State.passEnd, if_pos ⟨h0, hi⟩, ← hd, ← hu]
  have ms := u.set_moves GAU_SCH.LAST_PASS_US j.val (min d 65535)
  have hau : (u.set GAU_SCH.LAST_PASS_US j.val (min d 65535)).closed.au = u.au :=
    ((State.closed_moves _).parts .au rfl).trans (ms.parts .au rfl)
  refine ⟨(u.set GAU_SCH.LAST_PASS_US j.val (min d 65535)).closed, ?_, by rw [hau, hp], ?_⟩
  · change finish (s.passEnd j.val) = _
    rw [hx, finish_calm _ ((ms.calm rfl).trans ((mu.calm rfl).trans hc))]
  · rw [State.closed_get _ rfl, State.get_set_self]
    exact Nat.mod_eq_of_lt (Nat.lt_of_le_of_lt (Nat.min_le_right _ _) (by decide))

/-! Autonomous keying. -/

theorem State.turns_of {s : State} {x : PassItem} (hs : s.get CHS_ENGINE.STATE 0 = 0)
    (he : Tab.get 0 s.au.autEpoch (scKey x.dir x.sc) ≤ x.epoch) : s.Turns x := ⟨Nat.not_lt.mpr he, hs⟩

/-- Settles O30, by the commands of schedules, the derivations of a region's turn, and the instants of each channel. -/
theorem autonomousKeying : Obligations.AutonomousKeying := by
  refine ⟨⟨fun s p j v n hw => ⟨fun hn hv => ⟨fun hf => scheduleValidSet_starts hw hn hv hf,
      fun hf => scheduleValidSet_refused hw hn hv hf⟩, fun hn hv => ⟨fun hl => scheduleValidClear_stops hw hn hv hl,
      fun hl => scheduleValidClear_refused hw hn hv hl⟩⟩, fun s j => scheduleFirstPass_begins, fun s p j => resync_begins⟩,
    ⟨?_, fun s j => autokeyPassComplete_ends⟩,
    fun s c g a => epochInstallInstant_transmit, fun s c n m j hc hj hn hm => epochInstallInstant_receive hc hj hn hm,
    fun s c e => epochSwitchInstant_switches⟩
  intro s r x hc hn ht hs he
  have h := State.turns_of hs he
  refine ⟨fun hg hcode => autokeySaDerive_refused hc hn ht h hg hcode, fun hg hcode => autokeySaDerive_faults hc hn ht h hg hcode,
    fun hg hk => autokeySaDerive_repeated hc hn ht h hg hk,
    fun hg hcode ha hf => autokeySaDerive_active hc hn ht h hg hcode ha hf,
    fun k hg hcode hd ha hw hk => autokeySaDerive_stages hc hn ht h hg hcode hd ha hw hk,
    fun k b hg hcode hd hb ha hf hk => autokeySaDerive_installs hc hn ht h hg hcode hd hb ha hf hk⟩

end Sys2Proof.Machine
end
